-- ==== Sys2Proof/Word.lean ====
section
/-! DEFINITION. The word types of the node (R3, R4): a register is 32 bits wide, a signal or a time value 64, memory is
addressed by the byte. -/

namespace Sys2Proof

/-- A byte of memory or of a frame. -/
abbrev Byte := BitVec 8
/-- A 16-bit value: an event code, a port number, an EtherType. -/
abbrev Half := BitVec 16
/-- A 32-bit register (R4). -/
abbrev Word := BitVec 32
/-- A 64-bit value (R6): a signal, a time, a digest. -/
abbrev DWord := BitVec 64
/-- An Ethernet MAC address; bit 40 is the group bit of the first byte in transmission order. -/
abbrev Mac := BitVec 48
/-- An IPv4 address. -/
abbrev Ip := BitVec 32

end Sys2Proof
end

