-- ==== Sys2Proof/Syntax.lean ====
section
/-! DEFINITION. The commands of the node: one constructor of `Instr` per row of spec/opcode_table.json, in the table's order.
The table gives a row no bits, so a command is an operation with its operands. An operand holds what the spec leaves to the
world outside the digital core and what the core cannot compute from its own state: who asks, the address and the data of an
access, the content of an arriving frame, a measured quantity, the time left to an instant, the outcome of a signature check. -/

namespace Sys2Proof

/-! ### Who asks -/

/-- The initiators of register accesses that hold a 64-bit latch of their own (R91). -/
inductive Initiator where
  | host | maint | odServer
  deriving DecidableEq, Repr

/-- The session an object-dictionary request or an update step belongs to, by its path (R479, R521, R526): mailboxes 0 to 3 of the host, 4
to 7 of the remote service, and the others told apart by `conn`, `src` and `press`. `register` is the register path of updates. -/
inductive Path where
  | hostMailbox (m : Fin 4)
  | remoteMailbox (m : Fin 4)
  | maint (conn : Nat)
  | trdp (src : Ip)
  | sdo (press : Fin 16)
  | type15 (press : Fin 16) (conn : Nat)
  | register
  deriving DecidableEq, Repr

/-! ### Frames and telegrams -/

/-- A tag with TPID 0x8100 (R151). -/
structure VlanTag where
  vid : BitVec 12
  pcp : BitVec 3
  dei : Bool
  deriving DecidableEq, Repr, Inhabited

/-- The IPv4 header fields, and the ports and checksum behind it, that the node looks at (R159, R241). -/
structure Ipv4 where
  src : Ip
  dst : Ip
  proto : Byte
  ttl : Byte
  ihl : BitVec 4
  checksumOk : Bool
  fragOfs : BitVec 13
  srcPort : BitVec 16
  dstPort : BitVec 16
  l4sum : BitVec 16
  deriving DecidableEq, Repr, Inhabited

/-- A PTP message as the transparent clock sees it (R361 to R363). `ip` is the IPv4 header that carries it; none for Layer 2. `sdoId` is
majorSdoId; `rateRatio` is the cumulative rate ratio that a Sync of IEEE 802.1AS carries, as a two's complement offset in units of 2⁻⁴¹. -/
structure PtpMsg where
  version : BitVec 4
  sdoId : BitVec 4
  msgType : BitVec 4
  domain : Byte
  ip : Option Ipv4
  correction : DWord
  rateRatio : Word
  deriving DecidableEq, Repr, Inhabited

/-- What follows the MAC addresses and the tag of a frame. -/
inductive FrameBody where
  | ipv4 (h : Ipv4)
  | ptp (m : PtpMsg)
  | other
  deriving DecidableEq, Repr, Inhabited

/-- An Ethernet frame. `len` counts its bytes from the destination address to the FCS, tag included (R149, R182); `data` holds
the bytes that the other fields do not spell. -/
structure Frame where
  dst : Mac
  src : Mac
  tag : Option VlanTag
  etype : BitVec 16
  len : Nat
  body : FrameBody
  data : List Byte
  deriving DecidableEq, Repr, Inhabited

/-- What the receiving port found wrong with a frame (R183). -/
structure RxFlags where
  truncated : Bool
  symbolErr : Bool
  fcsErr : Bool
  deriving DecidableEq, Repr

/-- The TRDP message types (R240); `unknown` stands for any other value, `pe` for the one the engine discards. -/
inductive TrdpType where
  | pd | pr | pp | pe | mn | mr | mp | mq | mc | me | unknown
  deriving DecidableEq, Repr

/-- A TRDP telegram with its addressing (R240, R251, R258, R261). `headerOk` says that the UDP checksum (or its absence) and
the header FCS are good; `frameLongEnough` that the frame holds `dsLen` bytes of dataset. -/
structure Telegram where
  msgType : TrdpType
  version : Byte
  headerOk : Bool
  frameLongEnough : Bool
  src : Ip
  dst : Ip
  comId : Word
  seq : Word
  etbTopo : Word
  opTopo : Word
  dsLen : Nat
  data : List Byte
  replyComId : Word
  replyIp : Ip
  sessionId : BitVec 128
  deriving DecidableEq, Repr

/-- One consist as a TTDP connectivity table reports it (R214, R218). -/
structure ConsistInfo where
  mac : Mac
  orient : Bool
  lineA : Bool
  lineB : Bool
  deriving DecidableEq, Repr

/-- A TTDP frame (R214 to R216). -/
inductive TtdpMsg where
  /-- HELLO of the neighbour on that line; `info` when it carries orientation and line presence too (R224). -/
  | hello (mac : Mac) (info : Option ConsistInfo) (formatOk : Bool)
  /-- TOPOLOGY: the sender, its connectivity table in train order, and the counter it reports (0 when it has none). -/
  | topology (mac : Mac) (table : List ConsistInfo) (counter : Word) (formatOk : Bool)
  deriving DecidableEq, Repr

/-- A CAN frame as the identifier, format bits and data that a controller handles (R302, R307). -/
structure CanFrame where
  ide : Bool
  fdf : Bool
  brs : Bool
  esi : Bool
  rtr : Bool
  id : BitVec 29
  dlc : BitVec 4
  data : List Byte
  deriving DecidableEq, Repr

/-! ### Measurements -/

/-- Why the PHY or PCS of a port offers no usable link (R190, R192, R202). -/
inductive LinkFailure where
  | mode | role | halfDuplex | speed
  deriving DecidableEq, Repr

/-- What a PHY reports with its link (R194, R210). -/
structure PhyInfo where
  speed : BitVec 3
  master : Bool
  mdix : Bool
  half : Bool
  anDone : Bool
  sqi : BitVec 3
  localRxOk : Bool
  remoteRxOk : Bool
  deriving DecidableEq, Repr

/-- What the output island measures on one channel: its mean current in µA, its output voltage in mV, junction minus baseplate (R413, R423). -/
structure ChannelSample where
  limiting : Bool
  current : Nat
  outMv : Nat
  dt : Byte
  /-- Clamp energy in µJ if this update turns the channel off (R421). -/
  energy : Nat
  deriving DecidableEq, Repr

/-- The channels and the supplies, in mV, at one sample of an averaging interval (R428). -/
structure LoadSample where
  channels : List (Fin 24 × ChannelSample)
  vloadA : Nat
  vloadB : Nat
  deriving DecidableEq, Repr

/-- Result of a scrub read or a memory check of one word (R137, R170, R348). -/
inductive EccResult where
  | clean | corrected | uncorrectable
  deriving DecidableEq, Repr

/-- One finding of a scrub pass over a two-bank table: the bank, the entry, the word, and what was found. -/
structure ScrubFinding where
  inForce : Bool
  entry : Nat
  word : Fin 8
  result : EccResult
  deriving DecidableEq, Repr

/-- Which of the three stores a Blend scrub finding is in (R348). -/
inductive BlendStore where
  | entry | job | signal
  deriving DecidableEq, Repr

/-- What the peer-delay exchanges of a port have measured (R361, R364): the mean link delay in units of 2⁻¹⁶ ns, and the neighbour's rate ratio as an
offset in units of 2⁻⁴¹. -/
structure LinkDelay where
  port : Fin 16
  mean : DWord
  ratio : Word
  deriving DecidableEq, Repr

/-! ### The Vintage -/

/-- A known topology (R222): its tag, its shape, and its bank of group 0x21, by address, with the next-hop MAC of each listed
route (route index, consist number) left open. -/
structure KnownTopology where
  tag : Fin 16
  consists : Nat
  own : Nat
  orient : Bool
  bank : List (Nat × Word)
  openHops : List (Fin 256 × Nat)
  deriving DecidableEq, Repr

/-- A Graft variant (R222): a consist coupled on or uncoupled at train end 1 or 2 leads from the source tag to the target tag. -/
structure GraftVariant where
  source : Fin 16
  coupled : Bool
  atEnd2 : Bool
  target : Fin 16
  deriving DecidableEq, Repr

/-- A device of the own consist as the Vintage lists it (R219, R236). -/
structure DeviceInfo where
  host : BitVec 20
  localIp : Ip
  mac : Mac
  vid : BitVec 12
  deriving DecidableEq, Repr

/-- What a Vintage compiles for one Press that runs an image: its bytes in the Press's SRAM, and the least WIN_LEN its role needs (R268, R297). -/
structure PressConfig where
  press : Fin 16
  bytes : List Byte
  winLen : Nat
  /-- The node-ID of an image of EN 50325-4 (R486). -/
  nodeId : Fin 128
  deriving DecidableEq, Repr

/-- One section of a Vintage (R516): what it loads. -/
inductive VintageSection where
  /-- Configuration words of a block, by BAR0 address: SH fields, and the immediate fields a Vintage sets. -/
  | config (block : Fin 16) (words : List (Nat × Word))
  /-- Signals: the initial value, and the initial SFMT, true for float (R331, R349). -/
  | signals (values : List (Fin 262144 × DWord × Bool))
  /-- The tag of the start shape (R232), the known topologies and the Graft variants (R222), the own consist's devices (R220), the
  backbone VLAN and the route entries for destinations outside the train, by address (R221). -/
  | topologies (start : Fin 16) (known : List KnownTopology) (variants : List GraftVariant) (devices : List DeviceInfo)
      (backboneVid : BitVec 12) (outside : List (Nat × Word))
  /-- A Press image: identifier, version, security version number, section digest, code, and the configurations of the Presses that run it. -/
  | image (id version svn : BitVec 16) (digest : BitVec 256) (code : List Byte) (configs : List PressConfig)
  /-- The register map of Type 15, entry by index and subindex (R487, R516), and the remote peers of OD 0x1130.02 to .10 (R474, R490; the section they
  stand in is a DESIGN CHOICE, log entry 88). -/
  | dictionary (map : List (Fin 1024 × Half × Byte)) (peers : List (Fin 15 × Ip))
  /-- The Vintner firmware the Vintage carries. -/
  | firmware (svn : BitVec 16) (digest : BitVec 256)
  deriving DecidableEq, Repr

/-- What a Vintage's header says, as far as the node uses it (R516): version, security version, pair compatibility number, signing
owner slot, digest of the signed region, and the SVNs of its firmware and image sections by anti-rollback counter (R518) with the
digest of its firmware section. -/
structure VintageHeader where
  version : Word
  svn : Nat
  compat : Word
  keySlot : Fin 4
  digest : BitVec 256
  svns : List (Nat × Nat)
  fwDigest : Option (BitVec 256)
  deriving DecidableEq, Repr

/-- What the checks of R517 find that the node cannot tell from its own state: reasons 1, 6, 2, 3, 4 and 7, in their order. -/
inductive VintageFault where
  | header | layout | ed25519 | mldsa | digest | release
  deriving DecidableEq, Repr

/-! ### Host and bus -/

/-- The three base address regions (R86). -/
inductive Bar where
  | bar0 | bar2 | bar4
  deriving DecidableEq, Repr

/-- How the far side answered an access through a field window or an aperture, or that it did not (R384, R392). -/
inductive FarReply where
  /-- Data, with the bytes of a prefetch behind those asked for, and whether the prefetched part had a side effect (R391). -/
  | data (bytes : List Byte) (sideEffect : Bool)
  /-- A part fails: how many parts before it are complete, and the bytes that they read (R386). -/
  | error (done : Nat) (bytes : List Byte)
  | timeout
  deriving DecidableEq, Repr

/-- A transmit descriptor with the frame bytes its buffer holds, as fetched from host memory (R401). -/
structure TxDesc where
  own : Bool
  sof : Bool
  eof : Bool
  tsReq : Bool
  len : Nat
  /-- The host address of a read of the descriptor or of its buffer that completed with an error (R393). -/
  failedAt : Option DWord
  deriving DecidableEq, Repr

/-- A device read that fails (R393): one of a host container, or one of a transmit ring, with the descriptors already fetched of its frame. -/
inductive DeviceRead where
  | container (c : Fin 64)
  | fetch (descs : List TxDesc)
  deriving DecidableEq, Repr

/-- What software writes in PCIe configuration space beside Bus Master Enable and the power state: the base addresses of BAR0, BAR2 and BAR4, the
maximum payload and read request sizes in bytes, the MSI-X Enable and Function Mask bits, and the words of the Advanced Error Reporting
capability by offset (R378, R394). Their reset values are PCIe's (PRESUMED, log entry 84). -/
structure PcieConfig where
  bar0 : Word := 0
  bar2 : Word := 0
  bar4 : Word := 0
  maxPayload : Nat := 128
  maxRead : Nat := 512
  msixEnable : Bool := false
  functionMask : Bool := false
  aer : List (Nat × Word) := []
  deriving DecidableEq, Repr

/-- What a Blend job reads from a host container: header SEQ, header FRONT, and the front buffer (R339). A container that is not
listed gave no readable answer. -/
structure HostRead where
  container : Fin 64
  seq : Word
  front : Bool
  data : List Byte
  deriving DecidableEq, Repr

/-- The initiators of the fabric wheel (R139). -/
inductive FabricOwner where
  | blend
  /-- Press `p`, while the Presses of the mask have requests pending (R271). -/
  | press (p : Fin 16) (pending : BitVec 16)
  | pdf | host | vintner | red | test
  deriving DecidableEq, Repr

/-- What an image does with the pins of its line units and controllers (R280, R297, R303). -/
inductive FieldDrive where
  /-- A transmission: DE rises `delayNs` after the command, and TXD runs through `levels`, bit by bit, half bit by half bit in Manchester framing,
  framing overhead included. -/
  | burst (unit : Fin 32) (delayNs : Nat) (levels : List Bool)
  /-- Static levels of TXD and DE: the attachment controls of image 0x0002. -/
  | hold (unit : Fin 32) (txd de : Bool)
  /-- The level of CANc_STB. -/
  | stb (ctrl : Fin 8) (high : Bool)
  /-- The data of a controller's next reference message (R323). -/
  | refData (ctrl : Fin 8) (data : List Byte)
  deriving DecidableEq, Repr

/-- What the CAN buses show at a base-cycle start: the controllers whose bus is in the middle of a frame (R325), and, by controller, how many times 11
consecutive recessive bits have occurred since its recovery began (R321). -/
structure BusView where
  frames : BitVec 8
  recessive : List Nat
  deriving DecidableEq, Repr

/-- The targets of the fabric (R140). -/
inductive FabricTarget where
  | signals | pressImages | canBuffers | datasets | outputs | odEngine
  deriving DecidableEq, Repr

/-- The kinds of ISO 11898-1 error a controller detects (R318). -/
inductive CanError where
  | stuff | form | ack | bit1 | bit0 | crc
  deriving DecidableEq, Repr

/-- What a Racking link control word carries beside renewals, digests and resignations (R441, R446, R460, R461). -/
inductive RackControl where
  /-- A link report of a logical backbone port. -/
  | link (port : Fin 4) (up : Bool) (leadNs : Nat)
  /-- The partner's STATE, its UNIT, and whether its Dormancy conditions hold. -/
  | state (st : Fin 16) (unit dormOk : Bool)
  /-- The partner's Ed25519 identity public key, byte 0 first (R443). -/
  | identity (key : List Byte)
  /-- Groups of a commit set whose blocks are not idle on the partner (R450). -/
  | busy (groups : List Nat)
  /-- The partner asks for a bulk copy (R448), or for state frames again that failed their CRC (R447). -/
  | bulk
  | again
  /-- A swap is proposed. -/
  | swap
  /-- Dormancy entry at the next base-cycle start, and its abort by a wake. -/
  | dormEnter | dormAbort
  deriving DecidableEq, Repr

/-- The Press fault causes (R292). -/
inductive PressFaultCause where
  | sram | imageException
  /-- A corrected SRAM error: no fault (R270). -/
  | sramCorrected
  deriving DecidableEq, Repr

/-- The boundary-scan instructions (R540). The spec names no codes for them. -/
inductive TapCode where
  | bypass | idcode | samplePreload | extest | clamp | highz
  deriving DecidableEq, Repr

/-- The commands: one constructor per row of spec/opcode_table.json. -/
inductive Instr where
  /-- REGISTER_WRITE: A host or maintenance write to a register or immediate field that has no row of its own takes effect as its access code
  states (R4) -/
  | registerWrite (by_ : Initiator) (addr : Nat) (v : Word)
  /-- PARTIAL_WRITE: A register write narrower than 32 bits is discarded, counted in CNT_PARTIAL_WR and recorded as event 0x0013 (R89) -/
  | partialWrite (by_ : Initiator) (addr size : Nat) (v : Half)
  /-- RC_COUNTER_READ: A read of an RC counter returns its value and clears it, and an event in the same clock is counted from 1 afterwards (R92) -/
  | rcCounterRead (by_ : Initiator) (addr : Nat) (sameClock : Bool)
  /-- LOW_WORD_READ: A read of the low word of a 64-bit value latches the high word for the reading initiator (R91) -/
  | lowWordRead (by_ : Initiator) (addr : Nat)
  /-- TABLE_WORD0_READ: A read of word 0 of an entry in a latching table window latches the entry's other words for the initiator (R173) -/
  | tableWord0Read (by_ : Initiator) (addr : Nat)
  /-- TIME_LO_READ: A read of TIME_LO of a time view latches TIME_HI, BASE, ANCHOR and RATE of that view for the initiator (R356) -/
  | timeLoRead (by_ : Initiator) (view : Fin 3)
  /-- VBATT_OVERVOLTAGE: VBATT rises above 36.0 V and orderly shutdown begins with cause overvoltage (R44) -/
  | vbattOvervoltage (mv : Half)
  /-- OVERVOLTAGE_TIMEOUT: VBATT has stayed between 30.0 V and 36.0 V for more than 1 s and orderly shutdown begins with cause overvoltage (R44) -/
  | overvoltageTimeout (mv : Half)
  /-- DIP_START: VBATT falls below 16.8 V, the dip timer starts and event 0x0D20 is recorded (R46) -/
  | dipStart (mv : Half)
  /-- DIP_END: VBATT has stayed at or above 17.2 V for 2 ms, so the dip timer resets, CNT_DIP counts and event 0x0D21 is recorded (R46) -/
  | dipEnd (ms lowestMv : Nat) (mv : Half)
  /-- DIP_TIMEOUT: The dip timer reaches 250 ms and orderly shutdown begins with cause dip timeout (R46) -/
  | dipTimeout
  /-- INTERRUPTION_START: VBATT first falls below 4.5 V, the node runs from HOLDUP and the 10 ms interruption window starts (R48) -/
  | interruptionStart (mv : Half)
  /-- INTERRUPTION_RIDDEN_THROUGH: VBATT reaches 6.0 V or more within the window, so the interruption ends, CNT_INTERRUPT counts and event 0x0D22
  is recorded (R48) -/
  | interruptionRiddenThrough (mv : Half)
  /-- INTERRUPTION_WINDOW_EXPIRY: The 10 ms interruption window expires without recovery and orderly shutdown begins with cause interruption (R48)
  -/
  | interruptionWindowExpiry
  /-- HOLDUP_READY: HOLDUP reaches 33.0 V and HOLDUP_RDY sets (R49) -/
  | holdupReady (mv : Half)
  /-- HOLDUP_NOT_READY: HOLDUP falls below 33.0 V and HOLDUP_RDY clears (R49) -/
  | holdupNotReady (mv : Half)
  /-- HOLDUP_RESERVE: HOLDUP reaches 16.0 V while it supplies the node and orderly shutdown begins with cause reserve (R49) -/
  | holdupReserve (mv : Half)
  /-- BASEPLATE_88C: The baseplate sensor reaches 88 °C and event 0x0D25 is recorded once per excursion (R30) -/
  | baseplate88c (t : Half)
  /-- BASEPLATE_95C: The baseplate sensor reaches 95 °C and orderly shutdown begins with cause thermal (R30) -/
  | baseplate95c (t : Half)
  /-- SHUTDOWN_POWER_DOWN: Once the Cellar Book flush of shutdown completes the islands power down, output island last, and all pins take their
  unpowered states (R51) -/
  | shutdownPowerDown
  /-- POWER_GOOD: VBATT has stayed at or above 18.0 V for 100 ms, power-good asserts, HOST_SEL is sampled and start-up begins (R45) -/
  | powerGood (hostSelHigh : Bool) (baseplate : Half)
  /-- HOST_BRIDGE_RELEASE: The PLLs have locked and the host bridge leaves reset 10 ms after power-good with its BARs at their fixed sizes (R69) -/
  | hostBridgeRelease
  /-- FIRMWARE_VERIFIED: The vault finishes verifying a Vintner firmware copy with both signatures and starts it, or tries the other copy (R65) -/
  | firmwareVerified (copy : Fin 2) (edOk mldsaOk : Bool) (svn : Word) (digest : BitVec 256) (storeAOk storeBOk : Bool)
  /-- MEMORY_TEST_DONE: The power-on memory test completes and every block whose memory failed is held in reset with event 0x0D06 (R70) -/
  | memoryTestDone (failed : List (Fin 16 × Nat))
  /-- VINTAGE_SECTION_ARRIVED: A Vintage section has streamed in, is loaded speculatively into its island and its digest is checked against the
  header (R67) -/
  | vintageSectionArrived (sec : VintageSection) (digestOk : Bool)
  /-- VINTAGE_SIGNATURES_DONE: Both Vintage signatures have been checked and every digest matches, so commit is scheduled for the next base-cycle
  boundary (R67) -/
  | vintageSignaturesDone (why : Option VintageFault) (header : VintageHeader)
  /-- START_UP_COMMIT: At the base-cycle boundary after verification all commit groups are committed together, START_PHASE becomes committed and
  event 0x0D02 is recorded (R67) -/
  | startUpCommit
  /-- RST_CMD_WARM: A write of RST_CMD.WARM with the key flushes the Cellar Book queue and causes a warm reset (R73) -/
  | rstCmdWarm (by_ : Initiator) (key : Half)
  /-- VINTNER_WATCHDOG_EXPIRY: The Vintner watchdog expires 100 ms after its last service and causes a warm reset (R465) -/
  | vintnerWatchdogExpiry
  /-- LOCKSTEP_MISMATCH: The lockstep cores' outputs differ and a warm reset follows (R465) -/
  | lockstepMismatch
  /-- VINTNER_SRAM_ERROR: An uncorrectable Vintner SRAM error halts the processor so that its watchdog expires (R465) -/
  | vintnerSramError (correctable : Bool)
  /-- WARM_RESET_COMMIT: The reloaded Vintage commits within 230 ms of the reset cause, CNT_WARM_RESET counts and event 0x0D07 is recorded (R75) -/
  | warmResetCommit
  /-- PCIE_PERST: PCIE_PERST_N is asserted and the host bridge is reset (R73) -/
  | pciePerst
  /-- PCIE_HOT_RESET: A PCIe hot reset is received and the host bridge is reset (R379) -/
  | pcieHotReset
  /-- FUNCTION_LEVEL_RESET: A PCIe function-level reset is received and the host bridge is reset (R379) -/
  | functionLevelReset
  /-- PCIE_LINK_LOSS: The PCIe link goes down and the host bridge is reset (R379) -/
  | pcieLinkLoss
  /-- HBR_CMD_RESET: With QSPI selected a keyed write of HBR_CMD.RESET resets the host bridge after the write completes (R405) -/
  | hbrCmdReset (by_ : Initiator) (key : Half)
  /-- DORM_CTRL_ENTER: A Dormancy request is checked against its six conditions and either accepted or refused with a REFUSE code and event 0x0D09
  (R78) -/
  | dormCtrlEnter
  /-- DORMANCY_ENTRY_START: At the base-cycle boundary after acceptance the Trellis stops issuing, flows stop and Presses disable their line
  drivers (R79) -/
  | dormancyEntryStart
  /-- DORMANCY_RECORD_FLUSH: Two milliseconds into entry event 0x0D08 is recorded and the Cellar Book queue is flushed (R79) -/
  | dormancyRecordFlush
  /-- DORMANCY_BYPASS_RELEASE: Five milliseconds into entry both bypass drivers release and the relays close (R79) -/
  | dormancyBypassRelease
  /-- DORMANCY_POINT_OF_NO_RETURN: Ten milliseconds into entry the islands power down, output island last, and the enabled wake detectors are
  armed (R79) -/
  | dormancyPointOfNoReturn
  /-- DORMANCY_REACHED: Power-down is complete and only the wake island draws from VBATT, or a latched wake begins at once (R79) -/
  | dormancyReached
  /-- DORMANCY_LOST: VBATT falls below 4.5 V in Dormancy and the node loses Dormancy (R54) -/
  | dormancyLost
  /-- WAKE_IN_ASSERT: WAKE_IN_N is held low for at least 2 ms with IN_EN set and is latched as a wake event (R81) -/
  | wakeInAssert (vbattMv : Nat)
  /-- WAKE_PATTERN_MATCH: A backbone wake detector completes a match of the code 0b1011_0010 and raises a wake event (R200) -/
  | wakePatternMatch (n : Fin 4) (samples : List Bool) (vbattMv : Nat)
  /-- WAKE_RUN_START: Exactly 250 ms after the wake the node commits, CNT_WAKE counts and event 0x0D0B is recorded (R82) -/
  | wakeRunStart
  /-- COMMIT_GO: A write of GO to a group's COMMIT starts validation of its shadow set and locks the group (R96) -/
  | commitGo (by_ : Initiator) (group : Nat)
  /-- COMMIT_VALIDATED: Validation completes within 20 µs and either refuses with CODE and COMMIT_INFO and event 0x0011, or sets PENDING (R96) -/
  | commitValidated (group leadNs : Nat)
  /-- COMMIT_ABORT: A write of ABORT reloads the shadow set from the values in force, sets CODE 0x07 and withdraws any running or pending commit
  (R98) -/
  | commitAbort (group : Nat)
  /-- IDLE_COMMIT_TAKE_EFFECT: A pending idle-bound group takes effect as soon as its block is idle (R96) -/
  | idleCommitTakeEffect (group : Nat)
  /-- IDLE_COMMIT_TIMEOUT: An idle-bound block has not become idle within 100 ms and the commit is refused with code 0x0B (R96) -/
  | idleCommitTimeout (group : Nat)
  /-- MC_COMMIT_GO: A write of MC_COMMIT.GO validates up to 32 listed groups as one set and locks them all (R99) -/
  | mcCommitGo (by_ : Initiator) (leadNs : Nat)
  /-- MC_COMMIT_ABORT: An ABORT to MC_COMMIT or to a listed group withdraws the whole multi-group set with code 0x07 (R99) -/
  | mcCommitAbort
  /-- MC_COMMIT_TIMEOUT: A validated multi-group set is still not applied 100 ms after GO and is refused with code 0x0B (R99) -/
  | mcCommitTimeout
  /-- SCHEDULE_BANK_COPY_DONE: The 16.384 µs copy of the schedule bank in force into the shadow bank ends and TBL_BUSY clears (R135) -/
  | scheduleBankCopyDone
  /-- BLEND_BANK_COPY_DONE: The 98.304 µs copy of the Blend bank in force into the shadow bank ends and TBL_BUSY clears (R349) -/
  | blendBankCopyDone
  /-- BASE_CYCLE_START: A new base cycle starts at ORIGIN plus a whole number of BASE_CYCLE, CYCLE_IDX and BCNT advance and the racking point of
  the previous cycle occurs (R106) -/
  | baseCycleStart (bus : BusView)
  /-- GATE_WINDOW_OPEN: A GATE entry takes effect and the port's gates follow the entry's mask for its window (R123) -/
  | gateWindowOpen (entry : Nat)
  /-- GATE_WINDOW_CLOSE: A GATE window closes and the port's gates return to its base mask (R123) -/
  | gateWindowClose (entry : Nat)
  /-- PD_TX: A PD_TX action makes an active publisher increment SEQ, build its Pd telegram from the front buffer and hand it to PP (R248) -/
  | pdTx (entry : Nat)
  /-- BLEND_JOB: A BLEND_JOB action runs the job's reads, IN moves, OUT moves and container writes in order (R343) -/
  | blendJob (entry : Nat) (inconsistent : List Nat) (hostReads : List HostRead)
  /-- PRESS_START: A PRESS_START action begins one protocol cycle of a Press, passes its cycle selector and copies the output front buffer (R127) -/
  | pressStart (entry : Nat) (refBegun : List (Fin 8)) (drives : List FieldDrive)
  /-- OUT_UPDATE: An OUT_UPDATE latches readbacks and inputs, then applies every marked command word at one instant and restarts OUT_HOLD (R128) -/
  | outUpdate (entry : Nat) (samples : List (Fin 24 × ChannelSample)) (vloadA vloadB : Half)
  /-- TEST_SLOT: A TEST_SLOT action runs or resumes the named test within its window and leaves its result word (R129) -/
  | testSlot (entry : Nat) (measured : List Nat) (finished : Bool)
  /-- HOST_IRQ: A HOST_IRQ action writes its tag to IRQ_TAG and fires vector 4 after earlier fabric writes have landed (R120) -/
  | hostIrq (entry : Nat)
  /-- ACTION_COMPLETE: An action reports completion to the Trellis and, if its window has closed, is counted as an overrun with event 0x0101
  (R118) -/
  | actionComplete (entry lateNs : Nat)
  /-- TEST_SUSPENDED: A test window closes before its test finishes and the test is suspended until the next entry of that identifier (R129) -/
  | testSuspended (id : Byte)
  /-- TRELLIS_SLEW_END: Schedule time has caught up with the stepped domain time and PHASE_STATE returns to locked (R108) -/
  | trellisSlewEnd
  /-- REPHASE_GAP_END: The first base-cycle start on the new timeline at least 10 µs after the gap begins and issuing resumes (R109) -/
  | rephaseGapEnd (startNs gapNs : Nat) (bus : BusView)
  /-- GRID_ORIGIN_START: After a commit that changes ORIGIN the new grid starts at the first aligned instant and event 0x0109 records any delay
  (R136) -/
  | gridOriginStart (startNs waitNs : Nat) (bus : BusView)
  /-- SCHEDULE_SCRUB_PASS: The background scrub reads every schedule entry every 100 ms, corrects single errors and skips or restores entries with
  uncorrectable errors (R137) -/
  | scheduleScrubPass (findings : List ScrubFinding)
  /-- FABRIC_TRANSACTION: In its owned slot an initiator starts one read or write of up to 256 bytes to one target, completed before the slot ends
  (R140) -/
  | fabricTransaction (owner : FabricOwner) (slot : Fin 16) (target : FabricTarget) (write : Bool) (ofs : Nat) (bytes : List Byte) (len : Nat)
  /-- FRAME_RECEIVED: A frame's last FCS bit reaches the Cellar and it is checked, classified, looked up, learned, routed and admitted per
  destination queue (R148) -/
  | frameReceived (port : Fin 19) (frame : Frame) (rx : RxFlags) (press : Option (Fin 16))
  /-- COPY_SELECTED: A port selects the highest-priority head copy that fits before its gate closes and starts transmitting it (R124) -/
  | copySelected (port : Fin 19) (ns : Nat)
  /-- COPY_SENT: A copy's last byte leaves the port, it is counted in CNT_TX_FRAMES and CNT_TX_OCTETS and its reference is released (R185) -/
  | copySent (port : Fin 19) (ecc : EccResult) (cask : Nat)
  /-- AGEING_SWEEP: The sweeper pass of at most 50 µs discards every queued copy older than its queue's AGE limit and every Lees frame older than
  100 ms (R165) -/
  | ageingSweep
  /-- LEARNED_ENTRY_AGED: A learned address not refreshed for the AGE_SEL time is removed from the table (R156) -/
  | learnedEntryAged (bucket : Fin 2048) (way : Fin 8)
  /-- BUFFER_SCRUB_LINE: Every 1 µs the scrub reads one buffer line, corrects single errors and removes frames with uncorrectable errors (R170) -/
  | bufferScrubLine (line : Nat) (holder : Option Nat) (result : EccResult)
  /-- PHY_LINK_OK: The PHY or PCS begins reporting a usable link and the UP_SEL debounce starts (R186) -/
  | phyLinkOk (port : Fin 16) (info : PhyInfo)
  /-- LINK_UP_REPORT: The usable link has stayed unbroken for UP_SEL, the port is reported link up with event 0x0301 and INA is notified (R186) -/
  | linkUpReport (port : Fin 16) (leadNs : Nat)
  /-- PHY_LINK_LOSS: The PHY or PCS reports loss of the link, the port stops transmitting and the DN_SEL debounce starts (R187) -/
  | phyLinkLoss (port : Fin 16)
  /-- LINK_DOWN_REPORT: The loss has lasted DN_SEL, the port is reported link down, its queues are flushed, CNT_LINK_DOWN counts and INA is
  notified (R187) -/
  | linkDownReport (port : Fin 16) (leadNs : Nat)
  /-- LINK_ATTEMPT_FAILED: A link attempt fails on mode, role, half duplex or speed, the port stays down and counts CNT_LINK_GLITCH or records
  event 0x0303 (R192) -/
  | linkAttemptFailed (port : Fin 16) (why : LinkFailure)
  /-- SETTLE_MASK_END: The SETTLE_SEL mask after a driver change ends and the PHY's current state is reported (R197) -/
  | settleMaskEnd (lineB : Bool) (leadNs : Nat)
  /-- WAKE_EMIT: A write of WAKE_EMIT starts a 16 ms wake emission on a link-down backbone port, or is refused with event 0x0306 (R199) -/
  | wakeEmit (by_ : Initiator) (mask : BitVec 4)
  /-- WAKE_EMISSION_END: The 16 ms emission ends and the port trains in its mode (R199) -/
  | wakeEmissionEnd (n : Fin 4)
  /-- SNAP_CMD_GO: A write of SNAP_CMD.GO copies and clears the counters of one port or all ports into the snapshot banks (R209) -/
  | snapCmdGo (by_ : Initiator) (v : Word)
  /-- SNAPSHOT_COMPLETE: The snapshot copy completes within 1 µs, BUSY clears, SEQ increments and vector 15 fires if requested (R209) -/
  | snapshotComplete
  /-- MD_COLLISION: A collision within the first 512 bits makes the port send the jam, count CNT_COLL and draw a back-off, or discard after 16
  (R205) -/
  | mdCollision (md : Fin 2)
  /-- MD_BACKOFF_END: The back-off of a multidrop copy ends and the port defers and retries when the frame fits (R205) -/
  | mdBackoffEnd (md : Fin 2)
  /-- LATE_COLLISION: A collision after 512 bits discards the copy, counts CNT_LATE_COLL and records event 0x0308 (R205) -/
  | lateCollision (md : Fin 2)
  /-- TTDP_HELLO_TX: The HELLO period expires on an up backbone line and a HELLO frame is sent (R215) -/
  | ttdpHelloTx (n : Fin 4)
  /-- TTDP_TOPOLOGY_TX: The slow period expires or the connectivity table changes and a TOPOLOGY frame is sent (R215) -/
  | ttdpTopologyTx (n : Fin 4)
  /-- TTDP_FRAME_RECEIVED: A TTDP frame on a backbone port goes to the inauguration engine and updates line status and the connectivity table
  (R216) -/
  | ttdpFrameReceived (n : Fin 4) (msg : TtdpMsg) (leadNs : Nat)
  /-- LINE_TIMEOUT: No valid HELLO has arrived within the line timeout and the line is down for the topology (R217) -/
  | lineTimeout (n : Fin 4) (leadNs : Nat)
  /-- SPECULATION_TIMEOUT: A speculation without agreement for 2 s is dropped with event 0x0403 reason 3 (R227) -/
  | speculationTimeout
  /-- TOPOLOGY_COMMIT: At one base-cycle boundary SWC, INA, PDF, BLD and TRL switch to the new topology, counters and grace update and the Lees
  queue releases (R25) -/
  | topologyCommit
  /-- LEES_RELEASE_FRAME: A held frame re-enters lookup every 40 ns after the commit boundary and is checked against the previous bank (R228) -/
  | leesReleaseFrame
  /-- RECOMPUTE_VALIDATED: The recompute's multi-group validation passes and the commit waits for its base-cycle start (R230) -/
  | recomputeValidated (leadNs : Nat) (entries : List (Nat × Word))
  /-- RECOMPUTE_FAIL: A recompute exceeds a capacity or is not committed within 150 ms, event 0x0407 is recorded and STAT_FLT_N goes low (R231) -/
  | recomputeFail (capacity : Bool)
  /-- PD_RECEIVED: A Pd or Pp telegram is matched to a subscriber, checked in order and written to its back buffer with NEW set (R251) -/
  | pdReceived (t : Telegram)
  /-- PULL_REQUEST_RECEIVED: A matching Pr makes a responder or publisher send a Pp from its front buffer within 10 µs (R249) -/
  | pullRequestReceived (t : Telegram)
  /-- MSG_CMD_PULL: A write of MSG_CMD.PULL sends a Pr for the named pull requester (R249) -/
  | msgCmdPull (by_ : Initiator) (ctx : Fin 1024)
  /-- SUBSCRIBER_TIMEOUT: At a base-cycle start AGE exceeds TIMEOUT, so TIMED_OUT sets, event 0x0501 is recorded and the data may be zeroed (R253)
  -/
  | subscriberTimeout (ctx : Fin 1024)
  /-- MSG_CMD_GO: A write of MSG_CMD.GO sends the session's notification, request or reply, or is counted as busy (R262) -/
  | msgCmdGo (by_ : Initiator) (session : Fin 256)
  /-- MD_REPLY_TIMEOUT: REPLY_TO expires with no reply, so the request is retransmitted or the session times out with event 0x0509 (R262) -/
  | mdReplyTimeout (session : Fin 256)
  /-- MD_REPLY_RECEIVED: An Mp or Mq for the session is stored, STATE becomes done, Mc is sent for Mq and event 0x0507 is recorded (R262) -/
  | mdReplyReceived (t : Telegram)
  /-- MD_ERROR_RECEIVED: An Me for the session sets STATE 5 and records event 0x0507 (R262) -/
  | mdErrorReceived (t : Telegram)
  /-- MD_REQUEST_RECEIVED: An Mr on a replier session is stored with STATE 6 and event 0x0508, or a duplicate is answered from cache or discarded
  (R263) -/
  | mdRequestReceived (t : Telegram)
  /-- REPLIER_TIMEOUT: A reply not commanded within REPLY_TO, or a missing Mc, ends the replier exchange (R263) -/
  | replierTimeout (session : Fin 256)
  /-- PRESS_CMD_STOP: PRESS_CMD OP 1 stops a Press under R290 and leaves it stopped (R293) -/
  | pressCmdStop (by_ : Initiator) (key : Half) (press : Fin 16)
  /-- PRESS_CMD_TEST: PRESS_CMD OP 2 stops a Press and runs the SRAM march and logic self-test, then reloads it if both pass (R293) -/
  | pressCmdTest (by_ : Initiator) (key : Half) (press : Fin 16)
  /-- PRESS_CMD_RELOAD: PRESS_CMD OP 3 stops a Press, clears its SRAM, reads and verifies its image and starts it (R293) -/
  | pressCmdReload (by_ : Initiator) (key : Half) (press : Fin 16)
  /-- PRESS_INPUT_EXCHANGE: A Press ends its cycle by exchanging input buffers, incrementing IN_SEQ and setting IN_NEW in one write (R273) -/
  | pressInputExchange (press : Fin 16) (bytes : List Byte) (lineOk : Bool) (diag : List (Fin 59 × Word)) (lateNs : Nat)
  /-- PRESS_STOP_EFFECT: A waiting stop takes effect, field lines go silent, event 0x0602 is recorded and the Press stays stopped, tests, reloads
  or goes off (R290) -/
  | pressStopEffect (press : Fin 16)
  /-- OUT_XCHG: A write of 1 to OUT_XCHG swaps the output buffers and sets OUT_NEW, deferred if a copy is running (R274) -/
  | outXchg (by_ : Initiator) (press : Fin 16)
  /-- PRESS_FAULT: An uncorrectable SRAM error or image exception stops a running Press at once and leads to automatic reload or the failed state
  (R292) -/
  | pressFault (press : Fin 16) (cause : PressFaultCause) (lateNs : Nat)
  /-- PRESS_CYCLE_WATCHDOG: No input exchange within 10 ms of a PRESS_START, or no internal watchdog service for 10 ms, is a Press fault with
  cause 5 (R292) -/
  | pressCycleWatchdog (press : Fin 16) (lateNs : Nat)
  /-- PRESS_SRAM_TEST_DONE: The Press SRAM march test ends and the logic self-test starts or the Press fails (R293) -/
  | pressSramTestDone (press : Fin 16) (ok : Bool) (result : Half)
  /-- PRESS_SELF_TEST_DONE: The Press logic self-test ends, event 0x0603 is recorded and the Press reloads or is left failed (R293) -/
  | pressSelfTestDone (press : Fin 16) (ok : Bool) (result : Half)
  /-- PRESS_VERIFY_DONE: The Press image signatures have been verified and the image starts with event 0x0601, or fails with event 0x0604 (R295) -/
  | pressVerifyDone (press : Fin 16) (ok : Bool)
  /-- PP_FRAME_ARRIVAL: A frame at PP not taken by the flow engine is copied to Presses as ARP, dispatched by the table, or dropped (R285) -/
  | ppFrameArrival (frame : Frame) (stamp : DWord)
  /-- DEDICATED_TX_HANDOVER: A Press hands a frame to its dedicated port, which sends it or drops it with event 0x0609 (R286) -/
  | dedicatedTxHandover (press : Fin 16) (frame : Frame)
  /-- FIELD_WINDOW_REQUEST: A BAR2 field-window request is served by the Press image between its protocol work or completes with an error (R288) -/
  | fieldWindowRequest (press : Fin 16) (write : Bool) (ofs len : Nat) (reply : FarReply)
  /-- LINE_STATUS_CHANGE: An image changes LINE_STATUS and event 0x060A is recorded (R276) -/
  | lineStatusChange (press : Fin 16) (status : Word)
  /-- CAN_TX_PUSH: The owning image pushes an entry into a controller's transmit FIFO, refused and counted if full (R308) -/
  | canTxPush (c : Fin 8) (tag : Half) (frame : CanFrame)
  /-- CAN_TX_CANCEL: The image cancels a transmit entry, which is removed if its transmission has not begun (R311) -/
  | canTxCancel (c : Fin 8) (tag : Half) (begun : Bool)
  /-- CAN_TX_DONE: The head entry is sent without error, leaves the FIFO and is reported to the image with its tag and stamp (R309) -/
  | canTxDone (c : Fin 8) (ref : Bool) (sofAgo loopMtq : Nat)
  /-- CAN_ARB_LOST: The head entry loses arbitration, stays at the head and counts CNT_CAN_ARB_LOST (R309) -/
  | canArbLost (c : Fin 8) (ref toRef : Bool)
  /-- CAN_FRAME_RECEIVED: A frame completes on the bus and is stored in the receive FIFO with its stamp, or discarded on overflow with event
  0x0706 (R312) -/
  | canFrameReceived (c : Fin 8) (frame : CanFrame) (sofAgo : Nat)
  /-- CAN_ERROR_DETECTED: The controller detects a bus error, updates TEC or REC and LAST_ERR and changes confinement state with events 0x0701 to
  0x0703 (R318) -/
  | canErrorDetected (c : Fin 8) (kind : CanError) (transmitting inData ref : Bool) (dTec dRec : Nat)
  /-- CAN_RECOVERY_DONE: 128 sequences of 11 recessive bits complete recovery, TEC and REC return to 0 and event 0x0705 is recorded (R321) -/
  | canRecoveryDone (c : Fin 8)
  /-- CAN_CMD_RECOVER: CAN_CMD OP 1 or the image starts bus-off recovery, or is ignored with event 0x0709 (R321) -/
  | canCmdRecover (by_ : Option Initiator) (key : Half) (c : Fin 8)
  /-- CAN_CMD_CLEAR_IDC: CAN_CMD OP 2 clears the IDC flag of a controller (R325) -/
  | canCmdClearIdc (by_ : Initiator) (key : Half) (c : Fin 8)
  /-- CAN_INTEGRATED: After a timing or mode commit the controller sees 11 recessive bits and resumes on the bus (R307) -/
  | canIntegrated (c : Fin 8)
  /-- MB_UPDATE: A write transaction to a message buffer's words 2 to 23 sets WIP, then clears it, sets NEW and increments UPD in one clock (R315)
  -/
  | mbUpdate (c : Fin 8) (b : Fin 64) (byHost : Bool) (frame : CanFrame) (stamp : DWord)
  /-- MB_ACK_UPD: A consumer writes ACK_UPD, which clears NEW only if it equals UPD (R314) -/
  | mbAckUpd (c : Fin 8) (b : Fin 64) (upd : Half) (byReader : Bool)
  /-- SIGNAL_LOW_WORD_WRITE: A host write to a signal's low word is held for that initiator until its high word arrives (R328) -/
  | signalLowWordWrite (by_ : Initiator) (signal : Fin 262144) (v : Word)
  /-- SIGNAL_HIGH_WORD_WRITE: A host write to a signal's high word applies the 64-bit value with QUAL GOOD, or is discarded if Blend-owned or
  unpaired (R330) -/
  | signalHighWordWrite (by_ : Initiator) (signal : Fin 262144) (v : Word)
  /-- BLEND_SCRUB_PASS: The 100 ms scrub of the Blend tables and signal store corrects single errors and marks uncorrectable entries or signals
  (R348) -/
  | blendScrubPass (findings : List (BlendStore × ScrubFinding))
  /-- PTP_SYNC_RECEIVED: A valid Sync updates the domain servo, which may lock the domain, step it or set its RATE (R365) -/
  | ptpSyncReceived (d : Fin 2) (offsetNs : Int) (rate : Word) (port : Fin 16) (tx : BitVec 16)
  /-- DOMAIN_LOSS_TIMEOUT: No valid Sync for LOSS_SEL makes the domain lost with event 0x0902 (R365) -/
  | domainLossTimeout (d : Fin 2)
  /-- REVERT_TIMER_EXPIRY: PRIMARY has been locked for 10 s with REVERT set and becomes the source again (R366) -/
  | revertTimerExpiry
  /-- ACTIVE_TIME_SLEW_END: The 10 ppm slew removes the difference and SLEWING clears (R367) -/
  | activeTimeSlewEnd
  /-- CLK10_LOSS: No CLK10M_IN edge for 1 µs makes the PLL fall back to REF25_IN with event 0x0908 (R371) -/
  | clk10Loss
  /-- CLK10_RETURN: CLK10M_IN has been present for 1 s and the PLL returns to it (R371) -/
  | clk10Return
  /-- PPS_IN_EDGE: A rising PPS_IN edge writes PPS_CAP, increments PPS_SEQ and fires vector 39 (R372) -/
  | ppsInEdge (fraction : Fin 8)
  /-- PPS_IN_MISSING: No PPS_IN edge within 1.1 s clears PPS_IN_OK and records event 0x0909 (R372) -/
  | ppsInMissing
  /-- PPS_OUT_PULSE: At each whole second of the active time PPS_OUT rises for 100 ms (R373) -/
  | ppsOutPulse
  /-- HOST_READ: A host read of a BAR is decoded, split, prefetched where allowed and completed with data or all ones (R383) -/
  | hostRead (bar : Bar) (ofs len : Nat) (far : FarReply)
  /-- HOST_WRITE: A host write is buffered as posted or served as a non-posted fence, and failures are counted and latched (R387) -/
  | hostWrite (bar : Bar) (ofs : Nat) (data : List Byte) (far : FarReply)
  /-- LATE_READ: A BAR2 read not completed within BUDGET returns all ones, counts CNT_LATE_READ and records event 0x0A01 (R392) -/
  | lateRead (ofs : Nat)
  /-- PREFETCH_LINE_EXPIRY: A prefetch line not read within 10 µs is discarded, with a side-effect count where applicable (R390) -/
  | prefetchLineExpiry (line : Nat)
  /-- QSPI_READ: A QSPI read starts a delayed read, returns RETRY or BUSY, or returns READY with the completed data (R381) -/
  | qspiRead (command : Byte) (addr : Word) (cut : Bool) (far : FarReply)
  /-- QSPI_WRITE: A QSPI write returns READY when buffered or BUSY, and a non-posted write fences later transactions (R382) -/
  | qspiWrite (addr : Word) (data : List Byte) (cut room : Bool) (far : FarReply)
  /-- QSPI_DISCARD_EXPIRY: A completed delayed read not collected within the discard timer is discarded with event 0x0A05 (R381) -/
  | qspiDiscardExpiry (slot : Nat)
  /-- DEVICE_READ_TIMEOUT: A device read whose completion does not arrive within 1 ms, or errs, counts CNT_DMA_RD_ERR with event 0x0A08 (R393) -/
  | deviceReadTimeout (addr : DWord) (read : DeviceRead)
  /-- NP_YIELD: A device non-posted request deadlocked with a host one is withdrawn, counted and reissued after the host request completes (R393) -/
  | npYield
  /-- RX_COPY_AT_HEAD: An HP copy at its queue head reserves its receive descriptors, waits, or is discarded as too big or without ring (R399) -/
  | rxCopyAtHead (queue : Fin 8)
  /-- RX_WAIT_EXPIRY: A waiting HP copy has lacked descriptors for RX_WAIT and is discarded with event 0x0A06 (R399) -/
  | rxWaitExpiry (queue : Fin 8)
  /-- RX_FRAME_WRITTEN: The frame data, descriptors and HEAD are written to host memory in order (R400) -/
  | rxFrameWritten (ring : Fin 4) (owned : Bool)
  /-- RING_IRQ_DELAY_EXPIRY: IRQ_DELAY after the first unreported completion of a ring its vector fires (R400) -/
  | ringIrqDelayExpiry (tx : Bool) (ring : Fin 4)
  /-- TX_RING_FETCH: The node fetches a whole frame from the highest-priority transmit ring with descriptors available, or stops the ring on a
  fault (R401) -/
  | txRingFetch (descs : List TxDesc) (frame : Frame)
  /-- TX_WRITEBACK: After HP's ingress checks the frame's descriptors are written back with status, HEAD advances and vector 41 fires (R403) -/
  | txWriteback
  /-- TAIL_WRITE: A write to a ring's TAIL makes descriptors available or is ignored as out of range (R398) -/
  | tailWrite (by_ : Initiator) (tx : Bool) (ring : Fin 4) (v : Half)
  /-- RING_SIZE_WRITE: A write to a ring's SIZE enables it with HEAD and TAIL at 0, disables it, or is ignored above 4,096 (R398) -/
  | ringSizeWrite (by_ : Initiator) (tx : Bool) (ring : Fin 4) (size : Half) (irqEn : Bool)
  /-- INTERRUPT_FIRE: A vector fires as an MSI-X message or an event-queue entry, after the data it announces, or is lost on overflow (R394) -/
  | interruptFire
  /-- EQ_POP0_READ: On QSPI a read of EQ_POP0 removes the head event entry and latches its other words (R396) -/
  | eqPop0Read (by_ : Initiator)
  /-- INRUSH_WINDOW_CLOSE: The inrush window closes and a channel still limiting or latched locks off with INRUSH_FAIL and event 0x0B03 (R415) -/
  | inrushWindowClose (ch : Fin 24) (limiting : Bool) (energy : Nat)
  /-- RETRY_ATTEMPT_FAIL: A LEGACY channel limits for 1 ms, switches off and schedules a retry or locks off (R417) -/
  | retryAttemptFail (ch : Fin 24) (energy : Nat)
  /-- RETRY_START: RETRY_SPACE after a failed attempt the next attempt starts and RETRY_LEFT decrements (R417) -/
  | retryStart (ch : Fin 24)
  /-- RETRY_WINDOW_CLOSE: The retry window closes and the sequence succeeds or the channel locks off with INRUSH_FAIL (R417) -/
  | retryWindowClose (ch : Fin 24)
  /-- THERMAL_LATCH_SET: A junction sample reaches TH_DIFF or 175 °C, the channel switches off within 20 µs and event 0x0B01 is recorded (R420) -/
  | thermalLatchSet (ch : Fin 24) (dt tj : Int) (energy : Nat)
  /-- THERMAL_LATCH_RELEASE: The junction has cooled below both release limits, the latch releases and event 0x0B02 is recorded (R420) -/
  | thermalLatchRelease (ch : Fin 24) (dt tj : Int)
  /-- OUT_CMD_CLEAR_CLAMP: OUT_CMD OP 1 clears a channel's clamp lock if its bucket is below 25 %, or is refused with event 0x0B06 (R422) -/
  | outCmdClearClamp (by_ : Initiator) (key : Half) (ch : Fin 24)
  /-- OUT_CMD_CLEAR_INRUSH: OUT_CMD OP 2 clears a channel's inrush-failed lock (R422) -/
  | outCmdClearInrush (by_ : Initiator) (key : Half) (ch : Fin 24)
  /-- OUT_CMD_CLEAR_SHED: OUT_CMD OP 3 clears a channel's shed if its cause has not held over its last interval, or is refused (R422) -/
  | outCmdClearShed (by_ : Initiator) (key : Half) (ch : Fin 24)
  /-- OPEN_LOAD_DETECT: A conducting channel's current stays below OL_TH for 100 ms and OPEN_LOAD sets with event 0x0B07 (R424) -/
  | openLoadDetect (ch : Fin 24)
  /-- STB_DETECT: An off unpaired channel's output stays above 6.0 V for 100 ms and STB sets with event 0x0B08 (R424) -/
  | stbDetect (ch : Fin 24)
  /-- VLOAD_LOW: A load supply falls below 9.0 V, its channels set LOW_SUPPLY and event 0x0B09 is recorded (R427) -/
  | vloadLow (supplyA : Bool) (lowestMv : Nat)
  /-- VLOAD_RECOVER: A load supply returns to 9.5 V and LOW_SUPPLY clears (R427) -/
  | vloadRecover (supplyA : Bool)
  /-- LOAD_SHED: At the end of an averaging interval a current or loss limit is exceeded and the lowest-priority channels are shed with event
  0x0B0A (R428) -/
  | loadShed (condition : Fin 4) (interval : List LoadSample) (energies : List (Fin 24 × Nat))
  /-- OUT_HOLD_EXPIRY: No OUT_UPDATE within OUT_HOLD makes every channel take its fail state with event 0x0B0B (R429) -/
  | outHoldExpiry (energies : List (Fin 24 × Nat))
  /-- DIM_PIN_EDGE: A DIM pin edge gates every channel that follows it within 5 µs (R425) -/
  | dimPinEdge (pin : Fin 4) (level : Bool) (energies : List (Fin 24 × Nat))
  /-- COMMAND_WORD_WRITE: A write to an output command word sets its mark, or is discarded for a Blend-owned word with event 0x0B0C (R412) -/
  | commandWordWrite (by_ : Initiator) (ch : Fin 24) (v : Word)
  /-- CORK_RENEWAL_TX: Every 1 ms the healthy active unit sends a renewal over the Racking link and holds its CORK_HOLD lines (R444) -/
  | corkRenewalTx
  /-- RENEWAL_RECEIVED: A standby unit receives a renewal and restarts its 3 ms lease (R444) -/
  | renewalReceived
  /-- HOLD_OUT_RELEASE: 2.8 ms after the last renewal sent the CORK_HOLD_OUT lines are released (R444) -/
  | holdOutRelease
  /-- LEASE_EXPIRY: 3 ms after the last renewal the standby unit's lease expires and it takes over or records event 0x0C04 (R445) -/
  | leaseExpiry
  /-- HOLD_IN_CHANGE: A CORK_HOLD_IN line changes state after its 100 µs filter (R444) -/
  | holdInChange (lineB low : Bool)
  /-- HOLD_DISAGREE: The two hold lines have disagreed for 10 ms and event 0x0C05 is recorded (R444) -/
  | holdDisagree
  /-- RACK_LINK_DOWN: No valid control word for 200 µs or loss of block lock takes the Racking link down with event 0x0C03 (R446) -/
  | rackLinkDown
  /-- RACK_LINK_UP: The Racking link comes up and RACK_UP sets with event 0x0C03 (R446) -/
  | rackLinkUp (partnerCompat : Word)
  /-- RACK_FRAME_RECEIVED: A state frame arrives and is kept, or fails CRC-32C and is sent again (R447) -/
  | rackFrameReceived (seq : Nat) (last crcOk : Bool) (cells : List (Nat × Word))
      (set : Option (List Nat × Nat))
  /-- DELTA_APPLIED: Every frame of a delta has arrived and the standby applies it to its racked state as a whole (R447) -/
  | deltaApplied
  /-- BULK_RACKING_DONE: Bulk racking completes, SYNC sets, the pre-executed state is re-seeded and event 0x0C09 is recorded (R448) -/
  | bulkRackingDone (unit0Mac : Mac) (cells : List (Nat × Word))
  /-- CLAIM_TIMEOUT: 20 ms on unit 0 or 40 ms on unit 1 pass without renewal or partner and the unit claims the Cork (R443) -/
  | claimTimeout
  /-- CLAIM_WATCH_END: After 200 µs of claiming the unit becomes active, or yields on collision with event 0x0C0D (R443) -/
  | claimWatchEnd (partnerHoldSeen sameUnit : Bool)
  /-- DIGEST_COMPARE: The two units' digests of a cycle are compared and mismatches counted, IN_STEP set or cleared (R453) -/
  | digestCompare (cycle : BitVec 13) (partner : DWord)
  /-- TAKEOVER: At a base-cycle start a standby unit becomes active warm, racked or cold and every block starts emitting (R456) -/
  | takeover
  /-- BREAK_INSTANT: BREAK_US after the old unit sees the partner's hold every one of its channels goes off (R459) -/
  | breakInstant (energies : List (Fin 24 × Nat))
  /-- RED_CMD_RESIGN: RED_CMD OP 1 makes the active unit stop emitting and renewing, send a resignation and become standby (R458) -/
  | redCmdResign (by_ : Initiator) (key : Half)
  /-- RESIGNATION_RECEIVED: A standby unit receives the partner's resignation and takes over at the next base-cycle start (R455) -/
  | resignationReceived
  /-- RED_CMD_SWAP: RED_CMD OP 2 proposes a planned role swap (R460) -/
  | redCmdSwap (by_ : Initiator) (key : Half)
  /-- SWAP_INTERVAL_EXPIRY: SWAP_H hours of Run since the last role change pass and the active unit proposes a swap (R460) -/
  | swapIntervalExpiry
  /-- RED_CMD_BULK_RACKING: RED_CMD OP 3 starts bulk racking on a standby unit (R448) -/
  | redCmdBulkRacking (by_ : Initiator) (key : Half)
  /-- OD_READ: A mailbox GO with OP 1 reads an entry, checked under R477, and returns its first segment (R484) -/
  | odRead (path : Path) (index : Half) (sub : Byte) (irq full : Bool) (regs : Option (Half × Half))
  /-- OD_WRITE: A mailbox GO with OP 2 starts a write and applies it, with commit where SH-backed, once its last segment arrives (R484) -/
  | odWrite (path : Path) (index : Half) (sub : Byte) (total : Nat) (seg : List Byte) (irq full : Bool) (regs : Option Half)
  /-- OD_NEXT_SEGMENT: A mailbox GO with OP 3 moves the next segment of a transfer, checked for its toggle and total (R482) -/
  | odNextSegment (path : Path) (toggle : Bool) (seg : List Byte) (irq full : Bool)
  /-- OD_ABORT_TRANSFER: OP 4 abandons a segmented transfer and leaves the entry unchanged (R483) -/
  | odAbortTransfer (path : Path)
  /-- OD_DESCRIBE: OP 5 returns an entry's type, access, roles, persistence, size and default (R484) -/
  | odDescribe (path : Path) (index : Half) (sub : Byte) (irq full : Bool)
  /-- SEGMENT_TIMEOUT: More than 1 s between segments ends the transfer with abort 0x0E and event 0x0D43 (R482) -/
  | segmentTimeout (path : Path)
  /-- MAINT_MESSAGE: A maintenance-path message is checked for its tag and counter and served as an object-dictionary request (R488) -/
  | maintMessage (conn : Nat) (counter : DWord) (tagOk : Bool) (op : Byte) (toggle : Bool) (index : Half) (sub : Byte) (total : Nat)
      (data : List Byte)
  /-- REMOTE_REQUEST: A remote-node request datagram is served within 40 µs or refused with event 0x0D44 (R489) -/
  | remoteRequest (src : Ip) (write : Bool) (ofs len : Nat) (data : List Byte)
  /-- AUTH_CHALLENGE_READ: A read of OD 0x1F00.01 returns a fresh challenge bound to the session (R478) -/
  | authChallengeRead (path : Path)
  /-- AUTH_ROLE_REQUEST: A write of OD 0x1F00.02 names the role asked for, or 0 returns the session to public (R478) -/
  | authRoleRequest (path : Path) (role : Byte)
  /-- AUTH_RESPONSE: A write of OD 0x1F00.03 raises the role if the HMAC is right, or fails with event 0x0D41 and may lock the path (R478) -/
  | authResponse (path : Path) (response : BitVec 256)
  /-- AUTH_LOCK_EXPIRY: The 60 s authentication lock on a path ends (R478) -/
  | authLockExpiry (path : Path)
  /-- SESSION_IDLE_LAPSE: A session without access for IDLE_MIN minutes returns to public (R479) -/
  | sessionIdleLapse (path : Path)
  /-- PERSISTENT_STORE_WRITE: The store writes pending class P changes in one write, retrying on the other copy and recording event 0x0D35 on
  failure (R475) -/
  | persistentStoreWrite (copyAOk copyBOk : Bool)
  /-- RESTORE_DEFAULTS: A write of 0x5E7D to OD 0x2D30.01 restores every class P entry at the next store write (R490) -/
  | restoreDefaults (path : Path) (v : Half)
  /-- DIE_TEMP_HIGH: A die sensor reaches 115 °C or 125 °C and records event 0x0D30 or 0x0D31 (R469) -/
  | dieTempHigh (sensor : Fin 8) (t : Half) (from115 : Bool)
  /-- RAIL_EXCURSION: A rail stays outside ±5 % for 100 µs, counts CNT_RAIL_EXC and records event 0x0D32 (R470) -/
  | railExcursion (rail : Fin 12) (mv : Half) (high : Bool)
  /-- RAIL_RECOVERED: A rail has been back in its window for 100 ms and STAT_FLT_N is no longer held low for it (R470) -/
  | railRecovered (rail : Fin 12) (mv : Half)
  /-- BOOK_RECOVERY: The Vintner recovers the pointer block, advances past lost updates, clears torn records and sets READY (R500) -/
  | bookRecovery (goodA goodB torn lostUpdate : Bool)
  /-- RECORD_WRITE: The head queued record is written to its slot in the First or Last Pressing and both pointer copies are updated (R499) -/
  | recordWrite
  /-- POINTER_BLOCK_TICK: Once every second of Run both pointer-block copies are rewritten with RUN_S and RUN_MS (R497) -/
  | pointerBlockTick
  /-- TOKEN_REFILL: A rate-limit bucket gains one token after REFILL_M1 + 1 ms (R502) -/
  | tokenRefill (code : Half)
  /-- CBK_CMD_FREEZE: CBK_CMD.FREEZE starts a commanded freeze unless one is already in force (R505) -/
  | cbkCmdFreeze (by_ : Initiator) (key : Half) (alsoUnfreeze alsoRead : Bool)
  /-- CBK_CMD_UNFREEZE: CBK_CMD.UNFREEZE ends a commanded freeze (R505) -/
  | cbkCmdUnfreeze (by_ : Initiator) (key : Half) (alsoRead : Bool)
  /-- CBK_CMD_READ: CBK_CMD.READ copies up to 256 records into the readout buffer under freeze (R506) -/
  | cbkCmdRead (by_ : Initiator) (key : Half) (unreadable : List (Fin 256))
  /-- READOUT_COMPLETE: The register readout copy ends within 400 µs, RD_BUSY clears and vector 56 fires (R506) -/
  | readoutComplete
  /-- FREEZE_LIMIT_EXPIRY: A commanded freeze reaches FREEZE_M1 + 1 seconds, ends and records event 0x0E03 (R505) -/
  | freezeLimitExpiry
  /-- UPD_OPEN: UPD_CMD OP 1 opens an update session on a slot, which becomes WRITING with event 0x0F07 (R521) -/
  | updOpen (path : Path) (key : Half) (slotB : Bool)
  /-- UPD_CHUNK: A chunk at UPD_NEXT is written to the slot and UPD_NEXT advances, or a wrong offset is refused (R521) -/
  | updChunk (path : Path) (ofs : Nat) (bytes : List Byte)
  /-- UPD_FINISH: UPD_CMD OP 2 runs the admission checks over the slot (R521) -/
  | updFinish (path : Path) (key : Half) (slotB : Bool)
  /-- SLOT_VERIFY_DONE: Slot verification ends and the slot becomes WRITTEN with event 0x0F01 or FAILED with event 0x0F02 or 0x0F03 (R517) -/
  | slotVerifyDone (why : Option VintageFault)
  /-- UPD_ACTIVATE: UPD_CMD OP 3 writes trial firmware if needed, marks the slot TRIAL and commands a warm reset (R522) -/
  | updActivate (path : Path) (key : Half) (slotB : Bool)
  /-- UPD_CONFIRM: UPD_CMD OP 4 confirms the trial slot, raises the anti-rollback counters and records event 0x0F05 (R523) -/
  | updConfirm (path : Path) (key : Half) (slotB : Bool)
  /-- UPD_ABORT: UPD_CMD OP 5 ends the session and the slot becomes EMPTY with event 0x0F07 (R521) -/
  | updAbort (path : Path) (key : Half) (slotB : Bool)
  /-- UPD_SESSION_TIMEOUT: 60 s without a step from the owning session ends it and empties the slot (R521) -/
  | updSessionTimeout
  /-- TRIAL_TIMER_EXPIRY: TRIAL_S seconds of Run pass without CONFIRM and the node falls back to the previous slot (R524) -/
  | trialTimerExpiry
  /-- OWNER_CHANGE_RECORD: A write of an owner-change record to OD 0x2F21 changes an owner key slot and raises counter 16, or is refused (R511) -/
  | ownerChangeRecord (path : Path) (signer slot : Fin 4) (key : Option (BitVec 256)) (counter : Nat) (edOk mldsaOk : Bool)
  /-- ROLE_KEY_WRITE: A write to OD 0x2F20 sets a new role key and records event 0x0F0A (R512) -/
  | roleKeyWrite (path : Path) (role : Fin 4) (keyValue : BitVec 256)
  /-- ATTEST_NONCE_WRITE: A write of a nonce to OD 0x2F30.01 starts an attestation quote (R528) -/
  | attestNonceWrite (path : Path) (nonce : BitVec 256)
  /-- ATTEST_QUOTE_READY: The signed quote is ready within 30 ms and event 0x0F0C is recorded (R528) -/
  | attestQuoteReady
  /-- ATTEST_QUOTE_READ: A read of OD 0x2F30.02 returns the quote or abort 0x0F before it is ready (R528) -/
  | attestQuoteRead (path : Path)
  /-- MSTOP_CMD_ENTER: MSTOP_CMD.ENTER requests the maintenance stop or is refused with a REFUSE code and event 0x0022 (R538) -/
  | mstopCmdEnter (by_ : Initiator) (key : Half)
  /-- MSTOP_ENTRY: At the next base-cycle start pending commits are refused, the Trellis stops, bypass drivers release and Presses stop (R538) -/
  | mstopEntry
  /-- MSTOP_MEMTEST_DONE: The march test of the stopped memories ends, failures are recorded as event 0x0021 and Casks are retired or returned
  (R539) -/
  | mstopMemtestDone (failed : List (Fin 16 × Nat)) (badCasks : List Nat)
  /-- MSTOP_CMD_EXIT: MSTOP_CMD.EXIT leaves the stop by a commanded warm reset (R539) -/
  | mstopCmdExit (by_ : Initiator) (key : Half)
  /-- LOOP_CMD_GO: LOOP_CMD.GO starts a port loopback with the port link down, or is refused with event 0x0022 (R537) -/
  | loopCmdGo (by_ : Initiator) (port : Fin 16) (v : Word)
  /-- LOOP_CMD_STOP: LOOP_CMD.STOP ends a loopback early and sets ABORTED (R537) -/
  | loopCmdStop (by_ : Initiator) (port : Fin 16)
  /-- LOOPBACK_DONE: The loopback's frames have returned, DONE sets with OK and BAD, event 0x0023 is recorded and the port retrains (R537) -/
  | loopbackDone (port : Fin 16) (ok bad : Nat)
  /-- TAP_INSTRUCTION: A boundary-scan instruction is loaded and acts, or acts as BYPASS outside recovery or the stop with event 0x0022 (R540) -/
  | tapInstruction (code : TapCode)
  /-- PCIE_LINK_UP: The PCIe link trains up, LINK_UP sets and HP can become link up (R397) -/
  | pcieLinkUp (speed width : Fin 4)
  /-- PCIE_CONFIG_WRITE: A configuration write that changes Bus Master Enable or the D0/D3hot power state permits or stops DMA, HP and MSI-X
  delivery (R379) -/
  | pcieConfigWrite (bme d0 : Bool) (config : PcieConfig)
  /-- INPUT_SAMPLE: Every 125 µs each digital input is sampled, its filtered state and edge counts are updated, and wetting pulses are timed
  (R434) -/
  | inputSample (mv : List Int)
  /-- LAMP_PWM_PERIOD: At each 5 ms lamp period the duty code is recomputed from VLOAD_B and the channel is gated on and off within the period
  (R426) -/
  | lampPwmPeriod (ch : Fin 4) (vloadMv energy : Nat)
  /-- OPEN_LOAD_CLEAR: A channel has carried at least OL_TH for 100 ms and OPEN_LOAD clears (R424) -/
  | openLoadClear (ch : Fin 24)
  /-- STB_CLEAR: An off channel's output has stayed below 3.0 V for 100 ms and STB clears (R424) -/
  | stbClear (ch : Fin 24)
  /-- VLOAD_NO_SUPPLY: A load supply crosses 4.0 V and NO_SUPPLY of its channels sets or clears (R427) -/
  | vloadNoSupply (supplyA below : Bool)
  /-- DIE_TEMP_NORMAL: A die sensor falls below 125 °C, releasing STAT_FLT_N and bit 2 of OD 0x1001 for that sensor (R469) -/
  | dieTempNormal (sensor : Fin 8) (t : Half)
  /-- PTP_MESSAGE_INTERVAL: A domain's Sync, Announce or Pdelay_Req interval expires and the Vintner sends the message as time transmitter or for
  peer delay (R364) -/
  | ptpMessageInterval (d : Fin 2) (msgType : BitVec 4) (delays : List LinkDelay)
  /-- RACK_CONTROL_WORD: A Racking link control word arrives with a logical port's link report or the partner's state or Dormancy conditions, and
  the unit updates them (R441) -/
  | rackControlWord (word : RackControl)
  /-- MD_CONFIRM_RECEIVED: An Mc for a request-reply-confirm replier session arrives and ends the exchange (R263) -/
  | mdConfirmReceived (t : Telegram)
  /-- CONNECTION_CLOSED: A maintenance or Type 15 TCP connection closes, its session returns to public and any update session it owned ends (R479)
  -/
  | connectionClosed (path : Path)
  /-- CLAIM_RETRY_DELAY: After a collision between units with the same UNIT and the link down, the random delay of 0 to 20 ms expires and the unit
  claims again (R443) -/
  | claimRetryDelay
  /-- PPS_OUT_PULSE_END: 100 ms after its rising edge PPS_OUT falls (R373) -/
  | ppsOutPulseEnd
  /-- WAKE_SUPPLY_GOOD: A wake latched while VBATT was below 18.0 V takes effect once VBATT has stayed at or above 18.0 V for 100 ms, and the wake
  time counts from then (R54) -/
  | wakeSupplyGood
  /-- LINE_UNIT_CAPTURE: An enabled RXD edge on a line unit records the raw counter in its capture timer for the image (R281) -/
  | lineUnitCapture (unit : Fin 32) (data : List Bool) (drives : List FieldDrive)
  deriving DecidableEq, Repr

end Sys2Proof
end

