-- ==== Sys2Proof/Config.lean ====
section
/-! DEFINITION. What differs from unit to unit, and the values the spec leaves open. Each is a constant without a body, so no
proof can rest on a number for it (log entry 4). -/

namespace Sys2Proof

/-- The n-th free value of a width: a result the spec does not state. `Node.fresh` counts how many have been taken. -/
opaque Config.freeValue (w : Nat) : Nat → BitVec w
/-- The 3-bit fraction of the stamp that a frame takes at a port at a value of the raw counter, at ingress or at egress (R359). -/
opaque Config.stampFraction : Bool → Nat → Nat → BitVec 3
/-- The base MAC address of the unit (R181). -/
opaque Config.macBase : BitVec 48
/-- The serial number, OD 0x1018.04 (R490). -/
opaque Config.serialNumber : BitVec 32
/-- The operator (1), maintainer (2) and vendor (3) keys as delivered (R512). -/
opaque Config.factoryRoleKey : Nat → BitVec 256
/-- Digest of the Gwynvis transport owner key in owner slot 0 at shipment (R511). -/
opaque Config.transportOwner : BitVec 256
/-- Digest of the vault boot code in ROM (R513). -/
opaque Config.bootRomDigest : BitVec 256
/-- The unit's Ed25519 identity public key in its 32-byte encoding, byte 0 first (R443). -/
opaque Config.identityKey : List (BitVec 8)
/-- Digests of the owner-change record that puts a key in a slot or clears it, and of a role-key record (R513). -/
opaque Config.ownerRecordDigest : Nat → Option (BitVec 256) → Nat → BitVec 256
opaque Config.roleRecordDigest : Nat → BitVec 256 → BitVec 256
/-- What the bytes of an owner-change record hold, whose format the spec does not give (R511): the slots it is signed by and names, the key
(none: an empty pair), the counter it carries, and whether its Ed25519 and ML-DSA-65 signatures verify. -/
opaque Config.ownerRecordSigner : List (BitVec 8) → Nat
opaque Config.ownerRecordSlot : List (BitVec 8) → Nat
opaque Config.ownerRecordKey : List (BitVec 8) → Option (BitVec 256)
opaque Config.ownerRecordCounter : List (BitVec 8) → Nat
opaque Config.ownerRecordSigned : List (BitVec 8) → Bool
opaque Config.ownerRecordSignedMldsa : List (BitVec 8) → Bool
/-- Digest of an empty owner slot, as MEAS4 takes it in (R513). -/
opaque Config.emptySlotDigest : BitVec 256
/-- The text of a Vintner firmware copy's version, OD 0x100A (R490). -/
opaque Config.firmwareVersion : BitVec 256 → List (BitVec 8)
/-- SHA-256 of a byte string (R510, R513). -/
opaque Config.sha256 : List (BitVec 8) → BitVec 256
/-- HMAC-SHA-256 of a byte string under a key (R478, R527). -/
opaque Config.hmac : List (BitVec 8) → List (BitVec 8) → BitVec 256
/-- The two signatures of an attestation quote over its bytes 0 to 383 (R528). -/
opaque Config.quoteSignatures : List (BitVec 8) → List (BitVec 8)
/-- The certificate of the device identity key, OD 0x2F30.03 (R510). -/
opaque Config.identityCertificate : List (BitVec 8)
/-- What R452 leaves open of its CRC-64: the initial value, the value added at the end, and whether bytes go in from their least significant bit. -/
opaque Config.crc64Init : BitVec 64
opaque Config.crc64Final : BitVec 64
opaque Config.crc64Reflected : Bool
/-- The etbTopoCnt of IEC 61375-2-3 over a train's consists in train order (R219, R225). -/
opaque Config.etbTopoCnt : List ConsistInfo → BitVec 32
/-- The TTDP frame of a backbone port: HELLO or TOPOLOGY, its source, the lines that are up, the connectivity table and the counter it
carries, in the formats of IEC 61375-2-5 (R213, R215). -/
opaque Config.ttdpFrame : Bool → BitVec 48 → BitVec 4 → List ConsistInfo → BitVec 32 → Frame
/-- The destination address and EtherType are TTDP's (R216). -/
opaque Config.isTtdp : BitVec 48 → BitVec 16 → Bool
/-- TTL, source port and UDP checksum of the telegrams the node sends (R241 gives only their sizes). -/
opaque Config.trdpTtl : BitVec 8
opaque Config.trdpPort : BitVec 16
opaque Config.trdpSum : Telegram → BitVec 16
/-- TRDP header and dataset of a telegram, in the format of IEC 61375-2-3 (R240). -/
opaque Config.trdpBytes : Telegram → List (BitVec 8)
/-- The sessionId of a node address and a count of sessions started (R261). -/
opaque Config.sessionId : BitVec 48 → BitVec 64 → BitVec 128
/-- The SDTv2 source identifier of an SMI, a consist UUID and an opTrnTopoCnt (R259). -/
opaque Config.sdtSid : BitVec 32 → BitVec 128 → BitVec 32 → BitVec 32
/-- The SDTv2 safety code over a SID, the vital data, the user data version and the safe sequence counter (R258). -/
opaque Config.sdtCode : BitVec 32 → List (BitVec 8) → BitVec 16 → BitVec 32 → BitVec 32
/-- The 16-byte SDTv2 trailer of a user data version, a safe sequence counter and a safety code, and these three as a receiver reads
them from a trailer (R258). -/
opaque Config.sdtTrailer : BitVec 16 → BitVec 32 → BitVec 32 → BitVec 128
opaque Config.sdtUdvOf : BitVec 128 → BitVec 16
opaque Config.sdtSeqOf : BitVec 128 → BitVec 32
opaque Config.sdtCodeOf : BitVec 128 → BitVec 32
/-- The consist information that a message telegram carries, in the format of IEC 61375-2-3: the consist's ETBN, and host number and MAC of each of
its devices; none for any other content (R220). -/
opaque Config.consistInfo : Telegram → Option (BitVec 48 × List (Nat × BitVec 48))
/-- Source port, UDP checksum and payload of the request datagram of a remote access: write or read, aperture offset, length and the data written
(R384 gives no format). -/
opaque Config.remotePort : BitVec 16
opaque Config.remoteSum : Bool → Nat → Nat → List (BitVec 8) → BitVec 16
opaque Config.remoteBytes : Bool → Nat → Nat → List (BitVec 8) → List (BitVec 8)
/-- PHASE of the event-queue entries of the first pass (R396). -/
opaque Config.eqFirstPhase : Bool
/-- Byte i of the payload of an event code's record, whose layout the spec does not give (R498). -/
opaque Config.payloadByte : Nat → List Nat → Nat → BitVec 8

/-- The level at which an image, in a role and a framing other than UART, leaves TXD between transmissions (R278, R290). -/
opaque Config.lineIdle : Nat → Nat → Nat → Bool

end Sys2Proof
end

