-- ==== Sys2Proof/Machine/Maps.lean ====
section
/-! DEFINITION. Sparse maps. A map is a list of (key, value) pairs whose keys rise strictly and none of whose values equals what
an unlisted key reads as, so equal maps are equal lists. `d` gives what an unlisted key reads as: the reset word of a register,
zero for a byte of buffer memory, the reset record of a port. -/

namespace Sys2Proof.Machine

/-- A sparse map from keys to values. -/
abbrev SMap (V : Type) := List (Nat × V)

/-- What key `k` reads as. -/
def SMap.get {V : Type} (d : Nat → V) : SMap V → Nat → V
  | [], k => d k
  | (a, v) :: t, k => if k = a then v else SMap.get d t k

/-- Insert a pair at its place, replacing an entry of the same key. -/
def SMap.insert {V : Type} (k : Nat) (v : V) : SMap V → SMap V
  | [] => [(k, v)]
  | (a, w) :: t => if k < a then (k, v) :: (a, w) :: t else if k = a then (k, v) :: t else (a, w) :: SMap.insert k v t

/-- Remove the entry of a key. -/
def SMap.erase {V : Type} (k : Nat) : SMap V → SMap V
  | [] => []
  | (a, w) :: t => if k = a then SMap.erase k t else (a, w) :: SMap.erase k t

/-- Make key `k` read as `v`. Writing what an unlisted key reads as removes the entry. -/
def SMap.set {V : Type} [DecidableEq V] (d : Nat → V) (m : SMap V) (k : Nat) (v : V) : SMap V :=
  if v = d k then SMap.erase k m else SMap.insert k v m

/-- The keys of the map exceed `lo` and rise strictly, and no entry holds the value of an unlisted key. -/
def SMap.wfFrom {V : Type} [DecidableEq V] (d : Nat → V) : Nat → SMap V → Bool
  | _, [] => true
  | lo, (a, v) :: t => decide (lo ≤ a) && decide (v ≠ d a) && SMap.wfFrom d (a + 1) t

/-- The map is in canonical form. -/
def SMap.wf {V : Type} [DecidableEq V] (d : Nat → V) (m : SMap V) : Bool := SMap.wfFrom d 0 m

/-- Apply a list of writes in order. -/
def SMap.setAll {V : Type} [DecidableEq V] (d : Nat → V) (m : SMap V) (ws : List (Nat × V)) : SMap V :=
  ws.foldl (fun m w => SMap.set d m w.1 w.2) m

/-- The entries whose key satisfies `p`. -/
def SMap.only {V : Type} (p : Nat → Bool) (m : SMap V) : SMap V := m.filter (fun e => p e.1)

/-- What an unlisted byte of buffer memory reads as (log entry 3). -/
def zeroByte : Nat → BitVec 8 := fun _ => 0#8

/-- `n` bytes from address `a`. -/
def SMap.bytes (m : SMap (BitVec 8)) (a : Nat) : Nat → List (BitVec 8)
  | 0 => []
  | n + 1 => SMap.get zeroByte m a :: SMap.bytes m (a + 1) n

/-- Store bytes from address `a` on. -/
def SMap.putBytes (m : SMap (BitVec 8)) (a : Nat) : List (BitVec 8) → SMap (BitVec 8)
  | [] => m
  | b :: t => SMap.putBytes (SMap.set zeroByte m a b) (a + 1) t

end Sys2Proof.Machine
end

