-- ==== Sys2Proof/Machine/Fields.lean ====
section
/-! DEFINITION. The fields of the node's registers (R4 and the register tables of files 03 to 20 of spec/), each under the
manual's own names: `F.<REGISTER>_<FIELD>`, or `F.<REGISTER>` where the register is one field. `Field.at` selects instance i
of a register that repeats. The counters `CNT_…` are given by their byte address. -/

namespace Sys2Proof.Machine

/-- A field of a 32-bit register: byte address of the (first) register, lowest bit, width, and the byte stride to the next
instance of a repeating register (R4, R8). -/
structure Field where
  addr : Nat
  lsb : Nat
  width : Nat
  stride : Nat := 4
  deriving DecidableEq, Repr

/-- Instance `i` of a repeating register's field. -/
def Field.at (f : Field) (i : Nat) : Field := ⟨f.addr + f.stride * i, f.lsb, f.width, f.stride⟩


/-! ### Block 0x0 (file 04/20 R93, R541) -/
abbrev F.DEV_ID : Field := ⟨0x0, 0, 32, 4⟩
abbrev F.STEPPING : Field := ⟨0x4, 0, 8, 4⟩
abbrev F.ISLAND_STATUS_IN_RESET : Field := ⟨0x8, 0, 11, 4⟩
abbrev CNT_XABORT : Nat := 0x10
abbrev CNT_PARTIAL_WR : Nat := 0x14
abbrev CNT_COMMIT_REFUSED : Nat := 0x18
abbrev CNT_ZERO_REFUSED : Nat := 0x1C
abbrev F.MAC_BASE_LO : Field := ⟨0x20, 0, 32, 4⟩
abbrev F.MAC_BASE_HI : Field := ⟨0x24, 0, 32, 4⟩
abbrev F.MC_LIST_GROUP3 : Field := ⟨0x100, 24, 8, 4⟩
abbrev F.MC_LIST_GROUP2 : Field := ⟨0x100, 16, 8, 4⟩
abbrev F.MC_LIST_GROUP1 : Field := ⟨0x100, 8, 8, 4⟩
abbrev F.MC_LIST_GROUP0 : Field := ⟨0x100, 0, 8, 4⟩
abbrev F.MSTOP_CMD_EXIT : Field := ⟨0x200, 1, 1, 4⟩
abbrev F.MSTOP_CMD_ENTER : Field := ⟨0x200, 0, 1, 4⟩
abbrev F.MSTOP_STATUS_FAIL_BLOCKS : Field := ⟨0x204, 16, 16, 4⟩
abbrev F.MSTOP_STATUS_PHASE : Field := ⟨0x204, 4, 4, 4⟩
abbrev F.MSTOP_STATUS_REFUSE : Field := ⟨0x204, 0, 4, 4⟩
abbrev F.MTEST_ADDR : Field := ⟨0x208, 0, 32, 4⟩
abbrev F.LOOP_CMD_GO : Field := ⟨0x240, 31, 1, 4⟩
abbrev F.LOOP_CMD_STOP : Field := ⟨0x240, 30, 1, 4⟩
abbrev F.LOOP_CMD_COUNT_SEL : Field := ⟨0x240, 4, 2, 4⟩
abbrev F.LOOP_CMD_LEN_SEL : Field := ⟨0x240, 2, 2, 4⟩
abbrev F.LOOP_CMD_MODE : Field := ⟨0x240, 0, 2, 4⟩
abbrev F.LOOP_RESULT_BUSY : Field := ⟨0x280, 31, 1, 8⟩
abbrev F.LOOP_RESULT_DONE : Field := ⟨0x280, 30, 1, 8⟩
abbrev F.LOOP_RESULT_ABORTED : Field := ⟨0x280, 29, 1, 8⟩
abbrev F.LOOP_RESULT_OK : Field := ⟨0x280, 0, 20, 8⟩
abbrev F.LOOP_BAD : Field := ⟨0x284, 0, 20, 8⟩
abbrev F.TEST_RESULT_ID : Field := ⟨0x400, 24, 8, 4⟩
abbrev F.TEST_RESULT_OUTCOME : Field := ⟨0x400, 20, 4, 4⟩
abbrev F.TEST_RESULT_DETAIL : Field := ⟨0x400, 0, 16, 4⟩

/-! ### Block 0x1 (file 05 R112, R144, R145) -/
abbrev F.TRL_STATUS_TOPO_SPEC : Field := ⟨0x100000, 16, 4, 4⟩
abbrev F.TRL_STATUS_TOPO_TAG : Field := ⟨0x100000, 12, 4, 4⟩
abbrev F.TRL_STATUS_PHASE_STATE : Field := ⟨0x100000, 8, 2, 4⟩
abbrev F.TRL_STATUS_ECC_HOLD : Field := ⟨0x100000, 2, 1, 4⟩
abbrev F.TRL_STATUS_TBL_BUSY : Field := ⟨0x100000, 1, 1, 4⟩
abbrev F.TRL_STATUS_RUNNING : Field := ⟨0x100000, 0, 1, 4⟩
abbrev F.CYCLE_IDX_IDX : Field := ⟨0x100004, 0, 13, 4⟩
abbrev F.HYPER_CNT : Field := ⟨0x100008, 0, 32, 4⟩
abbrev F.PHASE_ERR_ERR : Field := ⟨0x10000C, 0, 32, 4⟩
abbrev F.BASE_CYCLE : Field := ⟨0x100010, 0, 14, 4⟩
abbrev F.HYPER_PERIOD : Field := ⟨0x100014, 0, 21, 4⟩
abbrev F.ENTRY_COUNT : Field := ⟨0x100018, 0, 17, 4⟩
abbrev F.ORIGIN : Field := ⟨0x100020, 0, 32, 4⟩
abbrev F.GATE_BASE_PORT3 : Field := ⟨0x100030, 24, 8, 4⟩
abbrev F.GATE_BASE_PORT2 : Field := ⟨0x100030, 16, 8, 4⟩
abbrev F.GATE_BASE_PORT1 : Field := ⟨0x100030, 8, 8, 4⟩
abbrev F.GATE_BASE_PORT0 : Field := ⟨0x100030, 0, 8, 4⟩
abbrev F.SLOT_OWNER_SLOT7 : Field := ⟨0x100060, 28, 4, 4⟩
abbrev F.SLOT_OWNER_MIDSLOTS : Field := ⟨0x100060, 4, 24, 4⟩
abbrev F.SLOT_OWNER_SLOT0 : Field := ⟨0x100060, 0, 4, 4⟩
abbrev F.WIN_PAGE_PAGE : Field := ⟨0x100070, 0, 4, 4⟩
abbrev F.IRQ_TAG_TAG : Field := ⟨0x100074, 0, 16, 4⟩
abbrev CNT_WINDOW_OVERRUN : Nat := 0x100100
abbrev CNT_ACTION_SKIP : Nat := 0x100104
abbrev CNT_REPHASE : Nat := 0x100108
abbrev CNT_SCHED_ECC : Nat := 0x10010C
abbrev CNT_SCHED_ECC_CORR : Nat := 0x100110
abbrev CNT_TEST_FAIL : Nat := 0x100114
abbrev CNT_GATE_SPILL : Nat := 0x100118
abbrev F.OVERRUN_LAST_ENTRY : Field := ⟨0x100120, 0, 16, 4⟩

/-! ### Block 0x2 (file 06 R172 to R174) -/
abbrev F.SWC_STATUS_RETIRED : Field := ⟨0x200000, 8, 7, 4⟩
abbrev F.SWC_STATUS_SPEC : Field := ⟨0x200000, 0, 1, 4⟩
abbrev F.FREE_F : Field := ⟨0x200004, 0, 15, 4⟩
abbrev F.PHYS_FREE_CASKS : Field := ⟨0x200008, 0, 15, 4⟩
abbrev F.SCRUB_PASS : Field := ⟨0x20000C, 0, 32, 4⟩
abbrev F.ADDR_CFG_STATIC_COUNT : Field := ⟨0x200010, 16, 13, 4⟩
abbrev F.ADDR_CFG_AGE_SEL : Field := ⟨0x200010, 0, 3, 4⟩
abbrev F.ROUTER_MAC_MAC : Field := ⟨0x200014, 0, 32, 4⟩
abbrev F.ALPHA_CODES : Field := ⟨0x200020, 0, 32, 4⟩
abbrev F.PORT_CFG_FLOOD_MC : Field := ⟨0x200400, 18, 1, 4⟩
abbrev F.PORT_CFG_FLOOD_UC : Field := ⟨0x200400, 17, 1, 4⟩
abbrev F.PORT_CFG_LEARN : Field := ⟨0x200400, 16, 1, 4⟩
abbrev F.PORT_CFG_DEF_PCP : Field := ⟨0x200400, 12, 3, 4⟩
abbrev F.PORT_CFG_PVID : Field := ⟨0x200400, 0, 12, 4⟩
abbrev F.PCP_MAP_QUEUES : Field := ⟨0x200480, 0, 24, 4⟩
abbrev F.AGE : Field := ⟨0x200800, 0, 15, 4⟩
abbrev CNT_ADMIT_DROP (i : Nat) : Nat := 0x200C00 + 32 * i
abbrev CNT_AGED (i : Nat) : Nat := 0x200C04 + 32 * i
abbrev CNT_TAG_OVERSIZE (i : Nat) : Nat := 0x200C08 + 32 * i
abbrev CNT_LINK_FLUSH (i : Nat) : Nat := 0x200C0C + 32 * i
abbrev CNT_VLAN_DROP (i : Nat) : Nat := 0x200C10 + 32 * i
abbrev CNT_NO_DEST (i : Nat) : Nat := 0x200C14 + 32 * i
abbrev CNT_LEARN_FULL : Nat := 0x200F00
abbrev CNT_IP_HDR_ERR : Nat := 0x200F04
abbrev CNT_IP_SLOWPATH : Nat := 0x200F08
abbrev CNT_TTL_EXPIRED : Nat := 0x200F0C
abbrev CNT_NAT_MISS : Nat := 0x200F10
abbrev CNT_ROUTE_MISS : Nat := 0x200F14
abbrev CNT_BUF_ECC : Nat := 0x200F18
abbrev CNT_BUF_ECC_CORR : Nat := 0x200F1C
abbrev F.VLAN_FID : Field := ⟨0x210000, 20, 12, 8⟩
abbrev F.VLAN_MEMBER : Field := ⟨0x210000, 0, 19, 8⟩
abbrev F.VLAN_ROUTE : Field := ⟨0x210004, 20, 2, 8⟩
abbrev F.VLAN_UNTAG : Field := ⟨0x210004, 0, 19, 8⟩
abbrev F.RT_PREFIX : Field := ⟨0x218000, 0, 32, 16⟩
abbrev F.RT_MASK : Field := ⟨0x218004, 0, 32, 16⟩
abbrev F.RT_NH_MAC_LO : Field := ⟨0x218008, 0, 32, 16⟩
abbrev F.RT_VALID : Field := ⟨0x21800C, 31, 1, 16⟩
abbrev F.RT_VID : Field := ⟨0x21800C, 16, 12, 16⟩
abbrev F.RT_NH_MAC_HI : Field := ⟨0x21800C, 0, 16, 16⟩
abbrev F.ST_MAC_LO : Field := ⟨0x220000, 0, 32, 16⟩
abbrev F.ST_FID : Field := ⟨0x220004, 16, 12, 16⟩
abbrev F.ST_MAC_HI : Field := ⟨0x220004, 0, 16, 16⟩
abbrev F.ST_PORTS : Field := ⟨0x220008, 0, 19, 16⟩
abbrev F.ST_VALID : Field := ⟨0x22000C, 31, 1, 16⟩
abbrev F.ST_STATIC : Field := ⟨0x22000C, 30, 1, 16⟩
abbrev F.ST_AGE_S : Field := ⟨0x22000C, 0, 12, 16⟩
abbrev F.XL_LOCAL_IP : Field := ⟨0x230000, 0, 32, 16⟩
abbrev F.XL_TRAIN_IP : Field := ⟨0x230004, 0, 32, 16⟩
abbrev F.XL_DEV_MAC_LO : Field := ⟨0x230008, 0, 32, 16⟩
abbrev F.XL_VALID : Field := ⟨0x23000C, 31, 1, 16⟩
abbrev F.XL_VID : Field := ⟨0x23000C, 16, 12, 16⟩
abbrev F.XL_DEV_MAC_HI : Field := ⟨0x23000C, 0, 16, 16⟩

/-! ### Block 0x3 (file 07 R207 to R210) -/
abbrev F.LINK_SUMMARY_UP : Field := ⟨0x300000, 0, 16, 4⟩
abbrev F.BYPASS_CTRL_SETTLE_SEL : Field := ⟨0x300004, 4, 2, 4⟩
abbrev F.BYPASS_CTRL_WARM_HOLD : Field := ⟨0x300004, 2, 1, 4⟩
abbrev F.BYPASS_CTRL_INSERT_B : Field := ⟨0x300004, 1, 1, 4⟩
abbrev F.BYPASS_CTRL_INSERT_A : Field := ⟨0x300004, 0, 1, 4⟩
abbrev F.BYPASS_STATUS_CAUSE_B : Field := ⟨0x300008, 8, 4, 4⟩
abbrev F.BYPASS_STATUS_CAUSE_A : Field := ⟨0x300008, 4, 4, 4⟩
abbrev F.BYPASS_STATUS_SETTLE_B : Field := ⟨0x300008, 3, 1, 4⟩
abbrev F.BYPASS_STATUS_SETTLE_A : Field := ⟨0x300008, 2, 1, 4⟩
abbrev F.BYPASS_STATUS_DRV_B : Field := ⟨0x300008, 1, 1, 4⟩
abbrev F.BYPASS_STATUS_DRV_A : Field := ⟨0x300008, 0, 1, 4⟩
abbrev F.SNAP_CMD_GO : Field := ⟨0x30000C, 31, 1, 4⟩
abbrev F.SNAP_CMD_IRQ : Field := ⟨0x30000C, 9, 1, 4⟩
abbrev F.SNAP_CMD_ALL : Field := ⟨0x30000C, 8, 1, 4⟩
abbrev F.SNAP_CMD_PORT : Field := ⟨0x30000C, 0, 5, 4⟩
abbrev F.SNAP_STATUS_SEQ : Field := ⟨0x300010, 16, 16, 4⟩
abbrev F.SNAP_STATUS_BUSY : Field := ⟨0x300010, 15, 1, 4⟩
abbrev F.SNAP_STATUS_LAST_ALL : Field := ⟨0x300010, 8, 1, 4⟩
abbrev F.SNAP_STATUS_LAST_PORT : Field := ⟨0x300010, 0, 5, 4⟩
abbrev F.WAKE_EMIT_ACTIVE : Field := ⟨0x300014, 4, 4, 4⟩
abbrev F.WAKE_EMIT_EMIT : Field := ⟨0x300014, 0, 4, 4⟩
abbrev CNT_WAKE_REFUSED : Nat := 0x300040
abbrev F.PORT_MODE_ROLE : Field := ⟨0x300100, 9, 2, 32⟩
abbrev F.PORT_MODE_AN_EN : Field := ⟨0x300100, 8, 1, 32⟩
abbrev F.PORT_MODE_MODE : Field := ⟨0x300100, 0, 4, 32⟩
abbrev F.MAX_FRAME : Field := ⟨0x300104, 0, 14, 32⟩
abbrev F.LINK_CFG_DN_SEL : Field := ⟨0x300108, 4, 3, 32⟩
abbrev F.LINK_CFG_UP_SEL : Field := ⟨0x300108, 0, 3, 32⟩
abbrev F.LINK_STATUS_SETTLE : Field := ⟨0x30010C, 13, 1, 32⟩
abbrev F.LINK_STATUS_REMOTE_RX_OK : Field := ⟨0x30010C, 12, 1, 32⟩
abbrev F.LINK_STATUS_LOCAL_RX_OK : Field := ⟨0x30010C, 11, 1, 32⟩
abbrev F.LINK_STATUS_SQI : Field := ⟨0x30010C, 8, 3, 32⟩
abbrev F.LINK_STATUS_AN_DONE : Field := ⟨0x30010C, 7, 1, 32⟩
abbrev F.LINK_STATUS_HALF : Field := ⟨0x30010C, 6, 1, 32⟩
abbrev F.LINK_STATUS_MDIX : Field := ⟨0x30010C, 5, 1, 32⟩
abbrev F.LINK_STATUS_MASTER : Field := ⟨0x30010C, 4, 1, 32⟩
abbrev F.LINK_STATUS_SPEED : Field := ⟨0x30010C, 1, 3, 32⟩
abbrev F.LINK_STATUS_UP : Field := ⟨0x30010C, 0, 1, 32⟩
abbrev CNT_RX_FRAMES (i : Nat) : Nat := 0x302000 + 64 * i
abbrev CNT_RX_OCTETS (i : Nat) : Nat := 0x302004 + 64 * i
abbrev CNT_RX_MCAST (i : Nat) : Nat := 0x302008 + 64 * i
abbrev CNT_RUNT (i : Nat) : Nat := 0x30200C + 64 * i
abbrev CNT_OVERSIZE (i : Nat) : Nat := 0x302010 + 64 * i
abbrev CNT_FCS_ERR (i : Nat) : Nat := 0x302014 + 64 * i
abbrev CNT_SYMBOL_ERR (i : Nat) : Nat := 0x302018 + 64 * i
abbrev CNT_MAC_CTRL (i : Nat) : Nat := 0x30201C + 64 * i
abbrev CNT_RX_TRUNC (i : Nat) : Nat := 0x302020 + 64 * i
abbrev CNT_TX_FRAMES (i : Nat) : Nat := 0x302024 + 64 * i
abbrev CNT_TX_OCTETS (i : Nat) : Nat := 0x302028 + 64 * i
abbrev CNT_COLL (i : Nat) : Nat := 0x30202C + 64 * i
abbrev CNT_LATE_COLL (i : Nat) : Nat := 0x302030 + 64 * i
abbrev CNT_EXCESS_COLL (i : Nat) : Nat := 0x302034 + 64 * i
abbrev CNT_LINK_DOWN (i : Nat) : Nat := 0x302038 + 64 * i
abbrev CNT_LINK_GLITCH (i : Nat) : Nat := 0x30203C + 64 * i
abbrev F.SNAP_BANK : Field := ⟨0x303000, 0, 32, 4⟩

/-! ### Block 0x4 (file 08 R236 to R238) -/
abbrev F.INA_STATUS_CONSISTS : Field := ⟨0x400000, 26, 6, 4⟩
abbrev F.INA_STATUS_OWN_NO : Field := ⟨0x400000, 20, 6, 4⟩
abbrev F.INA_STATUS_ORIENT : Field := ⟨0x400000, 19, 1, 4⟩
abbrev F.INA_STATUS_STATE : Field := ⟨0x400000, 12, 4, 4⟩
abbrev F.INA_STATUS_SPEC_KIND : Field := ⟨0x400000, 8, 4, 4⟩
abbrev F.INA_STATUS_D2_B : Field := ⟨0x400000, 7, 1, 4⟩
abbrev F.INA_STATUS_D2_A : Field := ⟨0x400000, 6, 1, 4⟩
abbrev F.INA_STATUS_D1_B : Field := ⟨0x400000, 5, 1, 4⟩
abbrev F.INA_STATUS_D1_A : Field := ⟨0x400000, 4, 1, 4⟩
abbrev F.ETB_TOPO_CNT : Field := ⟨0x400004, 0, 32, 4⟩
abbrev F.SPEC_TOPO_CNT : Field := ⟨0x400008, 0, 32, 4⟩
abbrev F.INAUG_CNT : Field := ⟨0x40000C, 0, 32, 4⟩
abbrev F.INA_CFG_VARIANT_COUNT : Field := ⟨0x400010, 16, 6, 4⟩
abbrev F.INA_CFG_HELLO_SEL : Field := ⟨0x400010, 8, 2, 4⟩
abbrev F.NET_BASE_BASE : Field := ⟨0x400014, 0, 32, 4⟩
abbrev F.ADDR_FMT_SUBNET_SHIFT : Field := ⟨0x400018, 0, 5, 4⟩
abbrev F.VARIANT_AVAIL : Field := ⟨0x40001C, 0, 6, 4⟩
abbrev CNT_LEES_DISCARD : Nat := 0x400100
abbrev CNT_LEES_FULL : Nat := 0x400104
abbrev CNT_LEES_AGED : Nat := 0x400108
abbrev CNT_TOPO_AMBIG : Nat := 0x40010C
abbrev CNT_RECOMPUTE : Nat := 0x400110
abbrev CNT_RECOMPUTE_DROP : Nat := 0x400114
abbrev CNT_INAUG : Nat := 0x400118
abbrev CNT_TTDP_ERR : Nat := 0x40011C
abbrev F.CON_ETBN_MAC_LO : Field := ⟨0x410000, 0, 32, 16⟩
abbrev F.CON_VALID : Field := ⟨0x410004, 31, 1, 16⟩
abbrev F.CON_ORIENT : Field := ⟨0x410004, 30, 1, 16⟩
abbrev F.CON_LINES : Field := ⟨0x410004, 16, 2, 16⟩
abbrev F.CON_ETBN_MAC_HI : Field := ⟨0x410004, 0, 16, 16⟩
abbrev F.CON_PREFIX : Field := ⟨0x410008, 0, 32, 16⟩
abbrev F.CON_DEVICES : Field := ⟨0x41000C, 0, 13, 16⟩
abbrev F.DEVE_TRAIN_IP : Field := ⟨0x420000, 0, 32, 16⟩
abbrev F.DEVE_LOCAL_IP : Field := ⟨0x420004, 0, 32, 16⟩
abbrev F.DEVE_MAC_LO : Field := ⟨0x420008, 0, 32, 16⟩
abbrev F.DEVE_VALID : Field := ⟨0x42000C, 31, 1, 16⟩
abbrev F.DEVE_OWN : Field := ⟨0x42000C, 30, 1, 16⟩
abbrev F.DEVE_CONSIST : Field := ⟨0x42000C, 24, 6, 16⟩
abbrev F.DEVE_MAC_HI : Field := ⟨0x42000C, 0, 16, 16⟩

/-! ### Block 0x5 (file 09 R243 to R266) -/
abbrev F.PDF_STATUS_OP_GRACE : Field := ⟨0x500000, 17, 2, 4⟩
abbrev F.PDF_STATUS_GRACE : Field := ⟨0x500000, 15, 2, 4⟩
abbrev F.PDF_STATUS_SPEC : Field := ⟨0x500000, 14, 1, 4⟩
abbrev F.PDF_STATUS_ACTIVE : Field := ⟨0x500000, 0, 11, 4⟩
abbrev F.ETB_CNT_CUR : Field := ⟨0x500004, 0, 32, 4⟩
abbrev F.ETB_CNT_PREV : Field := ⟨0x500008, 0, 32, 4⟩
abbrev F.OP_CNT_CUR : Field := ⟨0x50000C, 0, 32, 4⟩
abbrev F.OP_CNT_PREV : Field := ⟨0x500010, 0, 32, 4⟩
abbrev F.PD_LOCAL_IP : Field := ⟨0x500014, 0, 32, 4⟩
abbrev F.DS_PAGE : Field := ⟨0x500018, 0, 4, 4⟩
abbrev F.MSG_CMD_GO : Field := ⟨0x50001C, 31, 1, 4⟩
abbrev F.MSG_CMD_PULL : Field := ⟨0x50001C, 30, 1, 4⟩
abbrev F.MSG_CMD_CTX : Field := ⟨0x50001C, 16, 10, 4⟩
abbrev F.MSG_CMD_SESSION : Field := ⟨0x50001C, 8, 8, 4⟩
abbrev CNT_PD_TX : Nat := 0x500100
abbrev CNT_PD_RX : Nat := 0x500104
abbrev CNT_PD_NOT_READY : Nat := 0x500108
abbrev CNT_PD_INACTIVE : Nat := 0x50010C
abbrev CNT_PD_NO_MAC : Nat := 0x500110
abbrev CNT_PD_HDR_ERR : Nat := 0x500114
abbrev CNT_PD_NO_CTX : Nat := 0x500118
abbrev CNT_PD_LEN_ERR : Nat := 0x50011C
abbrev CNT_TOPO_STALE : Nat := 0x500120
abbrev CNT_PD_DUP : Nat := 0x500124
abbrev CNT_SDT_ERR : Nat := 0x500128
abbrev CNT_PD_TIMEOUT : Nat := 0x50012C
abbrev CNT_MD_TX : Nat := 0x500130
abbrev CNT_MD_RETRY : Nat := 0x500134
abbrev CNT_MD_TIMEOUT : Nat := 0x500138
abbrev CNT_MD_DUP : Nat := 0x50013C
abbrev CNT_MD_BUSY : Nat := 0x500140
abbrev CNT_MD_OVERSIZE : Nat := 0x500144
abbrev CNT_MD_RX_UNMATCHED : Nat := 0x500148
abbrev F.CTX_VALID : Field := ⟨0x510000, 31, 1, 32⟩
abbrev F.CTX_ROLE : Field := ⟨0x510000, 28, 3, 32⟩
abbrev F.CTX_TOPO : Field := ⟨0x510000, 24, 4, 32⟩
abbrev F.CTX_COMPARED : Field := ⟨0x510000, 23, 1, 32⟩
abbrev F.CTX_PULL_EN : Field := ⟨0x510000, 22, 1, 32⟩
abbrev F.CTX_CNT_MODE : Field := ⟨0x510000, 20, 2, 32⟩
abbrev F.CTX_STRICT : Field := ⟨0x510000, 19, 1, 32⟩
abbrev F.CTX_SDT_EN : Field := ⟨0x510000, 18, 1, 32⟩
abbrev F.CTX_SDT_PAR : Field := ⟨0x510000, 12, 6, 32⟩
abbrev F.CTX_INHERIT_EN : Field := ⟨0x510000, 11, 1, 32⟩
abbrev F.CTX_INHERIT : Field := ⟨0x510000, 0, 10, 32⟩
abbrev F.CTX_COM_ID : Field := ⟨0x510004, 0, 32, 32⟩
abbrev F.CTX_PEER_IP : Field := ⟨0x510008, 0, 32, 32⟩
abbrev F.CTX_ADDR_MODE : Field := ⟨0x51000C, 30, 2, 32⟩
abbrev F.CTX_CONSIST : Field := ⟨0x51000C, 24, 6, 32⟩
abbrev F.CTX_PCP : Field := ⟨0x51000C, 21, 3, 32⟩
abbrev F.CTX_VID : Field := ⟨0x51000C, 0, 12, 32⟩
abbrev F.CTX_CYCLE : Field := ⟨0x510010, 0, 21, 32⟩
abbrev F.CTX_TIMEOUT : Field := ⟨0x510014, 0, 21, 32⟩
abbrev F.CTX_TO_ACTION : Field := ⟨0x510018, 30, 2, 32⟩
abbrev F.CTX_DS_LEN : Field := ⟨0x510018, 16, 11, 32⟩
abbrev F.CTX_DS_BASE : Field := ⟨0x510018, 0, 15, 32⟩
abbrev F.CST_SEQ : Field := ⟨0x518000, 0, 32, 16⟩
abbrev F.CST_ACTIVE : Field := ⟨0x518004, 31, 1, 16⟩
abbrev F.CST_TIMED_OUT : Field := ⟨0x518004, 30, 1, 16⟩
abbrev F.CST_NEVER : Field := ⟨0x518004, 29, 1, 16⟩
abbrev F.CST_SDT_OK : Field := ⟨0x518004, 28, 1, 16⟩
abbrev F.CST_FRONT : Field := ⟨0x518004, 27, 1, 16⟩
abbrev F.CST_NEW : Field := ⟨0x518004, 26, 1, 16⟩
abbrev F.CST_SRC_IP : Field := ⟨0x518008, 0, 32, 16⟩
abbrev F.CST_AGE : Field := ⟨0x51800C, 0, 32, 16⟩
abbrev F.SES_VALID : Field := ⟨0x520000, 31, 1, 32⟩
abbrev F.SES_KIND : Field := ⟨0x520000, 29, 2, 32⟩
abbrev F.SES_ROLE : Field := ⟨0x520000, 28, 1, 32⟩
abbrev F.SES_OWNER : Field := ⟨0x520000, 26, 2, 32⟩
abbrev F.SES_CNT_MODE : Field := ⟨0x520000, 24, 2, 32⟩
abbrev F.SES_PCP : Field := ⟨0x520000, 21, 3, 32⟩
abbrev F.SES_RETRIES : Field := ⟨0x520000, 16, 4, 32⟩
abbrev F.SES_REPLY_TO : Field := ⟨0x520000, 0, 16, 32⟩
abbrev F.SES_COM_ID : Field := ⟨0x520004, 0, 32, 32⟩
abbrev F.SES_PEER_IP : Field := ⟨0x520008, 0, 32, 32⟩
abbrev F.SES_ADDR_MODE_CONSIST : Field := ⟨0x52000C, 24, 8, 32⟩
abbrev F.SES_VID : Field := ⟨0x52000C, 0, 12, 32⟩
abbrev F.SES_BUF_BASE : Field := ⟨0x520010, 0, 15, 32⟩
abbrev F.SES_REPLY_COM_ID : Field := ⟨0x520014, 0, 32, 32⟩
abbrev F.SST_SEQ : Field := ⟨0x524000, 0, 32, 16⟩
abbrev F.SST_STATE : Field := ⟨0x524004, 0, 4, 16⟩
abbrev F.SST_LEN : Field := ⟨0x524008, 0, 32, 16⟩
abbrev F.SST_SRC : Field := ⟨0x52400C, 0, 32, 16⟩
abbrev F.SDT_SMI : Field := ⟨0x530000, 0, 32, 16⟩
abbrev F.SDT_UDV : Field := ⟨0x530004, 16, 16, 16⟩
abbrev F.SDT_RXSAFE : Field := ⟨0x530004, 0, 3, 16⟩

/-! ### Block 0x6 (file 10 R299, R300) -/
abbrev F.PRS_STATUS_FAILED : Field := ⟨0x600000, 16, 16, 4⟩
abbrev F.PRS_STATUS_RUN : Field := ⟨0x600000, 0, 16, 4⟩
abbrev F.PP_SPLIT_CODE : Field := ⟨0x600004, 0, 3, 4⟩
abbrev F.PRESS_CMD_GO : Field := ⟨0x600008, 7, 1, 4⟩
abbrev F.PRESS_CMD_OP : Field := ⟨0x600008, 4, 3, 4⟩
abbrev F.PRESS_CMD_PRESS : Field := ⟨0x600008, 0, 4, 4⟩
abbrev F.PRESS_CFG_ENABLE : Field := ⟨0x600100, 31, 1, 16⟩
abbrev F.PRESS_CFG_AUTO_RELOAD : Field := ⟨0x600100, 30, 1, 16⟩
abbrev F.PRESS_CFG_DED_PORT : Field := ⟨0x600100, 24, 5, 16⟩
abbrev F.PRESS_CFG_ROLE : Field := ⟨0x600100, 16, 4, 16⟩
abbrev F.PRESS_CFG_IMAGE : Field := ⟨0x600100, 0, 16, 16⟩
abbrev F.PRESS_CFG_OUT_OFS : Field := ⟨0x600104, 16, 9, 16⟩
abbrev F.PRESS_CFG_WIN_LEN : Field := ⟨0x600104, 0, 9, 16⟩
abbrev F.PRESS_CFG_PP_PCP : Field := ⟨0x600108, 0, 3, 16⟩
abbrev F.LU_CFG_OWNER : Field := ⟨0x600200, 28, 4, 4⟩
abbrev F.LU_CFG_FRAMING : Field := ⟨0x600200, 25, 3, 4⟩
abbrev F.LU_CFG_RATE : Field := ⟨0x600200, 0, 25, 4⟩
abbrev F.CAN_OWN_OWNER3 : Field := ⟨0x600280, 24, 5, 4⟩
abbrev F.CAN_OWN_OWNER2 : Field := ⟨0x600280, 16, 5, 4⟩
abbrev F.CAN_OWN_OWNER1 : Field := ⟨0x600280, 8, 5, 4⟩
abbrev F.CAN_OWN_OWNER0 : Field := ⟨0x600280, 0, 5, 4⟩
abbrev F.PRESS_STATE_LAST_CAUSE : Field := ⟨0x600300, 24, 8, 4⟩
abbrev F.PRESS_STATE_AUTO_USED : Field := ⟨0x600300, 8, 2, 4⟩
abbrev F.PRESS_STATE_STATE : Field := ⟨0x600300, 0, 4, 4⟩
abbrev F.PRESS_VER_IMAGE : Field := ⟨0x600340, 16, 16, 4⟩
abbrev F.PRESS_VER_VERSION : Field := ⟨0x600340, 0, 16, 4⟩
abbrev CNT_START_STOPPED (i : Nat) : Nat := 0x600400 + 32 * i
abbrev CNT_PP_RX_DROP (i : Nat) : Nat := 0x600404 + 32 * i
abbrev CNT_DED_TX_DROP (i : Nat) : Nat := 0x600408 + 32 * i
abbrev CNT_CAN_FLUSH (i : Nat) : Nat := 0x60040C + 32 * i
abbrev CNT_SRAM_CORR (i : Nat) : Nat := 0x600410 + 32 * i
abbrev CNT_PRS_FAULT (i : Nat) : Nat := 0x600414 + 32 * i
abbrev CNT_PRS_RELOAD (i : Nat) : Nat := 0x600418 + 32 * i
abbrev CNT_IMG_WR_DROP (i : Nat) : Nat := 0x60041C + 32 * i
abbrev CNT_PP_NO_PRESS : Nat := 0x600600
abbrev CNT_FW_ERR (i : Nat) : Nat := 0x600700 + 4 * i
abbrev F.DISP_VALID : Field := ⟨0x601000, 31, 1, 8⟩
abbrev F.DISP_KIND : Field := ⟨0x601000, 28, 3, 8⟩
abbrev F.DISP_PRESS : Field := ⟨0x601000, 16, 4, 8⟩
abbrev F.DISP_VALUE : Field := ⟨0x601000, 0, 16, 8⟩
abbrev F.DISP_VID : Field := ⟨0x601004, 0, 12, 8⟩

/-! ### Block 0x7 (file 11 R314, R325, R326) -/
abbrev F.CAN_SUMMARY_OWNED : Field := ⟨0x700000, 16, 8, 4⟩
abbrev F.CAN_SUMMARY_PASSIVE : Field := ⟨0x700000, 8, 8, 4⟩
abbrev F.CAN_SUMMARY_BUSOFF : Field := ⟨0x700000, 0, 8, 4⟩
abbrev F.CAN_CMD_GO : Field := ⟨0x700008, 7, 1, 4⟩
abbrev F.CAN_CMD_OP : Field := ⟨0x700008, 4, 3, 4⟩
abbrev F.CAN_CMD_CTRL : Field := ⟨0x700008, 0, 3, 4⟩
abbrev F.NBT_NBRP : Field := ⟨0x701000, 27, 5, 256⟩
abbrev F.NBT_NTSEG1 : Field := ⟨0x701000, 19, 8, 256⟩
abbrev F.NBT_NTSEG2 : Field := ⟨0x701000, 12, 7, 256⟩
abbrev F.NBT_NSJW : Field := ⟨0x701000, 0, 7, 256⟩
abbrev F.DBT_DBRP : Field := ⟨0x701004, 27, 5, 256⟩
abbrev F.DBT_DTSEG1 : Field := ⟨0x701004, 16, 5, 256⟩
abbrev F.DBT_DTSEG2 : Field := ⟨0x701004, 12, 4, 256⟩
abbrev F.DBT_DSJW : Field := ⟨0x701004, 8, 4, 256⟩
abbrev F.DBT_TDCO : Field := ⟨0x701004, 0, 7, 256⟩
abbrev F.CAN_CFG_TDC_EN : Field := ⟨0x701008, 5, 1, 256⟩
abbrev F.CAN_CFG_PEX : Field := ⟨0x701008, 4, 1, 256⟩
abbrev F.CAN_CFG_FD_EN : Field := ⟨0x701008, 3, 1, 256⟩
abbrev F.CAN_CFG_AUTO_RECOV : Field := ⟨0x701008, 2, 1, 256⟩
abbrev F.CAN_CFG_MODE : Field := ⟨0x701008, 0, 2, 256⟩
abbrev F.REF_CFG_REF_EN : Field := ⟨0x70100C, 31, 1, 256⟩
abbrev F.REF_CFG_REF_IDE : Field := ⟨0x70100C, 30, 1, 256⟩
abbrev F.REF_CFG_REF_ID : Field := ⟨0x70100C, 0, 29, 256⟩
abbrev F.MB_DIR_LO_DIR : Field := ⟨0x701010, 0, 32, 256⟩
abbrev F.MB_DIR_HI_DIR : Field := ⟨0x701014, 0, 32, 256⟩
abbrev F.CAN_STATUS_RECOV_CNT : Field := ⟨0x701020, 24, 8, 256⟩
abbrev F.CAN_STATUS_EFF_MODE : Field := ⟨0x701020, 22, 2, 256⟩
abbrev F.CAN_STATUS_TX_LEVEL : Field := ⟨0x701020, 16, 6, 256⟩
abbrev F.CAN_STATUS_RX_LEVEL : Field := ⟨0x701020, 8, 8, 256⟩
abbrev F.CAN_STATUS_IDC : Field := ⟨0x701020, 7, 1, 256⟩
abbrev F.CAN_STATUS_TX_HELD : Field := ⟨0x701020, 6, 1, 256⟩
abbrev F.CAN_STATUS_LAST_ERR : Field := ⟨0x701020, 3, 3, 256⟩
abbrev F.CAN_STATUS_STATE : Field := ⟨0x701020, 0, 3, 256⟩
abbrev F.ERR_CNT_REC : Field := ⟨0x701024, 16, 8, 256⟩
abbrev F.ERR_CNT_TEC : Field := ⟨0x701024, 0, 9, 256⟩
abbrev F.REF_CAPTURE_LO : Field := ⟨0x701028, 0, 32, 256⟩
abbrev F.REF_CAPTURE_HI : Field := ⟨0x70102C, 0, 32, 256⟩
abbrev F.REF_SEQ : Field := ⟨0x701030, 0, 32, 256⟩
abbrev F.IDC_ID : Field := ⟨0x701034, 0, 32, 256⟩
abbrev CNT_CAN_TX (i : Nat) : Nat := 0x701040 + 256 * i
abbrev CNT_CAN_RX (i : Nat) : Nat := 0x701044 + 256 * i
abbrev CNT_CAN_RX_OVF (i : Nat) : Nat := 0x701048 + 256 * i
abbrev CNT_CAN_CANCEL (i : Nat) : Nat := 0x70104C + 256 * i
abbrev CNT_CAN_ARB_LOST (i : Nat) : Nat := 0x701050 + 256 * i
abbrev CNT_CAN_TX_ERR (i : Nat) : Nat := 0x701054 + 256 * i
abbrev CNT_CAN_RX_ERR (i : Nat) : Nat := 0x701058 + 256 * i
abbrev CNT_CAN_BUSOFF (i : Nat) : Nat := 0x70105C + 256 * i
abbrev CNT_CAN_IDCOLL (i : Nat) : Nat := 0x701060 + 256 * i
abbrev CNT_CAN_REF_MISS (i : Nat) : Nat := 0x701064 + 256 * i
abbrev CNT_MB_WR_DROP (i : Nat) : Nat := 0x701068 + 256 * i
abbrev CNT_CAN_TX_FULL (i : Nat) : Nat := 0x70106C + 256 * i
abbrev F.MB_NEW : Field := ⟨0x740000, 31, 1, 128⟩
abbrev F.MB_WIP : Field := ⟨0x740000, 30, 1, 128⟩
abbrev F.MB_DIR : Field := ⟨0x740000, 29, 1, 128⟩
abbrev F.MB_UPD : Field := ⟨0x740000, 0, 16, 128⟩
abbrev F.MB_ACK_UPD : Field := ⟨0x740004, 0, 16, 128⟩
abbrev F.MB_IDE : Field := ⟨0x740008, 31, 1, 128⟩
abbrev F.MB_FDF : Field := ⟨0x740008, 30, 1, 128⟩
abbrev F.MB_BRS : Field := ⟨0x740008, 29, 1, 128⟩
abbrev F.MB_ID : Field := ⟨0x740008, 0, 29, 128⟩
abbrev F.MB_ESI : Field := ⟨0x74000C, 31, 1, 128⟩
abbrev F.MB_RTR : Field := ⟨0x74000C, 30, 1, 128⟩
abbrev F.MB_DLC : Field := ⟨0x74000C, 0, 4, 128⟩
abbrev F.MB_STAMP0 : Field := ⟨0x740010, 0, 32, 128⟩
abbrev F.MB_STAMP1 : Field := ⟨0x740014, 0, 32, 128⟩
abbrev F.MB_DATA0 : Field := ⟨0x740020, 0, 32, 128⟩
abbrev F.MB_DATA1 : Field := ⟨0x740024, 0, 32, 128⟩
abbrev F.MB_DATA2 : Field := ⟨0x740028, 0, 32, 128⟩
abbrev F.MB_DATA3 : Field := ⟨0x74002C, 0, 32, 128⟩
abbrev F.MB_DATA4 : Field := ⟨0x740030, 0, 32, 128⟩
abbrev F.MB_DATA5 : Field := ⟨0x740034, 0, 32, 128⟩
abbrev F.MB_DATA6 : Field := ⟨0x740038, 0, 32, 128⟩
abbrev F.MB_DATA7 : Field := ⟨0x74003C, 0, 32, 128⟩
abbrev F.MB_DATA8 : Field := ⟨0x740040, 0, 32, 128⟩
abbrev F.MB_DATA9 : Field := ⟨0x740044, 0, 32, 128⟩
abbrev F.MB_DATA10 : Field := ⟨0x740048, 0, 32, 128⟩
abbrev F.MB_DATA11 : Field := ⟨0x74004C, 0, 32, 128⟩
abbrev F.MB_DATA12 : Field := ⟨0x740050, 0, 32, 128⟩
abbrev F.MB_DATA13 : Field := ⟨0x740054, 0, 32, 128⟩
abbrev F.MB_DATA14 : Field := ⟨0x740058, 0, 32, 128⟩
abbrev F.MB_DATA15 : Field := ⟨0x74005C, 0, 32, 128⟩

/-! ### Block 0x8 (file 12 R350 to R352) -/
abbrev F.BLD_STATUS_SPEC : Field := ⟨0x800000, 2, 1, 4⟩
abbrev F.BLD_STATUS_TBL_BUSY : Field := ⟨0x800000, 1, 1, 4⟩
abbrev F.BLD_STATUS_RUNNING : Field := ⟨0x800000, 0, 1, 4⟩
abbrev F.BCNT : Field := ⟨0x800004, 0, 32, 4⟩
abbrev F.TBL_PAGE_PAGE : Field := ⟨0x800008, 0, 6, 4⟩
abbrev F.QA_PAGE_PAGE : Field := ⟨0x80000C, 0, 3, 4⟩
abbrev CNT_BLD_INCONS : Nat := 0x800100
abbrev CNT_BLD_SRC_BAD : Nat := 0x800104
abbrev CNT_BLD_STALE : Nat := 0x800108
abbrev CNT_BLD_SAT : Nat := 0x80010C
abbrev CNT_BLD_NAN : Nat := 0x800110
abbrev CNT_BLD_ECC : Nat := 0x800114
abbrev CNT_BLD_ECC_CORR : Nat := 0x800118
abbrev CNT_SIG_ECC : Nat := 0x80011C
abbrev CNT_HOST_WR_DROP : Nat := 0x800120
abbrev CNT_SIG_WR_DROP : Nat := 0x800124
abbrev F.JOB_CONSUME : Field := ⟨0x810000, 31, 1, 8⟩
abbrev F.JOB_TOPO : Field := ⟨0x810000, 24, 4, 8⟩
abbrev F.JOB_FIRST : Field := ⟨0x810000, 0, 18, 8⟩
abbrev F.JOB : Field := ⟨0x810004, 0, 19, 8⟩
abbrev F.HC_HADDR_LO : Field := ⟨0x818000, 0, 32, 16⟩
abbrev F.HC_HADDR_HI : Field := ⟨0x818004, 0, 32, 16⟩
abbrev F.HC_VALID : Field := ⟨0x818008, 31, 1, 16⟩
abbrev F.HC_DIR : Field := ⟨0x818008, 30, 1, 16⟩
abbrev F.HC_LEN_M1 : Field := ⟨0x818008, 0, 6, 16⟩

/-! ### Block 0x9 (file 13 R375, R376) -/
abbrev F.TIME_STATUS_RUNNING : Field := ⟨0x900000, 7, 1, 4⟩
abbrev F.TIME_STATUS_CLK10_OK : Field := ⟨0x900000, 6, 1, 4⟩
abbrev F.TIME_STATUS_PPS_IN_OK : Field := ⟨0x900000, 5, 1, 4⟩
abbrev F.TIME_STATUS_SLEWING : Field := ⟨0x900000, 4, 1, 4⟩
abbrev F.TIME_STATUS_SOURCE : Field := ⟨0x900000, 0, 2, 4⟩
abbrev F.TIME_CFG_TC_FOREIGN : Field := ⟨0x900004, 5, 1, 4⟩
abbrev F.TIME_CFG_REVERT : Field := ⟨0x900004, 4, 1, 4⟩
abbrev F.TIME_CFG_PPS_OUT_EN : Field := ⟨0x900004, 3, 1, 4⟩
abbrev F.TIME_CFG_CLK_SRC : Field := ⟨0x900004, 2, 1, 4⟩
abbrev F.TIME_CFG_PRIMARY : Field := ⟨0x900004, 0, 1, 4⟩
abbrev F.RAW_LO : Field := ⟨0x900008, 0, 32, 4⟩
abbrev F.RAW_HI : Field := ⟨0x90000C, 0, 32, 4⟩
abbrev F.PPS_CAP_LO : Field := ⟨0x900010, 0, 32, 4⟩
abbrev F.PPS_CAP_HI : Field := ⟨0x900014, 0, 32, 4⟩
abbrev F.PPS_SEQ : Field := ⟨0x900018, 0, 32, 4⟩
abbrev F.DOM_CFG_ENABLE : Field := ⟨0x900100, 31, 1, 64⟩
abbrev F.DOM_CFG_PROFILE : Field := ⟨0x900100, 29, 2, 64⟩
abbrev F.DOM_CFG_TRANSPORT : Field := ⟨0x900100, 28, 1, 64⟩
abbrev F.DOM_CFG_ROLE : Field := ⟨0x900100, 27, 1, 64⟩
abbrev F.DOM_CFG_GM_PPS : Field := ⟨0x900100, 26, 1, 64⟩
abbrev F.DOM_CFG_LOSS_SEL : Field := ⟨0x900100, 24, 2, 64⟩
abbrev F.DOM_CFG_DOMAIN_NUM : Field := ⟨0x900100, 16, 8, 64⟩
abbrev F.DOM_CFG_PORTS : Field := ⟨0x900100, 0, 16, 64⟩
abbrev F.DOM_STATUS_RX_PORT : Field := ⟨0x900104, 8, 8, 64⟩
abbrev F.DOM_STATUS_STATE : Field := ⟨0x900104, 0, 2, 64⟩
abbrev F.VIEW_TIME_LO : Field := ⟨0x900108, 0, 32, 64⟩
abbrev F.VIEW_TIME_HI : Field := ⟨0x90010C, 0, 32, 64⟩
abbrev F.VIEW_BASE_LO : Field := ⟨0x900110, 0, 32, 64⟩
abbrev F.VIEW_BASE_HI : Field := ⟨0x900114, 0, 32, 64⟩
abbrev F.VIEW_ANCHOR_LO : Field := ⟨0x900118, 0, 32, 64⟩
abbrev F.VIEW_ANCHOR_HI : Field := ⟨0x90011C, 0, 32, 64⟩
abbrev F.VIEW_RATE_REG : Field := ⟨0x900120, 0, 32, 64⟩
abbrev F.VIEW_OFS_ERR : Field := ⟨0x900124, 0, 32, 64⟩
abbrev F.VIEW_STEP_SEQ : Field := ⟨0x900128, 0, 32, 64⟩
abbrev F.TS_LAT_INGRESS : Field := ⟨0x900210, 16, 16, 4⟩
abbrev F.TS_LAT_EGRESS : Field := ⟨0x900210, 0, 16, 4⟩
abbrev CNT_TC_FRAMES : Nat := 0x900300
abbrev CNT_TC_FOREIGN : Nat := 0x900304
abbrev CNT_TC_SAT : Nat := 0x900308
abbrev CNT_PTP_DROP : Nat := 0x90030C
abbrev CNT_DOM_LOST : Nat := 0x900310
abbrev CNT_DOM_STEP : Nat := 0x900314
abbrev CNT_TIME_STEP : Nat := 0x900318
abbrev CNT_CLK10_LOSS : Nat := 0x90031C
abbrev CNT_PPS_MISS : Nat := 0x900320

/-! ### Block 0xA (file 14 R406, R407) -/
abbrev F.HBR_STATUS_TX_STOPPED : Field := ⟨0xA00000, 8, 4, 4⟩
abbrev F.HBR_STATUS_SPEED : Field := ⟨0xA00000, 6, 2, 4⟩
abbrev F.HBR_STATUS_WIDTH : Field := ⟨0xA00000, 4, 2, 4⟩
abbrev F.HBR_STATUS_HP_UP : Field := ⟨0xA00000, 3, 1, 4⟩
abbrev F.HBR_STATUS_DMA_OK : Field := ⟨0xA00000, 2, 1, 4⟩
abbrev F.HBR_STATUS_LINK_UP : Field := ⟨0xA00000, 1, 1, 4⟩
abbrev F.HBR_STATUS_PCIE_SEL : Field := ⟨0xA00000, 0, 1, 4⟩
abbrev F.HBR_CMD_RESET : Field := ⟨0xA00004, 0, 1, 4⟩
abbrev F.NP_ERR_INFO_VALID : Field := ⟨0xA00008, 31, 1, 4⟩
abbrev F.NP_ERR_INFO_BAR : Field := ⟨0xA00008, 28, 2, 4⟩
abbrev F.NP_ERR_INFO_OFFSET : Field := ⟨0xA00008, 0, 28, 4⟩
abbrev F.LATE_ADDR_VALID : Field := ⟨0xA0000C, 31, 1, 4⟩
abbrev F.LATE_ADDR_BAR : Field := ⟨0xA0000C, 28, 2, 4⟩
abbrev F.LATE_ADDR_OFFSET : Field := ⟨0xA0000C, 0, 28, 4⟩
abbrev F.SE_ADDR_VALID : Field := ⟨0xA00010, 31, 1, 4⟩
abbrev F.SE_ADDR_BAR : Field := ⟨0xA00010, 28, 2, 4⟩
abbrev F.SE_ADDR_OFFSET : Field := ⟨0xA00010, 0, 28, 4⟩
abbrev F.HBR_CFG_RMT_PCP : Field := ⟨0xA00014, 16, 3, 4⟩
abbrev F.HBR_CFG_DISCARD : Field := ⟨0xA00014, 8, 8, 4⟩
abbrev F.HBR_CFG_BUDGET : Field := ⟨0xA00014, 0, 8, 4⟩
abbrev F.RMT_IP_ADDR : Field := ⟨0xA00018, 0, 32, 4⟩
abbrev F.RANGE_BAR : Field := ⟨0xA00100, 30, 2, 8⟩
abbrev F.RANGE_BASE : Field := ⟨0xA00100, 12, 16, 8⟩
abbrev F.RANGE_SIZE : Field := ⟨0xA00104, 16, 16, 8⟩
abbrev F.RANGE_NP : Field := ⟨0xA00104, 15, 1, 8⟩
abbrev F.RANGE_NOSE : Field := ⟨0xA00104, 14, 1, 8⟩
abbrev F.RANGE_WIDTH : Field := ⟨0xA00104, 12, 2, 8⟩
abbrev F.RANGE_PF_LEN : Field := ⟨0xA00104, 0, 9, 8⟩
abbrev F.EQ_BASE_LO : Field := ⟨0xA00200, 0, 32, 4⟩
abbrev F.EQ_BASE_HI : Field := ⟨0xA00204, 0, 32, 4⟩
abbrev F.EQ_CFG_EN : Field := ⟨0xA00208, 0, 1, 4⟩
abbrev F.EQ_CFG_SIZE_CODE : Field := ⟨0xA00208, 1, 2, 4⟩
abbrev F.EQ_HEAD : Field := ⟨0xA0020C, 0, 12, 4⟩
abbrev F.EQ_TAIL : Field := ⟨0xA00210, 0, 12, 4⟩
abbrev F.IRQ_ROUTE_LO : Field := ⟨0xA00214, 0, 32, 4⟩
abbrev F.IRQ_ROUTE_HI : Field := ⟨0xA00218, 0, 32, 4⟩
abbrev F.EQ_POP0 : Field := ⟨0xA00220, 0, 32, 4⟩
abbrev F.EQ_POP1 : Field := ⟨0xA00224, 0, 32, 4⟩
abbrev F.EQ_POP2 : Field := ⟨0xA00228, 0, 32, 4⟩
abbrev F.EQ_POP3 : Field := ⟨0xA0022C, 0, 32, 4⟩
abbrev F.RING_IRQ : Field := ⟨0xA00230, 0, 8, 4⟩
abbrev F.RX_MAP : Field := ⟨0xA00240, 0, 16, 4⟩
abbrev F.RING_BASE_LO : Field := ⟨0xA00400, 0, 32, 64⟩
abbrev F.RING_BASE_HI : Field := ⟨0xA00404, 0, 32, 64⟩
abbrev F.RING_CFG_SIZE : Field := ⟨0xA00408, 16, 16, 64⟩
abbrev F.RING_CFG_IRQ_EN : Field := ⟨0xA00408, 15, 1, 64⟩
abbrev F.RING_BUF_SIZE : Field := ⟨0xA0040C, 0, 15, 64⟩
abbrev F.RING_RX_WAIT : Field := ⟨0xA00410, 0, 17, 64⟩
abbrev F.RING_TAIL : Field := ⟨0xA00414, 0, 16, 64⟩
abbrev F.RING_HEAD : Field := ⟨0xA00418, 0, 16, 64⟩
abbrev F.RING_IRQ_DELAY : Field := ⟨0xA0041C, 0, 16, 64⟩
abbrev CNT_LATE_READ : Nat := 0xA00600
abbrev CNT_PW_ERR : Nat := 0xA00604
abbrev CNT_NP_ERR : Nat := 0xA00608
abbrev CNT_NP_YIELD : Nat := 0xA0060C
abbrev CNT_PF_SUPPRESS : Nat := 0xA00610
abbrev CNT_PF_SE_DISCARD : Nat := 0xA00614
abbrev CNT_QSPI_BUSY : Nat := 0xA00618
abbrev CNT_QSPI_DISCARD : Nat := 0xA0061C
abbrev CNT_RMT_ERR : Nat := 0xA00620
abbrev CNT_RX_WAIT_DROP : Nat := 0xA00624
abbrev CNT_RX_TOO_BIG : Nat := 0xA00628
abbrev CNT_RX_NO_RING : Nat := 0xA0062C
abbrev CNT_RX_DESC_ERR : Nat := 0xA00630
abbrev CNT_TX_DESC_ERR : Nat := 0xA00634
abbrev CNT_TX_ABORT : Nat := 0xA00638
abbrev CNT_DMA_RD_ERR : Nat := 0xA0063C
abbrev CNT_EQ_OVF : Nat := 0xA00640
abbrev CNT_RING_WR_DROP : Nat := 0xA00644

/-! ### Block 0xB (file 15 R436, R437) -/
abbrev F.OUT_STATUS_FAIL_ACTIVE : Field := ⟨0xB00000, 7, 1, 4⟩
abbrev F.OUT_STATUS_HOLDING : Field := ⟨0xB00000, 6, 1, 4⟩
abbrev F.OUT_STATUS_SHED_A : Field := ⟨0xB00000, 5, 1, 4⟩
abbrev F.OUT_STATUS_SHED_B : Field := ⟨0xB00000, 4, 1, 4⟩
abbrev F.OUT_STATUS_LOW_A : Field := ⟨0xB00000, 3, 1, 4⟩
abbrev F.OUT_STATUS_LOW_B : Field := ⟨0xB00000, 2, 1, 4⟩
abbrev F.OUT_STATUS_NOSUP_A : Field := ⟨0xB00000, 1, 1, 4⟩
abbrev F.OUT_STATUS_NOSUP_B : Field := ⟨0xB00000, 0, 1, 4⟩
abbrev F.LATCH_SEQ : Field := ⟨0xB00004, 0, 32, 4⟩
abbrev F.CH_CONDUCT : Field := ⟨0xB00008, 0, 24, 4⟩
abbrev F.CH_LOCKED : Field := ⟨0xB0000C, 0, 24, 4⟩
abbrev F.OUT_CMD_GO : Field := ⟨0xB00010, 15, 1, 4⟩
abbrev F.OUT_CMD_OP : Field := ⟨0xB00010, 8, 3, 4⟩
abbrev F.OUT_CMD_CH : Field := ⟨0xB00010, 0, 5, 4⟩
abbrev F.OUT_CFG_HOLD_MS : Field := ⟨0xB00014, 16, 11, 4⟩
abbrev F.OUT_CFG_TH_DIFF : Field := ⟨0xB00014, 0, 7, 4⟩
abbrev F.CH_CFG_PROFILE : Field := ⟨0xB00100, 29, 3, 16⟩
abbrev F.CH_CFG_LEGACY : Field := ⟨0xB00100, 28, 1, 16⟩
abbrev F.CH_CFG_FAIL_STATE : Field := ⟨0xB00100, 26, 2, 16⟩
abbrev F.CH_CFG_PAIRED : Field := ⟨0xB00100, 25, 1, 16⟩
abbrev F.CH_CFG_FINE : Field := ⟨0xB00100, 24, 1, 16⟩
abbrev F.CH_CFG_DIM_SRC : Field := ⟨0xB00100, 21, 3, 16⟩
abbrev F.CH_CFG_LAMP : Field := ⟨0xB00100, 20, 1, 16⟩
abbrev F.CH_CFG_SHED_PRIO : Field := ⟨0xB00100, 16, 3, 16⟩
abbrev F.CH_CFG_OL_TH : Field := ⟨0xB00100, 0, 12, 16⟩
abbrev F.CH_CFG_RETRY_CNT : Field := ⟨0xB00104, 28, 4, 16⟩
abbrev F.CH_CFG_RETRY_SPACE : Field := ⟨0xB00104, 22, 6, 16⟩
abbrev F.CH_CFG_RETRY_WIN : Field := ⟨0xB00104, 11, 11, 16⟩
abbrev F.CH_CFG_UREF : Field := ⟨0xB00104, 0, 9, 16⟩
abbrev F.CH_CFG_I_DECL : Field := ⟨0xB00108, 0, 14, 16⟩
abbrev F.DI_CFG_FILT : Field := ⟨0xB00300, 8, 8, 4⟩
abbrev F.DI_CFG_WET_EN : Field := ⟨0xB00300, 2, 1, 4⟩
abbrev F.DI_CFG_WET10 : Field := ⟨0xB00300, 1, 1, 4⟩
abbrev F.DI_CFG_RANGE110 : Field := ⟨0xB00300, 0, 1, 4⟩
abbrev CNT_THERM_TRIP (i : Nat) : Nat := 0xB00800 + 16 * i
abbrev CNT_RETRY (i : Nat) : Nat := 0xB00804 + 16 * i
abbrev CNT_INRUSH_FAIL (i : Nat) : Nat := 0xB00808 + 16 * i
abbrev CNT_CLAMP_LOCK (i : Nat) : Nat := 0xB0080C + 16 * i
abbrev CNT_OPEN_LOAD : Nat := 0xB00A00
abbrev CNT_STB : Nat := 0xB00A04
abbrev CNT_SHED : Nat := 0xB00A08
abbrev CNT_FAILSTATE : Nat := 0xB00A0C
abbrev CNT_CMD_WR_DROP : Nat := 0xB00A10
abbrev CNT_CLEAR_REFUSED : Nat := 0xB00A14
abbrev CNT_VLOAD_LOW : Nat := 0xB00A18
abbrev F.CMD_DIM : Field := ⟨0xB10000, 8, 8, 4⟩
abbrev F.CMD_ON : Field := ⟨0xB10000, 0, 1, 4⟩
abbrev F.RB_HELD : Field := ⟨0xB10100, 27, 1, 8⟩
abbrev F.RB_FAIL_APPLIED : Field := ⟨0xB10100, 26, 1, 8⟩
abbrev F.RB_SHED : Field := ⟨0xB10100, 25, 1, 8⟩
abbrev F.RB_LOW_SUPPLY : Field := ⟨0xB10100, 24, 1, 8⟩
abbrev F.RB_NO_SUPPLY : Field := ⟨0xB10100, 23, 1, 8⟩
abbrev F.RB_STB : Field := ⟨0xB10100, 22, 1, 8⟩
abbrev F.RB_OPEN_LOAD : Field := ⟨0xB10100, 21, 1, 8⟩
abbrev F.RB_INRUSH_FAIL : Field := ⟨0xB10100, 20, 1, 8⟩
abbrev F.RB_CLAMP_LOCK : Field := ⟨0xB10100, 19, 1, 8⟩
abbrev F.RB_THERM : Field := ⟨0xB10100, 18, 1, 8⟩
abbrev F.RB_LIMITING : Field := ⟨0xB10100, 17, 1, 8⟩
abbrev F.RB_CONDUCTING : Field := ⟨0xB10100, 16, 1, 8⟩
abbrev F.RB_RANGE_OVF : Field := ⟨0xB10100, 13, 1, 8⟩
abbrev F.RB_FINE : Field := ⟨0xB10100, 12, 1, 8⟩
abbrev F.RB_I : Field := ⟨0xB10100, 0, 12, 8⟩
abbrev F.RB1_BUCKET : Field := ⟨0xB10104, 16, 8, 8⟩
abbrev F.RB1_RETRY_LEFT : Field := ⟨0xB10104, 8, 4, 8⟩
abbrev F.RB1_DT : Field := ⟨0xB10104, 0, 8, 8⟩
abbrev F.RB_VLOAD_B : Field := ⟨0xB101C0, 16, 16, 4⟩
abbrev F.RB_VLOAD_A : Field := ⟨0xB101C0, 0, 16, 4⟩
abbrev F.RB_I_B : Field := ⟨0xB101C4, 16, 16, 4⟩
abbrev F.RB_I_A : Field := ⟨0xB101C4, 0, 16, 4⟩
abbrev F.RB_LOSS : Field := ⟨0xB101C8, 0, 16, 4⟩
abbrev F.IN_STATE : Field := ⟨0xB10200, 0, 16, 4⟩
abbrev F.IN_EDGES_FALL : Field := ⟨0xB10204, 16, 16, 4⟩
abbrev F.IN_EDGES_RISE : Field := ⟨0xB10204, 0, 16, 4⟩
abbrev F.IN_COUNT : Field := ⟨0xB10208, 0, 32, 4⟩
abbrev F.IN_DIM : Field := ⟨0xB10228, 0, 4, 4⟩

/-! ### Block 0xC (file 16 R462, R463) -/
abbrev F.RED_STATUS_STATE : Field := ⟨0xC00000, 28, 4, 4⟩
abbrev F.RED_STATUS_UNIT : Field := ⟨0xC00000, 27, 1, 4⟩
abbrev F.RED_STATUS_RACK_UP : Field := ⟨0xC00000, 26, 1, 4⟩
abbrev F.RED_STATUS_SYNC : Field := ⟨0xC00000, 25, 1, 4⟩
abbrev F.RED_STATUS_IN_STEP : Field := ⟨0xC00000, 24, 1, 4⟩
abbrev F.RED_STATUS_HOLD_OUT : Field := ⟨0xC00000, 23, 1, 4⟩
abbrev F.RED_STATUS_HOLD_IN_A : Field := ⟨0xC00000, 22, 1, 4⟩
abbrev F.RED_STATUS_HOLD_IN_B : Field := ⟨0xC00000, 21, 1, 4⟩
abbrev F.RED_STATUS_COMPAT : Field := ⟨0xC00000, 20, 1, 4⟩
abbrev F.RED_STATUS_PARTNER : Field := ⟨0xC00000, 16, 4, 4⟩
abbrev F.RED_STATUS_MIS_RUN : Field := ⟨0xC00000, 8, 8, 4⟩
abbrev F.RED_CMD_GO : Field := ⟨0xC00004, 7, 1, 4⟩
abbrev F.RED_CMD_OP : Field := ⟨0xC00004, 4, 3, 4⟩
abbrev F.UNIT_CFG_PAIR_EN : Field := ⟨0xC00008, 1, 1, 4⟩
abbrev F.UNIT_CFG_UNIT : Field := ⟨0xC00008, 0, 1, 4⟩
abbrev F.PAIR_CFG_PAIR_PORT : Field := ⟨0xC00010, 24, 5, 4⟩
abbrev F.PAIR_CFG_SWAP_H : Field := ⟨0xC00010, 10, 10, 4⟩
abbrev F.PAIR_CFG_DIV_SEL : Field := ⟨0xC00010, 0, 2, 4⟩
abbrev F.BREAK_US : Field := ⟨0xC00014, 0, 24, 4⟩
abbrev F.OWN_DIGEST_LO : Field := ⟨0xC00020, 0, 32, 4⟩
abbrev F.OWN_DIGEST_HI : Field := ⟨0xC00024, 0, 32, 4⟩
abbrev F.PART_DIGEST_LO : Field := ⟨0xC00028, 0, 32, 4⟩
abbrev F.PART_DIGEST_HI : Field := ⟨0xC0002C, 0, 32, 4⟩
abbrev F.DIGEST_IDX : Field := ⟨0xC00030, 0, 13, 4⟩
abbrev CNT_RACK_DOWN : Nat := 0xC00100
abbrev CNT_RACK_CRC : Nat := 0xC00104
abbrev CNT_RACK_OVF : Nat := 0xC00108
abbrev CNT_DIGEST_MISMATCH : Nat := 0xC0010C
abbrev CNT_RESEED : Nat := 0xC00110
abbrev CNT_HOLD_DISAGREE : Nat := 0xC00114
abbrev CNT_TAKEOVER : Nat := 0xC00118
abbrev CNT_RESIGN : Nat := 0xC0011C
abbrev CNT_SWAP : Nat := 0xC00120
abbrev CNT_SWAP_POSTPONED : Nat := 0xC00124
abbrev CNT_CLAIM_COLL : Nat := 0xC00128

/-! ### Block 0xD (file 03 R84; 17 R491, R492) -/
abbrev F.PWR_STATUS_START_PHASE : Field := ⟨0xD00000, 12, 4, 4⟩
abbrev F.PWR_STATUS_LAST_RESET : Field := ⟨0xD00000, 8, 4, 4⟩
abbrev F.PWR_STATUS_HOLDUP_RDY : Field := ⟨0xD00000, 7, 1, 4⟩
abbrev F.PWR_STATUS_SPEC_ANY : Field := ⟨0xD00000, 6, 1, 4⟩
abbrev F.PWR_STATUS_ACTIVE_SLOT : Field := ⟨0xD00000, 5, 1, 4⟩
abbrev F.PWR_STATUS_FALLBACK : Field := ⟨0xD00000, 4, 1, 4⟩
abbrev F.PWR_STATUS_PWR_STATE : Field := ⟨0xD00000, 0, 3, 4⟩
abbrev F.SPEC_STATUS_SOURCE : Field := ⟨0xD00004, 16, 2, 4⟩
abbrev F.SPEC_STATUS_BLOCKS : Field := ⟨0xD00004, 0, 16, 4⟩
abbrev F.RST_CMD_WARM : Field := ⟨0xD00008, 0, 1, 4⟩
abbrev F.LAT_TOL_TOL_MS : Field := ⟨0xD00010, 0, 24, 4⟩
abbrev F.DORM_CTRL_ENTER : Field := ⟨0xD00014, 1, 1, 4⟩
abbrev F.DORM_CTRL_PERMIT : Field := ⟨0xD00014, 0, 1, 4⟩
abbrev F.DORM_STATUS_REFUSE : Field := ⟨0xD00018, 8, 4, 4⟩
abbrev F.DORM_STATUS_TRIAL_OK : Field := ⟨0xD00018, 5, 1, 4⟩
abbrev F.DORM_STATUS_WAKE_OK : Field := ⟨0xD00018, 4, 1, 4⟩
abbrev F.DORM_STATUS_ROLE_OK : Field := ⟨0xD00018, 3, 1, 4⟩
abbrev F.DORM_STATUS_OUT_OK : Field := ⟨0xD00018, 2, 1, 4⟩
abbrev F.DORM_STATUS_PERMIT_OK : Field := ⟨0xD00018, 1, 1, 4⟩
abbrev F.DORM_STATUS_TOL_OK : Field := ⟨0xD00018, 0, 1, 4⟩
abbrev F.WAKE_CFG_IN_EN : Field := ⟨0xD0001C, 4, 1, 4⟩
abbrev F.WAKE_CFG_BB_EN : Field := ⟨0xD0001C, 0, 4, 4⟩
abbrev F.WAKE_SRC_LATE : Field := ⟨0xD00020, 5, 1, 4⟩
abbrev F.WAKE_SRC_IN : Field := ⟨0xD00020, 4, 1, 4⟩
abbrev F.WAKE_SRC_BB : Field := ⟨0xD00020, 0, 4, 4⟩
abbrev F.BOOT_TIME_FWD_MS : Field := ⟨0xD00024, 16, 16, 4⟩
abbrev F.BOOT_TIME_COMMIT_MS : Field := ⟨0xD00024, 0, 16, 4⟩
abbrev F.OD_CFG_IDLE_MIN : Field := ⟨0xD00040, 8, 8, 4⟩
abbrev F.OD_CFG_REMOTE_EN : Field := ⟨0xD00040, 1, 1, 4⟩
abbrev F.OD_CFG_MAINT_EN : Field := ⟨0xD00040, 0, 1, 4⟩
abbrev F.VNT_IP : Field := ⟨0xD00044, 0, 32, 4⟩
abbrev F.VNT_VID : Field := ⟨0xD00048, 0, 12, 4⟩
abbrev F.OD_COMID : Field := ⟨0xD0004C, 0, 32, 4⟩
abbrev CNT_DIP : Nat := 0xD00100
abbrev CNT_INTERRUPT : Nat := 0xD00104
abbrev CNT_SUPPLY_SHUTDOWN : Nat := 0xD00108
abbrev CNT_HOLDUP_LOW : Nat := 0xD0010C
abbrev CNT_VERIFY_FAIL : Nat := 0xD00110
abbrev CNT_WARM_RESET : Nat := 0xD00114
abbrev CNT_DORM_REFUSED : Nat := 0xD00118
abbrev CNT_WAKE : Nat := 0xD0011C
abbrev CNT_OD_ABORT : Nat := 0xD00120
abbrev CNT_OD_BUSY : Nat := 0xD00124
abbrev CNT_SEG_TIMEOUT : Nat := 0xD00128
abbrev CNT_AUTH_FAIL : Nat := 0xD0012C
abbrev CNT_VNT_SRAM_CORR : Nat := 0xD00130
abbrev CNT_RAIL_EXC : Nat := 0xD00134
abbrev CNT_REMOTE_DROP : Nat := 0xD00138
abbrev F.DIE_T : Field := ⟨0xD00200, 0, 16, 4⟩
abbrev F.BASE_T : Field := ⟨0xD00220, 0, 16, 4⟩
abbrev F.VBATT_MV : Field := ⟨0xD00224, 0, 16, 4⟩
abbrev F.HOLDUP_MV : Field := ⟨0xD00228, 0, 16, 4⟩
abbrev F.RAIL_HIGH : Field := ⟨0xD00240, 17, 1, 4⟩
abbrev F.RAIL_LOW : Field := ⟨0xD00240, 16, 1, 4⟩
abbrev F.RAIL_MV : Field := ⟨0xD00240, 0, 16, 4⟩

/-! ### Block 0xE (file 18 R507, R508) -/
abbrev F.CBK_STATUS_QLEVEL : Field := ⟨0xE00000, 16, 9, 4⟩
abbrev F.CBK_STATUS_RD_BUSY : Field := ⟨0xE00000, 3, 1, 4⟩
abbrev F.CBK_STATUS_FP_FULL : Field := ⟨0xE00000, 2, 1, 4⟩
abbrev F.CBK_STATUS_FROZEN : Field := ⟨0xE00000, 1, 1, 4⟩
abbrev F.CBK_STATUS_READY : Field := ⟨0xE00000, 0, 1, 4⟩
abbrev F.FP_COUNT : Field := ⟨0xE00004, 0, 15, 4⟩
abbrev F.LP_HEAD : Field := ⟨0xE00008, 0, 17, 4⟩
abbrev F.LP_WRAPS : Field := ⟨0xE0000C, 0, 32, 4⟩
abbrev F.RUN_S : Field := ⟨0xE00010, 0, 32, 4⟩
abbrev F.RUN_MS : Field := ⟨0xE00014, 0, 10, 4⟩
abbrev F.PCC : Field := ⟨0xE00018, 0, 32, 4⟩
abbrev F.CBK_CMD_UNFREEZE : Field := ⟨0xE00020, 2, 1, 4⟩
abbrev F.CBK_CMD_FREEZE : Field := ⟨0xE00020, 1, 1, 4⟩
abbrev F.CBK_CMD_READ : Field := ⟨0xE00020, 0, 1, 4⟩
abbrev F.READ_CFG_AREA : Field := ⟨0xE00024, 31, 1, 4⟩
abbrev F.READ_CFG_START : Field := ⟨0xE00024, 0, 17, 4⟩
abbrev F.READ_COUNT : Field := ⟨0xE00028, 0, 9, 4⟩
abbrev F.CBK_CFG_FREEZE_M1 : Field := ⟨0xE00030, 0, 10, 4⟩
abbrev CNT_CBK_SUPPR : Nat := 0xE00100
abbrev CNT_CBK_QOVF : Nat := 0xE00104
abbrev CNT_CBK_LOST : Nat := 0xE00108
abbrev CNT_CBK_TORN : Nat := 0xE0010C
abbrev CNT_CBK_ECC : Nat := 0xE00110
abbrev F.READOUT : Field := ⟨0xE10000, 0, 32, 4⟩
abbrev F.RATE_DEPTH : Field := ⟨0xE20000, 24, 8, 4⟩
abbrev F.RATE_SEV : Field := ⟨0xE20000, 16, 3, 4⟩
abbrev F.RATE_REFILL_M1 : Field := ⟨0xE20000, 0, 16, 4⟩

/-! ### Block 0xF (file 19 R530) -/
abbrev F.SEC_STATUS_STATE_B : Field := ⟨0xF00000, 24, 3, 4⟩
abbrev F.SEC_STATUS_STATE_A : Field := ⟨0xF00000, 20, 3, 4⟩
abbrev F.SEC_STATUS_SESSION : Field := ⟨0xF00000, 16, 2, 4⟩
abbrev F.SEC_STATUS_BUSY : Field := ⟨0xF00000, 8, 1, 4⟩
abbrev F.SEC_STATUS_LAST_ERR : Field := ⟨0xF00000, 0, 8, 4⟩
abbrev F.TRIAL_LEFT : Field := ⟨0xF00004, 0, 12, 4⟩
abbrev F.UPD_CMD_GO : Field := ⟨0xF00008, 7, 1, 4⟩
abbrev F.UPD_CMD_OP : Field := ⟨0xF00008, 4, 3, 4⟩
abbrev F.UPD_CMD_SLOT : Field := ⟨0xF00008, 0, 1, 4⟩
abbrev F.UPD_NEXT : Field := ⟨0xF0000C, 0, 27, 4⟩
abbrev F.SEC_CFG_UPD_TRDP_EN : Field := ⟨0xF00040, 16, 1, 4⟩
abbrev F.SEC_CFG_TRIAL_S : Field := ⟨0xF00040, 0, 12, 4⟩
abbrev F.ROLLBACK : Field := ⟨0xF00100, 0, 32, 4⟩
abbrev F.MEAS : Field := ⟨0xF00200, 0, 32, 4⟩
abbrev CNT_SEC_SIG_FAIL : Nat := 0xF00300
abbrev CNT_SEC_ROLLBACK : Nat := 0xF00304
abbrev CNT_UPD_ABORT : Nat := 0xF00308
abbrev CNT_SEC_FALLBACK : Nat := 0xF0030C
abbrev CNT_MAINT_TAG : Nat := 0xF00310
abbrev F.CHUNK_BUF : Field := ⟨0xF10000, 0, 32, 4⟩

/-! ### Object-dictionary window (17 R484) -/
abbrev F.MBOX_GO : Field := ⟨0x1000000, 31, 1, 16384⟩
abbrev F.MBOX_IRQ : Field := ⟨0x1000000, 30, 1, 16384⟩
abbrev F.MBOX_OP : Field := ⟨0x1000000, 24, 3, 16384⟩
abbrev F.MBOX_INDEX : Field := ⟨0x1000000, 8, 16, 16384⟩
abbrev F.MBOX_SUBINDEX : Field := ⟨0x1000000, 0, 8, 16384⟩
abbrev F.MBOX_BUSY : Field := ⟨0x1000004, 31, 1, 16384⟩
abbrev F.MBOX_DONE : Field := ⟨0x1000004, 30, 1, 16384⟩
abbrev F.MBOX_MORE : Field := ⟨0x1000004, 29, 1, 16384⟩
abbrev F.MBOX_LOST : Field := ⟨0x1000004, 28, 1, 16384⟩
abbrev F.MBOX_ABORT : Field := ⟨0x1000004, 16, 8, 16384⟩
abbrev F.MBOX_ARG : Field := ⟨0x1000004, 0, 16, 16384⟩
abbrev F.MBOX_TOTAL : Field := ⟨0x1000008, 0, 32, 16384⟩
abbrev F.MBOX_SEGLEN : Field := ⟨0x100000C, 0, 13, 16384⟩
abbrev F.MBOX_DESC0 : Field := ⟨0x1000010, 0, 32, 16384⟩
abbrev F.MBOX_DESC1 : Field := ⟨0x1000014, 0, 32, 16384⟩
abbrev F.MBOX_DESC2 : Field := ⟨0x1000018, 0, 32, 16384⟩
abbrev F.MBOX_DESC3 : Field := ⟨0x100001C, 0, 32, 16384⟩

/-! ### Signal store (12 R328) -/
abbrev F.SIG_LO : Field := ⟨0x2000000, 0, 32, 8⟩
abbrev F.SIG_HI : Field := ⟨0x2000004, 0, 32, 8⟩

/-! ### Schedule, at its home address 0x1000_0000 + 16 i (05 R112) -/
abbrev F.ENT_ACTION : Field := ⟨0x10000000, 24, 8, 16⟩
abbrev F.ENT_OFFSET : Field := ⟨0x10000000, 0, 21, 16⟩
abbrev F.ENT_PHASE : Field := ⟨0x10000004, 16, 13, 16⟩
abbrev F.ENT_RPT : Field := ⟨0x10000004, 0, 13, 16⟩
abbrev F.ENT_TOPO : Field := ⟨0x10000008, 28, 4, 16⟩
abbrev F.ENT_WINDOW : Field := ⟨0x10000008, 0, 21, 16⟩
abbrev F.ENT_ARG : Field := ⟨0x1000000C, 16, 16, 16⟩
abbrev F.ENT_TARGET : Field := ⟨0x1000000C, 0, 16, 16⟩

/-! ### Blend table, at its home address 0x2000_0000 + 32 e (12 R351) -/
abbrev F.BE_KIND : Field := ⟨0x20000000, 30, 2, 32⟩
abbrev F.BE_FMT : Field := ⟨0x20000000, 28, 2, 32⟩
abbrev F.BE_ORDER : Field := ⟨0x20000000, 27, 1, 32⟩
abbrev F.BE_SFMT : Field := ⟨0x20000000, 26, 1, 32⟩
abbrev F.BE_RMODE : Field := ⟨0x20000000, 24, 2, 32⟩
abbrev F.BE_SHIFT : Field := ⟨0x20000000, 18, 6, 32⟩
abbrev F.BE_SIGNAL : Field := ⟨0x20000000, 0, 18, 32⟩
abbrev F.BE_CTYPE : Field := ⟨0x20000004, 28, 4, 32⟩
abbrev F.BE_CIDX : Field := ⟨0x20000004, 18, 10, 32⟩
abbrev F.BE_BIT_OFS : Field := ⟨0x20000004, 0, 18, 32⟩
abbrev F.BE_M : Field := ⟨0x20000008, 0, 32, 32⟩
abbrev F.BE_B : Field := ⟨0x2000000C, 0, 32, 32⟩
abbrev F.BE_COMPARED : Field := ⟨0x20000010, 31, 1, 32⟩
abbrev F.BE_BADACT : Field := ⟨0x20000010, 30, 1, 32⟩
abbrev F.BE_NOSAT : Field := ⟨0x20000010, 29, 1, 32⟩
abbrev F.BE_MAXAGE : Field := ⟨0x20000010, 8, 16, 32⟩
abbrev F.BE_LEN : Field := ⟨0x20000010, 0, 7, 32⟩
abbrev F.BE_SUBST : Field := ⟨0x20000014, 0, 32, 32⟩

/-! ### Signal qualities, at their home address 0x3800_0000 + 8 n (12 R350) -/
abbrev F.QA_QUAL : Field := ⟨0x38000000, 28, 4, 8⟩
abbrev F.QA_SAT : Field := ⟨0x38000000, 27, 1, 8⟩
abbrev F.QA_SFMT : Field := ⟨0x38000000, 26, 1, 8⟩
abbrev F.QA_STAMP : Field := ⟨0x38000004, 0, 32, 8⟩

end Sys2Proof.Machine
end

