-- ==== Sys2Proof/Machine/RegTable.lean ====
section
/-! DEFINITION. The register map (R4, R8, R86 to R88, R92, R94, R95 and the register tables of files 03 to 20): for every register its
address, how it repeats, its reset value, which bits are RW, SH or W1C, whether a read clears it (RC), whether it is the low word of a
64-bit value (R6), and its commit group. A bit in no mask is RO, WO, W1S or reserved; what writing a command field does is the
meaning of that command. -/

namespace Sys2Proof.Machine

/-- One register, or one word of each entry of a table, of the register map. -/
structure RegRow where
  base : Nat
  stride : Nat
  count : Nat
  reset : Nat
  rw : Nat
  sh : Nat
  w1c : Nat
  rc : Bool
  lo64 : Bool
  /-- The commit group of its SH bits; 0 for a register without SH bits (no group is numbered 0). -/
  group : Nat
  deriving DecidableEq, Repr

/-- Registers of block 0x0. -/
def regRows0 : List RegRow :=
  [
    ⟨0x0, 4, 1, 0x4B589640, 0x0, 0x0, 0x0, false, false, 0x0⟩,
    ⟨0x4, 4, 1, 0xB1, 0x0, 0x0, 0x0, false, false, 0x0⟩,
    ⟨0x8, 4, 1, 0x0, 0x0, 0x0, 0x0, false, false, 0x0⟩,
    ⟨0x10, 4, 1, 0x0, 0x0, 0x0, 0x0, true, false, 0x0⟩,
    ⟨0x14, 4, 1, 0x0, 0x0, 0x0, 0x0, true, false, 0x0⟩,
    ⟨0x18, 4, 1, 0x0, 0x0, 0x0, 0x0, true, false, 0x0⟩,
    ⟨0x1C, 4, 1, 0x0, 0x0, 0x0, 0x0, true, false, 0x0⟩,
    ⟨0x20, 4, 1, 0x0, 0x0, 0x0, 0x0, false, true, 0x0⟩,
    ⟨0x24, 4, 1, 0x0, 0x0, 0x0, 0x0, false, false, 0x0⟩,
    ⟨0x100, 4, 8, 0xFFFFFFFF, 0xFFFFFFFF, 0x0, 0x0, false, false, 0x0⟩,
    ⟨0x120, 4, 1, 0x0, 0x0, 0x0, 0x0, false, false, 0x0⟩,
    ⟨0x124, 4, 1, 0xFF00000, 0x0, 0x0, 0x0, false, false, 0x0⟩,
    ⟨0x200, 4, 1, 0x0, 0x0, 0x0, 0x0, false, false, 0x0⟩,
    ⟨0x204, 4, 1, 0x0, 0x0, 0x0, 0x0, false, false, 0x0⟩,
    ⟨0x208, 4, 1, 0x0, 0x0, 0x0, 0x0, false, false, 0x0⟩,
    ⟨0x240, 4, 16, 0x0, 0x0, 0x0, 0x0, false, false, 0x0⟩,
    ⟨0x280, 8, 16, 0x0, 0x0, 0x0, 0x0, false, false, 0x0⟩,
    ⟨0x284, 8, 16, 0x0, 0x0, 0x0, 0x0, false, false, 0x0⟩,
    ⟨0x400, 4, 256, 0x0, 0x0, 0x0, 0x0, false, false, 0x0⟩]

/-- Registers of block 0x1. -/
def regRows1 : List RegRow :=
  [
    ⟨0x100000, 4, 1, 0x0, 0x0, 0x0, 0x0, false, false, 0x0⟩,
    ⟨0x100004, 4, 1, 0x0, 0x0, 0x0, 0x0, false, false, 0x0⟩,
    ⟨0x100008, 4, 1, 0x0, 0x0, 0x0, 0x0, false, false, 0x0⟩,
    ⟨0x10000C, 4, 1, 0x0, 0x0, 0x0, 0x0, false, false, 0x0⟩,
    ⟨0x100010, 4, 1, 0x3E8, 0x0, 0x3FFF, 0x0, false, false, 0x10⟩,
    ⟨0x100014, 4, 1, 0x3E8, 0x0, 0x1FFFFF, 0x0, false, false, 0x10⟩,
    ⟨0x100018, 4, 1, 0x0, 0x0, 0x1FFFF, 0x0, false, false, 0x10⟩,
    ⟨0x100020, 4, 2, 0x0, 0x0, 0xFFFFFFFF, 0x0, false, true, 0x10⟩,
    ⟨0x100030, 4, 4, 0xFFFFFFFF, 0x0, 0xFFFFFFFF, 0x0, false, false, 0x10⟩,
    ⟨0x100040, 4, 1, 0xFFFFFF, 0x0, 0xFFFFFF, 0x0, false, false, 0x10⟩,
    ⟨0x100060, 4, 2, 0x43434343, 0x0, 0xFFFFFFFF, 0x0, false, false, 0x11⟩,
    ⟨0x100070, 4, 1, 0x0, 0xF, 0x0, 0x0, false, false, 0x0⟩,
    ⟨0x100074, 4, 1, 0x0, 0x0, 0x0, 0x0, false, false, 0x0⟩,
    ⟨0x100080, 8, 1, 0x0, 0x0, 0x0, 0x0, false, false, 0x0⟩,
    ⟨0x100084, 8, 1, 0xFF00000, 0x0, 0x0, 0x0, false, false, 0x0⟩,
    ⟨0x100088, 8, 1, 0x0, 0x0, 0x0, 0x0, false, false, 0x0⟩,
    ⟨0x10008C, 8, 1, 0xFF00000, 0x0, 0x0, 0x0, false, false, 0x0⟩,
    ⟨0x100100, 4, 1, 0x0, 0x0, 0x0, 0x0, true, false, 0x0⟩,
    ⟨0x100104, 4, 1, 0x0, 0x0, 0x0, 0x0, true, false, 0x0⟩,
    ⟨0x100108, 4, 1, 0x0, 0x0, 0x0, 0x0, true, false, 0x0⟩,
    ⟨0x10010C, 4, 1, 0x0, 0x0, 0x0, 0x0, true, false, 0x0⟩,
    ⟨0x100110, 4, 1, 0x0, 0x0, 0x0, 0x0, true, false, 0x0⟩,
    ⟨0x100114, 4, 1, 0x0, 0x0, 0x0, 0x0, true, false, 0x0⟩,
    ⟨0x100118, 4, 1, 0x0, 0x0, 0x0, 0x0, true, false, 0x0⟩,
    ⟨0x100120, 4, 1, 0x0, 0x0, 0x0, 0x0, false, false, 0x0⟩]

/-- Registers of block 0x2. -/
def regRows2 : List RegRow :=
  [
    ⟨0x200000, 4, 1, 0x0, 0x0, 0x0, 0x0, false, false, 0x0⟩,
    ⟨0x200004, 4, 1, 0x5BD8, 0x0, 0x0, 0x0, false, false, 0x0⟩,
    ⟨0x200008, 4, 1, 0x5D08, 0x0, 0x0, 0x0, false, false, 0x0⟩,
    ⟨0x20000C, 4, 1, 0x0, 0x0, 0x0, 0x0, false, false, 0x0⟩,
    ⟨0x200010, 4, 1, 0x0, 0x0, 0x1FFF0007, 0x0, false, false, 0x20⟩,
    ⟨0x200014, 4, 1, 0x0, 0x0, 0xFFFFFFFF, 0x0, false, true, 0x20⟩,
    ⟨0x200018, 4, 1, 0x0, 0x0, 0xFFFF, 0x0, false, false, 0x20⟩,
    ⟨0x200020, 4, 1, 0x66666666, 0x0, 0xFFFFFFFF, 0x0, false, false, 0x22⟩,
    ⟨0x200080, 8, 1, 0x0, 0x0, 0x0, 0x0, false, false, 0x0⟩,
    ⟨0x200084, 8, 1, 0xFF00000, 0x0, 0x0, 0x0, false, false, 0x0⟩,
    ⟨0x200088, 8, 1, 0x0, 0x0, 0x0, 0x0, false, false, 0x0⟩,
    ⟨0x20008C, 8, 1, 0xFF00000, 0x0, 0x0, 0x0, false, false, 0x0⟩,
    ⟨0x200090, 8, 1, 0x0, 0x0, 0x0, 0x0, false, false, 0x0⟩,
    ⟨0x200094, 8, 1, 0xFF00000, 0x0, 0x0, 0x0, false, false, 0x0⟩,
    ⟨0x200400, 4, 19, 0x70001, 0x0, 0x77FFF, 0x0, false, false, 0x20⟩,
    ⟨0x200480, 4, 19, 0xFAC681, 0x0, 0xFFFFFF, 0x0, false, false, 0x20⟩,
    ⟨0x200800, 4, 152, 0x0, 0x0, 0x7FFF, 0x0, false, false, 0x22⟩,
    ⟨0x200C00, 32, 19, 0x0, 0x0, 0x0, 0x0, true, false, 0x0⟩,
    ⟨0x200C04, 32, 19, 0x0, 0x0, 0x0, 0x0, true, false, 0x0⟩,
    ⟨0x200C08, 32, 19, 0x0, 0x0, 0x0, 0x0, true, false, 0x0⟩,
    ⟨0x200C0C, 32, 19, 0x0, 0x0, 0x0, 0x0, true, false, 0x0⟩,
    ⟨0x200C10, 32, 19, 0x0, 0x0, 0x0, 0x0, true, false, 0x0⟩,
    ⟨0x200C14, 32, 19, 0x0, 0x0, 0x0, 0x0, true, false, 0x0⟩,
    ⟨0x200F00, 4, 1, 0x0, 0x0, 0x0, 0x0, true, false, 0x0⟩,
    ⟨0x200F04, 4, 1, 0x0, 0x0, 0x0, 0x0, true, false, 0x0⟩] ++
  [
    ⟨0x200F08, 4, 1, 0x0, 0x0, 0x0, 0x0, true, false, 0x0⟩,
    ⟨0x200F0C, 4, 1, 0x0, 0x0, 0x0, 0x0, true, false, 0x0⟩,
    ⟨0x200F10, 4, 1, 0x0, 0x0, 0x0, 0x0, true, false, 0x0⟩,
    ⟨0x200F14, 4, 1, 0x0, 0x0, 0x0, 0x0, true, false, 0x0⟩,
    ⟨0x200F18, 4, 1, 0x0, 0x0, 0x0, 0x0, true, false, 0x0⟩,
    ⟨0x200F1C, 4, 1, 0x0, 0x0, 0x0, 0x0, true, false, 0x0⟩,
    ⟨0x210000, 8, 4096, 0x0, 0x0, 0xFFF7FFFF, 0x0, false, false, 0x20⟩,
    ⟨0x210004, 8, 4096, 0x0, 0x0, 0x37FFFF, 0x0, false, false, 0x20⟩,
    ⟨0x218000, 16, 256, 0x0, 0x0, 0xFFFFFFFF, 0x0, false, false, 0x21⟩,
    ⟨0x218004, 16, 256, 0x0, 0x0, 0xFFFFFFFF, 0x0, false, false, 0x21⟩,
    ⟨0x218008, 16, 256, 0x0, 0x0, 0xFFFFFFFF, 0x0, false, false, 0x21⟩,
    ⟨0x21800C, 16, 256, 0x0, 0x0, 0x8FFFFFFF, 0x0, false, false, 0x21⟩,
    ⟨0x220000, 16, 4096, 0x0, 0x0, 0xFFFFFFFF, 0x0, false, false, 0x20⟩,
    ⟨0x220004, 16, 4096, 0x0, 0x0, 0xFFFFFFF, 0x0, false, false, 0x20⟩,
    ⟨0x220008, 16, 4096, 0x0, 0x0, 0x7FFFF, 0x0, false, false, 0x20⟩,
    ⟨0x22000C, 16, 4096, 0x0, 0x0, 0x0, 0x0, false, false, 0x20⟩,
    ⟨0x230000, 16, 4096, 0x0, 0x0, 0xFFFFFFFF, 0x0, false, false, 0x21⟩,
    ⟨0x230004, 16, 4096, 0x0, 0x0, 0xFFFFFFFF, 0x0, false, false, 0x21⟩,
    ⟨0x230008, 16, 4096, 0x0, 0x0, 0xFFFFFFFF, 0x0, false, false, 0x21⟩,
    ⟨0x23000C, 16, 4096, 0x0, 0x0, 0x8FFFFFFF, 0x0, false, false, 0x21⟩,
    ⟨0x240000, 16, 16384, 0x0, 0x0, 0x0, 0x0, false, false, 0x0⟩,
    ⟨0x240004, 16, 16384, 0x0, 0x0, 0x0, 0x0, false, false, 0x0⟩,
    ⟨0x240008, 16, 16384, 0x0, 0x0, 0x0, 0x0, false, false, 0x0⟩,
    ⟨0x24000C, 16, 16384, 0x0, 0x0, 0x0, 0x0, false, false, 0x0⟩]

/-- Registers of block 0x3. -/
def regRows3 : List RegRow :=
  [
    ⟨0x300000, 4, 1, 0x0, 0x0, 0x0, 0x0, false, false, 0x0⟩,
    ⟨0x300004, 4, 1, 0x14, 0x37, 0x0, 0x0, false, false, 0x0⟩,
    ⟨0x300008, 4, 1, 0x220, 0x0, 0x0, 0x0, false, false, 0x0⟩,
    ⟨0x30000C, 4, 1, 0x0, 0x0, 0x0, 0x0, false, false, 0x0⟩,
    ⟨0x300010, 4, 1, 0x0, 0x0, 0x0, 0x0, false, false, 0x0⟩,
    ⟨0x300014, 4, 1, 0x0, 0x0, 0x0, 0x0, false, false, 0x0⟩,
    ⟨0x300040, 4, 1, 0x0, 0x0, 0x0, 0x0, true, false, 0x0⟩,
    ⟨0x300080, 8, 1, 0x0, 0x0, 0x0, 0x0, false, false, 0x0⟩,
    ⟨0x300084, 8, 1, 0xFF00000, 0x0, 0x0, 0x0, false, false, 0x0⟩,
    ⟨0x300100, 32, 16, 0x100, 0x0, 0x70F, 0x0, false, false, 0x30⟩,
    ⟨0x300104, 32, 19, 0x5F2, 0x0, 0x3FFF, 0x0, false, false, 0x30⟩,
    ⟨0x300108, 32, 16, 0x12, 0x0, 0x77, 0x0, false, false, 0x30⟩,
    ⟨0x30010C, 32, 16, 0x0, 0x0, 0x0, 0x0, false, false, 0x0⟩,
    ⟨0x302000, 64, 19, 0x0, 0x0, 0x0, 0x0, true, false, 0x0⟩,
    ⟨0x302004, 64, 19, 0x0, 0x0, 0x0, 0x0, true, false, 0x0⟩,
    ⟨0x302008, 64, 19, 0x0, 0x0, 0x0, 0x0, true, false, 0x0⟩,
    ⟨0x30200C, 64, 19, 0x0, 0x0, 0x0, 0x0, true, false, 0x0⟩,
    ⟨0x302010, 64, 19, 0x0, 0x0, 0x0, 0x0, true, false, 0x0⟩,
    ⟨0x302014, 64, 19, 0x0, 0x0, 0x0, 0x0, true, false, 0x0⟩,
    ⟨0x302018, 64, 19, 0x0, 0x0, 0x0, 0x0, true, false, 0x0⟩,
    ⟨0x30201C, 64, 19, 0x0, 0x0, 0x0, 0x0, true, false, 0x0⟩,
    ⟨0x302020, 64, 19, 0x0, 0x0, 0x0, 0x0, true, false, 0x0⟩,
    ⟨0x302024, 64, 19, 0x0, 0x0, 0x0, 0x0, true, false, 0x0⟩,
    ⟨0x302028, 64, 19, 0x0, 0x0, 0x0, 0x0, true, false, 0x0⟩] ++
  [
    ⟨0x30202C, 64, 19, 0x0, 0x0, 0x0, 0x0, true, false, 0x0⟩,
    ⟨0x302030, 64, 19, 0x0, 0x0, 0x0, 0x0, true, false, 0x0⟩,
    ⟨0x302034, 64, 19, 0x0, 0x0, 0x0, 0x0, true, false, 0x0⟩,
    ⟨0x302038, 64, 19, 0x0, 0x0, 0x0, 0x0, true, false, 0x0⟩,
    ⟨0x30203C, 64, 19, 0x0, 0x0, 0x0, 0x0, true, false, 0x0⟩,
    ⟨0x303000, 4, 304, 0x0, 0x0, 0x0, 0x0, false, false, 0x0⟩]

/-- Registers of block 0x4. -/
def regRows4 : List RegRow :=
  [
    ⟨0x400000, 4, 1, 0x0, 0x0, 0x0, 0x0, false, false, 0x0⟩,
    ⟨0x400004, 4, 1, 0x0, 0x0, 0x0, 0x0, false, false, 0x0⟩,
    ⟨0x400008, 4, 1, 0x0, 0x0, 0x0, 0x0, false, false, 0x0⟩,
    ⟨0x40000C, 4, 1, 0x0, 0x0, 0x0, 0x0, false, false, 0x0⟩,
    ⟨0x400010, 4, 1, 0x0, 0x0, 0x3F0300, 0x0, false, false, 0x40⟩,
    ⟨0x400014, 4, 1, 0xA800000, 0x0, 0xFFFFFFFF, 0x0, false, false, 0x40⟩,
    ⟨0x400018, 4, 1, 0xE, 0x0, 0x1F, 0x0, false, false, 0x40⟩,
    ⟨0x40001C, 4, 1, 0x0, 0x0, 0x0, 0x0, false, false, 0x0⟩,
    ⟨0x400080, 8, 1, 0x0, 0x0, 0x0, 0x0, false, false, 0x0⟩,
    ⟨0x400084, 8, 1, 0xFF00000, 0x0, 0x0, 0x0, false, false, 0x0⟩,
    ⟨0x400100, 4, 1, 0x0, 0x0, 0x0, 0x0, true, false, 0x0⟩,
    ⟨0x400104, 4, 1, 0x0, 0x0, 0x0, 0x0, true, false, 0x0⟩,
    ⟨0x400108, 4, 1, 0x0, 0x0, 0x0, 0x0, true, false, 0x0⟩,
    ⟨0x40010C, 4, 1, 0x0, 0x0, 0x0, 0x0, true, false, 0x0⟩,
    ⟨0x400110, 4, 1, 0x0, 0x0, 0x0, 0x0, true, false, 0x0⟩,
    ⟨0x400114, 4, 1, 0x0, 0x0, 0x0, 0x0, true, false, 0x0⟩,
    ⟨0x400118, 4, 1, 0x0, 0x0, 0x0, 0x0, true, false, 0x0⟩,
    ⟨0x40011C, 4, 1, 0x0, 0x0, 0x0, 0x0, true, false, 0x0⟩,
    ⟨0x410000, 16, 64, 0x0, 0x0, 0x0, 0x0, false, false, 0x0⟩,
    ⟨0x410004, 16, 64, 0x0, 0x0, 0x0, 0x0, false, false, 0x0⟩,
    ⟨0x410008, 16, 64, 0x0, 0x0, 0x0, 0x0, false, false, 0x0⟩,
    ⟨0x41000C, 16, 64, 0x0, 0x0, 0x0, 0x0, false, false, 0x0⟩,
    ⟨0x420000, 16, 4096, 0x0, 0x0, 0x0, 0x0, false, false, 0x0⟩,
    ⟨0x420004, 16, 4096, 0x0, 0x0, 0x0, 0x0, false, false, 0x0⟩] ++
  [
    ⟨0x420008, 16, 4096, 0x0, 0x0, 0x0, 0x0, false, false, 0x0⟩,
    ⟨0x42000C, 16, 4096, 0x0, 0x0, 0x0, 0x0, false, false, 0x0⟩]

/-- Registers of block 0x5. -/
def regRows5 : List RegRow :=
  [
    ⟨0x500000, 4, 1, 0x0, 0x0, 0x0, 0x0, false, false, 0x0⟩,
    ⟨0x500004, 4, 1, 0x0, 0x0, 0x0, 0x0, false, false, 0x0⟩,
    ⟨0x500008, 4, 1, 0x0, 0x0, 0x0, 0x0, false, false, 0x0⟩,
    ⟨0x50000C, 4, 1, 0x0, 0x0, 0xFFFFFFFF, 0x0, false, false, 0x53⟩,
    ⟨0x500010, 4, 1, 0x0, 0x0, 0x0, 0x0, false, false, 0x0⟩,
    ⟨0x500014, 4, 1, 0x0, 0x0, 0xFFFFFFFF, 0x0, false, false, 0x50⟩,
    ⟨0x500018, 4, 1, 0x0, 0xF, 0x0, 0x0, false, false, 0x0⟩,
    ⟨0x50001C, 4, 1, 0x0, 0x0, 0x0, 0x0, false, false, 0x0⟩,
    ⟨0x500080, 8, 1, 0x0, 0x0, 0x0, 0x0, false, false, 0x0⟩,
    ⟨0x500084, 8, 1, 0xFF00000, 0x0, 0x0, 0x0, false, false, 0x0⟩,
    ⟨0x500088, 8, 1, 0x0, 0x0, 0x0, 0x0, false, false, 0x0⟩,
    ⟨0x50008C, 8, 1, 0xFF00000, 0x0, 0x0, 0x0, false, false, 0x0⟩,
    ⟨0x500090, 8, 1, 0x0, 0x0, 0x0, 0x0, false, false, 0x0⟩,
    ⟨0x500094, 8, 1, 0xFF00000, 0x0, 0x0, 0x0, false, false, 0x0⟩,
    ⟨0x500098, 8, 1, 0x0, 0x0, 0x0, 0x0, false, false, 0x0⟩,
    ⟨0x50009C, 8, 1, 0xFF00000, 0x0, 0x0, 0x0, false, false, 0x0⟩,
    ⟨0x500100, 4, 1, 0x0, 0x0, 0x0, 0x0, true, false, 0x0⟩,
    ⟨0x500104, 4, 1, 0x0, 0x0, 0x0, 0x0, true, false, 0x0⟩,
    ⟨0x500108, 4, 1, 0x0, 0x0, 0x0, 0x0, true, false, 0x0⟩,
    ⟨0x50010C, 4, 1, 0x0, 0x0, 0x0, 0x0, true, false, 0x0⟩,
    ⟨0x500110, 4, 1, 0x0, 0x0, 0x0, 0x0, true, false, 0x0⟩,
    ⟨0x500114, 4, 1, 0x0, 0x0, 0x0, 0x0, true, false, 0x0⟩,
    ⟨0x500118, 4, 1, 0x0, 0x0, 0x0, 0x0, true, false, 0x0⟩,
    ⟨0x50011C, 4, 1, 0x0, 0x0, 0x0, 0x0, true, false, 0x0⟩] ++
  [
    ⟨0x500120, 4, 1, 0x0, 0x0, 0x0, 0x0, true, false, 0x0⟩,
    ⟨0x500124, 4, 1, 0x0, 0x0, 0x0, 0x0, true, false, 0x0⟩,
    ⟨0x500128, 4, 1, 0x0, 0x0, 0x0, 0x0, true, false, 0x0⟩,
    ⟨0x50012C, 4, 1, 0x0, 0x0, 0x0, 0x0, true, false, 0x0⟩,
    ⟨0x500130, 4, 1, 0x0, 0x0, 0x0, 0x0, true, false, 0x0⟩,
    ⟨0x500134, 4, 1, 0x0, 0x0, 0x0, 0x0, true, false, 0x0⟩,
    ⟨0x500138, 4, 1, 0x0, 0x0, 0x0, 0x0, true, false, 0x0⟩,
    ⟨0x50013C, 4, 1, 0x0, 0x0, 0x0, 0x0, true, false, 0x0⟩,
    ⟨0x500140, 4, 1, 0x0, 0x0, 0x0, 0x0, true, false, 0x0⟩,
    ⟨0x500144, 4, 1, 0x0, 0x0, 0x0, 0x0, true, false, 0x0⟩,
    ⟨0x500148, 4, 1, 0x0, 0x0, 0x0, 0x0, true, false, 0x0⟩,
    ⟨0x510000, 32, 1024, 0x0, 0x0, 0xFFFFFBFF, 0x0, false, false, 0x51⟩,
    ⟨0x510004, 32, 1024, 0x0, 0x0, 0xFFFFFFFF, 0x0, false, false, 0x51⟩,
    ⟨0x510008, 32, 1024, 0x0, 0x0, 0xFFFFFFFF, 0x0, false, false, 0x51⟩,
    ⟨0x51000C, 32, 1024, 0x0, 0x0, 0xFFE00FFF, 0x0, false, false, 0x51⟩,
    ⟨0x510010, 32, 1024, 0x0, 0x0, 0x1FFFFF, 0x0, false, false, 0x51⟩,
    ⟨0x510014, 32, 1024, 0x0, 0x0, 0x1FFFFF, 0x0, false, false, 0x51⟩,
    ⟨0x510018, 32, 1024, 0x0, 0x0, 0xC7FF7FFF, 0x0, false, false, 0x51⟩,
    ⟨0x518000, 16, 1024, 0x0, 0x0, 0x0, 0x0, false, false, 0x0⟩,
    ⟨0x518004, 16, 1024, 0x20000000, 0x0, 0x0, 0x0, false, false, 0x0⟩,
    ⟨0x518008, 16, 1024, 0x0, 0x0, 0x0, 0x0, false, false, 0x0⟩,
    ⟨0x51800C, 16, 1024, 0x0, 0x0, 0x0, 0x0, false, false, 0x0⟩,
    ⟨0x520000, 32, 256, 0x0, 0x0, 0xFFEFFFFF, 0x0, false, false, 0x52⟩,
    ⟨0x520004, 32, 256, 0x0, 0x0, 0xFFFFFFFF, 0x0, false, false, 0x52⟩] ++
  [
    ⟨0x520008, 32, 256, 0x0, 0x0, 0xFFFFFFFF, 0x0, false, false, 0x52⟩,
    ⟨0x52000C, 32, 256, 0x0, 0x0, 0xFF000FFF, 0x0, false, false, 0x52⟩,
    ⟨0x520010, 32, 256, 0x0, 0x0, 0x7FFF, 0x0, false, false, 0x52⟩,
    ⟨0x520014, 32, 256, 0x0, 0x0, 0xFFFFFFFF, 0x0, false, false, 0x52⟩,
    ⟨0x524000, 16, 256, 0x0, 0x0, 0x0, 0x0, false, false, 0x0⟩,
    ⟨0x524004, 16, 256, 0x0, 0x0, 0x0, 0x0, false, false, 0x0⟩,
    ⟨0x524008, 16, 256, 0x0, 0x0, 0x0, 0x0, false, false, 0x0⟩,
    ⟨0x52400C, 16, 256, 0x0, 0x0, 0x0, 0x0, false, false, 0x0⟩,
    ⟨0x530000, 16, 64, 0x0, 0x0, 0xFFFFFFFF, 0x0, false, false, 0x50⟩,
    ⟨0x530004, 16, 64, 0x0, 0x0, 0xFFFF0007, 0x0, false, false, 0x50⟩]

/-- Registers of block 0x6. -/
def regRows6 : List RegRow :=
  [
    ⟨0x600000, 4, 1, 0x0, 0x0, 0x0, 0x0, false, false, 0x0⟩,
    ⟨0x600004, 4, 1, 0x0, 0x0, 0x7, 0x0, false, false, 0x60⟩,
    ⟨0x600008, 4, 1, 0x0, 0x0, 0x0, 0x0, false, false, 0x0⟩,
    ⟨0x600080, 8, 1, 0x0, 0x0, 0x0, 0x0, false, false, 0x0⟩,
    ⟨0x600084, 8, 1, 0xFF00000, 0x0, 0x0, 0x0, false, false, 0x0⟩,
    ⟨0x600100, 16, 16, 0x5F000000, 0x0, 0xDF0FFFFF, 0x0, false, false, 0x60⟩,
    ⟨0x600104, 16, 16, 0x0, 0x0, 0x1FF01FF, 0x0, false, false, 0x60⟩,
    ⟨0x600108, 16, 16, 0x0, 0x0, 0x7, 0x0, false, false, 0x60⟩,
    ⟨0x600200, 4, 32, 0x0, 0x0, 0xFFFFFFFF, 0x0, false, false, 0x60⟩,
    ⟨0x600280, 4, 2, 0x1F1F1F1F, 0x0, 0x1F1F1F1F, 0x0, false, false, 0x60⟩,
    ⟨0x600300, 4, 16, 0x0, 0x0, 0x0, 0x0, false, false, 0x0⟩,
    ⟨0x600340, 4, 16, 0x0, 0x0, 0x0, 0x0, false, false, 0x0⟩,
    ⟨0x600400, 32, 16, 0x0, 0x0, 0x0, 0x0, true, false, 0x0⟩,
    ⟨0x600404, 32, 16, 0x0, 0x0, 0x0, 0x0, true, false, 0x0⟩,
    ⟨0x600408, 32, 16, 0x0, 0x0, 0x0, 0x0, true, false, 0x0⟩,
    ⟨0x60040C, 32, 16, 0x0, 0x0, 0x0, 0x0, true, false, 0x0⟩,
    ⟨0x600410, 32, 16, 0x0, 0x0, 0x0, 0x0, true, false, 0x0⟩,
    ⟨0x600414, 32, 16, 0x0, 0x0, 0x0, 0x0, true, false, 0x0⟩,
    ⟨0x600418, 32, 16, 0x0, 0x0, 0x0, 0x0, true, false, 0x0⟩,
    ⟨0x60041C, 32, 16, 0x0, 0x0, 0x0, 0x0, true, false, 0x0⟩,
    ⟨0x600600, 4, 1, 0x0, 0x0, 0x0, 0x0, true, false, 0x0⟩,
    ⟨0x600700, 4, 16, 0x0, 0x0, 0x0, 0x0, true, false, 0x0⟩,
    ⟨0x601000, 8, 64, 0x0, 0x0, 0xF00FFFFF, 0x0, false, false, 0x60⟩,
    ⟨0x601004, 8, 64, 0x0, 0x0, 0xFFF, 0x0, false, false, 0x60⟩]

/-- Registers of block 0x7. -/
def regRows7 : List RegRow :=
  [
    ⟨0x700000, 4, 1, 0x0, 0x0, 0x0, 0x0, false, false, 0x0⟩,
    ⟨0x700008, 4, 1, 0x0, 0x0, 0x0, 0x0, false, false, 0x0⟩,
    ⟨0x700080, 8, 8, 0x0, 0x0, 0x0, 0x0, false, false, 0x0⟩,
    ⟨0x700084, 8, 8, 0xFF00000, 0x0, 0x0, 0x0, false, false, 0x0⟩,
    ⟨0x701000, 256, 8, 0x19F0F00F, 0x0, 0xFFFFF07F, 0x0, false, false, 0x70⟩,
    ⟨0x701004, 256, 8, 0x1E7720, 0x0, 0xF81FFF7F, 0x0, false, false, 0x70⟩,
    ⟨0x701008, 256, 8, 0x0, 0x0, 0x3F, 0x0, false, false, 0x70⟩,
    ⟨0x70100C, 256, 8, 0x0, 0x0, 0xDFFFFFFF, 0x0, false, false, 0x70⟩,
    ⟨0x701010, 256, 8, 0x0, 0x0, 0xFFFFFFFF, 0x0, false, false, 0x70⟩,
    ⟨0x701014, 256, 8, 0x0, 0x0, 0xFFFFFFFF, 0x0, false, false, 0x70⟩,
    ⟨0x701020, 256, 8, 0x0, 0x0, 0x0, 0x0, false, false, 0x0⟩,
    ⟨0x701024, 256, 8, 0x0, 0x0, 0x0, 0x0, false, false, 0x0⟩,
    ⟨0x701028, 256, 8, 0x0, 0x0, 0x0, 0x0, false, true, 0x0⟩,
    ⟨0x70102C, 256, 8, 0x0, 0x0, 0x0, 0x0, false, false, 0x0⟩,
    ⟨0x701030, 256, 8, 0x0, 0x0, 0x0, 0x0, false, false, 0x0⟩,
    ⟨0x701034, 256, 8, 0x0, 0x0, 0x0, 0x0, false, false, 0x0⟩,
    ⟨0x701040, 256, 8, 0x0, 0x0, 0x0, 0x0, true, false, 0x0⟩,
    ⟨0x701044, 256, 8, 0x0, 0x0, 0x0, 0x0, true, false, 0x0⟩,
    ⟨0x701048, 256, 8, 0x0, 0x0, 0x0, 0x0, true, false, 0x0⟩,
    ⟨0x70104C, 256, 8, 0x0, 0x0, 0x0, 0x0, true, false, 0x0⟩,
    ⟨0x701050, 256, 8, 0x0, 0x0, 0x0, 0x0, true, false, 0x0⟩,
    ⟨0x701054, 256, 8, 0x0, 0x0, 0x0, 0x0, true, false, 0x0⟩,
    ⟨0x701058, 256, 8, 0x0, 0x0, 0x0, 0x0, true, false, 0x0⟩,
    ⟨0x70105C, 256, 8, 0x0, 0x0, 0x0, 0x0, true, false, 0x0⟩] ++
  [
    ⟨0x701060, 256, 8, 0x0, 0x0, 0x0, 0x0, true, false, 0x0⟩,
    ⟨0x701064, 256, 8, 0x0, 0x0, 0x0, 0x0, true, false, 0x0⟩,
    ⟨0x701068, 256, 8, 0x0, 0x0, 0x0, 0x0, true, false, 0x0⟩,
    ⟨0x70106C, 256, 8, 0x0, 0x0, 0x0, 0x0, true, false, 0x0⟩,
    ⟨0x740000, 128, 512, 0x0, 0x0, 0x0, 0x0, false, false, 0x0⟩,
    ⟨0x740004, 128, 512, 0x0, 0x0, 0x0, 0x0, false, false, 0x0⟩,
    ⟨0x740008, 128, 512, 0x0, 0x0, 0x0, 0x0, false, false, 0x0⟩,
    ⟨0x74000C, 128, 512, 0x0, 0x0, 0x0, 0x0, false, false, 0x0⟩,
    ⟨0x740010, 128, 512, 0x0, 0x0, 0x0, 0x0, false, true, 0x0⟩,
    ⟨0x740014, 128, 512, 0x0, 0x0, 0x0, 0x0, false, false, 0x0⟩,
    ⟨0x740020, 128, 512, 0x0, 0x0, 0x0, 0x0, false, false, 0x0⟩,
    ⟨0x740024, 128, 512, 0x0, 0x0, 0x0, 0x0, false, false, 0x0⟩,
    ⟨0x740028, 128, 512, 0x0, 0x0, 0x0, 0x0, false, false, 0x0⟩,
    ⟨0x74002C, 128, 512, 0x0, 0x0, 0x0, 0x0, false, false, 0x0⟩,
    ⟨0x740030, 128, 512, 0x0, 0x0, 0x0, 0x0, false, false, 0x0⟩,
    ⟨0x740034, 128, 512, 0x0, 0x0, 0x0, 0x0, false, false, 0x0⟩,
    ⟨0x740038, 128, 512, 0x0, 0x0, 0x0, 0x0, false, false, 0x0⟩,
    ⟨0x74003C, 128, 512, 0x0, 0x0, 0x0, 0x0, false, false, 0x0⟩,
    ⟨0x740040, 128, 512, 0x0, 0x0, 0x0, 0x0, false, false, 0x0⟩,
    ⟨0x740044, 128, 512, 0x0, 0x0, 0x0, 0x0, false, false, 0x0⟩,
    ⟨0x740048, 128, 512, 0x0, 0x0, 0x0, 0x0, false, false, 0x0⟩,
    ⟨0x74004C, 128, 512, 0x0, 0x0, 0x0, 0x0, false, false, 0x0⟩,
    ⟨0x740050, 128, 512, 0x0, 0x0, 0x0, 0x0, false, false, 0x0⟩,
    ⟨0x740054, 128, 512, 0x0, 0x0, 0x0, 0x0, false, false, 0x0⟩] ++
  [
    ⟨0x740058, 128, 512, 0x0, 0x0, 0x0, 0x0, false, false, 0x0⟩,
    ⟨0x74005C, 128, 512, 0x0, 0x0, 0x0, 0x0, false, false, 0x0⟩]

/-- Registers of block 0x8. -/
def regRows8 : List RegRow :=
  [
    ⟨0x800000, 4, 1, 0x0, 0x0, 0x0, 0x0, false, false, 0x0⟩,
    ⟨0x800004, 4, 1, 0x0, 0x0, 0x0, 0x0, false, false, 0x0⟩,
    ⟨0x800008, 4, 1, 0x0, 0x3F, 0x0, 0x0, false, false, 0x0⟩,
    ⟨0x80000C, 4, 1, 0x0, 0x7, 0x0, 0x0, false, false, 0x0⟩,
    ⟨0x800080, 8, 1, 0x0, 0x0, 0x0, 0x0, false, false, 0x0⟩,
    ⟨0x800084, 8, 1, 0xFF00000, 0x0, 0x0, 0x0, false, false, 0x0⟩,
    ⟨0x800088, 8, 1, 0x0, 0x0, 0x0, 0x0, false, false, 0x0⟩,
    ⟨0x80008C, 8, 1, 0xFF00000, 0x0, 0x0, 0x0, false, false, 0x0⟩,
    ⟨0x800100, 4, 1, 0x0, 0x0, 0x0, 0x0, true, false, 0x0⟩,
    ⟨0x800104, 4, 1, 0x0, 0x0, 0x0, 0x0, true, false, 0x0⟩,
    ⟨0x800108, 4, 1, 0x0, 0x0, 0x0, 0x0, true, false, 0x0⟩,
    ⟨0x80010C, 4, 1, 0x0, 0x0, 0x0, 0x0, true, false, 0x0⟩,
    ⟨0x800110, 4, 1, 0x0, 0x0, 0x0, 0x0, true, false, 0x0⟩,
    ⟨0x800114, 4, 1, 0x0, 0x0, 0x0, 0x0, true, false, 0x0⟩,
    ⟨0x800118, 4, 1, 0x0, 0x0, 0x0, 0x0, true, false, 0x0⟩,
    ⟨0x80011C, 4, 1, 0x0, 0x0, 0x0, 0x0, true, false, 0x0⟩,
    ⟨0x800120, 4, 1, 0x0, 0x0, 0x0, 0x0, true, false, 0x0⟩,
    ⟨0x800124, 4, 1, 0x0, 0x0, 0x0, 0x0, true, false, 0x0⟩,
    ⟨0x810000, 8, 4096, 0x0, 0x0, 0x8F03FFFF, 0x0, false, false, 0x80⟩,
    ⟨0x810004, 8, 4096, 0x0, 0x0, 0x7FFFF, 0x0, false, false, 0x80⟩,
    ⟨0x818000, 16, 64, 0x0, 0x0, 0xFFFFFFFF, 0x0, false, true, 0x81⟩,
    ⟨0x818004, 16, 64, 0x0, 0x0, 0xFFFFFFFF, 0x0, false, false, 0x81⟩,
    ⟨0x818008, 16, 64, 0x0, 0x0, 0xC000003F, 0x0, false, false, 0x81⟩]

/-- Registers of block 0x9. -/
def regRows9 : List RegRow :=
  [
    ⟨0x900000, 4, 1, 0x0, 0x0, 0x0, 0x0, false, false, 0x0⟩,
    ⟨0x900004, 4, 1, 0x18, 0x0, 0x3D, 0x0, false, false, 0x90⟩,
    ⟨0x900008, 4, 1, 0x0, 0x0, 0x0, 0x0, false, true, 0x0⟩,
    ⟨0x90000C, 4, 1, 0x0, 0x0, 0x0, 0x0, false, false, 0x0⟩,
    ⟨0x900010, 4, 1, 0x0, 0x0, 0x0, 0x0, false, true, 0x0⟩,
    ⟨0x900014, 4, 1, 0x0, 0x0, 0x0, 0x0, false, false, 0x0⟩,
    ⟨0x900018, 4, 1, 0x0, 0x0, 0x0, 0x0, false, false, 0x0⟩,
    ⟨0x900080, 8, 1, 0x0, 0x0, 0x0, 0x0, false, false, 0x0⟩,
    ⟨0x900084, 8, 1, 0xFF00000, 0x0, 0x0, 0x0, false, false, 0x0⟩,
    ⟨0x900100, 64, 2, 0x1000000, 0x0, 0xFFFFFFFF, 0x0, false, false, 0x90⟩,
    ⟨0x900104, 64, 2, 0xFF00, 0x0, 0x0, 0x0, false, false, 0x0⟩,
    ⟨0x900108, 64, 3, 0x0, 0x0, 0x0, 0x0, false, false, 0x0⟩,
    ⟨0x90010C, 64, 3, 0x0, 0x0, 0x0, 0x0, false, false, 0x0⟩,
    ⟨0x900110, 64, 3, 0x0, 0x0, 0x0, 0x0, false, false, 0x0⟩,
    ⟨0x900114, 64, 3, 0x0, 0x0, 0x0, 0x0, false, false, 0x0⟩,
    ⟨0x900118, 64, 3, 0x0, 0x0, 0x0, 0x0, false, false, 0x0⟩,
    ⟨0x90011C, 64, 3, 0x0, 0x0, 0x0, 0x0, false, false, 0x0⟩,
    ⟨0x900120, 64, 3, 0x0, 0x0, 0x0, 0x0, false, false, 0x0⟩,
    ⟨0x900124, 64, 3, 0x0, 0x0, 0x0, 0x0, false, false, 0x0⟩,
    ⟨0x900128, 64, 3, 0x0, 0x0, 0x0, 0x0, false, false, 0x0⟩,
    ⟨0x900210, 4, 10, 0x0, 0x0, 0xFFFFFFFF, 0x0, false, false, 0x90⟩,
    ⟨0x900300, 4, 1, 0x0, 0x0, 0x0, 0x0, true, false, 0x0⟩,
    ⟨0x900304, 4, 1, 0x0, 0x0, 0x0, 0x0, true, false, 0x0⟩,
    ⟨0x900308, 4, 1, 0x0, 0x0, 0x0, 0x0, true, false, 0x0⟩] ++
  [
    ⟨0x90030C, 4, 1, 0x0, 0x0, 0x0, 0x0, true, false, 0x0⟩,
    ⟨0x900310, 4, 1, 0x0, 0x0, 0x0, 0x0, true, false, 0x0⟩,
    ⟨0x900314, 4, 1, 0x0, 0x0, 0x0, 0x0, true, false, 0x0⟩,
    ⟨0x900318, 4, 1, 0x0, 0x0, 0x0, 0x0, true, false, 0x0⟩,
    ⟨0x90031C, 4, 1, 0x0, 0x0, 0x0, 0x0, true, false, 0x0⟩,
    ⟨0x900320, 4, 1, 0x0, 0x0, 0x0, 0x0, true, false, 0x0⟩]

/-- Registers of block 0xA. -/
def regRows10 : List RegRow :=
  [
    ⟨0xA00000, 4, 1, 0x0, 0x0, 0x0, 0x0, false, false, 0x0⟩,
    ⟨0xA00004, 4, 1, 0x0, 0x0, 0x0, 0x0, false, false, 0x0⟩,
    ⟨0xA00008, 4, 1, 0x0, 0x0, 0x0, 0x80000000, false, false, 0x0⟩,
    ⟨0xA0000C, 4, 1, 0x0, 0x0, 0x0, 0x0, false, false, 0x0⟩,
    ⟨0xA00010, 4, 1, 0x0, 0x0, 0x0, 0x0, false, false, 0x0⟩,
    ⟨0xA00014, 4, 1, 0xA32, 0x0, 0x7FFFF, 0x0, false, false, 0xA0⟩,
    ⟨0xA00018, 4, 2, 0x0, 0x0, 0xFFFFFFFF, 0x0, false, false, 0xA0⟩,
    ⟨0xA00080, 8, 1, 0x0, 0x0, 0x0, 0x0, false, false, 0x0⟩,
    ⟨0xA00084, 8, 1, 0xFF00000, 0x0, 0x0, 0x0, false, false, 0x0⟩,
    ⟨0xA00100, 8, 16, 0x0, 0x0, 0xCFFFF000, 0x0, false, false, 0xA0⟩,
    ⟨0xA00104, 8, 16, 0x0, 0x0, 0xFFFFF1FF, 0x0, false, false, 0xA0⟩,
    ⟨0xA00200, 4, 1, 0x0, 0xFFFFFFFF, 0x0, 0x0, false, true, 0x0⟩,
    ⟨0xA00204, 4, 1, 0x0, 0xFFFFFFFF, 0x0, 0x0, false, false, 0x0⟩,
    ⟨0xA00208, 4, 1, 0x0, 0x7, 0x0, 0x0, false, false, 0x0⟩,
    ⟨0xA0020C, 4, 1, 0x0, 0xFFF, 0x0, 0x0, false, false, 0x0⟩,
    ⟨0xA00210, 4, 1, 0x0, 0x0, 0x0, 0x0, false, false, 0x0⟩,
    ⟨0xA00214, 4, 1, 0x0, 0xFFFFFFFF, 0x0, 0x0, false, false, 0x0⟩,
    ⟨0xA00218, 4, 1, 0x0, 0xFFFFFFFF, 0x0, 0x0, false, false, 0x0⟩,
    ⟨0xA00220, 4, 1, 0x0, 0x0, 0x0, 0x0, false, false, 0x0⟩,
    ⟨0xA00224, 4, 1, 0x0, 0x0, 0x0, 0x0, false, false, 0x0⟩,
    ⟨0xA00228, 4, 1, 0x0, 0x0, 0x0, 0x0, false, false, 0x0⟩,
    ⟨0xA0022C, 4, 1, 0x0, 0x0, 0x0, 0x0, false, false, 0x0⟩,
    ⟨0xA00230, 4, 1, 0x0, 0x0, 0x0, 0xFF, false, false, 0x0⟩,
    ⟨0xA00240, 4, 1, 0x0, 0xFFFF, 0x0, 0x0, false, false, 0x0⟩] ++
  [
    ⟨0xA00400, 64, 8, 0x0, 0xFFFFFFFF, 0x0, 0x0, false, true, 0x0⟩,
    ⟨0xA00404, 64, 8, 0x0, 0xFFFFFFFF, 0x0, 0x0, false, false, 0x0⟩,
    ⟨0xA00408, 64, 8, 0x0, 0xFFFF8000, 0x0, 0x0, false, false, 0x0⟩,
    ⟨0xA0040C, 64, 4, 0x800, 0x7FFF, 0x0, 0x0, false, false, 0x0⟩,
    ⟨0xA00410, 64, 4, 0x3E8, 0x1FFFF, 0x0, 0x0, false, false, 0x0⟩,
    ⟨0xA00414, 64, 8, 0x0, 0xFFFF, 0x0, 0x0, false, false, 0x0⟩,
    ⟨0xA00418, 64, 8, 0x0, 0x0, 0x0, 0x0, false, false, 0x0⟩,
    ⟨0xA0041C, 64, 8, 0x0, 0xFFFF, 0x0, 0x0, false, false, 0x0⟩,
    ⟨0xA00600, 4, 1, 0x0, 0x0, 0x0, 0x0, true, false, 0x0⟩,
    ⟨0xA00604, 4, 1, 0x0, 0x0, 0x0, 0x0, true, false, 0x0⟩,
    ⟨0xA00608, 4, 1, 0x0, 0x0, 0x0, 0x0, true, false, 0x0⟩,
    ⟨0xA0060C, 4, 1, 0x0, 0x0, 0x0, 0x0, true, false, 0x0⟩,
    ⟨0xA00610, 4, 1, 0x0, 0x0, 0x0, 0x0, true, false, 0x0⟩,
    ⟨0xA00614, 4, 1, 0x0, 0x0, 0x0, 0x0, true, false, 0x0⟩,
    ⟨0xA00618, 4, 1, 0x0, 0x0, 0x0, 0x0, true, false, 0x0⟩,
    ⟨0xA0061C, 4, 1, 0x0, 0x0, 0x0, 0x0, true, false, 0x0⟩,
    ⟨0xA00620, 4, 1, 0x0, 0x0, 0x0, 0x0, true, false, 0x0⟩,
    ⟨0xA00624, 4, 1, 0x0, 0x0, 0x0, 0x0, true, false, 0x0⟩,
    ⟨0xA00628, 4, 1, 0x0, 0x0, 0x0, 0x0, true, false, 0x0⟩,
    ⟨0xA0062C, 4, 1, 0x0, 0x0, 0x0, 0x0, true, false, 0x0⟩,
    ⟨0xA00630, 4, 1, 0x0, 0x0, 0x0, 0x0, true, false, 0x0⟩,
    ⟨0xA00634, 4, 1, 0x0, 0x0, 0x0, 0x0, true, false, 0x0⟩,
    ⟨0xA00638, 4, 1, 0x0, 0x0, 0x0, 0x0, true, false, 0x0⟩,
    ⟨0xA0063C, 4, 1, 0x0, 0x0, 0x0, 0x0, true, false, 0x0⟩] ++
  [
    ⟨0xA00640, 4, 1, 0x0, 0x0, 0x0, 0x0, true, false, 0x0⟩,
    ⟨0xA00644, 4, 1, 0x0, 0x0, 0x0, 0x0, true, false, 0x0⟩]

/-- Registers of block 0xB. -/
def regRows11 : List RegRow :=
  [
    ⟨0xB00000, 4, 1, 0x0, 0x0, 0x0, 0x0, false, false, 0x0⟩,
    ⟨0xB00004, 4, 1, 0x0, 0x0, 0x0, 0x0, false, false, 0x0⟩,
    ⟨0xB00008, 4, 1, 0x0, 0x0, 0x0, 0x0, false, false, 0x0⟩,
    ⟨0xB0000C, 4, 1, 0x0, 0x0, 0x0, 0x0, false, false, 0x0⟩,
    ⟨0xB00010, 4, 1, 0x0, 0x0, 0x0, 0x0, false, false, 0x0⟩,
    ⟨0xB00014, 4, 1, 0xFA003C, 0x0, 0x7FF007F, 0x0, false, false, 0xB0⟩,
    ⟨0xB00080, 8, 1, 0x0, 0x0, 0x0, 0x0, false, false, 0x0⟩,
    ⟨0xB00084, 8, 1, 0xFF00000, 0x0, 0x0, 0x0, false, false, 0x0⟩,
    ⟨0xB00088, 8, 1, 0x0, 0x0, 0x0, 0x0, false, false, 0x0⟩,
    ⟨0xB0008C, 8, 1, 0xFF00000, 0x0, 0x0, 0x0, false, false, 0x0⟩,
    ⟨0xB00100, 16, 24, 0x0, 0x0, 0xFFF70FFF, 0x0, false, false, 0xB0⟩,
    ⟨0xB00104, 16, 24, 0x328FA0F0, 0x0, 0xFFFFF9FF, 0x0, false, false, 0xB0⟩,
    ⟨0xB00108, 16, 24, 0x0, 0x0, 0x3FFF, 0x0, false, false, 0xB0⟩,
    ⟨0xB00300, 4, 16, 0x804, 0x0, 0xFF07, 0x0, false, false, 0xB1⟩,
    ⟨0xB00800, 16, 24, 0x0, 0x0, 0x0, 0x0, true, false, 0x0⟩,
    ⟨0xB00804, 16, 24, 0x0, 0x0, 0x0, 0x0, true, false, 0x0⟩,
    ⟨0xB00808, 16, 24, 0x0, 0x0, 0x0, 0x0, true, false, 0x0⟩,
    ⟨0xB0080C, 16, 24, 0x0, 0x0, 0x0, 0x0, true, false, 0x0⟩,
    ⟨0xB00A00, 4, 1, 0x0, 0x0, 0x0, 0x0, true, false, 0x0⟩,
    ⟨0xB00A04, 4, 1, 0x0, 0x0, 0x0, 0x0, true, false, 0x0⟩,
    ⟨0xB00A08, 4, 1, 0x0, 0x0, 0x0, 0x0, true, false, 0x0⟩,
    ⟨0xB00A0C, 4, 1, 0x0, 0x0, 0x0, 0x0, true, false, 0x0⟩,
    ⟨0xB00A10, 4, 1, 0x0, 0x0, 0x0, 0x0, true, false, 0x0⟩,
    ⟨0xB00A14, 4, 1, 0x0, 0x0, 0x0, 0x0, true, false, 0x0⟩] ++
  [
    ⟨0xB00A18, 4, 1, 0x0, 0x0, 0x0, 0x0, true, false, 0x0⟩,
    ⟨0xB10000, 4, 24, 0x0, 0xFF01, 0x0, 0x0, false, false, 0x0⟩,
    ⟨0xB10100, 8, 24, 0x0, 0x0, 0x0, 0x0, false, false, 0x0⟩,
    ⟨0xB10104, 8, 24, 0x0, 0x0, 0x0, 0x0, false, false, 0x0⟩,
    ⟨0xB101C0, 4, 1, 0x0, 0x0, 0x0, 0x0, false, false, 0x0⟩,
    ⟨0xB101C4, 4, 1, 0x0, 0x0, 0x0, 0x0, false, false, 0x0⟩,
    ⟨0xB101C8, 4, 1, 0x0, 0x0, 0x0, 0x0, false, false, 0x0⟩,
    ⟨0xB10200, 4, 1, 0x0, 0x0, 0x0, 0x0, false, false, 0x0⟩,
    ⟨0xB10204, 4, 1, 0x0, 0x0, 0x0, 0x0, false, false, 0x0⟩,
    ⟨0xB10208, 4, 8, 0x0, 0x0, 0x0, 0x0, false, false, 0x0⟩,
    ⟨0xB10228, 4, 1, 0x0, 0x0, 0x0, 0x0, false, false, 0x0⟩]

/-- Registers of block 0xC. -/
def regRows12 : List RegRow :=
  [
    ⟨0xC00000, 4, 1, 0xF0000, 0x0, 0x0, 0x0, false, false, 0x0⟩,
    ⟨0xC00004, 4, 1, 0x0, 0x0, 0x0, 0x0, false, false, 0x0⟩,
    ⟨0xC00008, 4, 1, 0x0, 0x3, 0x0, 0x0, false, false, 0x0⟩,
    ⟨0xC00010, 4, 1, 0xC006001, 0x0, 0x1F0FFC03, 0x0, false, false, 0xC0⟩,
    ⟨0xC00014, 4, 1, 0x0, 0x0, 0x0, 0x0, false, false, 0x0⟩,
    ⟨0xC00020, 4, 1, 0x0, 0x0, 0x0, 0x0, false, true, 0x0⟩,
    ⟨0xC00024, 4, 1, 0x0, 0x0, 0x0, 0x0, false, false, 0x0⟩,
    ⟨0xC00028, 4, 1, 0x0, 0x0, 0x0, 0x0, false, true, 0x0⟩,
    ⟨0xC0002C, 4, 1, 0x0, 0x0, 0x0, 0x0, false, false, 0x0⟩,
    ⟨0xC00030, 4, 1, 0x0, 0x0, 0x0, 0x0, false, false, 0x0⟩,
    ⟨0xC00080, 8, 1, 0x0, 0x0, 0x0, 0x0, false, false, 0x0⟩,
    ⟨0xC00084, 8, 1, 0xFF00000, 0x0, 0x0, 0x0, false, false, 0x0⟩,
    ⟨0xC00100, 4, 1, 0x0, 0x0, 0x0, 0x0, true, false, 0x0⟩,
    ⟨0xC00104, 4, 1, 0x0, 0x0, 0x0, 0x0, true, false, 0x0⟩,
    ⟨0xC00108, 4, 1, 0x0, 0x0, 0x0, 0x0, true, false, 0x0⟩,
    ⟨0xC0010C, 4, 1, 0x0, 0x0, 0x0, 0x0, true, false, 0x0⟩,
    ⟨0xC00110, 4, 1, 0x0, 0x0, 0x0, 0x0, true, false, 0x0⟩,
    ⟨0xC00114, 4, 1, 0x0, 0x0, 0x0, 0x0, true, false, 0x0⟩,
    ⟨0xC00118, 4, 1, 0x0, 0x0, 0x0, 0x0, true, false, 0x0⟩,
    ⟨0xC0011C, 4, 1, 0x0, 0x0, 0x0, 0x0, true, false, 0x0⟩,
    ⟨0xC00120, 4, 1, 0x0, 0x0, 0x0, 0x0, true, false, 0x0⟩,
    ⟨0xC00124, 4, 1, 0x0, 0x0, 0x0, 0x0, true, false, 0x0⟩,
    ⟨0xC00128, 4, 1, 0x0, 0x0, 0x0, 0x0, true, false, 0x0⟩]

/-- Registers of block 0xD. -/
def regRows13 : List RegRow :=
  [
    ⟨0xD00000, 4, 1, 0x1, 0x0, 0x0, 0x0, false, false, 0x0⟩,
    ⟨0xD00004, 4, 1, 0x0, 0x0, 0x0, 0x0, false, false, 0x0⟩,
    ⟨0xD00008, 4, 1, 0x0, 0x0, 0x0, 0x0, false, false, 0x0⟩,
    ⟨0xD00010, 4, 1, 0x0, 0xFFFFFF, 0x0, 0x0, false, false, 0x0⟩,
    ⟨0xD00014, 4, 1, 0x0, 0x1, 0x0, 0x0, false, false, 0x0⟩,
    ⟨0xD00018, 4, 1, 0x0, 0x0, 0x0, 0x0, false, false, 0x0⟩,
    ⟨0xD0001C, 4, 1, 0x10, 0x1F, 0x0, 0x0, false, false, 0x0⟩,
    ⟨0xD00020, 4, 1, 0x0, 0x0, 0x0, 0x0, false, false, 0x0⟩,
    ⟨0xD00024, 4, 1, 0x0, 0x0, 0x0, 0x0, false, false, 0x0⟩,
    ⟨0xD00040, 4, 1, 0xA01, 0x0, 0xFF03, 0x0, false, false, 0xD0⟩,
    ⟨0xD00044, 4, 1, 0x0, 0x0, 0xFFFFFFFF, 0x0, false, false, 0xD0⟩,
    ⟨0xD00048, 4, 1, 0x1, 0x0, 0xFFF, 0x0, false, false, 0xD0⟩,
    ⟨0xD0004C, 4, 1, 0x0, 0x0, 0xFFFFFFFF, 0x0, false, false, 0xD0⟩,
    ⟨0xD00080, 8, 1, 0x0, 0x0, 0x0, 0x0, false, false, 0x0⟩,
    ⟨0xD00084, 8, 1, 0xFF00000, 0x0, 0x0, 0x0, false, false, 0x0⟩,
    ⟨0xD00100, 4, 1, 0x0, 0x0, 0x0, 0x0, true, false, 0x0⟩,
    ⟨0xD00104, 4, 1, 0x0, 0x0, 0x0, 0x0, true, false, 0x0⟩,
    ⟨0xD00108, 4, 1, 0x0, 0x0, 0x0, 0x0, true, false, 0x0⟩,
    ⟨0xD0010C, 4, 1, 0x0, 0x0, 0x0, 0x0, true, false, 0x0⟩,
    ⟨0xD00110, 4, 1, 0x0, 0x0, 0x0, 0x0, true, false, 0x0⟩,
    ⟨0xD00114, 4, 1, 0x0, 0x0, 0x0, 0x0, true, false, 0x0⟩,
    ⟨0xD00118, 4, 1, 0x0, 0x0, 0x0, 0x0, true, false, 0x0⟩,
    ⟨0xD0011C, 4, 1, 0x0, 0x0, 0x0, 0x0, true, false, 0x0⟩,
    ⟨0xD00120, 4, 1, 0x0, 0x0, 0x0, 0x0, true, false, 0x0⟩] ++
  [
    ⟨0xD00124, 4, 1, 0x0, 0x0, 0x0, 0x0, true, false, 0x0⟩,
    ⟨0xD00128, 4, 1, 0x0, 0x0, 0x0, 0x0, true, false, 0x0⟩,
    ⟨0xD0012C, 4, 1, 0x0, 0x0, 0x0, 0x0, true, false, 0x0⟩,
    ⟨0xD00130, 4, 1, 0x0, 0x0, 0x0, 0x0, true, false, 0x0⟩,
    ⟨0xD00134, 4, 1, 0x0, 0x0, 0x0, 0x0, true, false, 0x0⟩,
    ⟨0xD00138, 4, 1, 0x0, 0x0, 0x0, 0x0, true, false, 0x0⟩,
    ⟨0xD00200, 4, 8, 0x0, 0x0, 0x0, 0x0, false, false, 0x0⟩,
    ⟨0xD00220, 4, 1, 0x0, 0x0, 0x0, 0x0, false, false, 0x0⟩,
    ⟨0xD00224, 4, 1, 0x0, 0x0, 0x0, 0x0, false, false, 0x0⟩,
    ⟨0xD00228, 4, 1, 0x0, 0x0, 0x0, 0x0, false, false, 0x0⟩,
    ⟨0xD00240, 4, 12, 0x0, 0x0, 0x0, 0x0, false, false, 0x0⟩]

/-- Registers of block 0xE. -/
def regRows14 : List RegRow :=
  [
    ⟨0xE00000, 4, 1, 0x0, 0x0, 0x0, 0x0, false, false, 0x0⟩,
    ⟨0xE00004, 4, 1, 0x0, 0x0, 0x0, 0x0, false, false, 0x0⟩,
    ⟨0xE00008, 4, 1, 0x0, 0x0, 0x0, 0x0, false, false, 0x0⟩,
    ⟨0xE0000C, 4, 1, 0x0, 0x0, 0x0, 0x0, false, false, 0x0⟩,
    ⟨0xE00010, 4, 1, 0x0, 0x0, 0x0, 0x0, false, false, 0x0⟩,
    ⟨0xE00014, 4, 1, 0x0, 0x0, 0x0, 0x0, false, false, 0x0⟩,
    ⟨0xE00018, 4, 1, 0x0, 0x0, 0x0, 0x0, false, false, 0x0⟩,
    ⟨0xE00020, 4, 1, 0x0, 0x0, 0x0, 0x0, false, false, 0x0⟩,
    ⟨0xE00024, 4, 1, 0x0, 0x8001FFFF, 0x0, 0x0, false, false, 0x0⟩,
    ⟨0xE00028, 4, 1, 0x0, 0x1FF, 0x0, 0x0, false, false, 0x0⟩,
    ⟨0xE00030, 4, 1, 0x3B, 0x0, 0x3FF, 0x0, false, false, 0xE0⟩,
    ⟨0xE00080, 8, 1, 0x0, 0x0, 0x0, 0x0, false, false, 0x0⟩,
    ⟨0xE00084, 8, 1, 0xFF00000, 0x0, 0x0, 0x0, false, false, 0x0⟩,
    ⟨0xE00100, 4, 1, 0x0, 0x0, 0x0, 0x0, true, false, 0x0⟩,
    ⟨0xE00104, 4, 1, 0x0, 0x0, 0x0, 0x0, true, false, 0x0⟩,
    ⟨0xE00108, 4, 1, 0x0, 0x0, 0x0, 0x0, true, false, 0x0⟩,
    ⟨0xE0010C, 4, 1, 0x0, 0x0, 0x0, 0x0, true, false, 0x0⟩,
    ⟨0xE00110, 4, 1, 0x0, 0x0, 0x0, 0x0, true, false, 0x0⟩,
    ⟨0xE10000, 4, 4096, 0x0, 0x0, 0x0, 0x0, false, false, 0x0⟩,
    ⟨0xE20000, 4, 4096, 0x203E7, 0x0, 0xFF07FFFF, 0x0, false, false, 0xE0⟩]

/-- Registers of block 0xF. -/
def regRows15 : List RegRow :=
  [
    ⟨0xF00000, 4, 1, 0x0, 0x0, 0x0, 0x0, false, false, 0x0⟩,
    ⟨0xF00004, 4, 1, 0x0, 0x0, 0x0, 0x0, false, false, 0x0⟩,
    ⟨0xF00008, 4, 1, 0x0, 0x0, 0x0, 0x0, false, false, 0x0⟩,
    ⟨0xF0000C, 4, 1, 0x0, 0x0, 0x0, 0x0, false, false, 0x0⟩,
    ⟨0xF00010, 4, 1, 0x0, 0x0, 0x0, 0x0, false, false, 0x0⟩,
    ⟨0xF00040, 4, 1, 0x258, 0x0, 0x10FFF, 0x0, false, false, 0xF0⟩,
    ⟨0xF00080, 8, 1, 0x0, 0x0, 0x0, 0x0, false, false, 0x0⟩,
    ⟨0xF00084, 8, 1, 0xFF00000, 0x0, 0x0, 0x0, false, false, 0x0⟩,
    ⟨0xF00100, 4, 64, 0x0, 0x0, 0x0, 0x0, false, false, 0x0⟩,
    ⟨0xF00200, 4, 64, 0x0, 0x0, 0x0, 0x0, false, false, 0x0⟩,
    ⟨0xF00300, 4, 1, 0x0, 0x0, 0x0, 0x0, true, false, 0x0⟩,
    ⟨0xF00304, 4, 1, 0x0, 0x0, 0x0, 0x0, true, false, 0x0⟩,
    ⟨0xF00308, 4, 1, 0x0, 0x0, 0x0, 0x0, true, false, 0x0⟩,
    ⟨0xF0030C, 4, 1, 0x0, 0x0, 0x0, 0x0, true, false, 0x0⟩,
    ⟨0xF00310, 4, 1, 0x0, 0x0, 0x0, 0x0, true, false, 0x0⟩,
    ⟨0xF10000, 4, 1024, 0x0, 0xFFFFFFFF, 0x0, 0x0, false, false, 0x0⟩]

/-- Registers of the object-dictionary window. -/
def regRows16 : List RegRow :=
  [
    ⟨0x1000000, 16384, 8, 0x0, 0x0, 0x0, 0x0, false, false, 0x0⟩,
    ⟨0x1000004, 16384, 8, 0x0, 0x0, 0x0, 0x0, false, false, 0x0⟩,
    ⟨0x1000008, 16384, 8, 0x0, 0xFFFFFFFF, 0x0, 0x0, false, false, 0x0⟩,
    ⟨0x100000C, 16384, 8, 0x0, 0x1FFF, 0x0, 0x0, false, false, 0x0⟩,
    ⟨0x1000010, 16384, 8, 0x0, 0x0, 0x0, 0x0, false, false, 0x0⟩,
    ⟨0x1000014, 16384, 8, 0x0, 0x0, 0x0, 0x0, false, false, 0x0⟩,
    ⟨0x1000018, 16384, 8, 0x0, 0x0, 0x0, 0x0, false, true, 0x0⟩,
    ⟨0x100001C, 16384, 8, 0x0, 0x0, 0x0, 0x0, false, false, 0x0⟩]

/-- Registers of the signal store. -/
def regRows17 : List RegRow :=
  [
    ⟨0x2000000, 8, 262144, 0x0, 0x0, 0x0, 0x0, false, true, 0x0⟩,
    ⟨0x2000004, 8, 262144, 0x0, 0x0, 0x0, 0x0, false, false, 0x0⟩]

/-- Registers of the schedule. -/
def regRows18 : List RegRow :=
  [
    ⟨0x10000000, 16, 65536, 0x0, 0x0, 0xFF1FFFFF, 0x0, false, false, 0x10⟩,
    ⟨0x10000004, 16, 65536, 0x0, 0x0, 0x1FFF1FFF, 0x0, false, false, 0x10⟩,
    ⟨0x10000008, 16, 65536, 0x0, 0x0, 0xF01FFFFF, 0x0, false, false, 0x10⟩,
    ⟨0x1000000C, 16, 65536, 0x0, 0x0, 0xFFFFFFFF, 0x0, false, false, 0x10⟩]

/-- Registers of the Blend table. -/
def regRows19 : List RegRow :=
  [
    ⟨0x20000000, 32, 262144, 0x0, 0x0, 0xFFFFFFFF, 0x0, false, false, 0x80⟩,
    ⟨0x20000004, 32, 262144, 0x0, 0x0, 0xFFFFFFFF, 0x0, false, false, 0x80⟩,
    ⟨0x20000008, 32, 262144, 0x0, 0x0, 0xFFFFFFFF, 0x0, false, false, 0x80⟩,
    ⟨0x2000000C, 32, 262144, 0x0, 0x0, 0xFFFFFFFF, 0x0, false, false, 0x80⟩,
    ⟨0x20000010, 32, 262144, 0x0, 0x0, 0xE0FFFF7F, 0x0, false, false, 0x80⟩,
    ⟨0x20000014, 32, 262144, 0x0, 0x0, 0xFFFFFFFF, 0x0, false, false, 0x80⟩]

/-- Registers of the signal qualities. -/
def regRows20 : List RegRow :=
  [
    ⟨0x38000000, 8, 262144, 0x0, 0x0, 0x0, 0x0, false, false, 0x0⟩,
    ⟨0x38000004, 8, 262144, 0x0, 0x0, 0x0, 0x0, false, false, 0x0⟩]

/-- The rows that can hold address `a`, by the block the address falls in (R87). -/
def regRowsAt (a : Nat) : List RegRow :=
  if a < 0x100000 then regRows0
  else if a < 0x200000 then regRows1
  else if a < 0x300000 then regRows2
  else if a < 0x400000 then regRows3
  else if a < 0x500000 then regRows4
  else if a < 0x600000 then regRows5
  else if a < 0x700000 then regRows6
  else if a < 0x800000 then regRows7
  else if a < 0x900000 then regRows8
  else if a < 0xA00000 then regRows9
  else if a < 0xB00000 then regRows10
  else if a < 0xC00000 then regRows11
  else if a < 0xD00000 then regRows12
  else if a < 0xE00000 then regRows13
  else if a < 0xF00000 then regRows14
  else if a < 0x1000000 then regRows15
  else if a < 0x2000000 then regRows16
  else if a < 0x3000000 then regRows17
  else if a < 0x20000000 then regRows18
  else if a < 0x38000000 then regRows19
  else regRows20

/-- Row `r` holds address `a`. -/
def RegRow.holds (r : RegRow) (a : Nat) : Bool :=
  decide (r.base ≤ a) && decide (a < r.base + r.stride * r.count) && decide ((a - r.base) % r.stride = 0)

/-- The instance number of address `a` within its row. -/
def RegRow.index (r : RegRow) (a : Nat) : Nat := (a - r.base) / r.stride

/-- The register at byte address `a`, if there is one; every other address is reserved (R5). -/
def rowOf (a : Nat) : Option RegRow := (regRowsAt a).find? (·.holds a)

/-- Reset value of the register at `a` (the Reset columns; 0 where the address is reserved, R5). -/
def resetWord (a : Nat) : BitVec 32 :=
  match rowOf a with
  | some r => BitVec.ofNat 32 r.reset
  | none => 0#32

/-- The commit group of the register at `a` (R94); 0 for none. The CAN groups are 0x70 + c (file 11 R325). -/
def groupOf (a : Nat) : Nat :=
  match rowOf a with
  | some r => if r.group = 0x70 then 0x70 + r.index a else r.group
  | none => 0

/-- The commit groups of the node and the address of each one's COMMIT register (R95). -/
def commitRegs : List (Nat × Nat) :=
  [(0x10, 0x100080), (0x11, 0x100088), (0x20, 0x200080), (0x21, 0x200088),
   (0x22, 0x200090), (0x30, 0x300080), (0x40, 0x400080), (0x50, 0x500080),
   (0x51, 0x500088), (0x52, 0x500090), (0x53, 0x500098), (0x60, 0x600080),
   (0x70, 0x700080), (0x71, 0x700088), (0x72, 0x700090), (0x73, 0x700098),
   (0x74, 0x7000A0), (0x75, 0x7000A8), (0x76, 0x7000B0), (0x77, 0x7000B8),
   (0x80, 0x800080), (0x81, 0x800088), (0x90, 0x900080), (0xA0, 0xA00080),
   (0xB0, 0xB00080), (0xB1, 0xB00088), (0xC0, 0xC00080), (0xD0, 0xD00080),
   (0xE0, 0xE00080), (0xF0, 0xF00080)]

end Sys2Proof.Machine
end

