-- ==== Sys2Proof/Machine/State.lean ====
section
/-! DEFINITION. The state of the node: plain data, every piece of it named by the spec, or marked as the model's own. Words of
registers lie in three sparse maps keyed by BAR0 byte address (R8, R87): `regs` holds RO, RW and RC words, `shadow` and `force` the two values
of every SH word (R4, R88). The paged tables lie at home addresses above BAR0 (log entry 2). What is not a register lies in one record per block. -/

namespace Sys2Proof.Machine

/-! ### Power and supply (files 02, 03) -/

/-- The power states (R58), with the transitions between them. -/
inductive Power where
  | off | run | dormEntry | shutdown | dormancy
  deriving DecidableEq, Repr

/-- Causes of an orderly shutdown (R50). -/
inductive ShutdownCause where
  | overvoltage | dipTimeout | interruption | reserve | thermal
  deriving DecidableEq, Repr

/-- Reasons for which the Vintner reports a fault, STAT_FLT_N low (R40 and the rules each names). -/
inductive FaultCause where
  /-- A block whose memory failed the power-on test (R70). -/
  | memory (block : Nat)
  /-- 64 Casks retired (R171). -/
  | casks
  /-- No committed Vintage (R71). -/
  | recovery
  /-- A recompute failed (R231). -/
  | recompute
  /-- A die sensor at 125 °C or above (R469). -/
  | die (sensor : Nat)
  /-- A rail outside its window (R470). -/
  | rail (r : Nat)
  /-- Neither copy of the persistent store is valid (R475). -/
  | store
  /-- A Press left failed (R292). -/
  | press (p : Nat)
  deriving DecidableEq, Repr

/-- A start that is still to be counted and recorded: a warm reset with its cause (R75), a wake with its WAKE_SRC bits and the raw counter at
the instant it counts from (R82). -/
inductive StartRecord where
  | warm (cause : Nat)
  | wake (source raw : Nat)
  deriving DecidableEq, Repr

/-- Supply monitoring (R44 to R54) and start-up (R64 to R83). -/
structure Supply where
  /-- The dip timer runs (R46). -/
  dip : Bool
  /-- The interruption window runs (R48). -/
  interruption : Bool
  /-- A shutdown was thermal and no start has succeeded since: a start goes on only while the baseplate reads 80 °C or less (R30). -/
  hotStop : Bool
  /-- A thermal shutdown has begun: VBATT has neither fallen below 4.5 V nor WAKE_IN_N been asserted since, so the node stays off (R30). -/
  heatLock : Bool
  /-- Cause of the shutdown in progress. -/
  cause : Option ShutdownCause
  /-- HOST_SEL as sampled at power-good: true selects PCIe (R42). -/
  pcie : Bool
  /-- Raw counter at power-good, wake or the warm-reset cause: the reference of BOOT_TIME (R84). -/
  startRaw : Nat
  /-- The start-up in progress is a wake (R82) and this is the raw counter at the wake event. -/
  waking : Bool
  /-- The start-up in progress is a warm reset (R74). -/
  warm : Bool
  /-- A wake latched during entry past the point of no return, or while VBATT was low (R80, R54): WAKE_SRC bits. -/
  latchedWake : Option Nat
  /-- Host mailboxes whose access ended with the supply of the islands: a wake shows them LOST (R481). -/
  lost : List (Fin 4)
  /-- The wake waits for VBATT to be good for 100 ms (R54). -/
  wakeWaitsSupply : Bool
  /-- Step of the Dormancy entry reached (R79): 0 none, 1 accepted, 2 boundary, 3 flushed, 4 bypass released, 5 no return. -/
  dormStep : Nat
  /-- Wake sources armed at step 5 of the entry: IN_EN over BB_EN, as in WAKE_CFG (R79). -/
  armed : Nat
  /-- A wake has aborted the entry; Run resumes at the next base-cycle boundary (R80). -/
  dormAbort : Bool
  /-- Warm resets and wakes of this start-up that no commit or recovery has yet counted, oldest first (R75, R82). -/
  owed : List StartRecord
  /-- The Vintner firmware runs (R65). -/
  firmware : Bool
  /-- Firmware copies that have failed in this start-up (R65). -/
  fwTried : Nat
  /-- The slot being loaded, and whether the other one has already failed in this start-up (R68). -/
  slot : Nat
  slotFailed : Bool
  /-- The Vintage in force or being loaded has verified and waits for its boundary (R67). -/
  verified : Bool
  /-- Sections of the Vintage being loaded, newest first: speculative (R67). -/
  sections : List VintageSection
  /-- The recovery state (R71). -/
  recovery : Bool
  /-- The Vintner is halted by an SRAM error or a lost watchdog service (R465). -/
  halted : Bool
  /-- Speculative state: SPEC_STATUS source and blocks are in the register; this holds the source of a start-up load. -/
  loading : Bool
  deriving DecidableEq, Repr

/-- Levels of the pins the node drives that no register shows (R37, R40, R51); true means asserted (low for an _N pin). -/
structure Pins where
  pwrwarn : Bool
  statOk : Bool
  ppsOut : Bool
  holdOut : Bool
  qspiIrq : Bool
  /-- CAN0_STB to CAN7_STB, set by the owning image (R303). -/
  canStb : BitVec 8
  deriving DecidableEq, Repr

/-! ### Commit (file 04) -/

/-- Where the commit of a group stands (R96, R98, R99). -/
inductive CommitPhase where
  | idle
  | validating
  /-- Validated; lets `skip` base-cycle starts pass before it takes effect. Idle-bound groups ignore `skip`. -/
  | pending (skip : Nat)
  /-- Group 0x11: its base-cycle start has come, and it waits for the next start of fabric slot 0 (R133). `alone` is false in a multi-group set. -/
  | slotZero (alone : Bool)
  deriving DecidableEq, Repr

/-- A multi-group set that is validated and waits (R99). -/
structure McSet where
  groups : List Nat
  skip : Nat
  deriving DecidableEq, Repr

/-- A 64-bit high-word latch and the table-window latches of one initiator (R91, R173, R356). -/
structure WindowLatch where
  entry : Nat
  w1 : Word
  w2 : Word
  w3 : Word
  deriving DecidableEq, Repr

/-! ### Cellar Book (file 18) -/

/-- A record of the book, or one waiting in the RAM queue (R498). `early` marks a record raised before READY: its run time and
power-cycle count are completed at recovery (R497). -/
structure Record where
  code : Nat
  sev : Nat
  spec : Bool
  timeValid : Bool
  summary : Bool
  runS : Nat
  runMs : Nat
  suppr : Nat
  pcc : Nat
  time : Nat
  payload : List Nat
  early : Bool
  /-- The raw counter when the event was raised. -/
  raw : Nat
  deriving DecidableEq, Repr

/-- One copy of the pointer block (R497). -/
structure PointerBlock where
  wseq : Word
  fpCount : Nat
  lpHead : Nat
  lpWraps : Nat
  runS : Nat
  runMs : Nat
  pcc : Nat
  deriving DecidableEq, Repr

/-- The Cellar Book: the MRAM areas, the RAM queue, the rate limiter and the freeze (R495 to R506). -/
structure Book where
  /-- First Pressing, newest first. -/
  first : List Record
  /-- Last Pressing by slot. -/
  last : SMap (Option Record)
  ptrA : PointerBlock
  ptrB : PointerBlock
  queue : List Record
  /-- Tokens missing from each code's bucket (R502). -/
  missing : SMap Nat
  /-- Pending counts (R502). -/
  pendingCount : SMap Nat
  /-- Records lost to overflow since the last 0x0E01 (R504). -/
  lostFull : Nat
  /-- Records lost with the queue at a reset or power loss (R504). -/
  lostReset : Nat
  /-- A commanded freeze is in force (R505). -/
  frozenCmd : Bool
  /-- A register readout runs; `none` of it is left when it completes (R506). -/
  readout : Bool
  /-- An object-dictionary readout of an area freezes the book (R506). -/
  odReadout : Bool
  /-- The pointer block has been recovered in this power cycle, so that the next two fields hold: RUN_S × 1000 + RUN_MS at its start and its
  power-cycle count (R497, R500). -/
  recovered : Bool
  baseMs : Nat
  pcc : Nat
  /-- The record whose write the last loss of the queue may have cut short before its pointer update (R500). -/
  cut : Option Record
  /-- Slots, of the Last Pressing or not, whose record cannot be read correctly (R501). -/
  unreadable : List (Bool × Nat)
  deriving DecidableEq, Repr

/-! ### Interrupts (file 14 R394 to R396) -/

/-- A vector that has fired and waits for delivery. -/
structure Fire where
  vector : Nat
  code : Nat
  kind : Nat
  arg : Nat
  stamp : Nat
  deriving DecidableEq, Repr

/-! ### Trellis (file 05) -/

/-- An action that has started and not yet completed (R118, R119). -/
structure RunningAction where
  entry : Nat
  action : Nat
  target : Nat
  deriving DecidableEq, Repr

/-- The Trellis scheduler (R106 to R137). -/
structure Trellis where
  running : List RunningAction
  /-- Entries whose GATE window is open (R123). -/
  openGates : List Nat
  /-- Entries in force that are skipped after an uncorrectable error (R137). -/
  skipped : List Nat
  /-- Those of them that stay skipped until the next commit of group 0x10 (R137). -/
  heldEntries : List Nat
  /-- Words of the shadow bank with an uncorrectable error: entry, word (R137). -/
  shadowBad : List (Nat × Nat)
  /-- A hard re-phase is due at the next base-cycle start, with the old timeline's cycle running on (R109). -/
  rephaseDue : Bool
  /-- The re-phase gap lasts, or the new grid has not started: nothing is issued and no racking point occurs (R109, R136). -/
  gap : Bool
  waitOrigin : Bool
  /-- Cycle index before the gap (R109). -/
  gapFrom : Nat
  /-- Identifiers of tests that have begun and not finished (R129). -/
  suspended : List Nat
  /-- Active time in ns at which the running slew began (R108). -/
  slewFrom : Nat
  /-- In a re-phase gap, or while a new grid is awaited: ns from its start to the next base-cycle start, and that start's schedule time (R109,
  R136). -/
  resumeNs : Nat
  resumeAt : Int
  /-- Controllers that were in the middle of a frame at the last base-cycle start, as the bus showed (R325). -/
  canFrames : BitVec 8
  /-- Raw counter at which the fabric wheel began to turn (R138). -/
  wheelFrom : Nat
  /-- The Press that was granted the last slot of the Press complex (R271). -/
  pressTurn : Nat
  deriving DecidableEq, Repr

/-! ### Switch core (file 06) -/

/-- A frame the Cellar has received: what step 3 classified (R151), its Casks (R149) and its arrival in µs (R165). -/
structure HeldFrame where
  id : Nat
  frame : Frame
  port : Nat
  vid : Nat
  pcp : Nat
  casks : Nat
  rxUs : Nat
  /-- The ingress stamp, a fine stamp (R358, R359). -/
  stamp : Nat
  /-- The host asked for the egress stamp of this frame: transmit ring and descriptor index (R404). -/
  tsReq : Option (Nat × Nat)
  deriving DecidableEq, Repr

/-- One copy in an egress queue, with where its Casks are charged (R161, R162) and its form at the wire (R168). -/
structure Copy where
  id : Nat
  port : Nat
  queue : Nat
  casks : Nat
  guaranteed : Bool
  rxUs : Nat
  stamp : Nat
  /-- The egress stamp, a fine stamp taken at selection (R358, R359). -/
  egress : Nat
  ingress : Nat
  pcp : Nat
  vid : Nat
  /-- The tag of the frame as stored, before egress handling. -/
  tagged : Bool
  out : Frame
  /-- The host asked for the egress stamp of this frame: transmit ring and descriptor index (R404). -/
  tsReq : Option (Nat × Nat)
  /-- Collisions of this copy on a multidrop port (R205, R206). -/
  tries : Nat
  deriving DecidableEq, Repr

/-- One way of the address table (R154 to R156). -/
structure Way where
  mac : Mac
  fid : Nat
  ports : BitVec 19
  isStatic : Bool
  seenUs : Nat
  deriving DecidableEq, Repr

/-- The Cellar (R148 to R171). -/
structure Cellar where
  /-- Queued copies, oldest first. -/
  copies : List Copy
  /-- The copy each port is transmitting (R124). -/
  sending : SMap (Option Copy)
  /-- Offset in ns, in the running base cycle, at which the last bit of that copy leaves (R124). -/
  sendEnd : SMap Nat
  /-- The Lees queue, oldest first (R228). -/
  lees : List HeldFrame
  /-- Way of bucket b at key 8 b + way. -/
  table : SMap (Option Way)
  nextId : Nat
  /-- The speculative bank of group 0x21: loaded words, and whether it has entered classification (R160, R224). -/
  specBank : Option (SMap Word)
  specActive : Bool
  /-- The previous bank of group 0x21 and the base cycles it is kept (R229). -/
  prevBank : SMap Word
  prevCycles : Nat
  /-- Frames of the Lees queue that have to re-enter at a commit boundary (R228). -/
  releasing : Nat
  /-- A recompute is due: routed frames stop at step 4 (R231). -/
  recomputeDrop : Bool
  /-- The Casks retired (R171). -/
  retired : List Nat
  deriving DecidableEq, Repr

/-! ### Ports (file 07) -/

/-- What a port holds beside its registers. -/
structure PortState where
  /-- The PHY or PCS reports a usable link (R186). A backbone port whose bypass line is released cannot use it (R189). -/
  usable : Bool
  /-- A loss is being debounced (R187). -/
  losing : Bool
  info : PhyInfo
  /-- The back-off drawn on a multidrop port, in slot times (R205). -/
  backoff : Option Nat
  /-- A loopback runs (R537). -/
  loopback : Bool
  /-- Frames that the running loopback sends (R541). -/
  loopCount : Nat
  /-- Raw counter at which the PHY's present report, of a link or of none, began (R186, R187). -/
  since : Nat
  /-- The MAX_FRAME that the last change replaced, and the raw counter at the change (R179). -/
  maxWas : Option (Nat × Nat)
  deriving DecidableEq, Repr

/-! ### Inauguration (file 08) -/

/-- A backbone line as TTDP shows it (R215, R217). -/
structure LineState where
  helloValid : Bool
  neighbour : Mac
  /-- HELLOs still to be sent at the fast period after the line came up (R215). -/
  fastLeft : Nat
  deriving DecidableEq, Repr

/-- The counter the TOPOLOGY frames of one ETBN carry, and the raw counter at the last of them (R225). -/
structure EtbnReport where
  mac : Mac
  counter : Word
  stamp : Nat
  deriving DecidableEq, Repr

/-- A running speculation (R223, R224). -/
structure Speculation where
  variant : GraftVariant
  predicted : List ConsistInfo
  /-- The predicted etbTopoCnt, once it can be computed. -/
  counter : Option Word
  /-- Event 0x0404 has been recorded for it (R228). -/
  fullSeen : Bool
  /-- Base-cycle starts to pass before it enters classification (R224). -/
  wait : Nat
  deriving DecidableEq, Repr

/-- A topology commit that is decided, or being recomputed, and waits for its boundary (R226, R230). -/
structure TopoCommit where
  tag : Fin 16
  table : List ConsistInfo
  counter : Word
  bank : SMap Word
  recompute : Bool
  agreedRaw : Nat
  /-- Base-cycle starts still to pass; at 0 the start at which it takes effect has come. -/
  skip : Nat
  /-- The recomputed entries of group 0x10, by address (R132). -/
  schedule : List (Nat × Word)
  deriving DecidableEq, Repr

/-- The inauguration engine (R213 to R235). -/
structure Inauguration where
  lines : SMap LineState
  /-- The node's connectivity table, in train order from end 1, and the reports of the other ETBNs (R225). -/
  table : List ConsistInfo
  reports : List EtbnReport
  /-- The committed table, own position from 1, and orientation. -/
  committed : List ConsistInfo
  start : Fin 16
  known : List KnownTopology
  variants : List GraftVariant
  devices : List DeviceInfo
  backboneVid : BitVec 12
  outside : List (Nat × Word)
  /-- NET_BASE and SUBNET_SHIFT of the Vintage, for which it carries the banks of its shapes (R222). -/
  netBase : Nat
  netShift : Nat
  /-- The devices of other consists, by ETBN: host number and MAC, as consist information gave them (R220). -/
  foreign : List (Mac × List (Nat × Mac))
  /-- The consists as their ETBNs' latest TTDP frames show them, for LINES (R237). -/
  heard : List ConsistInfo
  spec : Option Speculation
  /-- A recompute is owed at the next train agreement (R230); it runs when `recomputing`. -/
  owed : Bool
  recomputing : Option TopoCommit
  decided : Option TopoCommit
  /-- The first commit after start has yet to be made (R232). -/
  first : Bool
  deriving DecidableEq, Repr

/-! ### Process data (file 09) -/

/-- What a flow context holds beside its registers: the SDTv2 counters and runs (R258, R259). -/
structure FlowState where
  safeSeq : Nat
  validRun : Nat
  failRun : Bool
  /-- Event 0x0503, and event 0x0506, has been recorded for it since the last commit (R247, R255). -/
  staleSeen : Bool
  noMacSeen : Bool
  /-- Raw counter at the last buffer exchange or activation, from which AGE counts (R245, R253). -/
  since : Option Nat
  deriving DecidableEq, Repr

/-- What a message session holds beside its registers (R261 to R263). -/
structure SessionState where
  triesLeft : Nat
  id : BitVec 128
  /-- The request last answered, and the reply to it (R263). -/
  answered : Option Telegram
  reply : Option Telegram
  /-- The request sent or received. -/
  request : Option Telegram
  deriving DecidableEq, Repr

/-! ### Press complex (file 10) -/

/-- What follows a stop, by the request that asked for it (R290). -/
inductive StopFollow where
  | stay | test | reload | commit
  deriving DecidableEq, Repr

/-- What a Press holds beside its registers and its image window (R268, R274, R285, R290, R292). -/
structure Press where
  /-- Schedule entry of the protocol cycle that runs (R127). -/
  cycle : Option Nat
  selector : Nat
  /-- The Press's copy of the output front buffer, taken at PRESS_START (R274). -/
  outputs : List Byte
  /-- The receive queue: each frame with its ingress stamp (R285, R359). -/
  rxQueue : List (Frame × Nat)
  /-- A stop that waits to take effect: its cause and what follows it (R290). -/
  stopWaits : Option (Nat × StopFollow)
  /-- Run times in ms of the automatic reloads of the last 60 minutes (R292). -/
  reloads : List Nat
  /-- The load in progress counts in CNT_PRS_RELOAD: it is not that of start-up (R293). -/
  counts : Bool
  /-- The Press's SRAM from its first byte on, up to 256 KiB: image code and compiled configuration; what follows is the image's data, cleared
  to 0 (R268, R293). -/
  sram : List Byte
  deriving DecidableEq, Repr

/-- A transmission of a line unit (R279, R280): the instant at which DE rises in 1/1,024 ns of the raw counter, the length of a bit and of a
step of TXD in the same unit, and the levels that TXD runs through. -/
structure LineBurst where
  rise : Nat
  bit : Nat
  step : Nat
  levels : List Bool
  deriving DecidableEq, Repr

/-- A line unit (R277 to R281). -/
structure LineUnit where
  /-- Transmissions begun or to come, newest first. -/
  bursts : List LineBurst
  /-- Static levels of TXD and DE: the attachment controls of image 0x0002 (R297). -/
  held : Option (Bool × Bool)
  /-- Received bits the image has still to read. -/
  received : List Bool
  /-- The captures, newest first (R281). -/
  captures : List Nat
  deriving DecidableEq, Repr

/-- A Press image of the Vintage in force (R516): identifier, version, security version number, digest, code, compiled configurations. -/
structure ImageInfo where
  id : Nat
  version : Nat
  svn : Nat
  digest : BitVec 256
  code : List Byte
  configs : List PressConfig
  deriving DecidableEq, Repr

/-! ### CAN (file 11) -/

structure CanTx where
  tag : Half
  frame : CanFrame
  deriving DecidableEq, Repr

structure CanRx where
  frame : CanFrame
  stamp : Nat
  deriving DecidableEq, Repr

/-- What a controller holds beside its registers (R308 to R323). -/
structure CanCtrl where
  tx : List CanTx
  rx : List CanRx
  /-- Consecutive data-field bit errors of the head entry after it won arbitration; the collision was reported (R322). -/
  idRun : Nat
  idSeen : Bool
  /-- A reference message waits ahead of the head; an earlier one is on the bus (R323). -/
  refWaits : Bool
  refBegun : Bool
  /-- The data that the image has prepared for the reference message (R323). -/
  refData : List Byte
  /-- TEC or REC has reached 96 in the running excursion (R318). -/
  warned : Bool
  deriving DecidableEq, Repr

/-! ### Blend unit (file 12) -/

/-- What the Blend unit holds beside its tables and the signal store. -/
structure Blend where
  /-- The marker each IN entry last updated from (R341). -/
  markers : SMap (Option Nat)
  /-- Entries skipped after an uncorrectable error (R348). -/
  skipped : List Nat
  /-- SEQ and FRONT of the headers the node writes to host containers (R339). -/
  hostHeaders : SMap (Nat × Bool)
  /-- Initial values of the signals, from the Vintage's signal section (R331). -/
  initial : SMap DWord
  /-- Their initial formats, true for float, which group 0x80 holds for every signal (R349). -/
  initialFmt : SMap Bool
  /-- The low word of a signal that an initiator has written and whose high word it has not (R328). -/
  heldLow : SMap (Option (Nat × Word))
  deriving DecidableEq, Repr

/-! ### Time (file 13) -/

/-- A time view: BASE, ANCHOR and RATE (R355). -/
structure View where
  base : DWord
  anchor : DWord
  rate : Word
  deriving DecidableEq, Repr

/-- The time base and the protocol state of the domains (R354 to R373). -/
structure TimeBase where
  /-- The raw counter, in 2 ns ticks (R354). -/
  raw : DWord
  d0 : View
  d1 : View
  act : View
  /-- Consecutive Sync messages of a domain with an offset of 100 ns or less (R365), by domain. -/
  goodRun : SMap Nat
  /-- The difference in ns, source less active time, that a slew removes (R367). -/
  slewNs : Int
  /-- Seconds count that OD 0x2900.06 sets (R372). -/
  gmSeconds : DWord
  /-- The last second of the active time at which PPS_OUT rose, or that a step crossed: seconds up to it get no pulse (R373). -/
  ppsSecond : Nat
  /-- The second at which the pulse in progress rose (R373). -/
  ppsRise : Nat
  deriving DecidableEq, Repr

/-- The BASE, ANCHOR, RATE and TIME_HI an initiator's read of TIME_LO latched (R356). -/
structure TimeLatch where
  hi : Word
  view : View
  deriving DecidableEq, Repr

/-! ### Host bridge (file 14) -/

/-- A 256-byte prefetch line (R390, R391). -/
structure PrefetchLine where
  bar : Bar
  ofs : Nat
  bytes : List Byte
  /-- The range entry it was fetched in. -/
  entry : Nat
  sideEffect : Bool
  deriving DecidableEq, Repr

/-- A QSPI delayed read (R381); `data` once the access has completed. -/
structure DelayedRead where
  region : Bar
  ofs : Nat
  len : Nat
  data : Option (List Byte)
  deriving DecidableEq, Repr

/-- An event-queue entry (R396). -/
structure EqEntry where
  w0 : Word
  w1 : Word
  stamp : DWord
  deriving DecidableEq, Repr

/-- What a ring holds beside its registers (R398 to R400, R403). -/
structure Ring where
  /-- Descriptors reserved and not yet written back. -/
  reserved : Nat
  /-- Completions not yet reported by the ring's vector. -/
  unreported : Bool
  deriving DecidableEq, Repr

/-- An HP copy that has reserved its descriptors and is being written to host memory (R400). -/
structure RxWork where
  ring : Nat
  /-- The table slots of its descriptors, and WRAP of the ring, as of the reservation (R398). -/
  slots : List Nat
  wrap : Nat
  /-- The ring has been enabled anew since: its counters are no longer the frame's. -/
  detached : Bool
  queue : Nat
  copy : Copy
  deriving DecidableEq, Repr

/-- A fetched transmit frame whose descriptors have not been written back (R403). -/
structure TxWork where
  ring : Nat
  /-- The table slots of its descriptors, WRAP, and whether the ring has been enabled anew since, as for a received frame (R398). -/
  slots : List Nat
  wrap : Nat
  detached : Bool
  descs : List TxDesc
  status : Nat
  deriving DecidableEq, Repr

/-- The host bridge (R378 to R405). -/
structure HostBridge where
  inReset : Bool
  /-- Bus Master Enable, and the power state D0 (R379). -/
  bme : Bool
  d0 : Bool
  /-- What else software has written in PCIe configuration space (R378). -/
  config : PcieConfig
  /-- MSI-X table words by BAR4 offset, and the pending bits (R378, R394). -/
  msixTable : SMap Word
  msixPending : BitVec 64
  /-- Vectors that have fired and wait for INTERRUPT_FIRE (R395), oldest first. -/
  fires : List Fire
  /-- The QSPI event FIFO, oldest first, and the words 1 to 3 latched by an initiator's EQ_POP0 read (R396). -/
  eqFifo : List EqEntry
  eqPops : SMap (Option EqEntry)
  /-- Entries lost since the queue last had space, and the phase bit of the current pass (R396). -/
  eqLost : Nat
  /-- The host-memory queue has wrapped an odd number of times; every slot holds an entry. -/
  eqPhase : Bool
  eqFull : Bool
  /-- Slot of the host-memory queue that holds the latest entry of vector 4 from a HOST_IRQ (R120). -/
  eqIrq : Option Nat
  prefetch : List PrefetchLine
  delayed : List DelayedRead
  /-- A non-posted QSPI write that has not completed at its target: region and offset (R382). -/
  fence : Option (Bar × Nat)
  rings : SMap Ring
  rxWork : List RxWork
  txWork : Option TxWork
  /-- Copies that wait at the head of an HP queue for descriptors (R399), by queue. -/
  rxWaits : SMap (Option Copy)
  /-- The last QSPI status byte (R380). -/
  qspiStatus : Byte
  /-- A device request has been withdrawn under R393 and is reissued after the host request. -/
  yielded : Bool
  deriving DecidableEq, Repr

/-! ### Outputs and inputs (file 15) -/

/-- The sequence a channel is in (R415, R417). -/
inductive ChanSeq where
  | none
  | inrush
  /-- A retry sequence whose channel conducts, or whose retry waits. -/
  | retry (waiting : Bool)
  deriving DecidableEq, Repr

/-- One output channel (R410 to R430). -/
structure Channel where
  /-- Applied ON bit and DIM. -/
  on : Bool
  dim : Byte
  /-- The lamp duty code of the running PWM period, and the raw counter at its start (R426). -/
  duty : Nat
  dutyAt : Nat
  held : Bool
  /-- What a held channel or a fail state holds. -/
  holdOn : Bool
  failApplied : Bool
  shed : Bool
  /-- The condition that shed it (R428). -/
  shedBy : Nat
  clampLock : Bool
  inrushFail : Bool
  therm : Bool
  stb : Bool
  openLoad : Bool
  limiting : Bool
  seq : ChanSeq
  /-- A retry sequence has succeeded and the channel still conducts (R417). -/
  settled : Bool
  retryLeft : Nat
  /-- A locked-off channel that has been cleared waits for an OUT_UPDATE (R422). -/
  cleared : Bool
  /-- PROFILE, LEGACY, RETRY_CNT and FINE as of the last turn-on (R416, R435). -/
  profile : Nat
  legacy : Bool
  retryCnt : Nat
  fine : Bool
  /-- Bucket level in units of 1/500,000 µJ, so that a leak of 1 mJ/s is 1 per tick, and the raw counter at which it was last
  drained (R421). -/
  bucket : Nat
  bucketAt : Nat
  above75 : Bool
  deriving DecidableEq, Repr

/-- One digital input (R433, R434). -/
structure DigIn where
  /-- The level as last read, before the filter (R41). -/
  level : Bool
  state : Bool
  /-- Consecutive samples that disagree with the filtered state. -/
  differ : Nat
  rises : Nat
  rise : Bool
  fall : Bool
  /-- Samples until the next wetting pulse of the 20 ms grid, and samples for which the pulse in progress goes on (R433). -/
  wetIn : Nat
  wetLeft : Nat
  /-- The current the input sinks, in µA (R433). -/
  sink : Nat
  deriving DecidableEq, Repr

/-- The output island and the staging marks (R409 to R435). The areas themselves are the registers CMD, RB and IN. -/
structure Outputs where
  channels : SMap Channel
  /-- Written marks of the command words (R412). -/
  marks : BitVec 24
  /-- Row 1 of R410 holds: no OUT_UPDATE since power-good, wake, recovery or shutdown. -/
  row1 : Bool
  /-- OUT_HOLD runs (R429). -/
  holdRuns : Bool
  inputs : SMap DigIn
  dimPins : BitVec 4
  /-- Bit n: condition n of R428 held over its last interval: 0 I_A, 1 I_B, 2 their sum, 3 LOSS (R422). -/
  shedConds : BitVec 4
  deriving DecidableEq, Repr

/-! ### Pair (file 16) -/

/-- What the redundancy controller holds beside its registers (R439 to R461). -/
structure Pair where
  /-- PAIR_EN as of the last start-up (R440). -/
  enabled : Bool
  /-- The unit number acted on after R443's key comparison. -/
  actsAs : Nat
  /-- The lease has expired (R445). -/
  leaseExpired : Bool
  /-- The partner has resigned (R455). -/
  resigned : Bool
  /-- The partner's Dormancy conditions, as last reported (R461). -/
  partnerDormOk : Bool
  /-- Raw counter at that report: it holds for one base cycle (R461). -/
  partnerDormAt : Nat
  /-- The partner carries the same UNIT (R443), and the identity key that it has sent. -/
  sameUnit : Bool
  partnerKey : Option (List Byte)
  /-- A bulk racking runs, and what deltas have brought since it began, which goes on top of the copy (R448). -/
  bulk : Bool
  sinceBulk : List (Nat × Word)
  /-- The frames of the delta in arrival order, whether the last has come, and whether a delta has been applied in this cycle (R447). -/
  frames : List (Nat × List (Nat × Word))
  lastSeen : Option Nat
  deltaDone : Bool
  /-- The racked state by home address (R447). -/
  racked : SMap Word
  /-- The committed state of the active unit as its deltas have sent it, and the last delta, which goes out again where a frame of it has failed its
  CRC (R447). -/
  sent : SMap Word
  lastDelta : Option (Nat × List (Nat × Word))
  /-- Output digests of the last cycles, newest first, with their index (R452). -/
  digests : List (Nat × DWord)
  /-- Consecutive mismatches before a re-seed, consecutive matches, cycles to skip after a re-seed (R453, R454). -/
  misses : Nat
  matched : Nat
  skip : Nat
  reseedDue : Bool
  /-- A swap is proposed, and the racking points left to it (R460). -/
  swapIn : Option Nat
  swapWanted : Bool
  /-- Operating time in ms at which the postponement of a swap was last counted (R460). -/
  postponed : Option Nat
  /-- The break instant has not come: outputs are held by R459. -/
  breakHold : Bool
  /-- A claim is in its 200 µs watch (R443). -/
  claimWatch : Bool
  claimDelayed : Bool
  /-- The unit becomes active at the next base-cycle start, with the cause of event 0x0C01. -/
  becomes : Option Nat
  /-- The compared cycle's command words, fields and datasets so far (R452). -/
  digestCommands : List Byte
  digestFields : SMap (List Byte)
  digestSets : SMap (List Byte)
  /-- Commit sets wait for the standby's confirmation (R450). -/
  commitSets : List Nat
  /-- Groups of a waiting set whose blocks the partner has reported not idle (R450). -/
  partnerBusy : List Nat
  deriving DecidableEq, Repr

/-! ### Vintner and object dictionary (file 17) -/

/-- A segmented transfer (R482). -/
structure Transfer where
  path : Path
  index : Nat
  sub : Nat
  write : Bool
  total : Nat
  /-- Bytes received, or still to be sent. -/
  bytes : List Byte
  toggle : Bool
  irq : Bool
  deriving DecidableEq, Repr

/-- A request on a path that carries the command header of R483, or, for Type 15, in the mailbox area (R487). -/
structure OdAsk where
  path : Path
  op : Nat
  toggle : Bool
  index : Nat
  sub : Nat
  total : Nat
  boxed : Bool
  deriving DecidableEq, Repr

/-- The fields of a reply's command header (R483), in its order. -/
structure OdHeader where
  op : Nat
  toggle : Bool
  more : Bool
  index : Nat
  sub : Nat
  abort : Nat
  arg : Nat
  total : Nat
  len : Nat
  deriving DecidableEq, Repr

/-- A reply on a path without a mailbox: header and data, the SDO abort code or Type 15 exception that carries an abort (R477), the response frame
of an SDO server (R486), and the counter and tag of a maintenance message (R527). -/
structure OdReply where
  path : Path
  header : OdHeader
  data : List Byte
  carried : Nat
  frame : Option CanFrame
  tag : Option (Nat × BitVec 256)
  deriving DecidableEq, Repr

/-- The mailbox area of a Type 15 server: the header and data registers, and the request that runs (R487). -/
structure T15Box where
  header : List Byte
  data : List Byte
  running : Bool
  deriving DecidableEq, Repr

/-- An OD write that waits for the commit of its group: the addresses of the shadow words it wrote, to be reloaded on a refusal (R102), and the
request that is answered then. -/
structure OdCommit where
  path : Path
  group : Nat
  words : List Nat
  irq : Bool
  ask : OdAsk
  deriving DecidableEq, Repr

/-- A write of OD 0x2D30.01 that waits for the next store write (R475, R490). -/
structure OdRestore where
  path : Path
  irq : Bool
  ask : OdAsk
  deriving DecidableEq, Repr

/-- A session and its authentication (R478, R479, R527). -/
structure Session where
  path : Path
  role : Nat
  asked : Nat
  challenge : Option (BitVec 128)
  /-- The operator, maintainer and vendor keys as of the challenge (R512). -/
  keys : List (BitVec 256)
  /-- The session key of a maintenance connection and its last counter (R527). -/
  tagged : Option (BitVec 256)
  lastCounter : Nat
  /-- Counter of the last message sent with a tag (R527). -/
  sent : Nat
  deriving DecidableEq, Repr

/-- The values the persistent store keeps: those of the class P entries, and the node address of unit 0 (R181, R440, R475, R490). -/
structure Persist where
  pairEn : Bool
  unit : Bool
  uuid : List Byte
  unit0Mac : Option Mac
  writes : Nat
  deriving DecidableEq, Repr

/-- The defaults of what the store keeps (R440, R475, R490). -/
def defaultPersist : Persist := ⟨false, false, List.replicate 16 0#8, none, 0⟩

/-- A copy of the store: its values, its sequence number, and whether its CRC-32C is right (R475). -/
structure StoreCopy where
  values : Persist
  seq : Nat
  valid : Bool
  deriving DecidableEq, Repr

/-- The Vintner's software state (R465 to R491). -/
structure Vintner where
  transfers : List Transfer
  sessions : List Session
  /-- Authentication failures of each path, as raw counter values, and the paths that are locked (R478). Paths are numbered by kind. -/
  authFails : SMap (List Nat)
  authLocked : List Nat
  /-- The two copies of the persistent store (R475). -/
  storeA : StoreCopy
  storeB : StoreCopy
  /-- The consist UUID in use, OD 0x1020.01, of 0 to 16 bytes (R259, R472). -/
  uuid : List Byte
  /-- A class P change waits for a store write (R475). -/
  storeDue : Bool
  /-- The next store write restores every class P entry to its default (R490). -/
  restoreDue : Bool
  storeWrites : Nat
  /-- The node address of unit 0, learned at bulk racking and kept in the store (R181). -/
  unit0Mac : Option Mac
  /-- What OD 0x1040 shows of the Vintage in force: version, digest, pair compatibility number (R490). -/
  vintageVersion : Word
  vintageDigest : BitVec 256
  compat : Word
  /-- The partner's compatibility number as last reported (R449). -/
  partnerCompat : Word
  /-- SVN and digest of the firmware in force. -/
  fwSvn : Nat
  fwDigest : BitVec 256
  /-- Entries of OD 0x1100 to 0x1140 that have no register: the remote peers .02 to .10 (R490). -/
  peers : SMap Word
  /-- OD writes that wait for their group's commit (R102), and for the next store write (R490). -/
  odCommits : List OdCommit
  restores : List OdRestore
  /-- The last request of each path that has no mailbox (R483). -/
  asks : List OdAsk
  /-- The map entries of Type 15, index and subindex by map entry, and the mailbox area of each Press's server (R487). -/
  t15Map : SMap (Option (Nat × Nat))
  t15 : SMap T15Box
  deriving DecidableEq, Repr

/-! ### Vault and updates (file 19) -/

/-- A running update session (R521). -/
structure UpdSession where
  path : Path
  slot : Nat
  deriving DecidableEq, Repr

/-- An attestation quote (R528). -/
structure Quote where
  nonce : BitVec 256
  ready : Bool
  body : List Byte
  deriving DecidableEq, Repr

/-- The vault (R510 to R528). -/
structure Vault where
  /-- The headers of the Vintages that were last verified in the slots (R516). -/
  headers : SMap VintageHeader
  /-- Digests of the owner keys in slots 0 to 3; none is an empty slot (R511). -/
  owners : SMap (Option (BitVec 256))
  /-- Keys of the roles that have been changed since delivery (R512). -/
  roleKeys : SMap (Option (BitVec 256))
  session : Option UpdSession
  /-- Slot that verification is running over (R521, FINISH). -/
  verifying : Option Nat
  /-- Operating time in ms of the trial commit, once it has taken place (R521, R522). -/
  trialSince : Option Nat
  /-- Firmware copy in force, copy the boot prefers, copy marked as trial (R65, R522, R523). -/
  fwCopy : Nat
  fwPreferred : Nat
  fwTrial : Option Nat
  quote : Option Quote
  /-- The role named by the last write to OD 0x2F20.01 (R512). -/
  keyRole : Nat
  deriving DecidableEq, Repr

/-! ### Maintenance (file 20) -/

/-- The maintenance stop and the loopbacks (R537 to R540). -/
structure Maint where
  /-- A stop is requested for the next base-cycle start. -/
  requested : Bool
  /-- The node is in the stop. -/
  stopped : Bool
  /-- The Cellar is held in reset after a failed memory test (R539, R70). -/
  cellarHeld : Bool
  /-- The TAP instruction in force (R540). -/
  tap : TapCode
  deriving DecidableEq, Repr

/-! ### What leaves the node -/

/-- A word of the Racking link (R446, R458, R460). -/
inductive RackWord where
  | renewal | resignation | swap
  | digest (cycle : Nat) (value : DWord)
  /-- The delta of a cycle: the words of R447's table that changed in it, with their values. -/
  | delta (cycle : Nat) (cells : List (Nat × Word))
  /-- A standby unit asks for a bulk copy, and the active unit's copy of the committed state of R447's table (R448). -/
  | bulk
  | bulkCopy (cells : List (Nat × Word))
  /-- A commit set with the values of its groups, the receipt that a standby unit confirms, and the groups of a waiting set whose blocks are not idle
  (R450). -/
  | commitSet (groups : List Nat) (cells : List (Nat × Word))
  | confirm (groups : List Nat)
  | busy (groups : List Nat)
  /-- The unit's STATE and UNIT, and whether its conditions 1, 2, 3, 5 and 6 of R78 hold (R443, R461). -/
  | control (state unit : Nat) (dormOk : Bool)
  /-- The unit's identity public key (R443). -/
  | identity (key : List Byte)
  /-- A state frame has failed its CRC and is to be sent again (R447). -/
  | again
  | dormEnter | dormAbort
  /-- A link report of a physical backbone port, for the partner's logical port (R441). -/
  | link (port : Nat) (up : Bool)
  deriving DecidableEq, Repr

/-- What the Vintner answers for an address that the node represents, or its own: an ARP request, an ICMP echo request, and the ICMP message for a
frame whose TTL has ended (R158, R159, R467). Their formats are not the spec's. -/
inductive VpAnswer where
  | arp (ip : Ip)
  | echo (ip dst : Ip)
  | timeExceeded (dst : Ip)
  deriving DecidableEq, Repr

/-- What the node gives out, newest first in `Node.out`: the model's own record of its effects on the world. -/
inductive Emission where
  /-- A frame at the wire of a port, with a good FCS or an inverted one (R171). -/
  | frame (port : Nat) (f : Frame) (fcsOk : Bool)
  /-- A frame written to host memory through a receive ring: ring, first descriptor index, ingress fine stamp (R400). -/
  | rxRing (ring index queue port stamp : Nat) (f : Frame)
  /-- A descriptor written back with OWN clear: transmit or receive, ring, index, STATUS, SOF, EOF and LEN (R400, R403). -/
  | writeBack (tx : Bool) (ring index status : Nat) (sof eof : Bool) (len : Nat)
  /-- A write to host memory (R339). -/
  | hostWrite (addr : Nat) (bytes : List Byte)
  /-- An event-queue entry written to host memory at an index (R396). -/
  | eqWrite (index : Nat) (e : EqEntry)
  | msix (vector : Nat)
  /-- Data returned to the reader of a register, a BAR or an entry. -/
  | reply (bytes : List Byte)
  /-- A remote access: aperture, and the offset, length and data of its request datagram (R384). -/
  | remote (aperture ofs len : Nat) (write : Bool) (data : List Byte)
  | rack (w : RackWord)
  /-- The wake pattern on a backbone port: the code, from the most significant bit, and how many times it is sent (R198). -/
  | wakePattern (port : Nat) (code : Byte) (times : Nat)
  /-- A report of a CAN controller to the owning image: tag, outcome, stamp (R309). -/
  | canReport (ctrl : Nat) (tag : Half) (outcome : Nat) (stamp : Nat)
  /-- A frame that a controller has sent: an entry of its FIFO, or a reference message (R309, R323). -/
  | canFrame (ctrl : Nat) (f : CanFrame)
  /-- A frame handed to a Press, with its ingress stamp (R285, R359). -/
  | toPress (press : Nat) (f : Frame) (stamp : Nat)
  /-- A transmission begun on a line unit: the levels of TXD (R280). -/
  | line (unit : Nat) (levels : List Bool)
  /-- A field-window access carried to a Press image (R288). -/
  | field (press ofs len : Nat) (write : Bool)
  /-- A PTP message the Vintner sends: the ports of the domain with its source at each, and the time of the domain (R181, R364, R368). -/
  | ptp (domain msgType : Nat) (ports : List (Nat × Mac)) (time : DWord)
  /-- The egress stamp of a PTP event message, for the Vintner (R359). -/
  | egressStamp (port stamp : Nat)
  /-- A fabric transaction carried out (R140). -/
  | fabric (owner : FabricOwner) (write : Bool) (ofs len : Nat)
  /-- A reply of the object-dictionary server on a path without a mailbox (R477, R483, R486 to R488). -/
  | odReply (r : OdReply)
  /-- A loopback's pattern engine begins to send: port, source, frames, bytes of each (R181, R537, R541). -/
  | pattern (port : Nat) (src : Mac) (count len : Nat)
  /-- The device identification that IDCODE shifts out on TDO (R540). -/
  | idcode (w : Word)
  /-- A remote request answered with an error: source and offset (R489). -/
  | remoteRefused (src : Ip) (ofs : Nat)
  /-- A frame the Vintner sends through VP: source, destination and VLAN (R181, R467). -/
  | answer (src dst : Mac) (vid : Nat) (a : VpAnswer)
  /-- A gratuitous ARP on a consist port: its source and the address it announces (R181, R456). -/
  | arp (port : Nat) (src : Mac) (ip : Ip)
  deriving DecidableEq, Repr

/-! ### The node -/

/-- The words of the register map and the bytes of the buffer memories: every one a sparse map in canonical form. -/
structure Store where
  /-- RO, RW, RC and W1C words by BAR0 byte address, and the words of the paged windows by home address. -/
  regs : SMap Word
  /-- The shadow value of every SH word (R4). -/
  shadow : SMap Word
  /-- Its value in force (R88). -/
  force : SMap Word
  /-- Press process images at 0x0300_0000, dataset memory at 0x3000_0000, serial NOR at 0x8000_0000. -/
  ram : SMap Byte
  deriving DecidableEq, Repr

/-- The whole node. -/
structure Node where
  power : Power
  store : Store
  supply : Supply
  pins : Pins
  /-- Commit phase by group number (R96, R98). -/
  commits : SMap CommitPhase
  mc : Option McSet
  /-- Conditions that hold STAT_FLT_N low. -/
  faults : List FaultCause
  /-- Runs in progress for events recorded once per run: code and instance. -/
  runs : List (Nat × Nat)
  /-- The last 64-bit latch of each initiator (R91). -/
  hiLatch : SMap Word
  /-- Table-window latches: initiator and window base over the entry's other words (R173, R237). -/
  winLatch : List (Nat × WindowLatch)
  /-- Parameters latched by TIME_LO: key 4 · initiator + view (R356). -/
  timeLatch : SMap (Option TimeLatch)
  book : Book
  trellis : Trellis
  cellar : Cellar
  ports : SMap PortState
  ina : Inauguration
  flows : SMap FlowState
  sessions : SMap SessionState
  /-- Message sessions started so far (R261). -/
  mdStarted : DWord
  presses : SMap Press
  /-- Image sections of the Vintage in force. -/
  images : List ImageInfo
  cans : SMap CanCtrl
  /-- The line units (R277 to R281). -/
  lineUnits : SMap LineUnit
  blend : Blend
  time : TimeBase
  host : HostBridge
  outs : Outputs
  pair : Pair
  vnt : Vintner
  vault : Vault
  maint : Maint
  /-- What has left the node, newest first. -/
  out : List Emission
  /-- Free values taken so far (log entry 4). -/
  fresh : Nat
  deriving DecidableEq, Repr

/-- The machine: the node and the commands that wait for it, first in, first out. -/
structure State where
  node : Node
  pending : List Instr
  deriving DecidableEq, Repr

/-- Reasons for a fault: there are none, because every command of the table has an effect that the spec gives, or finds a node
in which it cannot occur and leaves it unchanged (log entry 5). -/
inductive Fault where
  deriving DecidableEq, Repr

/-- Reasons for a refusal. -/
inductive Refusal where
  /-- A command without a meaning in this model; answered by an arm of `exec` only. Safe. -/
  | notModelled (mnemonic : String)
  deriving DecidableEq, Repr

/-- The node without power (R37, R42, R58): every register at its reset value, the persistent parts at the values log entry 1
names. POWER_GOOD is the command that starts it. -/
def Node.unpowered : Node where
  power := .off
  store := { regs := [(0x8, 0x7FF#32), (0xF00000, 0x00400000#32)], shadow := [], force := [], ram := [] }
  supply := {
    dip := false, interruption := false, hotStop := false, heatLock := false, owed := [], cause := none, pcie := false, startRaw := 0,
    waking := false, warm := false, latchedWake := none, lost := [], wakeWaitsSupply := false, dormStep := 0, armed := 0,
    dormAbort := false, firmware := false, fwTried := 0, slot := 0, slotFailed := false, verified := false, sections := [],
    recovery := false, halted := false, loading := false }
  pins := { pwrwarn := false, statOk := false, ppsOut := false, holdOut := false, qspiIrq := false, canStb := 0xFF#8 }
  commits := []
  mc := none
  faults := []
  runs := []
  hiLatch := []
  winLatch := []
  timeLatch := []
  book := {
    first := [], last := [], ptrA := ⟨0#32, 0, 0, 0, 0, 0, 0⟩, ptrB := ⟨0#32, 0, 0, 0, 0, 0, 0⟩, queue := [], missing := [],
    pendingCount := [], lostFull := 0, lostReset := 0, frozenCmd := false, readout := false, odReadout := false, recovered := false,
    baseMs := 0, pcc := 0, cut := none, unreadable := [] }
  trellis := {
    running := [], openGates := [], skipped := [], heldEntries := [], shadowBad := [], rephaseDue := false, gap := false,
    waitOrigin := false, gapFrom := 0, suspended := [], slewFrom := 0, resumeNs := 0, resumeAt := 0, canFrames := 0#8, wheelFrom := 0,
    pressTurn := 15 }
  cellar := {
    copies := [], sending := [], sendEnd := [], lees := [], table := [], nextId := 0, specBank := none, specActive := false,
    prevBank := [], prevCycles := 0, releasing := 0, recomputeDrop := false, retired := [] }
  ports := []
  ina := {
    lines := [], table := [], reports := [], committed := [], start := 0, known := [], variants := [], devices := [],
    backboneVid := 0#12, outside := [], netBase := 0, netShift := 0, foreign := [], heard := [], spec := none, owed := false,
    recomputing := none, decided := none, first := true }
  flows := []
  sessions := []
  mdStarted := 0#64
  presses := []
  images := []
  cans := []
  lineUnits := []
  blend := { markers := [], skipped := [], hostHeaders := [], initial := [], initialFmt := [], heldLow := [] }
  time := {
    raw := 0#64, d0 := ⟨0#64, 0#64, 0#32⟩, d1 := ⟨0#64, 0#64, 0#32⟩, act := ⟨0#64, 0#64, 0#32⟩, goodRun := [], slewNs := 0,
    gmSeconds := 0#64, ppsSecond := 0, ppsRise := 0 }
  host := {
    inReset := true, bme := false, d0 := true, config := {}, msixTable := [], msixPending := 0#64, fires := [], eqFifo := [],
    eqPops := [], eqLost := 0, eqPhase := false, eqFull := false, eqIrq := none, prefetch := [], delayed := [], fence := none,
    rings := [], rxWork := [], txWork := none, rxWaits := [], qspiStatus := 0#8, yielded := false }
  outs := { channels := [], marks := 0#24, row1 := true, holdRuns := false, inputs := [], dimPins := 0#4, shedConds := 0#4 }
  pair := {
    enabled := false, actsAs := 0, leaseExpired := false, resigned := false, partnerDormOk := false, partnerDormAt := 0,
    sameUnit := false, partnerKey := none, bulk := false, sinceBulk := [], lastDelta := none, partnerBusy := [], frames := [],
    lastSeen := none, deltaDone := false, racked := [], digests := [], misses := 0, matched := 0, skip := 0, reseedDue := false,
    sent := [], swapIn := none, swapWanted := false, postponed := none, breakHold := false, claimWatch := false,
    claimDelayed := false, becomes := none, digestCommands := [], digestFields := [], digestSets := [], commitSets := [] }
  vnt := {
    transfers := [], sessions := [], authFails := [], authLocked := [], storeA := ⟨defaultPersist, 0, true⟩,
    storeB := ⟨defaultPersist, 0, true⟩, uuid := defaultPersist.uuid, storeDue := false, restoreDue := false, storeWrites := 0,
    unit0Mac := none, vintageVersion := 0#32, vintageDigest := 0#256, compat := 0#32, partnerCompat := 0#32, fwSvn := 0,
    fwDigest := 0#256, peers := [], odCommits := [], restores := [], asks := [], t15Map := [], t15 := [] }
  vault := {
    headers := [], owners := [(0, some Config.transportOwner)], roleKeys := [], session := none, verifying := none,
    trialSince := none, fwCopy := 0, fwPreferred := 0, fwTrial := none, quote := none, keyRole := 0 }
  maint := { requested := false, stopped := false, cellarHeld := false, tap := .bypass }
  out := []
  fresh := 0

/-- The machine right after reset: the unpowered node and no waiting command (log entries 1 and 6). -/
def State.reset : State := { node := Node.unpowered, pending := [] }

end Sys2Proof.Machine
end

