-- ==== Sys2Proof/Machine/Ops.lean ====
section
/-! DEFINITION. The named operations over the node's registers, memories, counters and records. Every write to the register map or
to buffer memory goes through one of them, so each keeps the maps canonical. -/

namespace Sys2Proof.Machine

/-! ### Conditional steps -/

/-- `f n` where `b` holds, `n` unchanged where it does not. -/
def Node.when (n : Node) (b : Bool) (f : Node → Node) : Node := if b then f n else n

/-- Apply `f` for every element of a list, in order. -/
def Node.each {α : Type} (n : Node) (l : List α) (f : α → Node → Node) : Node := l.foldl (fun n x => f x n) n

/-- A command's effect on the node; the queue is left as it is. -/
def State.upd (s : State) (f : Node → Node) : Host.Outcome State Fault Refusal := .next { s with node := f s.node }

/-! ### Registers (R4, R8) -/

/-- The word at a register's address. -/
def Node.word (n : Node) (a : Nat) : Word := SMap.get resetWord n.store.regs a
/-- The shadow value of an SH word (R4). -/
def Node.shadowWord (n : Node) (a : Nat) : Word := SMap.get resetWord n.store.shadow a
/-- The value in force of an SH word (R88). -/
def Node.forceWord (n : Node) (a : Nat) : Word := SMap.get resetWord n.store.force a

/-- Put a word at a register's address. -/
def Node.putWord (n : Node) (a : Nat) (v : Word) : Node :=
  { n with store := { n.store with regs := SMap.set resetWord n.store.regs a v } }
/-- Put the shadow value of an SH word. -/
def Node.putShadow (n : Node) (a : Nat) (v : Word) : Node :=
  { n with store := { n.store with shadow := SMap.set resetWord n.store.shadow a v } }
/-- Put the value in force of an SH word. -/
def Node.putForce (n : Node) (a : Nat) (v : Word) : Node :=
  { n with store := { n.store with force := SMap.set resetWord n.store.force a v } }
/-- Put many words. -/
def Node.putWords (n : Node) (ws : List (Nat × Word)) : Node :=
  { n with store := { n.store with regs := SMap.setAll resetWord n.store.regs ws } }
/-- Put many shadow words. -/
def Node.putShadows (n : Node) (ws : List (Nat × Word)) : Node :=
  { n with store := { n.store with shadow := SMap.setAll resetWord n.store.shadow ws } }
/-- Put many words in force. -/
def Node.putForces (n : Node) (ws : List (Nat × Word)) : Node :=
  { n with store := { n.store with force := SMap.setAll resetWord n.store.force ws } }
/-- Return the registers whose address satisfies `p` to their reset values. -/
def Node.resetWords (n : Node) (p : Nat → Bool) : Node :=
  { n with store := { n.store with regs := SMap.only (fun a => !p a) n.store.regs } }
/-- Return shadow and force words whose address satisfies `p` to their reset values. -/
def Node.resetConfig (n : Node) (p : Nat → Bool) : Node :=
  { n with store := { n.store with shadow := SMap.only (fun a => !p a) n.store.shadow
                                   force := SMap.only (fun a => !p a) n.store.force } }

/-- Every shadow returns to its reset value. -/
def Node.clearShadows (n : Node) : Node := { n with store := { n.store with shadow := [] } }
/-- Every shadow takes the value in force. -/
def Node.reloadShadows (n : Node) : Node := { n with store := { n.store with shadow := n.store.force } }
/-- Every value in force takes the shadow. -/
def Node.forceShadows (n : Node) : Node := { n with store := { n.store with force := n.store.shadow } }
/-- Replace the whole register map and buffer memory. -/
def Node.setStore (n : Node) (m : Store) : Node := { n with store := m }

/-- The value of a field within a word. -/
def Field.get (f : Field) (w : Word) : Nat := (w.toNat >>> f.lsb) % 2 ^ f.width
/-- The word with a field replaced; a value too wide for the field loses its high bits. -/
def Field.put (f : Field) (w : Word) (v : Nat) : Word :=
  BitVec.ofNat 32 (w.toNat - f.get w * 2 ^ f.lsb + v % 2 ^ f.width * 2 ^ f.lsb)

/-- The value of a field of the register map. -/
def Node.rd (n : Node) (f : Field) : Nat := f.get (n.word f.addr)
/-- A one-bit field. -/
def Node.bit (n : Node) (f : Field) : Bool := n.rd f != 0
/-- Set a field of the register map. -/
def Node.wr (n : Node) (f : Field) (v : Nat) : Node := n.putWord f.addr (f.put (n.word f.addr) v)
/-- Set a one-bit field. -/
def Node.wrBit (n : Node) (f : Field) (b : Bool) : Node := n.wr f (if b then 1 else 0)
/-- The value in force of an SH field (R88). -/
def Node.cf (n : Node) (f : Field) : Nat := f.get (n.forceWord f.addr)
/-- The shadow value of an SH field. -/
def Node.sf (n : Node) (f : Field) : Nat := f.get (n.shadowWord f.addr)
/-- A one-bit SH field in force. -/
def Node.cfBit (n : Node) (f : Field) : Bool := n.cf f != 0

/-- Count `k` occurrences in an RC counter, which saturates (R92). -/
def Node.countBy (n : Node) (a k : Nat) : Node :=
  n.putWord a (BitVec.ofNat 32 (min ((n.word a).toNat + k) 0xFFFFFFFF))
/-- Count one occurrence. -/
def Node.count (n : Node) (a : Nat) : Node := n.countBy a 1
/-- Advance a register that wraps modulo 2^width. -/
def Node.incr (n : Node) (f : Field) : Node := n.wr f (n.rd f + 1)

/-- Read 64 bits from two adjacent words, low word first. -/
def Node.word64 (n : Node) (a : Nat) : DWord := n.word (a + 4) ++ n.word a
/-- Write 64 bits to two adjacent words, low word first. -/
def Node.putWord64 (n : Node) (a : Nat) (v : DWord) : Node :=
  (n.putWord a (v.extractLsb' 0 32)).putWord (a + 4) (v.extractLsb' 32 32)

/-- A bit mask as a word. -/
def wordMask (m : Nat) : Word := BitVec.ofNat 32 m
/-- `new` in the bits of a mask, `old` elsewhere. -/
def mixWord (m : Nat) (old new : Word) : Word := (old &&& ~~~(wordMask m)) ||| (new &&& wordMask m)
/-- Put a word in the RW bits of the register at an address; its other bits keep their value (R4, R5). -/
def Node.loadWord (n : Node) (a : Nat) (v : Word) : Node :=
  n.putWord a (mixWord (((rowOf a).map (·.rw)).getD 0) (n.word a) v)

/-! ### Buffer memory -/

/-- `len` bytes of buffer memory. -/
def Node.bytes (n : Node) (a len : Nat) : List Byte := SMap.bytes n.store.ram a len
/-- Store bytes in buffer memory. -/
def Node.putBytes (n : Node) (a : Nat) (bs : List Byte) : Node :=
  { n with store := { n.store with ram := SMap.putBytes n.store.ram a bs } }
/-- Return a range of buffer memory to zero. -/
def Node.clearBytes (n : Node) (a len : Nat) : Node :=
  { n with store := { n.store with ram := SMap.only (fun k => !(decide (a ≤ k) && decide (k < a + len))) n.store.ram } }
/-- Keep the bytes of buffer memory whose address satisfies `p`; the others return to zero. -/
def Node.keepBytes (n : Node) (p : Nat → Bool) : Node := { n with store := { n.store with ram := SMap.only p n.store.ram } }
/-- The little-endian value of bytes. -/
def leNat : List Byte → Nat
  | [] => 0
  | b :: t => b.toNat + 256 * leNat t
/-- The `n` little-endian bytes of a value. -/
def natLe (v : Nat) : Nat → List Byte
  | 0 => []
  | n + 1 => BitVec.ofNat 8 v :: natLe (v / 256) n
/-- The `n` big-endian bytes of a value. -/
def natBe (v n : Nat) : List Byte := (natLe v n).reverse
/-- The big-endian value of bytes. -/
def beNat (bs : List Byte) : Nat := leNat bs.reverse
/-- A word of buffer memory, little-endian. -/
def Node.ramWord (n : Node) (a : Nat) : Word := BitVec.ofNat 32 (leNat (n.bytes a 4))
/-- Store a word in buffer memory. -/
def Node.putRamWord (n : Node) (a : Nat) (v : Word) : Node := n.putBytes a (natLe v.toNat 4)

/-! ### Per-index records -/

/-- Element `i` of a list, or `d`. -/
def nth {α : Type} (l : List α) (i : Nat) (d : α) : α := l.getD i d
/-- Remove the first element that satisfies `p`. -/
def removeFirst {α : Type} (p : α → Bool) : List α → List α
  | [] => []
  | x :: t => if p x then t else x :: removeFirst p t
/-- Replace every element that satisfies `p`. -/
def mapIf {α : Type} (p : α → Bool) (f : α → α) (l : List α) : List α := l.map fun x => if p x then f x else x

/-- A port with no link. -/
def portDefault (_ : Nat) : PortState :=
  { usable := false, losing := false, info := ⟨0, false, false, false, false, 0, false, false⟩, backoff := none,
    loopback := false, loopCount := 0, since := 0, maxWas := none }
/-- A flow context without SDTv2 history. -/
def flowDefault (_ : Nat) : FlowState :=
  { safeSeq := 0, validRun := 0, failRun := false, staleSeen := false, noMacSeen := false, since := none }
/-- An idle message session. -/
def sessionDefault (_ : Nat) : SessionState :=
  { triesLeft := 0, id := 0#128, answered := none, reply := none, request := none }
/-- A Press without image. -/
def pressDefault (_ : Nat) : Press :=
  { cycle := none, selector := 0, outputs := [], rxQueue := [], stopWaits := none, reloads := [], counts := false, sram := [] }
/-- A line unit that sends and receives nothing. -/
def lineUnitDefault (_ : Nat) : LineUnit := { bursts := [], held := none, received := [], captures := [] }
/-- A controller with empty FIFOs. -/
def canDefault (_ : Nat) : CanCtrl :=
  { tx := [], rx := [], idRun := 0, idSeen := false, refWaits := false, refBegun := false, refData := [], warned := false }
/-- A channel that is off, with no lock and an empty bucket. -/
def channelDefault (_ : Nat) : Channel :=
  { on := false, dim := 0#8, duty := 0, dutyAt := 0, held := false, holdOn := false, failApplied := false, shed := false, shedBy := 0,
    clampLock := false, inrushFail := false, therm := false, stb := false, openLoad := false, limiting := false, seq := .none,
    settled := false, retryLeft := 0, cleared := false, profile := 0, legacy := false, retryCnt := 0,
    fine := false, bucket := 0, bucketAt := 0, above75 := false }
/-- An input that reads low: also the level it holds before its first sample, where that lies between the thresholds and R41 gives none (DESIGN
CHOICE, log entry 72). -/
def inputDefault (_ : Nat) : DigIn := 
  { level := false, state := false, differ := 0, rises := 0, rise := false, fall := false, wetIn := 0, wetLeft := 0, sink := 0 }
/-- A line that is down. -/
def lineDefault (_ : Nat) : LineState := { helloValid := false, neighbour := 0#48, fastLeft := 0 }
/-- A ring without reservations. -/
def ringDefault (_ : Nat) : Ring := { reserved := 0, unreported := false }

/-- Replace the state of the output island. -/
def Node.onOuts (n : Node) (f : Outputs → Outputs) : Node := { n with outs := f n.outs }

def Node.port (n : Node) (p : Nat) : PortState := SMap.get portDefault n.ports p
def Node.setPort (n : Node) (p : Nat) (f : PortState → PortState) : Node :=
  { n with ports := SMap.set portDefault n.ports p (f (n.port p)) }
def Node.flow (n : Node) (c : Nat) : FlowState := SMap.get flowDefault n.flows c
def Node.setFlow (n : Node) (c : Nat) (f : FlowState → FlowState) : Node :=
  { n with flows := SMap.set flowDefault n.flows c (f (n.flow c)) }
def Node.ses (n : Node) (c : Nat) : SessionState := SMap.get sessionDefault n.sessions c
def Node.setSes (n : Node) (c : Nat) (f : SessionState → SessionState) : Node :=
  { n with sessions := SMap.set sessionDefault n.sessions c (f (n.ses c)) }
def Node.press (n : Node) (p : Nat) : Press := SMap.get pressDefault n.presses p
def Node.setPress (n : Node) (p : Nat) (f : Press → Press) : Node :=
  { n with presses := SMap.set pressDefault n.presses p (f (n.press p)) }
def Node.lineUnit (n : Node) (u : Nat) : LineUnit := SMap.get lineUnitDefault n.lineUnits u
def Node.setLineUnit (n : Node) (u : Nat) (f : LineUnit → LineUnit) : Node :=
  { n with lineUnits := SMap.set lineUnitDefault n.lineUnits u (f (n.lineUnit u)) }
def Node.can (n : Node) (c : Nat) : CanCtrl := SMap.get canDefault n.cans c
def Node.setCan (n : Node) (c : Nat) (f : CanCtrl → CanCtrl) : Node :=
  { n with cans := SMap.set canDefault n.cans c (f (n.can c)) }
def Node.chan (n : Node) (c : Nat) : Channel := SMap.get channelDefault n.outs.channels c
def Node.setChan (n : Node) (c : Nat) (f : Channel → Channel) : Node :=
  { n with outs := { n.outs with channels := SMap.set channelDefault n.outs.channels c (f (n.chan c)) } }
def Node.input (n : Node) (k : Nat) : DigIn := SMap.get inputDefault n.outs.inputs k
def Node.setInput (n : Node) (k : Nat) (f : DigIn → DigIn) : Node :=
  { n with outs := { n.outs with inputs := SMap.set inputDefault n.outs.inputs k (f (n.input k)) } }
def Node.line (n : Node) (k : Nat) : LineState := SMap.get lineDefault n.ina.lines k
def Node.setLine (n : Node) (k : Nat) (f : LineState → LineState) : Node :=
  { n with ina := { n.ina with lines := SMap.set lineDefault n.ina.lines k (f (n.line k)) } }
def Node.ring (n : Node) (k : Nat) : Ring := SMap.get ringDefault n.host.rings k
def Node.setRing (n : Node) (k : Nat) (f : Ring → Ring) : Node :=
  { n with host := { n.host with rings := SMap.set ringDefault n.host.rings k (f (n.ring k)) } }
/-- The commit phase of a group (R96). -/
def Node.phase (n : Node) (g : Nat) : CommitPhase := SMap.get (fun _ => CommitPhase.idle) n.commits g
def Node.setPhase (n : Node) (g : Nat) (p : CommitPhase) : Node :=
  { n with commits := SMap.set (fun _ => CommitPhase.idle) n.commits g p }

/-! ### Free values, emissions, faults -/

/-- Take the next free value (log entry 4). -/
def Node.free (n : Node) (w : Nat) : BitVec w := Config.freeValue w n.fresh
/-- Mark the free value as taken. -/
def Node.took (n : Node) : Node := { n with fresh := n.fresh + 1 }
/-- Record what leaves the node. -/
def Node.emit (n : Node) (e : Emission) : Node := { n with out := e :: n.out }
/-- Hold STAT_FLT_N low for a condition (R40). -/
def Node.addFault (n : Node) (c : FaultCause) : Node := if c ∈ n.faults then n else { n with faults := c :: n.faults }
/-- A condition no longer holds STAT_FLT_N low. -/
def Node.dropFault (n : Node) (c : FaultCause) : Node := { n with faults := n.faults.filter (· ≠ c) }

/-! ### Time -/

/-- The raw counter in ticks of 2 ns (R354). -/
def Node.now (n : Node) : Nat := n.time.raw.toNat
/-- Operating time in ms (R497). -/
def Node.runMillis (n : Node) : Nat := n.book.baseMs + n.now / 500000
/-- The time of a view at raw counter `c`, in ns (R355). -/
def View.at (v : View) (c : DWord) : DWord :=
  BitVec.ofInt 64 ((v.base.toNat : Int) + (((c.toNat : Int) - (v.anchor.toNat : Int)) * 2 * (2 ^ 40 + v.rate.toInt)).fdiv (2 ^ 40))
/-- The view with a new rate from counter `c` on: continuous in time (R355). -/
def View.setRate (v : View) (c : DWord) (r : Word) : View := ⟨v.at c, c, r⟩
/-- View 0, 1 or 2. -/
def Node.view (n : Node) (v : Nat) : View := if v = 0 then n.time.d0 else if v = 1 then n.time.d1 else n.time.act
def Node.setView (n : Node) (v : Nat) (w : View) : Node :=
  if v = 0 then { n with time := { n.time with d0 := w } }
  else if v = 1 then { n with time := { n.time with d1 := w } }
  else { n with time := { n.time with act := w } }
/-- The active time in ns (R355, R366). -/
def Node.activeNs (n : Node) : DWord := n.time.act.at n.time.raw
/-- A fine stamp of raw counter `c` with fraction 0, in 250 ps units (R359). -/
def fineStamp (c : Nat) : Nat := c % 2 ^ 61 * 8

/-! ### Interrupts and events (R11, R394, R498, R502, R504) -/

/-- The vector of each event code, as the event tables of files 04 to 19 assign it. Events 0x0020 to 0x0023 fire none (R541). -/
def vectorCodes : List (Nat × List Nat) :=
  [(0, [0x0011]), (2, [0x0013, 0x0014]),
   (5, [0x0101, 0x0102]), (6, [0x0103, 0x0104, 0x0108, 0x0109]), (7, [0x0105, 0x0106, 0x0107]),
   (8, [0x0201, 0x0202, 0x0203]), (9, [0x0205, 0x0206]), (10, [0x0204, 0x0207]),
   (12, [0x0301, 0x0302, 0x0303]), (13, [0x0304]), (14, [0x0305, 0x0306]), (15, [0x0307, 0x0308]),
   (16, [0x0401, 0x0402, 0x0403]), (17, [0x0404, 0x0405, 0x0408]), (18, [0x0406, 0x0407]), (19, [0x0409, 0x040A, 0x040B]),
   (20, [0x0501, 0x0502]), (21, [0x0503, 0x0504, 0x0505, 0x0506]), (22, [0x0507, 0x0508, 0x0509]),
   (24, [0x0601, 0x0602]), (25, [0x0603, 0x0604, 0x0605, 0x0606]), (26, [0x0607, 0x0608, 0x0609]), (27, [0x060A, 0x060B]),
   (28, [0x0701, 0x0702, 0x0703, 0x0704, 0x0705, 0x0709]), (29, [0x0706, 0x0707]), (30, [0x0708]),
   (32, [0x0801, 0x0802, 0x0803]), (33, [0x0804, 0x0805]), (34, [0x0808, 0x0809]), (35, [0x0806, 0x0807]),
   (36, [0x0901, 0x0902, 0x0903]), (37, [0x0904, 0x0905, 0x0906]), (38, [0x0907, 0x0908, 0x0909]),
   (40, [0x0A06]), (41, [0x0A07]), (42, [0x0A09]), (43, [0x0A01, 0x0A02, 0x0A03, 0x0A04, 0x0A05, 0x0A08, 0x0A0A]),
   (44, [0x0B01, 0x0B02, 0x0B03, 0x0B04]), (45, [0x0B05, 0x0B06, 0x0B0A, 0x0B0D]), (46, [0x0B07, 0x0B08, 0x0B09]), (47, [0x0B0B, 0x0B0C]),
   (48, [0x0C01, 0x0C0A, 0x0C0E]), (49, [0x0C03, 0x0C08, 0x0C09, 0x0C0C]), (50, [0x0C06, 0x0C07]), (51, [0x0C04, 0x0C05, 0x0C0B, 0x0C0D, 0x0C0F]),
   (57, [0x0E01, 0x0E03]), (58, [0x0E02, 0x0E04, 0x0E05]),
   (60, [0x0F01, 0x0F04, 0x0F05, 0x0F07]), (61, [0x0F02, 0x0F03, 0x0F06]), (62, [0x0F08, 0x0F09, 0x0F0A]), (63, [0x0F0B, 0x0F0C])]

/-- The vector an event code fires; the VNT block's by range (R494). -/
def vectorOf (code : Nat) : Option Nat :=
  if 0x0D01 ≤ code ∧ code ≤ 0x0D0C then some 53
  else if 0x0D20 ≤ code ∧ code ≤ 0x0D35 then some 54
  else if 0x0D40 ≤ code ∧ code ≤ 0x0D44 then some 55
  else (vectorCodes.find? (fun e => e.2.contains code)).map (·.1)

/-- A vector fires: it waits for INTERRUPT_FIRE to deliver it, or is lost while the host bridge is in reset (R395, R405). -/
def Node.fire (n : Node) (vector code arg : Nat) : Node :=
  if n.host.inReset then n
  else { n with host := { n.host with fires := n.host.fires ++ [⟨vector, code, 0, arg, n.now⟩] } }

/-- The record of an event raised now (R498). Records raised before READY are completed at recovery (R497). -/
def Node.record (n : Node) (code : Nat) (spec summary : Bool) (suppr : Nat) (payload : List Nat) : Record :=
  let valid := n.rd F.TIME_STATUS_SOURCE = 1 || n.rd F.TIME_STATUS_SOURCE = 2
  { code := code, sev := n.cf (F.RATE_SEV.at code), spec := spec, timeValid := valid, summary := summary,
    runS := n.runMillis / 1000, runMs := n.runMillis % 1000, suppr := suppr, pcc := n.book.pcc,
    time := if valid then n.activeNs.toNat else 0, payload := payload, early := !n.bit F.CBK_STATUS_READY, raw := n.now }

/-- A record takes its place in the queue: behind all, but before those of the same clock with a greater code (R504). -/
def placeRecord (r : Record) : List Record → List Record
  | [] => [r]
  | x :: t => if x.raw = r.raw ∧ r.code < x.code then r :: x :: t else x :: placeRecord r t
/-- An admitted record enters the RAM queue, or is lost and counted while the queue is full (R504). -/
def Node.enqueue (n : Node) (r : Record) : Node :=
  if n.book.queue.length < 256 then { n with book := { n.book with queue := placeRecord r n.book.queue } }
  else { n.count CNT_CBK_QOVF with book := { n.book with lostFull := n.book.lostFull + 1 } }

/-- Missing tokens of a code's bucket (R502). -/
def Node.missing (n : Node) (code : Nat) : Nat := SMap.get (fun _ => 0) n.book.missing code
/-- Pending count of a code (R502). -/
def Node.suppressed (n : Node) (code : Nat) : Nat := SMap.get (fun _ => 0) n.book.pendingCount code

/-- An occurrence takes a token and is admitted, or is suppressed and counted (R502). -/
def Node.logEvent (n : Node) (code : Nat) (spec : Bool) (payload : List Nat) : Node :=
  let depth := n.cf (F.RATE_DEPTH.at code)
  if depth ≠ 0 ∧ depth ≤ n.missing code then
    { n.count CNT_CBK_SUPPR with
      book := { n.book with pendingCount := SMap.set (fun _ => 0) n.book.pendingCount code (n.suppressed code + 1) } }
  else
    let r := n.record code spec false (min (n.suppressed code) 65535) payload
    let b := { n.book with
      pendingCount := SMap.set (fun _ => 0) n.book.pendingCount code 0
      missing := SMap.set (fun _ => 0) n.book.missing code (if depth = 0 then 0 else n.missing code + 1) }
    Node.enqueue { n with book := b } r

/-- An event: its vector fires and its record goes to the book (R502). -/
def Node.raiseAs (n : Node) (spec : Bool) (code : Nat) (payload : List Nat) : Node :=
  let n := n.logEvent code spec payload
  match vectorOf code with
  | some v => n.fire v code 0
  | none => n

/-- The unit is the standby unit of a pair (R442). -/
def Node.standby (n : Node) : Bool := n.rd F.RED_STATUS_STATE == 4
/-- Events of what a standby unit pre-executes: flows, Blend jobs, and what the Presses' images report (R59, R250, R296, R451; log entry 62). -/
def preExecuted (code : Nat) : Bool := code / 256 == 5 || code / 256 == 8 || code == 0x060A
/-- An event; its record carries the speculative flag where a standby unit's pre-executed state raises it (R59). -/
def Node.raise (n : Node) (code : Nat) (payload : List Nat) : Node := n.raiseAs (n.standby && preExecuted code) code payload

/-- An event recorded for the first occurrence of a run only. -/
def Node.raiseFirst (n : Node) (code idx : Nat) (payload : List Nat) : Node :=
  if (code, idx) ∈ n.runs then n else Node.raise { n with runs := (code, idx) :: n.runs } code payload

/-- A run of an event recorded once per run ends (log entry 7). -/
def Node.endRun (n : Node) (code idx : Nat) : Node := { n with runs := n.runs.filter (· ≠ (code, idx)) }

/-! ### Where the node stands -/

/-- Islands are powered: the node is neither unpowered nor in Dormancy, nor past step 5 of the entry (R58, R79). -/
def Node.powered (n : Node) : Bool := n.power != .off && n.power != .dormancy && decide (n.supply.dormStep < 5)
/-- The node carries out its Vintage: committed, and neither in recovery nor in the maintenance stop (R58, R71, R538). A Dormancy entry
ends it at its step 2 (R79). -/
def Node.running (n : Node) : Bool :=
  (n.power == .run || (n.power == .dormEntry && n.supply.dormStep == 1)) && n.rd F.PWR_STATUS_START_PHASE == 4 && !n.maint.stopped
/-- STAT_FLT_N is low: the Vintner reports a fault. An output of a node without power, or in Dormancy, is off (R40). -/
def Node.statFault (n : Node) : Bool := n.powered && !n.faults.isEmpty
/-- STAT_OK_N is low: in Run, while no fault is recorded (R40), until an orderly shutdown begins (R51). -/
def Node.statOk (n : Node) : Bool := n.power == .run && n.pins.statOk && n.faults.isEmpty
/-- The unit emits: it is single or holds the Cork (R442). -/
def Node.activeUnit (n : Node) : Bool := n.rd F.RED_STATUS_STATE == 0 || n.rd F.RED_STATUS_STATE == 3
/-- STAT_ACT_N is low: the node, in Run with its Vintage committed, is the active unit or runs without a partner (R40). -/
def Node.statAct (n : Node) : Bool :=
  (n.power == .run || n.power == .dormEntry) && n.powered && n.rd F.PWR_STATUS_START_PHASE == 4 && n.activeUnit
/-- Mark a block's speculative state in SPEC_STATUS and PWR_STATUS (R63, R84). -/
def Node.setSpec (n : Node) (source blocks : Nat) : Node :=
  ((n.wr F.SPEC_STATUS_SOURCE source).wr F.SPEC_STATUS_BLOCKS blocks).wrBit F.PWR_STATUS_SPEC_ANY (blocks != 0)
/-- Island `i` of R13 is in reset or powered down. -/
def Node.islandDown (n : Node) (i : Nat) : Bool := n.rd F.ISLAND_STATUS_IN_RESET / 2 ^ i % 2 == 1
/-- The island that serves a block's registers (R12). The port block answers from the backbone PHY islands (log entry 14). -/
def blockIsland (b : Nat) : Nat := [5, 5, 0, 1, 0, 0, 3, 3, 4, 6, 7, 9, 5, 8, 8, 8].getD b 8
/-- An access that finds its island in reset: counted, and vector 1 fires as CNT_XABORT leaves zero (R16, R93). -/
def Node.xabort (n : Node) : Node :=
  (n.when (n.word CNT_XABORT == 0#32) (·.fire 1 0 0)).count CNT_XABORT
/-- The number of an initiator. -/
def initiatorIx : Initiator → Nat
  | .host => 0
  | .maint => 1
  | .odServer => 2
/-- The low word of a signal that an initiator holds (R328). -/
def Node.held (n : Node) (by_ : Initiator) : Option (Nat × Word) := SMap.get (fun _ => none) n.blend.heldLow (initiatorIx by_)
def Node.setHeld (n : Node) (by_ : Initiator) (v : Option (Nat × Word)) : Node :=
  { n with blend := { n.blend with heldLow := SMap.set (fun _ => none) n.blend.heldLow (initiatorIx by_) v } }
/-- A write elsewhere discards the initiator's held low word (R328). -/
def Node.dropHeld (n : Node) (by_ : Initiator) : Node :=
  n.when (n.held by_).isSome fun n => (n.setHeld by_ none).count CNT_PARTIAL_WR
/-- The initiator reaches nothing: no island is powered, or it is the host and its bridge is in reset. -/
def Node.cutOff (n : Node) (by_ : Initiator) : Bool := !n.powered || (by_ == .host && n.host.inReset)
/-- An access carried out in an island, or answered with an error while the island is in reset (R16). -/
def Node.cross (n : Node) (island : Nat) (f : Node → Node) : Node := if n.islandDown island then n.xabort else f n
/-- A block is in reset: with its island, or alone because its memory failed a test (R16, R70). -/
def Node.blockHeld (n : Node) (block : Nat) : Bool := n.islandDown (blockIsland block) || n.faults.contains (.memory block)
/-- A crossing into a block: carried out, or ended with an error while the block is in reset (R16). -/
def Node.enter (n : Node) (block : Nat) (f : Node → Node) : Node := if n.blockHeld block then n.xabort else f n
/-- A write that an initiator makes in a block (R12, R16, R328). -/
def Node.access (n : Node) (by_ : Initiator) (block : Nat) (f : Node → Node) : Node :=
  if n.cutOff by_ then n
  else (n.dropHeld by_).enter block f
/-- Put islands into reset or release them; bit i is island i (R93). The fabric wheel begins to turn as the Trellis island leaves reset (R138). -/
def Node.setIslands (n : Node) (mask : Nat) : Node :=
  let n := n.when (n.islandDown 5 && mask / 32 % 2 == 0) fun n => { n with trellis := { n.trellis with wheelFrom := n.now } }
  n.wr F.ISLAND_STATUS_IN_RESET mask

end Sys2Proof.Machine
end

