-- ==== Sys2Proof/Machine/Operands.lean ====
section
/-! DEFINITION. Computations over frames and addresses: the CRC-32 that buckets the address table, header checksums, wire times,
Casks, and the tables of MAC and IP values kept in two words. -/

namespace Sys2Proof.Machine

/-! ### CRC-32 (R154) -/

/-- One bit of the reflected IEEE 802.3 CRC-32. -/
def crc32Bit (c : Nat) : Nat := if c % 2 = 1 then Nat.xor (c / 2) 0xEDB88320 else c / 2
/-- One byte, least significant bit first. -/
def crc32Byte (c : Nat) (b : Byte) : Nat :=
  crc32Bit (crc32Bit (crc32Bit (crc32Bit (crc32Bit (crc32Bit (crc32Bit (crc32Bit (Nat.xor c b.toNat))))))))
/-- The CRC-32 of a byte string as the FCS is computed: initial value all ones, result complemented (R154). -/
def crc32 (bs : List Byte) : Nat := 0xFFFFFFFF - bs.foldl crc32Byte 0xFFFFFFFF
/-- The address-table bucket of a MAC and a FID: bits [10:0] of the CRC-32 over the MAC bytes and the FID, high byte first (R154). -/
def macBucket (mac : Mac) (fid : Nat) : Nat := crc32 (natBe mac.toNat 6 ++ natBe (fid % 4096) 2) % 2048

/-! ### MAC addresses (R181) -/

/-- The group bit of a MAC address. -/
def isGroup (m : Mac) : Bool := m.getLsbD 40
/-- The broadcast address. -/
def macBroadcast : Mac := 0xFFFFFFFFFFFF#48
/-- The port address B + p (R181). -/
def portMac (p : Nat) : Mac := Config.macBase + BitVec.ofNat 48 p
/-- A MAC from the words that hold its low 32 and high 16 bits. -/
def macOf (lo hi : Nat) : Mac := BitVec.ofNat 48 (lo + hi % 65536 * 2 ^ 32)
/-- The Ethernet group address of an IPv4 multicast address (RFC 1112), or of a broadcast. -/
def ipGroupMac (ip : Ip) : Mac := BitVec.ofNat 48 (0x01005E000000 + ip.toNat % 2 ^ 23)
/-- IPv4 multicast: 224.0.0.0/4. -/
def isMulticast (ip : Ip) : Bool := ip.toNat / 2 ^ 28 == 0xE

/-! ### Frames (R149, R124, R168) -/

/-- Casks of a frame of `len` bytes (R149). -/
def casksOf (len : Nat) : Nat := (len + 255) / 256
end Sys2Proof.Machine

namespace Sys2Proof

/-- The frame with a tag. -/
def Frame.withTag (f : Frame) (t : VlanTag) : Frame :=
  { f with tag := some t, len := if f.tag.isSome then f.len else f.len + 4 }
/-- The frame without its tag, padded to 64 bytes where the removal leaves fewer (R168). -/
def Frame.untagged (f : Frame) : Frame :=
  if f.tag.isSome then { f with tag := none, len := max 64 (f.len - 4) } else f
end Sys2Proof

namespace Sys2Proof.Machine

/-- A frame of `len` bytes takes `wireBytes len` bytes of wire time: preamble, SFD and gap included (R124). -/
def wireBytes (len : Nat) : Nat := len + 20
/-- Whether a frame of `len` bytes, started with `ns` left at `mbps`, ends in time (R124). -/
def fitsIn (len ns mbps : Nat) : Bool := decide (wireBytes len * 8000 ≤ ns * mbps)

/-! ### Checksums (R159) -/

/-- One's-complement sum of two 16-bit values. -/
def onesAdd (a b : Nat) : Nat := let s := a + b; if 65536 ≤ s then s - 65535 else s
/-- The checksum `hc` after a 16-bit field has gone from `m` to `m'` (RFC 1624). -/
def checksumUpdate (hc m m' : Nat) : Nat := 65535 - onesAdd (onesAdd (65535 - hc) (65535 - m)) m'
/-- The checksum after a 32-bit address has changed. -/
def checksumIp (hc : Nat) (a b : Ip) : Nat :=
  checksumUpdate (checksumUpdate hc (a.toNat / 65536) (b.toNat / 65536)) (a.toNat % 65536) (b.toNat % 65536)
end Sys2Proof.Machine

namespace Sys2Proof

/-- The layer-4 checksum of a header whose addresses change (R159 step 7): only at fragment offset 0; a UDP checksum of 0 stays 0.
One that the update brings to 0, of which the spec says nothing, is written as 0xFFFF (DESIGN CHOICE, log entry 79). -/
def Ipv4.l4After (h : Ipv4) (src dst : Ip) : BitVec 16 :=
  let udp := h.proto == 17#8
  if h.fragOfs != 0#13 || !(udp || h.proto == 6#8) || (udp && h.l4sum == 0#16) then h.l4sum
  else
    let v := Machine.checksumIp (Machine.checksumIp h.l4sum.toNat h.src src) h.dst dst
    BitVec.ofNat 16 (if udp && v == 0 then 0xFFFF else v)

/-- The IPv4 header of a frame: of a plain IPv4 frame, or of one that carries PTP over UDP (R158, R363). -/
def Frame.ip (f : Frame) : Option Ipv4 :=
  match f.body with
  | .ipv4 h => some h
  | .ptp m => m.ip
  | .other => none
/-- The frame with another IPv4 header in place of its own. -/
def Frame.withIp (f : Frame) (h : Ipv4) : Frame :=
  match f.body with
  | .ipv4 _ => { f with body := .ipv4 h }
  | .ptp m => { f with body := .ptp { m with ip := m.ip.map fun _ => h } }
  | .other => f

/-- EtherType of the relay header (R441). -/
def relayType : BitVec 16 := 0x88B5#16
/-- A frame behind the 4-byte relay header that names a port (R441). -/
def Frame.relayed (f : Frame) (p : Nat) : Frame :=
  { f with etype := relayType, len := f.len + 4, data := Machine.natBe p 2 ++ Machine.natBe f.etype.toNat 2 ++ f.data }
/-- The port a relay header names, and the frame behind it. -/
def Frame.unrelay (f : Frame) : Option (Nat × Frame) :=
  if f.etype = relayType ∧ 4 ≤ f.data.length then
    some (Machine.beNat (f.data.take 2),
      { f with etype := BitVec.ofNat 16 (Machine.beNat ((f.data.drop 2).take 2)), len := f.len - 4, data := f.data.drop 4 })
  else none

/-- The PTP event message that a frame carries, at EtherType 0x88F7 or in UDP to port 319: versionPTP 2 and Sync, Delay_Req, Pdelay_Req or Pdelay_Resp
(R360). -/
def Frame.ptpEvent (f : Frame) : Option PtpMsg :=
  match f.body with
  | .ptp m =>
    let carried := match m.ip with
      | none => f.etype == 0x88F7#16
      | some h => f.etype == 0x0800#16 && h.proto == 17#8 && h.dstPort == 319#16
    if carried && m.version == 2#4 && decide (m.msgType.toNat ≤ 3) then some m else none
  | _ => none
end Sys2Proof
end

