-- ==== Sys2Proof/Machine/Cellar.lean ====
section
/-! DEFINITION. The switch core up to admission (file 06), with the frame checks of the ports (R182, R183): classification, the
address table, IPv4 forwarding with translation, the Lees queue, and admission to the egress queues. -/

namespace Sys2Proof.Machine

/-! ### Ports as the Cellar sees them -/

/-- All switch ports. -/
def switchPorts : List Nat := List.range 19
/-- Casks outside the reception reserves (R150). -/
def caskTotal : Nat := 23816
/-- The Cellar forwards: it is out of reset and a Vintage is committed, outside recovery and the maintenance stop (R67, R71, R538). -/
def Node.forwarding (n : Node) : Bool :=
  n.powered && n.power != .shutdown && n.rd F.PWR_STATUS_START_PHASE == 4 && !n.islandDown 0 && !n.maint.stopped &&
    !n.maint.cellarHeld
/-- HP is link up (R397). -/
def Node.hpUp (n : Node) : Bool :=
  !n.host.inReset && n.bit F.HBR_STATUS_PCIE_SEL && n.bit F.HBR_STATUS_LINK_UP && n.host.bme && n.host.d0
/-- A switch port is link up (R186, R397). -/
def Node.linkUp (n : Node) (p : Nat) : Bool :=
  if p < 16 then n.bit (F.LINK_STATUS_UP.at p) else if p = 16 then n.hpUp else true
/-- Rate of a port in Mb/s (R18, R202). -/
def Node.mbps (n : Node) (p : Nat) : Nat :=
  if p = 16 then 10000 else if p = 17 then 20000 else if p = 18 then 1000
  else [0, 10, 100, 1000, 2500, 5000, 10000, 0].getD (n.rd (F.LINK_STATUS_SPEED.at p)) 0
/-- The Press to which a port is dedicated by the values in force, enabled or not (R286, R287). -/
def Node.dedicated (n : Node) (p : Nat) : Option Nat :=
  (List.range 16).find? fun k => n.cf (F.PRESS_CFG_DED_PORT.at k) == p
/-- The port is a switch port: no Press has it in dedicated-port mode (R18, R157). -/
def Node.switched (n : Node) (p : Nat) : Bool := (n.dedicated p).isNone
/-- The unit of a pair runs both backbone lines, one of them over the pair uplink (R441). -/
def Node.pairUplink (n : Node) : Nat := n.cf F.PAIR_CFG_PAIR_PORT
/-- A backbone port the unit has at its own pins; every other port always is (R441). -/
def Node.physical (n : Node) (p : Nat) : Bool :=
  !n.pair.enabled || decide (4 ≤ p) || p % 2 == n.rd F.RED_STATUS_UNIT
/-- The port can carry frames: its PHY reports a usable link and its bypass line, if it has one, is not released (R189). A logical port does so
while the partner reports its link (R441). -/
def Node.portUsable (n : Node) (p : Nat) : Bool :=
  if n.physical p then (n.port p).usable && (decide (4 ≤ p) || n.bit ⟨0x300008, p % 2, 1, 4⟩) else n.linkUp p

/-! ### Casks (R161) -/

/-- The copies that hold a charge: queued, in transmission, or on their way to host memory (R164, log entry 13). -/
def Node.charged (n : Node) : List Copy :=
  n.cellar.copies ++ n.cellar.sending.filterMap (·.2) ++ n.host.rxWork.map (·.copy)
/-- Identifiers and Casks of the frames held, each once (R164). -/
def Node.heldFrames (n : Node) : List (Nat × Nat) :=
  (n.charged.map (fun c => (c.id, c.casks)) ++ n.cellar.lees.map (fun h => (h.id, h.casks))).eraseDups
/-- Free Casks outside the reception reserves: PHYS_FREE. A retired Cask leaves the pool at once: while copies of its frame are still held it is
missing beside the frame's Casks (DESIGN CHOICE, log entry 80). -/
def Node.physFree (n : Node) : Nat :=
  caskTotal - n.rd F.SWC_STATUS_RETIRED - (n.heldFrames.map (·.2)).foldl (· + ·) 0
/-- G_p (R161). -/
def Node.guaranteed (n : Node) (p : Nat) : Nat :=
  ((n.charged.filter fun c => c.guaranteed && c.port == p).map (·.casks)).foldl (· + ·) 0
/-- Q(p, q) (R161). -/
def Node.pooled (n : Node) (p q : Nat) : Nat :=
  ((n.charged.filter fun c => !c.guaranteed && c.port == p && c.queue == q).map (·.casks)).foldl (· + ·) 0
/-- F (R161): FREE. -/
def Node.freeCasks (n : Node) : Nat :=
  n.physFree - (switchPorts.map fun p => 16 - n.guaranteed p).foldl (· + ·) 0
/-- The threshold T of an α code (R163). -/
def threshold (code f : Nat) : Nat := if code ≤ 6 then f / 2 ^ (6 - code) else f * 2 ^ (code - 6)

/-! ### Classification (R151, R152) -/

/-- VID of a frame at its ingress port. -/
def Node.vidOf (n : Node) (p : Nat) (f : Frame) : Nat :=
  match f.tag with
  | some t => if t.vid = 0#12 then n.cf (F.PORT_CFG_PVID.at p) else t.vid.toNat
  | none => n.cf (F.PORT_CFG_PVID.at p)
/-- PCP of a frame at its ingress port. -/
def Node.pcpOf (n : Node) (p : Nat) (f : Frame) : Nat :=
  match f.tag with
  | some t => t.pcp.toNat
  | none => n.cf (F.PORT_CFG_DEF_PCP.at p)
/-- Port `p` is a member of a VLAN. Entries 0 and 4,095 read 0 (R173). -/
def Node.member (n : Node) (vid p : Nat) : Bool :=
  vid != 0 && vid != 4095 && (n.cf (F.VLAN_MEMBER.at vid)) / 2 ^ p % 2 == 1
/-- The queue of a PCP at an egress port (R152). -/
def Node.queueOf (n : Node) (p pcp : Nat) : Nat := n.cf (F.PCP_MAP_QUEUES.at p) / 8 ^ pcp % 8

/-! ### Address table (R154 to R156) -/

/-- A way of the address table. -/
def Node.way (n : Node) (key : Nat) : Option Way := SMap.get (fun _ => none) n.cellar.table key
/-- Put a way. -/
def Node.setWay (n : Node) (key : Nat) (w : Option Way) : Node :=
  { n with cellar := { n.cellar with table := SMap.set (fun _ => none) n.cellar.table key w } }
/-- The keys of a bucket's eight ways. -/
def bucketKeys (b : Nat) : List Nat := (List.range 8).map (8 * b + ·)
/-- The way that holds a MAC and FID. -/
def Node.findWay (n : Node) (mac : Mac) (fid : Nat) : Option (Nat × Way) :=
  (bucketKeys (macBucket mac fid)).findSome? fun k =>
    match n.way k with
    | some w => if w.mac = mac ∧ w.fid = fid then some (k, w) else none
    | none => none
/-- Microseconds of the raw counter. -/
def Node.nowUs (n : Node) : Nat := n.now / 500

/-- Learn a source address, or refresh it (R156). Which free way of its bucket a new entry takes the spec does not say: the lowest (DESIGN
CHOICE, log entry 48). -/
def Node.learn (n : Node) (mac : Mac) (fid p : Nat) : Node :=
  let w : Way := ⟨mac, fid, BitVec.ofNat 19 (2 ^ p), false, n.nowUs⟩
  match n.findWay mac fid with
  | some (k, old) => if old.isStatic then n else n.setWay k (some w)
  | none =>
    let b := macBucket mac fid
    match (bucketKeys b).find? fun k => (n.way k).isNone with
    | some k => n.setWay k (some w)
    | none => (n.count CNT_LEARN_FULL).raise 0x0204 [b]

/-- Load the static list in force ahead of the learned entries (R155), each into the lowest free way of its bucket (DESIGN CHOICE, log entry 48). -/
def Node.loadStatic (n : Node) : Node :=
  let learned := n.cellar.table.filterMap fun e => e.2.filter (!·.isStatic)
  let statics := (List.range (n.cf F.ADDR_CFG_STATIC_COUNT)).map fun i =>
    let w : Way := ⟨macOf (n.cf (F.ST_MAC_LO.at i)) (n.cf (F.ST_MAC_HI.at i)), n.cf (F.ST_FID.at i),
      BitVec.ofNat 19 (n.cf (F.ST_PORTS.at i)), true, 0⟩
    w
  let place := fun (w : Way) (n : Node) =>
    if (n.findWay w.mac w.fid).isSome then n
    else match (bucketKeys (macBucket w.mac w.fid)).find? fun k => (n.way k).isNone with
      | some k => n.setWay k (some w)
      | none => n
  let n := { n with cellar := { n.cellar with table := [] } }
  let n := n.each statics place
  n.each (learned.mergeSort fun a b => decide (b.seenUs ≤ a.seenUs)) place

/-! ### Bridging (R157) -/

/-- The members of a VLAN that a flag of PORT_CFG selects; a dedicated port is no switch port (R157). -/
def Node.flood (n : Node) (vid : Nat) (f : Field) : List Nat :=
  switchPorts.filter fun p => n.member vid p && n.cfBit (f.at p) && n.switched p
/-- Destination ports of a bridged frame, its ingress port not yet taken out (R155, R157). A dedicated port is none. The second point of R157 is
taken for a broadcast address too: one that stands in a static entry goes to that entry's PORTS (DESIGN CHOICE, log entry 51). -/
def Node.bridgePorts (n : Node) (dst : Mac) (vid : Nat) : List Nat :=
  let hit := (n.findWay dst (n.cf (F.VLAN_FID.at vid))).map (·.2)
  let mask := fun (m : BitVec 19) => switchPorts.filter fun p => m.getLsbD p && n.switched p
  if isGroup dst then
    match hit with
    | some w => if w.isStatic then (mask w.ports).filter (n.member vid ·) else n.flood vid F.PORT_CFG_FLOOD_MC
    | none => n.flood vid F.PORT_CFG_FLOOD_MC
  else
    match hit with
    | some w => mask w.ports
    | none => n.flood vid F.PORT_CFG_FLOOD_UC

/-! ### Egress form (R168) -/

/-- The form in which a frame leaves port `p`. -/
def Node.egressForm (n : Node) (f : Frame) (vid pcp p : Nat) : Frame :=
  if n.cf (F.VLAN_UNTAG.at vid) / 2 ^ p % 2 = 1 then f.untagged
  else f.withTag ⟨BitVec.ofNat 12 vid, BitVec.ofNat 3 pcp, (f.tag.map (·.dei)).getD false⟩

/-! ### Admission (R161 to R164, R169) -/

/-- What admission decides for one destination. -/
inductive Admission where
  | linkDown | oversize | refused
  | taken (guaranteed : Bool)
  deriving DecidableEq, Repr

/-- The checks of R162 for `c` Casks to queue `q` of port `p` whose form at the wire has `len` bytes. -/
def Node.admission (n : Node) (c p q len : Nat) : Admission :=
  if !n.linkUp p then .linkDown
  else if n.cf (F.MAX_FRAME.at p) < len then .oversize
  else if n.guaranteed p + c ≤ 16 then .taken true
  else
    let f := n.freeCasks
    if c ≤ f ∧ n.pooled p q + c ≤ threshold (n.cf F.ALPHA_CODES / 16 ^ q % 16) f then .taken false else .refused

/-- A unit that is not active sends nothing of its own: its frames reach PP and VP only (R60, R441, log entry 10). -/
def Node.mayReach (n : Node) (p : Nat) : Bool := n.activeUnit || p == 17 || p == 18

/-- An entry of kind 1 for a transmitted frame (R404). -/
def Node.stampEntry (n : Node) (r : Nat × Nat) (stamp : Nat) : Node :=
  if n.host.inReset then n
  else { n with host := { n.host with fires := n.host.fires ++ [⟨0, 0, 1, (r.1 * 4096 + r.2) % 65536, stamp⟩] } }

/-- A frame that asked for its egress stamp is gone without a copy sent: it reports stamp 0 (R404). -/
def Node.unsent (n : Node) (tsReq : Option (Nat × Nat)) : Node :=
  match tsReq with
  | some r => n.stampEntry r 0
  | none => n
/-- Admit a frame to each destination, judged by the values before it (R164). A frame that asked for its egress stamp and is admitted
nowhere reports stamp 0 (R404). -/
def Node.admitTo (n : Node) (h : HeldFrame) (f : Frame) (vid : Nat) (dests : List Nat) : Node :=
  let before := n
  let judge := fun (p : Nat) =>
    let q := before.queueOf p h.pcp
    let out := before.egressForm f vid h.pcp p
    (p, q, out, before.admission h.casks p q out.len)
  let step := fun (d : Nat × Nat × Frame × Admission) (n : Node) =>
    match d.2.2.2 with
    | .linkDown => n.count (CNT_LINK_FLUSH d.1)
    | .oversize => n.count (CNT_TAG_OVERSIZE d.1)
    | .refused => (n.count (CNT_ADMIT_DROP d.1)).raise 0x0205 [d.1, d.2.1]
    | .taken g =>
      let c : Copy := ⟨h.id, d.1, d.2.1, h.casks, g, h.rxUs, h.stamp, 0, h.port, h.pcp, vid, f.tag.isSome, d.2.2.1, h.tsReq, 0⟩
      { n with cellar := { n.cellar with copies := n.cellar.copies ++ [c] } }
  let verdicts := (dests.filter before.mayReach).map judge
  let n := n.each verdicts step
  n.when (verdicts.all fun d => match d.2.2.2 with | .taken _ => false | _ => true) (·.unsent h.tsReq)

/-- Bridge a frame: find its destinations and admit it, or count CNT_NO_DEST (R157). A routed frame may leave by its ingress port. -/
def Node.bridge (n : Node) (h : HeldFrame) (f : Frame) (vid : Nat) (routed : Bool) : Node :=
  let ps := (n.bridgePorts f.dst vid).filter fun p => routed || p != h.port
  if ps.isEmpty then (n.count (CNT_NO_DEST h.port)).unsent h.tsReq
  else n.admitTo h f vid ps

/-- Send a frame to VP (R158, R159). -/
def Node.toVintner (n : Node) (h : HeldFrame) : Node := n.admitTo h h.frame h.vid [18]

/-! ### Translation and routing (R159, R160, R229) -/

/-- The word of a bank of group 0x21. -/
def bankWord (b : SMap Word) (a : Nat) : Nat := (SMap.get resetWord b a).toNat
/-- Indices of the entries of a table whose VALID bit, word 3 bit 31, is set. -/
def validEntries (b : SMap Word) (base size : Nat) : List Nat :=
  b.filterMap fun e =>
    if base ≤ e.1 ∧ e.1 < base + size ∧ (e.1 - base) % 16 = 12 ∧ e.2.getLsbD 31 then some ((e.1 - base) / 16) else none
/-- The group 0x21 bank in force. -/
def Node.bankInForce (n : Node) : SMap Word :=
  n.store.force.filter fun e => (decide (0x218000 ≤ e.1) && decide (e.1 < 0x219000)) || (decide (0x230000 ≤ e.1) && decide (e.1 < 0x240000))

/-- The valid translation entry that holds an address in word `w` (0 LOCAL_IP, 1 TRAIN_IP). -/
def findTranslation (b : SMap Word) (w : Nat) (ip : Ip) : Option Nat :=
  (validEntries b 0x230000 0x10000).find? fun i => bankWord b (0x230000 + 16 * i + 4 * w) == ip.toNat
/-- The valid route entry with the longest mask that covers an address. -/
def findRoute (b : SMap Word) (ip : Ip) : Option Nat :=
  let ok := (validEntries b 0x218000 0x1000).filter fun i =>
    Nat.land ip.toNat (bankWord b (0x218004 + 16 * i)) == bankWord b (0x218000 + 16 * i)
  ok.foldl (fun best i =>
    match best with
    | some j => if bankWord b (0x218004 + 16 * j) < bankWord b (0x218004 + 16 * i) then some i else some j
    | none => some i) none

/-- What steps 5 and 6 of R159 give: new destination address, MAC and VID. -/
structure NextHop where
  ip : Ip
  mac : Mac
  vid : Nat
  deriving DecidableEq, Repr

/-- What steps 4 to 6 of R159 give. -/
inductive RouteResult where
  | natMiss
  | routeMiss
  | hop (src : Ip) (h : NextHop)
  deriving DecidableEq, Repr

/-- Steps 5 and 6 of R159 in a bank. -/
def nextHop (b : SMap Word) (dst : Ip) : Option NextHop :=
  match findTranslation b 1 dst with
  | some i =>
    let w3 := bankWord b (0x23000C + 16 * i)
    some ⟨BitVec.ofNat 32 (bankWord b (0x230000 + 16 * i)), macOf (bankWord b (0x230008 + 16 * i)) w3, w3 / 65536 % 4096⟩
  | none =>
    (findRoute b dst).map fun i =>
      let w3 := bankWord b (0x21800C + 16 * i)
      ⟨dst, macOf (bankWord b (0x218008 + 16 * i)) w3, w3 / 65536 % 4096⟩

/-- Steps 4 to 6 of R159 in a bank; `consist` on the consist side. -/
def routeIn (b : SMap Word) (consist : Bool) (src dst : Ip) : RouteResult :=
  let go := fun (s : Ip) =>
    match nextHop b dst with
    | some h => .hop s h
    | none => .routeMiss
  if consist then
    match findTranslation b 0 src with
    | some i => go (BitVec.ofNat 32 (bankWord b (0x230004 + 16 * i)))
    | none => .natMiss
  else go src

/-- The node's router MAC; 0 routes nothing (R158). -/
def Node.routerMac (n : Node) : Mac := macOf (n.cf F.ROUTER_MAC_MAC) (n.cf (F.ROUTER_MAC_MAC.at 1))

/-- Hold a frame in the Lees queue, or lose it as full (R27, R228). -/
def Node.holdInLees (n : Node) (h : HeldFrame) : Node :=
  if (((n.cellar.lees.filter (·.id != h.id)).map (·.casks)).foldl (· + ·) 0) + h.casks ≤ 512 then
    { n with cellar := { n.cellar with lees := n.cellar.lees ++ [h] } }
  else
    let n := (n.count CNT_LEES_FULL).unsent h.tsReq
    match n.ina.spec with
    | some sp => if sp.fullSeen then n
        else Node.raise { n with ina := { n.ina with spec := some { sp with fullSeen := true } } } 0x0404 []
    | none => n

/-- Steps 7 and 8 of R159. -/
def Node.forwardRouted (n : Node) (h : HeldFrame) (ip : Ipv4) (src : Ip) (hop : NextHop) : Node :=
  let ip' : Ipv4 := { ip with src := src, dst := hop.ip, ttl := ip.ttl - 1#8, l4sum := ip.l4After src hop.ip }
  n.bridge h ({ h.frame with dst := hop.mac, src := n.routerMac }.withIp ip') hop.vid true

/-- The previous bank yields a different MAC or VID than the bank in force (R229). -/
def ambiguous (prev now : SMap Word) (dst : Ip) : Bool :=
  match nextHop prev dst, nextHop now dst with
  | some a, some b => a.mac != b.mac || a.vid != b.vid
  | _, _ => false

/-- Steps 4 to 8 of R159 for a routed frame. `checked` applies the previous bank of R229. -/
def Node.routeOn (n : Node) (h : HeldFrame) (ip : Ipv4) (consist checked : Bool) : Node :=
  if n.cellar.recomputeDrop then (n.count CNT_RECOMPUTE_DROP).unsent h.tsReq
  else
    let bank := n.bankInForce
    let res := routeIn bank consist ip.src ip.dst
    let other := if n.cellar.specActive then n.cellar.specBank.map (routeIn · consist ip.src ip.dst) else none
    if other != none && other != some res then n.holdInLees h
    else if checked && ambiguous n.cellar.prevBank bank ip.dst then ((n.count CNT_TOPO_AMBIG).raise 0x0408 [ip.dst.toNat]).unsent h.tsReq
    else
      match res with
      | .natMiss => ((n.count CNT_NAT_MISS).raise 0x0207 [ip.src.toNat]).toVintner h
      | .routeMiss => ((n.count CNT_ROUTE_MISS).raise 0x0207 [ip.dst.toNat]).toVintner h
      | .hop src hop => n.forwardRouted h ip src hop

/-- A routed frame (R159): its header is checked before it is routed. -/
def Node.route (n : Node) (h : HeldFrame) (ip : Ipv4) (consist : Bool) : Node :=
  if !ip.checksumOk then (n.count CNT_IP_HDR_ERR).unsent h.tsReq
  else if ip.ihl != 5#4 then (n.count CNT_IP_SLOWPATH).toVintner h
  else if ip.ttl.toNat ≤ 1 then (n.count CNT_TTL_EXPIRED).toVintner h
  else n.routeOn h ip consist (n.cellar.prevCycles != 0)

/-! ### PTP at ingress (R360 to R362) -/

/-- A message can be of a profile: IEEE 802.1AS has majorSdoId 1 and the profiles of IEEE 1588 have 0, Delay_Req is the delay request-response
profile's, and Pdelay messages are the others' (PRESUMED, log entry 12). -/
def ofProfile (m : PtpMsg) (prof : Nat) : Bool :=
  if prof = 2 then m.sdoId == 1#4
  else m.sdoId == 0#4 && !(prof == 0 && decide (2 ≤ m.msgType.toNat)) && !(prof == 1 && m.msgType == 1#4)
/-- The enabled domain view a message matches, by domainNumber, transport and profile (R360). -/
def Node.ptpDomain (n : Node) (m : PtpMsg) : Option Nat :=
  [0, 1].find? fun d => n.cfBit (F.DOM_CFG_ENABLE.at d) && n.cf (F.DOM_CFG_DOMAIN_NUM.at d) == m.domain.toNat &&
    n.cfBit (F.DOM_CFG_TRANSPORT.at d) == m.ip.isSome && ofProfile m (n.cf (F.DOM_CFG_PROFILE.at d))
/-- Home addresses of what the Vintner holds of a domain (log entry 2): the measured link of a port, as mean delay and rate ratio, and the mask of its
time-transmitter ports (R361, R364). -/
def linkHome (d p : Nat) : Nat := 0x48000000 + 16 * (16 * d + p)
def txPortsHome (d : Nat) : Nat := 0x48000200 + 4 * d
/-- A word of them: the partner's on a standby unit (R370). -/
def Node.domainWord (n : Node) (a : Nat) : Word := if n.standby then SMap.get resetWord n.pair.racked a else n.word a
/-- Mean link delay in units of 2⁻¹⁶ ns, and the neighbour's rate ratio as an offset in units of 2⁻⁴¹. -/
def Node.linkDelay (n : Node) (d p : Nat) : Int := (n.domainWord (linkHome d p + 4) ++ n.domainWord (linkHome d p)).toInt
def Node.linkRatio (n : Node) (d p : Nat) : Int := (n.domainWord (linkHome d p + 8)).toInt
/-- A time-transmitter port of a domain. -/
def Node.txPort (n : Node) (d p : Nat) : Bool := (n.domainWord (txPortsHome d)).getLsbD p

/-- What the transparent clock makes of a frame at ingress (R361). -/
inductive PtpPath where
  | bridge
  | drop
  | sends (ports : List Nat)
  deriving DecidableEq, Repr
/-- Pdelay messages go to VP; an 802.1AS Sync goes from the time-receiver port to the time-transmitter ports, and from any other port nowhere
(R361). -/
def Node.ptpPath (n : Node) (p : Nat) (f : Frame) : PtpPath :=
  match f.ptpEvent with
  | some m =>
    if 16 ≤ p then .bridge
    else match n.ptpDomain m with
      | none => .bridge
      | some d =>
        let prof := n.cf (F.DOM_CFG_PROFILE.at d)
        if prof != 0 && (m.msgType == 2#4 || m.msgType == 3#4) then .sends [18]
        else if prof == 2 && m.msgType == 0#4 then
          if n.rd (F.DOM_STATUS_RX_PORT.at d) = p then
            .sends ((List.range 16).filter fun k => n.cf (F.DOM_CFG_PORTS.at d) / 2 ^ k % 2 == 1 && n.txPort d k && k != p && n.switched k)
          else .drop
        else .bridge
  | none => .bridge

/-- Time of a view now, in ns. -/
def Node.viewNs (n : Node) (v : Nat) : DWord := (n.view v).at n.time.raw
/-- A domain is grandmaster: enabled, grandmaster-capable, with no time-receiver port (R364), and not on a standby unit (R370). -/
def Node.grandmaster (n : Node) (d : Nat) : Bool :=
  !n.standby && n.cfBit (F.DOM_CFG_ENABLE.at d) && n.cf (F.DOM_CFG_ROLE.at d) == 1 && n.rd (F.DOM_STATUS_RX_PORT.at d) == 0xFF

/-! ### Stamps (R358, R359) -/

/-- The latency of an external PHY, in 250 ps units: only a CN or CX port has one (R358). -/
def Node.phyLatency (n : Node) (p : Nat) (f : Field) : Nat := if 4 ≤ p ∧ p < 14 then n.cf (f.at (p - 4)) else 0
/-- The fine stamp that a frame takes now as it comes in at a port, and as it leaves. -/
def Node.ingressStamp (n : Node) (p : Nat) : Nat :=
  (fineStamp n.now + (Config.stampFraction false p n.now).toNat + 2 ^ 64 - n.phyLatency p F.TS_LAT_INGRESS) % 2 ^ 64
def Node.egressStamp (n : Node) (p : Nat) : Nat :=
  (fineStamp n.now + (Config.stampFraction true p n.now).toNat + n.phyLatency p F.TS_LAT_EGRESS) % 2 ^ 64

/-! ### Ingress (R148, R182, R183) -/

/-- The MAX_FRAME a frame of `len` bytes is checked against: the old value where its reception, preamble and SFD included, began before the start at
which a new one took effect (R179). -/
def Node.maxFrame (n : Node) (p len : Nat) : Nat :=
  match (n.port p).maxWas with
  | some (old, raw) => if 2 * (n.now - raw) * n.mbps p < (len + 8) * 8000 then old else n.cf (F.MAX_FRAME.at p)
  | none => n.cf (F.MAX_FRAME.at p)
/-- The counter of the check that a frame fails, if it fails one (R183). -/
def Node.checkFails (n : Node) (p : Nat) (f : Frame) (rx : RxFlags) : Option Nat :=
  if rx.truncated then some (CNT_RX_TRUNC p)
  else if rx.symbolErr then some (CNT_SYMBOL_ERR p)
  else if f.len ≤ 63 then some (CNT_RUNT p)
  else if n.maxFrame p f.len < f.len then some (CNT_OVERSIZE p)
  else if rx.fcsErr then some (CNT_FCS_ERR p)
  else if f.tag.isNone && f.etype == 0x8808#16 then some (CNT_MAC_CTRL p)
  else none

/-- Count a frame that passes every check (R183). -/
def Node.countRx (n : Node) (p : Nat) (f : Frame) : Node :=
  let n := (n.count (CNT_RX_FRAMES p)).countBy (CNT_RX_OCTETS p) f.len
  n.when (isGroup f.dst) (·.count (CNT_RX_MCAST p))

/-- Steps 4 to 6 of R148, with the source address learned at the first pass only (R160). -/
def Node.lookup (n : Node) (h : HeldFrame) (released : Bool) : Node :=
  let f := h.frame
  if n.routerMac != 0#48 && f.dst == n.routerMac then
    let side := n.cf (F.VLAN_ROUTE.at h.vid)
    match f.ip with
    | some ip =>
      if f.etype != 0x0800#16 || !(side == 1 || side == 2) then n.toVintner h
      else if released then n.routeOn h ip (side == 1) true
      else n.route h ip (side == 1)
    | none => n.toVintner h
  else n.bridge h f h.vid false

/-- Steps 3 to 6 of R148 for a frame from port `p`. -/
def Node.classify (n : Node) (p : Nat) (f : Frame) (tsReq : Option (Nat × Nat)) : Node :=
  let vid := n.vidOf p f
  let h : HeldFrame := ⟨n.cellar.nextId, f, p, vid, n.pcpOf p f, casksOf f.len, n.nowUs, n.ingressStamp p, tsReq⟩
  let n := { n with cellar := { n.cellar with nextId := n.cellar.nextId + 1 } }
  if vid == 4095 || !n.member vid p then (n.count (CNT_VLAN_DROP p)).unsent tsReq
  else
    let n := n.when (n.cfBit (F.PORT_CFG_LEARN.at p) && !isGroup f.src) (·.learn f.src (n.cf (F.VLAN_FID.at vid)) p)
    match n.ptpPath p f with
    | .drop => (n.count CNT_PTP_DROP).unsent tsReq
    | .sends ps => n.admitTo h f vid ps
    | .bridge => n.lookup h false

/-- Queue a frame at one port under that port's gates, at the queue of a PCP: what the relay and the engines send (R216, R441). -/
def Node.queueAt (n : Node) (p q : Nat) (ingress pcp : Nat) (f : Frame) : Node :=
  let c := casksOf f.len
  let id := n.cellar.nextId
  let n := { n with cellar := { n.cellar with nextId := id + 1 } }
  match n.admission c p q f.len with
  | .linkDown => n.count (CNT_LINK_FLUSH p)
  | .oversize => n.count (CNT_TAG_OVERSIZE p)
  | .refused => (n.count (CNT_ADMIT_DROP p)).raise 0x0205 [p, q]
  | .taken g =>
    let k : Copy := ⟨id, p, q, c, g, n.nowUs, n.ingressStamp ingress, 0, ingress, pcp, 0, f.tag.isSome, f, none, 0⟩
    { n with cellar := { n.cellar with copies := n.cellar.copies ++ [k] } }

/-- Press `k` can take a frame: it runs, its receive queue of 32 has room, and the frame has at most 1,522 bytes (R285). -/
def Node.pressTakes (n : Node) (k : Nat) (f : Frame) : Bool :=
  n.rd (F.PRESS_STATE_STATE.at k) == 2 && decide ((n.press k).rxQueue.length < 32) && decide (f.len ≤ 1522)
/-- A frame enters a Press's receive queue, with its ingress stamp. -/
def Node.pressQueue (n : Node) (k : Nat) (f : Frame) (stamp : Nat) : Node :=
  (n.setPress k fun r => { r with rxQueue := r.rxQueue ++ [(f, stamp)] }).emit (.toPress k f stamp)

/-- A frame is sent to a Press, or dropped and counted, the first of a run recorded (R285, R286, R301). -/
def Node.sendToPress (n : Node) (p : Nat) (f : Frame) (stamp : Nat) : Node :=
  if n.pressTakes p f then (n.pressQueue p f stamp).endRun 0x0608 p else (n.count (CNT_PP_RX_DROP p)).raiseFirst 0x0608 p [p]

/-- A frame that has passed the checks of port `p` goes on: to a dedicated Press, over the relay of a standby unit, or into the Cellar
(R286, R441). A TTDP frame on a backbone port, physical or logical, goes to the inauguration engine, which TTDP_FRAME_RECEIVED tells of it
(R216). A frame on the pair uplink that names no backbone port belongs to no VLAN there (R19, R152). -/
def Node.accept (n : Node) (p : Nat) (f : Frame) (tsReq : Option (Nat × Nat)) : Node :=
  match n.dedicated p with
  | some k => n.sendToPress k f (n.ingressStamp p)
  | none =>
    let up := n.pairUplink
    if n.pair.enabled && p == up then
      match f.unrelay with
      | some (q, g) =>
        if 4 ≤ q then n.count (CNT_VLAN_DROP p)
        else if n.standby then n.queueAt q (n.queueOf q (n.pcpOf q g)) p (n.pcpOf q g) g
        else if Config.isTtdp g.dst g.etype then n
        else n.classify q g none
      | none => n.count (CNT_VLAN_DROP p)
    else
      let n := n.when (n.standby && decide (p < 4) && n.physical p) fun n =>
        n.queueAt up (n.queueOf up (n.pcpOf p f)) p (n.pcpOf p f) (f.relayed p)
      if p < 4 && Config.isTtdp f.dst f.etype then n else n.classify p f tsReq

/-- A frame at port `p` (R148, R182, R183). Before a commit only the port's counters count it (R61). -/
def Node.receive (n : Node) (p : Nat) (f : Frame) (rx : RxFlags) (tsReq : Option (Nat × Nat)) : Node :=
  match n.checkFails p f rx with
  | some c => n.count c
  | none =>
    let n := n.countRx p f
    if n.forwarding then n.accept p f tsReq else n.unsent tsReq

/-- A frame the node itself puts into an internal port, always well formed (R182). -/
def Node.inject (n : Node) (p : Nat) (f : Frame) : Node := n.receive p f ⟨false, false, false⟩ none

/-- The image of a Press sends through PP: the TCP roles of Type 15, CPF 3 and Type 2, on a Press without a dedicated port (R283, R297). -/
def Node.usesPp (n : Node) (p : Nat) : Bool :=
  let image := n.cf (F.PRESS_CFG_IMAGE.at p)
  ((image == 8 && decide (2 ≤ n.cf (F.PRESS_CFG_ROLE.at p))) || image == 9 || image == 0xB) && n.cf (F.PRESS_CFG_DED_PORT.at p) == 31
/-- A frame with the PCP that PP_PCP gives; one without a tag gets a priority tag (R285; log entry 60). -/
def Node.withPcp (n : Node) (p : Nat) (f : Frame) : Frame :=
  let pcp := BitVec.ofNat 3 (n.cf (F.PRESS_CFG_PP_PCP.at p))
  match f.tag with
  | some t => { f with tag := some { t with pcp := pcp } }
  | none => { f with tag := some ⟨0, pcp, false⟩, len := f.len + 4 }
/-- Who may put a frame into PP, and the frame it puts there: on the active unit, the flow engine or a running Press whose image uses PP
(R283, R285, R296). -/
def Node.fromPp (n : Node) (f : Frame) (press : Option (Fin 16)) : Option Frame :=
  if n.activeUnit = false then none
  else
    match press with
    | none => some f
    | some p => if n.rd (F.PRESS_STATE_STATE.at p) = 2 ∧ n.usesPp p = true then some (n.withPcp p f) else none
/-- FRAME_RECEIVED (R148): on a port whose link is up and that is neither looped back nor one of R441's logical ports; at PP the frame is that of
a Press or of the flow engine. -/
def execFrameReceived (port : Fin 19) (frame : Frame) (rx : RxFlags) (press : Option (Fin 16)) (s : State) :
    Host.Outcome State Fault Refusal :=
  s.upd fun n => n.when (n.powered && !n.islandDown 0 && !(n.port port).loopback && n.physical port &&
      (n.linkUp port || rx.truncated)) fun n =>
    if port.val = 17 then
      match n.fromPp frame press with
      | some f => n.receive port f rx none
      | none => n
    else n.receive port frame rx none

/-- LEARNED_ENTRY_AGED (R156): never with AGE_SEL 7, and never a static entry. -/
def execLearnedEntryAged (bucket : Fin 2048) (way : Fin 8) (s : State) : Host.Outcome State Fault Refusal :=
  s.upd fun n =>
    let k := 8 * bucket.val + way.val
    match n.way k with
    | some w => n.when (!w.isStatic && n.cf F.ADDR_CFG_AGE_SEL != 7) (·.setWay k none)
    | none => n

end Sys2Proof.Machine
end

