-- ==== Sys2Proof/Machine/Rings.lean ====
section
/-! DEFINITION. How copies leave the Cellar, and the DMA rings of HP (file 06 R164 to R171, file 14 R397 to R404). -/

namespace Sys2Proof.Machine

/-! ### Copies that leave (R164 to R167, R404) -/

/-- Removed copies whose frame has no reference left report stamp 0 where the host asked for the egress stamp (R404). -/
def Node.released (n : Node) (gone : List Copy) : Node :=
  n.each gone fun c n =>
    match c.tsReq with
    | some r => n.when (!(n.charged.any fun d => d.id == c.id)) (·.stampEntry r 0)
    | none => n
/-- Remove queued copies, with what is done for each. -/
def Node.dropCopies (n : Node) (p : Copy → Bool) (f : Copy → Node → Node) : Node :=
  let gone := n.cellar.copies.filter p
  let n := { n with cellar := { n.cellar with copies := n.cellar.copies.filter fun c => !p c } }
  (n.each gone f).released gone
/-- Flush the copies queued for a port (R167). -/
def Node.flushPort (n : Node) (p : Nat) : Node :=
  n.dropCopies (fun c => c.port == p) fun _ n => n.count (CNT_LINK_FLUSH p)
/-- Cut short the copy a port is sending (R167). -/
def Node.cutShort (n : Node) (p : Nat) : Node :=
  match SMap.get (fun _ => none) n.cellar.sending p with
  | some c =>
    let n := { n with cellar := { n.cellar with sending := SMap.set (fun _ => none) n.cellar.sending p none } }
    (n.count (CNT_LINK_FLUSH p)).released [c]
  | none => n
/-- A copy's age exceeds the limit of its queue (R165). Age in whole microseconds is the difference of two counts of whole microseconds of the
raw counter, which can be 1 µs above the whole microseconds elapsed (DESIGN CHOICE, log entry 49). -/
def Node.aged (n : Node) (c : Copy) : Bool :=
  let units := n.cf (F.AGE.at (8 * c.port + c.queue))
  units != 0 && decide (units * 64 < n.nowUs - c.rxUs)
/-- Count and record an aged copy (R165). -/
def Node.countAged (c : Copy) (n : Node) : Node := (n.count (CNT_AGED c.port)).raise 0x0206 [c.port, c.queue]
/-- Discard aged and oversize copies at the head of a queue (R165, R169). `fuel` bounds the number discarded. -/
def Node.trimHead (n : Node) (p q : Nat) : Nat → Node
  | 0 => n
  | fuel + 1 =>
    match n.cellar.copies.find? fun c => c.port == p && c.queue == q with
    | none => n
    | some c =>
      if n.aged c then (n.dropCopies (· == c) Node.countAged).trimHead p q fuel
      else if n.cf (F.MAX_FRAME.at p) < c.out.len then
        (n.dropCopies (· == c) fun c n => n.count (CNT_TAG_OVERSIZE c.port)).trimHead p q fuel
      else n
/-- The head copy of a queue, aged and oversize heads discarded first. -/
def Node.headCopy (n : Node) (p q : Nat) : Node × Option Copy :=
  let n := n.trimHead p q n.cellar.copies.length
  (n, n.cellar.copies.find? fun c => c.port == p && c.queue == q)
/-- A copy has left its port whole: it is counted (R185), the first of all gives FWD_MS (R84), and the frame's first copy reports the
egress stamp the host asked for (R404). That of a PTP event message goes to the Vintner (R359). -/
def Node.copyLeft (n : Node) (c : Copy) : Node :=
  let n := (n.count (CNT_TX_FRAMES c.port)).countBy (CNT_TX_OCTETS c.port) c.out.len
  let n := n.when c.out.ptpEvent.isSome (·.emit (.egressStamp c.port c.egress))
  let n := n.when (n.rd F.BOOT_TIME_FWD_MS == 0) (·.wr F.BOOT_TIME_FWD_MS (min (n.now / 500000) 0xFFFF))
  match c.tsReq with
  | some r =>
    let clear : Copy → Copy := fun d => if d.id = c.id then { d with tsReq := none } else d
    let sending : SMap (Option Copy) := n.cellar.sending.map fun (p, d) => (p, d.map clear)
    let work : List RxWork := n.host.rxWork.map fun w => { w with copy := clear w.copy }
    let n := { n with cellar := { n.cellar with copies := n.cellar.copies.map clear, sending := sending } }
    let n := { n with host := { n.host with rxWork := work } }
    n.stampEntry r c.egress
  | none => n

/-! ### Ring registers (R398): receive ring r is index r, transmit ring t is index 4 + t -/

/-- Index of a ring's registers. -/
def ringIx (tx : Bool) (r : Nat) : Nat := if tx then 4 + r else r
/-- WRAP of a ring (R398); 0 while it is disabled. -/
def Node.ringWrap (n : Node) (k : Nat) : Nat :=
  let s := n.rd (F.RING_CFG_SIZE.at k)
  if s = 0 then 0 else s * (65536 / s)
/-- Descriptors available to the node (R398). -/
def Node.ringAvail (n : Node) (k : Nat) : Nat :=
  let w := n.ringWrap k
  if w = 0 then 0 else (n.rd (F.RING_TAIL.at k) + w - n.rd (F.RING_HEAD.at k)) % w
/-- Advance HEAD past `d` descriptors, which are no longer reserved. WRAP is the ring's, or, once it is disabled, that of the frame it completes;
a ring enabled anew has started its counters at 0 (R398). -/
def Node.ringAdvance (n : Node) (k d wrap : Nat) (detached : Bool) : Node :=
  n.when (!detached) fun n =>
    let w := if n.ringWrap k = 0 then wrap else n.ringWrap k
    let n := n.setRing k fun r => { r with reserved := r.reserved - d }
    n.when (w != 0) fun n => n.wr (F.RING_HEAD.at k) ((n.rd (F.RING_HEAD.at k) + d) % w)
/-- Table index of the descriptor `i` past HEAD. -/
def Node.ringSlot (n : Node) (k i : Nat) : Nat := (n.rd (F.RING_HEAD.at k) + i) % max 1 (n.rd (F.RING_CFG_SIZE.at k))
/-- Table slots of the next `d` descriptors that are not reserved. -/
def Node.ringSlots (n : Node) (k d : Nat) : List Nat := (List.range d).map fun i => n.ringSlot k ((n.ring k).reserved + i)
/-- Fire a ring's vector for its unreported completions (R400, R403, R406). -/
def Node.ringReport (n : Node) (k : Nat) : Node :=
  n.when ((n.ring k).unreported) fun n =>
    let n := n.setRing k fun r => { r with unreported := false }
    (n.wr F.RING_IRQ (Nat.lor (n.rd F.RING_IRQ) (2 ^ k))).fire (if k < 4 then 40 else 41) 0 0
/-- A completion on a ring: with IRQ_EN its vector fires IRQ_DELAY later (R400). -/
def Node.ringDone (n : Node) (k : Nat) : Node :=
  n.when (n.bit (F.RING_CFG_IRQ_EN.at k)) fun n =>
    let n := n.setRing k fun r => { r with unreported := true }
    n.when (n.rd (F.RING_IRQ_DELAY.at k) == 0) (·.ringReport k)
/-- DMA is permitted (R379): PCIe selected and up, bus master enabled, power state D0. -/
def Node.dmaOk (n : Node) : Bool := n.hpUp
/-- A size written to BUF_SIZE as it takes effect: a multiple of 64 within 64 to 16,384 (R399). -/
def bufRounded (v : Nat) : Nat := min 16384 (max 64 (v / 64 * 64))
/-- The receive buffer size of a ring. -/
def Node.bufSize (n : Node) (r : Nat) : Nat := bufRounded (n.rd (F.RING_BUF_SIZE.at r))

/-! ### Receive (R399, R400) -/

/-- The copy that waits for descriptors at the head of an HP queue. -/
def Node.rxWaiting (n : Node) (q : Nat) : Option Copy := SMap.get (fun _ => none) n.host.rxWaits q
def Node.setRxWait (n : Node) (q : Nat) (c : Option Copy) : Node :=
  { n with host := { n.host with rxWaits := SMap.set (fun _ => none) n.host.rxWaits q c } }
/-- The receive ring of an HP queue. -/
def Node.rxRing (n : Node) (q : Nat) : Nat := n.rd F.RX_MAP / 4 ^ q % 4
/-- Discard an HP copy for lack of descriptors (R399). -/
def Node.rxWaitDrop (n : Node) (c : Copy) : Node :=
  let r := n.rxRing c.queue
  (n.dropCopies (· == c) fun _ n => (n.count CNT_RX_WAIT_DROP).raiseFirst 0x0A06 r [r]).setRxWait c.queue none
/-- The head copy of HP queue `q` reserves its descriptors, waits, or is discarded (R399). -/
def Node.hpTake (n : Node) (q : Nat) : Node :=
  match n.headCopy 16 q with
  | (n, none) => n.setRxWait q none
  | (n, some c) =>
    let r := n.rxRing q
    let size := n.rd (F.RING_CFG_SIZE.at r)
    let need := (c.out.len - 4 + n.bufSize r - 1) / n.bufSize r
    if size = 0 then (n.dropCopies (· == c) fun _ n => n.count CNT_RX_NO_RING).setRxWait q none
    else if size < need then (n.dropCopies (· == c) fun _ n => n.count CNT_RX_TOO_BIG).setRxWait q none
    else if need ≤ n.ringAvail r - (n.ring r).reserved then
      let w : RxWork := ⟨r, n.ringSlots r need, n.ringWrap r, false, q, { c with egress := n.egressStamp 16 }⟩
      let n := { n with cellar := { n.cellar with copies := n.cellar.copies.filter (· != c) } }
      let n := { n with host := { n.host with rxWork := n.host.rxWork ++ [w] } }
      ((n.setRing r fun k => { k with reserved := k.reserved + need }).setRxWait q none).endRun 0x0A06 r
    else if n.rd (F.RING_RX_WAIT.at r) = 0 then n.rxWaitDrop c
    else n.setRxWait q (some c)
/-- Retry every waiting copy of a ring, higher queues first. -/
def Node.rxRetry (n : Node) (r : Nat) : Node :=
  n.each (List.range 8).reverse fun q n => n.when ((n.rxWaiting q).isSome && n.rxRing q == r) (·.hpTake q)

/-- RX_COPY_AT_HEAD (R399). -/
def execRxCopyAtHead (queue : Fin 8) (s : State) : Host.Outcome State Fault Refusal :=
  s.upd fun n => n.when n.hpUp (·.hpTake queue)

/-- RX_WAIT_EXPIRY (R399). -/
def execRxWaitExpiry (queue : Fin 8) (s : State) : Host.Outcome State Fault Refusal :=
  s.upd fun n =>
    match n.rxWaiting queue with
    | some c => if c ∈ n.cellar.copies then n.rxWaitDrop c else n.setRxWait queue none
    | none => n

/-- RX_FRAME_WRITTEN (R400): the oldest frame of the ring reaches host memory, or finds a descriptor it may not use. -/
def execRxFrameWritten (ring : Fin 4) (owned : Bool) (s : State) : Host.Outcome State Fault Refusal :=
  s.upd fun n =>
    match n.host.rxWork.find? fun w => w.ring == ring.val with
    | none => n
    | some w =>
      let first := w.slots.headD 0
      let n := { n with host := { n.host with rxWork := removeFirst (· == w) n.host.rxWork } }
      let n := n.copyLeft w.copy
      let n := if owned then
          n.emit (.rxRing ring first w.queue w.copy.ingress w.copy.stamp { w.copy.out with len := w.copy.out.len - 4 })
        else n.count CNT_RX_DESC_ERR
      let n := n.each (((List.range w.slots.length).drop 1) ++ [0]) fun i n =>
        let len := if owned then min (n.bufSize ring) (w.copy.out.len - 4 - i * n.bufSize ring) else 0
        n.emit (.writeBack false ring (w.slots.getD i 0) (if owned then 0 else 1) (i == 0) (i + 1 == w.slots.length) len)
      (n.ringAdvance ring w.slots.length w.wrap w.detached).ringDone ring

/-- RING_IRQ_DELAY_EXPIRY (R400, R403). -/
def execRingIrqDelayExpiry (tx : Bool) (ring : Fin 4) (s : State) : Host.Outcome State Fault Refusal :=
  s.upd (·.ringReport (ringIx tx ring))

/-! ### Transmit (R401 to R403) -/

/-- The transmit ring the node serves next: strict priority, ring 3 first (R401). -/
def Node.txServed (n : Node) : Option Nat :=
  [3, 2, 1, 0].find? fun t => n.rd F.HBR_STATUS_TX_STOPPED / 2 ^ t % 2 == 0 && n.ringAvail (4 + t) != 0
/-- Stop a transmit ring (R402). -/
def Node.txStop (n : Node) (t ix : Nat) : Node :=
  (((n.count CNT_TX_DESC_ERR).wr F.HBR_STATUS_TX_STOPPED (Nat.lor (n.rd F.HBR_STATUS_TX_STOPPED) (2 ^ t))).raise 0x0A07 [t, ix])

/-- What a fetch of the descriptors of one frame finds: the frame's descriptors, or the index past the first of a fault (R401, R402). -/
def txSpan (avail : Nat) (descs : List TxDesc) : Option (List TxDesc) × Nat :=
  let l := (descs.take 16).take avail
  match l with
  | [] => (none, 0)
  | d :: _ =>
    if !d.own || !d.sof then (none, 0)
    else match l.findIdx? fun d => !d.own || d.failedAt.isSome || d.eof with
      | none => (none, 0)
      | some i =>
        match l[i]? with
        | some e => if e.own && e.failedAt.isNone then (some (l.take (i + 1)), i) else (none, i)
        | none => (none, i)

/-- The frame goes on past the descriptors fetched: nothing of R402 holds yet, and the node waits for its end (R401). -/
def txUnfinished (avail : Nat) (descs : List TxDesc) : Bool :=
  let l := (descs.take 16).take avail
  decide (l.length < 16) && (l.take 1).all (·.sof) && l.all fun d => d.own && d.failedAt.isNone && !d.eof

/-- A MAC control frame that R183 drops: no status code of R403 fits, so its status is a free value (log entry 4). -/
def Node.txOpen (n : Node) (f : Frame) : Bool := n.checkFails 16 f ⟨false, false, false⟩ == some (CNT_MAC_CTRL 16)
/-- Status with which the descriptors of a frame are written back (R403). -/
def Node.txStatus (n : Node) (f : Frame) : Nat :=
  if n.txOpen f then (n.free 8).toNat
  else match n.checkFails 16 f ⟨false, false, false⟩ with
    | none => 0
    | some c => if c = CNT_RUNT 16 then 3 else 4

/-- A device read has failed (R393). -/
def Node.deviceReadFails (n : Node) (addr : DWord) : Node := (n.count CNT_DMA_RD_ERR).raise 0x0A08 [addr.toNat]
/-- The descriptors `l` of a frame of transmit ring `t` await their write-back with a status. -/
def Node.txHold (n : Node) (t : Nat) (l : List TxDesc) (status : Nat) : Node :=
  let w : TxWork := ⟨t, n.ringSlots (4 + t) l.length, n.ringWrap (4 + t), false, l, status⟩
  let n := n.setRing (4 + t) fun r => { r with reserved := r.reserved + l.length }
  { n with host := { n.host with txWork := some w } }
/-- A read of a frame of ring `t` has failed: the ring stops, and the descriptors already fetched are written back as a fetch error (R402, R403). -/
def Node.txFetchFails (n : Node) (t : Nat) (l : List TxDesc) (addr : DWord) : Node :=
  let n := (n.deviceReadFails addr).txStop t (n.ringSlot (4 + t) (l.length - 1))
  n.when (!l.isEmpty) (·.txHold t l 5)

/-- TX_RING_FETCH (R401, R402): the whole frame is fetched, then enters HP's ingress. Nothing happens while its end is not yet there,
nor while the fetch has yielded to a host request (R393). -/
def execTxRingFetch (descs : List TxDesc) (frame : Frame) (s : State) : Host.Outcome State Fault Refusal :=
  s.upd fun n => n.when (n.dmaOk && n.host.txWork.isNone && !n.host.yielded) fun n =>
    match n.txServed with
    | none => n
    | some t => n.when (!txUnfinished (n.ringAvail (4 + t)) descs) fun n =>
      let k := 4 + t
      match txSpan (n.ringAvail k) descs with
      | (none, i) =>
        match ((descs[i]?).filter (·.own)).bind (·.failedAt) with
        | some a => n.txFetchFails t (descs.take (i + 1)) a
        | none => n.txStop t (n.ringSlot k i)
      | (some l, i) =>
        let total := (l.map (·.len)).foldl (· + ·) 0
        let f := { frame with len := total + 4 }
        let st := n.txStatus f
        let ts := if (l[i]?).any (·.tsReq) then some (t, n.ringSlot k i) else none
        let n := n.txHold t l st
        if total = 0 then n
        else (n.when (n.txOpen f) Node.took).receive 16 f ⟨false, false, false⟩ ts

/-- TX_WRITEBACK (R403): a DMA write, which waits until R379 permits it. -/
def execTxWriteback (s : State) : Host.Outcome State Fault Refusal :=
  s.upd fun n => n.when n.dmaOk fun n =>
    match n.host.txWork with
    | none => n
    | some w =>
      let k := 4 + w.ring
      let n := n.each w.descs.zipIdx fun d n =>
        n.emit (.writeBack true w.ring (w.slots.getD d.2 0) (if d.1.len = 0 then 2 else w.status) d.1.sof d.1.eof d.1.len)
      let n := { n with host := { n.host with txWork := none } }
      (n.ringAdvance k w.descs.length w.wrap w.detached).ringDone k

/-! ### Ring registers written by software (R398) -/

/-- A value written to TAIL of ring `k`, numbered with the transmit rings from 4 (R398). -/
def Node.ringTail (n : Node) (k v : Nat) : Node :=
  let w := n.ringWrap k
  let avail := if w = 0 then 0 else (v + w - n.rd (F.RING_HEAD.at k)) % w
  if w ≤ v || n.rd (F.RING_CFG_SIZE.at k) < avail || avail < (n.ring k).reserved then n.count CNT_RING_WR_DROP
  else (n.wr (F.RING_TAIL.at k) v).when (decide (k < 4)) (·.rxRetry k)
/-- TAIL_WRITE (R398). -/
def execTailWrite (by_ : Initiator) (tx : Bool) (ring : Fin 4) (v : Half) (s : State) : Host.Outcome State Fault Refusal :=
  s.upd fun n => n.access by_ 0xA (·.ringTail (ringIx tx ring) v.toNat)

/-- Frames that ring `k` still holds complete at their own descriptors, apart from its new counters (R398). -/
def Node.detachRing (n : Node) (k : Nat) : Node :=
  let rx := n.host.rxWork.map fun (w : RxWork) => if w.ring = k then { w with detached := true } else w
  let tx := n.host.txWork.map fun (w : TxWork) => if 4 + w.ring = k then { w with detached := true } else w
  Node.setRing { n with host := { n.host with rxWork := rx, txWork := tx } } k fun r => { r with reserved := 0 }
/-- SIZE and IRQ_EN written to CFG of ring `k` (R398, R402). A SIZE above 4,096 leaves the old one in force and is counted (R103). -/
def Node.ringCfg (n : Node) (k size : Nat) (irqEn : Bool) : Node :=
  let old := n.rd (F.RING_CFG_SIZE.at k)
  let n := n.wrBit (F.RING_CFG_IRQ_EN.at k) irqEn
  if 4096 < size then n.count CNT_RING_WR_DROP
  else
    let n := n.wr (F.RING_CFG_SIZE.at k) size
    let n := n.when (old == 0 && size != 0) fun n =>
      let n := ((n.wr (F.RING_HEAD.at k) 0).wr (F.RING_TAIL.at k) 0).detachRing k
      let stopped := n.rd F.HBR_STATUS_TX_STOPPED
      n.when (decide (4 ≤ k)) (·.wr F.HBR_STATUS_TX_STOPPED (stopped - stopped / 2 ^ (k - 4) % 2 * 2 ^ (k - 4)))
    n.when (decide (k < 4)) (·.rxRetry k)
/-- RING_SIZE_WRITE (R398, R402). -/
def execRingSizeWrite (by_ : Initiator) (tx : Bool) (ring : Fin 4) (size : Half) (irqEn : Bool) (s : State) :
    Host.Outcome State Fault Refusal :=
  s.upd fun n => n.access by_ 0xA (·.ringCfg (ringIx tx ring) size.toNat irqEn)

end Sys2Proof.Machine
end

