-- ==== Sys2Proof/Machine/Groups.lean ====
section
/-! DEFINITION. Commit groups (R94 to R102): their words, DIRTY, the copy between shadow and force, outcomes and locks. -/

namespace Sys2Proof.Machine

/-- The groups of the node, in ascending order. -/
def groups : List Nat := commitRegs.map (·.1)
/-- `g` numbers a commit group of the node. -/
def groupExists (g : Nat) : Bool := groups.contains g
/-- Address of a group's COMMIT register. -/
def commitAddr (g : Nat) : Nat := ((commitRegs.find? (·.1 == g)).map (·.2)).getD 0
/-- COMMIT fields of the register at an address (R95). -/
def commitSeq (a : Nat) : Field := ⟨a, 24, 8, 4⟩
def commitCode (a : Nat) : Field := ⟨a, 16, 8, 4⟩
/-- MC_COMMIT and MC_INFO (R93, R99). -/
def mcCommitAddr : Nat := 0x120
/-- The block of a group (R94). -/
def groupBlock (g : Nat) : Nat := g / 16
/-- Idle-bound groups, as the chapters of their blocks state. -/
def idleBound (g : Nat) : Bool := decide (0x70 ≤ g ∧ g ≤ 0x77) || [0x52, 0xA0, 0xD0, 0xE0, 0xF0].contains g

/-- Addresses of the words of a group that differ from reset in the shadow or in force. -/
def Node.groupKeys (n : Node) (g : Nat) : List Nat :=
  ((n.store.shadow.map (·.1)) ++ (n.store.force.map (·.1))).filter fun a => groupOf a == g
/-- DIRTY (R95). -/
def Node.dirty (n : Node) (g : Nat) : Bool := (n.groupKeys g).any fun a => n.shadowWord a != n.forceWord a
/-- The copy of a bank of group 0x10 or 0x80 starts (R135, R349). It writes the shadow bank of the schedule anew, errors and all (R137). -/
def Node.copying (n : Node) (g : Nat) : Node :=
  if g = 0x10 then Node.wrBit { n with trellis := { n.trellis with shadowBad := [] } } F.TRL_STATUS_TBL_BUSY true
  else if g = 0x80 then n.wrBit F.BLD_STATUS_TBL_BUSY true
  else n
/-- The shadow becomes the value in force; the banks of groups 0x10 and 0x80 exchange roles and are copied (R96, R135, R349). -/
def Node.applyGroup (n : Node) (g : Nat) : Node :=
  (n.putForces ((n.groupKeys g).map fun a => (a, n.shadowWord a))).copying g
/-- The value in force is copied back into the shadow: ABORT, and the copy after a topology commit (R98, R135, R543). -/
def Node.reloadGroup (n : Node) (g : Nat) : Node :=
  (n.putShadows ((n.groupKeys g).map fun a => (a, n.forceWord a))).copying g

/-- CODE of a group. -/
def Node.setCode (n : Node) (g code : Nat) : Node := n.wr (commitCode (commitAddr g)) code
/-- A COMMIT_INFO word (R95, R542). -/
def infoWord (entry : Bool) (word other ofs : Nat) : Word :=
  BitVec.ofNat 32 ((if entry then 2 ^ 31 else 0) + word % 8 * 2 ^ 28 + other % 256 * 2 ^ 20 + ofs % 2 ^ 20)
/-- COMMIT_INFO of a group. -/
def Node.setInfo (n : Node) (g : Nat) (info : Word) : Node := n.putWord (commitAddr g + 4) info
/-- An INFO word without a field (R95). -/
def noInfo : Word := infoWord false 0 0xFF 0
/-- SEQ increments (R96). -/
def Node.bumpSeq (n : Node) (g : Nat) : Node := n.incr (commitSeq (commitAddr g))
/-- A group has taken effect: CODE 0, no field in COMMIT_INFO, and SEQ increments (R95, R96). -/
def Node.groupTaken (n : Node) (g : Nat) : Node := ((n.setCode g 0).setInfo g noInfo).bumpSeq g
/-- A refusal is counted and recorded with its group and code; vector 0 fires with its event (R93, R96). -/
def Node.refused (n : Node) (g code : Nat) : Node := (n.count CNT_COMMIT_REFUSED).raise 0x0011 [g, code]
/-- A commit of one group is refused (R96). -/
def Node.refuseGroup (n : Node) (g code : Nat) : Node := ((n.setPhase g .idle).setCode g code).refused g code

/-- The shadow of group 0x40 moves the train addresses (R235). -/
def Node.movesTrain (n : Node) : Bool := n.sf F.NET_BASE_BASE != n.cf F.NET_BASE_BASE || n.sf F.ADDR_FMT_SUBNET_SHIFT != n.cf F.ADDR_FMT_SUBNET_SHIFT
/-- Groups that a speculation or a topology commit affects: 0x40 where its shadow moves the train addresses (R63, R100, R235, R257). -/
def Node.topoAffected (n : Node) (g : Nat) : Bool := [0x10, 0x21, 0x51, 0x53, 0x80].contains g || (g == 0x40 && n.movesTrain)
/-- The group is part of the pending multi-group set (R99). -/
def Node.inMc (n : Node) (g : Nat) : Bool := (n.mc.map fun m => m.groups.contains g).getD false
/-- The group is locked (R98, R99). -/
def Node.groupLocked (n : Node) (g : Nat) : Bool := n.phase g != .idle || n.inMc g
/-- A host commit of the group is validated and waits (R100). -/
def Node.groupPending (n : Node) (g : Nat) : Bool :=
  n.inMc g || match n.phase g with
    | .pending _ => true
    | .slotZero _ => true
    | _ => false

/-- A group that a topology commit affects is being committed by the host, which the topology commit waits for (R100, R235). -/
def Node.topoWaits (n : Node) : Bool := groups.any fun g => n.topoAffected g && n.groupLocked g
/-- The last base-cycle start, counted from the next one as 1, at which a validated host commit of such a group takes effect; 0 without one. -/
def Node.hostStart (n : Node) : Nat :=
  (groups.filter fun g => n.topoAffected g).foldl (fun m g =>
    max m (match n.phase g, n.mc with
      | .pending k, _ => k + 1
      | _, some s => if g ∈ s.groups then s.skip + 1 else 0
      | _, none => 0)) 0
/-- The base-cycle start at which a decided topology commit takes effect: the one after a host commit that it would meet (R100). -/
def Node.topoStart (n : Node) (c : TopoCommit) : Nat :=
  if c.skip = 0 then 0 else if c.skip ≤ n.hostStart then n.hostStart + 1 else c.skip

end Sys2Proof.Machine
end

