-- ==== Sys2Proof/Machine/Schedule.lean ====
section
/-! DEFINITION. The schedule as the Trellis and the ports read it (file 05 R105 to R126): entries, the cycles they act in, gates. -/

namespace Sys2Proof.Machine

/-- A bank of group 0x10, read field by field: the values in force or the shadow (R133, R135). -/
abbrev SchedBank := Field → Nat

/-- Base cycles per hyper-period, N (R105). -/
def SchedBank.cycles (b : SchedBank) : Nat := b F.HYPER_PERIOD / b F.BASE_CYCLE
/-- Base cycle in ns. -/
def SchedBank.baseNs (b : SchedBank) : Nat := b F.BASE_CYCLE * 1000
/-- Entry `i` acts in the cycle of index `c` under topology tag `tag` (R115). -/
def SchedBank.acts (b : SchedBank) (i c tag : Nat) : Bool :=
  c % (b (F.ENT_RPT.at i) + 1) == b (F.ENT_PHASE.at i) && (b (F.ENT_TOPO.at i) == 0 || b (F.ENT_TOPO.at i) == tag)
/-- Start and end of an entry's action window within its cycle, in ns (R115). -/
def SchedBank.window (b : SchedBank) (i : Nat) : Nat × Nat :=
  (b (F.ENT_OFFSET.at i) * 8, (b (F.ENT_OFFSET.at i) + b (F.ENT_WINDOW.at i)) * 8)
/-- Numbers of the entries of a word map that hold an action, below a count (R112). -/
def entryNumbers (m : SMap Word) (count : Nat) : List Nat :=
  m.filterMap fun e =>
    if 0x10000000 ≤ e.1 ∧ e.1 < 0x10100000 ∧ e.1 % 16 = 0 ∧ F.ENT_ACTION.get e.2 ≠ 0 then
      (if (e.1 - 0x10000000) / 16 < count then some ((e.1 - 0x10000000) / 16) else none)
    else none
/-- The topology tag in force (R130). -/
def Node.topoTag (n : Node) : Nat := n.rd F.TRL_STATUS_TOPO_TAG
/-- Entries in force of an action code, without those skipped after an uncorrectable error (R137). -/
def Node.entriesOf (n : Node) (action : Nat) : List Nat :=
  (entryNumbers n.store.force (n.cf F.ENTRY_COUNT)).filter fun i =>
    n.cf (F.ENT_ACTION.at i) == action && !(n.trellis.skipped.contains i)
/-- The Trellis issues entries: it runs, and no re-phase gap or new grid is awaited (R109, R111, R136). -/
def Node.issuing (n : Node) : Bool := n.bit F.TRL_STATUS_RUNNING && !n.trellis.gap && !n.trellis.waitOrigin
/-- Entry `i` of action code `a` is due in the running base cycle (R112, R115, R137). -/
def Node.due (n : Node) (i a : Nat) : Bool :=
  n.issuing && decide (i < n.cf F.ENTRY_COUNT) && n.cf (F.ENT_ACTION.at i) == a && !(n.trellis.skipped.contains i) &&
    SchedBank.acts n.cf i (n.rd F.CYCLE_IDX_IDX) n.topoTag

/-! ### Schedule time (R106 to R110, R136) -/

/-- The phase correction, schedule time less active domain time, in ns: during a slew it falls towards 0 at 1,000 ppm of schedule time (R108,
R110). In `t` ns of domain time, schedule time that lags gains t / 999, and schedule time that leads loses t / 1,001. -/
def Node.phaseNow (n : Node) : Int :=
  let e := (BitVec.ofNat 32 (n.rd F.PHASE_ERR_ERR)).toInt
  let t : Int := (n.activeNs.toNat - n.trellis.slewFrom : Nat)
  if n.rd F.TRL_STATUS_PHASE_STATE ≠ 2 then e
  else if e < 0 then min 0 (e + t / 999)
  else max 0 (e - t / 1001)
/-- Schedule time in ns: the active time and the Trellis's own phase correction (R106, R110). -/
def Node.scheduleNs (n : Node) : Int := (n.activeNs.toNat : Int) + n.phaseNow
/-- ORIGIN in a bank. -/
def SchedBank.origin (b : SchedBank) : Nat := b F.ORIGIN + b (F.ORIGIN.at 1) * 2 ^ 32
/-- ORIGIN in force. -/
def Node.origin (n : Node) : Nat := SchedBank.origin n.cf
/-- ORIGIN becomes a schedule time, in force and in the shadow (R136). -/
def Node.setOrigin (n : Node) (ns : Int) : Node :=
  let v := BitVec.ofInt 64 ns
  let ws := [(0x100020, v.extractLsb' 0 32), (0x100024, v.extractLsb' 32 32)]
  (n.putForces ws).putShadows ws
/-- The cycle index of a bank's grid at a schedule time (R106). -/
def SchedBank.indexAt (b : SchedBank) (ns : Int) : Nat :=
  ((ns - b.origin).fdiv b.baseNs).emod (max 1 b.cycles) |>.toNat
/-- The cycle index at a schedule time (R106). -/
def Node.indexAt (n : Node) (ns : Int) : Nat := SchedBank.indexAt n.cf ns
/-- Nanoseconds from a schedule time to the first start of a grid at or after it (R109, R136). -/
def gridWait (ns : Int) (origin base : Nat) : Nat := ((origin - ns).emod (max 1 base)).toNat
/-- Schedule time at the start of the running base cycle. -/
def Node.cycleAt (n : Node) : Int :=
  let t := n.scheduleNs
  t - (t - n.origin).emod (max 1 (SchedBank.baseNs n.cf))
/-- The re-phase gap that begins at a schedule time of the old timeline: its length, and the schedule time of the first start of the new
timeline that lies at least 10 µs later (R109). -/
def Node.gapFromAt (n : Node) (ns : Int) : Nat × Int :=
  let t := ns - n.phaseNow
  let len := 10000 + gridWait (t + 10000) n.origin (SchedBank.baseNs n.cf)
  (len, t + len)
/-- The gap that begins now. -/
def Node.gapEnd (n : Node) : Nat × Int := n.gapFromAt n.scheduleNs

/-! ### Actions (R116 to R119) -/

/-- The target of entry `i`. -/
def Node.targetOf (n : Node) (i : Nat) : Nat := n.cf (F.ENT_TARGET.at i)
/-- The block that carries out an action (R114). -/
def actionBlock (a : Nat) : Nat := if a = 2 then 5 else if a = 3 then 8 else if a = 4 then 6 else 0xB
/-- The action of entry `i`, of code `a`, takes effect, or is skipped while an earlier one on its target runs (R119). One for a block in reset is a
crossing that ends with an error (R16). -/
def Node.startAction (n : Node) (i a : Nat) (f : Node → Node) : Node :=
  n.when (n.due i a) fun n =>
    if n.blockHeld (actionBlock a) then n.xabort
    else if n.trellis.running.any fun r => r.action == a && r.target == n.targetOf i then (n.count CNT_ACTION_SKIP).raise 0x0102 [i]
    else f n
/-- The action of entry `i` occupies its target until it completes (R118). -/
def Node.occupy (n : Node) (i a : Nat) : Node :=
  { n with trellis := { n.trellis with running := ⟨i, a, n.targetOf i⟩ :: n.trellis.running } }

/-- The action of entry `i` has completed, `lateNs` after its window has closed, 0 on time (R118). -/
def Node.actionDone (n : Node) (i lateNs : Nat) : Node :=
  n.when (n.trellis.running.any (·.entry == i)) fun n =>
    let n := { n with trellis := { n.trellis with running := n.trellis.running.filter (·.entry != i) } }
    n.when (lateNs != 0) fun n =>
      ((n.count CNT_WINDOW_OVERRUN).wr F.OVERRUN_LAST_ENTRY i).raise 0x0101 [i, (lateNs + 7) / 8]

/-! ### The fabric wheel's slots (R138, R139, R142) -/

/-- Owner code of a slot in force (R139). -/
def Node.slotOwner (n : Node) (s : Nat) : Nat := n.cf ⟨0x100060 + 4 * (s / 8), 4 * (s % 8), 4, 4⟩
/-- An initiator owns a slot of the wheel (R142). -/
def Node.ownsSlot (n : Node) (code : Nat) : Bool := (List.range 16).any fun k => n.slotOwner k == code
/-- Slot 0 of a turn starts at this instant: a turn is 1,024 ns, which is 512 ticks (R17, R138). -/
def Node.slotZero (n : Node) : Bool := (n.now - n.trellis.wheelFrom) % 512 == 0

/-! ### Gates (R123, R124) -/

/-- A span of ns, from the start of the running cycle, in which a gate entry sets a port's mask. -/
structure GateSpan where
  start : Nat
  stop : Nat
  mask : Nat
  deriving DecidableEq, Repr

/-- Base mask of a port in a bank (R123). -/
def SchedBank.baseMask (b : SchedBank) (p : Nat) : Nat := b ⟨0x100030 + 4 * (p / 4), 8 * (p % 4), 8, 4⟩
/-- Gate spans of a port in the cycle that starts at `at_` ns with index `c`. -/
def SchedBank.spans (b : SchedBank) (ents : List Nat) (p c tag at_ : Nat) : List GateSpan :=
  (ents.filter fun i => b (F.ENT_TARGET.at i) == p && b.acts i c tag).map fun i =>
    ⟨at_ + (b.window i).1, at_ + (b.window i).2, b (F.ENT_ARG.at i) % 256⟩
/-- The base-cycle start, counted from the next one as 1, at which a pending host commit of group 0x10 takes effect (R96, R99). -/
def Node.schedHost (n : Node) : Option Nat :=
  match n.phase 0x10, n.mc with
  | .pending k, _ => some (k + 1)
  | _, some m => if 0x10 ∈ m.groups then some (m.skip + 1) else none
  | _, none => none
/-- The topology commit that is decided and commits recomputed entries of group 0x10 (R132). -/
def Node.schedTopo (n : Node) : Option TopoCommit := n.ina.decided.filter fun c => c.recompute && c.tag == 0
/-- The base-cycle start at which group 0x10 takes effect, by the host's commit or with a topology. -/
def Node.schedPending (n : Node) : Option Nat := n.schedHost <|> n.schedTopo.map fun c => max 1 (n.topoStart c)
/-- A bank of group 0x10 as its words. -/
def wordsBank (m : SMap Word) : SchedBank := fun f => f.get (SMap.get resetWord m f.addr)
/-- The words of group 0x10 that then take effect: the shadow, or the recomputed words over those in force (R132). -/
def Node.schedNext (n : Node) : SMap Word :=
  match n.schedHost, n.schedTopo with
  | none, some c => SMap.setAll resetWord n.store.force c.schedule
  | _, _ => n.store.shadow
/-- The topology tag from the `j`-th base-cycle start on: that of a decided topology commit from its own start (R131, R226). -/
def Node.tagAt (n : Node) (j : Nat) : Nat :=
  match n.ina.decided with
  | some c => if n.topoStart c ≤ j then c.tag else n.topoTag
  | none => n.topoTag
/-- Whether a bank of group 0x10 changes the grid of another: its lengths, or its origin (R136). -/
def SchedBank.newLengths (b old : SchedBank) : Bool := b F.BASE_CYCLE != old F.BASE_CYCLE || b F.HYPER_PERIOD != old F.HYPER_PERIOD
def SchedBank.newOrigin (b old : SchedBank) : Bool := b F.ORIGIN != old F.ORIGIN || b (F.ORIGIN.at 1) != old (F.ORIGIN.at 1)

/-- The next base-cycle start of the grid in force: ns from the running cycle's start, or from the start of the gap or interval that runs; its
schedule time; and its cycle index. A hard re-phase that is due puts its gap before it (R109, R136). -/
def Node.nextStart (n : Node) : Nat × Int × Nat :=
  let base := SchedBank.baseNs n.cf
  if n.trellis.gap || n.trellis.waitOrigin then (n.trellis.resumeNs, n.trellis.resumeAt, n.indexAt n.trellis.resumeAt)
  else if n.trellis.rephaseDue then
    let g := n.gapFromAt (n.cycleAt + base)
    (base + g.1, g.2, n.indexAt g.2)
  else (base, n.cycleAt + base, (n.rd F.CYCLE_IDX_IDX + 1) % max 1 (SchedBank.cycles n.cf))
/-- The boundary at which a pending schedule takes effect, in ns as `nextStart` counts them, and its schedule time. -/
def Node.gateBoundaryAt (n : Node) : Option (Nat × Int) :=
  n.schedPending.map fun k =>
    let s := n.nextStart
    let d := (k - 1) * SchedBank.baseNs n.cf
    (s.1 + d, s.2.1 + d)
/-- That boundary in ns. -/
def Node.gateBoundary (n : Node) : Option Nat := n.gateBoundaryAt.map (·.1)
/-- Base cycles that a longest frame at 10 Mb/s can reach into, and one more. -/
def reachCycles (base : Nat) : Nat := 7400000 / max base 1 + 2
/-- Gate spans of a port in the base cycles of the schedule in force after the running one: those before a pending boundary (R124). -/
def Node.spansAhead (n : Node) (p : Nat) : List GateSpan :=
  let base := SchedBank.baseNs n.cf
  let s := n.nextStart
  let ents := n.entriesOf 1
  (List.range (min (reachCycles base) ((n.schedPending.map (· - 1)).getD (reachCycles base)))).flatMap fun j =>
    SchedBank.spans n.cf ents p ((s.2.2 + j) % max 1 (SchedBank.cycles n.cf)) (n.tagAt (j + 1)) (s.1 + j * base)
/-- Gate spans of a port in the base cycles of a pending schedule: from its boundary, or from the first start of its own grid (R124, R136). -/
def Node.spansPending (n : Node) (p : Nat) : List GateSpan :=
  match n.schedPending, n.gateBoundaryAt with
  | some k, some b =>
    let next := wordsBank n.schedNext
    let base := SchedBank.baseNs next
    let moved := SchedBank.newOrigin next n.cf
    let wait := if moved then gridWait b.2 (SchedBank.origin next) base else 0
    let first := if moved then SchedBank.indexAt next (b.2 + wait) else if SchedBank.newLengths next n.cf then 0 else n.nextStart.2.2 + (k - 1)
    let ents := (entryNumbers n.schedNext (next F.ENTRY_COUNT)).filter fun i => next (F.ENT_ACTION.at i) == 1
    (List.range (reachCycles base)).flatMap fun j =>
      SchedBank.spans next ents p ((first + j) % max 1 (SchedBank.cycles next)) (n.tagAt (k + j)) (b.1 + wait + j * base)
  | _, _ => []
/-- Gate spans of a port at and after `ns`: windows that are open, those the running cycle has still to open, and those of the cycles to come,
across re-phases, pending schedules and topologies (R124, R131). A Trellis that does not run opens none. -/
def Node.gateSpans (n : Node) (p ns : Nat) : List GateSpan :=
  let ents := n.entriesOf 1
  let opened := (n.trellis.openGates.filter fun i => n.cf (F.ENT_TARGET.at i) == p).map fun i =>
    (⟨0, (SchedBank.window n.cf i).2, n.cf (F.ENT_ARG.at i) % 256⟩ : GateSpan)
  if !n.bit F.TRL_STATUS_RUNNING then []
  else
    let running := if n.issuing then SchedBank.spans n.cf ents p (n.rd F.CYCLE_IDX_IDX) (n.tagAt 0) 0 else []
    opened ++ (running ++ n.spansAhead p ++ n.spansPending p).filter fun g => decide (ns ≤ g.start)

/-- A port's base mask at an instant. -/
def Node.baseMaskAt (n : Node) (p t : Nat) : Nat :=
  match n.gateBoundary with
  | some b => if b ≤ t then SchedBank.baseMask (wordsBank n.schedNext) p else SchedBank.baseMask n.cf p
  | none => SchedBank.baseMask n.cf p

/-- The instant at which the gate of queue `q`, walked from `t`, closes; none within the horizon is `none`. -/
def gateClosing (spans : List GateSpan) (base : Nat → Nat) (bound : Option Nat) (q : Nat) : Nat → Nat → Option Nat
  | 0, _ => none
  | fuel + 1, t =>
    match spans.find? fun g => decide (g.start ≤ t) && decide (t < g.stop) with
    | some g => if g.mask / 2 ^ q % 2 = 0 then some t else gateClosing spans base bound q fuel g.stop
    | none =>
      if base t / 2 ^ q % 2 = 0 then some t
      else
        let later := (spans.map (·.start)).filter (t < ·) ++ (bound.toList).filter (t < ·)
        match later.foldl (fun (m : Option Nat) x => match m with | some y => some (min x y) | none => some x) none with
        | none => none
        | some t' => gateClosing spans base bound q fuel t'

/-- A frame of `len` bytes at `mbps`, started from queue `q` of port `p` at `ns` of the running cycle, ends before its gate closes
(R124). -/
def Node.gateFits (n : Node) (p q ns len mbps : Nat) : Bool :=
  let spans := n.gateSpans p (ns + 1)
  match gateClosing spans (n.baseMaskAt p) n.gateBoundary q (2 * spans.length + 4) ns with
  | none => true
  | some c => decide (ns < c) && decide ((len + 20) * 8000 ≤ (c - ns) * mbps)

/-- GATE_WINDOW_OPEN (R123). -/
def execGateWindowOpen (entry : Nat) (s : State) : Host.Outcome State Fault Refusal :=
  s.upd fun n => n.when (n.due entry 1 && !(n.trellis.openGates.contains entry)) fun n =>
    { n with trellis := { n.trellis with openGates := entry :: n.trellis.openGates } }
/-- GATE_WINDOW_CLOSE (R123). -/
def execGateWindowClose (entry : Nat) (s : State) : Host.Outcome State Fault Refusal :=
  s.upd fun n => { n with trellis := { n.trellis with openGates := n.trellis.openGates.filter (· != entry) } }

end Sys2Proof.Machine
end

