-- ==== Sys2Proof/Machine/Egress.lean ====
section
/-! DEFINITION. Egress of the switch core (files 05 R124, R125; 06 R165 to R171; 07 R205, R206; 13 R361, R362): transmission selection,
sending, ageing, buffer errors, the multidrop ports, and the release of the Lees queue. -/

namespace Sys2Proof.Machine

/-- The copy a port is sending. -/
def Node.sendingOn (n : Node) (p : Nat) : Option Copy := SMap.get (fun _ => none) n.cellar.sending p
def Node.setSending (n : Node) (p : Nat) (c : Option Copy) : Node :=
  { n with cellar := { n.cellar with sending := SMap.set (fun _ => none) n.cellar.sending p c } }

/-! ### Selection (R124, R125, R152, R165, R169) -/

/-- The port may start a frame: its link is usable, and it neither sends, loops back nor backs off. -/
def Node.portIdle (n : Node) (p : Nat) : Bool :=
  n.linkUp p && (n.sendingOn p).isNone &&
    (decide (16 ≤ p) || (n.portUsable p && !(n.port p).loopback && (n.port p).backoff.isNone && (n.dedicated p).isNone))

/-- Offer the ports' queues from 7 down; the first whose head fits starts. HP's heads leave through its receive rings (R399). -/
def Node.selectFrom (n : Node) (p ns : Nat) : Nat → Node
  | 0 => n
  | q + 1 =>
    match n.headCopy p q with
    | (n, none) => n.selectFrom p ns q
    | (n, some c) =>
      if n.gateFits p q ns c.out.len (n.mbps p) then
        if p = 16 then
          let m := n.hpTake q
          if (m.rxWaiting q).isSome then m.selectFrom p ns q else m
        else
          let n := { n with cellar := { n.cellar with
            copies := n.cellar.copies.filter (· != c)
            sendEnd := SMap.set (fun _ => 0) n.cellar.sendEnd p (ns + (c.out.len + 20) * 8000 / max 1 (n.mbps p)) } }
          n.setSending p (some { c with egress := n.egressStamp p })
      else n.selectFrom p ns q

/-- COPY_SELECTED (R124) at `ns` into the running base cycle. -/
def execCopySelected (port : Fin 19) (ns : Nat) (s : State) : Host.Outcome State Fault Refusal :=
  s.upd fun n => n.when (n.forwarding && n.portIdle port) (·.selectFrom port ns 8)

/-- A copy on the wire whose gate the schedule in force closes before its last bit is counted at a schedule boundary (R124). -/
def Node.gateSpill (n : Node) : Node :=
  n.each n.cellar.sending fun e n =>
    match e.2 with
    | none => n
    | some c =>
      let left := SMap.get (fun _ => 0) n.cellar.sendEnd e.1
      let spans := n.gateSpans e.1 0
      match gateClosing spans (n.baseMaskAt e.1) n.gateBoundary c.queue (2 * spans.length + 4) 0 with
      | none => n
      | some t => n.when (t < left) (·.count CNT_GATE_SPILL)

/-- BREAK_US: the offset of the first OUT_UPDATE entry with RPT 0 and TOPO 0, plus 1,000 µs (R459). -/
def Node.breakUs (n : Node) : Nat :=
  match (n.entriesOf 5).find? fun i => n.cf (F.ENT_RPT.at i) == 0 && n.cf (F.ENT_TOPO.at i) == 0 with
  | some i => n.cf (F.ENT_OFFSET.at i) * 8 / 1000 + 1000
  | none => 0
/-- A new grid with an explicit ORIGIN is awaited from the boundary on (R136). -/
def Node.awaitOrigin (n : Node) : Node :=
  let b := n.scheduleNs
  let w := gridWait b n.origin (SchedBank.baseNs n.cf)
  { n with trellis := { n.trellis with waitOrigin := true, resumeNs := w, resumeAt := b + w } }
/-- No entry stays skipped or held after an error: the group is committed (R137). -/
def Node.endHolds (n : Node) : Node :=
  Node.wrBit { n with trellis := { n.trellis with skipped := [], heldEntries := [] } } F.TRL_STATUS_ECC_HOLD false
/-- Group 0x10 has taken effect on a node that held `before` (R124, R136, R137, R144, R459). Gates start from the base masks: no window reaches past
its cycle (R121). -/
def Node.scheduleApplied (n before : Node) : Node :=
  let n := Node.endHolds { n with trellis := { n.trellis with openGates := [] } }
  let n := (n.wr F.HYPER_CNT 0).wr F.BREAK_US n.breakUs
  let n :=
    if SchedBank.newOrigin n.cf before.cf then n.awaitOrigin
    else n.when (SchedBank.newLengths n.cf before.cf) fun n => (n.setOrigin n.scheduleNs).wr F.CYCLE_IDX_IDX 0
  n.gateSpill

/-! ### Buffer errors (R170, R171) -/

/-- An uncorrectable buffer error: counted, recorded, and its Cask retired, once, while fewer than 64 are. -/
def Node.bufferError (n : Node) (cask port : Nat) : Node :=
  let n := (n.count CNT_BUF_ECC).raise 0x0201 [cask, port]
  let r := n.rd F.SWC_STATUS_RETIRED
  n.when (decide (r < 64) && !n.cellar.retired.contains cask) fun n =>
    let n := { n with cellar := { n.cellar with retired := cask :: n.cellar.retired } }
    let n := (n.wr F.SWC_STATUS_RETIRED (r + 1)).raise 0x0202 [cask]
    n.when (r + 1 == 64) fun n => (n.raise 0x0203 []).addFault .casks

/-! ### Transparent clock (R361, R362) -/

/-- The largest positive correctionField. -/
def correctionMax : Int := 0x7FFFFFFFFFFFFFFF
/-- Residence time in units of the correctionField (2⁻¹⁶ ns), from a difference of stamps in 250 ps units and a RATE (R355, R361). -/
def residence (d : Int) (rate : Int) : Int := (d * (2 ^ 40 + rate) * 2 ^ 14).fdiv (2 ^ 40)
/-- Egress stamp less ingress stamp, in 250 ps units (R358, R361). -/
def stampSpan (c : Copy) : Int := (BitVec.ofNat 64 c.egress - BitVec.ofNat 64 c.stamp).toInt

/-- What correction a copy takes as it leaves. -/
inductive Correction where
  | none
  | foreign
  | domain (d : Nat)
  deriving DecidableEq, Repr

/-- Which correction applies to a copy (R361, R362). -/
def Node.correctionOf (n : Node) (c : Copy) : Correction :=
  match c.out.ptpEvent with
  | some m =>
    if 16 ≤ c.ingress || 16 ≤ c.port then .none
    else match n.ptpDomain m with
      | none => if n.cfBit F.TIME_CFG_TC_FOREIGN then .foreign else .none
      | some d =>
        let prof := n.cf (F.DOM_CFG_PROFILE.at d)
        if m.msgType == 0#4 || (m.msgType == 1#4 && prof == 0) then .domain d else .none
  | none => .none

/-- The cumulative rate ratio that a relayed Sync of IEEE 802.1AS carries on, as an offset in units of 2⁻⁴¹: what it brought and the neighbour's at
its ingress port (R361). -/
def Node.newRatio (n : Node) (c : Copy) (m : PtpMsg) : Correction → Int
  | .domain d => if n.cf (F.DOM_CFG_PROFILE.at d) = 2 then m.rateRatio.toInt + n.linkRatio d c.ingress else m.rateRatio.toInt
  | _ => m.rateRatio.toInt
/-- The new correctionField: with the residence time alone, or with the mean link delay of the ingress port, in IEEE 802.1AS each multiplied by the
cumulative rate ratio (R361, R362). -/
def Node.newCorrection (n : Node) (c : Copy) (m : PtpMsg) (k : Correction) : Int :=
  match k with
  | .none => m.correction.toInt
  | .foreign => m.correction.toInt + residence (stampSpan c) 0
  | .domain d =>
    let own := residence (stampSpan c) (n.view d).rate.toInt
    let prof := n.cf (F.DOM_CFG_PROFILE.at d)
    if prof = 0 then m.correction.toInt + own
    else if prof = 1 then m.correction.toInt + own + n.linkDelay d c.ingress
    else m.correction.toInt + ((own + n.linkDelay d c.ingress) * (2 ^ 41 + n.newRatio c m k)).fdiv (2 ^ 41)
/-- Correct a PTP event message on its way out; over IPv4 its UDP checksum becomes 0 (R361). -/
def Node.correct (n : Node) (c : Copy) : Node × Frame :=
  match c.out.ptpEvent with
  | some m =>
    let k := n.correctionOf c
    if k = .none then (n, c.out)
    else
      let v := n.newCorrection c m k
      let sat := decide (correctionMax < v)
      let n := n.count CNT_TC_FRAMES
      let n := n.when (k == .foreign) (·.count CNT_TC_FOREIGN)
      let n := if sat then (n.count CNT_TC_SAT).raiseFirst 0x0907 0 [] else n.endRun 0x0907 0
      let f := { c.out with body := .ptp { m with
        correction := BitVec.ofInt 64 (if sat then correctionMax else v)
        rateRatio := BitVec.ofInt 32 (n.newRatio c m k)
        ip := m.ip.map fun h => { h with l4sum := 0#16 } } }
      (n, f)
  | none => (n, c.out)

/-! ### The Vintner's answers at VP (R158, R159, R181, R467) -/

/-- The Vintner address of the unit (R181). -/
def vintnerMac : Mac := Config.macBase + 17#48
/-- The addresses the node represents: the translated ones (R158, R467). -/
def Node.represented (n : Node) : List Ip :=
  ((List.range 4096).filter fun i => n.cfBit (F.XL_VALID.at i)).flatMap fun i =>
    [n.forceWord (F.XL_LOCAL_IP.at i).addr, n.forceWord (F.XL_TRAIN_IP.at i).addr]
/-- The Vintner answers for an address: one the node represents, or its own on its VLAN, unless it has none (R467). -/
def Node.answersFor (n : Node) (vid : Nat) (ip : Ip) : Bool :=
  n.represented.contains ip || (ip != 0#32 && ip == n.word F.VNT_IP.addr && vid == n.rd F.VNT_VID)
/-- The answer to a frame that has reached VP, if it gets one: ARP requests and ICMP echo requests for such an address, by RFC 826 and RFC 792, and a
frame to be routed whose TTL has ended. -/
def Node.vpAnswer (n : Node) (c : Copy) : Option VpAnswer :=
  let f := c.out
  let ip (k : Nat) : Ip := BitVec.ofNat 32 (beNat ((f.data.drop k).take 4))
  if f.etype == 0x0806#16 then
    if beNat ((f.data.drop 6).take 2) = 1 ∧ n.answersFor c.vid (ip 24) = true then some (.arp (ip 24)) else none
  else
    match f.body with
    | .ipv4 h =>
      if f.dst == n.routerMac && h.ihl == 5#4 && decide (h.ttl.toNat ≤ 1) then some (.timeExceeded h.src)
      else if h.proto == 1#8 && f.data.head? == some 8#8 && n.answersFor c.vid h.dst then some (.echo h.dst h.src) else none
    | _ => none
/-- The PTP message that answers one that has reached VP, as domain and messageType: Pdelay_Resp to Pdelay_Req at any port of its domain, Delay_Resp
of a grandmaster to Delay_Req (R361, R364). -/
def Node.ptpAnswer (n : Node) (c : Copy) : Option (Nat × Nat) :=
  match c.out.ptpEvent with
  | some m =>
    match n.ptpDomain m with
    | some d =>
      if n.cf (F.DOM_CFG_PORTS.at d) / 2 ^ c.ingress % 2 = 0 then none
      else if m.msgType = 2#4 then some (d, 3) else if m.msgType = 1#4 ∧ n.grandmaster d = true then some (d, 9) else none
    | none => none
  | none => none
/-- A frame reaches the Vintner, which answers it through VP; on a unit of a pair that is not active it sends nothing (R467). -/
def Node.vintnerTakes (n : Node) (c : Copy) : Node :=
  n.when (n.activeUnit && n.supply.firmware && !n.supply.halted) fun n =>
    let n := match n.vpAnswer c with
      | some a => n.emit (.answer vintnerMac c.out.src c.vid a)
      | none => n
    match n.ptpAnswer c with
    | some (d, t) => n.emit (.ptp d t [(c.ingress, if t = 9 then vintnerMac else portMac c.ingress)] (n.viewNs d))
    | none => n

/-- COPY_SENT (R185, R170, R171, R404). A logical backbone port's frames go over the pair uplink (R441). `cask` is the Cask of an error found
as it was read. -/
def execCopySent (port : Fin 19) (ecc : EccResult) (cask : Nat) (s : State) : Host.Outcome State Fault Refusal :=
  s.upd fun n =>
    match n.sendingOn port with
    | none => n
    | some c =>
      let n := n.setSending port none
      let (n, f) := n.correct c
      let n := n.copyLeft c
      let good := ecc != .uncorrectable
      let n := if n.physical port then n.emit (.frame port f good) else n.emit (.frame n.pairUplink (f.relayed port) good)
      let n := n.when (port.val == 18 && good) (·.vintnerTakes c)
      let n := n.when (ecc == .corrected) (·.count CNT_BUF_ECC_CORR)
      n.when (!good) (·.bufferError cask port)

/-- AGEING_SWEEP (R165, R228). Ages are differences of whole microseconds (DESIGN CHOICE, log entry 49). -/
def execAgeingSweep (s : State) : Host.Outcome State Fault Refusal :=
  s.upd fun n => n.when n.forwarding fun n =>
    let n := n.dropCopies n.aged Node.countAged
    let old := fun (h : HeldFrame) => decide (100000 < n.nowUs - h.rxUs)
    let gone := n.cellar.lees.filter old
    let part := ((n.cellar.lees.take n.cellar.releasing).filter old).length
    let n := { n with cellar := { n.cellar with
      lees := n.cellar.lees.filter fun h => !old h
      releasing := n.cellar.releasing - part } }
    n.each gone fun h n => (n.count CNT_LEES_AGED).raise 0x0405 [h.id]

/-- BUFFER_SCRUB_LINE (R170, R171): `holder` names the frame whose Cask holds the line, a Cask being two lines. The port that event 0x0201 records
the spec does not define for a frame held for several ports, or for none: it is that of the first copy queued, and 0 without one (DESIGN CHOICE, log
entry 50). An uncorrectable error in a Cask that holds no frame, for which R171 gives no handling, leaves no trace (DESIGN CHOICE, log entry 80). -/
def execBufferScrubLine (line : Nat) (holder : Option Nat) (result : EccResult) (s : State) : Host.Outcome State Fault Refusal :=
  s.upd fun n => n.when n.forwarding fun n =>
    let n := n.when (line % 49152 == 49151) (·.incr F.SCRUB_PASS)
    match result, holder with
    | .corrected, _ => n.count CNT_BUF_ECC_CORR
    | .uncorrectable, some id =>
      let port := ((n.cellar.copies.find? (·.id == id)).map (·.port)).getD 0
      n.when (n.heldFrames.any (·.1 == id)) fun n =>
        let n := n.dropCopies (·.id == id) fun _ n => n
        let part := ((n.cellar.lees.take n.cellar.releasing).filter (·.id == id)).length
        let n := { n with cellar := { n.cellar with
          lees := n.cellar.lees.filter (·.id != id)
          releasing := n.cellar.releasing - part } }
        n.bufferError (line / 2) port
    | _, _ => n

/-- LEES_RELEASE_FRAME (R228, R229): the oldest frame to be released passes step 4 again, its Casks held meanwhile (log entry 11). -/
def execLeesReleaseFrame (s : State) : Host.Outcome State Fault Refusal :=
  s.upd fun n => n.when (n.forwarding && n.cellar.releasing != 0) fun n =>
    match n.cellar.lees with
    | [] => { n with cellar := { n.cellar with releasing := 0 } }
    | h :: _ =>
      let n := { n with cellar := { n.cellar with releasing := n.cellar.releasing - 1 } }
      let n := n.lookup h true
      { n with cellar := { n.cellar with lees := removeFirst (· == h) n.cellar.lees } }

/-! ### Multidrop ports (R204 to R206) -/

/-- MD_COLLISION (R205): the copy goes back to the head of its queue with its count, or is discarded at the 16th. The draw from 0 to
2^k − 1 is a free value (log entry 4). -/
def execMdCollision (md : Fin 2) (s : State) : Host.Outcome State Fault Refusal :=
  s.upd fun n =>
    let p := 14 + md.val
    match n.sendingOn p with
    | none => n
    | some c =>
      let n := (n.setSending p none).count (CNT_COLL p)
      if 16 ≤ c.tries + 1 then ((n.count (CNT_EXCESS_COLL p)).raise 0x0307 [p]).released [c]
      else
        let r := (n.free 10).toNat % 2 ^ min (c.tries + 1) 10
        let n := { n.took with cellar := { n.cellar with copies := { c with tries := c.tries + 1 } :: n.cellar.copies } }
        n.setPort p fun q => { q with backoff := some r }

/-- MD_BACKOFF_END (R205, R206). -/
def execMdBackoffEnd (md : Fin 2) (s : State) : Host.Outcome State Fault Refusal :=
  s.upd fun n => n.setPort (14 + md.val) fun q => { q with backoff := none }

/-- LATE_COLLISION (R205). -/
def execLateCollision (md : Fin 2) (s : State) : Host.Outcome State Fault Refusal :=
  s.upd fun n =>
    let p := 14 + md.val
    match n.sendingOn p with
    | none => n
    | some c => (((n.setSending p none).count (CNT_LATE_COLL p)).raise 0x0308 [p]).released [c]

end Sys2Proof.Machine
end

