-- ==== Sys2Proof/Machine/Inaug.lean ====
section
/-! DEFINITION. The inauguration engine up to the decision of a topology commit (file 08 R213 to R235): lines and directions, the
connectivity table, speculation, train agreement, recompute. TOPOLOGY_COMMIT itself is in Topology.lean. -/

namespace Sys2Proof.Machine

/-! ### Tables -/

/-- The engine runs: in Run with a committed Vintage, on the active unit or a node without a partner (R233, R235). -/
def Node.inaLive (n : Node) : Bool := n.running && n.activeUnit
/-- The node address, unit 0's on both units of a pair (R181). -/
def Node.nodeMac (n : Node) : Mac :=
  if n.pair.enabled && n.rd F.RED_STATUS_UNIT == 1 then (n.vnt.unit0Mac).getD (Config.macBase + 16#48) else Config.macBase + 16#48
/-- A consist whose ETBN has not been heard yet (R224). -/
def unheard : ConsistInfo := ⟨0#48, false, false, false⟩
/-- Two entries agree in what makes a consist: its ETBN and its orientation. An unheard one agrees with any. -/
def sameConsist (a b : ConsistInfo) : Bool := a.mac == 0#48 || b.mac == 0#48 || (a.mac == b.mac && a.orient == b.orient)
/-- Two connectivity tables agree. Line presence is no part of the comparison (R217). -/
def sameTable (a b : List ConsistInfo) : Bool := a.length == b.length && (a.zip b).all fun e => sameConsist e.1 e.2
/-- The entries of `b`, or those of `a` where `b` has not heard the consist. -/
def mergeTable (a b : List ConsistInfo) : List ConsistInfo := (a.zip b).map fun e => if e.2.mac = 0#48 then e.1 else e.2
/-- Every consist of a table has been heard. -/
def allHeard (t : List ConsistInfo) : Bool := t.all (·.mac != 0#48)
/-- Index of the own consist in a table. -/
def Node.ownIndex (n : Node) (t : List ConsistInfo) : Option Nat := t.findIdx? (·.mac == n.nodeMac)
/-- The own orientation in a table (R236). -/
def Node.ownOrient (n : Node) (t : List ConsistInfo) : Bool := ((t.find? (·.mac == n.nodeMac)).map (·.orient)).getD false
/-- etbTopoCnt of a table (R225). -/
def topoCount (t : List ConsistInfo) : Word := Config.etbTopoCnt t

/-- What one consist coupled or uncoupled at one end makes of a table: coupled, and at end 2 (R223). -/
def Node.oneChange (n : Node) (old new : List ConsistInfo) : Option (Bool × Bool) :=
  match n.ownIndex old, n.ownIndex new with
  | some i, some j =>
    if new.length = old.length + 1 then
      if j = i + 1 ∧ sameTable new.tail old then some (true, false)
      else if j = i ∧ sameTable new.dropLast old then some (true, true) else none
    else if new.length + 1 = old.length then
      if j + 1 = i ∧ sameTable old.tail new then some (false, false)
      else if j = i ∧ sameTable old.dropLast new then some (false, true) else none
    else none
  | _, _ => none

/-- The first enabled variant of the tag in force for a change, with its index (R222, R223). -/
def Node.variantFor (n : Node) (k : Bool × Bool) : Option (Nat × GraftVariant) :=
  let tag := n.topoTag
  if tag = 0 then none
  else
    let l := (n.ina.variants.take (n.cf F.INA_CFG_VARIANT_COUNT)).zipIdx
    (l.find? fun e => e.1.source.val == tag && e.1.coupled == k.1 && e.1.atEnd2 == k.2).map fun e => (e.2, e.1)

/-! ### Banks of group 0x21 (R219, R221, R222, R224) -/

/-- Train address of host `h` of consist `c`; h = 0 gives the prefix (R219). -/
def trainIp (base shift c h : Nat) : Word := BitVec.ofNat 32 (base + c * 2 ^ shift + h)
/-- Mask of a consist's prefix (R219). -/
def prefixMask (shift : Nat) : Word := BitVec.ofNat 32 (2 ^ 32 - 2 ^ min shift 32)
/-- The next hop of a route: words 2 and 3 with a MAC put in. -/
def putHop (b : SMap Word) (i : Nat) (m : Mac) : SMap Word :=
  let w3 := (SMap.get resetWord b (0x21800C + 16 * i)).toNat
  SMap.set resetWord (SMap.set resetWord b (0x218008 + 16 * i) (m.extractLsb' 0 32)) (0x21800C + 16 * i)
    (BitVec.ofNat 32 (w3 / 65536 * 65536 + m.toNat / 2 ^ 32))
/-- The bank of a known topology with its open next hops filled from a table; those not heard stay open (R224). -/
def fillBank (k : KnownTopology) (t : List ConsistInfo) : SMap Word :=
  k.openHops.foldl (fun b e =>
    match t[e.2 - 1]? with
    | some c => if c.mac = 0#48 ∨ e.2 = 0 then b else putHop b e.1.val c.mac
    | none => b) (SMap.setAll resetWord [] k.bank)
/-- The bank the Vintner builds for a directory: own devices, the other consists, and the declared outside routes (R221). The spec does not place
the entries: translations stand in the Vintage's order from index 0, routes at the lowest indices that the outside routes leave free (DESIGN CHOICE,
log entry 48). -/
def Node.directoryBank (n : Node) (base shift : Nat) (t : List ConsistInfo) : SMap Word :=
  let own := (n.ownIndex t).getD 0 + 1
  let devs := n.ina.devices.zipIdx.flatMap fun e =>
    let a := 0x230000 + 16 * e.2
    [(a, e.1.localIp), (a + 4, trainIp base shift own e.1.host.toNat), (a + 8, e.1.mac.extractLsb' 0 32),
     (a + 12, BitVec.ofNat 32 (2 ^ 31 + e.1.vid.toNat * 65536 + e.1.mac.toNat / 2 ^ 32))]
  let used := n.ina.outside.map fun e => (e.1 - 0x218000) / 16
  let free := (List.range 256).filter fun i => !used.contains i
  let others := (t.zipIdx.filter fun e => e.2 + 1 != own).zip free
  let routes := others.flatMap fun e =>
    let a := 0x218000 + 16 * e.2
    [(a, trainIp base shift (e.1.2 + 1) 0), (a + 4, prefixMask shift), (a + 8, e.1.1.mac.extractLsb' 0 32),
     (a + 12, BitVec.ofNat 32 (2 ^ 31 + n.ina.backboneVid.toNat * 65536 + e.1.1.mac.toNat / 2 ^ 32))]
  SMap.setAll resetWord (SMap.setAll resetWord (SMap.setAll resetWord [] devs) routes) n.ina.outside
/-- The directory fits the tables of R173. -/
def Node.directoryFits (n : Node) (t : List ConsistInfo) : Bool :=
  decide (n.ina.devices.length ≤ 4096) &&
    decide (t.length - 1 + ((n.ina.outside.map fun e => (e.1 - 0x218000) / 16).eraseDups).length ≤ 256)
/-- The bank of a known topology for a table: the Vintage's own, filled, or one built anew where a commit of group 0x40 has moved the train addresses
that the Vintage's holds (R219, R221, R222). -/
def Node.shapeBank (n : Node) (k : KnownTopology) (t : List ConsistInfo) : SMap Word :=
  let base := n.cf F.NET_BASE_BASE
  let shift := n.cf F.ADDR_FMT_SUBNET_SHIFT
  if base = n.ina.netBase ∧ shift = n.ina.netShift then fillBank k t else n.directoryBank base shift t
/-- The known topology of a table's shape (R222, R230). -/
def Node.knownShape (n : Node) (t : List ConsistInfo) : Option KnownTopology :=
  n.ina.known.find? fun k => k.consists == t.length && k.own == (n.ownIndex t).getD 0 + 1 && k.orient == n.ownOrient t

/-! ### Lines and directions (R217, R237) -/

/-- Line `k` is up for the topology. -/
def Node.lineUp (n : Node) (k : Nat) : Bool := n.linkUp k && (n.line k).helloValid
/-- INA_STATUS bit of line `k`: D1_A, D1_B, D2_A, D2_B for BB0 to BB3. -/
def lineField (k : Nat) : Field := ⟨0x400000, 4 + k, 1, 4⟩
/-- Direction `d`, 0 or 1, is connected as INA_STATUS shows its lines. -/
def Node.dirUp (n : Node) (d : Nat) : Bool := n.bit (lineField (2 * d)) || n.bit (lineField (2 * d + 1))
/-- Set STATE of INA_STATUS. -/
def Node.inaState (n : Node) (v : Nat) : Node := n.wr F.INA_STATUS_STATE v
/-- The consist window's LINES of the own consist follow its lines at once. -/
def Node.ownLines (n : Node) : Node :=
  let c := n.rd F.INA_STATUS_OWN_NO
  n.when (c != 0) fun n =>
    let a := n.bit (lineField 0) || n.bit (lineField 2)
    let b := n.bit (lineField 1) || n.bit (lineField 3)
    n.wr (F.CON_LINES.at c) ((if a then 1 else 0) + (if b then 2 else 0))
/-- LINES as a consist's ETBN shows its lines. -/
def shownLines (c : ConsistInfo) : Nat := (if c.lineA then 1 else 0) + (if c.lineB then 2 else 0)
/-- LINES of another consist, from its ETBN's latest TTDP frame, which a later directory keeps (R237). -/
def Node.otherLines (n : Node) (info : ConsistInfo) : Node :=
  let n := { n with ina := { n.ina with heard := info :: n.ina.heard.filter (·.mac != info.mac) } }
  match n.ina.committed.findIdx? (·.mac == info.mac) with
  | some i => n.when (i + 1 != n.rd F.INA_STATUS_OWN_NO) (·.wr (F.CON_LINES.at (i + 1)) (shownLines info))
  | none => n

/-! ### Speculation (R223 to R227) -/

/-- The registers that show a running speculation (R63, R131, R224). -/
def Node.showSpec (n : Node) (target kind : Nat) (counter : Word) : Node :=
  let on := kind != 0
  let n := (n.wr F.TRL_STATUS_TOPO_SPEC target).wr F.INA_STATUS_SPEC_KIND kind
  let n := ((n.wrBit F.SWC_STATUS_SPEC on).wrBit F.PDF_STATUS_SPEC on).wrBit F.BLD_STATUS_SPEC on
  (n.wr F.SPEC_TOPO_CNT counter.toNat).setSpec (if on then 2 else 0) (if on then 310 else 0)
/-- SPEC_KIND of a variant (R236). -/
def variantKind (v : GraftVariant) : Nat :=
  (if v.coupled then 1 else 3) + (if v.atEnd2 then 1 else 0)
/-- Every frame then in the Lees queue is discarded, also one that still awaits its release (R27, R228), at stamp 0 where its egress stamp was asked
(R404). -/
def Node.freeLees (n : Node) : Node :=
  let gone := n.cellar.lees
  let n := { n with cellar := { n.cellar with lees := [], releasing := 0 } }
  (n.countBy CNT_LEES_DISCARD gone.length).each gone fun h n => match h.tsReq with
    | some r => n.stampEntry r 0
    | none => n
/-- The speculative bank and its registers go (R62). -/
def Node.endSpec (n : Node) : Node :=
  let n := { n with
    ina := { n.ina with spec := none }
    cellar := { n.cellar with specBank := none, specActive := false } }
  n.showSpec 0 0 0#32
/-- Drop the speculation, with the reason of event 0x0403 (R27, R226, R227, R235). -/
def Node.dropSpec (n : Node) (reason : Nat) : Node :=
  n.when n.ina.spec.isSome fun n =>
    let n := (n.freeLees).raise 0x0403 [reason]
    let n := n.endSpec
    Node.inaState { n with ina := { n.ina with owed := true } } 3

/-- Start a speculation (R224): load the target's bank, compute the predicted counter once every consist has been heard. -/
def Node.startSpec (n : Node) (index : Nat) (v : GraftVariant) (t : List ConsistInfo) (trigger leadNs : Nat) : Node :=
  match n.ina.known.find? (·.tag == v.target) with
  | none => n.inaState 3
  | some k =>
    let counter := if allHeard t then some (topoCount t) else none
    let sp : Speculation := ⟨v, t, counter, false, if leadNs < 10000 then 1 else 0⟩
    let n := { n with
      ina := { n.ina with spec := some sp }
      cellar := { n.cellar with specBank := some (n.shapeBank k t), specActive := false } }
    ((n.showSpec v.target (variantKind v) (counter.getD 0#32)).inaState 2).raiseAs true 0x0401 [index, trigger]

/-- The speculation learns what it had left open: next hops, and the predicted counter (R224). Its bank follows the values in force (R100). -/
def Node.refineSpec (n : Node) (t : List ConsistInfo) : Node :=
  match n.ina.spec with
  | none => n
  | some sp =>
    let p := if sp.counter.isSome then sp.predicted else mergeTable sp.predicted t
    let counter := match sp.counter with
      | some c => some c
      | none => if allHeard p then some (topoCount p) else none
    let bank := match n.ina.known.find? (·.tag == sp.variant.target) with
      | some k => some (n.shapeBank k p)
      | none => n.cellar.specBank
    let n := { n with
      ina := { n.ina with spec := some { sp with predicted := p, counter := counter } }
      cellar := { n.cellar with specBank := bank } }
    n.wr F.SPEC_TOPO_CNT (counter.getD 0#32).toNat

/-! ### Train agreement and recompute (R225, R226, R230, R231) -/

/-- Line timeout in ticks (R215). -/
def Node.lineTimeout (n : Node) : Nat := [300, 150, 60, 60].getD (n.cf F.INA_CFG_HELLO_SEL) 60 * 500000
/-- Every other ETBN of the node's table reports the node's own counter (R225). -/
def Node.agreed (n : Node) : Bool :=
  let t := n.ina.table
  allHeard t && (n.ownIndex t).isSome && t.all fun c => c.mac == n.nodeMac || n.ina.reports.any fun r =>
    r.mac == c.mac && r.counter == topoCount t && decide (n.now - r.stamp ≤ n.lineTimeout)

/-- A topology commit is decided (R226, R230). -/
def Node.decideCommit (n : Node) (c : TopoCommit) : Node :=
  Node.inaState { n with ina := { n.ina with decided := some c, recomputing := none } } 5

/-- Start a recompute (R230, R132): event, counter, and the edits of group 0x10 withdrawn, unless the host commits them (R100). -/
def Node.startRecompute (n : Node) : Node :=
  let t := n.ina.table
  let n := ((n.count CNT_RECOMPUTE).raise 0x0406 [(topoCount t).toNat]).inaState 4
  let n := { n with cellar := { n.cellar with recomputeDrop := true } }
  let known := n.knownShape t
  let n := n.when (n.dirty 0x10 && !n.groupLocked 0x10) fun n =>
    ((n.reloadGroup 0x10).setCode 0x10 7).raise 0x0107 []
  let c : TopoCommit := match known with
    | some k => ⟨k.tag, t, topoCount t, n.shapeBank k t, true, n.now, 0, []⟩
    | none => ⟨0, t, topoCount t, n.directoryBank (n.cf F.NET_BASE_BASE) (n.cf F.ADDR_FMT_SUBNET_SHIFT) t, true, n.now, 0, []⟩
  { n with ina := { n.ina with recomputing := some c, owed := true } }

/-- Act on train agreement where it is reached (R225, R226, R230). A failed recompute waits for a new agreement (R231). -/
def Node.settle (n : Node) : Node :=
  let i := n.ina
  if !n.inaLive || i.decided.isSome || i.recomputing.isSome || n.rd F.INA_STATUS_STATE == 6 || !n.agreed then n
  else
    match i.spec with
    | some sp =>
      if sameTable i.table i.committed then n
      else if sp.counter = some (topoCount i.table) then
        n.decideCommit ⟨sp.variant.target, i.table, topoCount i.table, (n.cellar.specBank).getD [], false, n.now, 1, []⟩
      else (n.dropSpec 2).startRecompute
    | none => n.when (i.first || i.owed || !sameTable i.table i.committed) (·.startRecompute)

/-! ### Changes of the connectivity table (R217, R223, R231, R235) -/

/-- The node's connectivity table becomes `t`, by trigger 1 or 2 of R223. -/
def Node.tableChange (n : Node) (t : List ConsistInfo) (trigger leadNs : Nat) : Node :=
  let n := { n with ina := { n.ina with table := t } }
  let i := n.ina
  if i.decided.isSome then n
  else if i.recomputing.isSome then
    Node.inaState { n with ina := { n.ina with recomputing := none, owed := true } } 3
  else
    match i.spec with
    | some sp => if sameTable t sp.predicted then n.refineSpec t else n.dropSpec 1
    | none =>
      if sameTable t i.committed then n.inaState (if i.first || i.owed then 3 else 1)
      else if i.first || i.owed then n.inaState 3
      else
        match (n.oneChange i.committed t).bind n.variantFor with
        | some (index, v) => n.startSpec index v t trigger leadNs
        | none => n.inaState 3

/-- The node's table learns consists it had not heard. -/
def Node.learnTable (n : Node) (t : List ConsistInfo) : Node :=
  Node.refineSpec { n with ina := { n.ina with table := mergeTable n.ina.table t } } t

/-- Direction `d` has become connected or unconnected (R217, R218, R223 trigger 1). -/
def Node.direction (n : Node) (d : Nat) (up : Bool) (leadNs : Nat) : Node :=
  let t := n.ina.table
  let atEnd2 := (d == 1) != n.ownOrient t
  match n.ownIndex t with
  | none => n
  | some i =>
    if up then
      if atEnd2 then n.when (i + 1 == t.length) (·.tableChange (t ++ [unheard]) 1 leadNs)
      else n.when (i == 0) (·.tableChange (unheard :: t) 1 leadNs)
    else
      let t' := if atEnd2 then t.take (i + 1) else t.drop i
      n.when (t'.length != t.length) (·.tableChange t' 1 leadNs)

/-- Bring the lines of INA_STATUS up to date, with event 0x0409 for each line that changes, then the directions (R217). -/
def Node.refreshLines (n : Node) (leadNs : Nat) : Node :=
  n.when n.inaLive fun n =>
    let was := n
    let n := n.each [0, 1, 2, 3] fun k n =>
      let up := n.lineUp k
      n.when (up != n.bit (lineField k)) fun n =>
        let n := n.when up (·.setLine k fun l => { l with fastLeft := 8 })
        (n.wrBit (lineField k) up).raise 0x0409 [k, if up then 1 else 0]
    let now := n
    let n := n.ownLines
    let n := n.each [0, 1] fun d n => n.when (was.dirUp d != now.dirUp d) (·.direction d (now.dirUp d) leadNs)
    n.settle

/-- The engine starts from the committed topology: at the first commit, or as the unit becomes active (R232, R233). -/
def Node.startInaug (n : Node) : Node :=
  n.when n.inaLive fun n =>
    let n := { n with ina := { n.ina with table := n.ina.committed, spec := none, recomputing := none, decided := none } }
    let lead := SchedBank.baseNs n.cf
    let n := n.refreshLines lead
    let n := n.each [0, 1] fun d n => n.when (!n.dirUp d) (·.direction d false lead)
    n.settle
/-- The start shape: the own consist alone (R232). -/
def Node.startShape (n : Node) : List ConsistInfo :=
  let o := ((n.ina.known.find? (·.tag == n.ina.start)).map (·.orient)).getD false
  [⟨n.nodeMac, o, true, true⟩]

/-! ### Commands -/

/-- The new neighbour on line `k`, whose ETBN had not been heard, reports itself (R224). -/
def Node.hearNew (n : Node) (k : Nat) (c : ConsistInfo) : Node :=
  let t := n.ina.table
  let atEnd2 := decide (2 ≤ k) != n.ownOrient t
  match n.ownIndex t with
  | none => n
  | some i =>
    let j := if atEnd2 then i + 1 else i - 1
    let open_ := (t[j]?).any (·.mac == 0#48) && (atEnd2 || decide (0 < i)) && c.mac != n.nodeMac && c.mac != 0#48
    n.when open_ (·.learnTable (t.set j c))
/-- A HELLO on line `k` (R217, R224). -/
def Node.hello (n : Node) (k : Nat) (mac : Mac) (info : Option ConsistInfo) (leadNs : Nat) : Node :=
  let n := (n.setLine k fun l => { l with helloValid := true, neighbour := mac }).refreshLines leadNs
  n.when n.inaLive fun n =>
    match info with
    | none => n
    | some c => ((n.otherLines c).hearNew k c).settle

/-- A TOPOLOGY frame on line `k` (R214, R223, R225). One whose table lacks the own consist still tells of its sender (R224). -/
def Node.topology (n : Node) (k : Nat) (mac : Mac) (t : List ConsistInfo) (counter : Word) (leadNs : Nat) : Node :=
  n.when n.inaLive fun n =>
    if 63 < t.length then (n.count CNT_TTDP_ERR).raise 0x040A [t.length]
    else
      let reports := ⟨mac, counter, n.now⟩ :: n.ina.reports.filter (·.mac != mac)
      let n := { n with ina := { n.ina with reports := reports } }
      let n := match t.find? (·.mac == mac) with
        | some c => n.otherLines c
        | none => n
      let n :=
        if (n.ownIndex t).isNone then
          match t.find? (·.mac == mac) with
          | some c => n.hearNew k c
          | none => n
        else if sameTable t n.ina.table && allHeard t then n.learnTable t
        else if sameTable t n.ina.committed then n
        else n.tableChange t 2 leadNs
      n.settle

/-- TTDP_FRAME_RECEIVED (R216). -/
def execTtdpFrameReceived (line : Fin 4) (msg : TtdpMsg) (leadNs : Nat) (s : State) : Host.Outcome State Fault Refusal :=
  s.upd fun n => n.when (n.forwarding && n.linkUp line) fun n =>
    match msg with
    | .hello mac info ok => if ok then n.hello line mac info leadNs else n.count CNT_TTDP_ERR
    | .topology mac t counter ok => if ok then n.topology line mac t counter leadNs else n.count CNT_TTDP_ERR

/-- LINE_TIMEOUT (R217). -/
def execLineTimeout (line : Fin 4) (leadNs : Nat) (s : State) : Host.Outcome State Fault Refusal :=
  s.upd fun n => (n.setLine line fun l => { l with helloValid := false }).refreshLines leadNs

/-- Send a TTDP frame on a backbone line, at queue 7 (R215, R216). HELLO comes from the port address (R181). -/
def Node.sendTtdp (n : Node) (k : Nat) (hello : Bool) : Node :=
  let lines := BitVec.ofNat 4 (n.rd ⟨0x400000, 4, 4, 4⟩)
  n.queueAt k 7 18 7 (Config.ttdpFrame hello (if hello then portMac k else n.nodeMac) lines n.ina.table (topoCount n.ina.table))

/-- TTDP_HELLO_TX (R215). -/
def execTtdpHelloTx (line : Fin 4) (s : State) : Host.Outcome State Fault Refusal :=
  s.upd fun n => n.when (n.inaLive && n.linkUp line) fun n =>
    (n.setLine line fun l => { l with fastLeft := l.fastLeft - 1 }).sendTtdp line true
/-- TTDP_TOPOLOGY_TX (R215). -/
def execTtdpTopologyTx (line : Fin 4) (s : State) : Host.Outcome State Fault Refusal :=
  s.upd fun n => n.when (n.inaLive && n.linkUp line) (·.sendTtdp line false)

/-- SPECULATION_TIMEOUT (R227). -/
def execSpeculationTimeout (s : State) : Host.Outcome State Fault Refusal :=
  s.upd fun n => n.when (n.inaLive && n.ina.decided.isNone) fun n => (n.dropSpec 3).settle

/-- The recomputed entries stand in the shadow bank of group 0x10, unless a host commit holds it (R132). -/
def Node.putSchedule (n : Node) (words : List (Nat × Word)) : Node := n.when (!n.groupLocked 0x10) (·.putShadows words)
/-- RECOMPUTE_VALIDATED (R230): the commit waits for its base-cycle start; less than 10 µs before one, for the next (R96). `entries` are the words of
group 0x10 that the Vintner has recomputed where no shape matches (R132). -/
def execRecomputeValidated (leadNs : Nat) (entries : List (Nat × Word)) (s : State) : Host.Outcome State Fault Refusal :=
  s.upd fun n =>
    match n.ina.recomputing with
    | some c => n.when (n.inaLive && (c.tag != 0 || n.directoryFits c.table)) fun n =>
        let words := if c.tag = 0 then entries.filter fun e => groupOf e.1 == 0x10 else []
        (n.putSchedule words).decideCommit { c with skip := if leadNs < 10000 then 2 else 1, schedule := words }
    | none => n

/-- RECOMPUTE_FAIL (R231): by capacity, or 150 ms after train agreement. -/
def execRecomputeFail (capacity : Bool) (s : State) : Host.Outcome State Fault Refusal :=
  s.upd fun n => n.when (n.ina.recomputing.isSome || (!capacity && n.ina.decided.any (·.recompute))) fun n =>
    let n := { n with ina := { n.ina with recomputing := none, decided := none, owed := true } }
    ((n.inaState 6).raise 0x0407 [if capacity then 1 else 0]).addFault .recompute

/-- Topology state that is lost without event 0x0403: a reset of the islands, or the loss of the active role (R60, R235). -/
def Node.loseTopology (n : Node) : Node :=
  let n := { n with ina := { n.ina with spec := none, recomputing := none, decided := none } }
  let n := n.when n.cellar.specBank.isSome Node.freeLees
  n.endSpec

/-! ### The directory (R220, R237) -/

/-- The device entries of a directory: those of the own consist in the Vintage's order, then those of the others in train order, as far as the window
holds them (R220; DESIGN CHOICE, log entry 57): TRAIN_IP, LOCAL_IP, MAC, own, consist. -/
def Node.deviceList (n : Node) (t : List ConsistInfo) : List (Ip × Ip × Mac × Bool × Nat) :=
  let base := n.cf F.NET_BASE_BASE
  let shift := n.cf F.ADDR_FMT_SUBNET_SHIFT
  let own := (n.ownIndex t).getD 0 + 1
  let mine := n.ina.devices.map fun d => (trainIp base shift own d.host.toNat, d.localIp, d.mac, true, own)
  let others := (t.zipIdx.filter fun e => e.2 + 1 != own).flatMap fun e =>
    (((n.ina.foreign.find? (·.1 == e.1.mac)).map (·.2)).getD []).map fun d => (trainIp base shift (e.2 + 1) d.1, 0#32, d.2, false, e.2 + 1)
  (mine ++ others).take 4096
/-- Put the committed directory in its windows (R220, R237). LINES of another consist is what its ETBN last showed. -/
def Node.writeDirectory (n : Node) (t : List ConsistInfo) : Node :=
  let base := n.cf F.NET_BASE_BASE
  let shift := n.cf F.ADDR_FMT_SUBNET_SHIFT
  let list := n.deviceList t
  let n := n.resetWords fun a => decide (0x410000 ≤ a) && decide (a < 0x430000)
  let consists := t.zipIdx.flatMap fun e =>
    let c := e.2 + 1
    let a := 0x410000 + 16 * c
    let seen := (n.ina.heard.find? (·.mac == e.1.mac)).getD e.1
    let w1 := 2 ^ 31 + (if e.1.orient then 2 ^ 30 else 0) + shownLines seen * 2 ^ 16 + e.1.mac.toNat / 2 ^ 32
    [(a, e.1.mac.extractLsb' 0 32), (a + 4, BitVec.ofNat 32 w1), (a + 8, trainIp base shift c 0),
     (a + 12, BitVec.ofNat 32 (list.filter fun d => d.2.2.2.2 == c).length)]
  let devices := list.zipIdx.flatMap fun e =>
    let a := 0x420000 + 16 * e.2
    let d := e.1
    [(a, d.1), (a + 4, d.2.1), (a + 8, d.2.2.1.extractLsb' 0 32),
     (a + 12, BitVec.ofNat 32 (2 ^ 31 + (if d.2.2.2.1 then 2 ^ 30 else 0) + d.2.2.2.2 * 2 ^ 24 + d.2.2.1.toNat / 2 ^ 32))]
  ((n.putWords consists).putWords devices).ownLines

/-- Consist information from another consist: its devices are written into the directory (R220). -/
def Node.consistHeard (n : Node) (t : Telegram) : Node :=
  match Config.consistInfo t with
  | none => n
  | some (mac, devices) => n.when (mac != n.nodeMac) fun n =>
      let n := { n with ina := { n.ina with foreign := (mac, devices) :: n.ina.foreign.filter (·.1 != mac) } }
      n.when (n.ina.committed.any (·.mac == mac)) fun n => n.writeDirectory n.ina.committed

end Sys2Proof.Machine
end

