-- ==== Sys2Proof/Machine/Pdf.lean ====
section
/-! DEFINITION. Process-data flows and message sessions (file 09). -/

namespace Sys2Proof.Machine

/-! ### Where the engine stands -/

/-- The engine works: a Vintage is in force, and neither the Cellar island, which it lies in, nor its own block is in reset (R12, R70, R250). -/
def Node.pdfLive (n : Node) : Bool := n.running && !n.blockHeld 5
/-- Indices of the entries of a table, `stride` bytes each, whose VALID bit (bit 31 of word 0) is set in force. -/
def Node.validIn (n : Node) (base stride count : Nat) : List Nat :=
  n.store.force.filterMap fun e =>
    if base ≤ e.1 ∧ e.1 < base + stride * count ∧ (e.1 - base) % stride = 0 ∧ e.2.getLsbD 31 then some ((e.1 - base) / stride) else none
/-- Flow contexts, and message sessions, whose VALID bit is set (R265). -/
def Node.flowsInUse (n : Node) : List Nat := n.validIn 0x510000 32 1024
def Node.sessionsInUse (n : Node) : List Nat := n.validIn 0x520000 32 256

/-! ### Addresses (R247) -/

/-- A six-bit field as a signed number. -/
def signed6 (v : Nat) : Int := if 32 ≤ v then (v : Int) - 64 else v
/-- The address that an ADDR_MODE, a CONSIST and a PEER_IP resolve to in the committed directory; none where the consist is absent. -/
def Node.resolve (n : Node) (mode consist peer : Nat) : Option Ip :=
  let total := n.rd F.INA_STATUS_CONSISTS
  let c : Int :=
    if mode = 1 then n.rd F.INA_STATUS_OWN_NO + signed6 consist
    else if mode = 2 then consist else (total : Int) - consist + 1
  if mode = 0 then some (BitVec.ofNat 32 peer)
  else if 1 ≤ c ∧ c ≤ total then some (trainIp (n.cf F.NET_BASE_BASE) (n.cf F.ADDR_FMT_SUBNET_SHIFT) c.toNat (peer % 2 ^ 20))
  else none
/-- The address of a flow context's peer. -/
def Node.flowPeer (n : Node) (i : Nat) : Option Ip :=
  n.resolve (n.cf (F.CTX_ADDR_MODE.at i)) (n.cf (F.CTX_CONSIST.at i)) (n.cf (F.CTX_PEER_IP.at i))
/-- The address of a session's peer. -/
def Node.sessionPeer (n : Node) (k : Nat) : Option Ip :=
  let m := n.cf (F.SES_ADDR_MODE_CONSIST.at k)
  n.resolve (m / 64) (m % 64) (n.cf (F.SES_PEER_IP.at k))

/-- The consist number of a train address of R219, if it is one: its host part runs from 1 to 2^SUBNET_SHIFT − 2. -/
def Node.trainConsist (n : Node) (ip : Ip) : Option Nat :=
  let base := n.cf F.NET_BASE_BASE
  let size := 2 ^ n.cf F.ADDR_FMT_SUBNET_SHIFT
  let c := (ip.toNat - base) / size
  let h := (ip.toNat - base) % size
  if base ≤ ip.toNat ∧ 1 ≤ c ∧ c ≤ 63 ∧ 1 ≤ h ∧ h + 2 ≤ size then some c else none
/-- The destination MAC of an address, by the three steps of R247. -/
def Node.macFor (n : Node) (ip : Ip) : Option Mac :=
  let own := n.rd F.INA_STATUS_OWN_NO
  let isOwn := fun (d : DeviceInfo) =>
    d.localIp == ip || (own != 0 && trainIp (n.cf F.NET_BASE_BASE) (n.cf F.ADDR_FMT_SUBNET_SHIFT) own d.host.toNat == ip)
  if isMulticast ip then some (ipGroupMac ip)
  else
    match n.ina.devices.find? isOwn with
    | some d => some d.mac
    | none =>
      match n.trainConsist ip with
      | some c => if c ≠ own ∧ c ≤ n.rd F.INA_STATUS_CONSISTS then some n.routerMac else none
      | none => none

/-! ### Activity and inheritance (R246, R247, R256) -/

/-- A context whose TOPO admits the tag in force. -/
def Node.flowInTag (n : Node) (i : Nat) : Bool := n.cf (F.CTX_TOPO.at i) == 0 || n.cf (F.CTX_TOPO.at i) == n.topoTag
/-- The three conditions of R246. -/
def Node.flowShould (n : Node) (i : Nat) : Bool := n.cfBit (F.CTX_VALID.at i) && n.flowInTag i && (n.flowPeer i).isSome
/-- ACTIVE of a context. -/
def Node.flowActive (n : Node) (i : Nat) : Bool := n.bit (F.CST_ACTIVE.at i)

/-- INHERIT links with INHERIT_EN set between contexts in use. -/
def Node.inheritLinks (n : Node) (used : List Nat) : List (Nat × Nat) :=
  used.filterMap fun i =>
    let j := n.cf (F.CTX_INHERIT.at i)
    if n.cfBit (F.CTX_INHERIT_EN.at i) ∧ j ∈ used then some (i, j) else none
/-- What links join to a set, in `k` rounds. Validation admits at most fifteen members, one for each tag (R256). -/
def joined (links : List (Nat × Nat)) : Nat → List Nat → List Nat
  | 0, l => l
  | k + 1, l => joined links k ((l ++ links.filterMap fun e =>
      if e.1 ∈ l then some e.2 else if e.2 ∈ l then some e.1 else none).eraseDups)

/-- Context `i` becomes active: from the member of its inheritance group active until now, or fresh (R256). Its run of valid telegrams begins anew
(R259). -/
def Node.activate (n before : Node) (used : List Nat) (i : Nat) : Node :=
  let grp := joined (n.inheritLinks used) 16 [i]
  let from_ := if n.cfBit (F.CTX_INHERIT_EN.at i) then grp.find? fun j => j != i && before.flowActive j else none
  let n := n.wrBit (F.CST_ACTIVE.at i) true
  match from_ with
  | some j =>
    let n := n.putWord (F.CST_SEQ.at i).addr (before.word (F.CST_SEQ.at j).addr)
    let n := n.putWord (F.CST_SRC_IP.at i).addr (before.word (F.CST_SRC_IP.at j).addr)
    let n := [F.CST_TIMED_OUT, F.CST_NEVER, F.CST_SDT_OK, F.CST_FRONT].foldl (fun n f => n.wr (f.at i) (before.rd (f.at j))) n
    n.setFlow i fun s => { s with since := (before.flow j).since, validRun := 0 }
  | none =>
    let n := [F.CST_TIMED_OUT, F.CST_NEW, F.CST_SDT_OK].foldl (fun n f => n.wr (f.at i) 0) n
    (n.wrBit (F.CST_NEVER.at i) true).setFlow i fun s => { s with since := some n.now, validRun := 0 }

/-- A commit, of group 0x51 or of a topology: activity is evaluated anew, and event 0x0504 is recorded once if a peer consist is absent
(R246, R247). -/
def Node.reactivate (n : Node) : Node :=
  let before := n
  let used := n.flowsInUse
  let idle := (List.range 1024).filter fun i => before.flowActive i && !n.flowShould i
  let n := n.each idle fun i n => n.wrBit (F.CST_ACTIVE.at i) false
  let n := n.each used fun i n =>
    let n := n.setFlow i fun s => { s with staleSeen := false, noMacSeen := false }
    n.when (n.flowShould i && !before.flowActive i) (·.activate before used i)
  let n := n.wr F.PDF_STATUS_ACTIVE ((List.range 1024).filter n.flowActive).length
  match used.find? fun i => n.flowInTag i && (n.flowPeer i).isNone with
  | some i => n.raise 0x0504 [i]
  | none => n

/-- AGE in µs, saturating (R245). -/
def Node.flowAge (n : Node) (i : Nat) : Nat :=
  match (n.flow i).since with
  | some t => min ((n.now - t) / 500) 0xFFFFFFFF
  | none => 0

/-! ### Buffers (R242) -/

/-- Home address of the dataset memory. -/
def datasetBase : Nat := 0x30000000
/-- Address of buffer `b` of a context. -/
def Node.flowBuffer (n : Node) (i b : Nat) : Nat :=
  datasetBase + 64 * (n.cf (F.CTX_DS_BASE.at i) + b * ((n.cf (F.CTX_DS_LEN.at i) + 63) / 64))
/-- Address of the front, and of the back buffer. -/
def Node.frontBuffer (n : Node) (i : Nat) : Nat := n.flowBuffer i (n.rd (F.CST_FRONT.at i))
def Node.backBuffer (n : Node) (i : Nat) : Nat := n.flowBuffer i (1 - n.rd (F.CST_FRONT.at i))
/-- The engine reaches the dataset memory by its slots of the fabric (R140). Without a slot each of its requests fails (R142): all ones are read,
nothing is written, and the failure is counted (R16). -/
def Node.dsAsk (n : Node) (len : Nat) : Node := n.when (len != 0 && !n.ownsSlot 2) Node.xabort
def Node.dsBytes (n : Node) (a len : Nat) : List Byte := if n.ownsSlot 2 then n.bytes a len else List.replicate len 0xFF#8
def Node.dsPut (n : Node) (a : Nat) (bs : List Byte) : Node := if n.ownsSlot 2 then n.putBytes a bs else n.dsAsk bs.length
/-- The dataset that the engine reads for a telegram. -/
def Node.sentData (n : Node) (i : Nat) : List Byte := n.dsBytes (n.frontBuffer i) (n.cf (F.CTX_DS_LEN.at i))
/-- The dataset readers see. -/
def Node.frontData (n : Node) (i : Nat) : List Byte := n.bytes (n.frontBuffer i) (n.cf (F.CTX_DS_LEN.at i))
/-- The writer has filled the back buffer: the buffers are exchanged and NEW is set. -/
def Node.exchange (n : Node) (i : Nat) : Node :=
  let n := n.wr (F.CST_FRONT.at i) (1 - n.rd (F.CST_FRONT.at i))
  ((n.wrBit (F.CST_NEW.at i) true).wrBit (F.CST_NEVER.at i) false).setFlow i fun s => { s with since := some n.now }

/-! ### Topology counters (R254, R255) -/

/-- The counters a telegram carries under a CNT_MODE. -/
def Node.countersFor (n : Node) (mode : Nat) : Word × Word :=
  if mode = 2 then (0#32, 0#32)
  else (n.word 0x500004, if mode = 1 then 0#32 else n.forceWord 0x50000C)
/-- Both counters of a received telegram are accepted. -/
def Node.countersOk (n : Node) (mode : Nat) (strict : Bool) (etb op : Word) : Bool :=
  let zero := fun (v : Word) => v == 0#32 && !strict
  let spec := n.word 0x400008
  mode == 2 ||
    ((etb == n.word 0x500004 || (n.rd F.PDF_STATUS_GRACE != 0 && etb == n.word 0x500008) || (spec != 0#32 && etb == spec) || zero etb) &&
     (op == n.forceWord 0x50000C || (n.rd F.PDF_STATUS_OP_GRACE != 0 && op == n.word 0x500010) || zero op))

/-! ### Frames (R241, R247) -/

/-- Bytes around a dataset: process data, or message data (R241). -/
def telegramBytes (md : Bool) (len : Nat) : Nat := (if md then 166 else 90) + len
/-- The frame of a telegram. -/
def Node.telegramFrame (n : Node) (t : Telegram) (mac : Mac) (vid pcp : Nat) (md : Bool) : Frame where
  dst := mac
  src := n.nodeMac
  tag := some ⟨BitVec.ofNat 12 vid, BitVec.ofNat 3 pcp, false⟩
  etype := 0x0800#16
  len := telegramBytes md t.dsLen
  body := .ipv4 { src := t.src, dst := t.dst, proto := 17#8, ttl := Config.trdpTtl, ihl := 5#4, checksumOk := true, fragOfs := 0#13,
                  srcPort := Config.trdpPort, dstPort := if md then 17225#16 else 17224#16, l4sum := Config.trdpSum t }
  data := Config.trdpBytes t

/-- The node's own address in telegrams, PD_LOCAL_IP (R248). -/
def Node.localIp (n : Node) : Ip := n.forceWord 0x500014
/-- A process-data telegram of context `i`, with the fields it shares. -/
def Node.flowTelegram (n : Node) (i : Nat) (kind : TrdpType) (dst : Ip) (comId : Word) (data : List Byte) : Telegram :=
  let c := n.countersFor (n.cf (F.CTX_CNT_MODE.at i))
  { msgType := kind, version := 1#8, headerOk := true, frameLongEnough := true, src := n.localIp, dst := dst, comId := comId,
    seq := n.word (F.CST_SEQ.at i).addr, etbTopo := c.1, opTopo := c.2, dsLen := data.length, data := data, replyComId := 0#32,
    replyIp := 0#32, sessionId := 0#128 }

/-- A destination without MAC: counted, and recorded once for the context since the last commit (R247). -/
def Node.noMac (n : Node) (i : Nat) : Node :=
  let n := n.count CNT_PD_NO_MAC
  n.when (!(n.flow i).noMacSeen) fun n => (n.setFlow i fun s => { s with noMacSeen := true }).raise 0x0506 [i]

/-- Hand a telegram of context `i` to PP and count it. A standby unit builds it and discards it (R250). -/
def Node.handOver (n : Node) (i : Nat) (t : Telegram) (mac : Mac) : Node :=
  n.when n.activeUnit fun n =>
    (n.count CNT_PD_TX).inject 17 (n.telegramFrame t mac (n.cf (F.CTX_VID.at i)) (n.cf (F.CTX_PCP.at i)) false)

/-! ### SDTv2 (R258, R259) -/

/-- A context's parameter entry. -/
def Node.sdtEntry (n : Node) (i : Nat) : Nat := n.cf (F.CTX_SDT_PAR.at i)
/-- The SID, with an opTrnTopoCnt. -/
def Node.sid (n : Node) (i : Nat) (op : Word) : Word := Config.sdtSid (n.forceWord (F.SDT_SMI.at (n.sdtEntry i)).addr) (BitVec.ofNat 128 (leNat n.vnt.uuid)) op
/-- Fill the trailer in the front buffer. -/
def Node.fillTrailer (n : Node) (i : Nat) : Node :=
  n.when (n.cfBit (F.CTX_SDT_EN.at i)) fun n =>
    let len := n.cf (F.CTX_DS_LEN.at i)
    let n := n.setFlow i fun s => { s with safeSeq := (s.safeSeq + 1) % 2 ^ 32 }
    let seq := BitVec.ofNat 32 (n.flow i).safeSeq
    let udv := BitVec.ofNat 16 (n.cf (F.SDT_UDV.at (n.sdtEntry i)))
    let code := Config.sdtCode (n.sid i (n.forceWord 0x50000C)) ((n.sentData i).take (len - 16)) udv seq
    n.dsPut (n.frontBuffer i + (len - 16)) (natBe (Config.sdtTrailer udv seq code).toNat 16)
/-- The check of R259 that a dataset fails: 1 code, 2 user data version, 3 sequence counter; 0 for none. -/
def Node.sdtFails (n : Node) (i : Nat) (data : List Byte) : Nat :=
  let v := data.length - 16
  let tr := BitVec.ofNat 128 (beNat (data.drop v))
  let udv := Config.sdtUdvOf tr
  let seq := Config.sdtSeqOf tr
  let ok := fun (op : Word) => Config.sdtCodeOf tr == Config.sdtCode (n.sid i op) (data.take v) udv seq
  if !(ok (n.forceWord 0x50000C) || (n.rd F.PDF_STATUS_OP_GRACE != 0 && ok (n.word 0x500010))) then 1
  else if udv.toNat ≠ n.cf (F.SDT_UDV.at (n.sdtEntry i)) then 2
  else if seq.toNat ≤ (n.flow i).safeSeq then 3 else 0
/-- The sequence counter of a dataset's trailer. -/
def trailerSeq (data : List Byte) : Nat := (Config.sdtSeqOf (BitVec.ofNat 128 (beNat (data.drop (data.length - 16))))).toNat

/-! ### Publishing (R248, R249) -/

/-- The dataset of a compared context enters the output digest as built (R452). -/
def Node.digestSet (n : Node) (i : Nat) (data : List Byte) : Node :=
  n.when (n.cfBit (F.CTX_COMPARED.at i)) fun n =>
    { n with pair := { n.pair with digestSets := SMap.set (fun _ => []) n.pair.digestSets i data } }

/-- A publisher sends its telegram (R248). -/
def Node.publish (n : Node) (entry i : Nat) : Node :=
  if n.bit (F.CST_NEVER.at i) && n.cf (F.CTX_DS_LEN.at i) != 0 then n.count CNT_PD_NOT_READY
  else
    match n.flowPeer i with
    | none => n
    | some dst =>
      match n.macFor dst with
      | none => n.noMac i
      | some mac =>
        let n := ((n.incr (F.CST_SEQ.at i)).dsAsk (n.cf (F.CTX_DS_LEN.at i))).fillTrailer i
        let t := n.flowTelegram i .pd dst (n.forceWord (F.CTX_COM_ID.at i).addr) (n.sentData i)
        ((n.digestSet i t.data).handOver i t mac).occupy entry 2

/-- A pull requester sends its Pr. What it writes into replyComId and replyIpAddress its context does not say: free values. -/
def Node.pull (n : Node) (i : Nat) : Node :=
  match n.flowPeer i with
  | none => n
  | some dst =>
    match n.macFor dst with
    | none => n.noMac i
    | some mac =>
      let n := n.incr (F.CST_SEQ.at i)
      let t := { n.flowTelegram i .pr dst (n.forceWord (F.CTX_COM_ID.at i).addr) [] with
                 replyComId := n.free 32, replyIp := n.took.free 32 }
      n.took.took.handOver i t mac

/-- PD_TX (R248, R249, R119): an inactive context sends nothing. -/
def execPdTx (entry : Nat) (s : State) : Host.Outcome State Fault Refusal :=
  s.upd fun n => n.startAction entry 2 fun n =>
    let i := n.targetOf entry
    if !n.flowActive i then n.count CNT_PD_INACTIVE
    else if n.cf (F.CTX_ROLE.at i) = 0 then n.publish entry i
    else if n.cf (F.CTX_ROLE.at i) = 2 then (n.pull i).occupy entry 2
    else n

/-- PULL for a context: an inactive one sends nothing (R249). -/
def Node.msgPull (n : Node) (i : Nat) : Node := n.when (n.pdfLive && n.flowActive i && n.cf (F.CTX_ROLE.at i) == 2) (·.pull i)
/-- MSG_CMD_PULL (R249). -/
def execMsgCmdPull (by_ : Initiator) (ctx : Fin 1024) (s : State) : Host.Outcome State Fault Refusal :=
  s.upd fun n => n.access by_ 5 (·.msgPull ctx)

/-! ### Receiving (R240, R241, R251 to R253) -/

/-- The engine takes a telegram with this destination (R241). -/
def Node.takes (n : Node) (t : Telegram) : Bool := n.pdfLive && (t.dst == n.localIp || isMulticast t.dst)
/-- Check 1 of R251; Pe counts as a header error (R240). -/
def badHeader (t : Telegram) : Bool :=
  !t.headerOk || t.version != 1#8 || t.msgType == .pe || t.msgType == .unknown
/-- The context a Pd or Pp belongs to (R251). -/
def Node.subscriberOf (n : Node) (t : Telegram) : Option Nat :=
  let same := n.flowsInUse.filter fun i =>
    n.flowActive i && n.cf (F.CTX_ROLE.at i) == 1 && n.forceWord (F.CTX_COM_ID.at i).addr == t.comId
  match same.find? fun i => n.flowPeer i == some t.src with
  | some i => some i
  | none => same.find? fun i => n.cf (F.CTX_ADDR_MODE.at i) == 0 && n.cf (F.CTX_PEER_IP.at i) == 0
/-- A stale counter: counted, and recorded for the first telegram of a context since the last commit (R255). -/
def Node.stale (n : Node) (i : Nat) : Node :=
  let n := n.count CNT_TOPO_STALE
  n.when (!(n.flow i).staleSeen) fun n => (n.setFlow i fun s => { s with staleSeen := true }).raise 0x0503 [i]
/-- A failed SDTv2 check (R259). -/
def Node.sdtFailed (n : Node) (i why : Nat) : Node :=
  let n := n.count CNT_SDT_ERR
  let n := n.when (!(n.flow i).failRun) fun n => (n.wrBit (F.CST_SDT_OK.at i) false).raise 0x0505 [i, why]
  n.setFlow i fun s => { s with failRun := true, validRun := 0 }
/-- A passed SDTv2 check: SDT_OK sets after RXSAFE + 1 of them (R259). -/
def Node.sdtPassed (n : Node) (i : Nat) (data : List Byte) : Node :=
  let n := n.setFlow i fun s => { s with failRun := false, validRun := s.validRun + 1, safeSeq := trailerSeq data }
  n.when (decide (n.cf (F.SDT_RXSAFE.at (n.sdtEntry i)) < (n.flow i).validRun)) (·.wrBit (F.CST_SDT_OK.at i) true)
/-- An accepted telegram is stored (R252, R253). -/
def Node.acceptPd (n : Node) (i : Nat) (t : Telegram) : Node :=
  let n := (n.dsPut (n.backBuffer i) (t.data.take t.dsLen)).exchange i
  let n := ((n.putWord (F.CST_SEQ.at i).addr t.seq).putWord (F.CST_SRC_IP.at i).addr t.src).count CNT_PD_RX
  n.when (n.bit (F.CST_TIMED_OUT.at i)) fun n => (n.wrBit (F.CST_TIMED_OUT.at i) false).raise 0x0502 [i]

/-- PD_RECEIVED (R251, R252): a Pd or Pp at PP. -/
def execPdReceived (t : Telegram) (s : State) : Host.Outcome State Fault Refusal :=
  s.upd fun n => n.when (n.takes t && [TrdpType.pd, .pp, .pe, .unknown].contains t.msgType) fun n =>
    if badHeader t then n.count CNT_PD_HDR_ERR
    else
      match n.subscriberOf t with
      | none => n.count CNT_PD_NO_CTX
      | some i =>
        if t.dsLen ≠ n.cf (F.CTX_DS_LEN.at i) ∨ t.frameLongEnough = false ∨ t.data.length ≠ t.dsLen then n.count CNT_PD_LEN_ERR
        else if !n.countersOk (n.cf (F.CTX_CNT_MODE.at i)) (n.cfBit (F.CTX_STRICT.at i)) t.etbTopo t.opTopo then n.stale i
        else if t.seq == n.word (F.CST_SEQ.at i).addr && t.src == n.word (F.CST_SRC_IP.at i).addr then
          n.count CNT_PD_DUP
        else if n.cfBit (F.CTX_SDT_EN.at i) then
          (if n.sdtFails i t.data = 0 then (n.sdtPassed i t.data).acceptPd i t else n.sdtFailed i (n.sdtFails i t.data))
        else n.acceptPd i t

/-- A context answers a Pr with a Pp (R249). -/
def Node.answerPull (n : Node) (i : Nat) (t : Telegram) : Node :=
  let dst := if t.replyIp = 0#32 then t.src else t.replyIp
  let comId := if t.replyComId = 0#32 then n.forceWord (F.CTX_COM_ID.at i).addr else t.replyComId
  if !n.countersOk (n.cf (F.CTX_CNT_MODE.at i)) (n.cfBit (F.CTX_STRICT.at i)) t.etbTopo t.opTopo then n.stale i
  else
    match n.macFor dst with
    | none => n.noMac i
    | some mac =>
      let n := (n.incr (F.CST_SEQ.at i)).dsAsk (n.cf (F.CTX_DS_LEN.at i))
      n.handOver i (n.flowTelegram i .pp dst comId (n.sentData i)) mac

/-- PULL_REQUEST_RECEIVED (R249): every matching responder and pull-enabled publisher answers. -/
def execPullRequestReceived (t : Telegram) (s : State) : Host.Outcome State Fault Refusal :=
  s.upd fun n => n.when (n.takes t && t.msgType == .pr) fun n =>
    if badHeader t then n.count CNT_PD_HDR_ERR
    else
      let hits := n.flowsInUse.filter fun i =>
        n.flowActive i && n.forceWord (F.CTX_COM_ID.at i).addr == t.comId &&
          (n.cf (F.CTX_ROLE.at i) == 3 || (n.cf (F.CTX_ROLE.at i) == 0 && n.cfBit (F.CTX_PULL_EN.at i)))
      if hits.isEmpty then n.count CNT_PD_NO_CTX else n.each hits fun i n => n.answerPull i t

/-- SUBSCRIBER_TIMEOUT (R253). -/
def execSubscriberTimeout (ctx : Fin 1024) (s : State) : Host.Outcome State Fault Refusal :=
  s.upd fun n =>
    let i := ctx.val
    n.when (n.pdfLive && n.flowActive i && n.cf (F.CTX_ROLE.at i) == 1 && n.cf (F.CTX_TIMEOUT.at i) != 0 &&
        !n.bit (F.CST_TIMED_OUT.at i)) fun n =>
      let n := ((n.wrBit (F.CST_TIMED_OUT.at i) true).count CNT_PD_TIMEOUT).raise 0x0501 [i]
      n.when (n.cf (F.CTX_TO_ACTION.at i) == 1) fun n =>
        (n.clearBytes (n.frontBuffer i) (n.cf (F.CTX_DS_LEN.at i))).wrBit (F.CST_NEW.at i) true

/-! ### Message sessions (R261 to R264) -/

/-- Address of a session's out and in buffer (R242). -/
def Node.outBuffer (n : Node) (k : Nat) : Nat := datasetBase + 64 * n.cf (F.SES_BUF_BASE.at k)
def Node.inBuffer (n : Node) (k : Nat) : Nat := n.outBuffer k + 1408
/-- STATE of a session. -/
def Node.sesState (n : Node) (k : Nat) : Nat := n.rd (F.SST_STATE.at k)
def Node.setSesState (n : Node) (k v : Nat) : Node := n.wr (F.SST_STATE.at k) v
/-- A session is busy: it waits for a reply or a confirmation, or a request is pending on it (R261). -/
def Node.sesBusy (n : Node) (k : Nat) : Bool := [1, 2, 6].contains (n.sesState k)
/-- Longest message dataset (R240). -/
def mdMax : Nat := 1356
/-- Length and content of the dataset that software wrote into the out buffer (R262). -/
def Node.outLength (n : Node) (k : Nat) : Nat := leNat (n.dsBytes (n.outBuffer k) 4)
def Node.outData (n : Node) (k : Nat) : List Byte := n.dsBytes (n.outBuffer k + 4) (n.outLength k)

/-- A message telegram of session `k`. -/
def Node.sesTelegram (n : Node) (k : Nat) (kind : TrdpType) (dst : Ip) (comId : Word) (id : BitVec 128) (data : List Byte) : Telegram :=
  let c := n.countersFor (n.cf (F.SES_CNT_MODE.at k))
  { msgType := kind, version := 1#8, headerOk := true, frameLongEnough := true, src := n.localIp, dst := dst, comId := comId,
    seq := n.word (F.SST_SEQ.at k).addr, etbTopo := c.1, opTopo := c.2, dsLen := data.length, data := data, replyComId := 0#32,
    replyIp := 0#32, sessionId := id }
/-- Send a message telegram, and count it at `c`; a destination without MAC sends none (R247). -/
def Node.sendMd (n : Node) (k : Nat) (t : Telegram) (c : Option Nat) : Node :=
  match n.macFor t.dst with
  | none => (n.count CNT_PD_NO_MAC).raise 0x0506 [k]
  | some mac =>
    n.when n.activeUnit fun n =>
      let n := match c with
        | some a => n.count a
        | none => n
      n.inject 17 (n.telegramFrame t mac (n.cf (F.SES_VID.at k)) (n.cf (F.SES_PCP.at k)) true)

/-- A caller's GO (R262 step 1). -/
def Node.callerGo (n : Node) (k : Nat) : Node :=
  let n := n.incr (F.SST_SEQ.at k)
  let id := Config.sessionId n.nodeMac n.mdStarted
  let n := { n with mdStarted := n.mdStarted + 1#64 }
  let notify := n.cf (F.SES_KIND.at k) == 0
  let com := n.forceWord (F.SES_COM_ID.at k).addr
  let t := n.sesTelegram k (if notify then .mn else .mr) ((n.sessionPeer k).getD 0#32) com id (n.outData k)
  let n := n.setSes k fun s => { s with triesLeft := n.cf (F.SES_RETRIES.at k), id := id, request := some t }
  (n.setSesState k (if notify then 3 else 1)).when (n.sessionPeer k).isSome (·.sendMd k t (some CNT_MD_TX))

/-- The reply to the pending request, with a comId (R263). -/
def Node.replierSend (n : Node) (k : Nat) (com : Word) : Node :=
  match (n.ses k).request with
  | none => n
  | some r =>
    let n := n.incr (F.SST_SEQ.at k)
    let confirm := n.cf (F.SES_KIND.at k) == 2
    let t := n.sesTelegram k (if confirm then .mq else .mp) r.src com r.sessionId (n.outData k)
    let n := n.setSes k fun s => { s with answered := some r, reply := some t, id := r.sessionId }
    let n := (n.setSesState k (if confirm then 2 else 3)).sendMd k t none
    n.when (!confirm) (·.raise 0x0507 [k, 3])
/-- A replier's GO: its comId is REPLY_COM_ID, or COM_ID where that is 0 (R261, R263). -/
def Node.replierGo (n : Node) (k : Nat) : Node :=
  let own := n.forceWord (F.SES_REPLY_COM_ID.at k).addr
  n.replierSend k (if own = 0#32 then n.forceWord (F.SES_COM_ID.at k).addr else own)

/-- GO for a session. A dataset longer than a message can carry is not sent (R262, R263). -/
def Node.msgGo (n : Node) (k : Nat) : Node :=
  n.when (n.pdfLive && n.cfBit (F.SES_VALID.at k)) fun n =>
    let n := n.dsAsk 4
    let st := n.sesState k
    if n.cfBit (F.SES_ROLE.at k) then
      (if st = 6 then n.when (n.outLength k ≤ mdMax) (·.replierGo k) else n.when (st != 0 && st != 3) (·.count CNT_MD_BUSY))
    else if st = 0 ∨ st = 3 then n.when (n.outLength k ≤ mdMax) (·.callerGo k)
    else n.count CNT_MD_BUSY
/-- MSG_CMD_GO (R262, R263). -/
def execMsgCmdGo (by_ : Initiator) (session : Fin 256) (s : State) : Host.Outcome State Fault Refusal :=
  s.upd fun n => n.access by_ 5 (·.msgGo session)

/-- A session that has timed out (R262, R263). -/
def Node.sesTimedOut (n : Node) (k state : Nat) : Node := ((n.setSesState k state).count CNT_MD_TIMEOUT).raise 0x0509 [k]

/-- MD_REPLY_TIMEOUT (R262 step 2): the retransmission carries the counters and the address of now (R264). -/
def execMdReplyTimeout (session : Fin 256) (s : State) : Host.Outcome State Fault Refusal :=
  s.upd fun n =>
    let k := session.val
    n.when (n.pdfLive && n.sesState k == 1) fun n =>
      if (n.ses k).triesLeft = 0 then n.sesTimedOut k 4
      else
        let n := n.setSes k fun s => { s with triesLeft := s.triesLeft - 1 }
        match (n.ses k).request, n.sessionPeer k with
        | some t, some dst =>
          let c := n.countersFor (n.cf (F.SES_CNT_MODE.at k))
          n.sendMd k { t with dst := dst, etbTopo := c.1, opTopo := c.2 } (some CNT_MD_RETRY)
        | _, _ => n

/-- The checks a message telegram passes before it is matched: the counter of the first it fails (R240, R251). -/
def mdFails (t : Telegram) : Option Nat :=
  if badHeader t then some CNT_PD_HDR_ERR else if mdMax < t.dsLen then some CNT_MD_OVERSIZE else none
/-- The frame does not hold the dataset that the header states (R251). -/
def mdShort (t : Telegram) : Bool := !t.frameLongEnough || t.data.length != t.dsLen
/-- The calling session a reply belongs to. -/
def Node.callerOf (n : Node) (t : Telegram) : Option Nat :=
  n.sessionsInUse.find? fun k => !n.cfBit (F.SES_ROLE.at k) && n.sesState k == 1 && (n.ses k).id == t.sessionId
/-- The replier session a request belongs to: COM_ID, then the source filter. -/
def Node.replierOf (n : Node) (t : Telegram) : Option Nat :=
  let same := n.sessionsInUse.filter fun k => n.cfBit (F.SES_ROLE.at k) && n.forceWord (F.SES_COM_ID.at k).addr == t.comId
  match same.find? fun k => n.sessionPeer k == some t.src with
  | some k => some k
  | none => same.find? fun k => n.cf (F.SES_ADDR_MODE_CONSIST.at k) / 64 == 0 && n.cf (F.SES_PEER_IP.at k) == 0
/-- The counters of a message telegram are accepted (R264). A session has no STRICT bit. -/
def Node.sesCountersOk (n : Node) (k : Nat) (t : Telegram) : Bool :=
  n.countersOk (n.cf (F.SES_CNT_MODE.at k)) false t.etbTopo t.opTopo
/-- Store what arrived: in buffer, length and source. -/
def Node.storeMd (n : Node) (k : Nat) (t : Telegram) : Node :=
  ((n.dsPut (n.inBuffer k) (t.data.take t.dsLen)).putWord (F.SST_LEN.at k).addr (BitVec.ofNat 32 t.dsLen)).putWord
    (F.SST_SRC.at k).addr t.src
/-- A message telegram that arrives, in the order of R251's checks: header, session by `find`, length, counters; then `f`. -/
def Node.arriveMd (n : Node) (t : Telegram) (kinds : List TrdpType) (find : Node → Option Nat) (f : Nat → Node → Node) : Node :=
  n.when (n.takes t && kinds.contains t.msgType) fun n =>
    match mdFails t with
    | some c => n.count c
    | none =>
      match find n with
      | none => n.count CNT_MD_RX_UNMATCHED
      | some k =>
        if mdShort t then n.count CNT_PD_LEN_ERR else if n.sesCountersOk k t then f k n else n.count CNT_TOPO_STALE

/-- Message data of a session that the Vintner owns may be consist information, which goes into the directory (R220, R261). -/
def Node.forVintner (n : Node) (k : Nat) (t : Telegram) : Node := n.when (n.cf (F.SES_OWNER.at k) == 1) (·.consistHeard t)

/-- MD_REPLY_RECEIVED (R262 step 3). -/
def execMdReplyReceived (t : Telegram) (s : State) : Host.Outcome State Fault Refusal :=
  s.upd fun n => n.arriveMd t [.mp, .mq] (·.callerOf t) fun k n =>
    let n := (n.storeMd k t).setSesState k 3
    let com := n.forceWord (F.SES_COM_ID.at k).addr
    let n := n.when (t.msgType == .mq) fun n => n.sendMd k (n.sesTelegram k .mc t.src com t.sessionId []) none
    (n.raise 0x0507 [k, 3]).forVintner k t

/-- MD_ERROR_RECEIVED (R262 step 4). -/
def execMdErrorReceived (t : Telegram) (s : State) : Host.Outcome State Fault Refusal :=
  s.upd fun n => n.arriveMd t [.me] (·.callerOf t) fun k n => (n.setSesState k 5).raise 0x0507 [k, 5]

/-- The telegram repeats a request: it has the sessionId and the sequence counter of that request. -/
def repeats (t : Telegram) (r : Option Telegram) : Bool := r.any fun q => q.sessionId == t.sessionId && q.seq == t.seq
/-- A request on a replier session (R263). The cached reply goes out with the counters of now, to the source of the repeated request (R264). A session
serves one request at a time: one that comes while another is pending, or awaits its confirmation, is discarded (R485). -/
def Node.request (n : Node) (k : Nat) (t : Telegram) : Node :=
  let r := n.ses k
  if n.sesState k = 6 then n.count CNT_MD_DUP
  else if repeats t r.answered then
    let n := n.count CNT_MD_DUP
    match r.reply with
    | some a =>
      let c := n.countersFor (n.cf (F.SES_CNT_MODE.at k))
      n.sendMd k { a with dst := t.src, etbTopo := c.1, opTopo := c.2 } none
    | none => n
  else if n.sesState k = 2 then n.count CNT_MD_DUP
  else
    let n := (n.storeMd k t).setSes k fun s => { s with request := some t }
    (n.setSesState k (if t.msgType = .mn then 3 else 6)).raise 0x0508 [k]

/-- REPLIER_TIMEOUT (R263): a reply not commanded, or a missing Mc. -/
def execReplierTimeout (session : Fin 256) (s : State) : Host.Outcome State Fault Refusal :=
  s.upd fun n =>
    let k := session.val
    n.when (n.pdfLive && n.cfBit (F.SES_ROLE.at k)) fun n =>
      if n.sesState k = 6 then n.sesTimedOut k 0 else n.when (n.sesState k == 2) (·.sesTimedOut k 4)

/-- MD_CONFIRM_RECEIVED (R263): the exchange ends. -/
def execMdConfirmReceived (t : Telegram) (s : State) : Host.Outcome State Fault Refusal :=
  s.upd fun n => n.arriveMd t [.mc]
    (fun n => n.sessionsInUse.find? fun k => n.cfBit (F.SES_ROLE.at k) && n.sesState k == 2 && (n.ses k).id == t.sessionId)
    fun k n => (n.setSesState k 3).raise 0x0507 [k, 3]

end Sys2Proof.Machine
end

