-- ==== Sys2Proof/Machine/Can.lean ====
section
/-! DEFINITION. CAN FD controllers (file 11). The rules of ISO 11898-1 by which an error changes TEC and REC are not in the spec: the
amounts come with the command, and those of a frame without error are the standard's (log entry 16). -/

namespace Sys2Proof.Machine

/-! ### Ownership and mode (R282, R317) -/

/-- The Press a controller is owned by, by the values in force; 31 for none (R282). -/
def Node.canOwner (n : Node) (c : Nat) : Nat := n.cf ⟨0x600280 + 4 * (c / 4), 8 * (c % 4), 5, 4⟩
/-- Press `p` runs its image (R289). -/
def Node.pressRuns (n : Node) (p : Nat) : Bool := n.rd (F.PRESS_STATE_STATE.at p) == 2
/-- A controller is operated: a running Press owns it (R282, R290), whose line drivers a Dormancy entry disables (R79). -/
def Node.canLive (n : Node) (c : Nat) : Bool :=
  n.powered && decide (n.supply.dormStep < 2) && !n.islandDown 3 && decide (n.canOwner c < 16) && n.pressRuns (n.canOwner c)
/-- EFF_MODE (R317). -/
def Node.canMode (n : Node) (c : Nat) : Nat := if n.standby then 2 else n.cf (F.CAN_CFG_MODE.at c)
/-- STATE of a controller. -/
def Node.canState (n : Node) (c : Nat) : Nat := n.rd (F.CAN_STATUS_STATE.at c)
def Node.setCanState (n : Node) (c v : Nat) : Node := n.wr (F.CAN_STATUS_STATE.at c) v
/-- A controller takes part in the bus: error-active or error-passive (R318). -/
def Node.canOnBus (n : Node) (c : Nat) : Bool := n.canLive c && (n.canState c == 2 || n.canState c == 3)
/-- A controller may transmit (R316). -/
def Node.canSends (n : Node) (c : Nat) : Bool := n.canOnBus c && n.canMode c == 0
/-- CANc_TXD is held recessive, high: the controller is not on the bus, or its mode lets it drive nothing (R37, R282, R290, R316). -/
def Node.canTxdHigh (n : Node) (c : Nat) : Bool := !n.canOnBus c || n.canMode c == 2
/-- CANc_STB is high: in reset, without an owner, and as the image last set it (R37, R282, R303). -/
def Node.canStbHigh (n : Node) (c : Nat) : Bool :=
  !n.powered || n.islandDown 3 || decide (15 < n.canOwner c) || n.pins.canStb.getLsbD c
/-- TX_HELD: entries wait and none is attempted (R316, R321). -/
def Node.canHeld (n : Node) (c : Nat) : Bool :=
  !(n.can c).tx.isEmpty && (n.canState c == 4 || n.canState c == 5 || (n.canState c != 0 && n.canMode c != 0))
/-- CAN_STATUS with its computed fields. -/
def Node.canStatus (n : Node) (c : Nat) : Word :=
  let w := n.word (F.CAN_STATUS_STATE.at c).addr
  let w := F.CAN_STATUS_EFF_MODE.put w (n.canMode c)
  let w := F.CAN_STATUS_TX_LEVEL.put w (n.can c).tx.length
  let w := F.CAN_STATUS_RX_LEVEL.put w (n.can c).rx.length
  F.CAN_STATUS_TX_HELD.put w (if n.canHeld c then 1 else 0)
/-- CAN_SUMMARY. -/
def Node.canSummary (n : Node) : Word :=
  let mask (p : Nat → Bool) : Nat := (List.range 8).foldl (fun m c => if p c then m + 2 ^ c else m) 0
  BitVec.ofNat 32 (mask n.canLive * 65536 + mask (fun c => n.canState c == 3) * 256 + mask (fun c => n.canState c == 4 || n.canState c == 5))

/-! ### Error confinement (R318, R321) -/

/-- Recovery starts (R321). -/
def Node.startRecovery (n : Node) (c : Nat) : Node := (n.setCanState c 5).wr (F.CAN_STATUS_RECOV_CNT.at c) 0
/-- RECOV_CNT advances to the recessive sequences that a controller in recovery has counted (R321). -/
def Node.seeRecovery (n : Node) (c count : Nat) : Node :=
  n.when (n.canState c == 5) (·.wr (F.CAN_STATUS_RECOV_CNT.at c) (max (n.rd (F.CAN_STATUS_RECOV_CNT.at c)) (min 128 count)))
/-- An attempt of the reference message has ended without it: it waits again, to be sent or abandoned (R323). -/
def Node.refAgain (n : Node) (c : Nat) : Node :=
  n.setCan c fun s => { s with refWaits := s.refWaits || s.refBegun, refBegun := false }
/-- Bring STATE to what TEC and REC ask, recording each change. What waits stays in its order, a reference message among it (R321, R323). -/
def Node.confine (n : Node) (c : Nat) : Node :=
  let tec := n.rd (F.ERR_CNT_TEC.at c)
  let rec_ := n.rd (F.ERR_CNT_REC.at c)
  let high := decide (96 ≤ tec) || decide (96 ≤ rec_)
  let n := n.when (high && !(n.can c).warned) (·.raise 0x0701 [c])
  let n := n.setCan c fun s => { s with warned := high }
  let st := n.canState c
  if 255 < tec then
    let n := ((n.setCanState c 4).count (CNT_CAN_BUSOFF c)).raise 0x0704 [c]
    let n := n.refAgain c
    n.when (n.cfBit (F.CAN_CFG_AUTO_RECOV.at c)) (·.startRecovery c)
  else if 128 ≤ tec ∨ 128 ≤ rec_ then n.when (st == 2) fun n => (n.setCanState c 3).raise 0x0702 [c]
  else n.when (st == 3) fun n => (n.setCanState c 2).raise 0x0703 [c]

/-- Change TEC and REC, which saturate, unless the mode freezes them (R316). -/
def Node.setErrors (n : Node) (c tec rec_ : Nat) : Node :=
  n.when (n.canMode c == 0) fun n =>
    ((n.wr (F.ERR_CNT_TEC.at c) (min tec 256)).wr (F.ERR_CNT_REC.at c) (min rec_ 255)).confine c
/-- REC after a frame received without error: one less, or some value from 119 to 127 where it stood above 127 (log entry 16). -/
def Node.recAfterGood (n : Node) (c : Nat) : Nat :=
  let r := n.rd (F.ERR_CNT_REC.at c)
  if r ≤ 127 then r - 1 else 119 + (n.free 4).toNat % 9

/-! ### Presses starting and stopping, and commits (R282, R290, R307) -/

/-- A controller goes to its initialisation state; its transmit FIFO is emptied into CNT_CAN_FLUSH of Press `p` (R290). -/
def Node.canStop (n : Node) (c p : Nat) : Node :=
  let n := n.countBy (CNT_CAN_FLUSH p) (n.can c).tx.length
  let n := n.setCan c fun s => { s with tx := [], idRun := 0, idSeen := false, refWaits := false, refBegun := false, refData := [] }
  n.setCanState c 0
/-- A controller in bus-off that has AUTO_RECOV set recovers (R321). -/
def Node.canAuto (n : Node) (c : Nat) : Node :=
  n.when (n.canState c == 4 && n.cfBit (F.CAN_CFG_AUTO_RECOV.at c)) (·.startRecovery c)
/-- A controller whose Press starts integrates, or is still in bus-off (R307, R321). -/
def Node.canStart (n : Node) (c : Nat) : Node := (n.setCanState c (if 255 < n.rd (F.ERR_CNT_TEC.at c) then 4 else 1)).canAuto c
/-- Word 0 of the message buffers shows their MB_DIR bits (R314). -/
def Node.showDirections (n : Node) (c : Nat) : Node :=
  n.each (List.range 64) fun b n =>
    n.wr (F.MB_DIR.at (64 * c + b)) (n.cf ⟨(if b < 32 then F.MB_DIR_LO_DIR.at c else F.MB_DIR_HI_DIR.at c).addr, b % 32, 1, 4⟩)
/-- The DIR bits of every controller's buffers follow the configuration in force. -/
def Node.showAllDirections (n : Node) : Node := n.each (List.range 8) fun c n => n.showDirections c
/-- A commit of group 0x70 + c has taken effect: a change of timing, mode or format takes the controller off the bus (R307). -/
def Node.canApplied (n before : Node) (c : Nat) : Node :=
  let same := n.forceWord (F.NBT_NBRP.at c).addr == before.forceWord (F.NBT_NBRP.at c).addr &&
    n.forceWord (F.DBT_DBRP.at c).addr == before.forceWord (F.DBT_DBRP.at c).addr &&
    n.cf (F.CAN_CFG_MODE.at c) == before.cf (F.CAN_CFG_MODE.at c) && n.cf (F.CAN_CFG_FD_EN.at c) == before.cf (F.CAN_CFG_FD_EN.at c)
  ((n.showDirections c).when (!same && (n.canState c == 2 || n.canState c == 3)) (·.setCanState c 1)).canAuto c

/-! ### Transmit FIFO (R308 to R311) -/

/-- The image of a controller's owner pushes frames of this format: base identifiers in classical format for images 0x0003 and 0x0004, classical
format for image 0x0006 (R298). -/
def Node.imageSends (n : Node) (c : Nat) (f : CanFrame) : Bool :=
  let image := n.cf (F.PRESS_CFG_IMAGE.at (n.canOwner c))
  !(f.ide && (image == 3 || image == 4)) && !(f.fdf && (image == 3 || image == 4 || image == 6))
/-- CAN_TX_PUSH (R298, R302, R308): RTR is ignored in FD format. -/
def execCanTxPush (c : Fin 8) (tag : Half) (frame : CanFrame) (s : State) : Host.Outcome State Fault Refusal :=
  s.upd fun n => n.when (n.canLive c && n.imageSends c frame) fun n =>
    if 32 ≤ (n.can c).tx.length then (n.count (CNT_CAN_TX_FULL c)).emit (.canReport c tag 3 n.now)
    else n.setCan c fun s => { s with tx := s.tx ++ [⟨tag, { frame with rtr := frame.rtr && !frame.fdf }⟩] }

/-- CAN_TX_CANCEL (R311): `begun` says that the head entry is on the bus. -/
def execCanTxCancel (c : Fin 8) (tag : Half) (begun : Bool) (s : State) : Host.Outcome State Fault Refusal :=
  s.upd fun n => n.when (n.canLive c) fun n =>
    match (n.can c).tx.findIdx? (·.tag == tag) with
    | none => n
    | some i =>
      if i = 0 ∧ begun ∧ n.canSends c then n.emit (.canReport c tag 2 n.now)
      else
        let n := n.setCan c fun s => { s with
          tx := s.tx.eraseIdx i
          idRun := 0
          idSeen := s.idSeen && i != 0 }
        (n.count (CNT_CAN_CANCEL c)).emit (.canReport c tag 1 n.now)

/-- The stamp of a frame whose SOF was `ago` ticks before now (R304). -/
def Node.sofStamp (n : Node) (ago : Nat) : Nat := n.now - ago
/-- A reference message on the bus is captured (R324). -/
def Node.capture (n : Node) (c stamp : Nat) : Node :=
  (n.putWord64 (F.REF_CAPTURE_LO.at c).addr (BitVec.ofNat 64 stamp)).incr (F.REF_SEQ.at c)
/-- An identifier that equals REF_ID, the three low bits ignored (R324). -/
def Node.isReference (n : Node) (c : Nat) (f : CanFrame) : Bool :=
  f.ide == n.cfBit (F.REF_CFG_REF_IDE.at c) && f.id.toNat / 8 == n.cf (F.REF_CFG_REF_ID.at c) / 8

/-- A frame as a controller sends it: in classical format with FD_EN clear, with at most 8 bytes (R308, R317), and in FD format with ESI from the
controller's own error state (R308). -/
def sentFrame (f : CanFrame) (fd passive : Bool) : CanFrame :=
  if f.fdf && fd then { f with esi := passive } else { f with fdf := false, brs := false, esi := false, data := f.data.take 8 }
/-- The reference message of a controller: REF_ID in classical format, with the data that the image has prepared (R323, R324; log entry 16). -/
def Node.refFrame (n : Node) (c : Nat) : CanFrame :=
  let data := (n.can c).refData.take 8
  { ide := n.cfBit (F.REF_CFG_REF_IDE.at c), fdf := false, brs := false, esi := false, rtr := false
    id := BitVec.ofNat 29 (n.cf (F.REF_CFG_REF_ID.at c)), dlc := BitVec.ofNat 4 data.length, data := data }
/-- The secondary sample point of a frame's data phase lies beyond 127 mtq: the measured loop delay, in mtq, plus TDCO (R306). -/
def Node.tdcFails (n : Node) (c loopMtq : Nat) (f : CanFrame) : Bool :=
  f.fdf && f.brs && n.cfBit (F.CAN_CFG_TDC_EN.at c) && decide (127 < loopMtq + n.cf (F.DBT_TDCO.at c))
/-- The frame ends in that bit error: TEC rises as for every error of a transmitter, and whether the bit was a 1 or a 0 is a free value; it lies
before the data field (R306, R318; DESIGN CHOICE, log entry 76). -/
def Node.tdcError (n : Node) (c : Nat) : Node :=
  let n := (n.count (CNT_CAN_TX_ERR c)).wr (F.CAN_STATUS_LAST_ERR.at c) (4 + (n.free 1).toNat)
  let n := n.took.setCan c fun s => { s with idRun := 0 }
  n.setErrors c (n.rd (F.ERR_CNT_TEC.at c) + 8) (n.rd (F.ERR_CNT_REC.at c))
/-- CAN_TX_DONE (R306, R309, R323, R324): the head entry, or the reference message. -/
def execCanTxDone (c : Fin 8) (ref : Bool) (sofAgo loopMtq : Nat) (s : State) : Host.Outcome State Fault Refusal :=
  s.upd fun n => n.when (n.canSends c) fun n =>
    let k := n.can c
    let st := n.sofStamp sofAgo
    let done := fun (n : Node) => n.setErrors c (n.rd (F.ERR_CNT_TEC.at c) - 1) (n.rd (F.ERR_CNT_REC.at c))
    if ref then
      n.when (k.refWaits || k.refBegun) fun n =>
        let n := n.setCan c fun s => if s.refBegun then { s with refBegun := false } else { s with refWaits := false }
        done ((n.capture c st).emit (.canFrame c (n.refFrame c)))
    else
      match k.tx with
      | [] => n
      | e :: t =>
        let f := sentFrame e.frame (n.cfBit (F.CAN_CFG_FD_EN.at c)) (n.canState c == 3)
        if n.tdcFails c loopMtq f then n.tdcError c
        else
          let n := n.setCan c fun s => { s with tx := t, idRun := 0, idSeen := false }
          let n := ((n.count (CNT_CAN_TX c)).emit (.canFrame c f)).emit (.canReport c e.tag 0 st)
          done (n.when (n.isReference c f) (·.capture c st))

/-- CAN_ARB_LOST (R309, R323): a reference message that loses to another master's is abandoned. -/
def execCanArbLost (c : Fin 8) (ref toRef : Bool) (s : State) : Host.Outcome State Fault Refusal :=
  s.upd fun n => n.when (n.canSends c) fun n =>
    if ref then
      n.when toRef (·.setCan c fun s => if s.refBegun then { s with refBegun := false } else { s with refWaits := false })
    else n.when (!(n.can c).tx.isEmpty) fun n => (n.count (CNT_CAN_ARB_LOST c)).setCan c fun s => { s with idRun := 0 }

/-! ### Receive FIFO (R312, R313, R317) -/

/-- CAN_FRAME_RECEIVED (R312, R313, R317, R324). -/
def execCanFrameReceived (c : Fin 8) (frame : CanFrame) (sofAgo : Nat) (s : State) : Host.Outcome State Fault Refusal :=
  s.upd fun n => n.when (n.canOnBus c) fun n =>
    if frame.fdf && !n.cfBit (F.CAN_CFG_FD_EN.at c) then
      (if n.cfBit (F.CAN_CFG_PEX.at c) then n.setCanState c 1
       else
        let n := (n.count (CNT_CAN_RX_ERR c)).wr (F.CAN_STATUS_LAST_ERR.at c) 2
        n.setErrors c (n.rd (F.ERR_CNT_TEC.at c)) (n.rd (F.ERR_CNT_REC.at c) + 1))
    else
      let st := n.sofStamp sofAgo
      let n := (n.setErrors c (n.rd (F.ERR_CNT_TEC.at c)) (n.recAfterGood c)).took
      let n := n.when (n.isReference c frame) (·.capture c st)
      if (n.can c).rx.length < 128 then
        ((n.setCan c fun s => { s with rx := s.rx ++ [⟨frame, st⟩] }).count (CNT_CAN_RX c)).endRun 0x0706 c
      else (n.count (CNT_CAN_RX_OVF c)).raiseFirst 0x0706 c [c]

/-! ### Errors (R318, R321, R322) -/

/-- LAST_ERR code of an error. -/
def canErrorCode : CanError → Nat
  | .stuff => 1
  | .form => 2
  | .ack => 3
  | .bit1 => 4
  | .bit0 => 5
  | .crc => 6

/-- An attempt of the head entry has ended in an error: consecutive bit errors in its data field make an identifier collision, once per
head entry (R322). -/
def Node.attemptError (n : Node) (c : Nat) (collides : Bool) : Node :=
  match (n.can c).tx with
  | [] => n
  | e :: _ =>
    if !collides then n.setCan c fun s => { s with idRun := 0 }
    else
      let n := n.setCan c fun s => { s with idRun := s.idRun + 1 }
      n.when ((n.can c).idRun == 4 && !(n.can c).idSeen) fun n =>
        let n := (n.setCan c fun s => { s with idSeen := true }).wrBit (F.CAN_STATUS_IDC.at c) true
        let n := n.putWord (F.IDC_ID.at c).addr (BitVec.ofNat 32 (e.frame.id.toNat + (if e.frame.ide then 2 ^ 31 else 0)))
        (n.count (CNT_CAN_IDCOLL c)).raise 0x0707 [c, e.frame.id.toNat]

/-- An error takes a controller in restricted operation from the bus until 11 recessive bits have passed, which it awaits as it does when it
integrates (R316; DESIGN CHOICE, log entry 76). -/
def Node.restrictedWait (n : Node) (c : Nat) : Node := n.when (n.canMode c == 1) (·.setCanState c 1)
/-- CAN_ERROR_DETECTED (R316, R318, R321 to R323): `dTec` and `dRec` are the standard's steps; of an error in the data field of a frame it sends,
TEC's is 8. -/
def execCanErrorDetected (c : Fin 8) (kind : CanError) (transmitting inData ref : Bool) (dTec dRec : Nat) (s : State) :
    Host.Outcome State Fault Refusal :=
  s.upd fun n => n.when (n.canOnBus c && (!transmitting || n.canMode c == 0)) fun n =>
    let n := (n.count (if transmitting then CNT_CAN_TX_ERR c else CNT_CAN_RX_ERR c)).wr (F.CAN_STATUS_LAST_ERR.at c) (canErrorCode kind)
    let collides := inData && (kind == .bit1 || kind == .bit0)
    let n := n.when (transmitting && !ref) (·.attemptError c collides)
    let n := n.when (transmitting && ref) (·.refAgain c)
    let step := if transmitting && collides then 8 else dTec
    (n.setErrors c (n.rd (F.ERR_CNT_TEC.at c) + step) (n.rd (F.ERR_CNT_REC.at c) + dRec)).restrictedWait c

/-- CAN_RECOVERY_DONE (R321). -/
def execCanRecoveryDone (c : Fin 8) (s : State) : Host.Outcome State Fault Refusal :=
  s.upd fun n => n.when (n.canLive c && n.canState c == 5) fun n =>
    let n := ((n.wr (F.ERR_CNT_TEC.at c) 0).wr (F.ERR_CNT_REC.at c) 0).setCan c fun s => { s with warned := false }
    ((n.setCanState c 2).wr (F.CAN_STATUS_RECOV_CNT.at c) 128).raise 0x0705 [c.val]

/-- Key of CAN_CMD (R325). -/
def canKey : Half := 0x4A17#16
/-- A recovery command: from the image, CAN_CMD or OD (0x5810 + c).06 (R321). -/
def Node.canRecover (n : Node) (c : Nat) : Node :=
  if n.canState c = 4 ∧ n.cfBit (F.CAN_CFG_AUTO_RECOV.at c) = false then n.startRecovery c
  else n.raise 0x0709 [c]
/-- CAN_CMD_RECOVER (R321, R325): by an initiator through CAN_CMD, or, where none is named, by the owning image, which needs no key. -/
def execCanCmdRecover (by_ : Option Initiator) (key : Half) (c : Fin 8) (s : State) : Host.Outcome State Fault Refusal :=
  s.upd fun n =>
    match by_ with
    | some i => n.access i 7 fun n => n.when (key == canKey) (·.canRecover c)
    | none => n.when (n.canLive c) (·.canRecover c)
/-- CAN_CMD_CLEAR_IDC (R325). -/
def execCanCmdClearIdc (by_ : Initiator) (key : Half) (c : Fin 8) (s : State) : Host.Outcome State Fault Refusal :=
  s.upd fun n => n.access by_ 7 fun n => n.when (key == canKey) (·.wrBit (F.CAN_STATUS_IDC.at c) false)

/-- CAN_INTEGRATED (R307): the confinement state is the one TEC and REC give. -/
def execCanIntegrated (c : Fin 8) (s : State) : Host.Outcome State Fault Refusal :=
  s.upd fun n => n.when (n.canLive c && n.canState c == 1) fun n =>
    n.setCanState c (if 128 ≤ n.rd (F.ERR_CNT_TEC.at c) ∨ 128 ≤ n.rd (F.ERR_CNT_REC.at c) then 3 else 2)

/-! ### Message buffers (R314, R315) -/

/-- Address of buffer `b` of controller `c`. -/
def mbAddr (c b : Nat) : Nat := 0x740000 + 128 * (64 * c + b)
/-- Words 2 to 23 of a buffer that holds a frame. -/
def mbWords (f : CanFrame) (stamp : DWord) : List Word :=
  let w2 := (if f.ide then 2 ^ 31 else 0) + (if f.fdf then 2 ^ 30 else 0) + (if f.brs then 2 ^ 29 else 0) + f.id.toNat
  let w3 := (if f.esi then 2 ^ 31 else 0) + (if f.rtr then 2 ^ 30 else 0) + f.dlc.toNat
  [BitVec.ofNat 32 w2, BitVec.ofNat 32 w3, stamp.extractLsb' 0 32, stamp.extractLsb' 32 32, 0#32, 0#32] ++
    (List.range 16).map fun k => BitVec.ofNat 32 (leNat ((f.data.drop (4 * k)).take 4))
/-- Bits of a message-buffer word that a writer sets (R314). -/
def mbMask (w : Nat) : Nat :=
  if w = 3 then 0xC000000F else if w = 2 ∨ w = 4 ∨ w = 5 ∨ (8 ≤ w ∧ w < 24) then 0xFFFFFFFF else 0
/-- One update of a buffer: the words are stored, and a single clock clears WIP, sets NEW and increments UPD. A party that may not write
the buffer writes nothing (R314, R315). -/
def Node.mbStore (n : Node) (c b : Nat) (toBus : Bool) (words : List (Nat × Word)) : Node :=
  let k := 64 * c + b
  if n.bit (F.MB_DIR.at k) != toBus then n.count (CNT_MB_WR_DROP c)
  else
    let n := n.putWords (words.map fun w => (mbAddr c b + 4 * w.1, w.2 &&& wordMask (mbMask w.1)))
    ((n.wrBit (F.MB_WIP.at k) false).wrBit (F.MB_NEW.at k) true).incr (F.MB_UPD.at k)
/-- The consumer acknowledges an update: NEW clears if it is the last (R315). -/
def Node.mbAck (n : Node) (c b : Nat) (upd : Nat) : Node :=
  n.when (n.rd (F.MB_UPD.at (64 * c + b)) == upd) (·.wrBit (F.MB_NEW.at (64 * c + b)) false)

/-- MB_UPDATE (R16, R315): by the owning image, or by a Blend job or host software. -/
def execMbUpdate (c : Fin 8) (b : Fin 64) (byHost : Bool) (frame : CanFrame) (stamp : DWord) (s : State) :
    Host.Outcome State Fault Refusal :=
  s.upd fun n => n.when (n.powered && (byHost || n.canLive c)) fun n => n.cross 3 fun n =>
    n.mbStore c b byHost ((mbWords frame stamp).zipIdx.map fun w => (w.2 + 2, w.1))

/-- MB_ACK_UPD (R16, R314, R315): a party that is not the consumer may not write word 1. -/
def execMbAckUpd (c : Fin 8) (b : Fin 64) (upd : Half) (byReader : Bool) (s : State) : Host.Outcome State Fault Refusal :=
  s.upd fun n => n.when n.powered fun n => n.cross 3 fun n =>
    if byReader then n.mbAck c b upd.toNat else n.count (CNT_MB_WR_DROP c)

end Sys2Proof.Machine
end

