-- ==== Sys2Proof/Machine/Measure.lean ====
section
/-! DEFINITION. Measured boot (file 19 R513): the eight measurement registers and what extends them. -/

namespace Sys2Proof.Machine

/-- Address of MEASm (R529). -/
def measAddr (m : Nat) : Nat := 0xF00200 + 32 * m
/-- The 32 bytes of MEASm, lowest byte first. -/
def Node.measBytes (n : Node) (m : Nat) : List Byte := (List.range 8).flatMap fun k => natLe (n.word (measAddr m + 4 * k)).toNat 4
/-- The bytes of a digest. -/
def digestBytes (d : BitVec 256) : List Byte := natLe d.toNat 32
/-- Put a digest in MEASm. -/
def Node.putMeas (n : Node) (m : Nat) (d : BitVec 256) : Node :=
  n.putWords ((List.range 8).map fun k => (measAddr m + 4 * k, d.extractLsb' (32 * k) 32))
/-- Extend MEASm with a digest (R513). -/
def Node.extendMeas (n : Node) (m : Nat) (d : BitVec 256) : Node := n.putMeas m (Config.sha256 (n.measBytes m ++ digestBytes d))
/-- Digest of an owner key slot. -/
def Node.owner (n : Node) (k : Nat) : Option (BitVec 256) := SMap.get (fun _ => none) n.vault.owners k
/-- MEAS4 takes in the four owner key slots, at start and at each change (R513). -/
def Node.measureOwners (n : Node) : Node := n.each (List.range 4) fun k n => n.extendMeas 4 ((n.owner k).getD Config.emptySlotDigest)
/-- The measurement registers at power-good, wake and warm reset: cleared, then extended with the boot code and the owner slots (R513). -/
def Node.startMeasures (n : Node) : Node :=
  ((n.resetWords fun a => decide (0xF00200 ≤ a) && decide (a < 0xF00300)).extendMeas 0 Config.bootRomDigest).measureOwners

/-- Address of anti-rollback counter k (R529). -/
def rollbackAddr (k : Nat) : Nat := 0xF00100 + 4 * k
/-- Anti-rollback counter k (R518). -/
def Node.rollback (n : Node) (k : Nat) : Nat := (n.word (rollbackAddr k)).toNat
/-- Raise a counter to the maximum of its value and `v`; a raise is recorded (R518, R519). -/
def Node.raiseCounter (n : Node) (k v : Nat) : Node :=
  n.when (decide (n.rollback k < v) && decide (v < 2 ^ 32) && decide (k < 17)) fun n =>
    (n.putWord (rollbackAddr k) (BitVec.ofNat 32 v)).raise 0x0F08 [k, v]

end Sys2Proof.Machine
end

