-- ==== Sys2Proof/Machine/Press.lean ====
section
/-! DEFINITION. The Press complex (file 10): image windows, cycles, stops, self-tests, reloads, faults, and what reaches a Press. -/

namespace Sys2Proof.Machine

/-! ### Process-image windows (R272 to R276) -/

/-- Home address of the window of Press `p`. -/
def imageBase (p : Nat) : Nat := 0x3000000 + 0x10000 * p
/-- Header bits of IMG_STATUS. -/
def imgInFront : Nat := 0
def imgInNew : Nat := 1
def imgOutFront : Nat := 2
def imgOutNew : Nat := 3
def imgLineOk : Nat := 6
def imgRun : Nat := 7
/-- Header word `k`. -/
def Node.header (n : Node) (p k : Nat) : Word := n.ramWord (imageBase p + 4 * k)
def Node.setHeader (n : Node) (p k : Nat) (v : Word) : Node := n.putRamWord (imageBase p + 4 * k) v
/-- A bit of IMG_STATUS. -/
def Node.imgBit (n : Node) (p b : Nat) : Bool := (n.header p 0).getLsbD b
def Node.setImgBit (n : Node) (p b : Nat) (v : Bool) : Node :=
  n.setHeader p 0 ((⟨0, b, 1, 4⟩ : Field).put (n.header p 0) (if v then 1 else 0))
/-- The window is mapped, its length, and the start of its output area (R272). -/
def Node.winLen (n : Node) (p : Nat) : Nat := n.cf (F.PRESS_CFG_WIN_LEN.at p) * 256
def Node.outArea (n : Node) (p : Nat) : Nat := n.cf (F.PRESS_CFG_OUT_OFS.at p) * 256
/-- Length of an input, and of an output buffer. -/
def Node.inLen (n : Node) (p : Nat) : Nat := if n.winLen p = 0 then 0 else (n.outArea p - 256) / 2
def Node.outLen (n : Node) (p : Nat) : Nat := (n.winLen p - n.outArea p) / 2
/-- Home address of input, and of output buffer `b`. -/
def Node.inBuf (n : Node) (p b : Nat) : Nat := imageBase p + 256 + b * n.inLen p
def Node.outBuf (n : Node) (p b : Nat) : Nat := imageBase p + n.outArea p + b * n.outLen p
/-- The front input and output buffers, 0 or 1. -/
def Node.inFront (n : Node) (p : Nat) : Nat := if n.imgBit p imgInFront then 1 else 0
def Node.outFront (n : Node) (p : Nat) : Nat := if n.imgBit p imgOutFront then 1 else 0

/-- The output buffers are swapped and OUT_NEW is set (R274). Deferred for the copy of a PRESS_START, which the model makes at once. -/
def Node.outExchange (n : Node) (p : Nat) : Node := (n.setImgBit p imgOutFront (!n.imgBit p imgOutFront)).setImgBit p imgOutNew true

/-! ### Images (R297, R516) -/

/-- The image of the Vintage with an identifier, and what the Vintage compiled for a Press that runs it. -/
def Node.imageInfo (n : Node) (image : Nat) : Option ImageInfo := n.images.find? (·.id == image)
def Node.pressConfig (n : Node) (image p : Nat) : Option PressConfig :=
  (n.imageInfo image).bind fun i => i.configs.find? (·.press.val == p)
/-- Bytes that a Press needs for an image's code and its configuration, and the WIN_LEN that its role needs (R297, R299). -/
def Node.sramNeed (n : Node) (image p : Nat) : Nat :=
  (((n.imageInfo image).map (·.code.length)).getD 0) + (((n.pressConfig image p).map (·.bytes.length)).getD 0)
def Node.winNeed (n : Node) (image p : Nat) : Nat := ((n.pressConfig image p).map (·.winLen)).getD 0

/-! ### States (R289, R290) -/

/-- STATE of a Press. -/
def Node.pressState (n : Node) (p : Nat) : Nat := n.rd (F.PRESS_STATE_STATE.at p)
/-- The FAILED bit of a Press. -/
def pressFailed (p : Nat) : Field := ⟨0x600000, 16 + p, 1, 4⟩
/-- Enter a state; RUN, FAILED and the header's RUN follow. -/
def Node.setPressState (n : Node) (p v : Nat) : Node :=
  let n := n.wr (F.PRESS_STATE_STATE.at p) v
  let n := (n.wrBit ⟨0x600000, p, 1, 4⟩ (v == 2)).wrBit (pressFailed p) (v == 5)
  n.setImgBit p imgRun (v == 2)
/-- The controllers a Press owns. -/
def Node.cansOf (n : Node) (p : Nat) : List Nat := (List.range 8).filter fun c => n.canOwner c == p
/-- AUTO_USED: automatic reloads of the last 60 minutes (R292). -/
def Node.autoUsed (n : Node) (p : Nat) : Nat := ((n.press p).reloads.filter fun t => decide (n.runMillis - t < 3600000)).length

/-- The cycle that runs ends and completes its action, `lateNs` after the window has closed (R118, R273, R290). -/
def Node.endCycle (n : Node) (p lateNs : Nat) : Node :=
  match (n.press p).cycle with
  | some e => (n.actionDone e lateNs).setPress p fun s => { s with cycle := none }
  | none => n

/-! ### Line units (R277 to R281, R290, R296) -/

/-- RATE and OWNER in force of a line unit; RATE 0 is off (R278). -/
def Node.lineRate (n : Node) (u : Nat) : Nat := n.cf (F.LU_CFG_RATE.at u)
def Node.lineOwner (n : Node) (u : Nat) : Nat := n.cf (F.LU_CFG_OWNER.at u)
/-- The line units a Press owns. -/
def Node.unitsOf (n : Node) (p : Nat) : List Nat := (List.range 32).filter fun u => n.lineRate u != 0 && n.lineOwner u == p
/-- The bit period in 1/256 of a tick of 2.5 ns, to the nearest (R279): no more than half a unit from 400,000,000 / RATE. -/
def Node.linePeriod (n : Node) (u : Nat) : Nat := (2 * 400000000 * 256 + n.lineRate u) / (2 * max 1 (n.lineRate u))
/-- Now in 1/1,024 ns of the raw counter; a 1/256 of a tick is 10 of these. -/
def Node.lineNow (n : Node) : Nat := 2048 * n.now
/-- The unit's island runs, and the unit is on (R37, R278). -/
def Node.lineOn (n : Node) (u : Nat) : Bool := n.powered && !n.islandDown 3 && n.lineRate u != 0
/-- The owner may transmit: it runs, not on a standby unit (R290, R296), with its line drivers enabled (R79). -/
def Node.lineLive (n : Node) (u : Nat) : Bool :=
  n.lineOn u && n.pressRuns (n.lineOwner u) && !n.standby && decide (n.supply.dormStep < 2)
/-- The instant at which a transmission's DE falls: one bit time before the first bit, and one after the last (R280). -/
def LineBurst.fall (b : LineBurst) : Nat := b.rise + 2 * b.bit + b.levels.length * b.step
/-- The transmission of a unit that runs now. -/
def Node.burstNow (n : Node) (u : Nat) : Option LineBurst :=
  (n.lineUnit u).bursts.find? fun b => decide (b.rise ≤ n.lineNow) && decide (n.lineNow < b.fall)
/-- Level of LUu_DE (R37, R280, R290, R296, R297). -/
def Node.luDe (n : Node) (u : Nat) : Bool :=
  n.lineLive u &&
    match (n.lineUnit u).held with
    | some h => h.2
    | none => (n.burstNow u).isSome
/-- Level of LUu_TXD between transmissions: UART framing idles high; otherwise the image sets it (R278, R290). -/
def Node.lineIdle (n : Node) (u : Nat) : Bool :=
  let p := n.lineOwner u
  n.cf (F.LU_CFG_FRAMING.at u) == 1 ||
    Config.lineIdle (n.cf (F.PRESS_CFG_IMAGE.at p)) (n.cf (F.PRESS_CFG_ROLE.at p)) (n.cf (F.LU_CFG_FRAMING.at u))
/-- Level of LUu_TXD: low while off, else a static level, the level a transmission has reached, or idle (R37, R278, R280, R290). -/
def Node.luTxd (n : Node) (u : Nat) : Bool :=
  n.lineOn u &&
    if n.lineLive u then
      match (n.lineUnit u).held, n.burstNow u with
      | some h, _ => h.1
      | none, some b =>
        if n.lineNow < b.rise + b.bit then n.lineIdle u
        else (b.levels[(n.lineNow - b.rise - b.bit) / max 1 b.step]?).getD (n.lineIdle u)
      | none, none => n.lineIdle u
    else n.lineIdle u
/-- Bits of the longest HDLC frame, 4,096 bytes with a bit stuffed after every five, between two flags (R298). -/
def hdlcMost : Nat := 16 + 4096 * 8 + 4096 * 8 / 5
/-- The image sends a transmission of this length on a unit. -/
def Node.burstFits (n : Node) (u : Nat) (levels : List Bool) : Bool := n.cf (F.LU_CFG_FRAMING.at u) != 2 || decide (levels.length ≤ hdlcMost)
/-- What an image does with one of its Press's pins; of a unit or controller that is not its own, or not live, it drives none
(R277, R280, R282, R296, R303). -/
def Node.drivePin (n : Node) (p : Nat) (d : FieldDrive) : Node :=
  match d with
  | .burst u delayNs levels =>
    n.when (n.lineOwner u == p && n.lineLive u && n.burstFits u levels) fun n =>
      let b : LineBurst := {
        rise := n.lineNow + 1024 * delayNs
        bit := 10 * n.linePeriod u
        step := if n.cf (F.LU_CFG_FRAMING.at u) = 3 then 5 * n.linePeriod u else 10 * n.linePeriod u
        levels := levels }
      (n.setLineUnit u fun l => { l with bursts := b :: l.bursts.filter fun o => decide (n.lineNow < o.fall) }).emit (.line u levels)
  | .hold u txd de =>
    n.when (n.lineOwner u == p && n.lineLive u && n.cf (F.PRESS_CFG_IMAGE.at p) == 2 && n.cf (F.LU_CFG_FRAMING.at u) == 0)
      (·.setLineUnit u fun l => { l with held := some (txd, de) })
  | .refData c data =>
    n.when (n.canOwner c == p && n.canLive c) (·.setCan c fun s => { s with refData := data })
  | .stb c high =>
    n.when (n.canOwner c == p && n.canLive c) fun n =>
      let bit := 1#8 <<< c.val
      { n with pins := { n.pins with canStb := if high then n.pins.canStb ||| bit else n.pins.canStb &&& ~~~bit } }
/-- A line unit falls silent: DE low, TXD idle, and what it had received is gone (R290). -/
def Node.lineSilent (n : Node) (u : Nat) : Node := n.setLineUnit u fun l => { l with bursts := [], held := none, received := [] }

/-! ### Stops and loads (R290 to R295) -/

/-- A Press stops now (R290, R276): the header returns to its reset values, its line units and controllers go silent. The frames in its receive
queue are discarded uncounted (DESIGN CHOICE; log entry 54). A fault may stop it `lateNs` after the window of its cycle has closed. -/
def Node.stopPress (n : Node) (p cause lateNs : Nat) : Node :=
  let n := (n.endCycle p lateNs).dropFault (.press p)
  let n := n.clearBytes (imageBase p) 256
  let n := n.each (n.unitsOf p) fun u n => n.lineSilent u
  let n := n.each (n.cansOf p) fun c n => n.canStop c p
  let n := n.setPress p fun s => { s with stopWaits := none, rxQueue := [] }
  ((n.setPressState p 3).wr (F.PRESS_STATE_LAST_CAUSE.at p) cause).raise 0x0602 [p, cause]

/-- A load begins: the SRAM is cleared, and the image and the configuration are read and measured (R293, R513). -/
def Node.loadPress (n : Node) (p : Nat) (counts : Bool) : Node :=
  let n := n.clearBytes (imageBase p) 256
  let image := n.cf (F.PRESS_CFG_IMAGE.at p)
  let code := ((n.imageInfo image).map (·.code)).getD [] ++ ((n.pressConfig image p).map (·.bytes)).getD []
  let n := match n.imageInfo image with
    | some i => n.extendMeas 3 i.digest
    | none => n
  (n.setPressState p 1).setPress p fun s => { s with counts := counts, sram := code }
/-- The start-up loads: enabled Presses not yet loaded, in ascending order, while fewer than four load (R295). -/
def Node.loadWaiting (n : Node) : Node :=
  let waiting := (List.range 16).filter fun p => n.cfBit (F.PRESS_CFG_ENABLE.at p) && n.pressState p == 0
  let busy := ((List.range 16).filter fun p => n.pressState p == 1 && !(n.press p).counts).length
  n.when n.running (·.each (waiting.take (4 - busy)) fun p n => n.loadPress p false)
/-- What follows a stop (R290). A test that a failed Press runs leaves it failed, with its FAILED bit and its fault, until the reload behind the test
(R289, R292, R293; DEDUCED, log entry 77). -/
def Node.followStop (n : Node) (p : Nat) (f : StopFollow) : Node :=
  match f with
  | .stay => n
  | .test =>
    let failed := n.bit (pressFailed p)
    (((n.setPressState p 4).wrBit (pressFailed p) failed)).setPress p fun s => { s with sram := [] }
  | .reload => (n.dropFault (.press p)).loadPress p true
  | .commit => if n.cfBit (F.PRESS_CFG_ENABLE.at p) then (n.dropFault (.press p)).loadPress p true else (n.dropFault (.press p)).setPressState p 0

/-- A request to stop, by command (cause 1) or by commit (cause 2), and what follows it (R290, R294). -/
def Node.requestStop (n : Node) (p cause : Nat) (f : StopFollow) : Node :=
  let st := n.pressState p
  if st = 0 then n.when (f == .commit) (·.followStop p f)
  else if st = 3 ∨ st = 5 then n.followStop p f
  else if st = 2 ∧ (n.press p).cycle.isSome then n.setPress p fun s => { s with stopWaits := some (cause, f) }
  else (n.stopPress p cause 0).followStop p f

/-- Key of PRESS_CMD (R293). -/
def pressKey : Half := 0x7E19#16
/-- A command to a Press, or event 0x060B where R294 ignores it. -/
def Node.pressCommand (n : Node) (p op : Nat) : Node :=
  let st := n.pressState p
  let ignored := st == 0 || (op != 1 && (st == 1 || st == 4)) || (op == 1 && (st == 3 || st == 5))
  if ignored then n.raise 0x060B [p, op, st]
  else (n.requestStop p 1 (if op = 1 then .stay else if op = 2 then .test else .reload)).loadWaiting
/-- The waiting stop takes effect (R290). -/
def Node.stopWaiting (n : Node) (p : Nat) : Node :=
  match (n.press p).stopWaits with
  | some (cause, f) => (n.stopPress p cause 0).followStop p f
  | none => n

/-- PRESS_CMD_STOP, PRESS_CMD_TEST and PRESS_CMD_RELOAD (R293, R294). -/
def Node.pressCmd (n : Node) (by_ : Initiator) (key : Half) (p op : Nat) : Node :=
  n.access by_ 6 fun n => n.when (key == pressKey) (·.pressCommand p op)
def execPressCmdStop (by_ : Initiator) (key : Half) (press : Fin 16) (s : State) : Host.Outcome State Fault Refusal :=
  s.upd (·.pressCmd by_ key press 1)
def execPressCmdTest (by_ : Initiator) (key : Half) (press : Fin 16) (s : State) : Host.Outcome State Fault Refusal :=
  s.upd (·.pressCmd by_ key press 2)
def execPressCmdReload (by_ : Initiator) (key : Half) (press : Fin 16) (s : State) : Host.Outcome State Fault Refusal :=
  s.upd (·.pressCmd by_ key press 3)
/-- PRESS_STOP_EFFECT (R290): the window of the running cycle closes. -/
def execPressStopEffect (press : Fin 16) (s : State) : Host.Outcome State Fault Refusal := s.upd (·.stopWaiting press)

/-! ### Loading, testing and faults (R292 to R295) -/

/-- An image starts (R293, R276). -/
def Node.startImage (n : Node) (p : Nat) : Node :=
  let image := n.cf (F.PRESS_CFG_IMAGE.at p)
  let version := ((n.imageInfo image).map (·.version)).getD 0
  let id := BitVec.ofNat 32 (image * 65536 + version % 65536)
  let n := (n.setHeader p 2 id).putWord (F.PRESS_VER_IMAGE.at p).addr id
  let n := n.setPressState p 2
  let n := n.when (n.press p).counts (·.count (CNT_PRS_RELOAD p))
  let n := n.setPress p fun s => { s with rxQueue := [], cycle := none }
  let n := n.each (n.unitsOf p) fun u n => n.setLineUnit u fun _ => lineUnitDefault u
  (n.each (n.cansOf p) fun c n => n.canStart c).raise 0x0601 [p, image, version]
/-- A Press is left failed by a test or a verification (R293). -/
def Node.pressFails (n : Node) (p cause : Nat) : Node :=
  ((n.setPressState p 5).wr (F.PRESS_STATE_LAST_CAUSE.at p) cause).count (CNT_PRS_FAULT p)
/-- A failed self-test. -/
def Node.selfTestFails (n : Node) (p : Nat) (result : List Nat) : Node := (n.pressFails p 7).raise 0x0603 (p :: result)
/-- A failed verification. -/
def Node.verifyFails (n : Node) (p : Nat) : Node := (n.pressFails p 6).raise 0x0604 [p, n.cf (F.PRESS_CFG_IMAGE.at p)]

/-- The request that waited when a fault stopped its Press acts on the stopped or failed Press (R290, R294). -/
def Node.waitedRequest (n : Node) (p : Nat) (r : Option (Nat × StopFollow)) : Node :=
  match r with
  | none => n
  | some (_, .commit) => n.requestStop p 2 .commit
  | some (_, .stay) => n.pressCommand p 1
  | some (_, .test) => n.pressCommand p 2
  | some (_, .reload) => n.pressCommand p 3
/-- The automatic reload of a Press, counted among those of the last 60 minutes (R292). -/
def Node.autoReload (n : Node) (p : Nat) : Node :=
  let n := n.setPress p fun s => { s with reloads := n.runMillis :: s.reloads.filter fun t => decide (n.runMillis - t < 3600000) }
  n.loadPress p true
/-- A fault of a running Press (R292). The request that waited acts first on the stopped Press, and the automatic reload follows where it leaves the
Press stopped; or it acts on the failed Press (R290; log entry 77). -/
def Node.pressFault (n : Node) (p cause lateNs : Nat) : Node :=
  let waiting := (n.press p).stopWaits
  let n := ((n.stopPress p cause lateNs).count (CNT_PRS_FAULT p)).raise 0x0605 [p, cause]
  if n.cfBit (F.PRESS_CFG_AUTO_RELOAD.at p) && decide (n.autoUsed p < 3) then
    let n := n.waitedRequest p waiting
    n.when (n.pressState p == 3) (·.autoReload p)
  else (((n.setPressState p 5).raise 0x0606 [p]).addFault (.press p)).waitedRequest p waiting

/-- PRESS_SRAM_TEST_DONE (R293). -/
def execPressSramTestDone (press : Fin 16) (ok : Bool) (result : Half) (s : State) : Host.Outcome State Fault Refusal :=
  s.upd fun n => n.when (n.pressState press == 4 && !ok) (·.selfTestFails press [result.toNat])
/-- PRESS_SELF_TEST_DONE (R293). -/
def execPressSelfTestDone (press : Fin 16) (ok : Bool) (result : Half) (s : State) : Host.Outcome State Fault Refusal :=
  s.upd fun n => n.when (n.pressState press == 4) fun n =>
    if ok then (n.raise 0x0603 [press, result.toNat]).followStop press .reload else n.selfTestFails press [result.toNat]
/-- PRESS_VERIFY_DONE (R293, R295). -/
def execPressVerifyDone (press : Fin 16) (ok : Bool) (s : State) : Host.Outcome State Fault Refusal :=
  s.upd fun n => n.when (n.pressState press == 1) fun n => (if ok then n.startImage press else n.verifyFails press).loadWaiting

/-- A commit of group 0x60 has taken effect (R287, R290). -/
def Node.pressesApplied (n before : Node) : Node :=
  let owned := fun (m : Node) (u : Nat) => if m.cf (F.LU_CFG_RATE.at u) = 0 then 16 else m.cf (F.LU_CFG_OWNER.at u)
  let units := (List.range 32).filter fun u => n.forceWord (F.LU_CFG_RATE.at u).addr != before.forceWord (F.LU_CFG_RATE.at u).addr
  let n := n.each (units.filter fun u => owned n u != owned before u) fun u n => n.lineSilent u
  let cans := (List.range 8).filter fun c => n.canOwner c != before.canOwner c
  let changed := fun (p : Nat) =>
    n.forceWord (F.PRESS_CFG_ENABLE.at p).addr != before.forceWord (F.PRESS_CFG_ENABLE.at p).addr ||
    n.forceWord (F.PRESS_CFG_WIN_LEN.at p).addr != before.forceWord (F.PRESS_CFG_WIN_LEN.at p).addr ||
    units.any (fun u => owned n u == p || owned before u == p) || cans.any fun c => n.canOwner c == p || before.canOwner c == p
  let ports := (List.range 14).filter fun q => (n.dedicated q).isSome && (before.dedicated q).isNone
  let n := n.each ports fun q n => n.flushPort q
  let n := n.each cans fun c n => n.canStop c (before.canOwner c % 16)
  let ownerless := (cans.filter fun c => decide (15 < n.canOwner c)).foldl (fun m c => m ||| (1#8 <<< c)) 0#8
  let n := { n with pins := { n.pins with canStb := n.pins.canStb ||| ownerless } }
  (n.each ((List.range 16).filter changed) fun p n => n.requestStop p 2 .commit).loadWaiting

/-! ### Cycles (R127, R273, R274, R291, R323) -/

/-- A reference message is put ahead of the FIFO head of every owned potential time master; one that has not begun is abandoned. -/
def Node.sendReferences (n : Node) (p : Nat) (begun : List (Fin 8)) : Node :=
  n.each (n.cansOf p) fun c n => n.when (n.cfBit (F.REF_CFG_REF_EN.at c) && n.canMode c == 0) fun n =>
    let onBus := begun.any (·.val == c) && (n.can c).refWaits
    let n := n.when ((n.can c).refWaits && !onBus) fun n => (n.count (CNT_CAN_REF_MISS c)).raise 0x0708 [c]
    n.setCan c fun s => { s with refWaits := true, refBegun := onBus || s.refBegun }

/-- PRESS_START (R127, R274, R291): `refBegun` lists the controllers whose last reference message is on the bus, `drives` what the image does with
its pins in this cycle. -/
def execPressStart (entry : Nat) (refBegun : List (Fin 8)) (drives : List FieldDrive) (s : State) : Host.Outcome State Fault Refusal :=
  s.upd fun n => n.startAction entry 4 fun n =>
    let p := n.targetOf entry
    if !n.pressRuns p then (n.count (CNT_START_STOPPED p)).raiseFirst 0x0607 p [p]
    else
      let out := n.bytes (n.outBuf p (n.outFront p)) (n.outLen p)
      let n := (n.endRun 0x0607 p).setPress p fun s => { s with
        cycle := some entry
        selector := n.cf (F.ENT_ARG.at entry) % 256
        outputs := out }
      let n := ((n.setImgBit p imgOutNew false).sendReferences p refBegun).occupy entry 4
      n.each drives fun d n => n.drivePin p d

/-- PRESS_INPUT_EXCHANGE (R273, R276, R290), `lateNs` after the window has closed: it ends the PRESS_START action. `diag` are diagnostic words the
image writes, numbered from offset 0x14. The image has read its receive queue, its controllers' receive FIFOs and what its line units received during
the cycle (log entry 17). -/
def execPressInputExchange (press : Fin 16) (bytes : List Byte) (lineOk : Bool) (diag : List (Fin 59 × Word)) (lateNs : Nat) (s : State) :
    Host.Outcome State Fault Refusal :=
  s.upd fun n => n.when (n.pressRuns press && (n.press press).cycle.isSome) fun n =>
    let p := press.val
    let n := n.putBytes (n.inBuf p (1 - n.inFront p)) (bytes.take (n.inLen p))
    let n := n.setImgBit p imgInFront (!n.imgBit p imgInFront)
    let n := (n.setHeader p 1 (n.header p 1 + 1#32)).setImgBit p imgInNew true
    let n := n.each diag fun d n => n.setHeader p (5 + d.1.val) d.2
    let n := (n.setImgBit p imgLineOk lineOk).setPress p fun s => { s with rxQueue := [] }
    let n := n.each (n.unitsOf p) fun u n => n.setLineUnit u fun l => { l with received := [] }
    let n := n.each (n.cansOf p) fun c n => n.setCan c fun k => { k with rx := [] }
    (n.endCycle p lateNs).stopWaiting p

/-- LINE_STATUS_CHANGE (R276). -/
def execLineStatusChange (press : Fin 16) (status : Word) (s : State) : Host.Outcome State Fault Refusal :=
  s.upd fun n => n.when (n.pressRuns press && n.header press 3 != status) fun n =>
    (n.setHeader press 3 status).raise 0x060A [press, status.toNat]

/-- LINE_UNIT_CAPTURE (R280, R281): the sixteen most recent captures are kept, while the owner runs and the unit is on. `data` are the bits received
up to this edge: discarded while the unit's own DE is asserted. `drives` is what the image does in answer. -/
def execLineUnitCapture (unit : Fin 32) (data : List Bool) (drives : List FieldDrive) (s : State) : Host.Outcome State Fault Refusal :=
  s.upd fun n => n.when (n.lineOn unit && n.pressRuns (n.lineOwner unit)) fun n =>
    let p := n.lineOwner unit
    let got := if n.luDe unit then [] else data
    let n := n.setLineUnit unit fun l => { l with captures := (n.now :: l.captures).take 16, received := l.received ++ got }
    n.each drives fun d n => n.drivePin p d

/-! ### Ethernet and the field window (R285, R286, R288) -/

/-- The process-data flow engine takes the frame (R241). -/
def Node.pdfTakes (n : Node) (f : Frame) : Bool :=
  match f.ip with
  | some h => h.proto == 17#8 && (h.dstPort == 17224#16 || h.dstPort == 17225#16) && (h.dst == n.forceWord 0x500014 || isMulticast h.dst)
  | none => false
/-- A Press whose image uses IPv4: the TCP roles of Type 15, CPF 3 and Type 2 (R297; log entry 18). -/
def Node.usesIp (n : Node) (p : Nat) : Bool :=
  let image := n.cf (F.PRESS_CFG_IMAGE.at p)
  (image == 8 && decide (2 ≤ n.cf (F.PRESS_CFG_ROLE.at p))) || image == 9 || image == 0xB
/-- Dispatch entry `d` matches a frame. -/
def Node.dispatches (n : Node) (f : Frame) (d : Nat) : Bool :=
  let value := n.cf (F.DISP_VALUE.at d)
  let port := fun (proto : Byte) => match f.ip with
    | some h => h.proto == proto && h.dstPort.toNat == value
    | none => false
  let kind := n.cf (F.DISP_KIND.at d)
  n.cfBit (F.DISP_VALID.at d) &&
    (if kind = 0 then f.etype.toNat == value else if kind = 1 then port 17#8 else kind == 2 && port 6#8) &&
    (n.cf (F.DISP_VID.at d) == 0 || (f.tag.map (·.vid.toNat)) == some (n.cf (F.DISP_VID.at d)))

/-- PP_FRAME_ARRIVAL (R285): `stamp` is the ingress stamp that the frame carries through the Cellar (R359). -/
def execPpFrameArrival (frame : Frame) (stamp : DWord) (s : State) : Host.Outcome State Fault Refusal :=
  s.upd fun n => n.when (n.running && !n.islandDown 3 && !n.pdfTakes frame) fun n =>
    if frame.etype = 0x0806#16 then n.each ((List.range 16).filter fun p => n.pressRuns p && n.usesIp p) fun p n => n.sendToPress p frame stamp.toNat
    else
      match (List.range 64).find? (n.dispatches frame) with
      | some d => n.sendToPress (n.cf (F.DISP_PRESS.at d)) frame stamp.toNat
      | none => n.count CNT_PP_NO_PRESS

/-- A link whose speed an image can use: 100 Mb/s for those that take a port at that speed (R297). -/
def dedSpeedOk (image mbps : Nat) : Bool := !(image == 0xA || image == 0xC || image == 0xD) || mbps == 100
/-- DEDICATED_TX_HANDOVER (R187, R286, R296, R297): a standby unit's dedicated ports send nothing, and neither does an image on a link whose speed
it cannot use. -/
def execDedicatedTxHandover (press : Fin 16) (frame : Frame) (s : State) : Host.Outcome State Fault Refusal :=
  s.upd fun n =>
    let q := n.cf (F.PRESS_CFG_DED_PORT.at press)
    n.when (n.running && n.pressRuns press && q != 31 && n.activeUnit) fun n =>
      if n.cf (F.MAX_FRAME.at q) < frame.len ∨ n.linkUp q = false ∨ n.portUsable q = false then
        (n.count (CNT_DED_TX_DROP press)).raise 0x0609 [press]
      else n.when (dedSpeedOk (n.cf (F.PRESS_CFG_IMAGE.at press)) (n.mbps q)) fun n =>
        ((n.count (CNT_TX_FRAMES q)).countBy (CNT_TX_OCTETS q) frame.len).emit (.frame q frame true)

/-- A Press runs the Type 15 client. -/
def Node.fieldClient (n : Node) (p : Nat) : Bool :=
  let role := n.cf (F.PRESS_CFG_ROLE.at p)
  n.cf (F.PRESS_CFG_IMAGE.at p) == 8 && (role == 0 || role == 2)
/-- A Press serves a field window: a Type 15 client or the Type 12 main device, on a unit that is not standby (R288, R296). -/
def Node.fieldWindow (n : Node) (p : Nat) : Bool :=
  n.running && n.pressRuns p && !n.standby && (n.fieldClient p || n.cf (F.PRESS_CFG_IMAGE.at p) == 0xA)
/-- It serves `len` bytes at an offset: a client, whole registers of the servers 1 to 247 (R288). -/
def Node.fieldServes (n : Node) (p ofs len : Nat) : Bool :=
  n.fieldWindow p && (!n.fieldClient p ||
    (decide (0x8000 ≤ ofs) && decide (ofs + len ≤ 248 * 0x8000) && ofs % 2 == 0 && len % 2 == 0))
/-- Parts that are issued: all, or those up to the one that fails (R386). -/
def issued (parts : List (Nat × Nat)) (far : FarReply) : List (Nat × Nat) :=
  match far with
  | .error done _ => parts.take (done + 1)
  | _ => parts
/-- Parts of an access as a Press makes them: a client's are ascending accesses of 16 bits (R288). -/
def Node.fieldSplit (n : Node) (p : Nat) (parts : List (Nat × Nat)) : List (Nat × Nat) :=
  if n.fieldClient p then parts.flatMap fun q => (List.range (q.2 / 2)).map fun k => (q.1 + 2 * k, 2) else parts
/-- An access in parts, which the image serves up to the first that it cannot complete; that one is counted and the later ones are not issued (R288,
R386). -/
def Node.fieldParts (n : Node) (p : Nat) (parts : List (Nat × Nat)) (write : Bool) (far : FarReply) : Node :=
  if parts.all fun q => n.fieldServes p q.1 q.2 then
    let n := n.each (issued (n.fieldSplit p parts) far) fun q n => n.emit (.field p q.1 q.2 write)
    match far with
    | .error _ _ => n.count (CNT_FW_ERR p)
    | _ => n
  else n.count (CNT_FW_ERR p)
/-- FIELD_WINDOW_REQUEST (R16, R288): one whose image does not answer in time is not complete either. -/
def execFieldWindowRequest (press : Fin 16) (write : Bool) (ofs len : Nat) (reply : FarReply) (s : State) :
    Host.Outcome State Fault Refusal :=
  s.upd fun n => n.when n.powered fun n => n.cross 3 fun n =>
    n.fieldParts press [(ofs, len)] write (if reply == .timeout then .error 0 [] else reply)

end Sys2Proof.Machine
end

