-- ==== Sys2Proof/Machine/Single.lean ====
section
/-! DEFINITION. IEEE 754 single precision by exact integer arithmetic, rounded to nearest with ties to even and with subnormals kept
(R336). A finite single is its mantissa times a power of two. -/

namespace Sys2Proof.Machine

/-- Exponent field, fraction field and sign. -/
def singleExp (x : Word) : Nat := x.toNat / 2 ^ 23 % 256
def singleFrac (x : Word) : Nat := x.toNat % 2 ^ 23
def singleNeg (x : Word) : Bool := x.getLsbD 31
def singleIsNan (x : Word) : Bool := singleExp x == 255 && singleFrac x != 0
def singleIsInf (x : Word) : Bool := singleExp x == 255 && singleFrac x == 0
/-- Mantissa of a finite single, and the power of two that scales it. -/
def singleMant (x : Word) : Nat := if singleExp x = 0 then singleFrac x else singleFrac x + 2 ^ 23
def singleScale (x : Word) : Int := max (singleExp x) 1 - 150
/-- Zero, infinity and the largest finite single of a sign. -/
def singleOf (neg : Bool) (bits : Nat) : Word := BitVec.ofNat 32 ((if neg then 2 ^ 31 else 0) + bits)
def singleInf (neg : Bool) : Word := singleOf neg 0x7F800000
def singleMax (neg : Bool) : Word := singleOf neg 0x7F7FFFFF

/-- m / 2^k rounded to nearest, ties to even. -/
def roundShift (m k : Nat) : Nat :=
  let q := m / 2 ^ k
  let r := 2 * (m % 2 ^ k)
  if 2 ^ k < r ∨ (r = 2 ^ k ∧ q % 2 = 1) then q + 1 else q

/-- The single nearest to ±m · 2^e. -/
def singleRound (neg : Bool) (m : Nat) (e : Int) : Word :=
  if m = 0 then singleOf neg 0
  else
    let ulp : Int := max (e + (Nat.log2 m : Int) - 23) (-149)
    let q := if ulp ≤ e then m * 2 ^ (e - ulp).toNat else roundShift m (ulp - e).toNat
    let bits := (ulp + 149).toNat * 2 ^ 23 + q
    if 0x7F800000 ≤ bits then singleInf neg else singleOf neg bits

/-- An integer as a single. -/
def singleOfInt (i : Int) : Word := singleRound (decide (i < 0)) i.natAbs 0
/-- A product; none for NaN. -/
def singleMul (x y : Word) : Option Word :=
  let neg := singleNeg x != singleNeg y
  if singleIsNan x || singleIsNan y then none
  else if singleIsInf x || singleIsInf y then
    (if singleMant x = 0 || singleMant y = 0 then none else some (singleInf neg))
  else some (singleRound neg (singleMant x * singleMant y) (singleScale x + singleScale y))
/-- The signed mantissa of a finite single at a scale no greater than its own. -/
def singleAt (x : Word) (e : Int) : Int :=
  let m := singleMant x * 2 ^ (singleScale x - e).toNat
  if singleNeg x then -(m : Int) else m
/-- A sum; none for NaN. A sum of zero is +0, but that of two negative zeros -0. -/
def singleAdd (x y : Word) : Option Word :=
  if singleIsNan x || singleIsNan y then none
  else if singleIsInf x then (if singleIsInf y && singleNeg x != singleNeg y then none else some x)
  else if singleIsInf y then some y
  else
    let e := min (singleScale x) (singleScale y)
    let s := singleAt x e + singleAt y e
    some (singleRound (if s = 0 then singleNeg x && singleNeg y else decide (s < 0)) s.natAbs e)
/-- A finite single rounded to the nearest integer, ties to even. -/
def singleToInt (x : Word) : Int :=
  let sc := singleScale x
  let m := if 0 ≤ sc then singleMant x * 2 ^ sc.toNat else roundShift (singleMant x) (-sc).toNat
  if singleNeg x then -(m : Int) else m

end Sys2Proof.Machine
end

