-- ==== Sys2Proof/Machine/Blend.lean ====
section
/-! DEFINITION. The Blend unit (file 12): the signal store, fields, rescaling, grading, jobs and host containers. -/

namespace Sys2Proof.Machine

/-! ### Entries, jobs and signals (R328 to R331, R350, R351) -/

/-- Entries of the Blend table in force that name a field: LEN 0 is refused (R334), so their word 4 is not 0. -/
def Node.blendEntries (n : Node) : List Nat :=
  n.store.force.filterMap fun w =>
    if 0x20000000 ≤ w.1 ∧ w.1 < 0x20800000 ∧ w.1 % 32 = 16 then some ((w.1 - 0x20000000) / 32) else none
/-- Jobs in force with entries. -/
def Node.jobsInUse (n : Node) : List Nat :=
  n.store.force.filterMap fun w =>
    if 0x810000 ≤ w.1 ∧ w.1 < 0x818000 ∧ w.1 % 8 = 4 then some ((w.1 - 0x810000) / 8) else none
/-- First entry and number of entries of a job. -/
def Node.jobFirst (n : Node) (j : Nat) : Nat := n.cf (F.JOB_FIRST.at j)
def Node.jobCount (n : Node) (j : Nat) : Nat := n.cf (F.JOB.at j)
/-- A job names entry `e`. -/
def Node.inJob (n : Node) (e : Nat) : Bool :=
  n.jobsInUse.any fun j => decide (n.jobFirst j ≤ e) && decide (e < n.jobFirst j + n.jobCount j)
/-- Entries that some job names. -/
def Node.liveEntries (n : Node) : List Nat := n.blendEntries.filter n.inJob
/-- A signal is Blend-owned: an IN entry of a job names it (R330). -/
def Node.blendOwned (n : Node) (sig : Nat) : Bool :=
  n.liveEntries.any fun e => n.cf (F.BE_KIND.at e) == 0 && n.cf (F.BE_SIGNAL.at e) == sig

/-- Value of a signal, and its quality entry (R328, R329). -/
def Node.signal (n : Node) (sig : Nat) : DWord := n.word64 (F.SIG_LO.at sig).addr
def Node.putSignal (n : Node) (sig : Nat) (v : DWord) : Node := n.putWord64 (F.SIG_LO.at sig).addr v
def Node.qual (n : Node) (sig : Nat) : Nat := n.rd (F.QA_QUAL.at sig)
def Node.setQual (n : Node) (sig q : Nat) : Node := n.wr (F.QA_QUAL.at sig) q
/-- BCNT (R350), and the age of a signal (R329). -/
def Node.bcnt (n : Node) : Nat := n.rd F.BCNT
def Node.sigAge (n : Node) (sig : Nat) : Nat := (n.bcnt + 2 ^ 32 - n.rd (F.QA_STAMP.at sig)) % 2 ^ 32
/-- An update from a good source (R329, R330). -/
def Node.stampGood (n : Node) (sig : Nat) : Node := (n.setQual sig 1).wr (F.QA_STAMP.at sig) n.bcnt

/-- The initial value of a signal, with QUAL NEVER and STAMP 0 (R331). -/
def Node.initSignal (n : Node) (sig : Nat) : Node :=
  let n := n.putSignal sig (SMap.get (fun _ => 0#64) n.blend.initial sig)
  ((n.setQual sig 0).wrBit (F.QA_SAT.at sig) false).wr (F.QA_STAMP.at sig) 0
/-- Signals whose format an entry in force of a job gives as `float`. -/
def Node.formats (n : Node) : List (Nat × Bool) :=
  n.liveEntries.map fun e => (n.cf (F.BE_SIGNAL.at e), n.cfBit (F.BE_SFMT.at e))
/-- The format of a signal: as an entry in force of a job gives it, else the initial one (R328, R349). -/
def Node.formatOf (n : Node) (sig : Nat) : Bool :=
  ((n.formats.find? (·.1 == sig)).map (·.2)).getD (SMap.get (fun _ => false) n.blend.initialFmt sig)
/-- A Vintage load or a warm reset: every signal at its initial value, nothing remembered (R331, R341). -/
def Node.initSignals (n : Node) : Node :=
  let n := n.resetWords fun a => (decide (0x2000000 ≤ a) && decide (a < 0x2200000)) || (decide (0x38000000 ≤ a) && decide (a < 0x38200000))
  let n := n.each n.blend.initial fun v n => n.putSignal v.1 v.2
  let n := n.each (n.blend.initialFmt ++ n.formats) fun f n => n.wrBit (F.QA_SFMT.at f.1) f.2
  let n := { n with runs := n.runs.filter fun r => r.1 != 0x0802 && r.1 != 0x0804 && r.1 != 0x0805 && r.1 != 0x0808 }
  { n with blend := { n.blend with markers := [], skipped := [] } }
/-- A commit of group 0x80 has taken effect (R331, R337, R341, R348): markers of changed entries are forgotten, and a signal whose format
changes takes its initial value. -/
def Node.blendApplied (n before : Node) : Node :=
  let same := fun (e : Nat) => [0, 4, 8, 12, 16, 20].all fun k =>
    n.forceWord (0x20000000 + 32 * e + k) == before.forceWord (0x20000000 + 32 * e + k)
  let n := { n with
    blend := { n.blend with markers := n.blend.markers.filter fun m => same m.1, skipped := [] }
    runs := n.runs.filter fun r => r.1 != 0x0804 && r.1 != 0x0805 }
  n.each ((n.formats ++ before.formats).map (·.1)).eraseDups fun sig n =>
    let f := n.formatOf sig
    n.when (n.bit (F.QA_SFMT.at sig) != f) fun n => (n.wrBit (F.QA_SFMT.at sig) f).initSignal sig

/-! ### Fields (R333, R334) -/

/-- Bytes a field spans. -/
def fieldBytes (ofs len : Nat) : Nat := (ofs % 8 + len + 7) / 8
/-- The raw bits of a field. -/
def fieldGet (data : List Byte) (ofs len : Nat) (big : Bool) : Nat :=
  let part := (data.drop (ofs / 8)).take (fieldBytes ofs len)
  (if big then beNat part else leNat part) / 2 ^ (ofs % 8) % 2 ^ len
/-- The container with a field replaced. A field beyond the container's end is left out. -/
def fieldPut (data : List Byte) (ofs len : Nat) (big : Bool) (v : Nat) : List Byte :=
  let nb := fieldBytes ofs len
  if data.length < ofs / 8 + nb then data
  else
    let part := (data.drop (ofs / 8)).take nb
    let w := if big then beNat part else leNat part
    let low := ofs % 8
    let w := w - w / 2 ^ low % 2 ^ len * 2 ^ low + v % 2 ^ len * 2 ^ low
    data.take (ofs / 8) ++ (if big then natBe w nb else natLe w nb) ++ data.drop (ofs / 8 + nb)

/-! ### Rescaling (R335, R336) -/

/-- The value of a field or signal. -/
inductive Num where
  | int (i : Int)
  | single (w : Word)
  deriving DecidableEq, Repr

/-- A destination format: unsigned or two's complement of a width, or single. -/
inductive NumFormat where
  | unsigned (len : Nat)
  | signed (len : Nat)
  | single
  deriving DecidableEq, Repr

/-- The value that raw bits stand for. -/
def NumFormat.read (f : NumFormat) (raw : Nat) : Num :=
  match f with
  | .unsigned _ => .int raw
  | .signed len => .int (if 2 * (raw % 2 ^ len) < 2 ^ len then raw % 2 ^ len else (raw % 2 ^ len : Nat) - 2 ^ len)
  | .single => .single (BitVec.ofNat 32 raw)
/-- Format of an entry's field (R334), and of its signal (R328). -/
def Node.fieldFormat (n : Node) (e : Nat) : NumFormat :=
  let fmt := n.cf (F.BE_FMT.at e)
  if fmt = 0 then .unsigned (n.cf (F.BE_LEN.at e)) else if fmt = 1 then .signed (n.cf (F.BE_LEN.at e)) else .single
def Node.signalFormat (n : Node) (e : Nat) : NumFormat := if n.cfBit (F.BE_SFMT.at e) then .single else .signed 64

/-- Bits of an integer saturated to a range, and whether it saturates (R335). -/
def clampTo (lo hi y : Int) (width : Nat) : Nat × Bool :=
  ((max lo (min hi y) % 2 ^ width).toNat, decide (y < lo) || decide (hi < y))
/-- An integer at its destination. -/
def NumFormat.ofInt (f : NumFormat) (y : Int) : Nat × Bool :=
  match f with
  | .unsigned len => clampTo 0 (2 ^ len - 1) y len
  | .signed len => clampTo (-(2 ^ (len - 1))) (2 ^ (len - 1) - 1) y len
  | .single => ((singleOfInt y).toNat, false)
/-- A single that is no NaN at its destination: a float takes it, infinity as the largest finite; an integer takes it rounded (R336). -/
def NumFormat.ofSingle (f : NumFormat) (y : Word) : Nat × Bool :=
  match f with
  | .single => if singleIsInf y then ((singleMax (singleNeg y)).toNat, true) else (y.toNat, false)
  | f =>
    if singleIsInf y then ((f.ofInt (if singleNeg y then -(2 ^ 70) else 2 ^ 70)).1, true)
    else f.ofInt (singleToInt y)

/-- The rescaling of entry `e`: raw bits of the destination and whether it saturated; none where a NaN gives no value (R335, R336). -/
def Node.rescale (n : Node) (e : Nat) (x : Num) (dest : NumFormat) : Option (Nat × Bool) :=
  let m := n.forceWord (F.BE_M.at e).addr
  let b := n.forceWord (F.BE_B.at e).addr
  match x, n.cf (F.BE_RMODE.at e) with
  | .int i, 0 => some (dest.ofInt ((i * m.toInt).fdiv (2 ^ n.cf (F.BE_SHIFT.at e)) + b.toInt))
  | x, _ =>
    let w := match x with
      | .int i => singleOfInt i
      | .single w => w
    match singleMul w m with
    | none => none
    | some t => (singleAdd t b).map dest.ofSingle

/-- A saturation counts, unless NOSAT is set; the first of an entry since the last commit is recorded (R337). -/
def Node.saturated (n : Node) (e : Nat) (sat : Bool) : Node :=
  n.when (sat && !n.cfBit (F.BE_NOSAT.at e)) fun n => (n.count CNT_BLD_SAT).raiseFirst 0x0804 e [e]
/-- A NaN produced no value (R336, R341). -/
def Node.noValue (n : Node) (e : Nat) : Node := (n.count CNT_BLD_NAN).raiseFirst 0x0805 e [e]

/-! ### Containers (R332, R338 to R340) -/

/-- A container: CTYPE and CIDX as one number. -/
def containerKey (ctype cidx : Nat) : Nat := ctype * 1024 + cidx
def Node.containerOf (n : Node) (e : Nat) : Nat := containerKey (n.cf (F.BE_CTYPE.at e)) (n.cf (F.BE_CIDX.at e))
/-- The island a container lies in (R12). -/
def containerIsland (ctype : Nat) : Nat :=
  if ctype ≤ 2 then 3 else if ctype = 3 then 0 else if ctype = 4 then 7 else if ctype = 6 ∨ ctype = 7 then 9 else 5
/-- Bytes of a host buffer (R339), and of a container (R332). -/
def Node.hostLen (n : Node) (h : Nat) : Nat := (n.cf (F.HC_LEN_M1.at h) + 1) * 64
def Node.extent (n : Node) (ctype cidx : Nat) : Nat :=
  [n.inLen cidx, n.outLen cidx, 64, n.cf (F.CTX_DS_LEN.at cidx), n.hostLen cidx, 96, 204, 44].getD ctype 0
/-- The bytes of words of the register map, little-endian. -/
def Node.wordBytes (n : Node) (a len : Nat) : List Byte := (List.range (len / 4)).flatMap fun k => natLe (n.word (a + 4 * k)).toNat 4
/-- Host container `h` can be reached (R339, R379, R380). -/
def Node.hostUp (n : Node) (h : Nat) : Bool := n.dmaOk && n.cfBit (F.HC_VALID.at h)

/-- The unit's fabric accesses to a container fail: its island is in reset, or the unit owns no slot (R142, R16). Host containers go by DMA. -/
def Node.fabricError (n : Node) (ctype : Nat) : Bool := ctype != 4 && (n.islandDown (containerIsland ctype) || !n.ownsSlot 0)
/-- What reading a source container gives: none where it is not delivering (R341 case 1), else its marker and content. -/
def Node.readContainer (n : Node) (ctype cidx : Nat) (hostReads : List HostRead) : Option (Nat × List Byte) :=
  if n.fabricError ctype || n.islandDown (containerIsland ctype) then none
  else if ctype = 0 then
    (if n.pressRuns cidx && n.imgBit cidx imgLineOk then
      some ((n.header cidx 1).toNat, n.bytes (n.inBuf cidx (n.inFront cidx)) (n.inLen cidx))
     else none)
  else if ctype = 2 then
    (if n.canLive (cidx / 64 % 8) then some (n.rd (F.MB_UPD.at cidx), n.wordBytes (0x740000 + 128 * cidx + 32) 64) else none)
  else if ctype = 3 then
    (if n.flowActive cidx && !n.bit (F.CST_TIMED_OUT.at cidx) then some (n.rd (F.CST_SEQ.at cidx), n.frontData cidx) else none)
  else if ctype = 4 then
    (if n.hostUp cidx then
      (hostReads.find? (·.container.val == cidx)).map fun r => (2 * r.seq.toNat + (if r.front then 1 else 0), r.data.take (n.hostLen cidx))
     else none)
  else some (n.rd F.LATCH_SEQ, if ctype = 6 then n.wordBytes 0xB10100 204 else n.wordBytes 0xB10200 44)

/-- The consumer job clears the NEW bit of a container it has read, `upd` being the marker it read (R338). -/
def Node.consume (n : Node) (key upd : Nat) : Node :=
  let cidx := key % 1024
  match key / 1024 with
  | 0 => n.setImgBit cidx imgInNew false
  | 2 => n.mbAck (cidx / 64) (cidx % 64) upd
  | 3 => n.wrBit (F.CST_NEW.at cidx) false
  | _ => n

/-- Write the back buffer of host container `h`, then its header (R339). A standby unit writes no host memory (R347). -/
def Node.writeHost (n : Node) (h : Nat) (data : List Byte) : Node :=
  n.when (!n.standby) fun n =>
    if n.hostUp h then
      let hdr := SMap.get (fun _ => (0, false)) n.blend.hostHeaders h
      let new := ((hdr.1 + 1) % 2 ^ 32, !hdr.2)
      let base := n.cf (F.HC_HADDR_LO.at h) + n.cf (F.HC_HADDR_HI.at h) * 2 ^ 32
      let n := { n with blend := { n.blend with hostHeaders := SMap.set (fun _ => (0, false)) n.blend.hostHeaders h new } }
      let n := n.emit (.hostWrite (base + 64 + (if new.2 then n.hostLen h else 0)) data)
      (n.emit (.hostWrite base (natLe new.1 4 ++ natLe (if new.2 then 1 else 0) 4))).endRun 0x0808 h
    else (n.count CNT_HOST_WR_DROP).raiseFirst 0x0808 h [h]

/-- The command words that a field falls in. -/
def fieldWords (ofs len : Nat) : List Nat := (List.range 24).filter fun k => decide (ofs < 32 * k + 32) && decide (32 * k < ofs + len)
/-- Put a command word and set its mark (R412). Its reserved bits stay 0 whoever writes it (R5, R411). -/
def Node.putCommand (n : Node) (c : Nat) (v : Word) : Node :=
  let n := n.putWord (F.CMD_ON.at c).addr (v &&& 0xFF01#32)
  { n with outs := { n.outs with marks := n.outs.marks ||| BitVec.ofNat 24 (2 ^ c) } }

/-- Write a destination container of the unit's own state: on a standby unit that is the pre-executed state, while the containers that software and
the dictionary see hold what the Racking link delivers (R347, R448, R451, R456). Its whole extent, with the exchange, or the words touched (R340). -/
def Node.writeContainer (n : Node) (key : Nat) (data : List Byte) (touched : List Nat) : Node :=
  let cidx := key % 1024
  if n.fabricError (key / 1024) then n.xabort
  else
    match key / 1024 with
    | 1 => (n.putBytes (n.outBuf cidx (1 - n.outFront cidx)) data).outExchange cidx
    | 2 => n.mbStore (cidx / 64) (cidx % 64) true
        ((List.range 16).map fun k => (8 + k, BitVec.ofNat 32 (leNat ((data.drop (4 * k)).take 4))))
    | 3 => (n.putBytes (n.backBuffer cidx) data).exchange cidx
    | 4 => n.writeHost cidx data
    | 5 => n.each touched fun k n => n.putCommand k (BitVec.ofNat 32 (leNat ((data.drop (4 * k)).take 4)))
    | _ => n

/-! ### Grading (R341, R342) -/

/-- The raw bits of a signal as its format has them. -/
def Node.signalBits (n : Node) (sig : Nat) : Nat := (n.signal sig).toNat
/-- A rescaled value enters the signal; SAT follows it (R329, R337). -/
def Node.takeValue (n : Node) (e sig : Nat) (r : Nat × Bool) : Node :=
  let n := n.putSignal sig (BitVec.ofNat 64 r.1)
  (n.wrBit (F.QA_SAT.at sig) (r.2 && !n.cfBit (F.BE_NOSAT.at e))).saturated e r.2
/-- Cases 1 and 2: QUAL `q`, and SUBST as the field's raw bits where BADACT is set. -/
def Node.gradeBad (n : Node) (e q : Nat) : Node :=
  let sig := n.cf (F.BE_SIGNAL.at e)
  let n := n.setQual sig q
  n.when (n.cfBit (F.BE_BADACT.at e)) fun n =>
    let raw := n.cf (F.BE_SUBST.at e) % 2 ^ n.cf (F.BE_LEN.at e)
    match n.rescale e ((n.fieldFormat e).read raw) (n.signalFormat e) with
    | some r => n.takeValue e sig r
    | none => n.noValue e
/-- The marker an entry last updated from. -/
def Node.marker (n : Node) (e : Nat) : Option Nat := SMap.get (fun _ => none) n.blend.markers e
/-- Cases 3 to 5 on a consistent read. MAXAGE 0 makes the signal stale at once. -/
def Node.gradeGood (n : Node) (e marker : Nat) (data : List Byte) : Node :=
  let sig := n.cf (F.BE_SIGNAL.at e)
  if n.marker e = some marker then
    let maxAge := n.cf (F.BE_MAXAGE.at e)
    n.when (maxAge != 0xFFFF && (maxAge == 0 || decide (maxAge < n.sigAge sig)) && n.qual sig != 2) fun n =>
      ((n.setQual sig 2).count CNT_BLD_STALE).raise 0x0803 [sig]
  else
    let raw := fieldGet data (n.cf (F.BE_BIT_OFS.at e)) (n.cf (F.BE_LEN.at e)) (n.cfBit (F.BE_ORDER.at e))
    match n.rescale e ((n.fieldFormat e).read raw) (n.signalFormat e) with
    | none => (n.setQual sig 5).noValue e
    | some r =>
      let n := (n.takeValue e sig r).stampGood sig
      { n with blend := { n.blend with markers := SMap.set (fun _ => none) n.blend.markers e (some marker) } }

/-- An OUT move into the container being built (R342). -/
def Node.moveOut (n : Node) (e : Nat) (data : List Byte) : Node × List Byte :=
  let sig := n.cf (F.BE_SIGNAL.at e)
  let len := n.cf (F.BE_LEN.at e)
  let subst := n.cf (F.BE_SUBST.at e) % 2 ^ len
  let done := fun (n : Node) (raw : Nat) =>
    let n := n.when (n.cfBit (F.BE_COMPARED.at e)) fun n =>
      { n with pair := { n.pair with digestFields := SMap.set (fun _ => []) n.pair.digestFields e (natLe raw ((len + 7) / 8)) } }
    (n, fieldPut data (n.cf (F.BE_BIT_OFS.at e)) len (n.cfBit (F.BE_ORDER.at e)) raw)
  if n.qual sig = 1 ∨ n.cf (F.BE_BADACT.at e) = 0 then
    match n.rescale e ((n.signalFormat e).read (n.signalBits sig)) (n.fieldFormat e) with
    | some r => done (n.saturated e r.2) r.1
    | none => done (n.noValue e) subst
  else done n subst

/-! ### Jobs (R343, R345, R346) -/

/-- The IN moves of one container, with the containers read well so far and their markers. -/
def Node.jobSource (n : Node) (job key : Nat) (ents inconsistent : List Nat) (hostReads : List HostRead) (good : List (Nat × Nat)) :
    Node × List (Nat × Nat) :=
  let mine := ents.filter fun e => n.containerOf e == key
  match n.readContainer (key / 1024) (key % 1024) hostReads with
  | none =>
    let n := n.when (n.fabricError (key / 1024)) (·.xabort)
    ((n.count CNT_BLD_SRC_BAD |>.raiseFirst 0x0802 key [key]).each mine fun e n => n.gradeBad e 3, good)
  | some (marker, data) =>
    if inconsistent.contains key then
      (((n.count CNT_BLD_INCONS).raise 0x0801 [job, key]).each mine fun e n => n.gradeBad e 4, good)
    else ((n.endRun 0x0802 key).each mine fun e n => n.gradeGood e marker data, good ++ [(key, marker)])

/-- Build one destination container. -/
def Node.jobTarget (n : Node) (key : Nat) (ents : List Nat) : Node × List Byte :=
  let mine := ents.filter fun e => n.containerOf e == key
  mine.foldl (fun s e => s.1.moveOut e s.2) (n, List.replicate (n.extent (key / 1024) (key % 1024)) 0#8)

/-- Entries of a job that run: those with an uncorrectable error are skipped (R348; a job descriptor by the same rule, log entry 20). -/
def Node.jobEntries (n : Node) (j : Nat) : List Nat :=
  if n.blend.skipped.contains (262144 + j) then []
  else ((List.range (n.jobCount j)).map (n.jobFirst j + ·)).filter fun e => !n.blend.skipped.contains e

/-- A job's reads, moves and writes. -/
def Node.runJob (n : Node) (j : Nat) (inconsistent : List Nat) (hostReads : List HostRead) : Node :=
  let ents := n.jobEntries j
  let ins := ents.filter fun e => n.cf (F.BE_KIND.at e) == 0
  let outs := ents.filter fun e => n.cf (F.BE_KIND.at e) == 1
  let read := ((ins.map n.containerOf).eraseDups).foldl
    (fun s key => s.1.jobSource j key ins inconsistent hostReads s.2) (n, ([] : List (Nat × Nat)))
  let built := ((outs.map n.containerOf).eraseDups).foldl
    (fun (s : Node × List (Nat × List Byte)) key =>
      let r := s.1.jobTarget key outs
      (r.1, s.2 ++ [(key, r.2)])) (read.1, [])
  let touched := fun (n : Node) (key : Nat) => ((List.range 24).filter fun k =>
    outs.any fun e => n.containerOf e == key && (fieldWords (n.cf (F.BE_BIT_OFS.at e)) (n.cf (F.BE_LEN.at e))).contains k)
  let n := built.1.each built.2 fun w n => n.writeContainer w.1 w.2 (touched n w.1)
  n.when (n.cfBit (F.JOB_CONSUME.at j)) fun n => n.each read.2 fun g n => n.consume g.1 g.2

/-- BLEND_JOB (R343, R346): a job for another topology completes at once. -/
def execBlendJob (entry : Nat) (inconsistent : List Nat) (hostReads : List HostRead) (s : State) : Host.Outcome State Fault Refusal :=
  s.upd fun n => n.startAction entry 3 fun n =>
    let j := n.targetOf entry
    let topo := n.cf (F.JOB_TOPO.at j)
    n.when (topo == 0 || topo == n.topoTag) fun n => (n.runJob j inconsistent hostReads).occupy entry 3

/-! ### Writes by initiators, and memory protection (R328, R330, R348, R349, R412) -/

/-- A complete value from an initiator (R330). -/
def Node.hostSignal (n : Node) (sig : Nat) (lo hi : Word) : Node :=
  if n.blendOwned sig then (n.count CNT_SIG_WR_DROP).raise 0x0809 [sig]
  else
    let n := n.putSignal sig ((if n.bit (F.QA_SFMT.at sig) then 0#32 else hi) ++ lo)
    (n.stampGood sig).wrBit (F.QA_SAT.at sig) false
/-- A word written to a signal's high half: a high word without its low word is discarded (R328, R330). -/
def Node.signalHigh (n : Node) (by_ : Initiator) (sig : Nat) (v : Word) : Node :=
  let own := match n.held by_ with
    | some (k, lo) => if k = sig then some lo else none
    | none => none
  match own with
  | some lo => (n.setHeld by_ none).hostSignal sig lo v
  | none => (n.dropHeld by_).count CNT_PARTIAL_WR

/-- One finding of the scrub (R348). -/
def Node.blendFinding (n : Node) (f : BlendStore × ScrubFinding) : Node :=
  match f.2.result with
  | .clean => n
  | .corrected => n.count CNT_BLD_ECC_CORR
  | .uncorrectable =>
    match f.1 with
    | .signal =>
      n.when (decide (f.2.entry < 262144)) fun n =>
        (((n.putSignal f.2.entry 0#64).setQual f.2.entry 5).count CNT_SIG_ECC).raise 0x0807 [f.2.entry]
    | store =>
      let e := if store = .job then 262144 + f.2.entry else f.2.entry
      n.when (f.2.inForce && !n.blend.skipped.contains e) fun n =>
        ({ n with blend := { n.blend with skipped := e :: n.blend.skipped } }.count CNT_BLD_ECC).raise 0x0806 [e]
/-- BLEND_SCRUB_PASS (R348). -/
def execBlendScrubPass (findings : List (BlendStore × ScrubFinding)) (s : State) : Host.Outcome State Fault Refusal :=
  s.upd fun n => n.when (n.powered && !n.islandDown 4) fun n => n.each findings fun f n => n.blendFinding f

/-- BLEND_BANK_COPY_DONE (R349). -/
def execBlendBankCopyDone (s : State) : Host.Outcome State Fault Refusal := s.upd (·.wrBit F.BLD_STATUS_TBL_BUSY false)

/-- A command word belongs to a job: an OUT entry in force of a job writes in it (R412). -/
def Node.commandOwned (n : Node) (c : Nat) : Bool :=
  n.liveEntries.any fun e => n.cf (F.BE_KIND.at e) == 1 && n.cf (F.BE_CTYPE.at e) == 5 &&
    (fieldWords (n.cf (F.BE_BIT_OFS.at e)) (n.cf (F.BE_LEN.at e))).contains c
/-- A write to a command word by software (R412). -/
def Node.hostCommand (n : Node) (c : Nat) (v : Word) : Node :=
  if n.commandOwned c then (n.count CNT_CMD_WR_DROP).raiseFirst 0x0B0C c [c] else (n.putCommand c v).endRun 0x0B0C c

end Sys2Proof.Machine
end

