-- ==== Sys2Proof/Machine/Book.lean ====
section
/-! DEFINITION. The Cellar Book (file 18): writing, flushing, recovery, freeze and readout. -/

namespace Sys2Proof.Machine

/-- The 64 bytes of a record (R498). The layout of PAYLOAD is not given, so its bytes are opaque functions of what it names. -/
def Record.bytes (r : Record) : List Byte :=
  let flags := r.sev % 8 + (if r.spec then 8 else 0) + (if r.timeValid then 16 else 0) + (if r.summary then 32 else 0)
  natLe r.code 2 ++ natLe flags 1 ++ [0x5A#8] ++ natLe r.runS 4 ++ natLe r.runMs 2 ++ natLe r.suppr 2 ++ natLe r.pcc 4 ++
    natLe r.time 8 ++ (List.range 40).map fun i => if r.payload.isEmpty then 0#8 else Config.payloadByte r.code r.payload i

/-- The book is frozen (R505). -/
def Book.frozen (b : Book) : Bool := b.frozenCmd || b.readout || b.odReadout

/-- Rewrite both copies of the pointer block, copy A first, and show them in the registers (R497). -/
def Node.rewritePointer (n : Node) (fp head wraps : Nat) : Node :=
  let p : PointerBlock := ⟨n.book.ptrA.wseq + 1#32, fp, head, wraps, n.runMillis / 1000, n.runMillis % 1000, n.book.pcc⟩
  let n := { n with book := { n.book with ptrA := p, ptrB := p } }
  (((((n.wr F.FP_COUNT fp).wr F.LP_HEAD head).wr F.LP_WRAPS wraps).wr F.RUN_S p.runS).wr F.RUN_MS p.runMs).wr F.PCC p.pcc

/-- A record in the slot at a pointer, which then reads correctly (R496, R501). -/
def Book.placeAt (b : Book) (p : PointerBlock) (r : Record) : Book :=
  if p.fpCount < 16384 then { b with first := r :: b.first, unreadable := b.unreadable.filter (· != (false, p.fpCount)) }
  else { b with
    last := SMap.set (fun _ => none) b.last p.lpHead (some r)
    unreadable := b.unreadable.filter (· != (true, p.lpHead)) }
/-- Write a record to its slot and update the pointer block (R496, R499). The 16,384th record fills the First Pressing. -/
def Node.writeRecord (n : Node) (r : Record) : Node :=
  let p := n.book.ptrA
  if p.fpCount < 16384 then
    let n := { n with book := n.book.placeAt p r }
    let n := n.rewritePointer (p.fpCount + 1) p.lpHead p.lpWraps
    n.when (p.fpCount + 1 == 16384) (·.raise 0x0E04 [])
  else
    let n := { n with book := n.book.placeAt p r }
    if p.lpHead + 1 = 98304 then n.rewritePointer p.fpCount 0 (p.lpWraps + 1)
    else n.rewritePointer p.fpCount (p.lpHead + 1) p.lpWraps

/-- The next write: a report of lost records first, else the head of the queue (R504). -/
def Node.writeNext (n : Node) : Node :=
  let b := n.book
  if b.lostReset ≠ 0 then
    let n := { n with book := { b with lostReset := 0 } }
    (n.writeRecord (n.record 0x0E01 false false 0 [b.lostReset, 2])).fire 57 0x0E01 0
  else if b.lostFull ≠ 0 ∧ b.queue.length < 256 then
    let n := { n with book := { b with lostFull := 0 } }
    (n.writeRecord (n.record 0x0E01 false false 0 [b.lostFull, 1])).fire 57 0x0E01 0
  else
    match b.queue with
    | r :: t => Node.writeRecord { n with book := { b with queue := t } } r
    | [] => n

/-- `k` writes in a row. -/
def Node.writeMany (n : Node) : Nat → Node
  | 0 => n
  | k + 1 => (n.writeNext).writeMany k

/-- A flush: it unfreezes the book, writes a summary record for every pending count, and drains the queue (R503, R505). -/
def Node.flushBook (n : Node) : Node :=
  let sums := n.book.pendingCount.map fun e => n.record e.1 false true (min e.2 65535) []
  let n := { n with book := { n.book with
    frozenCmd := false, readout := false, odReadout := false, pendingCount := [], queue := n.book.queue ++ sums } }
  n.writeMany (n.book.queue.length + 4)

/-- The later of two pointer copies (R500). -/
def laterPointer (a b : PointerBlock) : PointerBlock := if b.wseq = a.wseq + 1#32 then b else a

/-- The pointer copy recovery takes (R500). With neither copy good the spec gives none, and copy A is taken (log entry 8). -/
def recoveredPointer (b : Book) (goodA goodB : Bool) : PointerBlock :=
  if goodA && goodB then laterPointer b.ptrA b.ptrB else if goodB && !goodA then b.ptrB else b.ptrA

/-- The slot past one whose pointer update was lost (R500). -/
def PointerBlock.advance (p : PointerBlock) : PointerBlock :=
  if p.fpCount < 16384 then { p with fpCount := p.fpCount + 1 }
  else if p.lpHead + 1 = 98304 then { p with lpHead := 0, lpWraps := p.lpWraps + 1 }
  else { p with lpHead := p.lpHead + 1 }

/-- Recovery finds the record whose pointer update was lost: it lies in its slot, and is not one of the records lost with the queue (R500, R504). -/
def Node.foundRecord (n : Node) (p : PointerBlock) (found : Option Record) : Node :=
  let n := { n with book := { n.book with cut := none } }
  match found with
  | none => n
  | some r =>
    let n := { n with book := { n.book.placeAt p r with lostReset := n.book.lostReset - 1 } }
    n.when (p.fpCount + 1 == 16384) (·.raise 0x0E04 [])
/-- BOOK_RECOVERY (R500, R497): `lostUpdate` says that the record which the loss of the queue cut short lies complete in the slot at the pointer;
the pointer is recovered, waiting records are completed, the power-cycle count is written, READY sets. The count and
the operating time are taken from the pointer once in a power cycle (R73). An orderly shutdown that has overtaken the recovery flushes the queue then
(R51; log entry 69). -/
def execBookRecovery (goodA goodB torn lostUpdate : Bool) (s : State) : Host.Outcome State Fault Refusal :=
  s.upd fun n => n.when (n.powered && !n.bit F.CBK_STATUS_READY && n.supply.firmware) fun n =>
    let at_ := recoveredPointer n.book goodA goodB
    let found := if lostUpdate then n.book.cut else none
    let p := if found.isSome then at_.advance else at_
    let known := n.book.recovered
    let base := if known then n.book.baseMs else p.runS * 1000 + p.runMs
    let pcc := if known then n.book.pcc else (p.pcc + 1) % 2 ^ 32
    let fix := fun (r : Record) =>
      if r.early then
        let ms := (if known then 0 else base) + r.runS * 1000 + r.runMs
        { r with runS := ms / 1000, runMs := ms % 1000, pcc := pcc, early := false }
      else r
    let n := { n with book := { n.book with
      ptrA := p, ptrB := p, recovered := true, baseMs := base, pcc := pcc, queue := n.book.queue.map fix } }
    let n := n.foundRecord at_ found
    let n := n.countBy CNT_CBK_LOST n.book.lostReset
    let n := n.when torn fun n => (n.count CNT_CBK_TORN).raise 0x0E02 [if p.fpCount < 16384 then p.fpCount else p.lpHead]
    let n := n.rewritePointer p.fpCount p.lpHead p.lpWraps
    (n.wrBit F.CBK_STATUS_READY true).when (n.power == .shutdown) Node.flushBook

/-- RECORD_WRITE (R499): nothing is written before READY or while the book is frozen (R500, R505). -/
def execRecordWrite (s : State) : Host.Outcome State Fault Refusal :=
  s.upd fun n => n.when (n.powered && n.bit F.CBK_STATUS_READY && !n.book.frozen) Node.writeNext

/-- POINTER_BLOCK_TICK (R497): once every second of Run; nothing is written while the book is frozen (R505). -/
def execPointerBlockTick (s : State) : Host.Outcome State Fault Refusal :=
  s.upd fun n => n.when (n.powered && n.bit F.CBK_STATUS_READY && !n.book.frozen) fun n =>
    n.rewritePointer n.book.ptrA.fpCount n.book.ptrA.lpHead n.book.ptrA.lpWraps

/-- TOKEN_REFILL (R502). -/
def execTokenRefill (code : Half) (s : State) : Host.Outcome State Fault Refusal :=
  s.upd fun n => n.when n.powered fun n =>
    { n with book := { n.book with missing := SMap.set (fun _ => 0) n.book.missing code.toNat (n.missing code.toNat - 1) } }

/-- The record at index `i` of an area; the oldest of the Last Pressing has index 0 (R506). -/
def Book.at (b : Book) (lastArea : Bool) (i : Nat) : Option Record :=
  if lastArea then
    let p := b.ptrA
    if p.lpWraps = 0 then (if i < p.lpHead then SMap.get (fun _ => none) b.last i else none)
    else if i < 98304 then SMap.get (fun _ => none) b.last ((p.lpHead + i) % 98304) else none
  else if i < b.first.length then b.first.reverse[i]? else none

/-- The slot of index `i` of an area. -/
def Book.slotOf (b : Book) (lastArea : Bool) (i : Nat) : Nat :=
  if lastArea ∧ b.ptrA.lpWraps ≠ 0 then (b.ptrA.lpHead + i) % 98304 else i
/-- The MRAM cannot read the record at index `i` of an area correctly (R501). -/
def Book.bad (b : Book) (lastArea : Bool) (i : Nat) : Bool := (b.at lastArea i).isSome && b.unreadable.contains (lastArea, b.slotOf lastArea i)
/-- Records of a readout that cannot be read are counted and recorded with their area and index (R501). -/
def Node.reportBad (n : Node) (lastArea : Bool) (is : List Nat) : Node :=
  n.each (is.filter (n.book.bad lastArea)) fun i n => (n.count CNT_CBK_ECC).raise 0x0E05 [if lastArea then 1 else 0, i]
/-- The sixteen words of a readout slot: the record, or 0 past the area's fill (R506). -/
def recordWords (r : Option Record) : List Word :=
  match r with
  | some r => (List.range 16).map fun k => BitVec.ofNat 32 (leNat ((r.bytes.drop (4 * k)).take 4))
  | none => List.replicate 16 0#32

/-- Start a register readout (R506). A record the MRAM cannot read correctly appears as all ones, is counted and recorded (R501);
`bad` lists such records by their place in the readout, of those that this readout is the first to find. -/
def Node.startReadout (n : Node) (bad : List (Fin 256)) : Node :=
  let count := min (n.rd F.READ_COUNT) 256
  n.when (!n.bit F.CBK_STATUS_RD_BUSY && count != 0) fun n =>
    let area := n.bit F.READ_CFG_AREA
    let start := n.rd F.READ_CFG_START
    let found := bad.filter fun i => decide (i.val < count) && (n.book.at area (start + i.val)).isSome && !n.book.bad area (start + i.val)
    let slots := found.map fun i => (area, n.book.slotOf area (start + i.val))
    let n := { n with book := { n.book with unreadable := slots ++ n.book.unreadable } }
    let words := (List.range count).flatMap fun i =>
      let ws := if n.book.bad area (start + i) then List.replicate 16 0xFFFFFFFF#32 else recordWords (n.book.at area (start + i))
      ws.zipIdx.map fun w => (0xE10000 + 64 * i + 4 * w.2, w.1)
    let n := n.putWords words
    let n := { n with book := { n.book with readout := true } }
    let n := n.wrBit F.CBK_STATUS_RD_BUSY true
    n.reportBad area ((List.range count).map (start + ·))

/-- Key of CBK_CMD (R507). -/
def cbkKey : Half := 0x1E4B#16

/-- A commanded freeze begins or ends (R505). -/
def Node.setFreeze (n : Node) (on : Bool) : Node := { n with book := { n.book with frozenCmd := on } }
/-- The bits of a write to CBK_CMD: FREEZE and UNFREEZE together change nothing, and a READ still acts (R505). -/
def Node.cbkCommand (n : Node) (freeze unfreeze read : Bool) (bad : List (Fin 256)) : Node :=
  (n.when (freeze != unfreeze) (·.setFreeze freeze)).when read (·.startReadout bad)

/-- CBK_CMD_FREEZE (R505). -/
def execCbkCmdFreeze (by_ : Initiator) (key : Half) (alsoUnfreeze alsoRead : Bool) (s : State) : Host.Outcome State Fault Refusal :=
  s.upd fun n => n.access by_ 0xE fun n => n.when (key == cbkKey) (·.cbkCommand true alsoUnfreeze alsoRead [])

/-- CBK_CMD_UNFREEZE (R505). -/
def execCbkCmdUnfreeze (by_ : Initiator) (key : Half) (alsoRead : Bool) (s : State) : Host.Outcome State Fault Refusal :=
  s.upd fun n => n.access by_ 0xE fun n => n.when (key == cbkKey) (·.cbkCommand false true alsoRead [])

/-- CBK_CMD_READ (R506). -/
def execCbkCmdRead (by_ : Initiator) (key : Half) (unreadable : List (Fin 256)) (s : State) : Host.Outcome State Fault Refusal :=
  s.upd fun n => n.access by_ 0xE fun n => n.when (key == cbkKey) (·.cbkCommand false false true unreadable)

/-- READOUT_COMPLETE (R506). -/
def execReadoutComplete (s : State) : Host.Outcome State Fault Refusal :=
  s.upd fun n => n.when (n.bit F.CBK_STATUS_RD_BUSY) fun n =>
    let n := (n.wrBit F.CBK_STATUS_RD_BUSY false).fire 56 0 0
    { n with book := { n.book with readout := false } }

/-- FREEZE_LIMIT_EXPIRY (R505). -/
def execFreezeLimitExpiry (s : State) : Host.Outcome State Fault Refusal :=
  s.upd fun n => n.when n.book.frozenCmd fun n =>
    Node.raise { n with book := { n.book with frozenCmd := false } } 0x0E03 []

end Sys2Proof.Machine
end

