-- ==== Sys2Proof/Machine/Ports.lean ====
section
/-! DEFINITION. Ports (file 07): link state, bypass drivers and their settle masks, wake emission, counter snapshots. -/

namespace Sys2Proof.Machine

/-! ### Link state (R186 to R194) -/

/-- A field of PORT_MODE: the speculative configuration while a Vintage is being loaded (R61), else the value in force. -/
def Node.portMode (n : Node) (f : Field) (p : Nat) : Nat := if n.supply.loading then n.sf (f.at p) else n.cf (f.at p)
/-- The island of an external port is out of reset (R176). -/
def Node.portIsland (n : Node) (p : Nat) : Bool := !n.islandDown (if p < 4 then 1 else if p < 14 then 2 else 0)
/-- The link-report mask of a backbone port runs (R197). -/
def Node.settling (n : Node) (p : Nat) : Bool := decide (p < 4) && n.bit (F.LINK_STATUS_SETTLE.at p)
/-- A backbone port is sending a wake emission (R199). -/
def Node.emitting (n : Node) (p : Nat) : Bool := decide (p < 4) && n.bit ⟨0x300014, 4 + p, 1, 4⟩
/-- The driver of a backbone port's bypass line is energised. Other ports have none (R189). -/
def Node.inLine (n : Node) (p : Nat) : Bool := decide (4 ≤ p) || n.bit ⟨0x300008, p % 2, 1, 4⟩
/-- The port can train: powered, enabled, wired at J1 and in line, neither looped back nor emitting (R189, R199, R441, R537). During a load a
backbone port trains before its line is taken in (R61, R69, R189). -/
def Node.portTrains (n : Node) (p : Nat) : Bool :=
  n.powered && n.portIsland p && n.physical p && (n.inLine p || n.supply.loading) && n.portMode F.PORT_MODE_MODE p != 0 && !(n.port p).loopback && !n.emitting p

/-- The T1 modes (R177). -/
def isT1 (mode : Nat) : Bool := decide (1 ≤ mode ∧ mode ≤ 3)
/-- The codes of LINK_STATUS.SPEED at which a mode runs (R177, R192, R202). -/
def modeSpeeds (mode : Nat) : List Nat := [[], [6], [4], [3], [2], [1, 2, 3], [3], [4], [6], [1, 2, 3, 4, 5, 6], [1]].getD mode []
/-- The mode takes its speed and duplex from what the partner or the external PHY reports: 100BASE-TX, SGMII, USXGMII (R192, R202). -/
def modeHears (mode : Nat) : Bool := [4, 5, 9].contains mode
/-- The mode has an auto-negotiation (R190, R192, R202). -/
def modeNegotiates (mode : Nat) : Bool := decide (1 ≤ mode ∧ mode ≤ 6) || mode == 9
/-- The port is master: as resolved, or as ROLE says without auto-negotiation; ROLE 0 makes direction 2 master (R190). -/
def Node.isMaster (n : Node) (p : Nat) (resolved : Bool) : Bool :=
  if n.portMode F.PORT_MODE_AN_EN p = 1 then resolved
  else [decide (2 ≤ p), true, false].getD (n.portMode F.PORT_MODE_ROLE p) false
/-- What LINK_STATUS shows of a PHY's report: each field only in the modes that have it (R190, R192, R194, R202, R210). -/
def Node.shownPhy (n : Node) (p : Nat) (i : PhyInfo) : PhyInfo :=
  let m := n.portMode F.PORT_MODE_MODE p
  let t1 := isT1 m
  { speed := if modeHears m then i.speed else BitVec.ofNat 3 ((modeSpeeds m).headD 0)
    master := t1 && n.isMaster p i.master
    mdix := m == 4 && i.mdix
    half := modeHears m && i.half
    anDone := modeNegotiates m && n.portMode F.PORT_MODE_AN_EN p == 1 && i.anDone
    sqi := if t1 then i.sqi else 0#3
    localRxOk := t1 && i.localRxOk
    remoteRxOk := t1 && i.remoteRxOk }
/-- Why a PHY's report gives no usable link, if it gives none: half duplex, a speed the mode does not run at, a partner in another T1 mode (R178,
R191, R192, R202). -/
def Node.phyRefused (n : Node) (p : Nat) (i : PhyInfo) : Option LinkFailure :=
  let m := n.portMode F.PORT_MODE_MODE p
  if modeHears m && i.half then some .halfDuplex
  else if (modeSpeeds m).contains i.speed.toNat then none
  else if isT1 m then some .mode
  else if modeHears m then some .speed else none

/-- LINK_STATUS shows what the PHY reports (R210). -/
def Node.showPhy (n : Node) (p : Nat) (i : PhyInfo) : Node :=
  let n := [(F.LINK_STATUS_MASTER, i.master), (F.LINK_STATUS_MDIX, i.mdix), (F.LINK_STATUS_HALF, i.half), (F.LINK_STATUS_AN_DONE, i.anDone),
    (F.LINK_STATUS_LOCAL_RX_OK, i.localRxOk), (F.LINK_STATUS_REMOTE_RX_OK, i.remoteRxOk)].foldl (fun n e => n.wrBit (e.1.at p) e.2) n
  n.wr (F.LINK_STATUS_SQI.at p) i.sqi.toNat
/-- Set UP and the port's bit in LINK_SUMMARY. -/
def Node.setUp (n : Node) (p : Nat) (up : Bool) : Node :=
  (n.wrBit (F.LINK_STATUS_UP.at p) up).wrBit ⟨0x300000, p, 1, 4⟩ up

/-- Pass a link report of a physical backbone port on to the partner (R441). -/
def Node.tellPartner (n : Node) (p : Nat) (up : Bool) : Node :=
  n.when (n.pair.enabled && decide (p < 4) && n.physical p && n.bit F.RED_STATUS_RACK_UP) (·.emit (.rack (.link p up)))

/-- The port is reported link up, in one clock (R186). -/
def Node.reportUp (n : Node) (p leadNs : Nat) : Node :=
  let n := (n.setUp p true).setPort p fun s => { s with losing := false }
  let n := n.raise 0x0301 [p, n.rd (F.LINK_STATUS_SPEED.at p), n.rd (F.LINK_STATUS_MASTER.at p)]
  (n.tellPartner p true).when (p < 4) (·.refreshLines leadNs)
/-- The port is reported link down, in one clock (R187). -/
def Node.reportDown (n : Node) (p leadNs : Nat) : Node :=
  let n := (n.setUp p false).setPort p fun s => { s with losing := false }
  let n := ((n.wr (F.LINK_STATUS_SPEED.at p) 0).cutShort p).flushPort p
  let n := (n.count (CNT_LINK_DOWN p)).raise 0x0302 [p]
  (n.tellPartner p false).when (p < 4) (·.refreshLines leadNs)
/-- The PHY no longer has a link: the port stops transmitting at once (R187). Its speed stands until it is reported down. -/
def Node.phyLost (n : Node) (p : Nat) : Node :=
  let n := n.setPort p fun s => { s with usable := false, losing := n.linkUp p, info := (portDefault p).info, since := n.now }
  let n := n.when (!n.linkUp p) (·.wr (F.LINK_STATUS_SPEED.at p) 0)
  (n.showPhy p (portDefault p).info).cutShort p
/-- The port goes link down at once, but for its report while its bypass line settles (R179, R197, R537). -/
def Node.linkGone (n : Node) (p leadNs : Nat) : Node :=
  let n := n.phyLost p
  n.when (n.linkUp p && !n.settling p) (·.reportDown p leadNs)
/-- A link attempt fails, in the modes that know such a failure (R191, R192, R202). -/
def Node.attemptFails (n : Node) (p : Nat) (why : LinkFailure) : Node :=
  let m := n.portMode F.PORT_MODE_MODE p
  match why with
  | .mode => n.when (isT1 m) (·.count (CNT_LINK_GLITCH p))
  | .role => n.when (isT1 m) (·.count (CNT_LINK_GLITCH p))
  | .halfDuplex => n.when (modeHears m) fun n => (n.wrBit (F.LINK_STATUS_HALF.at p) true).raise 0x0303 [p]
  | .speed => n.when (modeHears m) (·.raise 0x0303 [p])
/-- The PHY has a usable link, or new values for one it has (R186, R194): a loss that ends while the port is still reported up is a glitch (R187). -/
def Node.phyUsable (n : Node) (p : Nat) (info : PhyInfo) : Node :=
  let i := n.shownPhy p info
  if (n.port p).usable then (n.setPort p fun q => { q with info := i }).showPhy p i
  else
    let glitch := (n.port p).losing
    let n := n.setPort p fun q => { q with usable := true, losing := false, info := i, since := n.now }
    let n := (n.showPhy p i).wr (F.LINK_STATUS_SPEED.at p) i.speed.toNat
    n.when glitch (·.count (CNT_LINK_GLITCH p))

/-- PHY_LINK_OK (R178, R186, R187, R190 to R194, R202): half duplex or a speed that the mode has not is a failed attempt. A multidrop port needs no
such report (R204). -/
def execPhyLinkOk (port : Fin 16) (info : PhyInfo) (s : State) : Host.Outcome State Fault Refusal :=
  s.upd fun n => n.when (n.portTrains port && decide (port.val < 14)) fun n =>
    match n.phyRefused port info with
    | none => n.phyUsable port info
    | some why => n.when (!(n.port port).usable) (·.attemptFails port why)

/-- LINK_UP_REPORT (R186): masked while the bypass line settles (R197). -/
def execLinkUpReport (port : Fin 16) (leadNs : Nat) (s : State) : Host.Outcome State Fault Refusal :=
  s.upd fun n => n.when (n.portTrains port && n.portUsable port && !n.linkUp port && !n.settling port) (·.reportUp port leadNs)

/-- PHY_LINK_LOSS (R187). A multidrop port loses no link while it is enabled (R204). -/
def execPhyLinkLoss (port : Fin 16) (s : State) : Host.Outcome State Fault Refusal :=
  s.upd fun n => n.when (n.powered && (n.port port).usable && decide (port.val < 14)) (·.phyLost port)

/-- LINK_DOWN_REPORT (R187): masked while the bypass line settles (R197). -/
def execLinkDownReport (port : Fin 16) (leadNs : Nat) (s : State) : Host.Outcome State Fault Refusal :=
  s.upd fun n => n.when (n.powered && n.physical port && n.linkUp port && !n.portUsable port && !n.settling port) (·.reportDown port leadNs)

/-- LINK_ATTEMPT_FAILED (R191, R192, R202). -/
def execLinkAttemptFailed (port : Fin 16) (why : LinkFailure) (s : State) : Host.Outcome State Fault Refusal :=
  s.upd fun n => n.when (n.portTrains port && !(n.port port).usable) (·.attemptFails port why)

/-- A multidrop port is link up while its MODE is 10BASE-T1S and nothing holds it, and link down otherwise (R204). -/
def Node.followMode (n : Node) (p : Nat) : Node :=
  if n.portTrains p then n.when (!n.linkUp p) fun n => (n.phyUsable p (portDefault p).info).reportUp p 0
  else n.when (n.linkUp p) (·.linkGone p 0)
/-- Both multidrop ports follow their MODE. -/
def Node.followModes (n : Node) : Node := (n.followMode 14).followMode 15
/-- Ports whose MODE, AN_EN or ROLE a commit of group 0x30 changes go link down at that start and train anew. A frame in reception across the start
is still checked against the MAX_FRAME that a change replaces (R179). -/
def Node.portsApplied (n before : Node) : Node :=
  let n := n.each (List.range 16) fun p n =>
    let changed := [F.PORT_MODE_MODE, F.PORT_MODE_AN_EN, F.PORT_MODE_ROLE].any fun f => before.cf (f.at p) != n.cf (f.at p)
    n.when changed (·.linkGone p (SchedBank.baseNs n.cf))
  let n := n.each switchPorts fun p n =>
    let old := before.cf (F.MAX_FRAME.at p)
    n.when (old != n.cf (F.MAX_FRAME.at p)) fun n => n.setPort p fun q => { q with maxWas := some (old, n.now) }
  n.followModes

/-! ### Bypass drivers (R195 to R197, R441) -/

/-- INSERT of line `k`: in a pair each unit inserts its own line, whatever its role (R441). -/
def Node.insert (n : Node) (k : Nat) : Bool :=
  if n.pair.enabled then k == n.rd F.RED_STATUS_UNIT else n.bit ⟨0x300004, k, 1, 4⟩
/-- The cause of a line's state by the codes of BYPASS_STATUS; `none` keeps the state through a warm reset (R195). Where several
conditions hold the driver released, for which the spec gives no order, the first of these is shown (DESIGN CHOICE, log entry 81). -/
def Node.bypassCause (n : Node) (k : Nat) : Option Nat :=
  if n.power == .off then some 2
  else if n.power == .shutdown || n.power == .dormancy || 4 ≤ n.supply.dormStep then some 7
  else if n.supply.recovery then some 3
  else if n.rd F.PWR_STATUS_START_PHASE != 4 then
    if n.supply.warm then (if n.bit F.BYPASS_CTRL_WARM_HOLD && !n.pair.enabled then none else some 5) else some 2
  else if n.maint.stopped then some 6
  else if n.islandDown 0 || n.maint.cellarHeld then some 4
  else if n.insert k then some 0 else some 1

/-- Bring line `k`'s driver to what R195 asks: a change is recorded and starts the mask (R197); a release takes the links of both ports (R189). -/
def Node.updateLine (n : Node) (k : Nat) : Node :=
  match n.bypassCause k with
  | none => n
  | some c =>
    let n := n.wr ⟨0x300008, 4 + 4 * k, 4, 4⟩ c
    let on := c == 0
    n.when (on != n.bit ⟨0x300008, k, 1, 4⟩) fun n =>
      let n := ((n.wrBit ⟨0x300008, k, 1, 4⟩ on).wrBit ⟨0x300008, 2 + k, 1, 4⟩ true).raise 0x0304 [k, if on then 1 else 0, c]
      n.each [k, k + 2] fun p n =>
        let n := n.wrBit (F.LINK_STATUS_SETTLE.at p) true
        n.when (!on && n.physical p) (·.phyLost p)
/-- Bring both drivers to what R195 asks. -/
def Node.updateBypass (n : Node) : Node := (n.updateLine 0).updateLine 1

/-- UP_SEL and DN_SEL in ticks of 2 ns (R188). -/
def Node.upTicks (n : Node) (p : Nat) : Nat := [0, 1, 10, 50, 100].getD (n.portMode F.LINK_CFG_UP_SEL p) 100 * 500000
def Node.downTicks (n : Node) (p : Nat) : Nat := [0, 1, 2, 5, 10].getD (n.portMode F.LINK_CFG_DN_SEL p) 10 * 500000
/-- SETTLE_MASK_END (R197): each port of the line reports the state its PHY then has under R186 and R187: at once where it has lasted for UP_SEL or
DN_SEL, otherwise when LINK_UP_REPORT or LINK_DOWN_REPORT says that it has. -/
def execSettleMaskEnd (lineB : Bool) (leadNs : Nat) (s : State) : Host.Outcome State Fault Refusal :=
  s.upd fun n =>
    let k := if lineB then 1 else 0
    n.when (n.powered && n.bit ⟨0x300008, 2 + k, 1, 4⟩) fun n =>
      let n := n.wrBit ⟨0x300008, 2 + k, 1, 4⟩ false
      n.each [k, k + 2] fun p n =>
        let n := n.wrBit (F.LINK_STATUS_SETTLE.at p) false
        n.when (n.physical p) fun n =>
          let age := n.now - (n.port p).since
          if n.portUsable p && !n.linkUp p then n.when (n.upTicks p ≤ age) (·.reportUp p leadNs)
          else n.when (!n.portUsable p && n.linkUp p && decide (n.downTicks p ≤ age)) (·.reportDown p leadNs)

/-! ### Wake emission and detection (R198 to R200) -/

/-- The code of the wake pattern, and how often an emission sends it (R198). -/
def wakeCode : Byte := 0b10110010#8
def wakeTimes : Nat := 4
/-- Each port of the mask emits, refuses, or ignores the request (R199). -/
def Node.wakeEmit (n : Node) (mask : BitVec 4) : Node :=
  n.each [0, 1, 2, 3] fun p n =>
    n.when (mask.getLsbD p && !n.emitting p) fun n =>
      if n.linkUp p then (n.count CNT_WAKE_REFUSED).raise 0x0306 [p]
      else n.when (n.portMode F.PORT_MODE_MODE p != 0) fun n =>
        let n := (n.phyLost p).wrBit ⟨0x300014, 4 + p, 1, 4⟩ true
        (n.raise 0x0305 [p]).emit (.wakePattern p wakeCode wakeTimes)
/-- WAKE_EMIT (R199). -/
def execWakeEmit (by_ : Initiator) (mask : BitVec 4) (s : State) : Host.Outcome State Fault Refusal :=
  s.upd fun n => n.access by_ 0x3 (·.wakeEmit mask)

/-- What an interval of sixteen energy samples shows: on with twelve or more, off with four or fewer (R200). -/
def wakeInterval (l : List Bool) : Option Bool :=
  let k := l.count true
  if 12 ≤ k then some true else if k ≤ 4 then some false else none
/-- The intervals of a search that follow the code, before one does not or the samples end; `i` have been seen. -/
def codeMatches : Nat → List Bool → Nat → Nat
  | 0, _, i => i
  | k + 1, l, i =>
    if 16 ≤ l.length ∧ wakeInterval (l.take 16) = some (wakeCode.getLsbD (7 - i)) then codeMatches k (l.drop 16) (i + 1) else i
/-- The detector over the energy samples since it was armed: it aligns on the first that shows energy, and restarts at the next one after an interval
that does not follow the code; one complete match is a wake event (R200). -/
def wakeDetected : Nat → List Bool → Bool
  | 0, _ => false
  | k + 1, l =>
    let l := l.dropWhile (!·)
    let i := codeMatches 8 l 0
    i == 8 || wakeDetected k (l.drop (16 * (i + 1)))

/-- WAKE_EMISSION_END (R199). -/
def execWakeEmissionEnd (port : Fin 4) (s : State) : Host.Outcome State Fault Refusal :=
  s.upd fun n => n.wrBit ⟨0x300014, 4 + port.val, 1, 4⟩ false

/-! ### Snapshots (R209) -/

/-- Copy the sixteen counters of a port into its snapshot bank and clear them. -/
def Node.snapshot (n : Node) (p : Nat) : Node :=
  n.putWords ((List.range 16).flatMap fun k =>
    [(0x303000 + 64 * p + 4 * k, n.word (0x302000 + 64 * p + 4 * k)), (0x302000 + 64 * p + 4 * k, 0#32)])

/-- A word written to SNAP_CMD. It stands there until the copy is complete, while SNAP_CMD reads 0. The banks change at GO (R209; log entry 52). -/
def Node.snapGo (n : Node) (v : Word) : Node :=
  let all := F.SNAP_CMD_ALL.get v != 0
  let p := F.SNAP_CMD_PORT.get v
  n.when (F.SNAP_CMD_GO.get v != 0 && !n.bit F.SNAP_STATUS_BUSY && (all || decide (p ≤ 18))) fun n =>
    let n := n.each (if all then switchPorts else [p]) fun p n => n.snapshot p
    (n.putWord 0x30000C v).wrBit F.SNAP_STATUS_BUSY true
/-- SNAP_CMD_GO (R209). -/
def execSnapCmdGo (by_ : Initiator) (v : Word) (s : State) : Host.Outcome State Fault Refusal :=
  s.upd fun n => n.access by_ 0x3 (·.snapGo v)

/-- SNAPSHOT_COMPLETE (R209). SEQ, LAST_ALL and LAST_PORT change here, for which the spec says no more than 'with each snapshot' (DESIGN CHOICE, log
entry 52). -/
def execSnapshotComplete (s : State) : Host.Outcome State Fault Refusal :=
  s.upd fun n => n.when (n.bit F.SNAP_STATUS_BUSY) fun n =>
    let all := n.bit F.SNAP_CMD_ALL
    let n := ((n.wrBit F.SNAP_STATUS_BUSY false).incr F.SNAP_STATUS_SEQ).wrBit F.SNAP_STATUS_LAST_ALL all
    let n := n.when (!all) (·.wr F.SNAP_STATUS_LAST_PORT (n.rd F.SNAP_CMD_PORT))
    let n := n.when (n.bit F.SNAP_CMD_IRQ) (·.fire 15 0 0)
    n.putWord 0x30000C 0#32

end Sys2Proof.Machine
end

