-- ==== Sys2Proof/Machine/Mailbox.lean ====
section
/-! DEFINITION. The paths of the object dictionary: their mailboxes, the codes that carry an abort, sessions and segmented transfers (file 17
R477 to R479, R482, R484). -/

namespace Sys2Proof.Machine

/-- The mailbox of a path (R484). -/
def pathBox : Path → Option Nat
  | .hostMailbox m => some m
  | .remoteMailbox m => some (4 + m.val)
  | _ => none
/-- Home address of a mailbox, and of its data. -/
def boxBase (m : Nat) : Nat := 0x1000000 + 0x4000 * m
def boxData (m : Nat) : Nat := boxBase m + 0x1000

/-- The SDO abort code that carries an abort (R477). -/
def sdoAbort (a : Nat) : Nat :=
  if a = 0x01 then 0x06020000 else if a = 0x02 then 0x06090011 else if a = 0x03 then 0x06010001 else if a = 0x04 then 0x06010002
  else if a = 0x05 then 0x06010000 else if a = 0x06 then 0x06070010 else if a = 0x07 then 0x06090030
  else if a = 0x08 ∨ a = 0x09 ∨ a = 0x0C then 0x08000022
  else if a = 0x0A ∨ a = 0x11 ∨ a = 0x13 then 0x08000021
  else if a = 0x0B ∨ a = 0x10 then 0x08000020
  else if a = 0x0D then 0x05030000 else if a = 0x0E then 0x05040000 else 0x08000000
/-- The Type 15 exception that carries an abort (R477). -/
def type15Exception (a : Nat) : Nat :=
  if a ≤ 0x04 then 2 else if a = 0x05 ∨ a = 0x12 then 1 else if a = 0x06 ∨ a = 0x07 ∨ a = 0x0D then 3
  else if a = 0x08 ∨ a = 0x0A ∨ a = 0x0F ∨ a = 0x13 then 6 else 4
/-- An abort as a path carries it. -/
def carriedAbort (p : Path) (a : Nat) : Nat :=
  match p with
  | .sdo _ => sdoAbort a
  | .type15 _ _ => type15Exception a
  | _ => a

/-! ### Sessions (R478, R479) -/

/-- A public session of a path. -/
def newSession (p : Path) : Session := ⟨p, 0, 0, none, [], none, 0, 0⟩
/-- The session of a path. -/
def Node.sessionOf (n : Node) (p : Path) : Session := (n.vnt.sessions.find? (·.path == p)).getD (newSession p)
def Node.setSession (n : Node) (s : Session) : Node :=
  { n with vnt := { n.vnt with sessions := s :: n.vnt.sessions.filter (·.path != s.path) } }
/-- The session of a path is over: it is public again, and a connection carries no tags. -/
def Node.endSession (n : Node) (p : Path) : Node := { n with vnt := { n.vnt with sessions := n.vnt.sessions.filter (·.path != p) } }
/-- The session of a path returns to public. A maintenance connection whose role has been raised goes on carrying tags (R527). -/
def Node.publicSession (n : Node) (p : Path) : Node :=
  match (n.sessionOf p).tagged with
  | none => n.endSession p
  | some _ => n.setSession { n.sessionOf p with role := 0, asked := 0, challenge := none }
/-- The accesses of a path that wait for a commit or a store write end without completion; what they have set off goes on (R479, R481). -/
def Node.dropWaits (n : Node) (p : Path) : Node :=
  { n with vnt := { n.vnt with
      odCommits := n.vnt.odCommits.filter (·.path != p), restores := n.vnt.restores.filter (·.path != p)
      asks := n.vnt.asks.filter (·.path != p) } }
/-- The role in force: 0 public, 1 operator, 2 maintainer, 3 vendor (R473). -/
def Node.roleOf (n : Node) (p : Path) : Nat := (n.sessionOf p).role

/-! ### Segmented transfers (R482) -/

/-- Bytes of a segment: a TRDP dataset carries 1,024, the mailboxes and the maintenance path 4,096, an SDO segment 7 (R484 to R488). -/
def segmentSize : Path → Nat
  | .trdp _ => 1024
  | .sdo _ => 7
  | _ => 4096
/-- The transfer of a path. -/
def Node.transferOf (n : Node) (p : Path) : Option Transfer := n.vnt.transfers.find? (·.path == p)
/-- A segmented read of an area of the book runs (R506). -/
def Node.readsBook (n : Node) : Bool := n.vnt.transfers.any fun (t : Transfer) => !t.write && (t.index == 0x2E10 || t.index == 0x2E11)
/-- The transfer of a path is over; the freeze that a segmented read of the book began ends with its last one (R506). -/
def Node.dropTransfer (n : Node) (p : Path) : Node :=
  let n := { n with vnt := { n.vnt with transfers := n.vnt.transfers.filter (·.path != p) } }
  { n with book := { n.book with odReadout := n.book.odReadout && n.readsBook } }
/-- A transfer begins, or goes on, on its path. -/
def Node.putTransfer (n : Node) (t : Transfer) : Node :=
  let n := { n with vnt := { n.vnt with transfers := t :: n.vnt.transfers.filter (·.path != t.path) } }
  { n with book := { n.book with odReadout := n.book.odReadout && n.readsBook } }
/-- A segmented read of the book freezes it from its first segment (R506). -/
def Node.freezeReadout (n : Node) : Node := { n with book := { n.book with odReadout := n.readsBook } }
/-- Bytes of the first segment: an SDO upload of more than 4 bytes is initiated without data (R486). -/
def firstSegment (p : Path) (len : Nat) : Nat :=
  match p with
  | .sdo _ => if len ≤ 4 then len else 0
  | _ => min (segmentSize p) len
/-- Toggle of the initiation, as the next segment alternates from it; the first SDO segment carries 0. -/
def firstToggle : Path → Bool
  | .sdo _ => true
  | _ => false

end Sys2Proof.Machine
end

