-- ==== Sys2Proof/Machine/Vault.lean ====
section
/-! DEFINITION. The vault (file 19): slots, update sessions, admission of Vintages, owner and role keys, anti-rollback counters and
attestation. Activation, confirmation and fall-back are in Trial.lean. -/

namespace Sys2Proof.Machine

/-! ### Slots (R515, R516, R520) -/

/-- The state of a slot, as SEC_STATUS shows it. -/
def slotField (k : Nat) : Field := if k = 1 then F.SEC_STATUS_STATE_B else F.SEC_STATUS_STATE_A
def Node.slotState (n : Node) (k : Nat) : Nat := n.rd (slotField k)
def Node.setSlot (n : Node) (k v : Nat) : Node := n.wr (slotField k) v
/-- The slot in a state, if one is. -/
def Node.slotIn (n : Node) (v : Nat) : Option Nat := [0, 1].find? fun k => n.slotState k == v
/-- The slot in force: the one on trial, else the confirmed one (R520). -/
def Node.slotInForce (n : Node) : Option Nat :=
  match n.slotIn 3 with
  | some k => some k
  | none => n.slotIn 4
/-- Home address of the serial NOR, and of a slot in it (R515). -/
def norBase : Nat := 0x80000000
def slotBase (k : Nat) : Nat := norBase + (if k = 1 then 0x5000000 else 0x1000000)
/-- Bytes of a slot. -/
def slotSize : Nat := 0x4000000
/-- A header that was never written. -/
def noHeader (_ : Nat) : VintageHeader := ⟨0#32, 0, 0#32, 0, 0#256, [], none⟩
/-- The header of the Vintage in a slot. -/
def Node.slotHeader (n : Node) (k : Nat) : VintageHeader := SMap.get noHeader n.vault.headers k
def Node.setSlotHeader (n : Node) (k : Nat) (h : VintageHeader) : Node :=
  { n with vault := { n.vault with headers := SMap.set noHeader n.vault.headers k h } }
/-- LAST_ERR of SEC_STATUS. -/
def Node.lastErr (n : Node) (r : Nat) : Node := n.wr F.SEC_STATUS_LAST_ERR r

/-! ### Admission (R517, R518) -/

/-- Reason code of a finding (R517). -/
def faultReason : VintageFault → Nat
  | .header => 1
  | .layout => 6
  | .ed25519 => 2
  | .mldsa => 3
  | .digest => 4
  | .release => 7
/-- The SVNs of a header by counter: its own at counter 1, then its sections'. -/
def headerSvns (h : VintageHeader) : List (Nat × Nat) := (1, h.svn) :: h.svns
/-- Every SVN is at or above its counter (R517). -/
def Node.svnsOk (n : Node) (h : VintageHeader) : Bool := (headerSvns h).all fun e => decide (n.rollback e.1 ≤ e.2)
/-- The reason for which a Vintage is refused, in R517's order. -/
def Node.vintageRefusal (n : Node) (why : Option VintageFault) (h : VintageHeader) : Option Nat :=
  match why with
  | some .header => some 1
  | some .layout => some 6
  | _ =>
    if (n.owner h.keySlot).isNone then some 8
    else
      match why with
      | some f => some (faultReason f)
      | none => if n.svnsOk h then none else some 5
/-- A refusal is counted and recorded with the slot and the reason (R517). -/
def Node.slotRefused (n : Node) (slot reason : Nat) : Node :=
  if reason = 5 then (n.count CNT_SEC_ROLLBACK).raise 0x0F03 [slot, reason] else (n.count CNT_SEC_SIG_FAIL).raise 0x0F02 [slot, reason]

/-! ### The header in a slot (R516) -/

/-- A little-endian field of the Vintage in a slot, by its offset and length. -/
def Node.slotNum (n : Node) (k ofs len : Nat) : Nat := leNat (n.bytes (slotBase k + ofs) len)
/-- SEC_COUNT, as far as it is in range. -/
def Node.secCount (n : Node) (k : Nat) : Nat := min (n.slotNum k 6 2) 64
/-- Section entry `i`: TYPE, IMAGE, OFFSET, LEN and SVN. -/
def Node.secEntry (n : Node) (k i : Nat) : Nat × Nat × Nat × Nat × Nat :=
  let e := 64 + 48 * i
  (n.slotNum k e 2, n.slotNum k (e + 2) 2, n.slotNum k (e + 4) 4, n.slotNum k (e + 8) 4, n.slotNum k (e + 12) 4)
/-- The section entries of a slot. -/
def Node.secEntries (n : Node) (k : Nat) : List (Nat × Nat × Nat × Nat × Nat) := (List.range (n.secCount k)).map (n.secEntry k)
/-- MAGIC, HDR_VER and DEV_ID are right and the stepping, 0xB1, is admitted (R516, R517). -/
def Node.magicOk (n : Node) (k : Nat) : Bool :=
  n.slotNum k 0 4 == 0x47544E56 && n.slotNum k 4 2 == 1 && n.slotNum k 24 4 == 0x4B589640 && decide (n.slotNum k 28 1 ≤ 0xB1)
/-- Two spans share no byte. -/
def apart (a b : Nat × Nat) : Bool := decide (a.1 + a.2 ≤ b.1) || decide (b.1 + b.2 ≤ a.1) || a.2 == 0 || b.2 == 0
/-- No span of a list shares a byte with a later one. -/
def allApart : List (Nat × Nat) → Bool
  | [] => true
  | a :: t => t.all (apart a) && allApart t
/-- LENGTH and SEC_COUNT are in range, and the sections lie within LENGTH and apart (R517). -/
def Node.layoutOk (n : Node) (k : Nat) : Bool :=
  let len := n.slotNum k 8 4
  let spans := (n.secEntries k).map fun e => (e.2.2.1, e.2.2.2.1)
  decide (len ≤ slotSize) && decide (1 ≤ n.slotNum k 6 2) && decide (n.slotNum k 6 2 ≤ 64) &&
    spans.all (fun s => decide (s.1 + s.2 ≤ len)) && allApart spans
/-- The header of the Vintage in a slot, read from its bytes (R516): the firmware's SVN belongs to counter 0, an image's to its own. -/
def Node.readHeader (n : Node) (k : Nat) : VintageHeader :=
  let es := n.secEntries k
  { version := BitVec.ofNat 32 (n.slotNum k 12 4)
    svn := n.slotNum k 16 4
    compat := BitVec.ofNat 32 (n.slotNum k 20 4)
    keySlot := Fin.ofNat 4 (n.slotNum k 29 1)
    digest := Config.sha256 (n.bytes (slotBase k) (64 + 48 * n.secCount k))
    svns := es.filterMap fun e => if e.1 = 1 then some (0, e.2.2.2.2) else if e.1 = 2 then some (e.2.1 + 1, e.2.2.2.2) else none
    fwDigest := ((List.range (n.secCount k)).find? fun i => (n.secEntry k i).1 == 1).map fun i =>
      BitVec.ofNat 256 (n.slotNum k (64 + 48 * i + 16) 32) }
/-- The reason for which FINISH refuses the Vintage in a slot, in R517's order. What its bytes alone do not show comes with `why`. -/
def Node.slotRefusal (n : Node) (k : Nat) (why : Option VintageFault) : Option Nat :=
  if !n.magicOk k then some 1
  else if !n.layoutOk k then some 6
  else if 3 < n.slotNum k 29 1 ∧ why ≠ some .header ∧ why ≠ some .layout then some 8
  else n.vintageRefusal why (n.readHeader k)

/-! ### Update sessions (R521, R525, R526) -/

/-- Keys of UPD_CMD (R529). -/
def updKey : Half := 0x9A47#16
/-- SESSION of SEC_STATUS for a path. -/
def sessionCode (p : Path) : Nat := if p = .register then 1 else 2
/-- Roles that a step needs, and the abort of one that is turned away for its path; the register path is closed outside Run (R521, R526). -/
def Node.updDenied (n : Node) (p : Path) : Option Nat :=
  match p with
  | .register => if n.power == .run then none else some 0
  | .trdp _ => if n.cfBit F.SEC_CFG_UPD_TRDP_EN && decide (2 ≤ n.roleOf p) then none else some 5
  | _ => if 2 ≤ n.roleOf p then none else some 5
/-- The path owns the running session, and no operation runs over its slot. -/
def Node.ownsSession (n : Node) (p : Path) : Bool := n.vault.session.any (·.path == p) && n.vault.verifying.isNone
/-- The session ends; its slot takes a state. -/
def Node.closeSession (n : Node) (slot v : Nat) : Node :=
  let n := { n with vault := { n.vault with session := none, verifying := none } }
  ((n.setSlot slot v).wr F.SEC_STATUS_SESSION 0).wrBit F.SEC_STATUS_BUSY false
/-- The session ends early and its slot is empty (R521). -/
def Node.dropSession (n : Node) : Node :=
  match n.vault.session with
  | none => n
  | some u => ((n.closeSession u.slot 0).count CNT_UPD_ABORT).raise 0x0F07 [u.slot]

/-- OPEN (R521, R525). -/
def Node.updOpen (n : Node) (p : Path) (slot : Nat) : Node :=
  if n.vault.session.isSome then n.lastErr 0x10
  else if n.slotInForce = some slot then n
  else
    let n := { n with vault := { n.vault with session := some ⟨p, slot⟩ } }
    let n := ((n.setSlot slot 1).wr F.UPD_NEXT 0).wr F.SEC_STATUS_SESSION (sessionCode p)
    n.raise 0x0F07 [slot]
/-- A chunk at an offset (R521). -/
def Node.updWrite (n : Node) (p : Path) (ofs : Nat) (bytes : List Byte) : Node :=
  match n.vault.session with
  | none => n
  | some u =>
    n.when (n.ownsSession p && ofs == n.rd F.UPD_NEXT && decide (bytes.length ≤ 4096) && decide (ofs + bytes.length ≤ slotSize)) fun n =>
      (n.putBytes (slotBase u.slot + ofs) bytes).wr F.UPD_NEXT (ofs + bytes.length)
/-- The chunk buffer of the register path (R529). -/
def chunkBuffer : Nat := 0xF10000
/-- A chunk of `len` bytes of the chunk buffer, at UPD_NEXT (R529). -/
def Node.chunkGo (n : Node) (len : Nat) : Node := n.updWrite .register (n.rd F.UPD_NEXT) (n.bytes chunkBuffer len)
/-- FINISH (R521). -/
def Node.updFinish (n : Node) (p : Path) : Node :=
  n.when (n.ownsSession p) fun n =>
    let n := { n with vault := { n.vault with verifying := n.vault.session.map fun (u : UpdSession) => u.slot } }
    n.wrBit F.SEC_STATUS_BUSY true
/-- ABORT (R521). -/
def Node.updAbort (n : Node) (p : Path) : Node := n.when (n.vault.session.any (·.path == p)) Node.dropSession

/-- UPD_SESSION_TIMEOUT (R521). -/
def execUpdSessionTimeout (s : State) : Host.Outcome State Fault Refusal :=
  s.upd fun n => n.when n.vault.verifying.isNone Node.dropSession
/-- SLOT_VERIFY_DONE (R516, R517, R521): the header is read from the bytes of the slot; the session of FINISH ends with it. -/
def execSlotVerifyDone (why : Option VintageFault) (s : State) : Host.Outcome State Fault Refusal :=
  s.upd fun n =>
    match n.vault.verifying with
    | none => n
    | some k =>
      let r := n.slotRefusal k why
      let n := n.setSlotHeader k (n.readHeader k)
      match r with
      | none => (n.closeSession k 2).raise 0x0F01 [k]
      | some r => ((n.closeSession k 5).lastErr r).slotRefused k r

/-! ### Owner and role keys (R511, R512) -/

/-- What an owner-change record says, with what the check of its two signatures finds. -/
structure OwnerRecord where
  signer : Nat
  slot : Nat
  key : Option (BitVec 256)
  counter : Nat
  edOk : Bool
  mldsaOk : Bool
  deriving DecidableEq, Repr

/-- A record is refused for a reason (R511). -/
def Node.ownerRefused (n : Node) (slot r : Nat) : Node :=
  if r = 5 then (n.count CNT_SEC_ROLLBACK).raise 0x0F03 [slot, 16] else (n.count CNT_SEC_SIG_FAIL).raise 0x0F02 [slot, r]
/-- The vault takes an owner-change record, or refuses it (R511): signer, signatures, counter, last filled slot (log entry 23). -/
def Node.ownerChange (n : Node) (o : OwnerRecord) : Node :=
  let others := [0, 1, 2, 3].any fun k => k != o.slot && (n.owner k).isSome
  if (n.owner o.signer).isNone then n.ownerRefused o.slot 8
  else if !o.edOk then n.ownerRefused o.slot 2
  else if !o.mldsaOk then n.ownerRefused o.slot 3
  else if o.counter ≠ n.rollback 16 + 1 then n.ownerRefused o.slot 5
  else if o.key.isNone && !others then n.ownerRefused o.slot 8
  else
    let n := { n with vault := { n.vault with owners := SMap.set (fun _ => none) n.vault.owners o.slot o.key } }
    let n := (n.raiseCounter 16 (n.rollback 16 + 1)).measureOwners
    (n.extendMeas 5 (Config.ownerRecordDigest o.slot o.key o.counter)).raise 0x0F09 [o.slot]
/-- The record that a byte string written to OD 0x2F21 holds. Its format is not in the spec (log entry 33). -/
def ownerRecordOf (b : List Byte) : OwnerRecord :=
  ⟨Config.ownerRecordSigner b % 4, Config.ownerRecordSlot b % 4, Config.ownerRecordKey b, Config.ownerRecordCounter b,
    Config.ownerRecordSigned b, Config.ownerRecordSignedMldsa b⟩
/-- The key of a role: 1 operator, 2 maintainer, 3 vendor (R512). -/
def Node.roleKey (n : Node) (r : Nat) : BitVec 256 := (SMap.get (fun _ => none) n.vault.roleKeys r).getD (Config.factoryRoleKey r)
/-- A session at a role writes a key for its role or one below (R512). -/
def Node.roleKeyDenied (n : Node) (path : Path) (role : Nat) : Bool := decide (n.roleOf path < role) || n.roleOf path == 0
/-- The vault takes a role key (R512). -/
def Node.setRoleKey (n : Node) (role : Nat) (key : BitVec 256) : Node :=
  let n := { n with vault := { n.vault with roleKeys := SMap.set (fun _ => none) n.vault.roleKeys role (some key) } }
  (n.extendMeas 5 (Config.roleRecordDigest role key)).raise 0x0F0A [role]

/-! ### Attestation (R528) -/

/-- Bytes 0 to 383 of a quote. -/
def Node.quoteBody (n : Node) (nonce : BitVec 256) : List Byte :=
  let slots := n.slotState 0 + 16 * n.slotState 1 + (if n.slotInForce = some 1 then 256 else 0)
  natLe 0x4B589640 4 ++ natLe Config.serialNumber.toNat 4 ++ natLe (n.runMillis / 1000) 4 ++ natLe n.book.pcc 4 ++
    digestBytes nonce ++ (List.range 8).flatMap n.measBytes ++ (List.range 16).flatMap (fun k => natLe (n.rollback k) 4) ++
    natLe slots 4 ++ List.replicate 12 0#8
/-- A quote over a nonce begins (R528). -/
def Node.startQuote (n : Node) (nonce : BitVec 256) : Node :=
  { n with vault := { n.vault with quote := some ⟨nonce, false, []⟩ } }
/-- ATTEST_QUOTE_READY (R528). -/
def execAttestQuoteReady (s : State) : Host.Outcome State Fault Refusal :=
  s.upd fun n =>
    match n.vault.quote with
    | some q => n.when (!q.ready) fun n =>
        let body := n.quoteBody q.nonce
        let n := { n with vault := { n.vault with quote := some ⟨q.nonce, true, body ++ Config.quoteSignatures body⟩ } }
        n.raise 0x0F0C []
    | none => n
/-- The quote, where one is ready. -/
def Node.quoteReady (n : Node) : Option (List Byte) :=
  match n.vault.quote with
  | some q => if q.ready then some q.body else none
  | none => none
end Sys2Proof.Machine
end

