-- ==== Sys2Proof/Machine/Replies.lean ====
section
/-! DEFINITION. How an object-dictionary access ends on its path (file 17 R477, R480, R483 to R488, file 19 R527), and what the outcome of a
commit does to the writes that wait for it (R102). -/

namespace Sys2Proof.Machine

/-! ### Requests and replies with the command header (R483) -/

/-- A request of no command: what answers a path that has made none. -/
def noAsk (p : Path) : OdAsk := ⟨p, 0, false, 0, 0, 0, false⟩
/-- The request of a path. -/
def Node.askOf (n : Node) (p : Path) : OdAsk := (n.vnt.asks.find? (·.path == p)).getD (noAsk p)
/-- A request reaches the server on a path without a mailbox. -/
def Node.setAsk (n : Node) (a : OdAsk) : Node :=
  n.when ((pathBox a.path).isNone && a.path != .register) fun n =>
    { n with vnt := { n.vnt with asks := a :: n.vnt.asks.filter (·.path != a.path) } }
/-- The 16 bytes of a header (R483). -/
def OdHeader.bytes (h : OdHeader) : List Byte :=
  natLe h.op 1 ++ natLe ((if h.toggle then 1 else 0) + (if h.more then 2 else 0)) 1 ++ natLe h.index 2 ++ natLe h.sub 1 ++ natLe h.abort 1 ++
    natLe h.arg 2 ++ natLe h.total 4 ++ natLe h.len 4
/-- The node-ID of a Press's image, from its configuration (R486, R516). -/
def Node.nodeId (n : Node) (p : Nat) : Nat :=
  match n.images.find? (·.id == n.cf (F.PRESS_CFG_IMAGE.at p)) with
  | some i => ((i.configs.find? (·.press.val == p)).map (·.nodeId.val)).getD 0
  | none => 0
/-- COB-IDs of an SDO server: requests and responses (R486). -/
def sdoRequestId (node : Nat) : Nat := 0x600 + node
def sdoResponseId (node : Nat) : Nat := 0x580 + node
/-- The eight bytes of an SDO response (PRESUMED, the format of EN 50325-4, log entry 89): abort, upload initiation and segment, download initiation
and segment. The response to a segment carries data where it belongs to an upload. -/
def sdoBytes (h : OdHeader) (carried : Nat) (data : List Byte) : List Byte :=
  let mux := natLe h.index 2 ++ natLe h.sub 1
  let pad (l : List Byte) (k : Nat) : List Byte := l ++ List.replicate (k - l.length) 0#8
  let t := if h.toggle then 16 else 0
  if h.abort ≠ 0 then [0x80#8] ++ mux ++ natLe carried 4
  else if h.op = 1 then
    if h.more then [0x41#8] ++ mux ++ natLe h.total 4 else [BitVec.ofNat 8 (0x43 + 4 * (4 - data.length))] ++ mux ++ pad data 4
  else if h.op = 2 then [0x60#8] ++ mux ++ pad [] 4
  else if h.op = 3 then
    if data.isEmpty then BitVec.ofNat 8 (0x20 + t) :: pad [] 7
    else BitVec.ofNat 8 (t + 2 * (7 - data.length) + if h.more then 0 else 1) :: pad data 7
  else pad [] 8
/-- A response frame of a Press's SDO server (R486). -/
def Node.sdoFrame (n : Node) (p : Fin 16) (h : OdHeader) (carried : Nat) (data : List Byte) : CanFrame :=
  { ide := false, fdf := false, brs := false, esi := false, rtr := false, id := BitVec.ofNat 29 (sdoResponseId (n.nodeId p)), dlc := 8#4
    data := sdoBytes h carried data }
/-- Counter and tag of the next message of a maintenance connection whose role has been raised (R527). -/
def Node.nextTag (n : Node) (p : Path) (bytes : List Byte) : Option (Nat × BitVec 256) :=
  let s := n.sessionOf p
  s.tagged.map fun key => (s.sent + 1, Config.hmac (natLe key.toNat 32) (bytes ++ natLe (s.sent + 1) 4))
/-- It has been sent. -/
def Node.tagSent (n : Node) (p : Path) : Node :=
  let s := n.sessionOf p
  n.when s.tagged.isSome (·.setSession { s with sent := s.sent + 1 })
/-- The mailbox area of a Press's Type 15 server (R487). -/
def Node.t15Box (n : Node) (p : Nat) : T15Box := SMap.get (fun _ => ⟨[], [], false⟩) n.vnt.t15 p
def Node.setT15Box (n : Node) (p : Nat) (b : T15Box) : Node :=
  { n with vnt := { n.vnt with t15 := SMap.set (fun _ => ⟨[], [], false⟩) n.vnt.t15 p b } }
/-- Bytes laid into a register area at an offset; what lies before them and has not been written reads 0. -/
def spread (area : List Byte) (ofs : Nat) (bytes : List Byte) : List Byte :=
  (area ++ List.replicate (ofs - area.length) 0#8).take ofs ++ bytes ++ area.drop (ofs + bytes.length)
/-- The replier session of the Vintner on which a caller's request to the dictionary waits for its reply (R485). -/
def Node.odSession (n : Node) (src : Ip) : Option Nat :=
  n.sessionsInUse.find? fun k => n.cfBit (F.SES_ROLE.at k) && n.cf (F.SES_OWNER.at k) == 1 && n.sesState k == 6 &&
    (n.ses k).request.any fun t => t.src == src && t.comId.toNat == n.cf F.OD_COMID
/-- A reply to a request dataset goes out with OD_COMID + 1, from the session's out buffer (R485). -/
def Node.trdpReply (n : Node) (src : Ip) (bytes : List Byte) : Node :=
  match n.odSession src with
  | some k => (n.dsPut (n.outBuffer k) (natLe bytes.length 4 ++ bytes)).replierSend k (BitVec.ofNat 32 (n.cf F.OD_COMID + 1))
  | none => n
/-- A reply leaves on its path: a TRDP message, the registers of a Type 15 mailbox area, an SDO response or a message. On a unit of a pair that is
not active nothing leaves on VP (R467). -/
def Node.sendReply (n : Node) (a : OdAsk) (h : OdHeader) (data : List Byte) : Node :=
  let carried := carriedAbort a.path h.abort
  let plain : OdReply := ⟨a.path, h, data, carried, none, none⟩
  match a.path with
  | .maint _ => n.when (!n.standby) fun n => (n.emit (.odReply { plain with tag := n.nextTag a.path (h.bytes ++ data) })).tagSent a.path
  | .trdp src => n.when (!n.standby) fun n => (n.emit (.odReply plain)).trdpReply src (h.bytes ++ data)
  | .sdo p => n.emit (.odReply { plain with frame := some (n.sdoFrame p h carried data) })
  | .type15 p _ =>
    if a.boxed then n.setT15Box p ⟨h.bytes, spread (n.t15Box p).data 0 data, false⟩ else n.emit (.odReply plain)
  | _ => n
/-- The reply to a path's request. -/
def Node.answerPath (n : Node) (p : Path) (abort arg total : Nat) (more : Bool) (data : List Byte) : Node :=
  let a := n.askOf p
  n.sendReply a ⟨a.op, a.toggle, more, a.index, a.sub, abort, arg, total, data.length⟩ data

/-- The access or segment is complete: the mailbox shows it and its vector fires, another path gets its reply (R477, R483, R484). -/
def Node.odEnd (n : Node) (p : Path) (irq : Bool) (abort arg : Nat) (more : Bool) : Node :=
  let n := n.when (abort != 0) (·.count CNT_OD_ABORT)
  match pathBox p with
  | some m =>
    let n := (n.wrBit (F.MBOX_BUSY.at m) false).wrBit (F.MBOX_DONE.at m) true
    let n := ((n.wrBit (F.MBOX_MORE.at m) more).wr (F.MBOX_ABORT.at m) abort).wr (F.MBOX_ARG.at m) arg
    n.when (irq && decide (m < 4)) (·.fire 52 0 m)
  | none => n.answerPath p abort arg (n.askOf p).total more []
/-- An access ends with an abort. -/
def Node.odAbort (n : Node) (p : Path) (irq : Bool) (abort : Nat) : Node := n.odEnd p irq abort 0 false
/-- A reply with data: one segment of `total` bytes in all. -/
def Node.odReply (n : Node) (p : Path) (irq : Bool) (data : List Byte) (total : Nat) (more : Bool) : Node :=
  match pathBox p with
  | some m => (((n.putBytes (boxData m) data).wr (F.MBOX_TOTAL.at m) total).wr (F.MBOX_SEGLEN.at m) data.length).odEnd p irq 0 0 more
  | none => n.answerPath p 0 0 total more data
/-- The first segment of an entry's value; the rest waits for further segments. -/
def Node.odSend (n : Node) (p : Path) (index sub : Nat) (irq : Bool) (value : List Byte) : Node :=
  let k := firstSegment p value.length
  let n := n.odReply p irq (value.take k) value.length (decide (k < value.length))
  if k < value.length then (n.putTransfer ⟨p, index, sub, false, value.length, value.drop k, firstToggle p, irq⟩).freezeReadout else n

/-- The commit of a group has ended with `code`: the writes that wait for it complete, or reload what they wrote and abort (R102). -/
def Node.odOutcome (n : Node) (g code : Nat) : Node :=
  let mine := n.vnt.odCommits.filter (·.group == g)
  let n := { n with vnt := { n.vnt with odCommits := n.vnt.odCommits.filter (·.group != g) } }
  n.each mine fun w n =>
    let n := n.setAsk w.ask
    if code = 0 then n.odEnd w.path w.irq 0 0 false
    else (n.putShadows (w.words.map fun a => (a, n.forceWord a))).odEnd w.path w.irq 0x0B code false

end Sys2Proof.Machine
end

