-- ==== Sys2Proof/Machine/Time.lean ====
section
/-! DEFINITION. The time base and network time (file 13), and what a step of the active time does to the Trellis (file 05 R107 to R110). -/

namespace Sys2Proof.Machine

/-! ### The Trellis follows the active time (R107 to R110) -/

/-- A phase correction of `err` ns that stands from now on, and from which a slew falls. -/
def Node.standPhase (n : Node) (err : Int) : Node :=
  Node.wr { n with trellis := { n.trellis with slewFrom := n.activeNs.toNat } } F.PHASE_ERR_ERR (BitVec.ofInt 32 err).toNat
/-- A step of `d` ns of the active time, with `phase` the correction before it, or the first acquisition after the state "local" (R108): above
10 µs, and at a first acquisition, a hard re-phase is due after the running cycle; else the step is slewed away. Schedule time does not step, so
the correction takes the step up (R110). In a re-phase gap the new timeline itself moves (DESIGN CHOICE, log entry 56). PHASE_STATE keeps its value
until the gap begins, and event 0x0104 carries the step in ns as 32-bit two's complement (DESIGN CHOICE, log entry 78). -/
def Node.followStep (n : Node) (phase d : Int) (first : Bool) : Node :=
  n.when (n.bit F.TRL_STATUS_RUNNING && !n.trellis.gap) fun n =>
    let n := n.standPhase (phase - d)
    if first || decide (10000 < d.natAbs) then { n with trellis := { n.trellis with rephaseDue := true } }
    else (n.wr F.TRL_STATUS_PHASE_STATE 2).raise 0x0104 [(BitVec.ofInt 32 d).toNat]

/-! ### The active time (R366, R367) -/

/-- Domain d's view field STEP_SEQ counts a step. -/
def Node.countStep (n : Node) (v : Nat) : Node :=
  n.wr (F.VIEW_STEP_SEQ.at v) ((n.rd (F.VIEW_STEP_SEQ.at v) + 1) % 65536)
/-- What a step of the active time makes of PPS_OUT (R373): the whole seconds that it crosses get no pulse, and a pulse in progress ends where the
time has left its 100 ms. -/
def Node.stepPps (n : Node) (old : Nat) : Node :=
  let new := n.activeNs.toNat
  let crossed := max old new / 1000000000
  let n := n.when (min old new / 1000000000 != crossed) fun n =>
    { n with time := { n.time with ppsSecond := max n.time.ppsSecond crossed } }
  let rise := n.time.ppsRise * 1000000000
  n.when (new < rise || rise + 100000000 ≤ new) fun n => { n with pins := { n.pins with ppsOut := false } }
/-- Step a view by `d` ns: BASE alone changes (R355, R356). -/
def Node.stepView (n : Node) (v : Nat) (d : Int) : Node :=
  let w := n.view v
  let old := n.activeNs.toNat
  ((n.setView v { w with base := w.base + BitVec.ofInt 64 d }).countStep v).when (v == 2) (·.stepPps old)
/-- A view runs on at a rate: ANCHOR and BASE move only where it changes (R355). -/
def Node.rateView (n : Node) (v : Nat) (r : Word) : Node := n.when ((n.view v).rate != r) fun n => n.setView v ((n.view v).setRate n.time.raw r)
/-- 10 ppm in units of 2⁻⁴⁰, rounded down (R367). -/
def tenPpm : Int := 10995116
/-- DOM_STATUS.STATE is locked. -/
def Node.domLocked (n : Node) (d : Nat) : Bool := n.rd (F.DOM_STATUS_STATE.at d) == 2

/-- The active time follows domain `d`: it takes the rate, and slews or steps the difference away (R367). -/
def Node.followSource (n : Node) (d : Nat) (first : Bool) : Node :=
  let diff := (n.viewNs d).toInt - (n.viewNs 2).toInt
  let rate := (n.view d).rate
  let phase := n.phaseNow
  if diff = 0 then
    let n := (n.rateView 2 rate).wrBit F.TIME_STATUS_SLEWING false
    n.when first (·.followStep phase 0 true)
  else if diff.natAbs ≤ 1000 then
    let r := BitVec.ofInt 32 (rate.toInt + (if 0 < diff then tenPpm else -tenPpm))
    let n := (n.rateView 2 r).wrBit F.TIME_STATUS_SLEWING true
    let n := { n with time := { n.time with slewNs := diff } }
    n.when first (·.followStep phase 0 true)
  else
    let n := ((n.rateView 2 rate).stepView 2 diff).wrBit F.TIME_STATUS_SLEWING false
    let n := (n.count CNT_TIME_STEP).raise 0x0904 [(BitVec.ofInt 64 diff).toNat]
    n.followStep phase diff first

/-- The active time takes domain `d` as its source. -/
def Node.takeSource (n : Node) (d : Nat) : Node :=
  let old := n.rd F.TIME_STATUS_SOURCE
  let diff := (n.viewNs d).toInt - (n.viewNs 2).toInt
  let n := n.wr F.TIME_STATUS_SOURCE (d + 1)
  let n := if old = 3 then n.raise 0x0906 [d + 1] else n.raise 0x0903 [old, d + 1, (BitVec.ofInt 64 diff).toNat]
  n.followSource d (old == 0)

/-- Choose the source anew after a domain has changed its state (R366). -/
def Node.chooseSource (n : Node) : Node :=
  let src := n.rd F.TIME_STATUS_SOURCE
  let prim := n.cf F.TIME_CFG_PRIMARY
  if (src = 1 ∧ n.domLocked 0) ∨ (src = 2 ∧ n.domLocked 1) then n
  else if n.domLocked prim then n.takeSource prim
  else if n.domLocked (1 - prim) then n.takeSource (1 - prim)
  else if src = 1 ∨ src = 2 then
    ((n.wr F.TIME_STATUS_SOURCE 3).wrBit F.TIME_STATUS_SLEWING false).raise 0x0905 []
  else n

/-- Consecutive Sync messages with an offset of 100 ns or less. -/
def Node.goodSyncs (n : Node) (d : Nat) : Nat := SMap.get (fun _ => 0) n.time.goodRun d
def Node.setGoodSyncs (n : Node) (d k : Nat) : Node :=
  { n with time := { n.time with goodRun := SMap.set (fun _ => 0) n.time.goodRun d k } }
/-- A domain begins acquiring, or is disabled (R357, R365). -/
def Node.startDomain (n : Node) (d : Nat) : Node :=
  let n := ((n.setGoodSyncs d 0).wr (F.DOM_STATUS_RX_PORT.at d) 0xFF).putWord (txPortsHome d) 0#32
  n.wr (F.DOM_STATUS_STATE.at d) (if n.cfBit (F.DOM_CFG_ENABLE.at d) then 1 else 0)

/-- The clock source and PPS_OUT follow the configuration in force (R371, R373). -/
def Node.clockApplied (n : Node) : Node :=
  let n := n.when (!n.cfBit F.TIME_CFG_CLK_SRC) (·.wrBit F.TIME_STATUS_CLK10_OK false)
  n.when (!n.cfBit F.TIME_CFG_PPS_OUT_EN) fun n => { n with pins := { n.pins with ppsOut := false } }
/-- A commit of group 0x90 takes effect (R371, R373, R375). -/
def Node.timeApplied (n before : Node) : Node :=
  let n := n.each [0, 1] fun d n =>
    n.when (before.forceWord (F.DOM_CFG_ENABLE.at d).addr != n.forceWord (F.DOM_CFG_ENABLE.at d).addr) (·.startDomain d)
  n.clockApplied.chooseSource

/-- Time restarts from 0 (R354, R357): power-good and waking. -/
def Node.timeRestart (n : Node) : Node :=
  let zero : View := ⟨0#64, 0#64, 0#32⟩
  { n with time := { n.time with
    raw := 0#64, d0 := zero, d1 := zero, act := zero, goodRun := [], slewNs := 0, gmSeconds := 0#64, ppsSecond := 0, ppsRise := 0 } }

/-! ### Commands -/

/-- PTP_SYNC_RECEIVED (R364, R365): the offset is the view's time less the time transmitter's; the servo takes the rate, steps an offset above 1 µs
away, and locks after eight good messages. `port` and `tx` are the port states as the best time-transmitter clock algorithm, or the external port
configuration, has set them. -/
def execPtpSyncReceived (d : Fin 2) (offsetNs : Int) (rate : Word) (port : Fin 16) (tx : BitVec 16) (s : State) : Host.Outcome State Fault Refusal :=
  s.upd fun n => n.when (n.powered && !n.islandDown 6 && n.cfBit (F.DOM_CFG_ENABLE.at d) && n.rd (F.DOM_STATUS_STATE.at d) != 0 &&
      n.cf (F.DOM_CFG_PORTS.at d) / 2 ^ port.val % 2 == 1) fun n =>
    let n := (n.wr (F.VIEW_OFS_ERR.at d) (BitVec.ofInt 32 offsetNs).toNat).wr (F.DOM_STATUS_RX_PORT.at d) port
    let n := n.putWord (txPortsHome d) (tx.zeroExtend 32)
    let n := n.rateView d rate
    let locked := n.domLocked d
    let n := n.when (decide (1000 < offsetNs.natAbs)) fun n =>
      (n.stepView d (-offsetNs)).when locked (·.count CNT_DOM_STEP)
    let n := n.setGoodSyncs d (if offsetNs.natAbs ≤ 100 then n.goodSyncs d + 1 else 0)
    let n := n.when (!locked && decide (8 ≤ n.goodSyncs d)) fun n =>
      ((n.wr (F.DOM_STATUS_STATE.at d) 2).raise 0x0901 [d]).chooseSource
    n.when (n.rd F.TIME_STATUS_SOURCE == d.val + 1) (·.followSource d false)

/-- DOMAIN_LOSS_TIMEOUT (R365, R366). With its time transmitter gone the domain has no time-receiver port until the next Sync, so that a
grandmaster-capable clock takes the role (R364; DEDUCED, log entry 83). -/
def execDomainLossTimeout (d : Fin 2) (s : State) : Host.Outcome State Fault Refusal :=
  s.upd fun n => n.when (n.powered && n.domLocked d) fun n =>
    let n := ((n.wr (F.DOM_STATUS_STATE.at d) 3).setGoodSyncs d 0).wr (F.DOM_STATUS_RX_PORT.at d) 0xFF
    let n := n.putWord (txPortsHome d) 0#32
    ((n.count CNT_DOM_LOST).raise 0x0902 [d]).chooseSource

/-- REVERT_TIMER_EXPIRY (R366). -/
def execRevertTimerExpiry (s : State) : Host.Outcome State Fault Refusal :=
  s.upd fun n =>
    let prim := n.cf F.TIME_CFG_PRIMARY
    let src := n.rd F.TIME_STATUS_SOURCE
    n.when (n.powered && n.cfBit F.TIME_CFG_REVERT && n.domLocked prim && (src == 1 || src == 2) && src != prim + 1) (·.takeSource prim)

/-- ACTIVE_TIME_SLEW_END (R355, R367): the difference is 0, and the active time runs on at its source's rate. -/
def execActiveTimeSlewEnd (s : State) : Host.Outcome State Fault Refusal :=
  s.upd fun n =>
    let src := n.rd F.TIME_STATUS_SOURCE
    n.when (n.bit F.TIME_STATUS_SLEWING && (src == 1 || src == 2) && n.viewNs 2 == n.viewNs (src - 1)) fun n =>
      let n := (n.rateView 2 (n.view (src - 1)).rate).wrBit F.TIME_STATUS_SLEWING false
      { n with time := { n.time with slewNs := 0 } }

/-- CLK10_LOSS (R371). -/
def execClk10Loss (s : State) : Host.Outcome State Fault Refusal :=
  s.upd fun n => n.when (n.powered && n.cfBit F.TIME_CFG_CLK_SRC && n.bit F.TIME_STATUS_CLK10_OK) fun n =>
    ((n.wrBit F.TIME_STATUS_CLK10_OK false).count CNT_CLK10_LOSS).raise 0x0908 []
/-- CLK10_RETURN (R371). -/
def execClk10Return (s : State) : Host.Outcome State Fault Refusal :=
  s.upd fun n => n.when (n.powered && !n.islandDown 6 && n.cfBit F.TIME_CFG_CLK_SRC) (·.wrBit F.TIME_STATUS_CLK10_OK true)

/-- PPS_IN_EDGE (R372): the fraction is in 250 ps units. -/
def execPpsInEdge (fraction : Fin 8) (s : State) : Host.Outcome State Fault Refusal :=
  s.upd fun n => n.when (n.powered && !n.islandDown 6) fun n =>
    let n := n.putWord64 0x900010 (BitVec.ofNat 64 (fineStamp n.now + fraction.val))
    let n := (n.incr F.PPS_SEQ).wrBit F.TIME_STATUS_PPS_IN_OK true
    let aligned := [0, 1].filter fun d => n.grandmaster d && n.cfBit (F.DOM_CFG_GM_PPS.at d)
    let n := n.each aligned fun d n =>
      let diff := (n.time.gmSeconds.toNat * 1000000000 : Int) - (n.viewNs d).toInt
      n.when (diff != 0) (·.stepView d diff)
    let n := n.when (!aligned.isEmpty) fun n => { n with time := { n.time with gmSeconds := n.time.gmSeconds + 1#64 } }
    n.fire 39 0 0
/-- PPS_IN_MISSING (R372). -/
def execPpsInMissing (s : State) : Host.Outcome State Fault Refusal :=
  s.upd fun n => n.when (n.powered && n.bit F.TIME_STATUS_PPS_IN_OK) fun n =>
    ((n.wrBit F.TIME_STATUS_PPS_IN_OK false).count CNT_PPS_MISS).raise 0x0909 []

/-- PPS_OUT_PULSE (R373): within 4 ns of a whole second of the active time, but not of one that has had its pulse, or that a step has crossed. -/
def execPpsOutPulse (s : State) : Host.Outcome State Fault Refusal :=
  s.upd fun n =>
    let t := n.activeNs.toNat + 4
    let second := t / 1000000000
    n.when (n.powered && n.bit F.TIME_STATUS_RUNNING && n.cfBit F.TIME_CFG_PPS_OUT_EN && decide (t % 1000000000 ≤ 8) &&
        decide (n.time.ppsSecond < second)) fun n =>
      { n with pins := { n.pins with ppsOut := true }, time := { n.time with ppsSecond := second, ppsRise := second } }
/-- PPS_OUT_PULSE_END (R373). -/
def execPpsOutPulseEnd (s : State) : Host.Outcome State Fault Refusal :=
  s.upd fun n => { n with pins := { n.pins with ppsOut := false } }

/-- Ports of a mask. -/
def portsOf (mask : Nat) : List Nat := (List.range 16).filter fun p => mask / 2 ^ p % 2 == 1

/-- Keep what the peer-delay exchanges have measured on a port of domain `d`. -/
def Node.putLink (n : Node) (d : Nat) (l : LinkDelay) : Node :=
  (n.putWord64 (linkHome d l.port) l.mean).putWord (linkHome d l.port + 8) l.ratio
/-- PTP_MESSAGE_INTERVAL (R181, R364, R368, R370): Pdelay_Req with peer delay on every port of the domain, from the port's address; Delay_Req of a
time receiver; Sync and Announce of a grandmaster on every port, and of an 802.1AS relay on its time-transmitter ports. Each carries the time of the
domain. `delays` is what the peer-delay exchanges since the last interval have measured. A standby unit sends none. -/
def execPtpMessageInterval (d : Fin 2) (msgType : BitVec 4) (delays : List LinkDelay) (s : State) : Host.Outcome State Fault Refusal :=
  s.upd fun n => n.when (n.running && n.activeUnit && n.cfBit (F.DOM_CFG_ENABLE.at d)) fun n =>
    let prof := n.cf (F.DOM_CFG_PROFILE.at d)
    let up := (portsOf (n.cf (F.DOM_CFG_PORTS.at d))).filter n.linkUp
    let rx := n.rd (F.DOM_STATUS_RX_PORT.at d)
    let tx := if n.grandmaster d then up else up.filter fun p => n.txPort d p && p != rx
    let time := n.viewNs d
    if msgType = 2#4 then
      n.when (prof != 0) fun n =>
        (n.each (delays.filter fun l => up.contains l.port.val) fun l n => n.putLink d l).emit (.ptp d 2 (up.map fun p => (p, portMac p)) time)
    else if msgType = 1#4 then n.when (prof == 0 && up.contains rx) (·.emit (.ptp d 1 [(rx, vintnerMac)] time))
    else n.when ((msgType == 0#4 || msgType == 0xB#4) && (n.grandmaster d || (prof == 2 && n.domLocked d)))
      (·.emit (.ptp d msgType.toNat (tx.map fun p => (p, vintnerMac)) time))

end Sys2Proof.Machine
end

