-- ==== Sys2Proof/Machine/Topology.lean ====
section
/-! DEFINITION. The topology commit (files 01 R25, 05 R130 to R132, 08 R226 to R232 and R543, 09 R246 and R254). -/

namespace Sys2Proof.Machine

/-- The words in force of group 0x21. -/
def Node.translationBank (n : Node) : SMap Word := n.store.force.filter fun e => groupOf e.1 == 0x21
/-- A new bank of group 0x21 takes effect; the old one is kept for two base cycles (R229). A host commit of the group that is under way keeps its
shadow (R100). -/
def Node.takeBank (n : Node) (bank : SMap Word) : Node :=
  let old := n.translationBank
  let n := { n with cellar := { n.cellar with prevBank := old, prevCycles := 2 } }
  let n := n.putForces ((old.map fun e => (e.1, resetWord e.1)) ++ bank)
  if n.groupLocked 0x21 then n else n.putShadows ((n.groupKeys 0x21).map fun a => (a, n.forceWord a))
/-- Group 0x10 is committed with a topology: the recomputed entries take effect, whatever the shadow bank holds (R132). A topology of the Vintage
brings no entries (R222): then only the entries held after an error are free again (R137). -/
def Node.takeSchedule (n : Node) (recomputed : Bool) (words : List (Nat × Word)) : Node :=
  let before := n
  if recomputed then (n.putForces words).scheduleApplied before else n.endHolds
/-- The groups that a topology commit applies: those that R63 and R100 keep host commits from meanwhile (R25, R543; DEDUCED, log entry 58). -/
def topoGroups : List Nat := [0x10, 0x21, 0x51, 0x53, 0x80]
/-- A group a topology commit applies, `dirty` until then: its shadow is reloaded; CODE is 0x00, or 0x07 with event 0x040B where host edits are
withdrawn (R96, R543). A host commit of the group that is under way stands (R100). -/
def Node.topoGroup (n : Node) (g : Nat) (dirty : Bool) : Node :=
  let n := n.bumpSeq g
  n.when (!n.groupLocked g) fun n =>
    let n := n.reloadGroup g
    if dirty then (n.setCode g 7).raise 0x040B [g] else n.setCode g 0

/-- The directory, the counters and the tag of a topology take effect (R25, R130, R226, R254); group 0x80, committed with it, skips no entry any more
(R348). -/
def Node.takeTopology (n : Node) (c : TopoCommit) : Node :=
  let n := n.wr F.TRL_STATUS_TOPO_TAG c.tag
  let n := (n.wr F.INA_STATUS_CONSISTS c.table.length).wr F.INA_STATUS_OWN_NO ((n.ownIndex c.table).getD 0 + 1)
  let n := n.wrBit F.INA_STATUS_ORIENT (n.ownOrient c.table)
  let n := ((n.putWord F.ETB_CNT_PREV.addr (n.word F.ETB_CNT_CUR.addr)).putWord F.ETB_CNT_CUR.addr c.counter).wr F.PDF_STATUS_GRACE 2
  let n := (n.putWord F.ETB_TOPO_CNT.addr c.counter).incr F.INAUG_CNT
  let n := { n with
    ina := { n.ina with committed := c.table }
    blend := { n.blend with skipped := [] }
    runs := n.runs.filter fun r => r.1 != 0x0804 && r.1 != 0x0805 }
  (n.writeDirectory c.table).reactivate

/-- What a topology commit puts into force, at its boundary (R226, R230, R543): a bank, a directory, and recomputed entries of the schedule. Event
0x0402 names the path as 0 for a variant or a renumbering and 1 for a recompute, and the time from agreement in ticks of 2 ns (DESIGN CHOICE, log
entry 53). Vector 0 fires with ARG 0 (log entry 46). -/
def Node.applyTopology (n : Node) (c : TopoCommit) : Node :=
  let due := n.putForces c.schedule
  let dirty := topoGroups.filter due.dirty
  let n := ((n.takeBank c.bank).takeSchedule (c.recompute && c.tag == 0) c.schedule).takeTopology c
  let n := (n.count CNT_INAUG).raise 0x0402 [c.counter.toNat, c.tag, if c.recompute then 1 else 0, n.now - c.agreedRaw]
  let n := n.each topoGroups fun g n => n.topoGroup g (dirty.contains g)
  n.fire 0 0 0
/-- A topology commit at its boundary (R226, R230): held frames are to be released, and the engine is stable. -/
def Node.commitTopology (n : Node) (c : TopoCommit) : Node :=
  let n := n.applyTopology c
  let n := { n with
    cellar := { n.cellar with recomputeDrop := false, releasing := n.cellar.lees.length }
    ina := { n.ina with decided := none, owed := false, first := false } }
  (n.endSpec.inaState 1).dropFault .recompute

/-- TOPOLOGY_COMMIT (R226, R230): the base-cycle start has come. A table that has changed since the decision is then a new change
(R231). -/
def execTopologyCommit (s : State) : Host.Outcome State Fault Refusal :=
  s.upd fun n =>
    match n.ina.decided with
    | some c => n.when (n.inaLive && c.skip == 0) fun n =>
        let t := n.ina.table
        let n := n.commitTopology c
        let n := n.when (!sameTable t n.ina.committed) (·.tableChange t 2 (SchedBank.baseNs n.cf))
        n.settle
    | none => n

/-- The bank of a topology commit that is not yet in force, against the values in force (R100). -/
def Node.refill (n : Node) (c : TopoCommit) : TopoCommit :=
  { c with bank :=
      match n.ina.known.find? (·.tag == c.tag) with
      | some k => n.shapeBank k c.table
      | none => n.directoryBank (n.cf F.NET_BASE_BASE) (n.cf F.ADDR_FMT_SUBNET_SHIFT) c.table }
/-- A commit of group 0x40 that moves the train addresses: group 0x21 is regenerated and committed with it as one topology commit (R235). What the
engine does about the train's table goes on, against the new addresses: a speculation, a recompute, a commit that is decided. -/
def Node.renumber (n : Node) : Node :=
  let c := n.refill ⟨Fin.ofNat 16 n.topoTag, n.ina.committed, n.word F.ETB_TOPO_CNT.addr, [], false, n.now, 0, []⟩
  let n := n.applyTopology c
  let n := { n with ina := { n.ina with
    decided := n.ina.decided.map n.refill
    recomputing := n.ina.recomputing.map n.refill } }
  match n.ina.spec with
  | some sp => n.refineSpec sp.predicted
  | none => n

/-- The committed directory as the windows hold it, which the unit did not commit itself (R233): the connectivity table starts from it. -/
def Node.readDirectory (n : Node) : List ConsistInfo :=
  (List.range (n.rd F.INA_STATUS_CONSISTS)).map fun i =>
    let a := 0x410000 + 16 * (i + 1)
    let w1 := n.word (a + 4)
    ⟨macOf (n.word a).toNat (w1.toNat % 65536), w1.getLsbD 30, w1.getLsbD 16, w1.getLsbD 17⟩
/-- A unit that becomes active starts from the committed topology that its registers show; without one, from the start shape (R232, R233). -/
def Node.adoptDirectory (n : Node) : Node :=
  n.when (n.rd F.INA_STATUS_CONSISTS != 0) fun n =>
    { n with ina := { n.ina with committed := n.readDirectory, first := n.rd F.INAUG_CNT == 0 } }
end Sys2Proof.Machine
end

