-- ==== Sys2Proof/Machine/Outputs.lean ====
section
/-! DEFINITION. Protected outputs and digital inputs (file 15): the conduction rows, sequences, latches, buckets, fail states. -/

namespace Sys2Proof.Machine

/-! ### Ratings and configuration (R409, R436) -/

/-- CH16 to CH23 are heavy channels (R409). -/
def heavy (c : Nat) : Bool := decide (16 ≤ c)
/-- CH0 to CH11 are supplied from VLOAD_A (R409). -/
def onSupplyA (c : Nat) : Bool := decide (c < 12)
/-- Bucket leak in mJ/s (R409). -/
def bucketLeak (c : Nat) : Nat := if heavy c then 80 else 30
/-- Bucket capacity in the bucket's unit (R409, R421). -/
def bucketCapacity (c : Nat) : Nat := (if heavy c then 1200000 else 450000) * 500000
/-- On-resistance in mΩ, and the step of the coarse range in µA (R409, R423). -/
def onResistance (c : Nat) : Nat := if heavy c then 14 else 55
def coarseStep (c : Nat) : Nat := if heavy c then 5000 else 2000
/-- All channels. -/
def channels : List Nat := List.range 24
/-- Key of OUT_CMD (R436). -/
def outKey : Half := 0x6C2D#16

/-- The supply of a channel is below 9.0 V (R427). -/
def Node.lowSupply (n : Node) (c : Nat) : Bool := if onSupplyA c then n.bit F.OUT_STATUS_LOW_A else n.bit F.OUT_STATUS_LOW_B
/-- The supply of a channel is below 4.0 V (R427). -/
def Node.noSupply (n : Node) (c : Nat) : Bool := if onSupplyA c then n.bit F.OUT_STATUS_NOSUP_A else n.bit F.OUT_STATUS_NOSUP_B

/-! ### The conduction rows of R410 -/

/-- Rows 3 and 4: a lock, a shed or the thermal latch holds the channel off. -/
def Channel.lockedOff (h : Channel) : Bool := h.clampLock || h.inrushFail || h.shed || h.cleared || h.therm
/-- Rows 1 to 4 hold the channel off (R410, R429). A unit that has ceased to be active keeps its states until its break (R459). -/
def Node.heldOff (n : Node) (c : Nat) : Bool :=
  n.outs.row1 || (n.standby && !n.pair.breakHold) || (n.chan c).lockedOff
/-- The state that rows 6 to 8 of R410 ask for. -/
def Node.asked (n : Node) (c : Nat) : Bool :=
  let h := n.chan c
  if h.failApplied then
    (if n.cf (F.CH_CFG_FAIL_STATE.at c) = 2 then true else if n.cf (F.CH_CFG_FAIL_STATE.at c) = 1 then h.holdOn else false)
  else if h.held then h.holdOn
  else h.on
/-- The channel's state before DIM gating and lamp PWM: rows 1 to 8 of R410. -/
def Node.wants (n : Node) (c : Nat) : Bool := !n.heldOff c && (n.chan c).seq != .retry true && n.asked c
/-- Fail state on is in force: full duty, whatever the DIM pin and the DIM byte (R429). -/
def Node.failOn (n : Node) (c : Nat) : Bool := (n.chan c).failApplied && n.cf (F.CH_CFG_FAIL_STATE.at c) == 2
/-- Ticks of a lamp PWM period of 5 ms. -/
def lampPeriod : Nat := 2500000
/-- The high part of a channel's lamp period: its first `duty` of 1,024 parts (R426). -/
def Node.lampHigh (n : Node) (c : Nat) : Bool :=
  let h := n.chan c
  decide (1024 ≤ h.duty) || decide ((n.now - h.dutyAt) * 1024 < h.duty * lampPeriod)
/-- The gate of a channel: the DIM pin, or the high part of its lamp period (R425, R426). A last state keeps its gate (DEDUCED, log entry 65). -/
def Node.gated (n : Node) (c : Nat) : Bool :=
  if n.failOn c then true
  else if n.cfBit (F.CH_CFG_LAMP.at c) then n.lampHigh c
  else
    let src := n.cf (F.CH_CFG_DIM_SRC.at c)
    if 1 ≤ src ∧ src ≤ 4 then n.outs.dimPins.getLsbD (src - 1) else true
/-- The channel conducts. -/
def Node.conducts (n : Node) (c : Nat) : Bool := n.wants c && n.gated c

/-- A channel is on in the sense of condition 3 of R78 (R410). -/
def Node.chanOn (n : Node) (c : Nat) : Bool := n.conducts c || (n.chan c).on

/-! ### Turn-on and turn-off (R415 to R417) -/

/-- Start the sequence of a turn-on: an inrush window, or a retry sequence when LEGACY is set (R415, R417). -/
def Node.turnOn (n : Node) (c : Nat) : Node :=
  let legacy := n.cfBit (F.CH_CFG_LEGACY.at c)
  let profile := n.cf (F.CH_CFG_PROFILE.at c)
  let cnt := n.cf (F.CH_CFG_RETRY_CNT.at c)
  let fine := n.cfBit (F.CH_CFG_FINE.at c)
  n.setChan c fun h => { h with
    legacy := legacy
    profile := profile
    retryCnt := cnt
    fine := fine
    settled := false
    seq := if legacy then .retry false else .inrush
    retryLeft := if legacy then cnt else 0 }

/-- Change a channel and start the sequence of a turn-on the change causes. A window that runs on makes no new one (R415, R431). -/
def Node.changeChan (n : Node) (c : Nat) (f : Channel → Channel) : Node :=
  let was := n.wants c
  let n := n.setChan c f
  n.when (!was && n.wants c && (n.chan c).seq == .none) (·.turnOn c)

/-- Every channel whose effective state has changed from off to on since `before` starts the sequence of a turn-on (R415). -/
def Node.turnOns (n before : Node) : Node :=
  n.each channels fun c n => n.when (!before.wants c && n.wants c && (n.chan c).seq == .none) (·.turnOn c)

/-- The bucket level now, with the leak since it was last drained taken off (R421). -/
def Node.bucketNow (n : Node) (c : Nat) : Nat := (n.chan c).bucket - bucketLeak c * (n.now - (n.chan c).bucketAt)
/-- BUCKET: percent of capacity, saturating at 255 (R413). -/
def Node.bucketPercent (n : Node) (c : Nat) : Nat := min (n.bucketNow c * 100 / bucketCapacity c) 255

/-- Clamp energy of a turn-off enters the bucket: at capacity the channel locks off, at 75 % an event is recorded (R421, R431). -/
def Node.addEnergy (n : Node) (c uj : Nat) : Node :=
  n.when (uj != 0) fun n =>
    let before := n.bucketNow c
    let level := before + uj * 500000
    let cap := bucketCapacity c
    let was75 := (n.chan c).above75 && decide (cap * 3 ≤ before * 4)
    let locks := decide (cap ≤ level) && !(n.chan c).clampLock
    let n := n.setChan c fun h => { h with bucket := level, bucketAt := n.now, above75 := decide (cap * 3 ≤ level * 4) }
    let n := n.when locks fun n =>
      ((n.setChan c fun h => { h with clampLock := true, seq := .none, settled := false }).count (CNT_CLAMP_LOCK c)).raise 0x0B04
        [c, n.bucketPercent c]
    n.when (decide (cap * 3 ≤ level * 4) && !was75) (·.raise 0x0B0D [c])

/-- Lock a channel off with INRUSH_FAIL (R415, R417). -/
def Node.inrushLock (n : Node) (c : Nat) : Node :=
  let h := n.chan c
  ((n.setChan c fun h => { h with inrushFail := true, seq := .none, settled := false }).count (CNT_INRUSH_FAIL c)).raise 0x0B03
    [c, if h.legacy then 1 else 0, h.retryLeft]

/-- An attempt of a retry sequence has failed and the channel is off (R417, R418). After a successful sequence it begins a new one. -/
def Node.attemptFailed (n : Node) (c : Nat) : Node :=
  let cnt := (n.chan c).retryCnt
  let n := n.when (n.chan c).settled fun n => n.setChan c fun h => { h with settled := false, retryLeft := cnt }
  if (n.chan c).retryLeft = 0 then n.inrushLock c
  else n.setChan c fun h => { h with seq := .retry true }

/-! ### Status computed from the channels (R436) -/

/-- A bit per channel that satisfies `p`. -/
def channelMask (p : Nat → Bool) : Nat := channels.foldl (fun m c => if p c then m + 2 ^ c else m) 0
/-- OUT_STATUS, with its four summary bits taken from the channels. -/
def Node.outStatus (n : Node) : Word :=
  let b (p : Nat → Bool) (k : Nat) : Nat := if channels.any p then 2 ^ k else 0
  BitVec.ofNat 32 ((n.word 0xB00000).toNat % 16 + b (fun c => (n.chan c).failApplied) 7 + b (fun c => (n.chan c).held) 6 +
    b (fun c => (n.chan c).shed && onSupplyA c) 5 + b (fun c => (n.chan c).shed && !onSupplyA c) 4)
/-- CH_CONDUCT. -/
def Node.chConduct (n : Node) : Nat := channelMask n.conducts
/-- CH_LOCKED: rows 3 or 4 of R410. -/
def Node.chLocked (n : Node) : Nat := channelMask fun c =>
  (n.chan c).clampLock || (n.chan c).inrushFail || (n.chan c).shed || (n.chan c).therm

/-! ### Resets and changeovers -/

/-- Every channel off under row 1 of R410: shutdown, Dormancy entry, recovery (R51, R79, R430). -/
def Node.channelsOff (n : Node) : Node :=
  let n := n.each channels fun c n => n.setChan c fun h => { h with seq := .none, settled := false, on := false }
  n.onOuts fun o => { o with row1 := true, holdRuns := false }

/-- Clamp energy of a turn-off that no command measures: a free value (log entry 68). -/
def Node.freeEnergy (n : Node) (c : Nat) : Node := (n.addEnergy c (n.free 24).toNat).took
/-- The channels turn off under row 1, and their clamp energy enters the buckets (R421). -/
def Node.channelsCut (n : Node) : Node :=
  let was := channels.filter n.conducts
  n.channelsOff.each was fun c n => n.freeEnergy c

/-- The staging buffer returns to its reset values and every mark is cleared (R412). -/
def Node.clearStaging (n : Node) : Node :=
  let n := n.resetWords fun a => decide (0xB10000 ≤ a) && decide (a < 0xB10300)
  { n with outs := { n.outs with marks := 0#24 } }

/-- A warm reset holds every channel in its state, the sequence or the latch that keeps it off for the present included, and restarts OUT_HOLD (R429).
-/
def Node.holdChannels (n : Node) : Node :=
  let n := n.each channels fun c n =>
    let w := n.asked c
    n.setChan c fun h => { h with held := true, holdOn := w }
  { n.clearStaging with outs := { n.clearStaging.outs with holdRuns := !n.outs.row1 } }

/-- The output island after power-good or a wake: channels off, buckets empty, no lock (R410, R421). -/
def Node.freshOutputs (n : Node) : Node :=
  let n := { n with outs := { n.outs with channels := [], inputs := [], row1 := true, holdRuns := false, shedConds := 0#4 } }
  n.clearStaging

/-! ### OUT_UPDATE (R128, R412, R413, R434) -/

/-- Clamp energy that a list names for channel `c`, in µJ. -/
def energyOf (energies : List (Fin 24 × Nat)) (c : Nat) : Nat := ((energies.find? (·.1.val == c)).map (·.2)).getD 0
/-- The clamp energy of those of the channels `was` that conduct no longer enters their buckets (R421). -/
def Node.turnedOff (n : Node) (was : List Nat) (energies : List (Fin 24 × Nat)) : Node :=
  n.each was fun c n => n.when (!n.conducts c) (·.addEnergy c (energyOf energies c))

/-- What was measured on channel `c`. -/
def sampleOf (samples : List (Fin 24 × ChannelSample)) (c : Nat) : ChannelSample :=
  match samples.find? (fun e => e.1.val == c) with
  | some e => e.2
  | none => ⟨false, 0, 0, 0, 0⟩

/-- A current in the fine range is above full scale (R423). -/
def fineOver (m : ChannelSample) : Bool := decide (4095 * 50 < m.current)
/-- I of a channel: its mean current in steps of its range, rounded down within the range's accuracy (R423; DESIGN CHOICE, log entry 87). -/
def currentSteps (fine : Bool) (c : Nat) (m : ChannelSample) : Nat :=
  min 4095 (m.current / (if fine then 50 else coarseStep c))
/-- Latch the readback words of a channel (R413). -/
def Node.latchChannel (n : Node) (c : Nat) (m : ChannelSample) : Node :=
  let h := n.chan c
  let set (f : Field) (b : Bool) (n : Node) : Node := n.wrBit (f.at c) b
  let n := n.setChan c fun h => { h with limiting := m.limiting }
  let n := [(F.RB_HELD, h.held), (F.RB_FAIL_APPLIED, h.failApplied), (F.RB_SHED, h.shed), (F.RB_LOW_SUPPLY, n.lowSupply c),
    (F.RB_NO_SUPPLY, n.noSupply c), (F.RB_STB, h.stb), (F.RB_OPEN_LOAD, h.openLoad), (F.RB_INRUSH_FAIL, h.inrushFail),
    (F.RB_CLAMP_LOCK, h.clampLock), (F.RB_THERM, h.therm), (F.RB_LIMITING, m.limiting), (F.RB_CONDUCTING, n.conducts c),
    (F.RB_RANGE_OVF, fineOver m && h.fine), (F.RB_FINE, h.fine)].foldl
      (fun n e => set e.1 e.2 n) n
  (((n.wr (F.RB_I.at c) (currentSteps h.fine c m)).wr (F.RB1_BUCKET.at c) (n.bucketPercent c)).wr (F.RB1_RETRY_LEFT.at c) h.retryLeft).wr
    (F.RB1_DT.at c) m.dt.toNat

/-- The summed current of the channels that satisfy `p`, in µA. -/
def sumCurrent (samples : List (Fin 24 × ChannelSample)) (p : Nat → Bool) : Nat :=
  ((channels.filter p).map fun c => (sampleOf samples c).current).sum
/-- The loss of a channel, in 10⁻¹⁵ W: I² × on-resistance while it conducts, and (VLOAD − output voltage) × I while it limits (R428). -/
def Node.channelLoss (n : Node) (c : Nat) (m : ChannelSample) (vload : Nat) : Nat :=
  (if n.conducts c then m.current ^ 2 * onResistance c else 0) + (if m.limiting then (vload - m.outMv) * m.current * 10 ^ 6 else 0)
/-- LOSS, in 10⁻¹⁵ W (R428). -/
def Node.lossOf (n : Node) (m : LoadSample) : Nat :=
  (channels.map fun c => n.channelLoss c (sampleOf m.channels c) (if onSupplyA c then m.vloadA else m.vloadB)).sum

/-- Latch the digital inputs (R434). -/
def Node.latchInputs (n : Node) : Node :=
  let ks := List.range 16
  let mask (p : DigIn → Bool) : Nat := ks.foldl (fun m k => if p (n.input k) then m + 2 ^ k else m) 0
  let n := ((n.wr F.IN_STATE (mask (·.state))).wr F.IN_EDGES_RISE (mask (·.rise))).wr F.IN_EDGES_FALL (mask (·.fall))
  let n := n.putWords ((List.range 8).map fun j =>
    (0xB10208 + 4 * j, BitVec.ofNat 32 ((n.input (2 * j)).rises + 65536 * (n.input (2 * j + 1)).rises)))
  let n := n.wr F.IN_DIM n.outs.dimPins.toNat
  n.each ks fun k n => n.setInput k fun d => { d with rise := false, fall := false }

/-- Apply the command word of a channel (R412, R429). -/
def Node.applyWord (n : Node) (c energy : Nat) : Node :=
  let on := n.bit (F.CMD_ON.at c)
  let dim := BitVec.ofNat 8 (n.rd (F.CMD_DIM.at c))
  let was := n.conducts c
  let n := n.changeChan c fun h => { h with
    on := on, dim := dim, held := false, failApplied := false, cleared := false
    seq := if on then h.seq else .none
    settled := h.settled && on }
  n.when (was && !n.conducts c) (·.addEnergy c energy)

/-- What an OUT_UPDATE does in the output island: latch, then apply (R128). Supplies are in 10 mV. A unit before its break applies nothing (R459). -/
def Node.outUpdate (n : Node) (samples : List (Fin 24 × ChannelSample)) (vA vB : Nat) : Node :=
  let loss := n.lossOf ⟨samples, 10 * vA, 10 * vB⟩
  let n := n.each channels fun c n => n.latchChannel c (sampleOf samples c)
  let n := (n.wr F.RB_VLOAD_A vA).wr F.RB_VLOAD_B vB
  let n := (n.wr F.RB_I_A (sumCurrent samples onSupplyA / 10000)).wr F.RB_I_B (sumCurrent samples (fun c => !onSupplyA c) / 10000)
  let n := ((n.wr F.RB_LOSS (loss / 10 ^ 12)).latchInputs).incr F.LATCH_SEQ
  let n := (n.onOuts fun o => { o with row1 := false, holdRuns := true }).turnOns n
  if n.pair.breakHold then n
  else
    let n := n.each channels fun c n => n.when (n.outs.marks.getLsbD c) (·.applyWord c (sampleOf samples c).energy)
    n.each channels fun c n => n.when ((n.chan c).cleared && (n.chan c).failApplied && n.cf (F.CH_CFG_FAIL_STATE.at c) == 2)
      (·.changeChan c fun h => { h with cleared := false })

/-! ### Commands of the output stage -/

/-- INRUSH_WINDOW_CLOSE (R415). With no supply there is no limiting (R427). `energy` is the clamp energy of the turn-off that a lock causes (R421). -/
def execInrushWindowClose (ch : Fin 24) (limiting : Bool) (energy : Nat) (s : State) : Host.Outcome State Fault Refusal :=
  s.upd fun n => n.when ((n.chan ch).seq == .inrush) fun n =>
    if (limiting && n.conducts ch && !n.noSupply ch) || (n.chan ch).therm then
      (n.inrushLock ch).when (n.conducts ch) (·.addEnergy ch energy)
    else n.setChan ch fun h => { h with seq := .none }

/-- RETRY_ATTEMPT_FAIL (R417): the channel has limited for 1 ms and switches off. -/
def execRetryAttemptFail (ch : Fin 24) (energy : Nat) (s : State) : Host.Outcome State Fault Refusal :=
  s.upd fun n =>
    let h := n.chan ch
    n.when (h.legacy && n.conducts ch && (h.seq == .retry false || h.settled)) fun n =>
      let n := n.addEnergy ch energy
      n.when (!(n.chan ch).clampLock) (·.attemptFailed ch)

/-- RETRY_START (R417, R418): not while the thermal latch holds. -/
def execRetryStart (ch : Fin 24) (s : State) : Host.Outcome State Fault Refusal :=
  s.upd fun n =>
    let h := n.chan ch
    n.when (h.seq == .retry true && !h.therm && h.retryLeft != 0) fun n =>
      (n.setChan ch fun h => { h with seq := .retry false, retryLeft := h.retryLeft - 1 }).count (CNT_RETRY ch)

/-- RETRY_WINDOW_CLOSE (R417, R418). -/
def execRetryWindowClose (ch : Fin 24) (s : State) : Host.Outcome State Fault Refusal :=
  s.upd fun n =>
    match (n.chan ch).seq with
    | .retry waiting =>
      if waiting || (n.chan ch).therm then n.inrushLock ch
      else n.setChan ch fun h => { h with seq := .none, settled := true, retryLeft := 0 }
    | _ => n

/-- THERMAL_LATCH_SET (R420, R418): within the limits of R420 the channel switches off; in retry mode the attempt has failed. -/
def execThermalLatchSet (ch : Fin 24) (dt tj : Int) (energy : Nat) (s : State) : Host.Outcome State Fault Refusal :=
  s.upd fun n => n.when (n.conducts ch && !(n.chan ch).therm &&
      (decide ((n.cf F.OUT_CFG_TH_DIFF : Int) ≤ dt) || decide (175 ≤ tj))) fun n =>
    let h := n.chan ch
    let n := n.setChan ch fun h => { h with therm := true }
    let n := (n.count (CNT_THERM_TRIP ch)).raise 0x0B01 [ch, dt.toNat, tj.toNat]
    let n := n.addEnergy ch energy
    n.when (h.legacy && !(n.chan ch).clampLock && (h.seq == .retry false || h.settled)) (·.attemptFailed ch)

/-- THERMAL_LATCH_RELEASE (R420, R415, R418): below both release limits. -/
def execThermalLatchRelease (ch : Fin 24) (dt tj : Int) (s : State) : Host.Outcome State Fault Refusal :=
  s.upd fun n => n.when ((n.chan ch).therm && decide (dt ≤ (n.cf F.OUT_CFG_TH_DIFF : Int) - 15) && decide (tj ≤ 160)) fun n =>
    (n.changeChan ch fun h => { h with therm := false }).raise 0x0B02 [ch]

/-- A clear that is accepted (R422). -/
def Node.clearDone (n : Node) (ch op : Nat) (f : Channel → Channel) : Node :=
  (n.setChan ch fun h => { f h with cleared := true }).raise 0x0B05 [ch, op]
/-- A clear that is not accepted (R422). -/
def Node.clearRefused (n : Node) (ch : Nat) : Node := (n.count CNT_CLEAR_REFUSED).raise 0x0B06 [ch, n.bucketPercent ch]

/-- Clear a channel's lock by OUT_CMD or OD (0x5900 + n).06 (R422). -/
def Node.clearLock (n : Node) (ch op : Nat) : Node :=
  let h := n.chan ch
  if op = 1 then
    n.when h.clampLock fun n =>
      if n.bucketNow ch * 4 < bucketCapacity ch then n.clearDone ch 1 fun h => { h with clampLock := false } else n.clearRefused ch
  else if op = 2 then n.when h.inrushFail (·.clearDone ch 2 fun h => { h with inrushFail := false })
  else if op = 3 then
    n.when h.shed fun n =>
      if n.outs.shedConds.getLsbD h.shedBy then n.clearRefused ch else n.clearDone ch 3 fun h => { h with shed := false }
  else n

/-- OUT_CMD_CLEAR_CLAMP (R422). -/
def execOutCmdClearClamp (by_ : Initiator) (key : Half) (ch : Fin 24) (s : State) : Host.Outcome State Fault Refusal :=
  s.upd fun n => n.access by_ 0xB fun n => n.when (key == outKey) (·.clearLock ch 1)
/-- OUT_CMD_CLEAR_INRUSH (R422). -/
def execOutCmdClearInrush (by_ : Initiator) (key : Half) (ch : Fin 24) (s : State) : Host.Outcome State Fault Refusal :=
  s.upd fun n => n.access by_ 0xB fun n => n.when (key == outKey) (·.clearLock ch 2)
/-- OUT_CMD_CLEAR_SHED (R422). -/
def execOutCmdClearShed (by_ : Initiator) (key : Half) (ch : Fin 24) (s : State) : Host.Outcome State Fault Refusal :=
  s.upd fun n => n.access by_ 0xB fun n => n.when (key == outKey) (·.clearLock ch 3)

/-- OPEN_LOAD_DETECT (R424). -/
def execOpenLoadDetect (ch : Fin 24) (s : State) : Host.Outcome State Fault Refusal :=
  s.upd fun n =>
    let h := n.chan ch
    n.when (n.conducts ch && !h.openLoad && h.seq != .inrush && !n.lowSupply ch && n.cf (F.CH_CFG_OL_TH.at ch) != 0) fun n =>
      ((n.setChan ch fun h => { h with openLoad := true }).count CNT_OPEN_LOAD).raise 0x0B07 [ch]
/-- OPEN_LOAD_CLEAR (R424). -/
def execOpenLoadClear (ch : Fin 24) (s : State) : Host.Outcome State Fault Refusal :=
  s.upd fun n => n.when (n.conducts ch) (·.setChan ch fun h => { h with openLoad := false })
/-- STB_DETECT (R424, R432). -/
def execStbDetect (ch : Fin 24) (s : State) : Host.Outcome State Fault Refusal :=
  s.upd fun n => n.when (n.powered && !n.conducts ch && !(n.chan ch).stb && !n.cfBit (F.CH_CFG_PAIRED.at ch)) fun n =>
    ((n.setChan ch fun h => { h with stb := true }).count CNT_STB).raise 0x0B08 [ch]
/-- STB_CLEAR (R424). -/
def execStbClear (ch : Fin 24) (s : State) : Host.Outcome State Fault Refusal :=
  s.upd (·.setChan ch fun h => { h with stb := false })

/-- VLOAD_LOW (R427). -/
def execVloadLow (supplyA : Bool) (lowestMv : Nat) (s : State) : Host.Outcome State Fault Refusal :=
  s.upd fun n =>
    let f := if supplyA then F.OUT_STATUS_LOW_A else F.OUT_STATUS_LOW_B
    n.when (n.powered && !n.bit f) fun n => ((n.wrBit f true).count CNT_VLOAD_LOW).raise 0x0B09 [if supplyA then 0 else 1, lowestMv]
/-- VLOAD_RECOVER (R427). -/
def execVloadRecover (supplyA : Bool) (s : State) : Host.Outcome State Fault Refusal :=
  s.upd fun n => n.wrBit (if supplyA then F.OUT_STATUS_LOW_A else F.OUT_STATUS_LOW_B) false
/-- VLOAD_NO_SUPPLY (R427). -/
def execVloadNoSupply (supplyA below : Bool) (s : State) : Host.Outcome State Fault Refusal :=
  s.upd fun n => n.when n.powered (·.wrBit (if supplyA then F.OUT_STATUS_NOSUP_A else F.OUT_STATUS_NOSUP_B) below)

/-- Channels concerned by a shed condition: 0 I_A, 1 I_B, 2 the total, 3 LOSS (R428). -/
def shedConcerns (condition c : Nat) : Bool := if condition = 0 then onSupplyA c else if condition = 1 then !onSupplyA c else true

/-- The lowest SHED_PRIO from 1 to 7 among the conducting channels concerned (R428). -/
def Node.shedPriority (n : Node) (condition : Nat) : Option Nat :=
  (List.range 8).find? fun p => p != 0 && channels.any fun c =>
    shedConcerns condition c && n.conducts c && n.cf (F.CH_CFG_SHED_PRIO.at c) == p

/-- Condition `k` of R428 holds over an averaging interval: the mean of I_A or I_B above 40 A, of their sum above 60 A, of LOSS above 10 W. -/
def Node.overLimit (n : Node) (k : Nat) (interval : List LoadSample) : Bool :=
  let above (limit : Nat) (f : LoadSample → Nat) : Bool := decide (limit * interval.length < (interval.map f).sum)
  if k = 0 then above 40000000 fun m => sumCurrent m.channels onSupplyA
  else if k = 1 then above 40000000 fun m => sumCurrent m.channels fun c => !onSupplyA c
  else if k = 2 then above 60000000 fun m => sumCurrent m.channels fun _ => true
  else above (10 ^ 16) n.lossOf
/-- LOAD_SHED (R428, R431): a condition is evaluated on its last averaging interval, 100 ms or 1 s; if it holds, the next priority is shed. A later
evaluation at which it does not hold lets the sheds be cleared (R422). -/
def execLoadShed (condition : Fin 4) (interval : List LoadSample) (energies : List (Fin 24 × Nat)) (s : State) :
    Host.Outcome State Fault Refusal :=
  s.upd fun n =>
    let bit := BitVec.ofNat 4 (2 ^ condition.val)
    if !n.overLimit condition interval then n.onOuts fun o => { o with shedConds := o.shedConds &&& ~~~bit }
    else
      let n := n.onOuts fun o => { o with shedConds := o.shedConds ||| bit }
      match n.shedPriority condition with
      | none => n
      | some p =>
        let chosen := channels.filter fun c => shedConcerns condition c && n.conducts c && n.cf (F.CH_CFG_SHED_PRIO.at c) == p
        let n := n.each chosen fun c n =>
          ((n.setChan c fun h => { h with shed := true, shedBy := condition, seq := .none, settled := false }).count CNT_SHED).raise
            0x0B0A [c, condition]
        n.turnedOff chosen energies

/-- Rows 1 to 4 of R410 hold the channel off as R429 counts them: a lock that a clear has taken away no longer does (R422). -/
def Node.rowsHold (n : Node) (c : Nat) : Bool :=
  let h := n.chan c
  n.outs.row1 || (n.standby && !n.pair.breakHold) || h.clampLock || h.inrushFail || h.shed || h.therm
/-- The fail state that `c` takes leaves it on, so a sequence goes on; one that turns it off ends its sequence (R429, R431). -/
def Node.failStays (n : Node) (c : Nat) (w : Bool) : Bool :=
  n.cf (F.CH_CFG_FAIL_STATE.at c) == 2 || (n.cf (F.CH_CFG_FAIL_STATE.at c) == 1 && w)

/-- OUT_HOLD_EXPIRY (R429, R459). -/
def execOutHoldExpiry (energies : List (Fin 24 × Nat)) (s : State) : Host.Outcome State Fault Refusal :=
  s.upd fun n => n.when (n.outs.holdRuns && !n.outs.row1 && !n.pair.breakHold) fun n =>
    let was := channels.filter n.conducts
    let n := { n with outs := { n.outs with holdRuns := false } }
    let n := n.each channels fun c n => n.when (!n.rowsHold c) fun n =>
      let w := n.asked c && !(n.chan c).cleared
      let stays := n.failStays c w
      n.changeChan c fun h => { h with
        failApplied := true, holdOn := w, seq := if stays then h.seq else .none, settled := h.settled && stays }
    ((n.turnedOff was energies).count CNT_FAILSTATE).raise 0x0B0B []

/-- A commit of group 0xB0 takes effect: FAIL_STATE, DIM_SRC and LAMP act at once, so a channel may turn on, or turn off with its sequence abandoned
and its clamp energy in the bucket (R415, R416, R421, R435). -/
def Node.outputsApplied (n before : Node) : Node :=
  let n := n.each channels fun c n => n.when (before.wants c && !n.wants c) (·.setChan c fun h => { h with seq := .none, settled := false })
  (n.each (channels.filter before.conducts) fun c n => n.when (!n.conducts c) (·.freeEnergy c)).turnOns before

/-- DIM_PIN_EDGE (R425). -/
def execDimPinEdge (pin : Fin 4) (level : Bool) (energies : List (Fin 24 × Nat)) (s : State) : Host.Outcome State Fault Refusal :=
  s.upd fun n =>
    let falls := channels.filter fun c => n.cf (F.CH_CFG_DIM_SRC.at c) == pin.val + 1 && n.conducts c && !level
    let m := n.outs.dimPins.toNat - (if n.outs.dimPins.getLsbD pin then 2 ^ pin.val else 0) + (if level then 2 ^ pin.val else 0)
    let n := { n with outs := { n.outs with dimPins := BitVec.ofNat 4 m } }
    n.turnedOff falls energies

/-- The lamp duty code floor(1,024 × min(1, (UREF / U)²) × DIM / 255) (R426), with UREF in 0.1 V and U in mV. -/
def lampDuty (uref u dim : Nat) : Nat :=
  if u ≤ uref * 100 then 1024 * dim / 255 else 1024 * dim * (uref * 100) ^ 2 / (255 * u ^ 2)

/-- LAMP_PWM_PERIOD (R426, R429): a period of channel CH20 + ch begins. In fail state on, DIM counts as 255. `energy` is the clamp energy of the
falling edge within the period before (R425). -/
def execLampPwmPeriod (ch : Fin 4) (vloadMv energy : Nat) (s : State) : Host.Outcome State Fault Refusal :=
  s.upd fun n =>
    let c := 20 + ch.val
    n.when (n.powered && n.cfBit (F.CH_CFG_LAMP.at c)) fun n =>
      let dim := if n.failOn c then 255 else (n.chan c).dim.toNat
      let d := lampDuty (n.cf (F.CH_CFG_UREF.at c)) vloadMv dim
      let n := n.when (n.wants c && (n.chan c).duty != 0 && decide ((n.chan c).duty < 1024)) (·.addEnergy c energy)
      n.setChan c fun h => { h with duty := d, dutyAt := n.now }

/-- One sample of an input (R434): the filtered state follows FILT samples in a row that disagree with it. -/
def DigIn.sample (d : DigIn) (filt : Nat) (level : Bool) : DigIn :=
  if level == d.state then { d with differ := 0 }
  else if d.differ + 1 < filt then { d with differ := d.differ + 1 }
  else { d with
    state := level
    differ := 0
    rises := if level then (d.rises + 1) % 65536 else d.rises
    rise := d.rise || level
    fall := d.fall || !level }

/-- The level an input reads at a voltage in mV, in the 110 V or the 24 V range; between the thresholds, as before (R41). -/
def DigIn.levelAt (d : DigIn) (range110 : Bool) (mv : Int) : Bool :=
  if mv ≤ (if range110 then 33000 else 8000) then false
  else if (if range110 then 66000 else 14400) ≤ mv then true
  else d.level
/-- Samples of 125 µs in a wetting pulse of 500 µs, and in its period of 20 ms (R433). -/
def wetSamples : Nat := 4
def wetPeriod : Nat := 160
/-- Wetting of an input after a sample at which its filtered state changed or not: a pulse every 20 ms and after each filtered edge (R433). -/
def DigIn.wet (d : DigIn) (enabled edge : Bool) : DigIn :=
  if !enabled then { d with wetIn := 0, wetLeft := 0 }
  else { d with
    wetIn := if d.wetIn = 0 then wetPeriod - 1 else d.wetIn - 1
    wetLeft := if edge || d.wetIn == 0 then wetSamples else d.wetLeft - 1 }
/-- The current an input sinks at a voltage: the base current, and the wetting current during a pulse, in µA (R433). -/
def DigIn.sinks (d : DigIn) (range110 wet10 : Bool) (mv : Int) : Nat :=
  (if (if range110 then 20000 else 6000) < mv then 500 else 0) + (if d.wetLeft = 0 then 0 else if wet10 then 10000 else 2000)
/-- INPUT_SAMPLE (R41, R433, R434): the voltages of DI0 to DI15 in mV. -/
def execInputSample (mv : List Int) (s : State) : Host.Outcome State Fault Refusal :=
  s.upd fun n => n.when n.powered fun n => n.each (List.range 16) fun k n =>
    n.setInput k fun d =>
      let v := mv.getD k 0
      let range110 := n.cfBit (F.DI_CFG_RANGE110.at k)
      let e := { d with level := d.levelAt range110 v }
      let e := (e.sample (n.cf (F.DI_CFG_FILT.at k)) e.level)
      let e := e.wet (n.cfBit (F.DI_CFG_WET_EN.at k)) (e.state != d.state)
      { e with sink := e.sinks range110 (n.cfBit (F.DI_CFG_WET10.at k)) v }

end Sys2Proof.Machine
end

