-- ==== Sys2Proof/Machine/Validate.lean ====
section
/-! DEFINITION. Validation of the commit groups (R96, R97 and the tables of files 05 to 19). A validator reads the shadows of the groups
that are committed together and the values in force of all others (R96, R99). It answers the refusal code and the COMMIT_INFO word of the
first failure: checks in the order of their table, fields in ascending order (log entry 22). -/

namespace Sys2Proof.Machine

/-- The outcome of a validation: none, or code and COMMIT_INFO. -/
abbrev Verdict := Option (Nat × Word)
/-- A register address as COMMIT_INFO names it: an entry of the schedule or of the Blend table, else a block offset (R95, R542). -/
def infoAt (other a : Nat) : Word :=
  if 0x20000000 ≤ a then infoWord true (a % 32 / 4) other ((a - 0x20000000) / 32)
  else if 0x10000000 ≤ a then infoWord true (a % 16 / 4) other ((a - 0x10000000) / 16)
  else infoWord false 0 other (a % 2 ^ 20)
/-- A failure at the register at `a`, where `b` holds. -/
def fails (b : Bool) (code a : Nat) : Verdict := if b then some (code, infoAt 0xFF a) else none
/-- A disagreement with the register at `a` of another group (code 0x09). -/
def against (b : Bool) (g a : Nat) : Verdict := if b then some (9, infoAt g a) else none
/-- The first failure of a list of checks. -/
def firstOf (l : List Verdict) : Verdict := l.findSome? id
/-- The first failure over the elements of a list. -/
def overAll {α : Type} (l : List α) (f : α → Verdict) : Verdict := l.findSome? f
/-- Elements with an earlier element that satisfies `p`. -/
def pairsWith {α : Type} (l : List α) (p : α → α → Bool) : List (α × α) :=
  l.zipIdx.flatMap fun e => ((l.take e.2).filter fun x => p x e.1).map fun x => (x, e.1)

/-- A field's value in the set that is validated with the groups `gs`. -/
abbrev CfgView := Field → Nat
def Node.cfgView (n : Node) (gs : List Nat) : CfgView := fun f => if gs.contains (groupOf f.addr) then n.sf f else n.cf f
/-- The words of the registers from `lo` to below `hi` that differ from their reset values in that set. -/
def Node.cfgWords (n : Node) (gs : List Nat) (lo hi : Nat) : List (Nat × Word) :=
  let pick := fun (inSet : Bool) (m : SMap Word) =>
    m.filter fun e => decide (lo ≤ e.1) && decide (e.1 < hi) && gs.contains (groupOf e.1) == inSet
  pick true n.store.shadow ++ pick false n.store.force
/-- Indices of a table's entries, `stride` bytes each, whose VALID bit (bit 31 of word `w`) is set in that set. -/
def Node.cfgValid (n : Node) (gs : List Nat) (base stride count w : Nat) : List Nat :=
  (n.cfgWords gs base (base + stride * count)).filterMap fun e =>
    if (e.1 - base) % stride = 4 * w ∧ e.2.getLsbD 31 then some ((e.1 - base) / stride) else none
/-- The Press a port is dedicated to in a view (R286). -/
def CfgView.dedicated (v : CfgView) (q : Nat) : Option Nat :=
  (List.range 16).find? fun p => v (F.PRESS_CFG_DED_PORT.at p) == q && q != 31
/-- Bit `p` of a value. -/
def hasBit (x p : Nat) : Bool := x / 2 ^ p % 2 == 1

/-! ### OUT_UPDATE intervals (R429) -/

/-- Instants of the OUT_UPDATE entries of a view under tag `tag`, in 8 ns units over the hyper-period. -/
def CfgView.updates (v : CfgView) (tag : Nat) : List Nat :=
  let base := v F.BASE_CYCLE * 125
  let ents := (List.range (v F.ENTRY_COUNT)).filter fun i =>
    v (F.ENT_ACTION.at i) == 5 && (v (F.ENT_TOPO.at i) == 0 || v (F.ENT_TOPO.at i) == tag)
  (List.range (SchedBank.cycles v)).flatMap fun c => (ents.filter fun i => SchedBank.acts v i c tag).map fun i => c * base + v (F.ENT_OFFSET.at i)
/-- The least of a list, none of an empty one; and the greatest, 0 of an empty one. -/
def leastOf : List Nat → Option Nat
  | [] => none
  | x :: t => some (t.foldl min x)
def greatestOf (l : List Nat) : Nat := l.foldl max 0
/-- The longest interval from an instant to the next of the same set, around a period. -/
def longestGap (l : List Nat) (period : Nat) : Nat :=
  greatestOf (l.map fun x => (leastOf (l.map fun y => (y + period - x - 1) % period + 1)).getD 0)
/-- The longest interval from the last instant of one set before a base-cycle start to the first of another at or after it. -/
def longestSpan (a b : List Nat) (base period : Nat) : Nat :=
  greatestOf ((List.range (period / max base 1)).filterMap fun k =>
    let s := k * base
    match leastOf (a.map fun x => (s + period - x - 1) % period + 1), leastOf (b.map fun y => (y + period - s) % period) with
    | some x, some y => some (x + y)
    | _, _ => none)
/-- The longest interval between successive OUT_UPDATE instants that can occur, in ns. -/
def CfgView.longestUpdate (v : CfgView) : Nat :=
  let base := v F.BASE_CYCLE * 125
  let period := base * SchedBank.cycles v
  let tags := ((List.range (v F.ENTRY_COUNT)).map fun i => v (F.ENT_TOPO.at i)).filter (· != 0) |>.eraseDups
  let sets := (0 :: tags).map v.updates
  8 * greatestOf ((sets.map fun l => longestGap l period) ++
    sets.flatMap fun a => (sets.filter (· != a)).map fun b => longestSpan a b base period)

/-! ### Group 0x10 and 0x11 (R105, R114, R117, R134) -/

/-- TARGET of an action lies within its range (R114, R536). -/
def targetOk (action target : Nat) : Bool :=
  match action with
  | 1 => decide (target ≤ 18)
  | 2 => decide (target ≤ 1023)
  | 3 => decide (target ≤ 4095)
  | 4 => decide (target ≤ 15)
  | 6 => (decide (0x20 ≤ target) && decide (target ≤ 0x37)) || (decide (0x50 ≤ target) && decide (target ≤ 0x5F)) || target == 0x80 || target == 0x81
  | _ => target == 0
/-- ARG has no reserved bit set (R114). -/
def argOk (action arg : Nat) : Bool := if action = 7 then true else if action = 1 ∨ action = 4 then decide (arg < 256) else arg == 0
/-- The issue lane of an action. -/
def laneOf (action : Nat) : Nat := if action ≤ 2 then 1 else action
/-- Entries that can act in a common base cycle (R134, R115). -/
def CfgView.meet (v : CfgView) (i j : Nat) : Bool :=
  let g := Nat.gcd (v (F.ENT_RPT.at i) + 1) (v (F.ENT_RPT.at j) + 1)
  v (F.ENT_PHASE.at i) % g == v (F.ENT_PHASE.at j) % g &&
    (v (F.ENT_TOPO.at i) == 0 || v (F.ENT_TOPO.at j) == 0 || v (F.ENT_TOPO.at i) == v (F.ENT_TOPO.at j))
/-- Two entries occupy one target at one time. -/
def CfgView.clash (v : CfgView) (i j : Nat) : Bool :=
  let a := v (F.ENT_ACTION.at i)
  a != 7 && a == v (F.ENT_ACTION.at j) && v (F.ENT_TARGET.at i) == v (F.ENT_TARGET.at j) &&
    decide (v (F.ENT_OFFSET.at i) < v (F.ENT_OFFSET.at j) + v (F.ENT_WINDOW.at j)) &&
    decide (v (F.ENT_OFFSET.at j) < v (F.ENT_OFFSET.at i) + v (F.ENT_WINDOW.at i)) && v.meet i j

/-- What R134 and R265 check between a valid flow context and the PD_TX entries that name it, seen from group 0x10. -/
def CfgView.flowAgainst (v : CfgView) (ents : List Nat) (c : Nat) : Verdict :=
  let base := v F.BASE_CYCLE
  let cycle := v (F.CTX_CYCLE.at c)
  let role := v (F.CTX_ROLE.at c)
  let named := ents.filter fun i => v (F.ENT_ACTION.at i) == 2 && v (F.ENT_TARGET.at i) == c
  let at4 := (F.CTX_CYCLE.at c).addr
  firstOf [
    against (decide (cycle % max base 1 ≠ 0) || decide (v F.HYPER_PERIOD < cycle)) 0x51 at4,
    against (!named.isEmpty && (role == 1 || role == 3)) 0x51 (F.CTX_ROLE.at c).addr,
    against (!named.isEmpty && cycle == 0) 0x51 at4,
    against (named.any fun i => (v (F.ENT_RPT.at i) + 1) * base != cycle) 0x51 at4]

def Node.validate10 (n : Node) (gs : List Nat) : Verdict :=
  let v := n.cfgView gs
  let base := v F.BASE_CYCLE
  let hyper := v F.HYPER_PERIOD
  let cycles := hyper / max base 1
  let ents := List.range (min (v F.ENTRY_COUNT) 65536)
  let bad := fun (p : Nat → Bool) (code w : Nat) => overAll ents fun i => fails (p i) code (0x10000000 + 16 * i + 4 * w)
  let act := fun i => v (F.ENT_ACTION.at i)
  firstOf [
    fails (decide (base < 250) || decide (10000 < base)) 1 F.BASE_CYCLE.addr,
    fails (decide (hyper < base) || decide (1048576 < hyper)) 1 F.HYPER_PERIOD.addr,
    fails (decide (hyper % max base 1 ≠ 0)) 2 F.HYPER_PERIOD.addr,
    fails (decide (65536 < v F.ENTRY_COUNT)) 1 F.ENTRY_COUNT.addr,
    overAll n.trellis.shadowBad fun e => fails true 1 (0x10000000 + 16 * e.1 + 4 * e.2),
    bad (fun i => act i == 0 || decide (7 < act i)) 1 0,
    bad (fun i => !targetOk (act i) (v (F.ENT_TARGET.at i)) || !argOk (act i) (v (F.ENT_ARG.at i))) 1 3,
    bad (fun i => v (F.ENT_WINDOW.at i) == 0) 1 2,
    bad (fun i => decide (base * 125 < v (F.ENT_OFFSET.at i) + v (F.ENT_WINDOW.at i))) 2 0,
    bad (fun i => decide (cycles % (v (F.ENT_RPT.at i) + 1) ≠ 0) || decide (v (F.ENT_RPT.at i) < v (F.ENT_PHASE.at i))) 2 1,
    bad (fun i => decide (i ≠ 0) && decide (v (F.ENT_OFFSET.at i) < v (F.ENT_OFFSET.at (i - 1)))) 2 0,
    bad (fun j => (List.range j).any fun i => v.clash i j) 2 0,
    bad (fun j => decide (4 ≤ ((List.range j).filter fun i =>
      laneOf (act i) == laneOf (act j) && v (F.ENT_OFFSET.at i) == v (F.ENT_OFFSET.at j)).length)) 5 0,
    overAll (n.cfgValid gs 0x510000 32 1024 0) fun c => v.flowAgainst ents c,
    overAll ents fun i => match if act i = 1 then v.dedicated (v (F.ENT_TARGET.at i)) else none with
      | some p => against true 0x60 (F.PRESS_CFG_DED_PORT.at p).addr
      | none => none,
    against (decide (v F.OUT_CFG_HOLD_MS * 1000000 ≤ v.longestUpdate)) 0xB0 F.OUT_CFG_HOLD_MS.addr]

def Node.validate11 (n : Node) (gs : List Nat) : Verdict :=
  overAll (List.range 16) fun s =>
    let a := 0x100060 + 4 * (s / 8)
    fails (decide (6 < n.cfgView gs ⟨a, 4 * (s % 8), 4, 4⟩)) 1 a

/-! ### Groups of the switch core and the ports (R155, R158, R163, R172, R211) -/

/-- Word 1 of a VLAN entry follows word 0. -/
def Node.vlansOf (n : Node) (gs : List Nat) : List Nat :=
  ((n.cfgWords gs 0x210000 0x218000).map fun e => (e.1 - 0x210000) / 8).eraseDups
/-- The static entries of a view, with MAC and FID. -/
def CfgView.statics (v : CfgView) : List (Nat × Mac × Nat) :=
  (List.range (min (v F.ADDR_CFG_STATIC_COUNT) 4096)).map fun i =>
    (i, macOf (v (F.ST_MAC_LO.at i)) (v (F.ST_MAC_HI.at i)), v (F.ST_FID.at i))

def Node.validate20 (n : Node) (gs : List Nat) : Verdict :=
  let v := n.cfgView gs
  let vlans := n.vlansOf gs
  let st := v.statics
  let ded := (List.range 16).filterMap fun p =>
    let q := v (F.PRESS_CFG_DED_PORT.at p)
    if q = 31 then none else some (p, q)
  firstOf [
    overAll (List.range 19) fun p =>
      fails (v (F.PORT_CFG_PVID.at p) == 0 || v (F.PORT_CFG_PVID.at p) == 4095) 1 (F.PORT_CFG_PVID.at p).addr,
    fails (decide (4096 < v F.ADDR_CFG_STATIC_COUNT)) 1 F.ADDR_CFG_STATIC_COUNT.addr,
    overAll vlans fun k => fails (v (F.VLAN_ROUTE.at k) == 3) 1 (F.VLAN_ROUTE.at k).addr,
    overAll vlans fun k => fails ((List.range 19).any fun p => hasBit (v (F.VLAN_UNTAG.at k)) p && !hasBit (v (F.VLAN_MEMBER.at k)) p) 2
      (F.VLAN_UNTAG.at k).addr,
    overAll (pairsWith st fun a b => a.2 == b.2) fun e => fails true 2 (F.ST_MAC_LO.at e.2.1).addr,
    overAll st fun e => fails (decide (8 < (st.filter fun x => decide (x.1 ≤ e.1) && macBucket x.2.1 x.2.2 == macBucket e.2.1 e.2.2).length)) 5
      (F.ST_MAC_LO.at e.1).addr,
    overAll ded fun d => against ((vlans.any fun k => hasBit (v (F.VLAN_MEMBER.at k)) d.2) || st.any fun e => hasBit (v (F.ST_PORTS.at e.1)) d.2)
      0x60 (F.PRESS_CFG_DED_PORT.at d.1).addr]

def Node.validate21 (n : Node) (gs : List Nat) : Verdict :=
  let v := n.cfgView gs
  let routes := n.cfgValid gs 0x218000 16 256 3
  let trans := n.cfgValid gs 0x230000 16 4096 3
  let contiguous := fun (m : Nat) => (List.range 33).any fun k => m == 2 ^ 32 - 2 ^ k
  firstOf [
    overAll routes fun i => fails (!contiguous (v (F.RT_MASK.at i))) 1 (F.RT_MASK.at i).addr,
    overAll routes fun i => fails (Nat.land (v (F.RT_PREFIX.at i)) (v (F.RT_MASK.at i)) != v (F.RT_PREFIX.at i)) 2 (F.RT_PREFIX.at i).addr,
    overAll (pairsWith routes fun i j => v (F.RT_PREFIX.at i) == v (F.RT_PREFIX.at j) && v (F.RT_MASK.at i) == v (F.RT_MASK.at j)) fun e =>
      fails true 2 (F.RT_PREFIX.at e.2).addr,
    overAll (pairsWith trans fun i j => v (F.XL_LOCAL_IP.at i) == v (F.XL_LOCAL_IP.at j)) fun e => fails true 2 (F.XL_LOCAL_IP.at e.2).addr,
    overAll (pairsWith trans fun i j => v (F.XL_TRAIN_IP.at i) == v (F.XL_TRAIN_IP.at j)) fun e => fails true 2 (F.XL_TRAIN_IP.at e.2).addr]

def Node.validate22 (n : Node) (gs : List Nat) : Verdict :=
  let v := n.cfgView gs
  firstOf [
    fails ((List.range 8).any fun q => decide (9 < v ⟨F.ALPHA_CODES.addr, 4 * q, 4, 4⟩)) 1 F.ALPHA_CODES.addr,
    overAll (List.range 152) fun k => fails (decide (31250 < v (F.AGE.at k))) 1 (F.AGE.at k).addr]

/-- MODE codes of a port's kind (R177). -/
def modeOk (port mode : Nat) : Bool :=
  mode == 0 || (if port < 4 then decide (mode ≤ 4) else if port < 12 then decide (5 ≤ mode) && decide (mode ≤ 7)
    else if port < 14 then mode == 8 || mode == 9 else mode == 10)

def Node.validate30 (n : Node) (gs : List Nat) : Verdict :=
  let v := n.cfgView gs
  firstOf [
    overAll (List.range 16) fun p => fails (!modeOk p (v (F.PORT_MODE_MODE.at p)) || v (F.PORT_MODE_ROLE.at p) == 3) 1 (F.PORT_MODE_MODE.at p).addr,
    overAll (List.range 19) fun p =>
      let m := v (F.MAX_FRAME.at p)
      fails (decide (m < 1518) || decide (9220 < m) || ((p == 14 || p == 15) && m != 1522)) 1 (F.MAX_FRAME.at p).addr,
    overAll (List.range 16) fun p =>
      fails (decide (4 < v (F.LINK_CFG_UP_SEL.at p)) || decide (4 < v (F.LINK_CFG_DN_SEL.at p))) 1 (F.LINK_CFG_UP_SEL.at p).addr,
    overAll (List.range 16) fun q => match if v (F.PORT_MODE_MODE.at q) = 0 then v.dedicated q else none with
      | some p => against true 0x60 (F.PRESS_CFG_DED_PORT.at p).addr
      | none => none]

/-! ### Group 0x40 (R236) -/

def Node.validate40 (n : Node) (gs : List Nat) : Verdict :=
  let v := n.cfgView gs
  let shift := v F.ADDR_FMT_SUBNET_SHIFT
  firstOf [
    fails (decide (n.rd F.VARIANT_AVAIL < v F.INA_CFG_VARIANT_COUNT)) 1 F.INA_CFG_VARIANT_COUNT.addr,
    fails (v F.INA_CFG_HELLO_SEL == 3) 1 F.INA_CFG_HELLO_SEL.addr,
    fails (decide (shift < 8) || decide (20 < shift)) 1 F.ADDR_FMT_SUBNET_SHIFT.addr,
    fails (decide (v F.NET_BASE_BASE % 2 ^ (shift + 6) ≠ 0)) 2 F.NET_BASE_BASE.addr,
    fails (n.ina.devices.any fun d => d.host.toNat == 0 || decide (2 ^ shift - 2 < d.host.toNat)) 1 F.ADDR_FMT_SUBNET_SHIFT.addr]

/-! ### Groups of the process-data flow engine (R242, R244, R256, R258, R261, R265) -/

/-- Two TOPO values that can be in force together. -/
def topoMeet (a b : Nat) : Bool := a == 0 || b == 0 || a == b
/-- INHERIT links with INHERIT_EN set between contexts in use, in a view. -/
def CfgView.links (v : CfgView) (used : List Nat) : List (Nat × Nat) :=
  used.filterMap fun i =>
    let j := v (F.CTX_INHERIT.at i)
    if v (F.CTX_INHERIT_EN.at i) = 1 ∧ j ∈ used then some (i, j) else none
/-- Units that the buffers of a context, and of a session, occupy. -/
def CfgView.flowUnits (v : CfgView) (i : Nat) : Nat × Nat :=
  (v (F.CTX_DS_BASE.at i), v (F.CTX_DS_BASE.at i) + 2 * ((v (F.CTX_DS_LEN.at i) + 63) / 64))
def CfgView.sessionUnits (v : CfgView) (k : Nat) : Nat × Nat := (v (F.SES_BUF_BASE.at k), v (F.SES_BUF_BASE.at k) + 44)
/-- Two spans share a unit. -/
def spansMeet (a b : Nat × Nat) : Bool := decide (max a.1 b.1 < min a.2 b.2)
/-- CONSIST, and PEER_IP, fit their ADDR_MODE (R244, R265). -/
def consistOk (mode consist : Nat) : Bool := decide (mode ≤ 1) || consist != 0
def peerOk (mode peer : Nat) : Bool := mode == 0 || decide (peer < 2 ^ 20)

def Node.validate51 (n : Node) (gs : List Nat) : Verdict :=
  let v := n.cfgView gs
  let used := n.cfgValid gs 0x510000 32 1024 0
  let sess := n.cfgValid gs 0x520000 32 256 0
  let ents := (List.range (min (v F.ENTRY_COUNT) 65536)).filter fun i => v (F.ENT_ACTION.at i) == 2
  let links := v.links used
  let len := fun i => v (F.CTX_DS_LEN.at i)
  let topo := fun i => v (F.CTX_TOPO.at i)
  let role := fun i => v (F.CTX_ROLE.at i)
  let bad := fun (p : Nat → Bool) (code w : Nat) => overAll used fun i => fails (p i) code (0x510000 + 32 * i + 4 * w)
  firstOf [
    bad (fun i => decide (3 < role i) || v (F.CTX_CNT_MODE.at i) == 3) 1 0,
    bad (fun i => !peerOk (v (F.CTX_ADDR_MODE.at i)) (v (F.CTX_PEER_IP.at i))) 1 2,
    bad (fun i => !consistOk (v (F.CTX_ADDR_MODE.at i)) (v (F.CTX_CONSIST.at i))) 1 3,
    bad (fun i => v (F.CTX_VID.at i) == 0 || v (F.CTX_VID.at i) == 4095) 1 3,
    bad (fun i => decide (1 < v (F.CTX_TO_ACTION.at i)) || decide (1432 < len i)) 1 6,
    bad (fun j => role j == 1 && used.any fun i => decide (i < j) && role i == 1 && topoMeet (topo i) (topo j) &&
      v (F.CTX_COM_ID.at i) == v (F.CTX_COM_ID.at j) && v (F.CTX_PEER_IP.at i) == v (F.CTX_PEER_IP.at j)) 2 1,
    bad (fun i =>
      let grp := joined links used.length [i]
      decide (1 < grp.length) && grp.any fun j => role j != role i || v (F.CTX_DS_BASE.at j) != v (F.CTX_DS_BASE.at i) || len j != len i ||
        topo j == 0 || (j != i && topo j == topo i)) 2 0,
    bad (fun i => role i == 2 && len i != 0) 2 6,
    bad (fun i => v (F.CTX_SDT_EN.at i) == 1 && (decide (len i % 4 ≠ 0) || decide (len i < 16))) 2 6,
    bad (fun j => (used.any fun i => decide (i < j) && spansMeet (v.flowUnits i) (v.flowUnits j) && !(joined links used.length [i]).contains j) ||
      sess.any fun k => spansMeet (v.sessionUnits k) (v.flowUnits j)) 2 6,
    bad (fun i => decide (len i ≠ 0) && decide (32768 < (v.flowUnits i).2)) 5 6,
    bad (fun i => decide (v (F.CTX_CYCLE.at i) % max (v F.BASE_CYCLE) 1 ≠ 0)) 9 4 |>.map fun e => (e.1, infoAt 0x10 F.BASE_CYCLE.addr),
    overAll used fun i => against (decide (v F.HYPER_PERIOD < v (F.CTX_CYCLE.at i))) 0x10 F.HYPER_PERIOD.addr,
    overAll (ents.filter fun e => used.contains (v (F.ENT_TARGET.at e))) fun e =>
      let c := v (F.ENT_TARGET.at e)
      firstOf [
        against (role c == 1 || role c == 3 || v (F.CTX_CYCLE.at c) == 0) 0x10 (F.ENT_TARGET.at e).addr,
        against ((v (F.ENT_RPT.at e) + 1) * v F.BASE_CYCLE != v (F.CTX_CYCLE.at c)) 0x10 (F.ENT_RPT.at e).addr]]

def Node.validate52 (n : Node) (gs : List Nat) : Verdict :=
  let v := n.cfgView gs
  let sess := n.cfgValid gs 0x520000 32 256 0
  let used := n.cfgValid gs 0x510000 32 1024 0
  let bad := fun (p : Nat → Bool) (code w : Nat) => overAll sess fun i => fails (p i) code (0x520000 + 32 * i + 4 * w)
  let mode := fun k => v (F.SES_ADDR_MODE_CONSIST.at k)
  firstOf [
    bad (fun k => v (F.SES_KIND.at k) == 3 || decide (1 < v (F.SES_OWNER.at k)) || v (F.SES_CNT_MODE.at k) == 3) 1 0,
    bad (fun k => v (F.SES_KIND.at k) != 0 && v (F.SES_REPLY_TO.at k) == 0) 1 0,
    bad (fun k => !peerOk (mode k / 64) (v (F.SES_PEER_IP.at k))) 1 2,
    bad (fun k => !consistOk (mode k / 64) (mode k % 64) || v (F.SES_VID.at k) == 0 || v (F.SES_VID.at k) == 4095) 1 3,
    bad (fun k => (sess.any fun j => decide (j < k) && spansMeet (v.sessionUnits j) (v.sessionUnits k)) ||
      used.any fun i => spansMeet (v.flowUnits i) (v.sessionUnits k)) 2 4,
    bad (fun k => decide (32768 < (v.sessionUnits k).2)) 5 4]

/-! ### Group 0x60 (R272, R278, R284, R287, R297, R299) -/

/-- Line units a Press owns, with framing and rate (R278: OWNER is ignored while RATE is 0). -/
def CfgView.linesOf (v : CfgView) (p : Nat) : List (Nat × Nat × Nat) :=
  ((List.range 32).filter fun u => v (F.LU_CFG_RATE.at u) != 0 && v (F.LU_CFG_OWNER.at u) == p).map fun u =>
    (u, v (F.LU_CFG_FRAMING.at u), v (F.LU_CFG_RATE.at u))
/-- CAN_OWN field of a controller. -/
def canOwnField (c : Nat) : Field := ⟨0x600280 + 4 * (c / 4), 8 * (c % 4), 5, 4⟩
/-- Controllers a Press owns. -/
def CfgView.cansOf (v : CfgView) (p : Nat) : List Nat := (List.range 8).filter fun c => v (canOwnField c) == p

/-- The roles an image accepts (R297). -/
def roleOk (image role : Nat) : Bool :=
  decide (role ≤ (match image with
    | 2 => 0
    | 8 => 3
    | 0xA => 0
    | 0xD => 0
    | _ => 1)) && decide (1 ≤ image) && decide (image ≤ 14)
/-- Rates of IEC 61158 Type 3 over RS-485 (R297). -/
def type3Rates : List Nat := [9600, 19200, 45450, 93750, 187500, 500000, 1500000, 3000000, 6000000, 12000000]
/-- The line units an image uses in a role (R297). -/
def linesOk (image role : Nat) (l : List (Nat × Nat × Nat)) : Bool :=
  match image with
  | 1 => l.length == 2 && l.all fun e => e.2 == (3, 1500000)
  | 2 => l.length == 5 && (l.filter fun e => e.2 == (3, 1000000)).length == 4 && (l.filter fun e => e.2 == (0, 9600)).length == 1
  | 7 => l.length == 1 && l.all fun e => e.2.1 == 1 && type3Rates.contains e.2.2
  | 8 => if role ≤ 1 then l.length == 1 && l.all fun e => e.2.1 == 1 && decide (9600 ≤ e.2.2) && decide (e.2.2 ≤ 115200) else l.isEmpty
  | 0xE => decide (1 ≤ l.length) && decide (l.length ≤ 4) && l.all fun e => e.2.1 == (if role = 0 then 2 else 1)
  | _ => l.isEmpty
/-- The controllers, and the dedicated port, an image uses in a role (R297). -/
def cansOk (image count : Nat) : Bool := if 3 ≤ image ∧ image ≤ 6 then count == 1 else count == 0
def dedOk (image role port : Nat) : Bool :=
  if image = 0xA ∨ image = 0xC ∨ image = 0xD then decide (4 ≤ port) && decide (port ≤ 11)
  else if (image = 8 ∧ 2 ≤ role) ∨ image = 9 ∨ image = 0xB then port == 31 || (decide (4 ≤ port) && decide (port ≤ 13))
  else port == 31
/-- MODE of a dedicated port that the image accepts (R287, R297). -/
def dedModeOk (image mode : Nat) : Bool := if image = 0xA ∨ image = 0xC ∨ image = 0xD then mode == 5 else mode != 0

/-- Quanta clocks of a nominal, and of a data bit: 80 MHz over them is the rate (R305). -/
def CfgView.nominal (v : CfgView) (c : Nat) : Nat := (v (F.NBT_NBRP.at c) + 1) * (3 + v (F.NBT_NTSEG1.at c) + v (F.NBT_NTSEG2.at c))
def CfgView.dataBit (v : CfgView) (c : Nat) : Nat := (v (F.DBT_DBRP.at c) + 1) * (3 + v (F.DBT_DTSEG1.at c) + v (F.DBT_DTSEG2.at c))
/-- The owning image accepts the nominal rate, the format and the role: SAE J1939 at 250 or 500 kb/s, CAN FD frames for none of the images
0x0003, 0x0004 and 0x0006, and a reference message of a potential time master alone (R297, R298; log entry 22). -/
def canRoleOk (image role bit : Nat) (fd ref : Bool) : Bool :=
  (image != 6 || bit == 320 || bit == 160) && !(fd && (image == 3 || image == 4 || image == 6)) && (!ref || (image == 5 && role == 0))
/-- The owning image accepts the rates, the format and the role of a controller. -/
def CfgView.canAccepted (v : CfgView) (c : Nat) : Bool :=
  let p := v (canOwnField c)
  decide (15 < p) || canRoleOk (v (F.PRESS_CFG_IMAGE.at p)) (v (F.PRESS_CFG_ROLE.at p)) (v.nominal c) (v (F.CAN_CFG_FD_EN.at c) == 1)
    (v (F.REF_CFG_REF_EN.at c) == 1)

def Node.validate60 (n : Node) (gs : List Nat) : Verdict :=
  let v := n.cfgView gs
  let presses := List.range 16
  let image := fun p => v (F.PRESS_CFG_IMAGE.at p)
  let role := fun p => v (F.PRESS_CFG_ROLE.at p)
  let on := fun p => v (F.PRESS_CFG_ENABLE.at p) == 1
  let ded := fun p => v (F.PRESS_CFG_DED_PORT.at p)
  let win := fun p => v (F.PRESS_CFG_WIN_LEN.at p)
  let out := fun p => v (F.PRESS_CFG_OUT_OFS.at p)
  let bad := fun (p : Nat → Bool) (code w : Nat) => overAll presses fun i => fails (p i) code (0x600100 + 16 * i + 4 * w)
  let vlans := n.vlansOf gs
  let ents := List.range (min (v F.ENTRY_COUNT) 65536)
  firstOf [
    fails (decide (4 < v ⟨0x600004, 0, 3, 4⟩)) 1 0x600004,
    bad (fun p => image p != 0 && !n.images.any (·.id == image p)) 1 0,
    bad (fun p => ded p != 31 && (decide (ded p < 4) || decide (13 < ded p))) 1 0,
    bad (fun p => decide (256 < win p) || (win p != 0 && (out p == 0 || decide (win p < out p)))) 1 1,
    overAll (List.range 32) fun u =>
      let r := v (F.LU_CFG_RATE.at u)
      fails (decide (3 < v (F.LU_CFG_FRAMING.at u)) || (r != 0 && decide (r < 9600)) || decide (25000000 < r)) 1 (F.LU_CFG_RATE.at u).addr,
    overAll (List.range 8) fun c => fails (decide (15 < v (canOwnField c)) && v (canOwnField c) != 31) 1 (canOwnField c).addr,
    overAll (List.range 64) fun d => fails (decide (2 < v (F.DISP_KIND.at d))) 1 (F.DISP_KIND.at d).addr,
    overAll (List.range 64) fun d => fails (v (F.DISP_VID.at d) == 4095) 1 (F.DISP_VID.at d).addr,
    bad (fun p => win p != 0 && (decide ((out p - 1) % 2 ≠ 0) || decide ((win p - out p) % 2 ≠ 0))) 2 1,
    bad (fun p => on p && image p == 0) 2 0,
    bad (fun p => ded p != 31 && (List.range p).any fun q => ded q == ded p) 2 0,
    overAll (List.range 32) fun u => fails (v (F.LU_CFG_RATE.at u) != 0 && !on (v (F.LU_CFG_OWNER.at u))) 2 (F.LU_CFG_OWNER.at u).addr,
    overAll (List.range 8) fun c => fails (v (canOwnField c) != 31 && !on (v (canOwnField c))) 2 (canOwnField c).addr,
    bad (fun p => image p != 0 && (!roleOk (image p) (role p) || !(dedOk (image p) (role p) (ded p) || (!on p && ded p == 31)))) 2 0,
    bad (fun p => on p && (!linesOk (image p) (role p) (v.linesOf p) || !cansOk (image p) (v.cansOf p).length)) 2 0,
    bad (fun p => image p != 0 && decide (262144 < n.sramNeed (image p) p)) 5 0,
    bad (fun p => image p != 0 && decide (win p < n.winNeed (image p) p)) 5 1,
    overAll (presses.filter fun p => ded p != 31) fun p => firstOf [
      overAll vlans fun k => against (hasBit (v (F.VLAN_MEMBER.at k)) (ded p)) 0x20 (F.VLAN_MEMBER.at k).addr,
      overAll v.statics fun e => against (hasBit (v (F.ST_PORTS.at e.1)) (ded p)) 0x20 (F.ST_PORTS.at e.1).addr,
      overAll ents fun i => against (v (F.ENT_ACTION.at i) == 1 && v (F.ENT_TARGET.at i) == ded p) 0x10 (F.ENT_TARGET.at i).addr,
      against (!dedModeOk (image p) (v (F.PORT_MODE_MODE.at (ded p)))) 0x30 (F.PORT_MODE_MODE.at (ded p)).addr],
    overAll (List.range 8) fun c => against (!v.canAccepted c) (0x70 + c) (F.NBT_NBRP.at c).addr]

/-! ### Groups 0x70 + c (R298, R305, R325) -/

def Node.validate70 (n : Node) (gs : List Nat) (c : Nat) : Verdict :=
  let v := n.cfgView gs
  let p := v (canOwnField c)
  let ref := v (F.REF_CFG_REF_EN.at c) == 1
  firstOf [
    fails (v (F.CAN_CFG_MODE.at c) == 3) 1 (F.CAN_CFG_MODE.at c).addr,
    fails (decide (v.nominal c < 80) || decide (8000 < v.nominal c) || v (F.NBT_NTSEG2.at c) == 0) 1 (F.NBT_NBRP.at c).addr,
    fails (decide (v.dataBit c < 10)) 1 (F.DBT_DBRP.at c).addr,
    fails (decide (v (F.NBT_NTSEG2.at c) < v (F.NBT_NSJW.at c))) 2 (F.NBT_NBRP.at c).addr,
    fails (decide (v (F.DBT_DTSEG2.at c) < v (F.DBT_DSJW.at c)) || decide (v.nominal c < v.dataBit c)) 2 (F.DBT_DBRP.at c).addr,
    fails (ref && v (F.CAN_CFG_MODE.at c) != 0) 2 (F.REF_CFG_REF_EN.at c).addr,
    against (!v.canAccepted c) 0x60 (F.PRESS_CFG_IMAGE.at p).addr]

/-! ### Groups of the Blend unit (R332 to R335, R338, R349) -/

/-- A job of a view: number, first entry, entries, TOPO, CONSUME. -/
structure JobView where
  job : Nat
  first : Nat
  count : Nat
  topo : Nat
  consume : Bool
  deriving DecidableEq, Repr
/-- Jobs with entries, in a view. -/
def Node.jobsOf (n : Node) (gs : List Nat) : List JobView :=
  let v := n.cfgView gs
  (n.cfgWords gs 0x810000 0x818000).filterMap fun e =>
    let j := (e.1 - 0x810000) / 8
    if e.1 % 8 = 4 ∧ v (F.JOB.at j) ≠ 0 then
      some ⟨j, v (F.JOB_FIRST.at j), v (F.JOB.at j), v (F.JOB_TOPO.at j), v (F.JOB_CONSUME.at j) == 1⟩
    else none
/-- Jobs that can run in one topology. -/
def jobsMeet (a b : JobView) : Bool := topoMeet a.topo b.topo
/-- An entry named by a job. -/
abbrev NamedEntry := Nat × JobView

/-- Encoding faults of an entry, the word that holds the field answered: KIND, FMT, RMODE; CTYPE, its KIND, CIDX; LEN. -/
def CfgView.entryBad (v : CfgView) (e : Nat) : Option Nat :=
  let kind := v (F.BE_KIND.at e)
  let fmt := v (F.BE_FMT.at e)
  let ct := v (F.BE_CTYPE.at e)
  let ci := v (F.BE_CIDX.at e)
  let len := v (F.BE_LEN.at e)
  if 1 < kind ∨ fmt = 3 ∨ 1 < v (F.BE_RMODE.at e) then some 0
  else if 7 < ct ∨ ((ct = 0 ∨ ct = 6 ∨ ct = 7) ∧ kind = 1) ∨ ((ct = 1 ∨ ct = 5) ∧ kind = 0) then some 1
  else if (ct ≤ 1 ∧ 15 < ci) ∨ (ct = 2 ∧ 511 < ci) ∨ (ct = 4 ∧ 63 < ci) ∨ (5 ≤ ct ∧ ci ≠ 0) then some 1
  else if 64 < len ∨ (fmt = 2 ∧ len ≠ 32) then some 4 else none
/-- Container of an entry in a view, and the span of its field in bits. -/
def CfgView.container (v : CfgView) (e : Nat) : Nat := containerKey (v (F.BE_CTYPE.at e)) (v (F.BE_CIDX.at e))
def CfgView.bits (v : CfgView) (e : Nat) : Nat × Nat := (v (F.BE_BIT_OFS.at e), v (F.BE_BIT_OFS.at e) + v (F.BE_LEN.at e))
/-- What an OUT entry writes of its own: a container, or command words (R340). -/
def CfgView.written (v : CfgView) (e : Nat) : List Nat :=
  if v (F.BE_CTYPE.at e) = 5 then (fieldWords (v (F.BE_BIT_OFS.at e)) (v (F.BE_LEN.at e))).map (containerKey 5 1023 + 1 + ·)
  else [v.container e]
/-- Bytes up to the end of a field (R333): bits of a big-endian word lie in the bytes the field spans. -/
def CfgView.fieldEnd (v : CfgView) (e : Nat) : Nat :=
  v (F.BE_BIT_OFS.at e) / 8 + fieldBytes (v (F.BE_BIT_OFS.at e)) (v (F.BE_LEN.at e))
/-- The bits of the container that a field occupies: bit 8 b + k is bit k of byte b. -/
def CfgView.spots (v : CfgView) (e : Nat) : List Nat :=
  let ofs := v (F.BE_BIT_OFS.at e)
  let nb := fieldBytes ofs (v (F.BE_LEN.at e))
  (List.range (v (F.BE_LEN.at e))).map fun k =>
    let w := ofs % 8 + k
    let byte := if v (F.BE_ORDER.at e) = 1 then nb - 1 - w / 8 else w / 8
    8 * (ofs / 8 + byte) + w % 8

/-- Checks of a named entry against the container it names. -/
def Node.containerCheck (n : Node) (v : CfgView) (e : Nat) : Verdict :=
  let ct := v (F.BE_CTYPE.at e)
  let ci := v (F.BE_CIDX.at e)
  let kind := v (F.BE_KIND.at e)
  let stop := v.fieldEnd e
  let w1 := 0x20000004 + 32 * e
  match ct with
  | 0 => against (v (F.PRESS_CFG_WIN_LEN.at ci) == 0 || decide ((v (F.PRESS_CFG_OUT_OFS.at ci) - 1) * 128 < stop)) 0x60 (F.PRESS_CFG_WIN_LEN.at ci).addr
  | 1 => against (v (F.PRESS_CFG_WIN_LEN.at ci) == 0 || decide ((v (F.PRESS_CFG_WIN_LEN.at ci) - v (F.PRESS_CFG_OUT_OFS.at ci)) * 128 < stop)) 0x60
      (F.PRESS_CFG_WIN_LEN.at ci).addr
  | 2 =>
    let b := ci % 64
    let dir : Field := ⟨(if b < 32 then F.MB_DIR_LO_DIR.at (ci / 64) else F.MB_DIR_HI_DIR.at (ci / 64)).addr, b % 32, 1, 4⟩
    firstOf [fails (decide (64 < stop)) 2 w1, against (v dir != kind) (0x70 + ci / 64) dir.addr]
  | 3 =>
    let role := v (F.CTX_ROLE.at ci)
    firstOf [
      against (if kind = 0 then role != 1 else role != 0 && role != 3) 0x51 (F.CTX_ROLE.at ci).addr,
      against (decide (v (F.CTX_DS_LEN.at ci) < stop)) 0x51 (F.CTX_DS_LEN.at ci).addr]
  | 4 => firstOf [
      fails (!n.bit F.HBR_STATUS_PCIE_SEL) 1 w1,
      fails (decide ((v (F.HC_LEN_M1.at ci) + 1) * 64 < stop) || v (F.HC_DIR.at ci) != kind) 2 w1]
  | 5 => fails (decide (96 < stop)) 2 w1
  | 6 => fails (decide (204 < stop)) 2 w1
  | _ => fails (decide (44 < stop)) 2 w1

def Node.validate80 (n : Node) (gs : List Nat) : Verdict :=
  let v := n.cfgView gs
  let jobs := n.jobsOf gs
  let named : List NamedEntry := jobs.flatMap fun j => (List.range j.count).map fun k => (j.first + k, j)
  let all := ((n.cfgWords gs 0x20000000 0x20800000).map fun e => (e.1 - 0x20000000) / 32).eraseDups
  let word := fun (e w : Nat) => 0x20000000 + 32 * e + 4 * w
  let kind := fun e => v (F.BE_KIND.at e)
  let outs := named.filter fun e => kind e.1 == 1
  let ins := named.filter fun e => kind e.1 == 0
  firstOf [
    overAll jobs fun j => fails (decide (262144 < j.first + j.count)) 1 (F.JOB_FIRST.at j.job).addr,
    overAll all fun e => match v.entryBad e with
      | some w => fails true 1 (word e w)
      | none => none,
    overAll named fun e => fails (v (F.BE_LEN.at e.1) == 0) 1 (word e.1 4),
    overAll (pairsWith jobs fun a b => decide (max a.first b.first < min (a.first + a.count) (b.first + b.count))) fun e =>
      fails true 2 (F.JOB_FIRST.at e.2.job).addr,
    overAll ins fun e => fails (outs.any fun o => o.2 == e.2 && decide (o.1 < e.1)) 2 (word e.1 0),
    overAll (pairsWith ins fun a b => v (F.BE_SIGNAL.at a.1) == v (F.BE_SIGNAL.at b.1) && (a.2 == b.2 || jobsMeet a.2 b.2)) fun e =>
      fails true 2 (word e.2.1 0),
    overAll (pairsWith outs fun a b => a.2 != b.2 && jobsMeet a.2 b.2 && (v.written a.1).any fun k => (v.written b.1).contains k) fun e =>
      fails true 2 (word e.2.1 1),
    overAll (pairsWith outs fun a b => v.container a.1 == v.container b.1 && (a.2 == b.2 || jobsMeet a.2 b.2) &&
      (v.spots a.1).any fun k => (v.spots b.1).contains k) fun e => fails true 2 (word e.2.1 1),
    overAll (pairsWith named fun a b => v (F.BE_SIGNAL.at a.1) == v (F.BE_SIGNAL.at b.1) && v (F.BE_SFMT.at a.1) != v (F.BE_SFMT.at b.1)) fun e =>
      fails true 2 (word e.2.1 0),
    overAll named fun e => fails (v (F.BE_RMODE.at e.1) == 0 && (v (F.BE_FMT.at e.1) == 2 || v (F.BE_SFMT.at e.1) == 1)) 2 (word e.1 0),
    overAll (pairsWith (ins.filter (·.2.consume)) fun a b => a.2 != b.2 && v.container a.1 == v.container b.1) fun e =>
      fails true 2 (F.JOB_FIRST.at e.2.2.job).addr,
    overAll named fun e => n.containerCheck v e.1]

def Node.validate81 (n : Node) (gs : List Nat) : Verdict :=
  let v := n.cfgView gs
  let named := (n.jobsOf gs).flatMap fun j => (List.range j.count).map (j.first + ·)
  firstOf [
    overAll (List.range 64) fun h => fails (decide (v (F.HC_HADDR_LO.at h) % 64 ≠ 0)) 1 (F.HC_HADDR_LO.at h).addr,
    overAll (named.filter fun e => v (F.BE_CTYPE.at e) == 4) fun e =>
      let h := v (F.BE_CIDX.at e)
      fails (decide ((v (F.HC_LEN_M1.at h) + 1) * 64 < v.fieldEnd e) || v (F.HC_DIR.at h) != v (F.BE_KIND.at e)) 2 (F.HC_LEN_M1.at h).addr]

/-! ### Groups 0x90 to 0xF0 (R375, R385, R435, R462, R491, R507, R529) -/

def Node.validate90 (n : Node) (gs : List Nat) : Verdict :=
  let v := n.cfgView gs
  let on := fun d => v (F.DOM_CFG_ENABLE.at d) == 1
  let ports := fun d => (List.range 16).filter fun p => hasBit (v (F.DOM_CFG_PORTS.at d)) p
  firstOf [
    overAll [0, 1] fun d => fails (v (F.DOM_CFG_PROFILE.at d) == 3 || (ports d).any fun p => v (F.PORT_MODE_MODE.at p) == 0) 1
      (F.DOM_CFG_PROFILE.at d).addr,
    fails (on 0 && on 1 && v F.DOM_CFG_PROFILE == v (F.DOM_CFG_PROFILE.at 1) && v F.DOM_CFG_TRANSPORT == v (F.DOM_CFG_TRANSPORT.at 1) &&
      v F.DOM_CFG_DOMAIN_NUM == v (F.DOM_CFG_DOMAIN_NUM.at 1)) 2 (F.DOM_CFG_DOMAIN_NUM.at 1).addr,
    fails (!on (v F.TIME_CFG_PRIMARY)) 2 F.TIME_CFG_PRIMARY.addr,
    overAll [0, 1] fun d => fails (v (F.DOM_CFG_TRANSPORT.at d) == 1 && v (F.DOM_CFG_PROFILE.at d) == 2) 2 (F.DOM_CFG_PROFILE.at d).addr,
    overAll [0, 1] fun d => overAll (ports d) fun q => match v.dedicated q with
      | some p => against true 0x60 (F.PRESS_CFG_DED_PORT.at p).addr
      | none => none]

def Node.validateA0 (n : Node) (gs : List Nat) : Verdict :=
  let v := n.cfgView gs
  let ranges := List.range 16
  let on := ranges.filter fun i => v (F.RANGE_SIZE.at i) != 0
  let span := fun i => (v (F.RANGE_BASE.at i), v (F.RANGE_BASE.at i) + v (F.RANGE_SIZE.at i))
  firstOf [
    fails (decide (v F.HBR_CFG_BUDGET < 10) || decide (200 < v F.HBR_CFG_BUDGET) || v F.HBR_CFG_DISCARD == 0) 1 F.HBR_CFG_BUDGET.addr,
    overAll ranges fun i => fails (decide (1 < v (F.RANGE_BAR.at i))) 1 (F.RANGE_BAR.at i).addr,
    overAll ranges fun i => fails (v (F.RANGE_WIDTH.at i) == 3 || decide (256 < v (F.RANGE_PF_LEN.at i))) 1 (F.RANGE_WIDTH.at i).addr,
    overAll on fun i => fails (decide ((if v (F.RANGE_BAR.at i) = 0 then 0x4000 else 0x10000) < (span i).2)) 2 (F.RANGE_SIZE.at i).addr,
    overAll (pairsWith on fun i j => v (F.RANGE_BAR.at i) == v (F.RANGE_BAR.at j) && spansMeet (span i) (span j)) fun e =>
      fails true 2 (F.RANGE_BASE.at e.2).addr]

/-- Declared currents in 10 mA units fit R23: 40 A each supply, 60 A together, 10 W lost. -/
def CfgView.currentsOk (v : CfgView) : Bool :=
  let i := fun c => v (F.CH_CFG_I_DECL.at c)
  let sum := fun (p : Nat → Bool) => (channels.filter p).foldl (fun t c => t + i c) 0
  decide (sum onSupplyA ≤ 4000) && decide (sum (fun c => !onSupplyA c) ≤ 4000) && decide (sum (fun _ => true) ≤ 6000) &&
    decide (channels.foldl (fun t c => t + i c * i c * (if heavy c then 14 else 55)) 0 ≤ 100000000)

def Node.validateB0 (n : Node) (gs : List Nat) : Verdict :=
  let v := n.cfgView gs
  let hold := v F.OUT_CFG_HOLD_MS
  let bad := fun (p : Nat → Bool) (code w : Nat) => overAll channels fun i => fails (p i) code (0xB00100 + 16 * i + 4 * w)
  let lamp := fun c => v (F.CH_CFG_LAMP.at c) == 1
  let win := fun c => v (F.CH_CFG_RETRY_WIN.at c)
  let space := fun c => v (F.CH_CFG_RETRY_SPACE.at c)
  firstOf [
    fails (decide (hold < 50) || decide (2000 < hold) || decide (v F.OUT_CFG_TH_DIFF < 40) || decide (80 < v F.OUT_CFG_TH_DIFF)) 1 F.OUT_CFG_HOLD_MS.addr,
    bad (fun c => v (F.CH_CFG_FAIL_STATE.at c) == 3 || decide (4 < v (F.CH_CFG_DIM_SRC.at c)) || (lamp c && decide (c < 20))) 1 0,
    bad (fun c => (lamp c && (decide (v (F.CH_CFG_UREF.at c) < 120) || decide (320 < v (F.CH_CFG_UREF.at c)))) || decide (space c < 2) ||
      decide (50 < space c) || decide (win c < 2) || decide (2000 < win c)) 1 1,
    bad (fun c => decide ((if heavy c then 800 else 300) < v (F.CH_CFG_I_DECL.at c))) 1 2,
    bad (fun c => lamp c && v (F.CH_CFG_DIM_SRC.at c) != 0) 2 0,
    bad (fun c => v (F.CH_CFG_LEGACY.at c) == 1 && decide (win c < space c)) 2 1,
    fails (!v.currentsOk) 5 (F.CH_CFG_I_DECL.at 0).addr,
    against (decide (hold * 1000000 ≤ v.longestUpdate)) 0x10 F.BASE_CYCLE.addr]

def Node.validateC0 (n : Node) (gs : List Nat) : Verdict :=
  let v := n.cfgView gs
  let port := v F.PAIR_CFG_PAIR_PORT
  let largest := greatestOf ((List.range 4).map fun p => v (F.MAX_FRAME.at p))
  firstOf [
    fails ((port != 12 && port != 13) || decide (720 < v F.PAIR_CFG_SWAP_H)) 1 F.PAIR_CFG_PAIR_PORT.addr,
    if !n.pair.enabled then none
    else firstOf [
      against (!((List.range (min (v F.ENTRY_COUNT) 65536)).any fun i =>
        v (F.ENT_ACTION.at i) == 5 && v (F.ENT_RPT.at i) == 0 && v (F.ENT_TOPO.at i) == 0)) 0x10 F.ENTRY_COUNT.addr,
      against (v (F.PORT_MODE_MODE.at port) != 8) 0x30 (F.PORT_MODE_MODE.at port).addr,
      against (decide (v (F.MAX_FRAME.at port) < largest + 4)) 0x30 (F.MAX_FRAME.at port).addr,
      overAll (n.vlansOf gs) fun k => against (hasBit (v (F.VLAN_MEMBER.at k)) port) 0x20 (F.VLAN_MEMBER.at k).addr,
      match v.dedicated port with
      | some p => against true 0x60 (F.PRESS_CFG_DED_PORT.at p).addr
      | none => none]]

def Node.validateD0 (n : Node) (gs : List Nat) : Verdict :=
  let v := n.cfgView gs
  firstOf [
    fails (v F.OD_CFG_IDLE_MIN == 0 || decide (60 < v F.OD_CFG_IDLE_MIN)) 1 F.OD_CFG_IDLE_MIN.addr,
    fails (v F.VNT_VID == 0 || v F.VNT_VID == 4095) 1 F.VNT_VID.addr]

def Node.validateE0 (n : Node) (gs : List Nat) : Verdict :=
  overAll (n.cfgWords gs 0xE20000 0xE24000) fun e => fails (decide (5 < F.RATE_SEV.get e.2)) 1 e.1

def Node.validateF0 (n : Node) (gs : List Nat) : Verdict :=
  let s := n.cfgView gs F.SEC_CFG_TRIAL_S
  fails (decide (s < 10) || decide (3600 < s)) 1 F.SEC_CFG_TRIAL_S.addr

/-- Validation of group `g` in a set of groups that are committed together (R96, R99). -/
def Node.validate (n : Node) (gs : List Nat) (g : Nat) : Verdict :=
  if 0x70 ≤ g ∧ g ≤ 0x77 then n.validate70 gs (g - 0x70)
  else
    match g with
    | 0x10 => n.validate10 gs
    | 0x11 => n.validate11 gs
    | 0x20 => n.validate20 gs
    | 0x21 => n.validate21 gs
    | 0x22 => n.validate22 gs
    | 0x30 => n.validate30 gs
    | 0x40 => n.validate40 gs
    | 0x51 => n.validate51 gs
    | 0x52 => n.validate52 gs
    | 0x60 => n.validate60 gs
    | 0x80 => n.validate80 gs
    | 0x81 => n.validate81 gs
    | 0x90 => n.validate90 gs
    | 0xA0 => n.validateA0 gs
    | 0xB0 => n.validateB0 gs
    | 0xC0 => n.validateC0 gs
    | 0xD0 => n.validateD0 gs
    | 0xE0 => n.validateE0 gs
    | 0xF0 => n.validateF0 gs
    | _ => none

end Sys2Proof.Machine
end

