-- ==== Sys2Proof/Machine/Commit.lean ====
section
/-! DEFINITION. Commits (file 04 R94 to R102, and what each block does when a group of its own takes effect). -/

namespace Sys2Proof.Machine

/-! ### Taking effect (R96, R136) -/

/-- Group 0x53 takes effect: the previous counter stays valid for two base cycles (R256, R259). -/
def Node.opApplied (n before : Node) : Node :=
  let n := (n.putWord F.OP_CNT_PREV.addr (before.forceWord F.OP_CNT_CUR.addr)).wr F.PDF_STATUS_OP_GRACE 2
  n.each (n.flows.map (·.1)) fun i n => n.setFlow i fun s => { s with staleSeen := false }
/-- Group 0xE0 takes effect: the bucket of every code whose DEPTH changes is filled (R503). -/
def Node.ratesApplied (n before : Node) : Node :=
  { n with book := { n.book with missing := n.book.missing.filter fun e => n.cf (F.RATE_DEPTH.at e.1) == before.cf (F.RATE_DEPTH.at e.1) } }
/-- What a block does when group `g` of its own has taken effect. -/
def Node.groupApplied (n before : Node) (g : Nat) : Node :=
  if 0x70 ≤ g ∧ g ≤ 0x77 then n.canApplied before (g - 0x70)
  else
    match g with
    | 0x10 => n.scheduleApplied before
    | 0x20 => n.loadStatic
    | 0x30 => n.portsApplied before
    | 0x40 => n.when (n.cf F.NET_BASE_BASE != before.cf F.NET_BASE_BASE || n.cf F.ADDR_FMT_SUBNET_SHIFT != before.cf F.ADDR_FMT_SUBNET_SHIFT)
        Node.renumber
    | 0x51 => n.reactivate
    | 0x53 => n.opApplied before
    | 0x60 => n.pressesApplied before
    | 0x80 => n.blendApplied before
    | 0x90 => n.timeApplied before
    | 0xB0 => n.outputsApplied before
    | 0xE0 => n.ratesApplied before
    | _ => n

/-- Groups take effect together: the shadows become the values in force, the blocks act on them, CODE and SEQ follow (R96, R99). -/
def Node.takeGroups (n : Node) (gs : List Nat) : Node :=
  let before := n
  let n := n.each gs fun g n => (n.applyGroup g).setPhase g .idle
  let n := n.each gs fun g n => n.groupApplied before g
  n.each gs fun g n => (n.groupTaken g).odOutcome g 0
/-- A commit of one group takes effect, with vector 0 (R96). The spec gives its event-queue entry no ARG: the group stands there (DESIGN CHOICE,
log entry 46). -/
def Node.takeOne (n : Node) (g : Nat) : Node := (n.takeGroups [g]).fire 0 0 g

/-! ### Refusals (R97, R98) -/

/-- The block's memory has failed its test and the block is held in reset (R70). -/
def Node.blockFailed (n : Node) (b : Nat) : Bool := n.faults.contains (.memory b)
/-- Code 0x08: the block is in reset, in a maintenance stop or in the recovery state. -/
def Node.blockDown (n : Node) (b : Nat) : Bool :=
  n.supply.recovery || n.maint.stopped || n.islandDown (blockIsland b) || n.blockFailed b
/-- The groups a speculation or a topology commit affects (R63, R100, R235, R257). -/
def Node.topoLocked (n : Node) (g : Nat) : Bool :=
  (n.ina.spec.isSome || n.ina.decided.isSome) && n.topoAffected g
/-- Why a GO to a group is turned away before validation, if it is (R63, R97, R98, R100). -/
def Node.goRefusal (n : Node) (g : Nat) : Option Nat :=
  if n.blockDown (groupBlock g) then some 8
  else if n.rd F.PWR_STATUS_START_PHASE != 4 then some 0xA
  else if n.standby then some 6
  else if n.groupLocked g then some 4
  else if n.topoLocked g then some 3
  else none
/-- A GO that is turned away: a commit that already runs goes on (R98). -/
def Node.turnAway (n : Node) (g code : Nat) : Node := ((n.setCode g code).setInfo g noInfo).refused g code
/-- A commit under way is refused: by validation, or for want of an idle block (R96). -/
def Node.refuseCommit (n : Node) (g code : Nat) (info : Word) : Node := ((n.refuseGroup g code).setInfo g info).odOutcome g code

/-- GO of a group (R96). -/
def Node.groupGo (n : Node) (g : Nat) : Node :=
  n.when (groupExists g) fun n =>
    match n.goRefusal g with
    | some c => n.turnAway g c
    | none => n.setPhase g .validating
/-- COMMIT_GO (R96, R98). -/
def execCommitGo (by_ : Initiator) (group : Nat) (s : State) : Host.Outcome State Fault Refusal :=
  s.upd fun n => n.access by_ (groupBlock group) (·.groupGo group)

/-! ### The commit set of a pair (R101, R450) -/

/-- The unit is the active unit of a pair. -/
def Node.pairActive (n : Node) : Bool := n.rd F.RED_STATUS_STATE == 3
/-- Base-cycle starts that pass before a validated commit takes effect. `leadNs` is the time to the next base-cycle start from the end of
validation, and in a pair from the standby unit's confirmation; a set that cannot reach it waits 100 ms (R96, R450). -/
def Node.commitSkip (n : Node) (leadNs : Nat) : Nat :=
  if n.pairActive && !n.bit F.RED_STATUS_RACK_UP then 100000000 / max 1 (SchedBank.baseNs n.cf) + 1
  else if leadNs < 10000 then 1 else 0
/-- The set goes to the standby unit (R450). -/
def Node.sendSet (n : Node) (gs : List Nat) : Node :=
  n.when n.pairActive fun n =>
    if n.bit F.RED_STATUS_RACK_UP then
      n.emit (.rack (.commitSet gs (gs.flatMap fun g => (n.groupKeys g).map fun a => (a, n.shadowWord a))))
    else { n with pair := { n.pair with commitSets := n.pair.commitSets ++ gs } }
/-- A set that has not reached the standby unit takes effect on the active unit alone, which clears SYNC (R450). -/
def Node.appliedAlone (n : Node) (gs : List Nat) : Node :=
  n.when (gs.any n.pair.commitSets.contains) fun n =>
    let n := { n with pair := { n.pair with commitSets := n.pair.commitSets.filter fun g => !gs.contains g } }
    n.wrBit F.RED_STATUS_SYNC false

/-- COMMIT_VALIDATED (R96, R100). A reset, a stop or a load that has begun meanwhile refuses the commit. -/
def execCommitValidated (group leadNs : Nat) (s : State) : Host.Outcome State Fault Refusal :=
  s.upd fun n => n.when (n.phase group == .validating) fun n =>
    if n.blockDown (groupBlock group) then n.refuseCommit group 8 noInfo
    else if n.rd F.PWR_STATUS_START_PHASE != 4 then n.refuseCommit group 0xA noInfo
    else
      match n.validate [group] group with
      | some (code, info) => n.refuseCommit group code info
      | none => (n.setPhase group (.pending (n.commitSkip leadNs))).sendSet [group]

/-! ### Idle-bound groups (R96) -/

/-- The block of an idle-bound group is idle, as far as the node's state tells: no session busy (R261), no host request outstanding (R385), no
transfer in progress (R491), no update step running (R529). Whether a CAN frame runs is for the bus to say (R325): `busIdle`. -/
def Node.blockIdle (n : Node) (g : Nat) : Bool :=
  if g = 0x52 then (List.range 256).all fun k => !n.sesBusy k
  else if g = 0xA0 then n.host.delayed.all (·.data.isSome)
  else if g = 0xD0 then n.vnt.transfers.isEmpty
  else if g = 0xF0 then n.vault.verifying.isNone
  else true
/-- At a base-cycle start the block of a CAN group is idle between frames, and while its controller is in bus-off or initialisation (R99, R325). -/
def Node.busIdle (n : Node) (g : Nat) : Bool :=
  !(decide (0x70 ≤ g ∧ g ≤ 0x77) && n.canLive (g - 0x70) && decide (1 ≤ n.canState (g - 0x70) ∧ n.canState (g - 0x70) ≤ 3) &&
    n.trellis.canFrames.getLsbD (g - 0x70))
/-- The unit's own block of a group is idle at a base-cycle start. -/
def Node.ownIdle (n : Node) (g : Nat) : Bool := n.blockIdle g && n.busIdle g
/-- The block of a group is idle at a base-cycle start: in a pair, on both units (R450). -/
def Node.idleAtStart (n : Node) (g : Nat) : Bool := n.ownIdle g && !n.pair.partnerBusy.contains g
/-- The groups of commits that wait, validated (R450). -/
def Node.waitingGroups (n : Node) : List Nat := groups.filter n.groupPending
/-- The group is idle-bound and waits for its block. In a pair it takes effect at a base-cycle start instead (R450). -/
def Node.idleWaits (n : Node) (g : Nat) : Bool :=
  idleBound g && match n.phase g with
    | .pending _ => true
    | _ => false
/-- IDLE_COMMIT_TAKE_EFFECT (R96). -/
def execIdleCommitTakeEffect (group : Nat) (s : State) : Host.Outcome State Fault Refusal :=
  s.upd fun n => n.when (n.idleWaits group && n.blockIdle group && !n.pairActive && !n.standby) (·.takeOne group)
/-- IDLE_COMMIT_TIMEOUT (R96). -/
def execIdleCommitTimeout (group : Nat) (s : State) : Host.Outcome State Fault Refusal :=
  s.upd fun n => n.when (n.idleWaits group) (·.refuseCommit group 0xB noInfo)

/-! ### Multi-group commits (R99) -/

/-- The numbers in MC_LIST, in order: GROUP0 of MC_LIST0 first. -/
def Node.mcNumbers (n : Node) : List Nat := (List.range 32).map fun i => n.rd ⟨0x100 + 4 * (i / 4), 8 * (i % 4), 8, 4⟩
/-- CODE of MC_COMMIT and MC_INFO. -/
def Node.mcResult (n : Node) (code : Nat) (info : Word) : Node := (n.wr (commitCode mcCommitAddr) code).putWord (mcCommitAddr + 4) info
/-- The set is refused, counted and recorded with a group. -/
def Node.mcRefused (n : Node) (g code : Nat) (info : Word) : Node := (n.mcResult code info).refused g code
/-- The first failure of a set's validation. -/
def Node.mcVerdict (n : Node) (gs : List Nat) : Option (Nat × Nat × Word) :=
  (gs.map fun g => (g, n.validate gs g)).findSome? fun e => e.2.map fun v => (e.1, v)
/-- A GO to MC_COMMIT; during a load it is refused whatever the list holds (R100). Validation is one step with it. A list without a number
names no group: CODE 0 and no field, and nothing takes effect or fires (DESIGN CHOICE, log entry 27). -/
def Node.mcGo (n : Node) (leadNs : Nat) : Node :=
  let all := n.mcNumbers
  let gs := (all.filter (· != 0xFF)).eraseDups
  if n.rd F.PWR_STATUS_START_PHASE != 4 then n.mcRefused (gs.headD 0) (if n.supply.recovery then 8 else 0xA) noInfo
  else match all.findIdx? fun g => g != 0xFF && !groupExists g with
  | some i => if n.mc.isSome then n.mcRefused (gs.headD 0) 4 noInfo else n.mcRefused (all.getD i 0) 1 (infoWord false 0 0xFF (0x100 + 4 * (i / 4)))
  | none =>
    if n.mc.isSome then n.mcRefused (gs.headD 0) 4 noInfo
    else
      match (gs.map fun g => (g, n.goRefusal g)).findSome? fun e => e.2.map fun c => (e.1, c) with
      | some (g, c) => n.mcRefused g c noInfo
      | none =>
        match n.mcVerdict gs with
        | some (g, code, info) => n.mcRefused g code info
        | none =>
          if gs.isEmpty then n.mcResult 0 noInfo
          else Node.sendSet { n with mc := some ⟨gs, n.commitSkip leadNs⟩ } gs
/-- MC_COMMIT_GO (R99). -/
def execMcCommitGo (by_ : Initiator) (leadNs : Nat) (s : State) : Host.Outcome State Fault Refusal :=
  s.upd fun n => n.access by_ 0 (·.mcGo leadNs)

/-- The whole set is withdrawn or refused with a code (R99). -/
def Node.mcEnd (n : Node) (code : Nat) : Node :=
  match n.mc with
  | some m => Node.mcRefused { n with mc := none } (m.groups.headD 0) code noInfo
  | none => n.mcResult code noInfo
/-- An ABORT to MC_COMMIT (R99). -/
def Node.mcAbort (n : Node) : Node :=
  let gs := match n.mc with
    | some m => m.groups
    | none => (n.mcNumbers.filter groupExists).eraseDups
  (n.mcEnd 7).each gs fun g n => n.reloadGroup g
/-- MC_COMMIT_ABORT (R16, R99). -/
def execMcCommitAbort (s : State) : Host.Outcome State Fault Refusal :=
  s.upd fun n => n.when n.powered fun n => n.cross 5 Node.mcAbort
/-- MC_COMMIT_TIMEOUT (R99). -/
def execMcCommitTimeout (s : State) : Host.Outcome State Fault Refusal :=
  s.upd fun n => n.when n.mc.isSome (·.mcEnd 0xB)

/-! ### ABORT of a group (R98, R99) -/

/-- An ABORT to a group's COMMIT. -/
def Node.groupAbort (n : Node) (g : Nat) : Node :=
  n.when (groupExists g) fun n =>
    let own := n.phase g != .idle
    let n := n.when (n.inMc g) (·.mcEnd 7)
    let n := ((n.reloadGroup g).setPhase g .idle).setCode g 7
    (n.setInfo g noInfo).when own fun n => (n.refused g 7).odOutcome g 7
/-- COMMIT_ABORT (R16, R98). -/
def execCommitAbort (group : Nat) (s : State) : Host.Outcome State Fault Refusal :=
  s.upd fun n => n.when n.powered fun n => if n.blockHeld (groupBlock group) then n.xabort else n.groupAbort group

/-! ### At a base-cycle start (R96, R99, R100) -/

/-- Schedule-bound groups, and in a pair idle-bound ones, whose start has come. -/
def Node.groupsDue (n : Node) : List Nat :=
  groups.filter fun g => (!idleBound g || n.pairActive || n.standby) && match n.phase g with
    | .pending k => k == 0 && n.idleAtStart g
    | _ => false
/-- One base-cycle start passes for a waiting commit. -/
def CommitPhase.pass : CommitPhase → CommitPhase
  | .pending (k + 1) => .pending k
  | p => p
/-- The multi-group set at a base-cycle start: a listed block that is not idle defers it (R99). Group 0x11 follows at the next start of fabric slot
0 (R133), and vector 0 then fires with it, once the whole set has taken effect (R96). SEQ of MC_COMMIT, which no group owns, stays 0 (DESIGN CHOICE,
log entry 27). -/
def Node.mcStart (n : Node) : Node :=
  match n.mc with
  | none => n
  | some m =>
    if m.skip ≠ 0 then { n with mc := some { m with skip := m.skip - 1 } }
    else if m.groups.all n.idleAtStart then
      let later := m.groups.contains 0x11 && !n.slotZero
      let n := Node.takeGroups { n with mc := none } (m.groups.filter fun g => !(later && g == 0x11))
      let n := n.when later (·.setPhase 0x11 (.slotZero false))
      ((n.mcResult 0 noInfo).appliedAlone m.groups).when (!later) (·.fire 0 0 (m.groups.headD 0))
    else n
/-- The commits that take effect at a base-cycle start. -/
def Node.commitsStart (n : Node) : Node :=
  let due := n.groupsDue
  let waiting := n.commits.map fun e => (e.1, e.2.pass)
  let was := n
  let n := { n with commits := waiting }
  let n := n.each due fun g n =>
    if g = 0x11 ∧ n.slotZero = false then n.setPhase g (.slotZero true) else (n.takeOne g).appliedAlone [g]
  if was.mc.isSome then n.mcStart else n
/-- The first start of fabric slot 0 at or after its base-cycle start: group 0x11 takes effect (R133). -/
def Node.wheelStart (n : Node) : Node :=
  match n.phase 0x11 with
  | .slotZero alone => n.when n.slotZero fun n => (n.takeOne 0x11).when alone (·.appliedAlone [0x11])
  | _ => n

/-- Every commit in progress is refused with a code: a warm reset, a maintenance stop, recovery (R97, R538). -/
def Node.refuseAll (n : Node) (code : Nat) : Node :=
  let n := n.each (groups.filter fun g => n.phase g != .idle) fun g n => n.refuseCommit g code noInfo
  n.when n.mc.isSome (·.mcEnd code)

end Sys2Proof.Machine
end

