-- ==== Sys2Proof/Machine/Host.lean ====
section
/-! DEFINITION. The host bridge's interrupts, event queue, prefetch lines and resets (file 14 R378, R379, R390 to R396, R405). -/

namespace Sys2Proof.Machine

/-! ### Interrupts (R394 to R396) -/

/-- A word of the MSI-X table; the mask bit of each entry is 1 after reset, as PCIe has it. -/
def msixReset (o : Nat) : Word := if o % 16 = 12 then 1#32 else 0#32
/-- The MSI-X word at a BAR4 offset. -/
def Node.msixWord (n : Node) (o : Nat) : Word := SMap.get msixReset n.host.msixTable o
/-- Vector `v` is masked in the MSI-X table. -/
def Node.msixMasked (n : Node) (v : Nat) : Bool := (n.msixWord (16 * v + 12)).getLsbD 0
/-- MSI-X pending bits as a number, and with a bit set or cleared. -/
def setBit (x i : Nat) (b : Bool) : Nat := x - x / 2 ^ i % 2 * 2 ^ i + (if b then 2 ^ i else 0)
/-- Set or clear a pending bit. -/
def Node.setPending (n : Node) (v : Nat) (b : Bool) : Node :=
  { n with host := { n.host with msixPending := BitVec.ofNat 64 (setBit n.host.msixPending.toNat v b) } }
/-- Messages go out: R379 permits them, and MSI-X is enabled and not masked for the function, as PCIe has it (R394; PRESUMED, log entry 84). -/
def Node.msixOn (n : Node) : Bool := n.dmaOk && n.host.config.msixEnable && !n.host.config.functionMask
/-- Send every pending message that is neither masked nor held. -/
def Node.sendPending (n : Node) : Node :=
  n.when n.msixOn fun n => n.each (List.range 64) fun v n =>
    n.when (n.host.msixPending.getLsbD v && !n.msixMasked v) fun n => (n.setPending v false).emit (.msix v)
/-- A vector as an MSI-X message: firings while its pending bit is set coalesce (R394). -/
def Node.msix (n : Node) (v : Nat) : Node := (n.setPending v true).sendPending

/-- Entries of the event queue in host memory (R396). -/
def Node.eqSize (n : Node) : Nat := [64, 256, 1024, 4096].getD (n.rd F.EQ_CFG_SIZE_CODE) 64
/-- Words 0 and 1 of an entry, without PHASE. -/
def eqWord0 (f : Fire) : Word := BitVec.ofNat 32 (f.code * 65536 + f.kind * 256 + f.vector % 64)
def eqWord1 (phase : Bool) (f : Fire) : Word := BitVec.ofNat 32 ((if phase then 2 ^ 31 else 0) + f.arg % 65536)
/-- No entry can be written: the queue has no free slot. -/
def Node.eqHasNoSlot (n : Node) : Bool :=
  if n.bit F.HBR_STATUS_PCIE_SEL then n.host.eqFull else decide (256 ≤ n.host.eqFifo.length)
/-- Write an entry into a queue that has a free slot; vector 42 signals it (R394, R408). -/
def Node.eqWrite (n : Node) (f : Fire) : Node :=
  if n.bit F.HBR_STATUS_PCIE_SEL then
    let t := n.rd F.EQ_TAIL
    let e : EqEntry := ⟨eqWord0 f, eqWord1 (n.host.eqPhase != Config.eqFirstPhase) f, BitVec.ofNat 64 f.stamp⟩
    let t' := (t + 1) % n.eqSize
    let n := (n.emit (.eqWrite t e)).wr F.EQ_TAIL t'
    Node.msix { n with host := { n.host with
      eqIrq := if f.vector = 4 then some t else n.host.eqIrq
      eqPhase := if t' = 0 then !n.host.eqPhase else n.host.eqPhase
      eqFull := t' == n.rd F.EQ_HEAD } } 42
  else
    let e : EqEntry := ⟨eqWord0 f, eqWord1 Config.eqFirstPhase f, BitVec.ofNat 64 f.stamp⟩
    { n with host := { n.host with eqFifo := n.host.eqFifo ++ [e] }, pins := { n.pins with qspiIrq := true } }
/-- The queue is written: on PCIe it is enabled and DMA is permitted (R379, R406). -/
def Node.eqOpen (n : Node) : Bool := !n.bit F.HBR_STATUS_PCIE_SEL || (n.dmaOk && n.bit F.EQ_CFG_EN)
/-- Space has returned: the entry of kind 2 that carries the number lost goes first (R396). -/
def Node.eqSpace (n : Node) : Node :=
  n.when (n.host.eqLost != 0 && !n.eqHasNoSlot && n.eqOpen) fun n =>
    let f : Fire := ⟨42, 0x0A09, 2, min n.host.eqLost 65535, n.now⟩
    Node.eqWrite (Node.endRun { n with host := { n.host with eqLost := 0 } } 0x0A09 0) f
/-- Put an entry into the queue, or lose and count it (R396). -/
def Node.eqPut (n : Node) (f : Fire) : Node :=
  let n := n.eqSpace
  if n.eqHasNoSlot then
    (Node.count { n with host := { n.host with eqLost := n.host.eqLost + 1 } } CNT_EQ_OVF).raiseFirst 0x0A09 0 []
  else n.eqWrite f

/-- Vector `v` is routed to the event queue (R394). -/
def Node.routed (n : Node) (v : Nat) : Bool :=
  v != 42 && (if v < 32 then n.rd F.IRQ_ROUTE_LO / 2 ^ v % 2 == 1 else n.rd F.IRQ_ROUTE_HI / 2 ^ (v - 32) % 2 == 1)
/-- A firing that is an MSI-X message. -/
def Node.byMsix (n : Node) (f : Fire) : Bool := n.bit F.HBR_STATUS_PCIE_SEL && f.kind == 0 && !n.routed f.vector
/-- The firing served next: the oldest, but an entry that needs DMA waits for it and holds back no message, which becomes a pending bit (R379). -/
def Node.nextFire (n : Node) : Option Fire := n.host.fires.find? fun f => !n.bit F.HBR_STATUS_PCIE_SEL || n.dmaOk || n.byMsix f

/-- INTERRUPT_FIRE (R394 to R396): a firing becomes an event-queue entry, which vector 42 follows, or an MSI-X message; with the event queue disabled
an entry is not written. -/
def execInterruptFire (s : State) : Host.Outcome State Fault Refusal :=
  s.upd fun n => n.when (!n.host.inReset) fun n =>
    match n.nextFire with
    | none => n
    | some f =>
      let m : Node := { n with host := { n.host with fires := removeFirst (· == f) n.host.fires } }
      if n.byMsix f then m.msix f.vector else m.when n.eqOpen (·.eqPut f)

/-- A read of EQ_POP0: the head entry is removed, its word 0 returned, and its other words latched for the initiator; on PCIe the FIFO is
empty (R396). -/
def Node.eqPop (n : Node) (by_ : Initiator) : Node × Word :=
  match n.host.eqFifo with
  | [] => (n, 0#32)
  | e :: t =>
    let n := { n with
      host := { n.host with eqFifo := t, eqPops := SMap.set (fun _ => none) n.host.eqPops (initiatorIx by_) (some e) }
      pins := { n.pins with qspiIrq := !t.isEmpty } }
    (n.eqSpace, e.w0)

/-! ### Prefetch lines (R390, R391) -/

/-- A line is discarded unread: a side effect it had is counted and recorded. -/
def Node.lineLost (n : Node) (l : PrefetchLine) : Node :=
  n.when l.sideEffect fun n =>
    let a := (if l.bar == .bar2 then 2 ^ 28 else 0) + l.ofs % 2 ^ 28
    ((n.count CNT_PF_SE_DISCARD).putWord 0xA00010 (BitVec.ofNat 32 (2 ^ 31 + a))).raise 0x0A04 [a]
/-- Discard the lines that satisfy `p`. -/
def Node.dropLines (n : Node) (p : PrefetchLine → Bool) : Node :=
  let gone := n.host.prefetch.filter p
  let n := { n with host := { n.host with prefetch := n.host.prefetch.filter fun l => !p l } }
  n.each gone fun l n => n.lineLost l
/-- PREFETCH_LINE_EXPIRY (R390): lines are numbered from the oldest. -/
def execPrefetchLineExpiry (line : Nat) (s : State) : Host.Outcome State Fault Refusal :=
  s.upd fun n =>
    match n.host.prefetch[line]? with
    | some l => n.dropLines (· == l)
    | none => n

/-! ### Resets, link and DMA (R379, R393, R397, R405) -/

/-- HP goes link down: copies queued for it, or on their way to host memory, are flushed (R167, R397). -/
def Node.hpDown (n : Node) : Node :=
  let gone := n.host.rxWork
  let n := { n with host := { n.host with rxWork := [], rxWaits := [] } }
  let n := n.each gone fun w n =>
    ((n.setRing w.ring fun r => { r with reserved := if w.detached then r.reserved else r.reserved - w.slots.length }).count (CNT_LINK_FLUSH 16)).released [w.copy]
  n.flushPort 16
/-- The host's object-dictionary accesses end without completion, its sessions return to public and an update session of the host path
ends; a commit already validated goes on (R479, R481, R521). -/
def Node.hostPathEnds (n : Node) : Node :=
  let n := n.each [0, 1, 2, 3] fun m n =>
    let p := Path.hostMailbox m
    let cut := n.bit (F.MBOX_BUSY.at m) || (n.transferOf p).isSome
    let n := n.when cut fun n => ((n.wrBit (F.MBOX_BUSY.at m) false).wrBit (F.MBOX_MORE.at m) false).wrBit (F.MBOX_LOST.at m) true
    ((n.dropTransfer p).endSession p).dropWaits p
  let mine := n.vault.session.any fun (u : UpdSession) => match u.path with
    | .hostMailbox _ => true
    | .register => true
    | _ => false
  n.when mine Node.dropSession
/-- The transmit rings are fetching a frame: one has a descriptor that the node may fetch, and no frame awaits its write-back. -/
def Node.fetching (n : Node) : Bool := n.dmaOk && n.host.txWork.isNone && n.txServed.isSome
/-- Reset the host bridge (R405). Its island leaves reset again at once. -/
def Node.resetBridge (n : Node) (linkDown : Bool) : Node :=
  let n := n.when n.fetching (·.count CNT_TX_ABORT)
  let n := n.hostPathEnds.hpDown
  let n := n.dropLines fun _ => true
  let n := { n with host := { n.host with
    inReset := true, bme := false, d0 := true, config := Node.unpowered.host.config, msixTable := [], msixPending := 0#64
    fires := [], eqFifo := [], eqPops := [], eqLost := 0, eqPhase := false, eqFull := false, eqIrq := none, delayed := []
    fence := none, rings := [], txWork := none, qspiStatus := 0#8, yielded := false } }
  let n := { n with pins := { n.pins with qspiIrq := false } }
  let n := n.raise 0x0D0C []
  let n := n.resetWords fun a => decide (0xA00200 ≤ a) && decide (a < 0xA00600)
  let n := n.wr F.HBR_STATUS_TX_STOPPED 0
  let n := n.when linkDown fun n => ((n.wrBit F.HBR_STATUS_LINK_UP false).wr F.HBR_STATUS_SPEED 0).wr F.HBR_STATUS_WIDTH 0
  { n with host := { n.host with inReset := false } }
/-- A PCIe reset reaches a bridge that is out of reset and has PCIe selected (R379). -/
def Node.pcieReset (n : Node) (linkDown : Bool) : Node :=
  n.when (n.powered && !n.host.inReset && n.bit F.HBR_STATUS_PCIE_SEL) (·.resetBridge linkDown)

/-- PCIE_PERST (R73). -/
def execPciePerst (s : State) : Host.Outcome State Fault Refusal := s.upd (·.pcieReset true)
/-- PCIE_HOT_RESET (R379). -/
def execPcieHotReset (s : State) : Host.Outcome State Fault Refusal := s.upd (·.pcieReset true)
/-- FUNCTION_LEVEL_RESET (R379): the link stays up. -/
def execFunctionLevelReset (s : State) : Host.Outcome State Fault Refusal := s.upd (·.pcieReset false)
/-- PCIE_LINK_LOSS (R379). -/
def execPcieLinkLoss (s : State) : Host.Outcome State Fault Refusal :=
  s.upd fun n => n.when (n.bit F.HBR_STATUS_LINK_UP) (·.pcieReset true)

/-- Key of HBR_CMD (R406). -/
def hbrKey : Half := 0x2B61#16
/-- RESET by command: acts only with QSPI selected (R405). -/
def Node.hbrReset (n : Node) : Node := n.when (!n.bit F.HBR_STATUS_PCIE_SEL && !n.host.inReset) (·.resetBridge false)
/-- HBR_CMD_RESET (R405). -/
def execHbrCmdReset (by_ : Initiator) (key : Half) (s : State) : Host.Outcome State Fault Refusal :=
  s.upd fun n => n.access by_ 0xA fun n => n.when (key == hbrKey) Node.hbrReset

/-- PCIE_LINK_UP (R397). -/
def execPcieLinkUp (speed width : Fin 4) (s : State) : Host.Outcome State Fault Refusal :=
  s.upd fun n => n.when (n.powered && !n.host.inReset && n.bit F.HBR_STATUS_PCIE_SEL) fun n =>
    (((n.wrBit F.HBR_STATUS_LINK_UP true).wr F.HBR_STATUS_SPEED speed).wr F.HBR_STATUS_WIDTH width).sendPending
/-- A word of PCIe configuration space: Vendor and Device ID, Bus Master Enable, Revision ID and class code, and the base addresses, where a type 0
header has them (R378; the places PRESUMED, log entry 84). -/
def Node.configWord (n : Node) (o : Nat) : Word :=
  if o = 0x00 then 0x96401F9C#32
  else if o = 0x04 then (if n.host.bme then 4#32 else 0#32)
  else if o = 0x08 then 0x028000B1#32
  else if o = 0x10 then n.host.config.bar0
  else if o = 0x18 then n.host.config.bar2
  else if o = 0x20 then n.host.config.bar4
  else 0#32
/-- PCIE_CONFIG_WRITE (R378, R379): what software has written in configuration space. -/
def execPcieConfigWrite (bme d0 : Bool) (config : PcieConfig) (s : State) : Host.Outcome State Fault Refusal :=
  s.upd fun n => n.when (!n.host.inReset && n.bit F.HBR_STATUS_LINK_UP) fun n =>
    let was := n.dmaOk
    let n := { n with host := { n.host with bme := bme, d0 := d0, config := config } }
    let n := n.when (was && !n.dmaOk) Node.hpDown
    n.sendPending.eqSpace

/-- DEVICE_READ_TIMEOUT (R393): a fetch stops its ring, the one served (R402). A container read leaves its container without an answer to the job,
which BLEND_JOB says (R339). -/
def execDeviceReadTimeout (addr : DWord) (read : DeviceRead) (s : State) : Host.Outcome State Fault Refusal :=
  s.upd fun n => n.when n.dmaOk fun n =>
    match read with
    | .container _ => n.deviceReadFails addr
    | .fetch descs => n.when (n.host.txWork.isNone && !n.host.yielded) fun n =>
      match n.txServed with
      | none => n
      | some t => n.txFetchFails t ((descs.take 16).take (n.ringAvail (4 + t))) addr
/-- NP_YIELD (R393): a transmit-ring fetch is withdrawn until the host's access to the remote-node window has completed. -/
def execNpYield (s : State) : Host.Outcome State Fault Refusal :=
  s.upd fun n => n.when (n.fetching && !n.host.yielded) fun n =>
    Node.count { n with host := { n.host with yielded := true } } CNT_NP_YIELD

end Sys2Proof.Machine
end

