-- ==== Sys2Proof/Machine/Pair.lean ====
section
/-! DEFINITION. The redundancy controller (file 16): roles, the Cork lease, racking, output comparison, changeover and swaps. -/

namespace Sys2Proof.Machine

/-! ### The racked state (R447, R448, R454) -/

/-- The address lies in buffer memory: Press images and datasets. -/
def inRam (a : Nat) : Bool := (decide (0x3000000 ≤ a) && decide (a < 0x3100000)) || (decide (0x30000000 ≤ a) && decide (a < 0x30200000))
/-- The words a delta copies into the racked state: signals and QA entries, Press images, flow and session status, datasets, CAN message
buffers, output and input areas, cycle index, BCNT, and of the domains the states, the port states and the peer link delays. -/
def rackedKey (a : Nat) : Bool :=
  inRam a || (decide (0x2000000 ≤ a) && decide (a < 0x2200000)) || (decide (0x38000000 ≤ a) && decide (a < 0x38200000)) ||
    (decide (0x518000 ≤ a) && decide (a < 0x51C000)) || (decide (0x524000 ≤ a) && decide (a < 0x525000)) ||
    (decide (0x48000000 ≤ a) && decide (a < 0x48000208)) ||
    (decide (0x740000 ≤ a) && decide (a < 0x750000)) || (decide (0xB10000 ≤ a) && decide (a < 0xB10300)) ||
    [0x100004, 0x800004, 0x900104, 0x900144].contains a
/-- The words of the committed directory, which go to the unit's own tables at once: both windows, the counters, and INA_STATUS but for what a
speculation shows there (R60, R233, R447). -/
def directoryKey (a : Nat) : Bool :=
  (decide (0x410000 ≤ a) && decide (a < 0x430000)) || [0x400000, 0x400004, 0x40000C, 0x500004, 0x500008, 0x500010].contains a
/-- INA_STATUS as the committed topology shows it: stable, without a speculation (R60, R236). -/
def committedStatus (w : Word) : Word := F.INA_STATUS_STATE.put (F.INA_STATUS_SPEC_KIND.put w 0) 1
/-- A racked word. -/
def Node.rackedWord (n : Node) (a : Nat) : Word := SMap.get resetWord n.pair.racked a
/-- A cell of a delta arrives. -/
def Node.rackCell (n : Node) (c : Nat × Word) : Node :=
  if rackedKey c.1 then { n with pair := { n.pair with racked := SMap.set resetWord n.pair.racked c.1 c.2 } }
  else if groupOf c.1 = 0x21 then (n.putForce c.1 c.2).putShadow c.1 c.2
  else if c.1 = 0x100000 then n.wr F.TRL_STATUS_TOPO_TAG (F.TRL_STATUS_TOPO_TAG.get c.2)
  else if directoryKey c.1 then n.putWord c.1 c.2
  else n
/-- Words that no racked word replaces: the unit's own cycle index (R106) and the status of its domains, whose views are its own (R370). -/
def ownWord (a : Nat) : Bool := a == F.CYCLE_IDX_IDX.addr || a == (F.DOM_STATUS_STATE.at 0).addr || a == (F.DOM_STATUS_STATE.at 1).addr
/-- AGE of a flow context: it goes on from the value the link brought (R250). -/
def flowAgeWord (a : Nat) : Bool := decide (F.CST_AGE.addr ≤ a) && decide (a < F.CST_AGE.addr + 16384) && a % 16 == F.CST_AGE.addr % 16
/-- The racked state becomes the pre-executed state; the unit's own cycle runs on with its index (R106, R110). -/
def Node.copyRacked (n : Node) : Node :=
  let mem := n.pair.racked.filter fun e => inRam e.1
  let regs := n.pair.racked.filter fun e => !inRam e.1 && !ownWord e.1
  let n := (n.resetWords fun a => rackedKey a && !ownWord a).putWords regs
  let n := n.keepBytes fun a => !inRam a
  let n := n.each mem fun e n => n.putRamWord e.1 e.2
  n.each (regs.filter fun e => flowAgeWord e.1) fun e n =>
    n.setFlow ((e.1 - F.CST_AGE.addr) / 16) fun s => { s with since := some (n.now - 500 * e.2.toNat) }
/-- The value a delta carries for a word. -/
def Node.rackValue (n : Node) (a : Nat) : Word :=
  if inRam a then n.ramWord a
  else if groupOf a = 0x21 then n.forceWord a
  else if a = 0x400000 then committedStatus (n.word a)
  else if flowAgeWord a then BitVec.ofNat 32 (n.flowAge ((a - F.CST_AGE.addr) / 16))
  else n.word a
/-- The words of the committed state of R447 that may differ from their reset values. -/
def Node.rackKeys (n : Node) : List Nat :=
  ((n.store.regs.map (·.1)).filter fun a => rackedKey a || directoryKey a || a == 0x100000) ++
    ((n.store.ram.map (·.1)).filter inRam).map (· / 4 * 4) ++ (n.store.force.map (·.1)).filter (groupOf · == 0x21) ++
    ((List.range 1024).filter fun i => n.cfBit (F.CTX_VALID.at i)).map fun i => (F.CST_AGE.at i).addr
/-- The delta: the words whose value has changed since it was last sent (R447). -/
def Node.deltaCells (n : Node) : List (Nat × Word) :=
  ((n.pair.sent.map (·.1) ++ n.rackKeys).eraseDups.map fun a => (a, n.rackValue a)).filter fun e => SMap.get resetWord n.pair.sent e.1 != e.2
/-- The active unit sends the delta of cycle `idx` (R447). -/
def Node.sendDelta (n : Node) (idx : Nat) : Node :=
  let cells := n.deltaCells
  Node.emit { n with pair := { n.pair with sent := SMap.setAll resetWord n.pair.sent cells, lastDelta := some (idx, cells) } }
    (.rack (.delta idx cells))
/-- The active unit answers a request for bulk racking with the whole of the committed state; later deltas go on from it (R448). -/
def Node.sendBulk (n : Node) : Node :=
  let cells := n.rackKeys.eraseDups.map fun a => (a, n.rackValue a)
  Node.emit { n with pair := { n.pair with sent := SMap.setAll resetWord [] cells } } (.rack (.bulkCopy cells))
/-- The last delta goes out again: a frame of it has failed its CRC (R447). The emission stands for all its frames, whose division the spec does
not give. -/
def Node.sendAgain (n : Node) : Node :=
  match n.pair.lastDelta with
  | some (idx, cells) => n.emit (.rack (.delta idx cells))
  | none => n
/-- A re-seed (R454). -/
def Node.reseed (n : Node) : Node :=
  let n := ((n.copyRacked).count CNT_RESEED).raise 0x0C07 []
  { n with pair := { n.pair with reseedDue := false, misses := 0, skip := 2 } }
/-- Bulk racking starts (R448). -/
def Node.startBulk (n : Node) : Node := Node.emit { n with pair := { n.pair with bulk := true, sinceBulk := [] } } (.rack .bulk)

/-! ### Roles (R442, R443) -/

/-- The number the unit acts under. -/
def Node.unit (n : Node) : Nat := n.pair.actsAs
/-- Conditions 1, 2, 3, 5 and 6 of R78. -/
def Node.tolOk (n : Node) : Bool := decide (250 ≤ n.rd F.LAT_TOL_TOL_MS)
def Node.permitOk (n : Node) : Bool := n.bit F.DORM_CTRL_PERMIT
def Node.noneOn (n : Node) : Bool := channels.all fun c => !n.chanOn c
def Node.noneLocked (n : Node) : Bool := n.chLocked == 0
def Node.wakeOk (n : Node) : Bool := n.word F.WAKE_CFG_IN_EN.addr != 0#32
def Node.trialOk (n : Node) : Bool := (n.slotIn 3).isNone
/-- The control word that tells the partner of the unit: STATE, UNIT, and its own conditions for Dormancy (R443, R446, R461). -/
def Node.sayState (n : Node) : Node :=
  n.when (n.pair.enabled && n.bit F.RED_STATUS_RACK_UP) fun n =>
    n.emit (.rack (.control (n.rd F.RED_STATUS_STATE) (n.rd F.RED_STATUS_UNIT)
      (n.tolOk && n.permitOk && n.noneOn && n.noneLocked && n.wakeOk && n.trialOk)))
/-- The partner holds the Cork (R444). -/
def Node.holdSeen (n : Node) : Bool := n.bit F.RED_STATUS_HOLD_IN_A || n.bit F.RED_STATUS_HOLD_IN_B
/-- Drive or release both CORK_HOLD_OUT lines (R444). -/
def Node.setHold (n : Node) (on : Bool) : Node :=
  let n := n.wrBit F.RED_STATUS_HOLD_OUT on
  { n with pins := { n.pins with holdOut := on } }
/-- Set the role, and tell the partner. -/
def Node.setRole (n : Node) (st : Nat) : Node := (n.wr F.RED_STATUS_STATE st).sayState
/-- A copy that a standby unit may send: one it relays between a backbone port of its own and the pair uplink, and what stays inside the node
(R441). -/
def Node.standbySends (n : Node) (c : Copy) : Bool :=
  (c.ingress == n.pairUplink && decide (c.port < 4)) || (c.port == n.pairUplink && decide (c.ingress < 4)) || c.port == 17 || c.port == 18
/-- The unit stops emitting: what it has queued of its own goes, and what it is sending is cut short (R457, R458, R460). No rule names a counter for
the queued copies (DESIGN CHOICE, log entry 82). -/
def Node.silence (n : Node) : Node :=
  let n := n.dropCopies (fun c => !n.standbySends c) fun _ n => n
  n.each n.cellar.sending fun e n =>
    match e.2 with
    | some c => n.when (!n.standbySends c) fun n => (n.setSending e.1 none).released [c]
    | none => n
/-- Blocks whose pre-executed state is speculative: PDF, PRS, CAN, BLD and OUT (R451, R59). -/
def preExecBlocks : Nat := 0x9E0
/-- The unit becomes standby and starts bulk racking (R443). -/
def Node.becomeStandby (n : Node) : Node :=
  let n := ((n.setHold false).setRole 4).loseTopology.silence
  let n := { n with
    ina := { n.ina with owed := false }
    cellar := { n.cellar with recomputeDrop := false } }
  let n := (n.setSpec 3 preExecBlocks).wrBit F.RED_STATUS_SYNC false
  let n := (n.wrBit F.RED_STATUS_IN_STEP false).wr F.RED_STATUS_MIS_RUN 0
  let n := { n with pair := { n.pair with
    leaseExpired := false, resigned := false, frames := [], lastSeen := none, deltaDone := true, racked := [], misses := 0, matched := 0
    skip := 0, reseedDue := false, sent := [], swapIn := none, swapWanted := false, postponed := none, claimWatch := false
    claimDelayed := false, lastDelta := none, partnerBusy := []
    becomes := none, commitSets := [] } }
  n.startBulk

/-- Causes of events 0x0C01 and 0x0C0E, which the spec does not number: claim, lease expiry, resignation, swap; and command, shutdown, warm
reset, second active unit. -/
def causeClaim : Nat := 0
def causeLease : Nat := 1
def causeResigned : Nat := 2
def causeSwap : Nat := 3

/-- The unit becomes active, with the cause and kind of event 0x0C01 (R443, R456). -/
def Node.becomeActive (n : Node) (cause kind : Nat) : Node :=
  let before := n
  let n := ((n.setHold true).setRole 3).setSpec 0 0
  let n := { n with pair := { n.pair with
    leaseExpired := false, resigned := false, frames := [], racked := [], misses := 0, bulk := false, reseedDue := false, swapIn := none
    swapWanted := false, postponed := none, breakHold := false, claimWatch := false, claimDelayed := false, becomes := none
    sinceBulk := [], sent := [], lastDelta := none, partnerBusy := [] } }
  let n := (n.raise 0x0C01 [cause, kind]).when (n.bit F.RED_STATUS_RACK_UP) (·.emit (.rack .renewal))
  (n.turnOns before).adoptDirectory.startInaug

/-- What a takeover starts from: 0 warm, 1 racked, 2 cold (R455). -/
def Node.takeoverKind (n : Node) : Nat := if n.bit F.RED_STATUS_IN_STEP then 0 else if n.bit F.RED_STATUS_SYNC then 1 else 2
/-- What the pre-execution has left goes, as after a start-up commit (R455): signals, Press areas, flow and session status, datasets, message
buffers, staging. The unit's own cycle and domains stay (R106, R370). -/
def Node.startCold (n : Node) : Node :=
  let n := (n.resetWords fun a => rackedKey a && !ownWord a).keepBytes fun a => !inRam a
  let n := Node.initSignals { n with
    flows := [], sessions := [], blend := { n.blend with markers := [], hostHeaders := [], heldLow := [] } }
  n.clearStaging
/-- The chosen state is made committed (R455, R456): every command word that holds a copied or pre-executed value is marked. -/
def Node.chooseState (n : Node) (kind : Nat) : Node :=
  if kind = 2 then (n.startCold.reactivate).showAllDirections
  else
    let n := n.when (kind == 1) Node.copyRacked
    { n with outs := { n.outs with marks := 0xFFFFFF#24 } }
/-- Publishers' counters advance by 16, and busy sessions end (R456). -/
def Node.resumeFlows (n : Node) : Node :=
  let pubs := (List.range 1024).filter fun i => n.cfBit (F.CTX_VALID.at i) && n.cf (F.CTX_ROLE.at i) == 0
  let n := n.each pubs fun i n =>
    (n.wr (F.CST_SEQ.at i) (n.rd (F.CST_SEQ.at i) + 16)).setFlow i fun s => { s with safeSeq := (s.safeSeq + 16) % 2 ^ 32 }
  n.each (List.range 256) fun k n => n.when (n.sesBusy k) (·.wr (F.SST_STATE.at k) 4)
/-- The domains resume the port roles of the racked port states, with the racked link delays (R370, R456). -/
def Node.resumeDomains (n : Node) : Node :=
  let n := n.putWords (n.pair.racked.filter fun e => decide (0x48000000 ≤ e.1))
  n.each [0, 1] fun d n =>
    let a := (F.DOM_STATUS_RX_PORT.at d).addr
    n.when (!n.pair.racked.isEmpty) fun n => n.wr (F.DOM_STATUS_RX_PORT.at d) ((F.DOM_STATUS_RX_PORT.at d).get (n.rackedWord a))
/-- Gratuitous ARPs on every consist port for every address the pair represents: the translated addresses (R158, R456, R467). Their source is
the unit's Vintner address (R181). -/
def Node.announce (n : Node) : Node :=
  n.each (((List.range 14).drop 4).filter fun p => n.linkUp p && p != n.pairUplink) fun p n =>
    n.each n.represented fun ip n => n.emit (.arp p vintnerMac ip)
/-- A standby unit takes over (R455, R456). -/
def Node.takeOver (n : Node) (cause kind : Nat) : Node :=
  ((n.chooseState kind).resumeDomains.resumeFlows.becomeActive cause kind).announce
/-- TAKEOVER (R455). -/
def execTakeover (s : State) : Host.Outcome State Fault Refusal :=
  s.upd fun n => n.when (n.standby && n.running && (n.pair.resigned || (n.pair.leaseExpired && !n.holdSeen))) fun n =>
    (n.count CNT_TAKEOVER).takeOver (if n.pair.resigned then causeResigned else causeLease) n.takeoverKind

/-- The active unit gives up the Cork: outputs are held until the break instant (R458, R459, R460). -/
def Node.stepDown (n : Node) : Node :=
  let n := n.becomeStandby
  { n with pair := { n.pair with breakHold := true } }
/-- A resignation, with its cause: 0 command, 1 shutdown, 2 warm reset, 3 second active unit (R458). -/
def Node.resign (n : Node) (cause : Nat) : Node :=
  n.when n.pairActive fun n =>
    let n := n.when (n.bit F.RED_STATUS_RACK_UP) (·.emit (.rack .resignation))
    ((n.stepDown).count CNT_RESIGN).raise 0x0C0E [cause]
/-- RESIGNATION_RECEIVED (R455). -/
def execResignationReceived (s : State) : Host.Outcome State Fault Refusal :=
  s.upd fun n => n.when (n.standby && n.bit F.RED_STATUS_RACK_UP) fun n => { n with pair := { n.pair with resigned := true } }

/-- A unit of a pair starts by listening (R443). A node without a partner is single (R442). -/
def Node.startRole (n : Node) : Node :=
  if !n.pair.enabled then n.setRole 0
  else if n.holdSeen then n.becomeStandby
  else n.setRole 1
/-- Both units start, and the link is up: unit 0 claims and unit 1 becomes standby (R443). Units of one number wait for their keys. -/
def Node.meetStarting (n : Node) : Node :=
  n.when (n.running && n.bit F.RED_STATUS_RACK_UP && n.rd F.RED_STATUS_STATE == 1 && n.rd F.RED_STATUS_PARTNER == 1 &&
      (!n.pair.sameUnit || n.pair.partnerKey.isSome)) fun n =>
    if n.unit = 0 then n.setRole 2 else n.becomeStandby
/-- Units that carry the same UNIT act by their identity keys, the greater as unit 1 (R443). -/
def Node.compareKeys (n : Node) : Node :=
  match n.pair.partnerKey with
  | some k => n.when n.pair.sameUnit fun n =>
      { n with pair := { n.pair with actsAs := if beNat k < beNat Config.identityKey then 1 else 0 } }
  | none => n
/-- Both units carry the same UNIT: recorded once, and with the link up the keys are exchanged (R443). -/
def Node.foundSame (n : Node) : Node :=
  n.when (!n.pair.sameUnit) fun n =>
    let n := Node.raise { n with pair := { n.pair with sameUnit := true } } 0x0C0F []
    (n.when (n.bit F.RED_STATUS_RACK_UP) (·.emit (.rack (.identity Config.identityKey)))).compareKeys
/-- A unit that has not claimed finds its partner holding the Cork: it becomes standby (R443). -/
def Node.yields (n : Node) : Node :=
  n.when (n.running && (n.rd F.RED_STATUS_STATE == 1 || (n.rd F.RED_STATUS_STATE == 2 && !n.pair.claimWatch && n.pair.becomes.isNone)))
    Node.becomeStandby
/-- CLAIM_TIMEOUT (R443). -/
def execClaimTimeout (s : State) : Host.Outcome State Fault Refusal :=
  s.upd fun n => n.when (n.running && n.rd F.RED_STATUS_STATE == 1) (·.setRole 2)
/-- CLAIM_RETRY_DELAY (R443). -/
def execClaimRetryDelay (s : State) : Host.Outcome State Fault Refusal :=
  s.upd fun n => n.when (n.rd F.RED_STATUS_STATE == 2) fun n => { n with pair := { n.pair with claimDelayed := false } }
/-- CLAIM_WATCH_END (R443). How units learn with the link down that both carry the same UNIT the spec does not say: `sameUnit` (DESIGN CHOICE, log
entry 82). -/
def execClaimWatchEnd (partnerHoldSeen sameUnit : Bool) (s : State) : Host.Outcome State Fault Refusal :=
  s.upd fun n => n.when (n.rd F.RED_STATUS_STATE == 2 && n.pair.claimWatch) fun n =>
    let n := Node.when { n with pair := { n.pair with claimWatch := false } } (partnerHoldSeen && sameUnit) Node.foundSame
    if !partnerHoldSeen then { n with pair := { n.pair with becomes := some causeClaim } }
    else if n.pair.sameUnit && !n.bit F.RED_STATUS_RACK_UP then
      let n := ((n.setHold false).count CNT_CLAIM_COLL).raise 0x0C0D []
      { n with pair := { n.pair with claimDelayed := true } }
    else if n.unit = 1 then ((n.becomeStandby).count CNT_CLAIM_COLL).raise 0x0C0D []
    else { n with pair := { n.pair with becomes := some causeClaim } }

/-! ### Lease and hold lines (R444, R445) -/

/-- An active unit that holds the Cork and sees its partner's hold: unit 1 resigns at once (R445). -/
def Node.secondActive (n : Node) : Node :=
  n.when (n.pairActive && n.bit F.RED_STATUS_HOLD_OUT && n.holdSeen && n.unit == 1) (·.resign 3)
/-- CORK_RENEWAL_TX (R444, R445): only while the Trellis runs, or a Dormancy entry has stopped it (R461), and the Vintner is healthy. -/
def execCorkRenewalTx (s : State) : Host.Outcome State Fault Refusal :=
  s.upd fun n => n.when (n.pairActive && (n.bit F.TRL_STATUS_RUNNING || n.power == .dormEntry) && n.supply.firmware && !n.supply.halted) fun n =>
    ((n.when (n.bit F.RED_STATUS_RACK_UP) (·.emit (.rack .renewal))).setHold true).secondActive
/-- RENEWAL_RECEIVED (R443, R444). -/
def execRenewalReceived (s : State) : Host.Outcome State Fault Refusal :=
  s.upd fun n => n.when (n.running && n.bit F.RED_STATUS_RACK_UP) fun n =>
    if n.standby then { n with pair := { n.pair with leaseExpired := false } }
    else n.yields
/-- HOLD_OUT_RELEASE (R444). -/
def execHoldOutRelease (s : State) : Host.Outcome State Fault Refusal :=
  s.upd fun n => n.when n.pairActive (·.setHold false)
/-- LEASE_EXPIRY (R445): with the partner still holding the unit stays standby. -/
def execLeaseExpiry (s : State) : Host.Outcome State Fault Refusal :=
  s.upd fun n => n.when n.standby fun n =>
    let n := { n with pair := { n.pair with leaseExpired := true } }
    n.when n.holdSeen fun n => (n.raise 0x0C04 []).wrBit F.RED_STATUS_SYNC false
/-- HOLD_IN_CHANGE (R443, R444, R445). -/
def execHoldInChange (lineB low : Bool) (s : State) : Host.Outcome State Fault Refusal :=
  s.upd fun n => n.when (n.powered && !n.islandDown 5) fun n =>
    let n := n.wrBit (if lineB then F.RED_STATUS_HOLD_IN_B else F.RED_STATUS_HOLD_IN_A) low
    let n := n.when (n.bit F.RED_STATUS_HOLD_IN_A == n.bit F.RED_STATUS_HOLD_IN_B) (·.endRun 0x0C05 0)
    n.when (low && n.running) fun n => n.yields.secondActive
/-- HOLD_DISAGREE (R444): once per excursion. -/
def execHoldDisagree (s : State) : Host.Outcome State Fault Refusal :=
  s.upd fun n => n.when (n.pair.enabled && n.bit F.RED_STATUS_HOLD_IN_A != n.bit F.RED_STATUS_HOLD_IN_B && !(n.runs.contains (0x0C05, 0)))
    fun n => (n.count CNT_HOLD_DISAGREE).raiseFirst 0x0C05 0 []
/-- BREAK_INSTANT (R459). -/
def execBreakInstant (energies : List (Fin 24 × Nat)) (s : State) : Host.Outcome State Fault Refusal :=
  s.upd fun n => n.when (n.pair.breakHold) fun n =>
    let was := channels.filter n.conducts
    (Node.channelsOff { n with pair := { n.pair with breakHold := false } }).turnedOff was energies

/-! ### The Racking link (R446 to R449) -/

/-- RACK_LINK_DOWN (R446). -/
def execRackLinkDown (s : State) : Host.Outcome State Fault Refusal :=
  s.upd fun n => n.when (n.bit F.RED_STATUS_RACK_UP) fun n =>
    let n := { n with pair := { n.pair with partnerBusy := [] } }
    ((n.wrBit F.RED_STATUS_RACK_UP false).count CNT_RACK_DOWN).raise 0x0C03 [0]
/-- COMPAT is set while both Vintages carry one pair compatibility number; a mismatch is recorded, and SYNC clears (R449). -/
def Node.checkCompat (n : Node) : Node :=
  if n.vnt.partnerCompat = n.vnt.compat then n.wrBit F.RED_STATUS_COMPAT true
  else ((n.wrBit F.RED_STATUS_COMPAT false).wrBit F.RED_STATUS_SYNC false).raise 0x0C0C []
/-- RACK_LINK_UP (R441, R443, R446, R449): the partner learns the unit's STATE, and the links that stand at its backbone ports. -/
def execRackLinkUp (partnerCompat : Word) (s : State) : Host.Outcome State Fault Refusal :=
  s.upd fun n => n.when (n.powered && !n.islandDown 5 && n.pair.enabled && !n.bit F.RED_STATUS_RACK_UP) fun n =>
    let n := (n.wrBit F.RED_STATUS_RACK_UP true).raise 0x0C03 [1]
    let n := { n with vnt := { n.vnt with partnerCompat := partnerCompat } }
    let n := n.checkCompat.sayState
    n.each [0, 1, 2, 3] fun p n => n.tellPartner p (n.linkUp p)

/-- A commit set arrives: its cells become the shadow of its groups, which take effect together after `skip` more base-cycle starts, at the start of
the active unit (R101, R450). The receipt is confirmed. -/
def Node.takeSet (n : Node) (set : List Nat) (skip : Nat) (cells : List (Nat × Word)) : Node :=
  let gs := set.filter groupExists
  let n := n.each gs fun g n => n.putShadows ((n.groupKeys g).map fun a => (a, n.forceWord a))
  let n := n.putShadows (cells.filter fun c => gs.contains (groupOf c.1))
  let n := match gs with
    | [g] => n.setPhase g (.pending skip)
    | _ => n.when (!gs.isEmpty) fun n => { n with mc := some ⟨gs, skip⟩ }
  n.emit (.rack (.confirm gs))
/-- RACK_FRAME_RECEIVED (R447, R450): a frame of a delta, or a commit set with its groups and the base-cycle starts it lets pass. -/
def execRackFrameReceived (seq : Nat) (last crcOk : Bool) (cells : List (Nat × Word)) (set : Option (List Nat × Nat)) (s : State) :
    Host.Outcome State Fault Refusal :=
  s.upd fun n => n.when (n.standby && n.bit F.RED_STATUS_RACK_UP) fun n =>
    if !crcOk then (n.count CNT_RACK_CRC).emit (.rack .again)
    else match set with
    | some (gs, skip) => n.takeSet gs skip cells
    | none =>
      if n.pair.frames.any (·.1 == seq) then n
      else
      { n with pair := { n.pair with
        frames := n.pair.frames ++ [(seq, cells)]
        lastSeen := if last then some seq else n.pair.lastSeen } }
/-- Every frame of the delta has arrived. -/
def Node.deltaComplete (n : Node) : Bool :=
  match n.pair.lastSeen with
  | some k => (List.range (k + 1)).all fun i => n.pair.frames.any (·.1 == i)
  | none => false
/-- DELTA_APPLIED (R447, R449): as a whole; discarded while the pair compatibility numbers differ. -/
def execDeltaApplied (s : State) : Host.Outcome State Fault Refusal :=
  s.upd fun n => n.when (n.standby && n.deltaComplete) fun n =>
    let k := (n.pair.lastSeen.getD 0) + 1
    let cells := (List.range k).flatMap fun i => ((n.pair.frames.find? (·.1 == i)).map (·.2)).getD []
    let n := { n with pair := { n.pair with frames := [], lastSeen := none, deltaDone := true } }
    n.when (n.bit F.RED_STATUS_COMPAT) fun n =>
      let topo := cells.any fun c => directoryKey c.1 || groupOf c.1 == 0x21
      let n := n.when n.pair.bulk fun n => { n with pair := { n.pair with sinceBulk := n.pair.sinceBulk ++ cells } }
      (n.each cells fun c n => n.rackCell c).when topo Node.reactivate
/-- The bulk copy becomes the racked state, with what deltas have brought meanwhile on top (R448). -/
def Node.takeBulk (n : Node) (cells : List (Nat × Word)) : Node :=
  let since := n.pair.sinceBulk
  let n := { n with pair := { n.pair with bulk := false, sinceBulk := [], racked := [] } }
  (n.each (cells ++ since) fun c n => n.rackCell c).reactivate
/-- BULK_RACKING_DONE (R181, R448, R449): `cells` is the active unit's copy. Unit 1 learns the node address of unit 0 and keeps it in its persistent
store. -/
def execBulkRackingDone (unit0Mac : Mac) (cells : List (Nat × Word)) (s : State) : Host.Outcome State Fault Refusal :=
  s.upd fun n => n.when (n.standby && n.pair.bulk && n.bit F.RED_STATUS_RACK_UP && n.bit F.RED_STATUS_COMPAT) fun n =>
    let n := n.takeBulk cells
    let n := n.when (n.rd F.RED_STATUS_UNIT == 1) fun n => { n with vnt := { n.vnt with unit0Mac := some unit0Mac, storeDue := true } }
    (((n.wrBit F.RED_STATUS_SYNC true).reseed).raise 0x0C09 [])

/-- The Racking link control word of R441, R443, R447, R448, R450, R460 and R461. The Dormancy words are the power controller's. -/
def Node.controlWord (n : Node) (w : RackControl) : Node :=
  match w with
  | .link p up lead =>
    n.when (!n.physical p) fun n =>
      if up then n.when (!n.linkUp p) (·.reportUp p lead) else n.when (n.linkUp p) (·.reportDown p lead)
  | .state st unit ok =>
    let n := n.wr F.RED_STATUS_PARTNER st
    let n := { n with pair := { n.pair with partnerDormOk := ok, partnerDormAt := n.now } }
    (n.when (unit == (n.rd F.RED_STATUS_UNIT == 1)) Node.foundSame).meetStarting
  | .identity key => (Node.compareKeys { n with pair := { n.pair with partnerKey := some key } }).meetStarting
  | .busy gs => { n with pair := { n.pair with partnerBusy := gs } }
  | .bulk => n.when n.pairActive Node.sendBulk
  | .again => n.when n.pairActive Node.sendAgain
  | .swap => n.when n.standby fun n => { n with pair := { n.pair with swapIn := some 2 } }
  | .dormEnter => n
  | .dormAbort => n

/-! ### Output comparison (R452, R453) -/

/-- One bit of a CRC-64 with the ECMA-182 polynomial. -/
def crcBit (r : DWord) : DWord := if r.getLsbD 63 then (r <<< 1) ^^^ 0x42F0E1EBA9EA3693#64 else r <<< 1
/-- A byte goes in, from its most or its least significant bit. -/
def crcByte (r : DWord) (b : Byte) : DWord :=
  let b := if Config.crc64Reflected then b.reverse else b
  crcBit (crcBit (crcBit (crcBit (crcBit (crcBit (crcBit (crcBit (r ^^^ (b.zeroExtend 64 <<< 56)))))))))
/-- CRC-64 with the ECMA-182 polynomial; its initial and final values and the order of the bits are left open (R452; log entry 4). -/
def crc64 (bs : List Byte) : DWord := bs.foldl crcByte Config.crc64Init ^^^ Config.crc64Final
/-- The number of consecutive mismatches that makes a standby unit re-seed. -/
def Node.divLimit (n : Node) : Nat := [1, 3, 8, 32].getD (n.cf F.PAIR_CFG_DIV_SEL) 1
/-- The digest of the cycle that ends, in R452's order. -/
def Node.cycleDigest (n : Node) : DWord :=
  crc64 (n.pair.digestCommands ++ n.pair.digestFields.flatMap (·.2) ++ n.pair.digestSets.flatMap (·.2))
/-- DIGEST_COMPARE (R453). -/
def execDigestCompare (cycle : BitVec 13) (partner : DWord) (s : State) : Host.Outcome State Fault Refusal :=
  s.upd fun n =>
    match n.pair.digests.find? (·.1 == cycle.toNat) with
    | none => n
    | some (_, own) => n.when (n.bit F.RED_STATUS_RACK_UP && (n.pairActive || n.standby)) fun n =>
      if n.pair.skip ≠ 0 then { n with pair := { n.pair with skip := n.pair.skip - 1 } }
      else
        let n := ((n.putWord64 0xC00020 own).putWord64 0xC00028 partner).wr F.DIGEST_IDX cycle.toNat
        if own = partner then
          let n := (n.wr F.RED_STATUS_MIS_RUN 0).endRun 0x0C06 0
          let n := { n with pair := { n.pair with misses := 0, matched := n.pair.matched + 1 } }
          n.when (decide (8 ≤ n.pair.matched)) (·.wrBit F.RED_STATUS_IN_STEP true)
        else
          let n := ((n.count CNT_DIGEST_MISMATCH).raiseFirst 0x0C06 0 [cycle.toNat]).wrBit F.RED_STATUS_IN_STEP false
          let n := n.wr F.RED_STATUS_MIS_RUN (min 255 (n.rd F.RED_STATUS_MIS_RUN + 1))
          let due := n.standby && decide (n.divLimit ≤ n.pair.misses + 1)
          { n with pair := { n.pair with misses := n.pair.misses + 1, matched := 0, reseedDue := n.pair.reseedDue || due } }

/-! ### Swaps and commands (R448, R458, R460) -/

/-- Key of RED_CMD (R462). -/
def redKey : Half := 0x3D8E#16
/-- RED_CMD, or its OP through the object dictionary. -/
def Node.redCommand (n : Node) (op : Nat) : Node :=
  if op = 1 then n.resign 0
  else if op = 2 then n.when n.pairActive fun n => { n with pair := { n.pair with swapWanted := true } }
  else n.when (op == 3 && n.standby) Node.startBulk
/-- A keyed write of RED_CMD. -/
def Node.redCmd (n : Node) (by_ : Initiator) (key : Half) (op : Nat) : Node :=
  n.access by_ 0xC fun n => n.when (key == redKey && n.running) (·.redCommand op)
/-- RED_CMD_RESIGN (R458). -/
def execRedCmdResign (by_ : Initiator) (key : Half) (s : State) : Host.Outcome State Fault Refusal := s.upd (·.redCmd by_ key 1)
/-- RED_CMD_SWAP (R460). -/
def execRedCmdSwap (by_ : Initiator) (key : Half) (s : State) : Host.Outcome State Fault Refusal := s.upd (·.redCmd by_ key 2)
/-- RED_CMD_BULK_RACKING (R448). -/
def execRedCmdBulkRacking (by_ : Initiator) (key : Half) (s : State) : Host.Outcome State Fault Refusal := s.upd (·.redCmd by_ key 3)
/-- SWAP_INTERVAL_EXPIRY (R460). -/
def execSwapIntervalExpiry (s : State) : Host.Outcome State Fault Refusal :=
  s.upd fun n => n.when (n.running && n.pairActive && n.cf F.PAIR_CFG_SWAP_H != 0) fun n => { n with pair := { n.pair with swapWanted := true } }

/-- A swap that waits is proposed at a racking point, or postponed and counted once an hour (R460). -/
def Node.proposeSwap (n : Node) : Node :=
  n.when (n.pair.swapWanted && n.pair.swapIn.isNone) fun n =>
    if n.bit F.RED_STATUS_IN_STEP ∧ 16 ≤ n.pair.matched then
      Node.emit { n with pair := { n.pair with swapIn := some 2, swapWanted := false, postponed := none } } (.rack .swap)
    else
      let due := match n.pair.postponed with
        | some t => decide (t + 3600000 ≤ n.runMillis)
        | none => true
      n.when due fun n =>
        let n := { n with pair := { n.pair with postponed := some n.runMillis } }
        (n.count CNT_SWAP_POSTPONED).raise 0x0C0B []
/-- The swap takes effect at the second racking point after its proposal (R460). -/
def Node.swapNow (n : Node) : Node :=
  let n := (n.count CNT_SWAP).raise 0x0C0A []
  if n.pairActive then n.stepDown else n.takeOver causeSwap 0

/-! ### The racking point (R121, R447, R452, R454, R460) -/

/-- The groups of a waiting set whose blocks are not idle, for the partner (R450). -/
def Node.sayBusy (n : Node) : Node :=
  let gs := n.waitingGroups
  n.when (!gs.isEmpty && n.bit F.RED_STATUS_RACK_UP) (·.emit (.rack (.busy (gs.filter fun g => !n.ownIdle g))))
/-- The cycle's digest is formed and sent, and the next cycle's begins. -/
def Node.closeDigest (n : Node) (idx : Nat) : Node :=
  let d := n.cycleDigest
  let n := { n with pair := { n.pair with
    digests := ((idx, d) :: n.pair.digests.filter (·.1 != idx)).take 4, digestCommands := [], digestFields := [], digestSets := [] } }
  n.when (n.bit F.RED_STATUS_RACK_UP) (·.emit (.rack (.digest idx d)))
/-- A delta that is not complete by the next racking point, with the partner still holding the Cork (R447). -/
def Node.checkDelta (n : Node) : Node :=
  let done := n.pair.deltaDone
  let n := { n with pair := { n.pair with frames := [], lastSeen := none, deltaDone := false } }
  n.when (!done && n.holdSeen) fun n =>
    (((n.wrBit F.RED_STATUS_SYNC false).count CNT_RACK_OVF).raise 0x0C08 []).startBulk
/-- What happens in a pair at the end of the cycle of index `idx`. -/
def Node.rackingPoint (n : Node) (idx : Nat) : Node :=
  if n.pairActive || n.standby then
    let n := n.closeDigest idx
    let n := n.when n.pairActive fun n => (n.when (n.bit F.RED_STATUS_RACK_UP) (·.sendDelta idx)).proposeSwap
    let n := n.when n.standby fun n => (n.checkDelta).when n.pair.reseedDue Node.reseed
    n
  else n
/-- A proposed swap comes one racking point nearer. -/
def Node.swapStart (n : Node) : Node :=
  match n.pair.swapIn with
  | some (k + 1) => if k = 0 then n.swapNow else { n with pair := { n.pair with swapIn := some k } }
  | _ => n
/-- A claim at a base-cycle start: the lines are asserted, or the unit becomes active (R443); it never claims while its partner holds the Cork, and
becomes standby instead. A second active unit resigns (R445). -/
def Node.claimStart (n : Node) : Node :=
  match n.pair.becomes with
  | some c => (n.becomeActive c 2).secondActive
  | none => n.when (n.rd F.RED_STATUS_STATE == 2 && !n.pair.claimWatch && !n.pair.claimDelayed) fun n =>
      if n.holdSeen then n.yields else Node.setHold { n with pair := { n.pair with claimWatch := true } } true
/-- The pair at a base-cycle start that ends the cycle of index `idx`. A swap proposed at this racking point is counted from the next. -/
def Node.pairStart (n : Node) (idx : Nat) : Node :=
  ((n.swapStart).rackingPoint idx).claimStart.sayState.sayBusy

end Sys2Proof.Machine
end

