-- ==== Sys2Proof/Machine/Trellis.lean ====
section
/-! DEFINITION. The Trellis (file 05): base cycles, re-phases and grids, actions without a block of their own, test slots, the schedule
scrub and the fabric wheel. -/

namespace Sys2Proof.Machine

/-! ### Base cycles (R106, R109, R136) -/

/-- A base cycle of index `idx` begins: the index, the hyper-periods begun, and BCNT (R106, R144, R350). -/
def Node.newCycle (n : Node) (idx : Nat) : Node :=
  let n := (n.wr F.CYCLE_IDX_IDX idx).incr F.BCNT
  n.when (idx == 0) (·.incr F.HYPER_CNT)

/-- Entries that are skipped stay so until the next commit of the group, because the shadow bank is edited (R137). -/
def Node.holdEntries (n : Node) : Node :=
  Node.wrBit { n with trellis := { n.trellis with heldEntries := n.trellis.skipped } } F.TRL_STATUS_ECC_HOLD true
/-- Entries of the bank in force with an uncorrectable error at a base-cycle start: restored from the shadow bank, or held where it is edited
(R137). -/
def Node.restoreEntries (n : Node) : Node :=
  let open_ := n.trellis.skipped.filter fun i => !(n.trellis.heldEntries.contains i)
  n.when (!open_.isEmpty) fun n =>
    if n.dirty 0x10 then n.holdEntries else { n with trellis := { n.trellis with skipped := n.trellis.heldEntries } }

/-- A decided topology commit comes one base-cycle start nearer, but not to its own while a host commit is waited for (R100); a speculation
enters classification (R224, R226). -/
def Node.topologyStart (n : Node) (waits : Bool) : Node :=
  let n := { n with ina := { n.ina with decided := n.ina.decided.map fun (c : TopoCommit) =>
    { c with skip := if waits && c.skip == 1 then 1 else c.skip - 1 } } }
  match n.ina.spec with
  | none => n
  | some sp =>
    if sp.wait = 0 then { n with cellar := { n.cellar with specActive := true } }
    else { n with ina := { n.ina with spec := some { sp with wait := sp.wait - 1 } } }
/-- What counts base cycles: the previous translation bank, and the grace of both topology counters (R229, R254, R256). -/
def Node.graceStart (n : Node) : Node :=
  let n := { n with cellar := { n.cellar with prevCycles := n.cellar.prevCycles - 1 } }
  (n.wr F.PDF_STATUS_GRACE (n.rd F.PDF_STATUS_GRACE - 1)).wr F.PDF_STATUS_OP_GRACE (n.rd F.PDF_STATUS_OP_GRACE - 1)
/-- Offsets are counted from an instant `ns` later: the ends of the copies on the wire. -/
def Node.rebase (n : Node) (ns : Nat) : Node :=
  { n with cellar := { n.cellar with sendEnd := (n.cellar.sendEnd.map fun e => (e.1, e.2 - ns)).filter fun e => e.2 != 0 } }

/-- A base-cycle start with the index that the grid gives it. Commits take effect; one of group 0x10 may begin a grid of its own (R96,
R136). -/
def Node.cycleStart (n : Node) (idx : Nat) : Node :=
  let waits := n.topoWaits
  let n := (n.wr F.CYCLE_IDX_IDX idx).commitsStart
  let n := (n.restoreEntries).topologyStart waits
  if n.trellis.waitOrigin then n else n.newCycle (n.rd F.CYCLE_IDX_IDX)

/-- The Trellis stops issuing: gates return to their base masks (R111, R123). -/
def Node.stopTrellis (n : Node) : Node :=
  let n := { n with trellis := { n.trellis with
    running := [], openGates := [], rephaseDue := false, gap := false, waitOrigin := false } }
  n.wrBit F.TRL_STATUS_RUNNING false
/-- The node is back in Run after an entry into Dormancy that a wake has aborted (R80). -/
def Node.backToRun (n : Node) : Node :=
  Node.wr { n with power := .run, supply := { n.supply with dormStep := 0, dormAbort := false } } F.PWR_STATUS_PWR_STATE 1
/-- The Trellis resumes where the aborted entry had stopped it (R80), unless its memory failed (R70), or no Vintage is committed (R71). -/
def Node.resumeRun (n : Node) : Node :=
  n.backToRun.updateBypass.when (!n.blockFailed 1 && n.rd F.PWR_STATUS_START_PHASE == 4) fun n =>
    (n.wrBit F.TRL_STATUS_RUNNING true).cycleStart (n.indexAt n.scheduleNs)

/-- The re-phase gap begins (R109): schedule time is the domain's from here on, and the instant of the next start is known. -/
def Node.beginGap (n : Node) (idx : Nat) : Node :=
  let r := n.gapEnd
  let n := { n with trellis := { n.trellis with
    rephaseDue := false, gap := true, gapFrom := idx, openGates := [], resumeNs := r.1, resumeAt := r.2 } }
  (n.wr F.TRL_STATUS_PHASE_STATE 3).wr F.PHASE_ERR_ERR 0
/-- What the buses show: frames in progress, and the progress of recoveries (R321, R325). -/
def Node.seeBuses (n : Node) (bus : BusView) : Node :=
  Node.each { n with trellis := { n.trellis with canFrames := bus.frames } } (List.range 8) fun c n => n.seeRecovery c (bus.recessive.getD c 0)
/-- BASE_CYCLE_START (R106, R109, R121): the racking point of the cycle that ends, then the start of the next one, or the re-phase gap. -/
def execBaseCycleStart (bus : BusView) (s : State) : Host.Outcome State Fault Refusal :=
  s.upd fun n =>
    let n := n.seeBuses bus
    if n.supply.dormAbort && n.supply.dormStep != 1 then n.resumeRun
    else (n.when n.supply.dormAbort Node.backToRun).when (n.powered && n.issuing) fun n =>
      let idx := n.rd F.CYCLE_IDX_IDX
      let n := ((n.pairStart idx).graceStart).rebase (SchedBank.baseNs n.cf)
      if n.trellis.rephaseDue then
        n.beginGap idx
      else n.cycleStart ((idx + 1) % max 1 (SchedBank.cycles n.cf))
/-- TRELLIS_SLEW_END (R108). -/
def execTrellisSlewEnd (s : State) : Host.Outcome State Fault Refusal :=
  s.upd fun n => n.when (n.rd F.TRL_STATUS_PHASE_STATE == 2) fun n => (n.wr F.TRL_STATUS_PHASE_STATE 1).wr F.PHASE_ERR_ERR 0
/-- REPHASE_GAP_END (R109): `startNs` is the schedule time of the start on the new timeline. -/
def execRephaseGapEnd (startNs gapNs : Nat) (bus : BusView) (s : State) : Host.Outcome State Fault Refusal :=
  s.upd fun n => n.when n.trellis.gap fun n =>
    let n := n.when n.supply.dormAbort Node.backToRun
    let idx := n.indexAt startNs
    let n := (Node.rebase { n with trellis := { n.trellis with gap := false } } gapNs).seeBuses bus
    let n := ((n.wr F.TRL_STATUS_PHASE_STATE 1).wr F.PHASE_ERR_ERR 0).count CNT_REPHASE
    (n.raise 0x0103 [gapNs, n.trellis.gapFrom, idx]).cycleStart idx
/-- GRID_ORIGIN_START (R136): `startNs` is the schedule time of the first aligned instant. Where it is the boundary itself, its commits have been
taken. Event 0x0109 is recorded here, where its interval is known, in ns, and not where the Trellis stops before (DESIGN CHOICE, log entries 75 and
78). A start ends an entry into Dormancy that a wake has aborted (R80). -/
def execGridOriginStart (startNs waitNs : Nat) (bus : BusView) (s : State) : Host.Outcome State Fault Refusal :=
  s.upd fun n => n.when n.trellis.waitOrigin fun n =>
    let n := n.when n.supply.dormAbort Node.backToRun
    let n := (Node.rebase { n with trellis := { n.trellis with waitOrigin := false } } waitNs).seeBuses bus
    let idx := n.indexAt startNs
    if waitNs = 0 then n.newCycle idx else (n.raise 0x0109 [waitNs]).cycleStart idx
/-- SCHEDULE_BANK_COPY_DONE (R135). -/
def execScheduleBankCopyDone (s : State) : Host.Outcome State Fault Refusal := s.upd (·.wrBit F.TRL_STATUS_TBL_BUSY false)

/-- One finding of the schedule scrub (R137). -/
def Node.scheduleFinding (n : Node) (f : ScrubFinding) : Node :=
  match f.result with
  | .clean => n
  | .corrected => n.count CNT_SCHED_ECC_CORR
  | .uncorrectable =>
    if f.inForce then
      n.when (!n.trellis.skipped.contains f.entry) fun n =>
        let n := (Node.count { n with trellis := { n.trellis with skipped := f.entry :: n.trellis.skipped } } CNT_SCHED_ECC).raise 0x0105 [f.entry]
        n.when (n.dirty 0x10) Node.holdEntries
    else { n with trellis := { n.trellis with shadowBad := (f.entry, f.word.val) :: n.trellis.shadowBad } }
/-- SCHEDULE_SCRUB_PASS (R137). -/
def execScheduleScrubPass (findings : List ScrubFinding) (s : State) : Host.Outcome State Fault Refusal :=
  s.upd fun n => n.when (n.powered && !n.islandDown 5) (·.each findings fun f n => n.scheduleFinding f)

/-! ### Actions (R118, R120, R128) -/

/-- ACTION_COMPLETE (R118): `lateNs` is the time since the window closed, 0 on time. -/
def execActionComplete (entry lateNs : Nat) (s : State) : Host.Outcome State Fault Refusal :=
  s.upd (·.actionDone entry lateNs)
/-- The command words as the cycle's digest takes them in (R452). -/
def Node.commandBytes (n : Node) : List Byte := channels.flatMap fun c => natLe (n.word (F.CMD_ON.at c).addr).toNat 4
/-- OUT_UPDATE (R128, R413, R452): to an output island in reset, a crossing that ends with an error (R16). -/
def execOutUpdate (entry : Nat) (samples : List (Fin 24 × ChannelSample)) (vloadA vloadB : Half) (s : State) :
    Host.Outcome State Fault Refusal :=
  s.upd fun n => n.when (n.due entry 5) fun n => if n.blockHeld 0xB then n.xabort else
    let n := n.outUpdate samples vloadA.toNat vloadB.toNat
    n.when n.pair.enabled fun n => { n with pair := { n.pair with digestCommands := n.commandBytes } }
/-- An entry of vector 4 stands in the event queue and software has not taken it: in the QSPI FIFO, or between EQ_HEAD and EQ_TAIL in host memory
(R120, R396). -/
def Node.irqQueued (n : Node) : Bool :=
  n.host.eqFifo.any (fun e => e.w0.toNat % 256 == 4) ||
    match n.host.eqIrq with
    | some i =>
      let size := [64, 256, 1024, 4096].getD (n.rd F.EQ_CFG_SIZE_CODE) 64
      let used := (n.rd F.EQ_TAIL + size - n.rd F.EQ_HEAD) % size
      n.host.eqFull || decide ((i + size - n.rd F.EQ_HEAD) % size < used)
    | none => false
/-- HOST_IRQ (R120): a firing of vector 4 that still waits, as a firing, as a pending MSI-X message or in the event queue, is not queued twice.
A message that has been sent counts as serviced (DESIGN CHOICE, log entry 55). -/
def execHostIrq (entry : Nat) (s : State) : Host.Outcome State Fault Refusal :=
  s.upd fun n => n.when (n.due entry 7) fun n =>
    let tag := n.cf (F.ENT_ARG.at entry)
    let n := n.wr F.IRQ_TAG_TAG tag
    if n.host.msixPending.getLsbD 4 || n.irqQueued then n
    else if n.host.fires.any (·.vector == 4) then
      { n with host := { n.host with fires := mapIf (·.vector == 4) (fun f => { f with arg := tag }) n.host.fires } }
    else n.fire 4 0 tag

/-! ### Test slots (R129, R533 to R536) -/

/-- Least useful window of a test in 8 ns units (R533). -/
def leastWindow (id : Nat) : Nat := if id < 0x40 then 3125 else if id < 0x60 then 37500 else if id = 0x80 then 250 else 125
/-- A test's result word (R536). -/
def testWord (id outcome detail : Nat) : Word := BitVec.ofNat 32 (id * 2 ^ 24 + outcome * 2 ^ 20 + detail % 65536)
/-- Leave a test's result; a failure is counted and recorded. -/
def Node.testResult (n : Node) (id outcome detail : Nat) : Node :=
  let w := testWord id outcome detail
  let n := n.putWord (0x400 + 4 * id) w
  n.when (outcome == 2) fun n => (n.count CNT_TEST_FAIL).raise 0x0106 [id, w.toNat]
/-- A pulse that starts with the window of entry `i` overlaps the window of an OUT_UPDATE of this cycle (R534). -/
def Node.pulseOverlaps (n : Node) (i : Nat) : Bool :=
  let start := n.cf (F.ENT_OFFSET.at i)
  (n.entriesOf 5).any fun j =>
    SchedBank.acts n.cf j (n.rd F.CYCLE_IDX_IDX) n.topoTag && decide (start < n.cf (F.ENT_OFFSET.at j) + n.cf (F.ENT_WINDOW.at j)) &&
      decide (n.cf (F.ENT_OFFSET.at j) < start + 2500)
/-- The output test pulse may run on channel `c` (R534). -/
def Node.pulseAllowed (n : Node) (i c : Nat) : Bool :=
  let h := n.chan c
  n.conducts c && !h.limiting && !h.failApplied && !h.held && !n.cfBit (F.CH_CFG_PAIRED.at c) && !n.pulseOverlaps i
/-- A finished test, with what it has measured: the lowest output voltage in 10 mV units and the energy of the turn-off; the samples that
did not follow; the failing lane or pipeline, or nothing (R534 to R536). -/
def Node.finishTest (n : Node) (id : Nat) (measured : List Nat) : Node :=
  if id < 0x40 then
    let lowest := measured.headD 0
    (n.testResult id (if lowest < 600 then 1 else 2) lowest).addEnergy (id - 0x20) ((measured.drop 1).headD 0)
  else if id < 0x60 then n.testResult id (if measured.headD 0 = 0 then 1 else 2) (measured.headD 0)
  else n.testResult id (if measured.isEmpty then 1 else 2) (measured.headD 0)
/-- TEST_SLOT (R129, R533): one that does not finish within its window is suspended. -/
def execTestSlot (entry : Nat) (measured : List Nat) (finished : Bool) (s : State) : Host.Outcome State Fault Refusal :=
  s.upd fun n => n.when (n.due entry 6) fun n =>
    let id := n.targetOf entry
    if n.cf (F.ENT_WINDOW.at entry) < leastWindow id then n.testResult id 3 0
    else if id < 0x40 && !n.pulseAllowed entry (id - 0x20) then n.testResult id 3 0
    else
      let n := { n with trellis := { n.trellis with suspended := n.trellis.suspended.filter (· != id) } }
      if finished then n.finishTest id measured else { n with trellis := { n.trellis with suspended := id :: n.trellis.suspended } }
/-- TEST_SUSPENDED (R129, R533). -/
def execTestSuspended (id : Byte) (s : State) : Host.Outcome State Fault Refusal :=
  s.upd fun n => n.when (n.trellis.suspended.contains id.toNat) (·.testResult id.toNat 4 0)

/-! ### The fabric wheel (R138 to R142) -/

/-- Code of an initiator (R139). -/
def fabricCode : FabricOwner → Nat
  | .blend => 0
  | .press _ _ => 1
  | .pdf => 2
  | .host => 3
  | .vintner => 4
  | .red => 5
  | .test => 6
/-- Home address and length of a target, and the island that serves it (R140). -/
def fabricHome : FabricTarget → Nat × Nat × Nat
  | .signals => (0x2000000, 0x200000, 4)
  | .pressImages => (0x3000000, 0x100000, 3)
  | .canBuffers => (0x740000, 0x10000, 3)
  | .datasets => (0x30000000, 0x200000, 0)
  | .outputs => (0xB10000, 0x300, 5)
  | .odEngine => (0x1000000, 0x20000, 8)
/-- A byte of a word of the register map. -/
def Node.regByte (n : Node) (a : Nat) : Byte := (n.word (a - a % 4)).extractLsb' (8 * (a % 4)) 8
/-- The target keeps what stands at an address in buffer memory; the object-dictionary engine does so for the data of its mailboxes. -/
def fabricRam (t : FabricTarget) (a : Nat) : Bool :=
  match t with
  | .pressImages => true
  | .datasets => true
  | .odEngine => decide (0x1000 ≤ a % 0x4000) && decide (a % 0x4000 < 0x2000)
  | _ => false
/-- A transaction's data as the target holds it. -/
def Node.fabricRead (n : Node) (t : FabricTarget) (ofs len : Nat) : List Byte :=
  let a := (fabricHome t).1 + ofs
  if fabricRam t a then n.bytes a len else (List.range len).map fun k => n.regByte (a + k)
end Sys2Proof.Machine
end

