-- ==== Sys2Proof/Machine/Reset.lean ====
section
/-! DEFINITION. Power-on state, warm reset, the load of a Vintage and its commit (file 03 R64 to R77, R84; file 19 R522 to R524). -/

namespace Sys2Proof.Machine

/-! ### What survives (R73, R83) -/

/-- The anti-rollback counters. -/
def rollbackKey (a : Nat) : Bool := decide (0xF00100 ≤ a) && decide (a < 0xF00200)
/-- Slot states and LAST_ERR of SEC_STATUS. -/
def slotRecord (w : Word) : Word := w &&& 0x077000FF#32
/-- What the store holds: the valid copy with the higher sequence number, of those whose CRC-32C is found right (R475). -/
def Vintner.kept (v : Vintner) (aOk bOk : Bool) : Option Persist :=
  let a := aOk && v.storeA.valid
  let b := bOk && v.storeB.valid
  if a && (!b || decide (v.storeB.seq ≤ v.storeA.seq)) then some v.storeA.values else if b then some v.storeB.values else none
/-- The values of the class P entries become those of the store. -/
def Vintner.takes (v : Vintner) (p : Persist) : Vintner := { v with storeWrites := p.writes, unit0Mac := p.unit0Mac, uuid := p.uuid }
/-- UNIT_CFG as the persistent store holds it (R440, R475). -/
def Node.unitCfg (n : Node) : Node :=
  let v := (n.vnt.kept true true).getD defaultPersist
  (n.wrBit F.UNIT_CFG_PAIR_EN v.pairEn).wrBit F.UNIT_CFG_UNIT v.unit
/-- The book without what its RAM held: the queue is lost, and reported after the restart (R503, R504). -/
def Book.afterReset (b : Book) : Book :=
  { b with
    queue := [], missing := [], pendingCount := [], lostFull := 0, lostReset := b.lostReset + b.queue.length, frozenCmd := false
    cut := (b.queue.head?.filter (!·.early)).orElse fun _ => b.cut
    readout := false, odReadout := false }
/-- The Vintner's software state after a restart: what the store and the vault keep. -/
def Vintner.afterReset (v : Vintner) : Vintner :=
  ({ Node.unpowered.vnt with storeA := v.storeA, storeB := v.storeB } : Vintner).takes ((v.kept true true).getD defaultPersist)
/-- The vault after a restart: slots, keys and firmware copies. -/
def Vault.afterReset (v : Vault) : Vault :=
  { v with session := none, verifying := none, trialSince := none, quote := none, keyRole := 0 }
/-- The words and bytes that outlast a loss of supply: the anti-rollback counters and the NOR. -/
def Store.cold (m : Store) : Store :=
  { regs := SMap.only rollbackKey m.regs, shadow := [], force := [], ram := SMap.only (fun a => decide (norBase ≤ a)) m.ram }
/-- A host mailbox has an access in progress, which a warm reset or a wake ends without completion (R481). -/
def Node.boxCut (n : Node) (m : Fin 4) : Bool := n.bit (F.MBOX_BUSY.at m) || (n.transferOf (.hostMailbox m)).isSome
/-- Host mailboxes whose access has ended with the supply (R481). -/
def Node.lostNow (n : Node) : List (Fin 4) := [0, 1, 2, 3].filter fun m => n.boxCut m || n.supply.lost.contains m
/-- A node whose islands have lost their supply: everything at reset but the book, the counters, the NOR, the keys and the store (R73). -/
def Node.cold (n : Node) : Node :=
  let m : Node := { Node.unpowered with
    supply := { Node.unpowered.supply with hotStop := n.supply.hotStop, heatLock := n.supply.heatLock, lost := n.lostNow }
    book := { n.book.afterReset with recovered := false, baseMs := 0, pcc := 0 }
    vnt := n.vnt.afterReset
    vault := n.vault.afterReset
    maint := { Node.unpowered.maint with cellarHeld := n.maint.cellarHeld }
    out := n.out
    fresh := n.fresh }
  (((m.setStore n.store.cold).setIslands 0x7FF).putWord 0xF00000 (slotRecord (n.word 0xF00000))).unitCfg

/-- Blocks whose memory has failed a test and is held: their islands (R70, R539). -/
def Node.heldIslands (n : Node) : Nat :=
  (if n.blockFailed 2 || n.maint.cellarHeld then 1 else 0) + (if n.blockFailed 6 || n.blockFailed 7 then 8 else 0) +
    (if n.blockFailed 8 then 16 else 0)
/-- The islands leave reset, but those held and a host bridge that is not yet released (R64, R70). -/
def Node.releaseIslands (n : Node) : Node :=
  n.setIslands (n.heldIslands + if n.host.inReset then 128 else 0)
/-- The host bridge leaves reset, on the interface that HOST_SEL chose (R42, R69). -/
def Node.releaseBridge (n : Node) : Node :=
  let n := { n with host := { Node.unpowered.host with inReset := false } }
  (n.wrBit F.HBR_STATUS_PCIE_SEL n.supply.pcie).setIslands (n.rd F.ISLAND_STATUS_IN_RESET - if n.islandDown 7 then 128 else 0)

/-! ### Warm reset (R73 to R76) -/

/-- Registers that a warm reset leaves: time base and output island, what the pins and sensors show, the book's and the vault's stores. -/
def warmKeeps (a : Nat) : Bool :=
  (decide (0x900000 ≤ a) && decide (a < 0xA00000)) || (decide (0xB00000 ≤ a) && decide (a < 0xB10000)) ||
    (decide (0xD00200 ≤ a) && decide (a < 0xD00300)) || rollbackKey a || a == 0x300008
/-- Bits of other registers that a warm reset leaves: slot states, retired Casks, HOLDUP_RDY and the filtered hold lines. -/
def Node.warmWords (old n : Node) : Node :=
  let n := n.putWord 0xF00000 (slotRecord (old.word 0xF00000))
  let n := n.wr F.SWC_STATUS_RETIRED (old.rd F.SWC_STATUS_RETIRED)
  let n := n.wrBit F.PWR_STATUS_HOLDUP_RDY (old.bit F.PWR_STATUS_HOLDUP_RDY)
  let n := n.each [0, 1, 2, 3] fun p n => n.wrBit (F.LINK_STATUS_SETTLE.at p) (old.bit ⟨0x300008, 2 + p % 2, 1, 4⟩)
  let n := n.wrBit F.RED_STATUS_HOLD_IN_A (old.bit F.RED_STATUS_HOLD_IN_A)
  (n.wrBit F.RED_STATUS_HOLD_IN_B (old.bit F.RED_STATUS_HOLD_IN_B)).unitCfg
/-- Faults that a warm reset does not end. -/
def faultStays : FaultCause → Bool
  | .memory _ => true
  | .casks => true
  | .die _ => true
  | .rail _ => true
  | _ => false
/-- Host mailboxes with an access in progress show LOST afterwards (R481, R484). -/
def Node.lostBoxes (old n : Node) : Node :=
  n.each [0, 1, 2, 3] fun (m : Fin 4) n =>
    n.when (old.boxCut m) (·.wrBit (F.MBOX_LOST.at m) true)
/-- What a TAP instruction acts as outside the recovery state and the maintenance stop (R540). -/
def tapOutside : TapCode → TapCode
  | .extest => .bypass
  | .clamp => .bypass
  | .highz => .bypass
  | c => c
/-- The words and bytes that outlast a warm reset, with the configuration of the time base and the output island. -/
def Store.warm (m : Store) : Store :=
  let config := SMap.only (fun a => (decide (0x900000 ≤ a) && decide (a < 0xA00000)) || (decide (0xB00000 ≤ a) && decide (a < 0xC00000)))
    m.force
  { regs := SMap.only warmKeeps m.regs, shadow := config, force := config, ram := SMap.only (fun a => decide (norBase ≤ a)) m.ram }
/-- The islands of a warm reset start anew; `cause` is the code of LAST_RESET. Schedule time continues its timeline (R107). The bypass drivers follow
WARM_HOLD as it stands at the reset cause (R195). -/
def Node.restartWarm (n : Node) (cause : Nat) : Node :=
  let was := n
  let held := (n.when n.pairActive fun n => { n with pair := { n.pair with breakHold := true } }).holdChannels
  let m : Node := { Node.unpowered with
    power := .run
    supply := { Node.unpowered.supply with
      dip := n.supply.dip, interruption := n.supply.interruption, hotStop := n.supply.hotStop, pcie := n.supply.pcie, startRaw := n.now
      warm := true
      owed := n.supply.owed ++ [.warm cause] }
    pins := { Node.unpowered.pins with ppsOut := n.pins.ppsOut }
    faults := n.faults.filter faultStays
    book := n.book.afterReset
    cellar := { Node.unpowered.cellar with retired := n.cellar.retired }
    time := n.time
    outs := { held.outs with marks := 0#24 }
    pair := { Node.unpowered.pair with
      enabled := n.pair.enabled, actsAs := if was.rd F.RED_STATUS_UNIT = 1 then 1 else 0, breakHold := held.pair.breakHold }
    vnt := n.vnt.afterReset
    vault := n.vault.afterReset
    maint := { Node.unpowered.maint with cellarHeld := n.maint.cellarHeld, tap := tapOutside n.maint.tap }
    host := { Node.unpowered.host with inReset := n.host.inReset }
    out := n.out
    fresh := n.fresh }
  let m := (was.warmWords (m.setStore n.store.warm)).setIslands (0x3F + if n.host.inReset then 128 else 0)
  let m := (was.lostBoxes m).wrBit F.HBR_STATUS_PCIE_SEL n.supply.pcie
  let m := m.wr F.RED_STATUS_UNIT (was.rd F.RED_STATUS_UNIT)
  let m := (m.wr F.PWR_STATUS_START_PHASE 1).wr F.PWR_STATUS_LAST_RESET cause
  let m := m.standPhase was.phaseNow
  let m := ((((m.startDomain 0).startDomain 1).wr F.TIME_STATUS_SOURCE 0).wrBit F.TIME_STATUS_SLEWING false).startMeasures
  let hold := was.bit F.BYPASS_CTRL_WARM_HOLD
  ((m.wrBit F.BYPASS_CTRL_WARM_HOLD hold).updateBypass).wrBit F.BYPASS_CTRL_WARM_HOLD true
/-- An update session ends with its slot empty, after the counters have restarted (R521). -/
def Node.restartDropsUpdate (old n : Node) : Node :=
  match old.vault.session with
  | none => n
  | some u => ((n.setSlot u.slot 0).count CNT_UPD_ABORT).raise 0x0F07 [u.slot]
/-- The trial slot fails and its firmware copy loses its mark (R524). -/
def Node.failTrial (n : Node) (cause : Nat) : Node :=
  match n.slotIn 3 with
  | none => n
  | some k =>
    let n := { n with vault := { n.vault with fwTrial := none, trialSince := none } }
    (((n.setSlot k 5).wr F.TRIAL_LEFT 0).count CNT_SEC_FALLBACK).raise 0x0F06 [cause]
/-- The node can be reset: a shutdown always completes, and a Dormancy entry does from its step 5 on (R50, R79). -/
def Node.canRestart (n : Node) : Bool := n.power == .run || (n.power == .dormEntry && decide (n.supply.dormStep < 5))
/-- The book's queue is flushed, once the book has been recovered (R500, R503). -/
def Node.flushReady (n : Node) : Node := n.when (n.bit F.CBK_STATUS_READY) Node.flushBook
/-- A warm reset: 1 by command, 2 by watchdog, 3 by lockstep mismatch, 5 to activate a slot (R73, R74, R76). During a trial the first three
end it (R524). -/
def Node.warmReset (n : Node) (cause : Nat) : Node :=
  n.when n.canRestart fun n =>
    let n := n.when (cause == 1 || cause == 5) fun n => (n.resign 2).flushReady
    let n := n.restartDropsUpdate (n.restartWarm cause)
    n.when (cause != 5) (·.failTrial 3)
/-- A fall-back of cause 1, 2 or 4: the trial slot fails, and the node resets into the previous slot (R524). R524 names neither a resignation nor a
flush: the model takes both, as for a warm reset by command (DESIGN CHOICE, log entry 70). The failed slot is not tried again in this start (R68). -/
def Node.fallBack (n : Node) (cause : Nat) : Node :=
  n.when ((n.slotIn 3).isSome && n.canRestart) fun n =>
    let n := (n.resign 2).flushReady
    let n := (n.restartDropsUpdate (n.restartWarm 5)).failTrial cause
    { n with supply := { n.supply with slotFailed := true } }

/-- Key of RST_CMD (R84). -/
def resetKey : Half := 0x5A3C#16
/-- RST_CMD_WARM (R73). -/
def execRstCmdWarm (by_ : Initiator) (key : Half) (s : State) : Host.Outcome State Fault Refusal :=
  s.upd fun n => n.access by_ 0xD fun n => n.when (key == resetKey) (·.warmReset 1)
/-- VINTNER_WATCHDOG_EXPIRY (R465). -/
def execVintnerWatchdogExpiry (s : State) : Host.Outcome State Fault Refusal := s.upd (·.warmReset 2)
/-- LOCKSTEP_MISMATCH (R465). -/
def execLockstepMismatch (s : State) : Host.Outcome State Fault Refusal := s.upd (·.warmReset 3)
/-- VINTNER_SRAM_ERROR (R465): an uncorrectable one halts the processor. -/
def execVintnerSramError (correctable : Bool) (s : State) : Host.Outcome State Fault Refusal :=
  s.upd fun n => n.when (n.powered && n.supply.firmware) fun n =>
    if correctable then n.count CNT_VNT_SRAM_CORR else { n with supply := { n.supply with halted := true } }

/-! ### Loading a Vintage (R65 to R72) -/

/-- The load of a slot begins: every shadow at its reset value (R67). -/
def Node.beginLoad (n : Node) (slot : Nat) : Node :=
  let n := { n.clearShadows with
    supply := { n.supply with slot := slot, sections := [], verified := false, loading := true } }
  (n.wr F.PWR_STATUS_START_PHASE 3).setSpec 1 0
/-- The islands are released and the slot in force is loaded; with none, slot A is tried first (R67, R520; log entry 25). -/
def Node.firstLoad (n : Node) : Node := n.releaseIslands.beginLoad ((n.slotInForce).getD 0)
/-- Speculative state is dropped, and link training stops (R62, R68). -/
def Node.dropLoad (n : Node) : Node :=
  let n := { n.reloadShadows with
    supply := { n.supply with sections := [], verified := false, loading := false } }
  (n.setSpec 0 0).each (List.range 16) fun p n => n.phyLost p
/-- One start is counted and recorded: a warm reset with its cause (R75), a wake with its source and the time since (R82). -/
def Node.countStart (n : Node) (r : StartRecord) : Node :=
  match r with
  | .warm cause => (n.count CNT_WARM_RESET).raise 0x0D07 [cause]
  | .wake source raw => (n.count CNT_WAKE).raise 0x0D0B [source, (n.now - raw) / 500000]
/-- Every warm reset and wake still owed is counted and recorded: at the commit, or where recovery or a shutdown comes first. -/
def Node.countStarts (n : Node) : Node :=
  let n := n.each n.supply.owed fun r n => n.countStart r
  { n with supply := { n.supply with owed := [] } }
/-- The recovery state (R68, R71). -/
def Node.enterRecovery (n : Node) : Node :=
  let n := (n.raise 0x0D05 []).countStarts
  let n := { n with supply := { n.supply with recovery := true, warm := false, waking := false } }
  ((n.wr F.PWR_STATUS_START_PHASE 5).addFault .recovery).channelsCut.updateBypass
/-- A load has failed with a reason of R517: the other slot follows, recovery, or for a trial the previous slot (R68, R524). The warm reset
of a trial's fall-back comes first, so that it does not wipe the count. -/
def Node.loadFails (n : Node) (reason : Nat) : Node :=
  let k := n.supply.slot
  let trial := n.slotState k == 3
  let n := ((n.slotRefused k reason).lastErr reason).dropLoad
  if trial then (((n.fallBack 1).wrBit F.PWR_STATUS_FALLBACK true).count CNT_VERIFY_FAIL).raise 0x0D03 [k, reason]
  else
    let n := (((n.count CNT_VERIFY_FAIL).raise 0x0D03 [k, reason])).setSlot k 5
    if n.supply.slotFailed then n.enterRecovery
    else
      let n := { n with supply := { n.supply with slotFailed := true } }
      (n.wrBit F.PWR_STATUS_FALLBACK true).beginLoad (1 - k)

/-- The copy the boot tries: the trial copy, else the preferred one; after a failure the other (R65, R522, R523). -/
def Node.bootCopy (n : Node) : Nat :=
  let first := (n.vault.fwTrial).getD n.vault.fwPreferred
  if n.supply.fwTried = 0 then first else 1 - first
/-- The class P entries come from the store, or take their defaults where neither copy is valid (R475). `aOk` and `bOk`: the CRC-32C of the copies. -/
def Node.takeStore (n : Node) (aOk bOk : Bool) : Node :=
  let kept := n.vnt.kept aOk bOk
  let mark (c : StoreCopy) (ok : Bool) : StoreCopy := { c with valid := c.valid && ok }
  let n := { n with vnt := { n.vnt.takes (kept.getD defaultPersist) with storeA := mark n.vnt.storeA aOk, storeB := mark n.vnt.storeB bOk } }
  if kept.isSome then n.unitCfg else (n.unitCfg.raise 0x0D34 []).addFault .store
/-- The Trellis island leaves reset with the firmware, before the memory test: the paths to the object dictionary lead over its fabric, and identity
entries answer from then on (R72, R139, R140; log entry 63). -/
def Node.releaseFabric (n : Node) : Node := n.setIslands (n.rd F.ISLAND_STATUS_IN_RESET - if n.islandDown 5 then 32 else 0)
/-- The firmware starts: the pair's configuration takes effect at a start-up or wake (R440). -/
def Node.startFirmware (n : Node) (copy svn : Nat) (digest : BitVec 256) (aOk bOk : Bool) : Node :=
  let n := { n with
    supply := { n.supply with firmware := true, halted := false }
    vnt := { n.vnt with fwSvn := svn, fwDigest := digest }
    vault := { n.vault with fwCopy := copy } }
  let n := ((n.extendMeas 1 digest).takeStore aOk bOk).releaseFabric
  n.when (!n.supply.warm) fun n =>
    let unit := n.bit F.UNIT_CFG_UNIT
    let n := { n with pair := { n.pair with enabled := n.bit F.UNIT_CFG_PAIR_EN, actsAs := if unit then 1 else 0 } }
    n.wr F.RED_STATUS_UNIT (if unit then 1 else 0)
/-- FIRMWARE_VERIFIED (R65, R514, R518): the memory test follows at a cold start, the load at once at a warm reset and a wake. In an orderly
shutdown the firmware still starts, to recover and flush the book (R51; log entry 69). -/
def execFirmwareVerified (copy : Fin 2) (edOk mldsaOk : Bool) (svn : Word) (digest : BitVec 256) (storeAOk storeBOk : Bool) (s : State) :
    Host.Outcome State Fault Refusal :=
  let starts : Node → Bool := fun n => n.power == .run || n.power == .shutdown
  s.upd fun n => n.when (starts n && !n.supply.firmware && n.supply.fwTried != 2 && copy.val == n.bootCopy) fun n =>
    if edOk && mldsaOk && decide (n.rollback 0 ≤ svn.toNat) then
      let n := n.startFirmware copy svn.toNat digest storeAOk storeBOk
      if n.power == .shutdown then n
      else if n.supply.warm || n.supply.waking then n.firstLoad else n.wr F.PWR_STATUS_START_PHASE 2
    else { n with supply := { n.supply with fwTried := n.supply.fwTried + 1 } }
/-- MEMORY_TEST_DONE (R69, R70): a power-good whose test the Cellar passes ends its hold (R539). -/
def execMemoryTestDone (failed : List (Fin 16 × Nat)) (s : State) : Host.Outcome State Fault Refusal :=
  s.upd fun n => n.when (n.power == .run && n.rd F.PWR_STATUS_START_PHASE == 2) fun n =>
    let n := { n with maint := { n.maint with cellarHeld := failed.any (·.1.val == 2) } }
    let n := n.each failed fun e n => (n.raise 0x0D06 [e.1, e.2]).addFault (.memory e.1)
    n.firstLoad

/-- The blocks a section's state lies in, as SPEC_STATUS shows them (R63, R84). -/
def sectionBlock : VintageSection → Nat
  | .config b _ => b
  | .signals _ => 8
  | .topologies .. => 4
  | .image .. => 6
  | .dictionary .. => 0xD
  | .firmware .. => 0xD
/-- A section streams into its island: SH fields become shadow values; the rest waits for the commit (R67; log entry 26). -/
def Node.takeSection (n : Node) (sec : VintageSection) : Node :=
  let n := { n with supply := { n.supply with sections := sec :: n.supply.sections } }
  let n := match sec with
    | .config _ ws => n.putShadows (ws.filter fun e => groupOf e.1 != 0)
    | _ => n
  n.setSpec 1 (setBit (n.rd F.SPEC_STATUS_BLOCKS) (sectionBlock sec) true)
/-- A load runs. -/
def Node.streaming (n : Node) : Bool := n.power == .run && n.supply.loading && !n.supply.verified
/-- VINTAGE_SECTION_ARRIVED (R67, R68). -/
def execVintageSectionArrived (sec : VintageSection) (digestOk : Bool) (s : State) : Host.Outcome State Fault Refusal :=
  s.upd fun n => n.when n.streaming fun n => if digestOk then n.takeSection sec else n.loadFails 4
/-- VINTAGE_SIGNATURES_DONE (R67, R513, R517). -/
def execVintageSignaturesDone (why : Option VintageFault) (header : VintageHeader) (s : State) : Host.Outcome State Fault Refusal :=
  s.upd fun n => n.when n.streaming fun n =>
    let n := (n.setSlotHeader n.supply.slot header).extendMeas 2 header.digest
    match n.vintageRefusal why header with
    | some r => n.loadFails r
    | none => { n with supply := { n.supply with verified := true } }

/-! ### The commit of a Vintage (R67, R72, R74, R82, R232) -/

/-- What a section leaves beside its SH fields: immediate fields, initial values, topologies, images. -/
def Node.loadSection (n : Node) (sec : VintageSection) : Node :=
  match sec with
  | .config _ ws => n.each (ws.filter fun e => groupOf e.1 == 0) fun e n => n.loadWord e.1 e.2
  | .signals vs => { n with blend := { n.blend with
      initial := SMap.setAll (fun _ => 0#64) n.blend.initial (vs.map fun e => (e.1.val, e.2.1))
      initialFmt := SMap.setAll (fun _ => false) n.blend.initialFmt (vs.map fun e => (e.1.val, e.2.2)) } }
  | .topologies start known variants devices vid outside => { n with ina := { n.ina with
      start := start, known := known, variants := variants, devices := devices, backboneVid := vid, outside := outside } }
  | .image id version svn digest code configs =>
    { n with images := n.images.filter (·.id != id.toNat) ++ [⟨id.toNat, version.toNat, svn.toNat, digest, code, configs⟩] }
  | .dictionary map peers => { n with vnt := { n.vnt with
      t15Map := SMap.setAll (fun _ => none) [] (map.map fun e => (e.1.val, some (e.2.1.toNat, e.2.2.toNat)))
      peers := SMap.setAll (fun _ => 0#32) [] (peers.map fun e => (e.1.val + 2, e.2)) } }
  | .firmware _ _ => n
/-- The start shape is the committed topology (R232). -/
def Node.startTopology (n : Node) : Node :=
  let t := n.startShape
  let n := { n with ina := { n.ina with
    committed := t, table := t, first := true, netBase := n.cf F.NET_BASE_BASE, netShift := n.cf F.ADDR_FMT_SUBNET_SHIFT } }
  let n := n.wr F.VARIANT_AVAIL n.ina.variants.length
  let n := n.wr F.TRL_STATUS_TOPO_TAG n.ina.start
  let n := ((n.wr F.INA_STATUS_CONSISTS 1).wr F.INA_STATUS_OWN_NO 1).wrBit F.INA_STATUS_ORIENT (n.ownOrient t)
  let n := match n.ina.known.find? (·.tag == n.ina.start) with
    | some k =>
      let b := fillBank k t
      ((n.resetConfig fun a => groupOf a == 0x21).putForces b).putShadows b
    | none => n
  n.writeDirectory t
/-- The slot reached: it stays on trial, with its timer started, or is the confirmed one (R522, R524). -/
def Node.reachSlot (n : Node) : Node :=
  let k := n.supply.slot
  let h := n.slotHeader k
  let n := { n with vnt := { n.vnt with vintageVersion := h.version, vintageDigest := h.digest, compat := h.compat } }
  if n.slotState k = 3 then
    Node.wr { n with vault := { n.vault with trialSince := some n.runMillis } } F.TRIAL_LEFT (n.cf F.SEC_CFG_TRIAL_S)
  else n.setSlot k 4
/-- Milliseconds from power-good, wake or the warm-reset cause (R84). Event 0x0D02 carries the same time after a warm reset or a wake too, where R67
names power-good and R85 only a time (DESIGN CHOICE, log entry 71). -/
def Node.bootMs (n : Node) : Nat := (n.now - n.supply.startRaw) / 500000
/-- Every commit group takes its loaded values (R100); the banks of groups 0x10 and 0x80 are copied (R135, R349). -/
def Node.applyLoad (n : Node) : Node :=
  let n := n.each n.supply.sections.reverse fun x n => n.loadSection x
  let n := { n.forceShadows with
    supply := { n.supply with sections := [], verified := false, loading := false } }
  (n.each groups fun g n => n.groupTaken g).each [0x10, 0x80] fun g n => n.copying g
/-- The blocks start with their configuration in force. -/
def Node.startBlocks (n : Node) : Node :=
  let n := (((n.loadStatic).initSignals.startTopology).reactivate).loadWaiting
  let n := n.showAllDirections
  (((n.startDomain 0).startDomain 1).clockApplied.chooseSource).followModes
/-- The Trellis starts on local time (R107, R111), with the base cycle that the commit begins; not where its memory failed (R70). -/
def Node.startTrellis (n : Node) : Node :=
  let n := n.wr F.BREAK_US n.breakUs
  n.when (!n.blockFailed 1) fun n =>
    let n := ((n.wrBit F.TRL_STATUS_RUNNING true).wr F.TRL_STATUS_PHASE_STATE 0).raise 0x0108 []
    n.newCycle (n.indexAt n.scheduleNs)
/-- The commit (R62, R67): START_PHASE, the blocks, the role, the relays, the Trellis, event 0x0D02. -/
def Node.commitVintage (n : Node) : Node :=
  let n := (n.applyLoad.outputsApplied n).reachSlot
  let n := n.wrBit F.TIME_STATUS_RUNNING true
  let n := ((n.wr F.PWR_STATUS_START_PHASE 4).wr F.BOOT_TIME_COMMIT_MS (min n.bootMs 0xFFFF)).setSpec 0 0
  let n := { n with pins := { n.pins with statOk := true } }
  let n := n.startBlocks.startTrellis
  let n := (n.when (n.bit F.RED_STATUS_RACK_UP) Node.checkCompat).startRole.startInaug.updateBypass
  let n := n.each [0, 1, 2, 3] fun p n => n.when (!n.inLine p && (n.port p).usable) (·.phyLost p)
  let n := { n with supply := { n.supply with hotStop := false } }
  n.raise 0x0D02 [n.supply.slot, n.bootMs]
/-- A verified Vintage waits for its boundary. -/
def Node.commitReady (n : Node) : Bool := n.power == .run && n.supply.verified
/-- START_UP_COMMIT (R67, R69). -/
def execStartUpCommit (s : State) : Host.Outcome State Fault Refusal :=
  s.upd fun n => n.when (n.commitReady && !n.supply.warm && !n.supply.waking) Node.commitVintage
/-- WARM_RESET_COMMIT (R74, R75). -/
def execWarmResetCommit (s : State) : Host.Outcome State Fault Refusal :=
  s.upd fun n => n.when (n.commitReady && n.supply.warm) fun n =>
    let n := n.commitVintage.countStarts
    { n with supply := { n.supply with warm := false } }
/-- WAKE_RUN_START (R82). -/
def execWakeRunStart (s : State) : Host.Outcome State Fault Refusal :=
  s.upd fun n => n.when (n.commitReady && n.supply.waking) fun n =>
    let n := n.commitVintage.countStarts
    { n with supply := { n.supply with waking := false } }

end Sys2Proof.Machine
end

