-- ==== Sys2Proof/Machine/Power.lean ====
section
/-! DEFINITION. Supply supervision, orderly shutdown, power-good, sensors and the persistent store (file 02 R30, R42 to R55; file 03 R64, R69;
file 17 R468 to R475). -/

namespace Sys2Proof.Machine

/-! ### Orderly shutdown (R50, R51) -/

/-- Codes of the causes, which the spec names and does not number. -/
def shutdownCode : ShutdownCause → Nat
  | .overvoltage => 0
  | .dipTimeout => 1
  | .interruption => 2
  | .reserve => 3
  | .thermal => 4
/-- Orderly shutdown begins: steps 1 to 5 of R51. A second cause changes nothing. After a thermal one the node stays off, unless VBATT lies below
4.5 V already (R30). -/
def Node.beginShutdown (n : Node) (cause : ShutdownCause) : Node :=
  n.when n.canRestart fun n =>
    let n := { n with pins := { n.pins with pwrwarn := true, statOk := false } }
    let n := (n.resign 1).channelsCut
    let n := { n with
      power := .shutdown
      supply := { n.supply with
        cause := some cause, hotStop := n.supply.hotStop || cause == ShutdownCause.thermal
        heatLock := cause == ShutdownCause.thermal && !n.supply.interruption
        dormStep := 0, dormAbort := false } }
    let n := (n.wr F.PWR_STATUS_PWR_STATE 4).stopTrellis.updateBypass
    (((n.dropSession.countStarts).count CNT_SUPPLY_SHUTDOWN).raise 0x0D23 [shutdownCode cause]).flushReady
/-- VBATT has fallen below 4.5 V, or WAKE_IN_N is asserted: the node can start again after a thermal shutdown (R30). -/
def Node.freeHeat (n : Node) : Node := { n with supply := { n.supply with heatLock := false } }
/-- Neither on nor on its way to start: what R30 says of a thermal shutdown applies from its beginning. -/
def Node.ends (n : Node) : Bool := n.power == .off || n.power == .shutdown
/-- SHUTDOWN_POWER_DOWN: step 6 of R51. -/
def execShutdownPowerDown (s : State) : Host.Outcome State Fault Refusal :=
  s.upd fun n => n.when (n.power == .shutdown) Node.cold

/-! ### VBATT and HOLDUP (R44 to R49) -/

/-- VBATT and HOLDUP as the Vintner's sensors last read them (R468), in mV. -/
def Node.seeBatt (n : Node) (mv : Half) : Node := n.when n.powered (·.wr F.VBATT_MV mv.toNat)
def Node.seeHoldup (n : Node) (mv : Half) : Node := n.when n.powered (·.wr F.HOLDUP_MV mv.toNat)
/-- The baseplate's reading in 0.125 °C (R468). -/
def Node.seeBase (n : Node) (t : Half) : Node := n.wr F.BASE_T t.toNat
/-- VBATT_OVERVOLTAGE (R44). -/
def execVbattOvervoltage (mv : Half) (s : State) : Host.Outcome State Fault Refusal := s.upd fun n => (n.seeBatt mv).beginShutdown .overvoltage
/-- OVERVOLTAGE_TIMEOUT (R44). -/
def execOvervoltageTimeout (mv : Half) (s : State) : Host.Outcome State Fault Refusal := s.upd fun n => (n.seeBatt mv).beginShutdown .overvoltage
/-- A dip or an interruption begins while HOLDUP is not ready (R49). -/
def Node.holdupCheck (n : Node) : Node :=
  n.when (!n.bit F.PWR_STATUS_HOLDUP_RDY) fun n => (n.count CNT_HOLDUP_LOW).raise 0x0D24 []
/-- DIP_START (R46, R49). R55 names no content for event 0x0D20: it carries the reading of VBATT (DESIGN CHOICE, log entry 73). -/
def execDipStart (mv : Half) (s : State) : Host.Outcome State Fault Refusal :=
  s.upd fun n => n.when (n.powered && !n.supply.dip) fun n =>
    let n := { n with supply := { n.supply with dip := true } }
    ((n.seeBatt mv).raise 0x0D20 [mv.toNat]).holdupCheck
/-- The dip timer is reset (R46). -/
def Node.endDip (n : Node) : Node := { n with supply := { n.supply with dip := false } }
/-- DIP_END (R46): only a dip that ends before 250 ms counts. -/
def execDipEnd (ms lowestMv : Nat) (mv : Half) (s : State) : Host.Outcome State Fault Refusal :=
  s.upd fun n => n.when (n.powered && n.supply.dip) fun n =>
    (n.seeBatt mv).endDip.when (decide (ms < 250)) fun n => (n.count CNT_DIP).raise 0x0D21 [ms, lowestMv]
/-- DIP_TIMEOUT (R46): the timer has reached 250 ms, and this dip no longer counts. -/
def execDipTimeout (s : State) : Host.Outcome State Fault Refusal :=
  s.upd fun n => n.when n.supply.dip fun n => (n.beginShutdown .dipTimeout).endDip
/-- An interruption begins, or is over. -/
def Node.interrupted (n : Node) (b : Bool) : Node := { n with supply := { n.supply with interruption := b } }
/-- INTERRUPTION_START (R30, R48, R49): a fall below 4.5 V releases a node that is off, or shutting down, from a thermal stop. -/
def execInterruptionStart (mv : Half) (s : State) : Host.Outcome State Fault Refusal :=
  s.upd fun n =>
    (n.when n.ends Node.freeHeat).when (n.powered && !n.supply.interruption) fun n => ((n.interrupted true).seeBatt mv).holdupCheck
/-- INTERRUPTION_RIDDEN_THROUGH (R48): it counts where the node continues, and so not in an orderly shutdown. -/
def execInterruptionRiddenThrough (mv : Half) (s : State) : Host.Outcome State Fault Refusal :=
  s.upd fun n => n.when (n.powered && n.supply.interruption) fun n =>
    ((n.interrupted false).seeBatt mv).when (n.power != .shutdown) fun n => (n.count CNT_INTERRUPT).raise 0x0D22 []
/-- INTERRUPTION_WINDOW_EXPIRY (R48): what follows is no interruption that is ridden through. -/
def execInterruptionWindowExpiry (s : State) : Host.Outcome State Fault Refusal :=
  s.upd fun n => n.when n.supply.interruption fun n => (n.beginShutdown .interruption).interrupted false
/-- HOLDUP_READY (R49). -/
def execHoldupReady (mv : Half) (s : State) : Host.Outcome State Fault Refusal :=
  s.upd fun n => n.when n.powered fun n => (n.wrBit F.PWR_STATUS_HOLDUP_RDY true).seeHoldup mv
/-- HOLDUP_NOT_READY (R49). -/
def execHoldupNotReady (mv : Half) (s : State) : Host.Outcome State Fault Refusal :=
  s.upd fun n => n.when n.powered fun n => (n.wrBit F.PWR_STATUS_HOLDUP_RDY false).seeHoldup mv
/-- HOLDUP_RESERVE (R49). -/
def execHoldupReserve (mv : Half) (s : State) : Host.Outcome State Fault Refusal :=
  s.upd fun n => n.when n.powered fun n => (n.seeHoldup mv).beginShutdown .reserve

/-! ### Temperatures and rails (R30, R469, R470) -/

/-- A start after a thermal shutdown goes on only while the baseplate reads 80 °C or less; a reading above ends it (R30). -/
def Node.checkHeat (n : Node) : Node :=
  n.when (n.power == .run && n.supply.hotStop && (640#16).slt (BitVec.ofNat 16 (n.rd F.BASE_T))) fun n =>
    (n.raise 0x0D26 []).beginShutdown .thermal
/-- BASEPLATE_88C (R30): a command is an excursion. -/
def execBaseplate88c (t : Half) (s : State) : Host.Outcome State Fault Refusal :=
  s.upd fun n => n.when n.powered fun n => ((n.seeBase t).raise 0x0D25 []).checkHeat
/-- BASEPLATE_95C (R30). -/
def execBaseplate95c (t : Half) (s : State) : Host.Outcome State Fault Refusal :=
  s.upd fun n => n.when n.powered fun n => ((n.seeBase t).checkHeat).beginShutdown .thermal
/-- A die sensor reads `t` in 0.125 °C (R469). Below 125 °C it holds no fault. -/
def Node.seeDie (n : Node) (sensor : Fin 8) (t : Half) : Node :=
  (n.wr (F.DIE_T.at sensor) t.toNat).when (t.slt 1000#16) (·.dropFault (.die sensor))
/-- DIE_TEMP_HIGH (R469): `from115` says that the excursion above 115 °C begins with it. -/
def execDieTempHigh (sensor : Fin 8) (t : Half) (from115 : Bool) (s : State) : Host.Outcome State Fault Refusal :=
  s.upd fun n => n.when n.powered fun n =>
    let n := n.seeDie sensor t
    let n := n.when (from115 && (919#16).slt t) (·.raise 0x0D30 [sensor])
    n.when ((999#16).slt t && !n.faults.contains (.die sensor)) fun n => (n.raise 0x0D31 [sensor]).addFault (.die sensor)
/-- DIE_TEMP_NORMAL (R469). -/
def execDieTempNormal (sensor : Fin 8) (t : Half) (s : State) : Host.Outcome State Fault Refusal :=
  s.upd fun n => (n.when n.powered (·.wr (F.DIE_T.at sensor) t.toNat)).dropFault (.die sensor)
/-- RAIL_EXCURSION (R470). -/
def execRailExcursion (rail : Fin 12) (mv : Half) (high : Bool) (s : State) : Host.Outcome State Fault Refusal :=
  s.upd fun n => n.when n.powered fun n =>
    let n := ((n.wr (F.RAIL_MV.at rail) mv.toNat).wrBit (F.RAIL_HIGH.at rail) high).wrBit (F.RAIL_LOW.at rail) (!high)
    ((n.count CNT_RAIL_EXC).raise 0x0D32 [rail, mv.toNat]).addFault (.rail rail)
/-- RAIL_RECOVERED (R470). -/
def execRailRecovered (rail : Fin 12) (mv : Half) (s : State) : Host.Outcome State Fault Refusal :=
  s.upd fun n => n.when n.powered fun n =>
    (((n.wr (F.RAIL_MV.at rail) mv.toNat).wrBit (F.RAIL_HIGH.at rail) false).wrBit (F.RAIL_LOW.at rail) false).dropFault (.rail rail)

/-! ### Power-good (R42, R45, R64, R69) -/

/-- A trial that a power-good ends: the slot can be activated again (R524, cause 5). -/
def Node.trialLost (n : Node) : Node :=
  match n.slotIn 3 with
  | none => n
  | some k =>
    let n := { n with vault := { n.vault with fwTrial := none, trialSince := none } }
    (((n.setSlot k 2).wr F.TRIAL_LEFT 0).count CNT_SEC_FALLBACK).raise 0x0F06 [5]
/-- A start from a node without running islands: the Vintner, the output island and the wake island leave reset (R64, R82). -/
def Node.startIslands (n : Node) (pcie : Bool) : Node :=
  let n := (n.cold).timeRestart
  let n := { n with power := .run, supply := { n.supply with pcie := pcie, lost := [] } }
  ((n.setIslands 0xFF).startMeasures).updateBypass
/-- POWER_GOOD (R30, R42, R64, R69). -/
def execPowerGood (hostSelHigh : Bool) (baseplate : Half) (s : State) : Host.Outcome State Fault Refusal :=
  s.upd fun n => n.when (n.power == .off && !n.supply.heatLock) fun n =>
    let n := (n.startIslands hostSelHigh).raise 0x0D01 [0]
    (n.trialLost.seeBase baseplate).checkHeat
/-- HOST_BRIDGE_RELEASE (R69, R82). -/
def execHostBridgeRelease (s : State) : Host.Outcome State Fault Refusal :=
  s.upd fun n => n.when (n.power == .run && n.host.inReset) fun n =>
    n.releaseBridge.when (n.rd F.PWR_STATUS_START_PHASE == 0) (·.wr F.PWR_STATUS_START_PHASE 1)

/-! ### The persistent store (R475, R490) -/

/-- The class P values in force, as a store write writes them with its own count (R475, R490). -/
def Node.persistNow (n : Node) : Persist :=
  ⟨n.bit F.UNIT_CFG_PAIR_EN, n.bit F.UNIT_CFG_UNIT, n.vnt.uuid, n.vnt.unit0Mac, n.vnt.storeWrites + 1⟩
/-- The class P values of a store write that restores every entry to its default: the lifetime count and the address learned go on (R181, R490). -/
def Node.persistNext (n : Node) : Persist :=
  if n.vnt.restoreDue then { defaultPersist with unit0Mac := n.vnt.unit0Mac, writes := n.vnt.storeWrites + 1 } else n.persistNow
/-- The older copy is copy A: a copy that is not valid is the older one (R475). -/
def Vintner.olderIsA (v : Vintner) : Bool := !v.storeA.valid || (v.storeB.valid && decide (v.storeA.seq ≤ v.storeB.seq))
/-- A copy after a write of the store: the next sequence number, or not valid where the write failed. -/
def Vintner.written (v : Vintner) (toA ok : Bool) (p : Persist) : Vintner :=
  let c : StoreCopy := ⟨p, max v.storeA.seq v.storeB.seq + 1, ok⟩
  if toA then { v with storeA := c } else { v with storeB := c }
/-- A write of one copy; event 0x0D35 records each that fails (R475). -/
def Node.writeCopy (n : Node) (toA ok : Bool) (p : Persist) : Node :=
  let n := { n with vnt := n.vnt.written toA ok p }
  n.when (!ok) (·.raise 0x0D35 [])
/-- The store holds what it was to take: its values are in force, and the accesses that waited for it complete. -/
def Node.storeKept (n : Node) (p : Persist) : Node :=
  let waits := n.vnt.restores
  let n := { n with vnt := { n.vnt.takes p with storeDue := false, restoreDue := false, restores := [] } }
  let n := (n.wrBit F.UNIT_CFG_PAIR_EN p.pairEn).wrBit F.UNIT_CFG_UNIT p.unit
  n.each waits fun w n => (n.setAsk w.ask).odEnd w.path w.irq 0 0 false
/-- Neither copy could be written: the accesses that wait end with abort 0x10, and change nothing (R475, R477). -/
def Node.storeLost (n : Node) : Node :=
  let waits := n.vnt.restores
  let n := { n with vnt := { n.vnt with restoreDue := false, restores := [] } }
  n.each waits fun w n => (n.setAsk w.ask).odEnd w.path w.irq 0x10 0 false
/-- PERSISTENT_STORE_WRITE (R475): the older copy first, the other where that fails. Changes that neither copy has taken wait for the next write
(log entry 91). -/
def execPersistentStoreWrite (copyAOk copyBOk : Bool) (s : State) : Host.Outcome State Fault Refusal :=
  s.upd fun n => n.when (n.powered && n.supply.firmware && !n.supply.halted && n.vnt.storeDue) fun n =>
    let p := n.persistNext
    let a := n.vnt.olderIsA
    let first := if a then copyAOk else copyBOk
    let second := if a then copyBOk else copyAOk
    let n := n.writeCopy a first p
    if first then n.storeKept p
    else
      let n := n.writeCopy (!a) second p
      if second then n.storeKept p else n.storeLost

end Sys2Proof.Machine
end

