-- ==== Sys2Proof/Machine/Dormancy.lean ====
section
/-! DEFINITION. Dormancy and waking (file 03 R78 to R83; file 02 R54; file 07 R200; file 16 R461). -/

namespace Sys2Proof.Machine

/-! ### The conditions of R78 -/

/-- Condition 4 of R78: a unit of a pair is active, and its partner has reported within the last base cycle that its own conditions hold (R461). -/
def Node.roleOk (n : Node) : Bool :=
  !n.pair.enabled || (n.pairActive && n.pair.partnerDormOk && decide (2 * (n.now - n.pair.partnerDormAt) ≤ SchedBank.baseNs n.cf) &&
    n.bit F.RED_STATUS_RACK_UP)
/-- DORM_STATUS as it reads (R84). -/
def Node.dormStatus (n : Node) : Word :=
  let b (k : Nat) (x : Bool) : Nat := if x then 2 ^ k else 0
  BitVec.ofNat 32 (n.rd F.DORM_STATUS_REFUSE * 256 + b 5 n.trialOk + b 4 n.wakeOk + b 3 n.roleOk + b 2 (n.noneOn && n.noneLocked) +
    b 1 n.permitOk + b 0 n.tolOk)
/-- The first failing condition, by its code (R78, R84). -/
def Node.dormRefusal (n : Node) : Option Nat :=
  if !n.tolOk then some 1
  else if !n.permitOk then some 2
  else if !n.noneOn then some 3
  else if !n.noneLocked then some 4
  else if !n.roleOk then some 5
  else if !n.wakeOk then some 6
  else if !n.trialOk then some 8
  else none

/-! ### Entry (R79, R461) -/

/-- Step 1 of the entry. -/
def Node.dormAccept (n : Node) : Node :=
  let n := { n with
    power := .dormEntry
    supply := { n.supply with dormStep := 1, dormAbort := false } }
  (n.wr F.PWR_STATUS_PWR_STATE 2).wr F.DORM_STATUS_REFUSE 0
/-- A Dormancy request (R78). R78 tests no start-up phase, so a request is accepted before the first commit and in the recovery state too; a load and
its commit then wait until a wake ends the entry (DESIGN CHOICE, log entry 74). -/
def Node.dormRequest (n : Node) : Node :=
  n.when (n.power == .run) fun n =>
    match n.dormRefusal with
    | some c => ((n.wr F.DORM_STATUS_REFUSE c).count CNT_DORM_REFUSED).raise 0x0D09 [c]
    | none => n.dormAccept.when n.pairActive (·.emit (.rack .dormEnter))
/-- DORM_CTRL_ENTER (R78). -/
def execDormCtrlEnter (s : State) : Host.Outcome State Fault Refusal :=
  s.upd fun n => n.when (n.powered && !n.islandDown 8) Node.dormRequest
/-- The entry stands at a step and no wake has aborted it. -/
def Node.dormAt (n : Node) (k : Nat) : Bool := n.power == .dormEntry && n.supply.dormStep == k && !n.supply.dormAbort
def Node.dormGo (n : Node) (k : Nat) : Node := { n with supply := { n.supply with dormStep := k } }
/-- DORMANCY_ENTRY_START: step 2 of R79. -/
def execDormancyEntryStart (s : State) : Host.Outcome State Fault Refusal :=
  s.upd fun n => n.when (n.dormAt 1) fun n => ((n.dormGo 2).stopTrellis).channelsCut
/-- DORMANCY_RECORD_FLUSH: step 3 of R79; an update session ends (R521). -/
def execDormancyRecordFlush (s : State) : Host.Outcome State Fault Refusal :=
  s.upd fun n => n.when (n.dormAt 2) fun n => (((n.dormGo 3).raise 0x0D08 []).dropSession).flushReady
/-- DORMANCY_BYPASS_RELEASE: step 4 of R79. -/
def execDormancyBypassRelease (s : State) : Host.Outcome State Fault Refusal :=
  s.upd fun n => n.when (n.dormAt 3) fun n => (n.dormGo 4).updateBypass
/-- DORMANCY_POINT_OF_NO_RETURN: step 5 of R79. The active unit has kept the Cork until here (R461). -/
def execDormancyPointOfNoReturn (s : State) : Host.Outcome State Fault Refusal :=
  s.upd fun n => n.when (n.dormAt 4) fun n =>
    let n := n.dormGo 5
    let n := { n with supply := { n.supply with armed := (n.word F.WAKE_CFG_IN_EN.addr).toNat % 32 } }
    n.setHold false

/-! ### Waking (R54, R80 to R83, R200) -/

/-- A wake starts the node from a source, by the bits of WAKE_SRC (R82). -/
def Node.startWake (n : Node) (source : Nat) : Node :=
  let held := n.faults.filter fun f => match f with
    | .memory _ => true
    | _ => false
  let lost := n.lostNow
  let n := n.startIslands n.supply.pcie
  let n := n.each lost fun m n => n.wrBit (F.MBOX_LOST.at m) true
  let n := { n with faults := held, supply := { n.supply with waking := true, owed := [.wake source n.supply.startRaw] } }
  let n := (n.wr F.PWR_STATUS_START_PHASE 1).wr F.PWR_STATUS_LAST_RESET 4
  n.putWord F.WAKE_SRC_IN.addr (BitVec.ofNat 32 source)
/-- A wake aborts the entry up to step 4; Run resumes at the next base-cycle boundary (R80). -/
def Node.abortEntry (n : Node) : Node :=
  let n := (n.wr F.DORM_STATUS_REFUSE 7).raise 0x0D0A []
  { n with supply := { n.supply with dormAbort := true } }
/-- A wake event in the running entry: it aborts up to step 4, and is latched from step 5 on (R80), to wait for VBATT as in Dormancy (R54). -/
def Node.wakeInEntry (n : Node) (source mv : Nat) : Node :=
  if 5 ≤ n.supply.dormStep then
    n.when n.supply.latchedWake.isNone fun n =>
      { n with supply := { n.supply with latchedWake := some (source + 32), wakeWaitsSupply := decide (mv < 18000) } }
  else
    n.when (!n.supply.dormAbort) fun n => n.abortEntry.when n.pair.enabled (·.emit (.rack .dormAbort))
/-- A wake event in Dormancy: at once with VBATT at 18.0 V or more, otherwise latched (R54). The first source counts (R81). -/
def Node.wakeInDormancy (n : Node) (source mv : Nat) : Node :=
  n.when n.supply.latchedWake.isNone fun n =>
    if 18000 ≤ mv then n.startWake source
    else { n with supply := { n.supply with latchedWake := some source, wakeWaitsSupply := true } }
/-- WAKE_IN_ASSERT (R30, R80, R81): it also releases an unpowered node from a thermal stop. -/
def execWakeInAssert (vbattMv : Nat) (s : State) : Host.Outcome State Fault Refusal :=
  s.upd fun n =>
    let armed := n.supply.armed / 16 % 2 == 1
    if n.ends then n.freeHeat
    else if n.power == .dormancy then n.when armed (·.wakeInDormancy 16 vbattMv)
    else n.when (n.power == .dormEntry && (if 5 ≤ n.supply.dormStep then armed else n.bit F.WAKE_CFG_IN_EN)) (·.wakeInEntry 16 vbattMv)
/-- WAKE_PATTERN_MATCH (R81, R200): the detectors are armed from step 5 on; `samples` are the energy samples at 32 kHz since then. -/
def execWakePatternMatch (port : Fin 4) (samples : List Bool) (vbattMv : Nat) (s : State) : Host.Outcome State Fault Refusal :=
  s.upd fun n => n.when (n.supply.armed / 2 ^ port.val % 2 == 1 && wakeDetected samples.length samples) fun n =>
    if n.power == .dormancy then n.wakeInDormancy (2 ^ port.val) vbattMv
    else n.when (n.power == .dormEntry) (·.wakeInEntry (2 ^ port.val) vbattMv)
/-- In Dormancy a latched wake that does not wait for VBATT starts the node (R54, R80). -/
def Node.wakeNow (n : Node) : Node :=
  match n.supply.latchedWake with
  | some w => n.when (!n.supply.wakeWaitsSupply) (·.startWake w)
  | none => n
/-- DORMANCY_REACHED: step 6 of R79; a wake latched in the entry starts at once (R80), or waits for VBATT (R54). A memory that has failed stays
known until a start with a memory test (R70). -/
def execDormancyReached (s : State) : Host.Outcome State Fault Refusal :=
  s.upd fun n => n.when (n.dormAt 5) fun n =>
    let old := n
    let n := n.cold
    let n := { n with
      power := .dormancy
      faults := old.faults.filter fun f => match f with
        | .memory _ => true
        | _ => false
      supply := { n.supply with
        armed := old.supply.armed, pcie := old.supply.pcie, latchedWake := old.supply.latchedWake
        wakeWaitsSupply := old.supply.wakeWaitsSupply } }
    n.wakeNow
/-- WAKE_SUPPLY_GOOD (R54): before Dormancy is reached the latched wake then waits for nothing but step 6. -/
def execWakeSupplyGood (s : State) : Host.Outcome State Fault Refusal :=
  s.upd fun n => n.when n.supply.wakeWaitsSupply fun n =>
    let n := { n with supply := { n.supply with wakeWaitsSupply := false } }
    n.when (n.power == .dormancy) Node.wakeNow
/-- DORMANCY_LOST (R54). -/
def execDormancyLost (s : State) : Host.Outcome State Fault Refusal :=
  s.upd fun n => n.when (n.power == .dormancy) Node.cold

/-! ### The partner (R461) -/

/-- RACK_CONTROL_WORD (R441, R446, R460, R461): the standby unit enters with the active one, and a wake on either aborts both. -/
def execRackControlWord (word : RackControl) (s : State) : Host.Outcome State Fault Refusal :=
  s.upd fun n => n.when (n.bit F.RED_STATUS_RACK_UP) fun n =>
    match word with
    | .dormEnter => n.when (n.standby && n.power == .run) Node.dormAccept
    | .dormAbort =>
      n.when (n.power == .dormEntry && decide (n.supply.dormStep < 5) && !n.supply.dormAbort) Node.abortEntry
    | w => n.controlWord w

end Sys2Proof.Machine
end

