-- ==== Sys2Proof/Machine/Update.lean ====
section
/-! DEFINITION. The update, key and attestation commands of the object dictionary's paths and of UPD_CMD (file 19 R511, R512, R521, R528). -/

namespace Sys2Proof.Machine

/-- A step on a path: turned away, or carried out, which ends the object-dictionary access. The refusals of R521 and R525 end it without
an abort, since R477 names none for them. -/
def Node.updStep (n : Node) (p : Path) (index : Nat) (f : Node → Node) : Node :=
  n.when (n.powered && !n.islandDown 8) fun n =>
    let n := n.setAsk ⟨p, 2, false, index, if index = 0x2F00 then 2 else 0, 0, false⟩
    match n.updDenied p with
    | some a => n.when (p != .register) (·.odEnd p false a 0 false)
    | none => (f n).when (p != .register) (·.odEnd p false 0 0 false)
/-- UPD_OPEN (R521). -/
def execUpdOpen (path : Path) (key : Half) (slotB : Bool) (s : State) : Host.Outcome State Fault Refusal :=
  s.upd fun n => n.when (path != .register || key == updKey) (·.updStep path 0x2F00 (·.updOpen path (if slotB then 1 else 0)))
/-- UPD_CHUNK (R521, R529): the register path takes its bytes from the chunk buffer and its offset from UPD_NEXT. -/
def execUpdChunk (path : Path) (ofs : Nat) (bytes : List Byte) (s : State) : Host.Outcome State Fault Refusal :=
  s.upd (·.updStep path 0x2F10 fun n => if path = .register then n.chunkGo bytes.length else n.updWrite path ofs bytes)
/-- UPD_FINISH (R521): over the slot of the session. -/
def execUpdFinish (path : Path) (key : Half) (_slotB : Bool) (s : State) : Host.Outcome State Fault Refusal :=
  s.upd fun n => n.when (path != .register || key == updKey) (·.updStep path 0x2F00 (·.updFinish path))
/-- UPD_ABORT (R521): the session's slot. -/
def execUpdAbort (path : Path) (key : Half) (_slotB : Bool) (s : State) : Host.Outcome State Fault Refusal :=
  s.upd fun n => n.when (path != .register || key == updKey) (·.updStep path 0x2F00 (·.updAbort path))
/-- OWNER_CHANGE_RECORD (R511). -/
def execOwnerChangeRecord (path : Path) (signer slot : Fin 4) (key : Option (BitVec 256)) (counter : Nat) (edOk mldsaOk : Bool)
    (s : State) : Host.Outcome State Fault Refusal :=
  s.upd fun n => n.when (n.powered && !n.islandDown 8) fun n =>
    let n := n.setAsk ⟨path, 2, false, 0x2F21, 0, 0, false⟩
    if n.roleOf path < 2 then n.odEnd path false 5 0 false
    else if n.standby then n.odEnd path false 0xC 0 false
    else (n.ownerChange ⟨signer, slot, key, counter, edOk, mldsaOk⟩).odEnd path false 0 0 false
/-- ROLE_KEY_WRITE (R476, R477, R512): the vendor key never changes. -/
def execRoleKeyWrite (path : Path) (role : Fin 4) (keyValue : BitVec 256) (s : State) : Host.Outcome State Fault Refusal :=
  s.upd fun n => n.when (n.powered && !n.islandDown 8) fun n =>
    let n := n.setAsk ⟨path, 2, false, 0x2F20, 2, 32, false⟩
    if n.roleKeyDenied path role then n.odEnd path false 5 0 false
    else if n.standby then n.odEnd path false 0xC 0 false
    else if role.val = 0 ∨ 2 < role.val then n.odEnd path false 7 0 false
    else (n.setRoleKey role keyValue).odEnd path false 0 0 false

/-- ATTEST_NONCE_WRITE (R476, R528). -/
def execAttestNonceWrite (path : Path) (nonce : BitVec 256) (s : State) : Host.Outcome State Fault Refusal :=
  s.upd fun n => n.when (n.powered && !n.islandDown 8) fun n =>
    let n := n.setAsk ⟨path, 2, false, 0x2F30, 1, 32, false⟩
    if n.standby then n.odEnd path false 0xC 0 false else (n.startQuote nonce).odEnd path false 0 0 false
/-- ATTEST_QUOTE_READ (R528): the first segment of the quote, or abort 0x0F. -/
def execAttestQuoteRead (path : Path) (s : State) : Host.Outcome State Fault Refusal :=
  s.upd fun n => n.when (n.powered && !n.islandDown 8) fun n =>
    let n := n.setAsk ⟨path, 1, false, 0x2F30, 2, 0, false⟩
    match n.quoteReady with
    | some b => n.odSend path 0x2F30 2 false b
    | none => n.odEnd path false 0xF 0 false

end Sys2Proof.Machine
end

