-- ==== Sys2Proof/Machine/Trial.lean ====
section
/-! DEFINITION. Trials of a Vintage slot: activation, confirmation and fall-back (file 19 R519, R522 to R524), and the Press faults that can
end one (file 10 R292). -/

namespace Sys2Proof.Machine

/-! ### Activation (R516, R522) -/

/-- An update step on a path may be carried out. -/
def Node.updOpenTo (n : Node) (p : Path) : Bool := n.powered && !n.islandDown 8 && (n.updDenied p).isNone
/-- The firmware section of the Vintage in a slot: its place in the NOR and its length. -/
def Node.firmwareSection (n : Node) (k : Nat) : Option (Nat × Nat) :=
  ((n.secEntries k).find? fun e => e.1 == 1).map fun e => (slotBase k + e.2.2.1, min e.2.2.2.1 0x800000)
/-- A slot's firmware goes to the copy not in force, which is marked as trial, where it differs from the one in force. -/
def Node.trialFirmware (n : Node) (k : Nat) : Node :=
  match (n.slotHeader k).fwDigest with
  | none => n
  | some d =>
    n.when (d != n.vnt.fwDigest) fun n =>
      let other := 1 - n.vault.fwCopy
      let n := match n.firmwareSection k with
        | some (a, len) => n.putBytes (norBase + 0x800000 * other) (n.bytes a len)
        | none => n
      { n with vault := { n.vault with fwTrial := some other } }
/-- ACTIVATE (R521, R522, R525). -/
def Node.activateSlot (n : Node) (k : Nat) : Node :=
  if n.vault.session.isSome then n.lastErr 0x11
  else
    n.when (n.slotState k == 2 && (n.slotIn 3).isNone && n.canRestart) fun n =>
      (((n.trialFirmware k).setSlot k 3).raise 0x0F04 [k]).warmReset 5
/-- UPD_ACTIVATE (R522): the access is complete before the reset. -/
def execUpdActivate (path : Path) (key : Half) (slotB : Bool) (s : State) : Host.Outcome State Fault Refusal :=
  s.upd fun n => n.when (path != .register || key == updKey) fun n =>
    (n.updStep path 0x2F00 id).when (n.updOpenTo path) (·.activateSlot (if slotB then 1 else 0))

/-! ### Confirmation (R519, R523) -/

/-- A slot whose security versions lie below the counters can no longer be loaded (R523). -/
def Node.checkOld (n : Node) (k : Nat) : Node := n.when (!n.svnsOk (n.slotHeader k)) fun n => (n.setSlot k 5).lastErr 5
/-- CONFIRM. -/
def Node.confirmTrial (n : Node) : Node :=
  match n.slotIn 3, n.vault.trialSince with
  | some k, some _ =>
    let old := n.slotIn 4
    let n := n.setSlot k 4
    let n := n.when (n.slotState (1 - k) == 4) (·.setSlot (1 - k) 2)
    let n := { n with vault := { n.vault with
      fwPreferred := (n.vault.fwTrial).getD n.vault.fwPreferred
      fwTrial := none
      trialSince := none } }
    let n := (n.wr F.TRIAL_LEFT 0).raise 0x0F05 [k]
    let n := n.each (headerSvns (n.slotHeader k)) fun e n => n.raiseCounter e.1 e.2
    match old with
    | some o => n.checkOld o
    | none => n
  | _, _ => n
/-- UPD_CONFIRM (R521, R523): the slot on trial. -/
def execUpdConfirm (path : Path) (key : Half) (_slotB : Bool) (s : State) : Host.Outcome State Fault Refusal :=
  s.upd fun n => n.when (path != .register || key == updKey) (·.updStep path 0x2F00 Node.confirmTrial)
/-- TRIAL_TIMER_EXPIRY (R524, cause 2). -/
def execTrialTimerExpiry (s : State) : Host.Outcome State Fault Refusal :=
  s.upd fun n => n.when n.vault.trialSince.isSome (·.fallBack 2)
/-- TRIAL_LEFT as it reads: the seconds of Run left (R522). -/
def Node.trialLeft (n : Node) : Nat :=
  match n.vault.trialSince with
  | some t => n.rd F.TRIAL_LEFT - (n.runMillis - t) / 1000
  | none => 0

/-! ### Press faults (R292, R524) -/

/-- A Press that a fault has left failed ends a trial (R524, cause 4). -/
def Node.trialPress (n : Node) (p : Nat) : Node := n.when (n.faults.contains (.press p)) (·.fallBack 4)
/-- PRESS_FAULT (R292), `lateNs` after the window of a running cycle has closed: a Press that is loading or in test fails it; the result word of
the test that an SRAM error ends is a free value. A corrected error is only counted (R270). -/
def execPressFault (press : Fin 16) (cause : PressFaultCause) (lateNs : Nat) (s : State) : Host.Outcome State Fault Refusal :=
  s.upd fun n => n.when (n.powered && !n.islandDown 3) fun n =>
    let code := match cause with
      | .imageException => 4
      | _ => 3
    let st := n.pressState press
    if cause = .sramCorrected then n.count (CNT_SRAM_CORR press)
    else if st = 2 then (n.pressFault press code lateNs).trialPress press
    else if st = 1 then n.when (code == 3) fun n => (n.verifyFails press).loadWaiting
    else n.when (st == 4 && code == 3) fun n => (n.selfTestFails press [(n.free 16).toNat]).took
/-- PRESS_CYCLE_WATCHDOG (R292). -/
def execPressCycleWatchdog (press : Fin 16) (lateNs : Nat) (s : State) : Host.Outcome State Fault Refusal :=
  s.upd fun n => n.when (n.pressRuns press) fun n => (n.pressFault press 5 lateNs).trialPress press

end Sys2Proof.Machine
end

