-- ==== Sys2Proof/Machine/Maint.lean ====
section
/-! DEFINITION. Loopbacks, the maintenance stop and boundary scan (file 20 R537 to R541). -/

namespace Sys2Proof.Machine

/-! ### The maintenance stop (R538) -/

/-- Key of MSTOP_CMD (R541). -/
def mstopKey : Half := 0x5C71#16
/-- Why a request for the stop is refused (R538). -/
def Node.mstopRefusal (n : Node) : Option Nat :=
  if n.pairActive then some 1
  else if n.power != .run then some 2
  else if decide (n.rd F.PWR_STATUS_START_PHASE < 4) || n.supply.loading || n.vault.verifying.isSome then some 3
  else none
/-- A request for the stop. -/
def Node.mstopEnter (n : Node) : Node :=
  n.when (!n.maint.stopped && !n.maint.requested) fun n =>
    match n.mstopRefusal with
    | some c => (n.wr F.MSTOP_STATUS_REFUSE c).raise 0x0022 [c]
    | none => Node.wr { n with maint := { n.maint with requested := true } } F.MSTOP_STATUS_PHASE 1
/-- MSTOP_CMD_ENTER (R538, R541). -/
def execMstopCmdEnter (by_ : Initiator) (key : Half) (s : State) : Host.Outcome State Fault Refusal :=
  s.upd fun n => n.access by_ 0 fun n => n.when (key == mstopKey) Node.mstopEnter

/-- A topology commit that is decided is refused and dropped, with every speculative state (R235, R538). -/
def Node.stopTopology (n : Node) : Node :=
  let pending := n.ina.decided.isSome
  let any := pending || n.ina.spec.isSome || n.ina.recomputing.isSome
  let n := n.when pending fun n => (n.setCode 0x21 8).refused 0x21 8
  n.when any fun n =>
    let n := { n.freeLees with ina := { n.freeLees.ina with decided := none, recomputing := none } }
    (n.endSpec).raise 0x0403 [4]
/-- MSTOP_ENTRY (R538): the five steps, in one clock. -/
def execMstopEntry (s : State) : Host.Outcome State Fault Refusal :=
  s.upd fun n => n.when (n.maint.requested && n.power == .run) fun n =>
    let n := (n.refuseAll 8).stopTopology
    let n := { n with maint := { n.maint with requested := false, stopped := true } }
    let n := n.stopTrellis.updateBypass
    let n := n.each (List.range 16) fun p n =>
      n.when ([1, 2, 4].contains (n.pressState p)) (·.stopPress p 1 0)
    let n := n.when n.standby (·.wrBit F.RED_STATUS_RACK_UP false)
    (n.raise 0x0020 []).wr F.MSTOP_STATUS_PHASE 2

/-! ### The memory test and the exit (R539) -/

/-- The words of the tested memories: schedule, Blend table, signal store and CAN message buffers. -/
def testedWord (a : Nat) : Bool :=
  groupOf a == 0x10 || groupOf a == 0x80 || (decide (0x2000000 ≤ a) && decide (a < 0x2200000)) ||
    (decide (0x38000000 ≤ a) && decide (a < 0x38200000)) || (decide (0x740000 ≤ a) && decide (a < 0x750000))
/-- The tested bytes: Press SRAM and dataset memory. -/
def testedByte (a : Nat) : Bool := inRam a
/-- The contents of the tested memories have been destroyed. What has not been written since then reads as a free value. -/
def Node.wiped (n : Node) : Bool := n.maint.stopped && n.rd F.MSTOP_STATUS_PHASE == 3
/-- The test destroys what the memories held. -/
def Node.wipe (n : Node) : Node :=
  let n := (n.resetWords testedWord).resetConfig testedWord
  let n := n.keepBytes fun a => !testedByte a
  let n := n.each (List.range 16) fun p n => n.setPress p fun s => { s with sram := [] }
  { n with cellar := { n.cellar with copies := [], sending := [], sendEnd := [], lees := [], releasing := 0 } }
/-- The Cellar's result: Casks return to service, or those that failed are retired, and more than 64 put it on hold. -/
def Node.cellarResult (n : Node) (ok : Bool) (bad : List Nat) : Node :=
  if ok then
    let n := { n with
      maint := { n.maint with cellarHeld := false }
      cellar := { n.cellar with retired := [] } }
    ((n.wr F.SWC_STATUS_RETIRED 0).dropFault .casks).dropFault (.memory 2)
  else
    let k := bad.eraseDups.length
    let n := { n with cellar := { n.cellar with retired := bad.eraseDups.take 64 } }
    let n := n.wr F.SWC_STATUS_RETIRED (min k 64)
    let n := n.when (decide (64 ≤ k)) fun n => (n.raise 0x0203 []).addFault .casks
    n.when (decide (64 < k)) fun n => Node.addFault { n with maint := { n.maint with cellarHeld := true } } (.memory 2)
/-- MSTOP_MEMTEST_DONE (R539). -/
def execMstopMemtestDone (failed : List (Fin 16 × Nat)) (badCasks : List Nat) (s : State) : Host.Outcome State Fault Refusal :=
  s.upd fun n => n.when (n.maint.stopped && n.rd F.MSTOP_STATUS_PHASE == 2) fun n =>
    let n := n.wipe
    let n := n.each failed fun e n => n.raise 0x0021 [e.1, e.2]
    let mask := failed.foldl (fun m e => setBit m e.1 true) 0
    let n := (n.wr F.MSTOP_STATUS_FAIL_BLOCKS mask).wr F.MTEST_ADDR ((failed.head?.map (·.2)).getD 0)
    (n.cellarResult (!failed.any (·.1.val == 2) && badCasks.isEmpty) badCasks).wr F.MSTOP_STATUS_PHASE 3
/-- The exit is a warm reset by command. -/
def Node.mstopExit (n : Node) : Node := n.when n.maint.stopped (·.warmReset 1)
/-- MSTOP_CMD_EXIT (R539, R541). -/
def execMstopCmdExit (by_ : Initiator) (key : Half) (s : State) : Host.Outcome State Fault Refusal :=
  s.upd fun n => n.access by_ 0 fun n => n.when (key == mstopKey) Node.mstopExit

/-! ### Loopbacks (R537) -/

/-- A port that R537 does not let loop. -/
def Node.loopRefused (n : Node) (p : Nat) : Bool :=
  n.portMode F.PORT_MODE_MODE p == 0 || (n.dedicated p).isSome || (n.pair.enabled && n.cf F.PAIR_CFG_PAIR_PORT == p)
/-- Frames of a loopback, and the bytes of each (R541). -/
def loopFrames (v : Word) : Nat := 1000 * 10 ^ F.LOOP_CMD_COUNT_SEL.get v
def Node.loopLen (n : Node) (p : Nat) (v : Word) : Nat := [64, 512, 1518].getD (F.LOOP_CMD_LEN_SEL.get v) (n.cf (F.MAX_FRAME.at p))
/-- A loopback of a port starts; MODE other than 1 does nothing. -/
def Node.loopGo (n : Node) (p : Nat) (v : Word) : Node :=
  n.when (F.LOOP_CMD_MODE.get v == 1 && !n.bit (F.LOOP_RESULT_BUSY.at p)) fun n =>
    if n.loopRefused p then n.raise 0x0022 [p]
    else
      let n := (n.linkGone p (SchedBank.baseNs n.cf)).setPort p fun s => { s with loopback := true, loopCount := loopFrames v }
      let n := n.emit (.pattern p (portMac p) (loopFrames v) (n.loopLen p v))
      (n.putWord (F.LOOP_RESULT_BUSY.at p).addr (BitVec.ofNat 32 (2 ^ 31))).putWord (F.LOOP_BAD.at p).addr 0#32
/-- A loopback ends: the port trains afresh. No more frames return than were sent. -/
def Node.loopEnd (n : Node) (p ok bad : Nat) (aborted : Bool) : Node :=
  let ok := min ok (n.port p).loopCount
  let bad := min bad ((n.port p).loopCount - ok)
  let n := n.setPort p fun s => { s with loopback := false }
  let n := ((n.wrBit (F.LOOP_RESULT_BUSY.at p) false).wrBit (F.LOOP_RESULT_DONE.at p) true).wrBit (F.LOOP_RESULT_ABORTED.at p) aborted
  let n := (n.wr (F.LOOP_RESULT_OK.at p) ok).wr (F.LOOP_BAD.at p) bad
  (n.raise 0x0023 [p, n.rd (F.LOOP_RESULT_OK.at p), n.rd (F.LOOP_BAD.at p)]).when (decide (14 ≤ p)) (·.followMode p)
/-- STOP: how many frames had returned by then is the line's, so both counts are free values. -/
def Node.loopStop (n : Node) (p : Nat) : Node :=
  n.when (n.bit (F.LOOP_RESULT_BUSY.at p)) fun n =>
    let ok := (n.free 20).toNat
    let bad := (n.took.free 20).toNat
    n.took.took.loopEnd p ok bad true
/-- LOOP_CMD_GO (R537, R541). -/
def execLoopCmdGo (by_ : Initiator) (port : Fin 16) (v : Word) (s : State) : Host.Outcome State Fault Refusal :=
  s.upd fun n => n.access by_ 0 (·.loopGo port v)
/-- LOOP_CMD_STOP (R537, R541). -/
def execLoopCmdStop (by_ : Initiator) (port : Fin 16) (s : State) : Host.Outcome State Fault Refusal :=
  s.upd fun n => n.access by_ 0 (·.loopStop port)
/-- LOOPBACK_DONE (R537). -/
def execLoopbackDone (port : Fin 16) (ok bad : Nat) (s : State) : Host.Outcome State Fault Refusal :=
  s.upd fun n => n.when (n.bit (F.LOOP_RESULT_BUSY.at port)) (·.loopEnd port ok bad false)

/-! ### Boundary scan (R540) -/

/-- What IDCODE reads (R540). -/
def idcodeWord : Word := 0xB9640C6B#32
/-- TAP_INSTRUCTION (R540). -/
def execTapInstruction (code : TapCode) (s : State) : Host.Outcome State Fault Refusal :=
  s.upd fun n => n.when n.powered fun n =>
    let acts := n.supply.recovery || n.maint.stopped
    let n := n.when (!acts && tapOutside code != code) (·.raise 0x0022 [])
    Node.when { n with maint := { n.maint with tap := if acts then code else tapOutside code } } (code == .idcode) (·.emit (.idcode idcodeWord))

end Sys2Proof.Machine
end

