-- ==== Sys2Proof/Machine/Reads.lean ====
section
/-! DEFINITION. Reads of BAR0 by an initiator: where an address leads, what each word shows, and the latches (R5, R6, R16, R86 to R92,
R112, R140, R142, R173, R237, R243, R350, R356, R396). -/

namespace Sys2Proof.Machine

/-! ### Where an address leads -/

/-- What a BAR0 word belongs to: a register by home address, the mirror of one, a word of the address table view, buffer memory, or nothing. -/
inductive Place where
  | word (a : Nat)
  | mirror (a : Nat)
  | view (entry word : Nat)
  | ram (a : Nat)
  | hole
  deriving DecidableEq, Repr

/-- The fabric target an address lies in (R140, R383). -/
def fabricOf (a : Nat) : Option FabricTarget :=
  if 0x560000 ≤ a ∧ a < 0x580000 then some .datasets
  else if 0x740000 ≤ a ∧ a < 0x750000 then some .canBuffers
  else if 0xB10000 ≤ a ∧ a < 0xB10300 then some .outputs
  else if 0x1000000 ≤ a ∧ a < 0x2000000 then some .odEngine
  else if 0x2000000 ≤ a ∧ a < 0x2200000 then some .signals
  else if 0x3000000 ≤ a ∧ a < 0x3100000 then some .pressImages
  else none
/-- Slot-owner code of an initiator (R139). -/
def initiatorSlot : Initiator → Nat
  | .host => 3
  | _ => 4
/-- An access of an initiator reaches its target: a register block that is out of reset, or, over the fabric, a target whose island is
(R16, R140, R142). -/
def Node.reaches (n : Node) (by_ : Initiator) (a : Nat) : Bool :=
  match fabricOf a with
  | some t => n.ownsSlot (initiatorSlot by_) && !n.islandDown 5 && !n.islandDown (fabricHome t).2.2
  | none => decide (0x1000000 ≤ a) || !n.blockHeld (a / 0x100000)

/-- Home address of an offset of a block's lower half: the paged windows show a page (R112, R350). -/
def Node.homeOf (n : Node) (b o : Nat) : Nat :=
  if b = 1 ∧ 0x40000 ≤ o ∧ o < 0x50000 then 0x10000000 + n.rd F.WIN_PAGE_PAGE * 0x10000 + (o - 0x40000)
  else if b = 8 ∧ 0x20000 ≤ o ∧ o < 0x40000 then 0x20000000 + n.rd F.TBL_PAGE_PAGE * 0x20000 + (o - 0x20000)
  else if b = 8 ∧ 0x40000 ≤ o then 0x38000000 + n.rd F.QA_PAGE_PAGE * 0x40000 + (o - 0x40000)
  else b * 0x100000 + o
/-- Where a word-aligned BAR0 address leads (R87, R88). -/
def Node.place (n : Node) (a : Nat) : Place :=
  if a < 0x1000000 then
    let b := a / 0x100000
    let o := a % 0x80000
    if a % 0x100000 < 0x80000 then
      if b = 5 ∧ 0x60000 ≤ o then .ram (datasetBase + n.rd F.DS_PAGE * 0x20000 + (o - 0x60000))
      else if b = 0xF ∧ 0x10000 ≤ o ∧ o < 0x11000 then .ram a
      else if b = 2 ∧ 0x40000 ≤ o then .view ((o - 0x40000) / 16) (o / 4 % 4)
      else .word (n.homeOf b o)
    else .mirror (n.homeOf b o)
  else if a < 0x1020000 then
    if 0x1000 ≤ a % 0x4000 ∧ a % 0x4000 < 0x2000 then .ram a else .word a
  else if 0x2000000 ≤ a ∧ a < 0x2200000 then .word a
  else if 0x3000000 ≤ a ∧ a < 0x3100000 then .ram a
  else .hole

/-! ### What a word shows -/

/-- A table entry that always reads 0 and ignores writes: VID 0 and 4,095, and event codes whose low byte is 0 (R173, R507). -/
def deadEntry (a : Nat) : Bool :=
  (decide (0x210000 ≤ a) && decide (a < 0x218000) && ((a - 0x210000) / 8 == 0 || (a - 0x210000) / 8 == 4095)) ||
    (decide (0xE20000 ≤ a) && decide (a < 0xE24000) && (a - 0xE20000) / 4 % 256 == 0)
/-- COMMIT of a group with PENDING and DIRTY (R95). -/
def Node.commitWord (n : Node) (g a : Nat) : Word :=
  let pending := match n.phase g with
    | .pending _ => true
    | .slotZero _ => true
    | _ => false
  n.word a + BitVec.ofNat 32 ((if pending then 8 else 0) + (if n.dirty g then 4 else 0))
/-- A word of the address table view (R173). A static entry is never refreshed: its AGE_S is a free value. -/
def Node.viewWord (n : Node) (e w : Nat) : Word :=
  match SMap.get (fun _ => none) n.cellar.table e with
  | none => 0#32
  | some (y : Way) =>
    if w = 0 then y.mac.extractLsb' 0 32
    else if w = 1 then BitVec.ofNat 32 (y.fid * 65536 + y.mac.toNat / 2 ^ 32)
    else if w = 2 then BitVec.ofNat 32 y.ports.toNat
    else if y.isStatic then BitVec.ofNat 32 (3 * 2 ^ 30 + (n.free 12).toNat)
    else BitVec.ofNat 32 (2 ^ 31 + min 4095 ((n.nowUs - y.seenUs) / 1000000))
/-- CBK_STATUS (R507). -/
def Node.cbkStatus (n : Node) : Word :=
  let w := F.CBK_STATUS_QLEVEL.put (n.word 0xE00000) n.book.queue.length
  let w := F.CBK_STATUS_FP_FULL.put w (if n.book.ptrA.fpCount = 16384 then 1 else 0)
  F.CBK_STATUS_FROZEN.put w (if n.book.frozen then 1 else 0)
/-- HBR_STATUS (R406). -/
def Node.hbrStatus (n : Node) : Word :=
  F.HBR_STATUS_DMA_OK.put (F.HBR_STATUS_HP_UP.put (n.word 0xA00000) (if n.hpUp then 1 else 0)) (if n.dmaOk then 1 else 0)
/-- PWR_STATUS (R84). -/
def Node.pwrStatus (n : Node) : Word := F.PWR_STATUS_ACTIVE_SLOT.put (n.word 0xD00000) ((n.slotInForce).getD 0)
/-- A register of a time view that is computed (R355). -/
def Node.viewReg (n : Node) (v o : Nat) : Option Word :=
  let w := n.view v
  let t := n.viewNs v
  if o = 0x08 then some (t.extractLsb' 0 32)
  else if o = 0x0C then some (t.extractLsb' 32 32)
  else if o = 0x10 then some (w.base.extractLsb' 0 32)
  else if o = 0x14 then some (w.base.extractLsb' 32 32)
  else if o = 0x18 then some (w.anchor.extractLsb' 0 32)
  else if o = 0x1C then some (w.anchor.extractLsb' 32 32)
  else if o = 0x20 then some w.rate
  else none
/-- The view, and the offset in it, of a register of the time views. -/
def timeView (a : Nat) : Option (Nat × Nat) :=
  if 0x900100 ≤ a ∧ a < 0x9001C0 then some ((a - 0x900100) / 0x40, (a - 0x900100) % 0x40) else none
/-- Registers whose value the node computes when they are read, by block. -/
def Node.computedGlb (n : Node) (a : Nat) : Option Word :=
  if a = mcCommitAddr then some (n.word a + (if n.mc.isSome then 8#32 else 0#32))
  else if a = 0x20 then some (Config.macBase.extractLsb' 0 32)
  else if a = 0x24 then some (BitVec.ofNat 32 (Config.macBase.toNat / 2 ^ 32))
  else none
/-- Computed registers of the data-path blocks. -/
def Node.computedPath (n : Node) (a : Nat) : Option Word :=
  if a = F.PHASE_ERR_ERR.addr then some (BitVec.ofInt 32 n.phaseNow)
  else if a = F.FREE_F.addr then some (BitVec.ofNat 32 n.freeCasks)
  else if a = F.PHYS_FREE_CASKS.addr then some (BitVec.ofNat 32 n.physFree)
  else if a = F.SNAP_CMD_GO.addr then some 0#32
  else if 0x518000 ≤ a ∧ a < 0x51C000 ∧ a % 16 = 12 then some (BitVec.ofNat 32 (n.flowAge ((a - 0x518000) / 16)))
  else if 0x600300 ≤ a ∧ a < 0x600340 then some (F.PRESS_STATE_AUTO_USED.put (n.word a) (n.autoUsed ((a - 0x600300) / 4)))
  else if a = 0x700000 then some n.canSummary
  else if 0x701000 ≤ a ∧ a < 0x701800 ∧ a % 0x100 = 0x20 then some (n.canStatus ((a - 0x701000) / 0x100))
  else if a = 0x800000 then some (F.BLD_STATUS_RUNNING.put (n.word a) (if n.trellis.running.any (·.action == 3) then 1 else 0))
  else none
/-- Computed registers of the time base, the host bridge and the blocks behind it. -/
def Node.computedVnt (n : Node) (a : Nat) : Option Word :=
  if a = F.RAW_LO.addr then some (n.time.raw.extractLsb' 0 32)
  else if a = F.RAW_HI.addr then some (n.time.raw.extractLsb' 32 32)
  else if a = 0xA00000 then some n.hbrStatus
  else if a = 0xB00000 then some n.outStatus
  else if a = F.CH_CONDUCT.addr then some (BitVec.ofNat 32 n.chConduct)
  else if a = F.CH_LOCKED.addr then some (BitVec.ofNat 32 n.chLocked)
  else if a = 0xD00000 then some n.pwrStatus
  else if a = F.DORM_STATUS_REFUSE.addr then some n.dormStatus
  else if a = 0xE00000 then some n.cbkStatus
  else if a = F.TRIAL_LEFT.addr then some (BitVec.ofNat 32 n.trialLeft)
  else (timeView a).bind fun v => n.viewReg v.1 v.2
/-- DOM_STATUS on a standby unit: its domains' states are its own, as time receivers (R370); RX_PORT is the racked port state (R447). -/
def Node.standbyDomain (n : Node) (a : Nat) : Word := F.DOM_STATUS_STATE.put (n.rackedWord a) (F.DOM_STATUS_STATE.get (n.word a))
/-- The computed value of a register, if it has one. -/
def Node.computed (n : Node) (a : Nat) : Option Word :=
  match commitRegs.find? (·.2 == a) with
  | some (g, _) => some (n.commitWord g a)
  | none =>
    if a < 0x100000 then n.computedGlb a else if a < 0x900000 then n.computedPath a
    else if a < 0x1000000 then n.computedVnt a else none
/-- The bits of a register that are not SH, as they read: the racked word on a standby unit (R448), else computed or stored. -/
def Node.plainWord (n : Node) (a : Nat) : Word :=
  if n.standby && rackedKey a then
    (if a = (F.DOM_STATUS_STATE.at 0).addr ∨ a = (F.DOM_STATUS_STATE.at 1).addr then n.standbyDomain a else n.rackedWord a)
  else (n.computed a).getD (n.word a)
/-- A register's word as it reads at its own offset: SH bits show the shadow (R4, R88). A reserved address reads 0 (R5). -/
def Node.wordNow (n : Node) (a : Nat) : Word :=
  if deadEntry a then 0#32
  else
    match rowOf a with
    | none => 0#32
    | some r => (n.shadowWord a &&& BitVec.ofNat 32 r.sh) ||| (n.plainWord a &&& ~~~(BitVec.ofNat 32 r.sh))
/-- The mirror of a register: the SH bits in force, 0 elsewhere (R88). -/
def Node.mirrorWord (n : Node) (a : Nat) : Word :=
  if deadEntry a then 0#32
  else
    match rowOf a with
    | none => 0#32
    | some r => n.forceWord a &&& BitVec.ofNat 32 r.sh
/-- A register's word in force: what the node runs with (R476). -/
def Node.inForceWord (n : Node) (a : Nat) : Word :=
  match rowOf a with
  | none => 0#32
  | some r => (n.forceWord a &&& BitVec.ofNat 32 r.sh) ||| (n.plainWord a &&& ~~~(BitVec.ofNat 32 r.sh))
/-- A byte of an image window beyond its mapped length (R272). -/
def Node.unmapped (n : Node) (a : Nat) : Bool :=
  decide (0x3000000 ≤ a) && decide (a < 0x3100000) && decide (n.winLen ((a - 0x3000000) / 0x10000) ≤ a % 0x10000)
/-- A word of buffer memory: the racked word on a standby unit, 0 beyond a window. -/
def Node.ramNow (n : Node) (a : Nat) : Word :=
  if n.unmapped a then 0#32 else if n.standby && rackedKey a then n.rackedWord a else n.ramWord a
/-- A word of a wiped memory: the four words of 16 bytes are parts of one free value. -/
def Node.freeAt (n : Node) (a : Nat) : Word := (n.free 128).extractLsb' (32 * (a / 4 % 4)) 32
/-- What a BAR0 word holds, without the effects of a read. A tested memory's contents after the test are free values (R539). -/
def Node.peek (n : Node) (a : Nat) : Word :=
  match n.place a with
  | .hole => 0#32
  | .ram x => if n.wiped && testedByte x then n.freeAt x else n.ramNow x
  | .view e w => n.viewWord e w
  | .mirror x => if n.wiped && testedWord x then n.freeAt x else n.mirrorWord x
  | .word x => if n.wiped && testedWord x then n.freeAt x else n.wordNow x

/-! ### Latches (R91, R173, R237, R356, R396) -/

/-- The row of a home address has this property. -/
def rowHas (a : Nat) (p : RegRow → Bool) : Bool := (rowOf a).any p
/-- The low word, and the high word, of a 64-bit value (R6). A row of two adjacent words holds both. -/
def isLowWord (a : Nat) : Bool := rowHas a fun r => r.lo64 && (r.stride != 4 || r.index a == 0)
def isHighWord (a : Nat) : Bool := decide (4 ≤ a) && isLowWord (a - 4)
/-- Home address of a register or of a mirror. -/
def Place.home : Place → Nat
  | .word a => a
  | .mirror a => a
  | _ => 0
/-- The latching windows: first address, bytes of an entry, length (R173, R237). -/
def latchWindows : List (Nat × Nat × Nat) :=
  [(0x210000, 8, 0x8000), (0x218000, 16, 0x1000), (0x220000, 16, 0x10000), (0x230000, 16, 0x10000), (0x240000, 16, 0x40000),
   (0x290000, 8, 0x8000), (0x298000, 16, 0x1000), (0x2A0000, 16, 0x10000), (0x2B0000, 16, 0x10000), (0x2C0000, 16, 0x40000),
   (0x410000, 16, 0x400), (0x420000, 16, 0x10000)]
/-- The window, the entry and the word of a BAR0 address. -/
def windowOf (a : Nat) : Option (Nat × Nat × Nat) :=
  (latchWindows.find? fun w => decide (w.1 ≤ a) && decide (a < w.1 + w.2.2)).map fun w => (w.1, (a - w.1) / w.2.1, (a - w.1) % w.2.1 / 4)
/-- Key of an initiator's latch of a window. -/
def latchKey (by_ : Initiator) (window : Nat) : Nat := window + initiatorIx by_
/-- The latch of an initiator for a window. -/
def Node.latchOf (n : Node) (by_ : Initiator) (window : Nat) : Option WindowLatch :=
  (n.winLatch.find? (·.1 == latchKey by_ window)).map (·.2)
def Node.setLatch (n : Node) (by_ : Initiator) (window : Nat) (l : Option WindowLatch) : Node :=
  let others := n.winLatch.filter (·.1 != latchKey by_ window)
  { n with winLatch := match l with
      | some l => (latchKey by_ window, l) :: others
      | none => others }
/-- A word of a latch. -/
def latchWord (l : WindowLatch) (w : Nat) : Word := if w = 1 then l.w1 else if w = 2 then l.w2 else l.w3
/-- A write to any word of the latched entry ends the initiator's latch (R173). -/
def Node.endLatch (n : Node) (by_ : Initiator) (a : Nat) : Node :=
  match windowOf a with
  | none => n
  | some (window, e, _) => n.when ((n.latchOf by_ window).any fun (l : WindowLatch) => l.entry == e) (·.setLatch by_ window none)
/-- A read in a latching window. -/
def Node.readWindow (n : Node) (by_ : Initiator) (a window e w : Nat) : Node × Word :=
  if w = 0 then (n.setLatch by_ window (some ⟨e, n.peek (a + 4), n.peek (a + 8), n.peek (a + 12)⟩), n.peek a)
  else
    match n.latchOf by_ window with
    | some l => (n, if l.entry = e then latchWord l w else n.peek a)
    | none => (n, n.peek a)
/-- The high word an initiator last latched, 0 before its first (R91). -/
def Node.highLatched (n : Node) (by_ : Initiator) : Word := SMap.get (fun _ => 0#32) n.hiLatch (initiatorIx by_)
/-- A low-word read latches the high word for the initiator (R6, R91). -/
def Node.latchHigh (n : Node) (by_ : Initiator) (v : Word) : Node :=
  { n with hiLatch := SMap.set (fun _ => 0#32) n.hiLatch (initiatorIx by_) v }
/-- The place shows the value of a 64-bit register: the register itself, or the mirror of one that is SH (R88). -/
def Place.shows (p : Place) : Bool :=
  match p with
  | .mirror a => rowHas a (·.sh != 0)
  | _ => true
/-- The parameters an initiator has latched of a time view. -/
def Node.timeLatched (n : Node) (by_ : Initiator) (v : Nat) : Option TimeLatch := SMap.get (fun _ => none) n.timeLatch (4 * initiatorIx by_ + v)
/-- A read of a register of a time view: TIME_LO latches, and the latched registers show the latch (R356). Before the first TIME_LO read
RATE is live and the 64-bit values follow R6: a low word latches its high word, and a high word shows what was last latched (R91). -/
def Node.readView (n : Node) (by_ : Initiator) (a v o : Nat) : Node × Word :=
  let w := n.view v
  if o = 0x08 then
    let l : TimeLatch := ⟨(n.viewNs v).extractLsb' 32 32, w⟩
    ({ n with timeLatch := SMap.set (fun _ => none) n.timeLatch (4 * initiatorIx by_ + v) (some l) }, n.peek a)
  else
    match n.timeLatched by_ v with
    | some l =>
      (n, if o = 0x0C then l.hi
        else if o = 0x10 then l.view.base.extractLsb' 0 32
        else if o = 0x14 then l.view.base.extractLsb' 32 32
        else if o = 0x18 then l.view.anchor.extractLsb' 0 32
        else if o = 0x1C then l.view.anchor.extractLsb' 32 32
        else if o = 0x20 then l.view.rate else n.peek a)
    | none =>
      if o = 0x10 then (n.latchHigh by_ (w.base.extractLsb' 32 32), w.base.extractLsb' 0 32)
      else if o = 0x18 then (n.latchHigh by_ (w.anchor.extractLsb' 32 32), w.anchor.extractLsb' 0 32)
      else if o = 0x0C ∨ o = 0x14 ∨ o = 0x1C then (n, n.highLatched by_)
      else (n, n.peek a)
/-- Words 1 to 3 of the event entry an initiator has popped (R396). -/
def Node.popWord (n : Node) (by_ : Initiator) (k : Nat) : Word :=
  match SMap.get (fun _ => none) n.host.eqPops (initiatorIx by_) with
  | none => 0#32
  | some (e : EqEntry) => if k = 1 then e.w1 else if k = 2 then e.stamp.extractLsb' 0 32 else e.stamp.extractLsb' 32 32

/-! ### A read of one word -/

/-- The free value that a read returned, or latched, is taken. -/
def Node.tookIfFree (n : Node) (a : Nat) : Node :=
  n.when (match n.place a with
    | .ram x => n.wiped && testedByte x
    | .mirror x => n.wiped && testedWord x
    | .word x => n.wiped && testedWord x
    | .view _ _ => true
    | .hole => false) Node.took
/-- A read of a register or a mirror: RC clears (R92), a low word latches its high word, a high word shows the latch (R91). -/
def Node.readReg (n : Node) (by_ : Initiator) (a : Nat) (p : Place) (sameClock : Bool) : Node × Word :=
  let x := p.home
  let v := n.peek a
  if p = .word 0xA00220 then n.eqPop by_
  else if 0xA00224 ≤ x ∧ x ≤ 0xA0022C ∧ p = .word x then (n, n.popWord by_ ((x - 0xA00220) / 4))
  else if p = .word x ∧ rowHas x (·.rc) then (n.putWord x (if sameClock then 1#32 else 0#32), v)
  else if isHighWord x && p.shows then (n, n.highLatched by_)
  else if isLowWord x && p.shows then (n.latchHigh by_ (n.peek (a + 4)), v)
  else (n, v)
/-- A read of one word that reaches its target (R90). `sameClock` says that an event falls in the clock of a clearing read (R92). -/
def Node.readWord (n : Node) (by_ : Initiator) (a : Nat) (sameClock : Bool) : Node × Word :=
  match windowOf a with
  | some (window, e, w) =>
    let r := n.readWindow by_ a window e w
    (r.1.tookIfFree a, r.2)
  | none =>
    match timeView a with
    | some (v, o) => n.readView by_ a v o
    | none =>
      let r := match n.place a with
        | .word x => n.readReg by_ a (.word x) sameClock
        | .mirror x => n.readReg by_ a (.mirror x) sameClock
        | _ => (n, n.peek a)
      (r.1.tookIfFree a, r.2)
/-- A read of one word by an initiator, and whether it failed: all ones where it does not reach (R16, R389). -/
def Node.fetch (n : Node) (by_ : Initiator) (a : Nat) (sameClock : Bool) : Node × Word × Bool :=
  if n.reaches by_ a then
    let r := n.readWord by_ a sameClock
    (r.1, r.2, false)
  else (n.xabort, 0xFFFFFFFF#32, true)
/-- A read of one word, answered to the initiator. -/
def Node.readReply (n : Node) (by_ : Initiator) (a : Nat) (sameClock : Bool) : Node :=
  if n.cutOff by_ then n
  else
    let r := n.fetch by_ (a / 4 * 4) sameClock
    r.1.emit (.reply (natLe r.2.1.toNat 4))

/-- RC_COUNTER_READ (R92). -/
def execRcCounterRead (by_ : Initiator) (addr : Nat) (sameClock : Bool) (s : State) : Host.Outcome State Fault Refusal :=
  s.upd (·.readReply by_ addr sameClock)
/-- LOW_WORD_READ (R91). -/
def execLowWordRead (by_ : Initiator) (addr : Nat) (s : State) : Host.Outcome State Fault Refusal :=
  s.upd (·.readReply by_ addr false)
/-- TABLE_WORD0_READ (R173, R237). -/
def execTableWord0Read (by_ : Initiator) (addr : Nat) (s : State) : Host.Outcome State Fault Refusal :=
  s.upd (·.readReply by_ addr false)
/-- TIME_LO_READ (R356). -/
def execTimeLoRead (by_ : Initiator) (view : Fin 3) (s : State) : Host.Outcome State Fault Refusal :=
  s.upd (·.readReply by_ (0x900108 + 0x40 * view.val) false)
/-- EQ_POP0_READ (R396). -/
def execEqPop0Read (by_ : Initiator) (s : State) : Host.Outcome State Fault Refusal :=
  s.upd (·.readReply by_ 0xA00220 false)

end Sys2Proof.Machine
end

