-- ==== Sys2Proof/Machine/Writes.lean ====
section
/-! DEFINITION. Writes of BAR0 words by an initiator: what each register does when it is written (R4, R88, R89, R92, R98, R103, R104, R135,
R173, R272, R275, R314, R328, R349, R396, R398, R406, R507, and the command registers of files 04 to 20). -/

namespace Sys2Proof.Machine

/-! ### Plain storage -/

/-- A write to SH bits is discarded: the group is locked (R98), or its bank is being copied (R135, R349). -/
def Node.shadowShut (n : Node) (a : Nat) : Bool :=
  let g := groupOf a
  n.groupLocked g || (g == 0x10 && decide (0x10000000 ≤ a) && n.bit F.TRL_STATUS_TBL_BUSY) || (g == 0x80 && n.bit F.BLD_STATUS_TBL_BUSY)
/-- A word of the schedule's shadow bank that is written has no error left (R137). -/
def Node.mendShadow (n : Node) (a : Nat) : Node :=
  { n with trellis := { n.trellis with shadowBad := n.trellis.shadowBad.filter fun e => 0x10000000 + 16 * e.1 + 4 * e.2 != a } }
/-- A write to a register as its access codes state: RW takes effect, SH goes to the shadow, W1C clears; other bits ignore it (R4). -/
def Node.storeReg (n : Node) (a : Nat) (v : Word) : Node :=
  if deadEntry a then n
  else
    match rowOf a with
    | none => n
    | some r =>
      let n := n.when (r.sh != 0) fun n =>
        if n.shadowShut a then n.count CNT_PARTIAL_WR else (n.putShadow a (mixWord r.sh (n.shadowWord a) v)).mendShadow a
      let n := n.when (r.rw != 0) fun n => n.putWord a (mixWord r.rw (n.word a) v)
      n.when (r.w1c != 0) fun n => n.putWord a (n.word a &&& ~~~(v &&& wordMask r.w1c))
/-- An immediate register and what follows from its write at once: the bypass lines (R189), the persistent store (R475). -/
def Node.storeImmediate (n : Node) (a : Nat) (v : Word) : Node :=
  let n := n.storeReg a v
  if a = 0x300004 then n.updateBypass
  else if a = F.UNIT_CFG_UNIT.addr then { n with vnt := { n.vnt with storeDue := true } }
  else n

/-! ### Command registers -/

/-- Bit `i` of a written word. -/
def on (v : Word) (i : Nat) : Bool := v.getLsbD i
/-- Bits of a written word, as a number. -/
def part (v : Word) (lsb width : Nat) : Nat := (⟨0, lsb, width, 4⟩ : Field).get v
/-- The KEY of a command word is right. -/
def keyed (v : Word) (key : Half) : Bool := v.extractLsb' 16 16 == key
/-- COMMIT of a group: an ABORT in the same write wins over GO (R98). -/
def Node.commitWrite (n : Node) (g : Nat) (v : Word) : Node := if on v 1 then n.groupAbort g else n.when (on v 0) (·.groupGo g)
/-- MC_COMMIT (R99). The validation of a GO by register write is taken to end 10 µs or more before the next base-cycle start. -/
def Node.mcWrite (n : Node) (v : Word) : Node := if on v 1 then n.mcAbort else n.when (on v 0) (·.mcGo 10000)
/-- An operation of UPD_CMD (R521, R529); other codes do nothing. -/
def Node.updOperate (n : Node) (p : Path) (op slot : Nat) : Node :=
  if op = 1 then n.updOpen p slot
  else if op = 2 then n.updFinish p
  else if op = 3 then n.activateSlot slot
  else if op = 4 then n.confirmTrial
  else if op = 5 then n.updAbort p
  else n
/-- OP for a channel (R422). Whether the cause of a shed held over its last interval is what the condition's last evaluation left. -/
def Node.outOperate (n : Node) (c op : Nat) : Node :=
  n.when (decide (c < 24)) fun n => n.clearLock c op
/-- OP of CAN_CMD (R325). -/
def Node.canOperate (n : Node) (c op : Nat) : Node :=
  if op = 1 then n.canRecover c else if op = 2 then n.wrBit (F.CAN_STATUS_IDC.at c) false else n
/-- Command registers of the blocks GLB to BLD. -/
def Node.commandLow (n : Node) (a : Nat) (v : Word) : Node :=
  if a = mcCommitAddr then n.mcWrite v
  else if a = 0x200 then
    n.when (keyed v mstopKey) fun n => (n.when (on v 0) Node.mstopEnter).when (on v 1) Node.mstopExit
  else if 0x240 ≤ a ∧ a < 0x280 then
    let p := (a - 0x240) / 4
    (n.when (on v 31) (·.loopGo p v)).when (on v 30) (·.loopStop p)
  else if a = 0x30000C then n.snapGo v
  else if a = 0x300014 then n.wakeEmit (v.extractLsb' 0 4)
  else if a = 0x50001C then (n.when (on v 31) (·.msgGo (part v 8 8))).when (on v 30) (·.msgPull (part v 16 10))
  else if a = 0x600008 then
    n.when (keyed v pressKey && on v 7 && decide (1 ≤ part v 4 3) && decide (part v 4 3 ≤ 3)) (·.pressCommand (part v 0 4) (part v 4 3))
  else n.when (a == 0x700008 && keyed v canKey && on v 7) (·.canOperate (part v 0 3) (part v 4 3))
/-- Command registers of the blocks HBR to SEC. DORM_CTRL holds PERMIT beside its command. -/
def Node.commandHigh (n : Node) (a : Nat) (v : Word) : Node :=
  if a = 0xA00004 then n.when (keyed v hbrKey && on v 0) Node.hbrReset
  else if a = 0xB00010 then n.when (keyed v outKey && on v 15) (·.outOperate (part v 0 5) (part v 8 3))
  else if a = 0xC00004 then n.when (keyed v redKey && on v 7 && n.running) (·.redCommand (part v 4 3))
  else if a = 0xD00008 then n.when (keyed v resetKey && on v 0) (·.warmReset 1)
  else if a = 0xD00014 then (n.storeReg a v).when (on v 1) Node.dormRequest
  else if a = 0xE00020 then n.when (keyed v cbkKey) (·.cbkCommand (on v 1) (on v 2) (on v 0) [])
  else if a = 0xF00008 then
    n.when (keyed v updKey && on v 7 && (n.updDenied .register).isNone) (·.updOperate .register (part v 4 3) (part v 0 1))
  else n.when (a == 0xF00010 && on v 31 && (n.updDenied .register).isNone) (·.chunkGo (part v 0 13))
/-- Addresses of the command registers beside COMMIT. -/
def isCommand (a : Nat) : Bool :=
  (decide (0x240 ≤ a) && decide (a < 0x280)) ||
    [mcCommitAddr, 0x200, 0x30000C, 0x300014, 0x50001C, 0x600008, 0x700008, 0xA00004, 0xB00010, 0xC00004, 0xD00008, 0xD00014, 0xE00020,
      0xF00008, 0xF00010].contains a

/-! ### Guarded immediate fields (R103, R396, R398, R399, R406) -/

/-- A guarded write that would break a working mechanism. -/
def Node.guardDrop (n : Node) : Node := n.count CNT_RING_WR_DROP
/-- A ring register: ring `k`, its offset. -/
def Node.ringWrite (n : Node) (k o a : Nat) (v : Word) : Node :=
  let live := n.rd (F.RING_CFG_SIZE.at k) != 0
  if o = 0x08 then n.ringCfg k (part v 16 16) (on v 15)
  else if o = 0x14 then n.ringTail k (part v 0 16)
  else if o = 0x00 ∨ o = 0x04 then if live then n.guardDrop else n.storeReg a v
  else if o = 0x0C ∧ k < 4 then
    if live then n.guardDrop
    else if part v 0 15 = 0 then (n.count CNT_ZERO_REFUSED).raise 0x0014 [a]
    else n.wr (F.RING_BUF_SIZE.at k) (bufRounded (part v 0 15))
  else n.storeReg a v
/-- An event-queue register: SIZE_CODE and EQ_BASE are guarded while EN is set, and a moved EQ_HEAD returns space. -/
def Node.eqRegWrite (n : Node) (a : Nat) (v : Word) : Node :=
  let live := n.bit F.EQ_CFG_EN
  if a = F.EQ_CFG_EN.addr then
    let other := live && F.EQ_CFG_SIZE_CODE.get v != n.rd F.EQ_CFG_SIZE_CODE
    let n := if other then n.guardDrop else n.wr F.EQ_CFG_SIZE_CODE (F.EQ_CFG_SIZE_CODE.get v)
    n.wr F.EQ_CFG_EN (F.EQ_CFG_EN.get v)
  else if a = F.EQ_HEAD.addr then
    let moved := F.EQ_HEAD.get v != n.rd F.EQ_HEAD
    let n := { n with host := { n.host with eqFull := n.host.eqFull && !moved } }
    (n.wr F.EQ_HEAD (F.EQ_HEAD.get v)).eqSpace
  else if live then n.guardDrop else n.storeReg a v

/-! ### Words of the data areas -/

/-- The parts of a span, ascending: word, first byte, bytes. -/
def spanParts (a : Nat) (data : List Byte) : List (Nat × Nat × List Byte) :=
  let first := a / 4 * 4
  (List.range ((a + data.length + 3 - first) / 4)).map fun i =>
    let w := first + 4 * i
    let lo := max a w
    (w, lo - w, (data.drop (lo - a)).take (w + 4 - lo))
/-- Old bytes with new ones laid over them from byte `k` on. -/
def laidOver (old : List Byte) (k : Nat) (data : List Byte) : List Byte := (old.take k ++ data ++ old.drop (k + data.length)).take old.length
/-- A word with bytes laid over it from byte `k` on. -/
def overlay (w : Word) (k : Nat) (data : List Byte) : Word := BitVec.ofNat 32 (leNat (laidOver (natLe w.toNat 4) k data))
/-- Bytes that a party other than the owning image writes into CAN message buffers, in one transaction (R314, R315). A Blend job or host software
(`may`) updates a buffer to the bus with what falls on words 2 to 23, as one update, and acknowledges a buffer from the bus by word 1; what else is
written, or by whom else, is discarded and counted, once for each buffer. -/
def Node.bufferBytes (n : Node) (may : Bool) (a : Nat) (bytes : List Byte) : Node :=
  let parts := spanParts a bytes
  n.each ((parts.map fun q => (q.1 - 0x740000) / 128).eraseDups) fun k n =>
    let mine := (parts.filter fun q => (q.1 - 0x740000) / 128 == k).map fun q => (q.1 % 128 / 4, overlay (n.word q.1) q.2.1 q.2.2)
    let toBus := n.bit (F.MB_DIR.at k)
    if !may || mine.any (fun w => (w.1 == 1) == toBus) then n.count (CNT_MB_WR_DROP (k / 64))
    else
      let words := mine.filter fun w => decide (2 ≤ w.1) && decide (w.1 < 24)
      let n := n.when (toBus && !words.isEmpty) (·.mbStore (k / 64) (k % 64) true words)
      n.each (mine.filter fun w => w.1 == 1) fun w n => n.mbAck (k / 64) (k % 64) (w.2.toNat % 65536)
/-- A word of a Press image: OUT_XCHG and the output area; the header and the input area are the Press's own (R272, R275). -/
def Node.imageWrite (n : Node) (a : Nat) (v : Word) : Node :=
  let p := (a - 0x3000000) / 0x10000
  let o := a % 0x10000
  if n.winLen p ≤ o then n
  else if o = 0x10 then n.when (on v 0) (·.outExchange p)
  else if o < n.outArea p then n.count (CNT_IMG_WR_DROP p)
  else n.putRamWord a v

/-! ### A write of one word -/

/-- A register by home address. The mailboxes' command words belong to the object-dictionary server. -/
def Node.writeReg (n : Node) (by_ : Initiator) (a : Nat) (v : Word) : Node :=
  match commitRegs.find? (·.2 == a) with
  | some (g, _) => n.commitWrite g v
  | none =>
    if isCommand a then (if a < 0x900000 then n.commandLow a v else n.commandHigh a v)
    else if 0xA00400 ≤ a ∧ a < 0xA00600 then n.ringWrite ((a - 0xA00400) / 0x40) (a % 0x40) a v
    else if 0xA00200 ≤ a ∧ a ≤ 0xA0020C then n.eqRegWrite a v
    else if 0xB10000 ≤ a ∧ a < 0xB10060 then n.hostCommand ((a - 0xB10000) / 4) v
    else if 0x740000 ≤ a ∧ a < 0x750000 then n.bufferBytes true a (natLe v.toNat 4)
    else if 0x2000000 ≤ a ∧ a < 0x2200000 then
      if a % 8 = 0 then n.setHeld by_ (some ((a - 0x2000000) / 8, v)) else n.signalHigh by_ ((a - 0x2000000) / 8) v
    else n.storeImmediate a v
/-- A write to the high word of a signal, which alone keeps the initiator's held low word (R328). -/
def isSignalHigh (a : Nat) : Bool := decide (0x2000000 ≤ a) && decide (a < 0x2200000) && a % 8 == 4
/-- A write of one word that reaches its target. -/
def Node.writeWord (n : Node) (by_ : Initiator) (a : Nat) (v : Word) : Node :=
  let n := n.endLatch by_ a
  match n.place a with
  | .word x => n.writeReg by_ x v
  | .ram x => if 0x3000000 ≤ x ∧ x < 0x3100000 then n.imageWrite x v else n.putRamWord x v
  | _ => n
/-- A write of one word by an initiator, and whether it failed (R16, R387). One that fails still discards a held low word (R328). -/
def Node.assign (n : Node) (by_ : Initiator) (a : Nat) (v : Word) : Node × Bool :=
  if n.reaches by_ a then ((n.when (!isSignalHigh a) (·.dropHeld by_)).writeWord by_ a v, false) else ((n.dropHeld by_).xabort, true)
/-- A write of one word, where the initiator reaches anything at all. -/
def Node.assignAt (n : Node) (by_ : Initiator) (a : Nat) (v : Word) : Node := if n.cutOff by_ then n else (n.assign by_ a v).1

/-- SIGNAL_LOW_WORD_WRITE (R328). -/
def execSignalLowWordWrite (by_ : Initiator) (signal : Fin 262144) (v : Word) (s : State) : Host.Outcome State Fault Refusal :=
  s.upd (·.assignAt by_ (0x2000000 + 8 * signal.val) v)
/-- SIGNAL_HIGH_WORD_WRITE (R328, R330). -/
def execSignalHighWordWrite (by_ : Initiator) (signal : Fin 262144) (v : Word) (s : State) : Host.Outcome State Fault Refusal :=
  s.upd (·.assignAt by_ (0x2000000 + 8 * signal.val + 4) v)
/-- COMMAND_WORD_WRITE (R412): the staging buffer lies in the Trellis island. -/
def execCommandWordWrite (by_ : Initiator) (ch : Fin 24) (v : Word) (s : State) : Host.Outcome State Fault Refusal :=
  s.upd (·.assignAt by_ (0xB10000 + 4 * ch.val) v)
/-- OUT_XCHG (R274, R272). -/
def execOutXchg (by_ : Initiator) (press : Fin 16) (s : State) : Host.Outcome State Fault Refusal :=
  s.upd (·.assignAt by_ (imageBase press + 0x10) 1#32)
/-- A write narrower than 32 bits to a register: discarded, counted and recorded (R89); and whether it failed. -/
def Node.narrow (n : Node) (by_ : Initiator) (addr : Nat) : Node × Bool :=
  let n := n.dropHeld by_
  if n.reaches by_ addr then ((n.count CNT_PARTIAL_WR).raise 0x0013 [addr], false) else (n.xabort, true)
/-- PARTIAL_WRITE (R89): the data areas behind the fabric, but for the signal store, are no registers; a narrow write there is not this command. -/
def execPartialWrite (by_ : Initiator) (addr _size : Nat) (_v : Half) (s : State) : Host.Outcome State Fault Refusal :=
  s.upd fun n => if n.cutOff by_ then n else (n.narrow by_ addr).1

end Sys2Proof.Machine
end

