-- ==== Sys2Proof/Machine/OdTable.lean ====
section
/-! DEFINITION. The entries of the object dictionary: types, access codes, roles, persistence and what each is backed by (file 17 R471 to
R475, R490, file 01 R10, and the "also OD" notes of the register tables). An entry whose type the spec does not state is UNSIGNED32. -/

namespace Sys2Proof.Machine

/-- What an entry is backed by. -/
inductive OdBack where
  /-- A value the node computes or holds outside the register map. -/
  | bytes (b : List Byte)
  /-- A field of a register that is read only. -/
  | field (f : Field)
  /-- An SH field. -/
  | shadow (f : Field)
  /-- An SH value of two words, low word first. -/
  | shadow64 (lo : Nat)
  /-- An immediate field. -/
  | imm (f : Field)
  /-- A signal (R328). -/
  | signal (k : Nat)
  /-- An entry whose write is an operation, with what a read returns. -/
  | act (b : List Byte)
  deriving DecidableEq, Repr

/-- An entry: type code (R472), access 0 RO, 1 RW, 2 WO, 3 CONST, roles, class 0 V, 1 G, 2 P, 3 F (R484), largest size, backing. -/
structure OdEntry where
  type : Nat
  access : Nat
  readRole : Nat
  writeRole : Nat
  cls : Nat
  size : Nat
  back : OdBack
  deriving DecidableEq, Repr

/-- Size of a fixed-size type (R472). -/
def typeSize (t : Nat) : Option Nat :=
  if t = 1 ∨ t = 2 ∨ t = 5 then some 1
  else if t = 3 ∨ t = 6 then some 2
  else if t = 4 ∨ t = 7 ∨ t = 8 then some 4
  else if t = 0x15 ∨ t = 0x1B ∨ t = 0x11 then some 8
  else if t = 0xC then some 6
  else none
/-- Largest size of a type. -/
def typeMax (t : Nat) : Nat := (typeSize t).getD (if t = 9 then 255 else if t = 0xA then 1024 else 67108864)

/-- A register as one field. -/
def whole (a : Nat) : Field := ⟨a, 0, 32, 4⟩
/-- Entries with the default roles, by kind. -/
def odRo (t : Nat) (f : Field) : OdEntry := ⟨t, 0, 1, 2, 0, typeMax t, .field f⟩
def odSh (t : Nat) (f : Field) : OdEntry := ⟨t, 1, 1, 2, 1, typeMax t, .shadow f⟩
def odSh64 (a : Nat) : OdEntry := ⟨0x1B, 1, 1, 2, 1, 8, .shadow64 a⟩
def odImm (f : Field) : OdEntry := ⟨7, 1, 1, 2, 0, 4, .imm f⟩
def odWo (t size : Nat) : OdEntry := ⟨t, 2, 1, 2, 0, size, .act []⟩
def odVal (t : Nat) (b : List Byte) : OdEntry := ⟨t, 0, 1, 2, 0, typeMax t, .bytes b⟩
/-- A constant of manufacture. -/
def odConst (t : Nat) (b : List Byte) : OdEntry := ⟨t, 3, 0, 2, 3, typeMax t, .bytes b⟩
/-- The same entry with public reads, and with the maintainer as read role. -/
def OdEntry.open_ (e : OdEntry) : OdEntry := { e with readRole := 0 }
def OdEntry.closed (e : OdEntry) : OdEntry := { e with readRole := 2 }
/-- The bytes of a text. -/
def textBytes (s : String) : List Byte := s.toList.map fun c => BitVec.ofNat 8 c.toNat

/-- Records of an area of the book. -/
def Node.areaCount (n : Node) (last : Bool) : Nat :=
  if last then (if n.book.ptrA.lpWraps = 0 then n.book.ptrA.lpHead else 98304) else n.book.first.length
/-- The records of an area of the book, oldest first (R506). One that cannot be read is all ones (R501). -/
def Node.areaBytes (n : Node) (last : Bool) : List Byte :=
  (List.range (n.areaCount last)).flatMap fun i =>
    match n.book.at last i with
    | some r => if n.book.bad last i then List.replicate 64 0xFF#8 else r.bytes
    | none => List.replicate 64 0#8
/-- The error register, OD 0x1001: fault and temperature; the spec does not say when its supply and communication bits are set (R469, R490). -/
def Node.errorRegister (n : Node) : Byte :=
  let hot := n.faults.any fun c => match c with
    | .die _ => true
    | _ => false
  BitVec.ofNat 8 ((if n.statFault then 1 else 0) + (n.free 2).toNat % 2 * 2 + (if hot then 4 else 0) + (n.free 2).toNat / 2 * 16)
/-- A rate in bit/s from a prescaler and a bit time in quanta (R305). -/
def canRate (brp quanta : Nat) : List Byte := natLe (80000000 / (brp * quanta)) 4

/-! ### The indices -/

/-- Identity and communication entries (R490). -/
def Node.odIdentity (n : Node) (index : Nat) : Option (List (Nat × OdEntry)) :=
  if index = 0x1000 then some [(0, odConst 7 (natLe 0x4B589640 4))]
  else if index = 0x1001 then some [(0, (odVal 5 [n.errorRegister]).open_)]
  else if index = 0x1008 then some [(0, odConst 9 (textBytes "KX9640"))]
  else if index = 0x1009 then some [(0, odConst 9 (textBytes "B1"))]
  else if index = 0x100A then some [(0, (odVal 9 (Config.firmwareVersion n.vnt.fwDigest)).open_)]
  else if index = 0x1018 then
    some [(1, odConst 7 (natLe 0x1F9C 4)), (2, odConst 7 (natLe 0x9640 4)), (3, odConst 7 (natLe 0xB1 4)),
      (4, odConst 7 (natLe Config.serialNumber.toNat 4))]
  else if index = 0x1020 then some [(1, ⟨0xA, 1, 1, 2, 2, 16, .act n.vnt.uuid⟩)]
  else if index = 0x1030 then
    some [(1, (odRo 7 F.RUN_S).open_), (2, (odRo 6 F.RUN_MS).open_), (3, (odRo 7 F.PCC).open_)]
  else if index = 0x1040 then
    some [(1, (odVal 5 (natLe ((n.slotInForce).getD 0) 1)).open_), (2, (odVal 7 (natLe n.vnt.vintageVersion.toNat 4)).open_),
      (3, { (odVal 0xA (digestBytes n.vnt.vintageDigest)).open_ with size := 32 }), (4, (odVal 7 (natLe n.vnt.compat.toNat 4)).open_)]
  else if index = 0x1050 then some [(1, odConst 0x1B (natLe Config.macBase.toNat 8))]
  else if index = 0x1100 then some [(1, (odSh 5 F.OD_CFG_IDLE_MIN).closed)]
  else if index = 0x1110 then some [(1, (odSh 7 (whole 0xD0004C)).closed)]
  else if index = 0x1120 then some [(1, (odSh 1 F.OD_CFG_MAINT_EN).closed)]
  else if index = 0x1130 then
    some ((1, (odSh 7 F.OD_CFG_REMOTE_EN).closed) :: (List.range 15).map fun k =>
      (k + 2, (⟨7, 1, 2, 2, 1, 4, .act (natLe (SMap.get (fun _ => 0#32) n.vnt.peers (k + 2)).toNat 4)⟩ : OdEntry)))
  else if index = 0x1140 then some [(1, (odSh 7 (whole 0xD00044)).closed), (2, (odSh 6 F.VNT_VID).closed)]
  else if index = 0x1F00 then
    some [(1, ⟨0xA, 0, 0, 0, 0, 16, .act []⟩), (2, ⟨5, 2, 0, 0, 0, 1, .act []⟩), (3, ⟨0xA, 2, 0, 0, 0, 32, .act []⟩),
      (4, ⟨5, 0, 0, 0, 0, 1, .act []⟩)]
  else none
/-- Parameters of the blocks GLB to TIM (R10). -/
def odBlocksLow (index : Nat) : Option (List (Nat × OdEntry)) :=
  if index = 0x2000 then some [(1, odWo 7 4), (2, odRo 7 (whole 0x204))]
  else if index = 0x2100 then
    some [(1, odSh 7 (whole 0x100010)), (2, odSh 7 (whole 0x100014)), (3, odSh 7 (whole 0x100018)), (4, odSh64 0x100020),
      (5, odSh 7 (whole 0x100060)), (6, odSh 7 (whole 0x100064))]
  else if index = 0x2200 then some [(1, odSh 7 (whole 0x200010)), (2, odSh 7 (whole 0x200020)), (3, odSh64 0x200014)]
  else if index = 0x2300 then some [(1, odImm (whole 0x300004))]
  else if 0x2310 ≤ index ∧ index < 0x2323 then
    let a := 0x300100 + 32 * (index - 0x2310)
    let rest := [(2, odSh 7 (whole (a + 4))), (3, odRo 7 (whole (a + 12)))]
    some (if index < 0x2320 then (1, odSh 7 (whole a)) :: rest else rest)
  else if index = 0x2400 then
    some [(1, odSh 7 (whole 0x400010)), (2, odSh 7 (whole 0x400014)), (3, odSh 7 (whole 0x400018)), (4, odRo 7 (whole 0x400004)),
      (5, odRo 7 (whole 0x400000))]
  else if index = 0x2500 then some [(1, odSh 7 (whole 0x50000C)), (2, odSh 7 (whole 0x500014))]
  else if index = 0x2600 then some [(1, odSh 7 (whole 0x600004))]
  else if index = 0x2700 then some [(1, odRo 7 (whole 0x700000))]
  else if index = 0x2800 then some [(1, odRo 7 (whole 0x800004))]
  else none
/-- Parameters of the blocks TIM to SEC. -/
def Node.odBlocksHigh (n : Node) (index : Nat) : Option (List (Nat × OdEntry)) :=
  if index = 0x2900 then
    some [(1, odVal 0x1B (natLe n.activeNs.toNat 8)), (2, odRo 7 F.TIME_STATUS_SOURCE), (3, odSh 7 (whole 0x900004)), (6, odWo 0x1B 8)]
  else if index = 0x2910 then some [(1, odSh 7 (whole 0x900100)), (2, odRo 7 (whole 0x900104))]
  else if index = 0x2911 then some [(1, odSh 7 (whole 0x900140)), (2, odRo 7 (whole 0x900144))]
  else if index = 0x2A00 then some [(1, odSh 7 (whole 0xA00014)), (2, odSh 7 (whole 0xA00018)), (3, odSh 7 (whole 0xA0001C))]
  else if index = 0x2B00 then some [(1, odSh 7 (whole 0xB00014))]
  else if index = 0x2C00 then
    some [(1, { odImm (whole 0xC00008) with cls := 2 }), (2, odSh 7 (whole 0xC00010)), (3, odRo 7 (whole 0xC00000)), (4, odWo 7 4)]
  else if index = 0x2D00 then some [(1, (odRo 7 (whole 0xD00000)).open_)]
  else if index = 0x2D10 then
    some [(1, odImm F.LAT_TOL_TOL_MS), (2, odImm F.DORM_CTRL_PERMIT), (3, odImm (whole 0xD0001C)), (4, odWo 7 4)]
  else if index = 0x2D20 then
    some ((List.range 8).map (fun k => (k + 1, odRo 3 (F.DIE_T.at k))) ++
      [(9, odRo 3 F.BASE_T), (0xA, odRo 6 F.VBATT_MV), (0xB, odRo 6 F.HOLDUP_MV)] ++
      (List.range 12).map fun r => (0xC + r, odRo 6 (F.RAIL_MV.at r)))
  else if index = 0x2D30 then some [(1, odWo 6 2), (2, { odVal 7 (natLe n.vnt.storeWrites 4) with cls := 2 })]
  else if index = 0x2E00 then
    some [(1, odRo 7 (whole 0xE00000)), (2, ⟨1, 1, 1, 2, 0, 1, .act [if n.book.frozenCmd then 1#8 else 0#8]⟩), (3, odSh 7 (whole 0xE00030))]
  else if index = 0x2E10 then some [(0, (odVal 0xF (n.areaBytes false)).closed)]
  else if index = 0x2E11 then some [(0, (odVal 0xF (n.areaBytes true)).closed)]
  else if index = 0x2F00 then some [(1, odRo 7 (whole 0xF00000)), (2, odWo 7 4), (3, odSh 7 (whole 0xF00040))]
  else if index = 0x2F10 then some [(0, odWo 0xF (typeMax 0xF))]
  else if index = 0x2F20 then some [(1, { odWo 5 1 with writeRole := 1 }), (2, { odWo 0xA 32 with writeRole := 1 })]
  else if index = 0x2F21 then some [(0, odWo 0xF (typeMax 0xF))]
  else if index = 0x2F30 then
    some [(1, ⟨0xA, 2, 0, 0, 0, 32, .act []⟩), (2, ⟨0xF, 0, 0, 2, 0, 3757, .act []⟩), (3, odVal 0xF Config.identityCertificate)]
  else none
/-- Entries of which there is one index per instance (R10). On a standby unit the inputs are the racked ones (R476). -/
def Node.odInstances (n : Node) (index : Nat) : Option (List (Nat × OdEntry)) :=
  if 0x5000 ≤ index ∧ index < 0x5400 then
    let i := index - 0x5000
    some [(1, odSh 7 (F.CTX_COM_ID.at i)), (2, odSh 7 (F.CTX_CYCLE.at i)), (3, odSh 7 (F.CTX_TIMEOUT.at i)), (4, odSh 7 (F.CTX_DS_LEN.at i)),
      (5, odRo 7 (whole (0x518004 + 16 * i)))]
  else if 0x5400 ≤ index ∧ index < 0x5500 then
    let k := index - 0x5400
    some [(1, odSh 7 (F.SES_COM_ID.at k)), (2, odSh 7 (F.SES_REPLY_TO.at k))]
  else if 0x5800 ≤ index ∧ index < 0x5810 then
    let p := index - 0x5800
    some [(1, odSh 7 (F.PRESS_CFG_IMAGE.at p)), (2, odSh 7 (F.PRESS_CFG_ROLE.at p)), (3, odRo 7 (whole (0x600300 + 4 * p))),
      (4, odRo 7 (whole (0x600340 + 4 * p))), (5, odWo 5 1)]
  else if 0x5810 ≤ index ∧ index < 0x5818 then
    let c := index - 0x5810
    let nominal := canRate (n.cf (F.NBT_NBRP.at c) + 1) (3 + n.cf (F.NBT_NTSEG1.at c) + n.cf (F.NBT_NTSEG2.at c))
    let fast := canRate (n.cf (F.DBT_DBRP.at c) + 1) (3 + n.cf (F.DBT_DTSEG1.at c) + n.cf (F.DBT_DTSEG2.at c))
    some [(1, odRo 7 (F.CAN_STATUS_STATE.at c)), (2, odRo 7 (F.ERR_CNT_TEC.at c)), (3, odRo 7 (F.ERR_CNT_REC.at c)),
      (4, odVal 7 nominal), (5, odVal 7 fast), (6, odWo 5 1)]
  else if 0x5900 ≤ index ∧ index < 0x5918 then
    let c := index - 0x5900
    some [(1, odSh 7 (whole (0xB00100 + 16 * c))), (2, odSh 7 (whole (0xB00104 + 16 * c))), (3, odSh 7 (F.CH_CFG_I_DECL.at c)),
      (4, odRo 7 (whole (0xB10100 + 8 * c))), (5, odRo 7 (whole (0xB10104 + 8 * c))), (6, odWo 5 1)]
  else if 0x5920 ≤ index ∧ index < 0x5930 then
    let k := index - 0x5920
    let state := if n.standby then (n.rackedWord 0xB10200).getLsbD k else (n.input k).state
    let rises := if n.standby then (n.rackedWord (0xB10208 + 4 * (k / 2))).toNat / 65536 ^ (k % 2) else (n.input k).rises
    some [(1, odSh 7 (whole (0xB00300 + 4 * k))), (2, odVal 1 [if state then 1#8 else 0#8]), (3, odVal 6 (natLe rises 2))]
  else if 0x6000 ≤ index ∧ index < 0x6400 then
    some ((List.range 256).map fun j =>
      let k := 256 * (index - 0x6000) + j
      if n.bit (F.QA_SFMT.at k) then (j, ⟨8, 1, 1, 2, 0, 4, .signal k⟩) else (j, ⟨0x15, 1, 1, 2, 0, 8, .signal k⟩))
  else none

/-- The entries of an index, with its subindex 0 where it is a record (R471). -/
def Node.odRecord (n : Node) (index : Nat) : Option (List (Nat × OdEntry)) :=
  (((n.odIdentity index).orElse fun _ => odBlocksLow index).orElse fun _ => n.odBlocksHigh index).orElse fun _ => n.odInstances index
/-- An entry, or abort 0x01 or 0x02 (R477). -/
def Node.odEntry (n : Node) (index sub : Nat) : Except Nat OdEntry :=
  match n.odRecord index with
  | none => .error 1
  | some l =>
    match l.find? (·.1 == sub) with
    | some (_, e) => .ok e
    | none =>
      let top := (l.map (·.1)).foldl max 0
      if sub = 0 then .ok ⟨5, 3, if index = 0x1F00 then 0 else 1, 2, 3, 1, .bytes [BitVec.ofNat 8 top]⟩ else .error 2

/-- The value in force of a signal, as its format has it (R328, R476). -/
def Node.signalBytes (n : Node) (k size : Nat) : List Byte :=
  (natLe (n.plainWord (0x2000000 + 8 * k)).toNat 4 ++ natLe (n.plainWord (0x2000004 + 8 * k)).toNat 4).take size
/-- The value of an entry in force (R476). -/
def Node.odValue (n : Node) (e : OdEntry) : List Byte :=
  match e.back with
  | .bytes b => b
  | .act b => b
  | .field f => natLe (f.get (n.inForceWord f.addr)) e.size
  | .shadow f => natLe (f.get (n.inForceWord f.addr)) e.size
  | .imm f => natLe (f.get (n.inForceWord f.addr)) e.size
  | .shadow64 lo => natLe ((n.inForceWord lo).toNat + (n.inForceWord (lo + 4)).toNat * 2 ^ 32) 8
  | .signal k => n.signalBytes k e.size
/-- The default of an entry of up to 8 bytes, as a number (R484). -/
def Node.odDefault (n : Node) (e : OdEntry) : Nat :=
  if 8 < e.size then 0
  else
    match e.back with
    | .bytes b => if e.access = 3 then leNat b else 0
    | .act _ => 0
    | .field f => f.get (resetWord f.addr)
    | .shadow f => f.get (resetWord f.addr)
    | .imm f => f.get (resetWord f.addr)
    | .shadow64 lo => (resetWord lo).toNat + (resetWord (lo + 4)).toNat * 2 ^ 32
    | .signal k => (SMap.get (fun _ => 0#64) n.blend.initial k).toNat

end Sys2Proof.Machine
end

