-- ==== Sys2Proof/Machine/Od.lean ====
section
/-! DEFINITION. The object-dictionary server: which paths are open, sessions and authentication, reads, writes, segments and the describe
operation (file 17 R476 to R490, file 04 R102, file 19 R512, R521, R526 to R528). -/

namespace Sys2Proof.Machine

/-! ### Access paths (R467, R480, R484 to R488) -/

/-- Number of the kind of an access path, by which authentication is locked and events name a path. -/
def pathKind : Path → Nat
  | .hostMailbox _ => 0
  | .remoteMailbox _ => 1
  | .trdp _ => 2
  | .sdo _ => 3
  | .type15 _ _ => 4
  | .maint _ => 5
  | .register => 6
/-- The server runs: the firmware has started and the processor has not halted (R65, R465). -/
def Node.serverUp (n : Node) : Bool := n.powered && n.supply.firmware && !n.supply.halted && !n.islandDown 8
/-- A Press runs one of these images. -/
def Node.runsImage (n : Node) (p : Nat) (images : List Nat) : Bool :=
  n.powered && n.pressRuns p && images.contains (n.cf (F.PRESS_CFG_IMAGE.at p))
/-- The path exists and is open for an index. In recovery the maintenance path remains reachable (R71). An SDO server answers the indices of
its own communication profile itself (R486). -/
def Node.pathOpen (n : Node) (p : Path) (index : Nat) : Bool :=
  match p with
  | .hostMailbox _ => true
  | .remoteMailbox _ => n.cf F.VNT_IP != 0 && n.cfBit F.OD_CFG_REMOTE_EN
  | .maint c => decide (c < 4) && (n.cf F.VNT_IP != 0 || n.supply.recovery) && n.cfBit F.OD_CFG_MAINT_EN
  | .trdp _ => n.cf F.OD_COMID != 0
  | .sdo q => n.runsImage q [3, 4] && (index == 0x1F00 || !(decide (0x1000 ≤ index) && decide (index < 0x2000)))
  | .type15 q _ => n.runsImage q [8] && [1, 3].contains (n.cf (F.PRESS_CFG_ROLE.at q))
  | .register => false
/-- The server holds 64 requests of all paths together: those that wait for a commit or a store write are held here (R480). -/
def Node.serverFull (n : Node) : Bool := decide (64 ≤ n.vnt.odCommits.length + n.vnt.restores.length)
/-- A request that the server cannot hold (R480). -/
def Node.odBusy (n : Node) (p : Path) (irq : Bool) : Node := (n.count CNT_OD_BUSY).odAbort p irq 0xF
/-- GO of a mailbox: ignored while BUSY is set (R484). A server that does not run leaves the access in progress. -/
def Node.goBox (n : Node) (m : Nat) (f : Node → Node) : Node :=
  n.when (!n.bit (F.MBOX_BUSY.at m)) fun n =>
    let n := ((n.wrBit (F.MBOX_DONE.at m) false).wrBit (F.MBOX_LOST.at m) false).wrBit (F.MBOX_BUSY.at m) true
    n.when n.serverUp f
/-- A request on a path, which the server takes, or turns away where it holds as many as it can: `full` says that requests which are still on their
way through it fill it (R480). -/
def Node.serveAt (n : Node) (a : OdAsk) (irq full : Bool) (f : Node → Node) : Node :=
  let take (n : Node) : Node := if full || n.serverFull then n.odBusy a.path irq else f n
  match pathBox a.path with
  | some m => n.goBox m take
  | none => n.when n.serverUp fun n => take (n.setAsk a)
/-- An initiator's write to a mailbox crosses the fabric (R140, R383). -/
def Node.atBox (n : Node) (by_ : Initiator) (m : Nat) (f : Node → Node) : Node :=
  if n.cutOff by_ then n
  else
    let n := n.dropHeld by_
    if n.reaches by_ (boxBase m) then f n else n.xabort
/-- A Press's request crosses the fabric in a slot of the Press complex: without one, or while the server's island or the wheel's is in reset, it
completes with an error (R16, R142, R271). -/
def Node.fromPress (n : Node) (f : Node → Node) : Node :=
  if n.ownsSlot 1 && !n.islandDown 5 && !n.islandDown 8 then f n else n.xabort
/-- An image's SDO server takes the request from its receive FIFO, where it still lies there: a standard frame with the COB-ID of the server's
requests (R312, R486). -/
def Node.takeSdoRequest (n : Node) (p : Nat) : Node :=
  n.each (n.cansOf p) fun c n => n.setCan c fun k =>
    match k.rx.findIdx? fun r => !r.frame.ide && !r.frame.rtr && r.frame.id.toNat == sdoRequestId (n.nodeId p) with
    | some i => { k with rx := k.rx.eraseIdx i }
    | none => k
/-- A request that a command puts on a path. -/
def Node.onPath (n : Node) (p : Path) (index : Nat) (f : Node → Node) : Node :=
  n.when (n.pathOpen p index) fun n =>
    match p with
    | .hostMailbox m => n.atBox .host m f
    | .remoteMailbox m => n.atBox .maint (4 + m.val) f
    | .sdo q => (n.takeSdoRequest q).fromPress f
    | .type15 _ _ => n.fromPress f
    | _ => f n
/-- A mailbox holds a segment that its user has filled in (R484). -/
def Node.fillBox (n : Node) (p : Path) (seg : List Byte) : Node :=
  match pathBox p with
  | some m => (n.putBytes (boxData m) seg).wr (F.MBOX_SEGLEN.at m) seg.length
  | none => n
/-- And the total length of the write. -/
def Node.fillTotal (n : Node) (p : Path) (total : Nat) : Node :=
  match pathBox p with
  | some m => n.wr (F.MBOX_TOTAL.at m) total
  | none => n
/-! ### Authentication (R478, R479, R527) -/

/-- The session of a path is over, or returns to public; an update session it owned ends (R479, R521). -/
def Node.lapse (n : Node) (p : Path) : Node :=
  let n := n.publicSession p
  n.when (n.vault.session.any fun (u : UpdSession) => u.path == p) Node.dropSession
/-- A read of OD 0x1F00.01: a fresh challenge, with the role keys as they are now (R478, R512). -/
def Node.giveChallenge (n : Node) (p : Path) (irq : Bool) : Node :=
  let c := n.free 128
  let n := n.took.setSession { n.sessionOf p with challenge := some c, keys := [n.roleKey 1, n.roleKey 2, n.roleKey 3] }
  n.odReply p irq (natLe c.toNat 16) 16 false
/-- A write of a role to OD 0x1F00.02. -/
def Node.askRole (n : Node) (p : Path) (role : Nat) : Node :=
  if role = 0 then n.lapse p else n.setSession { n.sessionOf p with asked := role }
/-- The response that raises a session, and the key it is computed with. -/
def Session.expects (s : Session) : Option (BitVec 256 × BitVec 256) :=
  match s.challenge, s.keys[s.asked - 1]? with
  | some c, some key =>
    if s.asked = 0 then none
    else some (Config.hmac (natLe key.toNat 32) (natLe c.toNat 16 ++ natLe Config.serialNumber.toNat 4 ++ natLe s.asked 1), key)
  | _, _ => none
/-- A failed authentication: three of a path within 60 s lock it (R478). -/
def Node.authFailed (n : Node) (p : Path) : Node :=
  let k := pathKind p
  let n := (n.count CNT_AUTH_FAIL).raise 0x0D41 [k]
  let recent := n.now :: (SMap.get (fun _ => []) n.vnt.authFails k).filter fun t => decide (n.now < t + 30000000000)
  let lock := decide (3 ≤ recent.length)
  let n := { n with vnt := { n.vnt with
    authFails := SMap.set (fun _ => []) n.vnt.authFails k (if lock then [] else recent)
    authLocked := if lock then k :: n.vnt.authLocked else n.vnt.authLocked } }
  n.when lock (·.raise 0x0D42 [k])
/-- A right response: the role is in force, the challenge consumed, and a maintenance connection carries tags from here on (R478, R527). -/
def Node.roleRaised (n : Node) (p : Path) (key : BitVec 256) : Node :=
  let s := n.sessionOf p
  let bytes := match s.challenge with
    | some c => natLe c.toNat 16
    | none => []
  let tag := match p with
    | .maint _ => some (Config.hmac (natLe key.toNat 32) (textBytes "KX-MAINT" ++ bytes))
    | _ => s.tagged
  (n.setSession { s with role := s.asked, challenge := none, tagged := tag, lastCounter := 0, sent := 0 }).raise 0x0D40 [pathKind p, s.asked]
/-- A write of a response to OD 0x1F00.03, of whatever length: on a locked path each ends with abort 0x12 (R477, R478). -/
def Node.authRespond (n : Node) (p : Path) (irq : Bool) (response : List Byte) : Node :=
  if n.vnt.authLocked.contains (pathKind p) then n.odAbort p irq 0x12
  else
    match (n.sessionOf p).expects with
    | some (r, key) =>
      if natLe r.toNat 32 = response then (n.roleRaised p key).odEnd p irq 0 0 false else (n.authFailed p).odAbort p irq 0x12
    | none => (n.authFailed p).odAbort p irq 0x12

/-! ### Reads (R476, R477, R482) -/

/-- The register an entry is backed by. -/
def OdBack.addr : OdBack → Option Nat
  | .field f => some f.addr
  | .shadow f => some f.addr
  | .imm f => some f.addr
  | .shadow64 a => some a
  | .signal k => some (0x2000000 + 8 * k)
  | .bytes _ => none
  | .act _ => none
/-- The register lies in a block that is in reset, where an access completes under R16. -/
def Node.entryHeld (n : Node) (e : OdEntry) : Bool := e.back.addr.any fun a => !n.reaches .odServer a
/-- Why a read is turned away, in R477's order. -/
def Node.readAbort (n : Node) (p : Path) (e : OdEntry) : Option Nat :=
  if e.cls = 1 ∧ n.supply.recovery then some 9
  else if e.cls = 1 ∧ n.rd F.PWR_STATUS_START_PHASE ≠ 4 then some 8
  else if e.access = 2 then some 3
  else if n.roleOf p < e.readRole then some 5
  else none
/-- The value of an entry goes out. -/
def Node.sendEntry (n : Node) (p : Path) (irq : Bool) (index sub : Nat) (e : OdEntry) : Node :=
  if n.entryHeld e then n.xabort.odSend p index sub irq (List.replicate e.size 0xFF#8)
  else
    let n' := n.odSend p index sub irq (n.odValue e)
    let n' := n'.when (index == 0x2E10 || index == 0x2E11) (·.reportBad (index == 0x2E11) (List.range (n.areaCount (index == 0x2E11))))
    n'.when (index == 0x1001 || (n.wiped && e.back.addr.any testedWord)) Node.took
/-- A read of an entry, checked (R477). -/
def Node.readEntry (n : Node) (p : Path) (irq : Bool) (index sub : Nat) (e : OdEntry) : Node :=
  match n.readAbort p e with
  | some a => n.odAbort p irq a
  | none =>
    if index = 0x1F00 ∧ sub = 1 then n.giveChallenge p irq
    else if index = 0x1F00 ∧ sub = 4 then n.odReply p irq (natLe (n.roleOf p) 1) 1 false
    else if index = 0x2F30 ∧ sub = 2 then
      match n.quoteReady with
      | some b => n.odSend p index sub irq b
      | none => n.odAbort p irq 0xF
    else n.sendEntry p irq index sub e
/-- OP 1 (R483). A transfer still open on the path is abandoned. -/
def Node.odStartRead (n : Node) (q : OdAsk) (irq full : Bool) : Node :=
  n.serveAt q irq full fun n =>
    let n := n.dropTransfer q.path
    match n.odEntry q.index q.sub with
    | .error a => n.odAbort q.path irq a
    | .ok e => n.readEntry q.path irq q.index q.sub e

/-! ### Operations behind entries -/

/-- Values an operation accepts (R477 order 7). -/
def actRange (index sub v : Nat) : Bool :=
  if index = 0x1130 ∧ sub = 1 then decide (v ≤ 1)
  else if index = 0x1F00 ∧ sub = 2 then decide (v ≤ 3)
  else if index = 0x2000 then v == 1 || v == 2
  else if index = 0x2C00 then decide (1 ≤ v) && decide (v ≤ 3)
  else if index = 0x2D10 then decide (v ≤ 1)
  else if index = 0x2D30 then v == 0x5E7D
  else if index = 0x2F20 ∧ sub = 1 then v == 1 || v == 2
  else if 0x5800 ≤ index ∧ index < 0x5810 then decide (1 ≤ v) && decide (v ≤ 3)
  else true
/-- The value lies in the entry's range. -/
def inRange (index sub : Nat) (e : OdEntry) (value : List Byte) : Bool :=
  let v := leNat value
  (e.type != 1 || decide (v ≤ 1)) &&
    match e.back with
    | .shadow f => decide (v < 2 ^ f.width)
    | .imm f => decide (v < 2 ^ f.width)
    | .shadow64 a => a != 0x200014 || decide (v < 2 ^ 48)
    | .act _ => actRange index sub v
    | _ => true
/-- A step of an update, over an object-dictionary path (R521, R526). ACTIVATE resets the node: its access completes first. -/
def Node.odUpdate (n : Node) (p : Path) (irq : Bool) (op slot : Nat) : Node :=
  if op = 3 then (n.odEnd p irq 0 0 false).updOperate p op slot else (n.updOperate p op slot).odEnd p irq 0 0 false
/-- A chunk: its 4-byte offset and its bytes (R526). -/
def Node.odChunk (n : Node) (p : Path) (irq : Bool) (value : List Byte) : Node :=
  (n.updWrite p (leNat (value.take 4)) (value.drop 4)).odEnd p irq 0 0 false
/-- The consist UUID changes; the store takes it with its next write (R475). -/
def Node.setUuid (n : Node) (value : List Byte) : Node := { n with vnt := { n.vnt with uuid := value, storeDue := true } }
/-- Every class P entry returns to its default with the next store write, with which the access completes (R475, R490; DEDUCED, log entry 91). -/
def Node.askRestore (n : Node) (p : Path) (irq : Bool) : Node :=
  { n with vnt := { n.vnt with restoreDue := true, storeDue := true, restores := n.vnt.restores ++ [⟨p, irq, n.askOf p⟩] } }
/-- A remote peer's address (R489). -/
def Node.setPeer (n : Node) (k v : Nat) : Node :=
  { n with vnt := { n.vnt with peers := SMap.set (fun _ => 0#32) n.vnt.peers k (BitVec.ofNat 32 v) } }
/-- Operations of the blocks GLB to VNT, with the access ended. -/
def Node.odActLow (n : Node) (p : Path) (irq : Bool) (index sub v : Nat) (value : List Byte) : Node :=
  let done (n : Node) : Node := n.odEnd p irq 0 0 false
  if index = 0x1020 then done (n.setUuid value)
  else if index = 0x1130 then done (n.setPeer sub v)
  else if index = 0x1F00 ∧ sub = 2 then done (n.askRole p v)
  else if index = 0x1F00 then n.authRespond p irq value
  else if index = 0x2000 then if v = 1 then done (n.enter 0 Node.mstopEnter) else (done n).enter 0 Node.mstopExit
  else if index = 0x2900 then done { n with time := { n.time with gmSeconds := BitVec.ofNat 64 v } }
  else if index = 0x2C00 then done (n.enter 0xC (·.when n.running (·.redCommand v)))
  else if index = 0x2D10 then done (n.when (v == 1) Node.dormRequest)
  else n.askRestore p irq
/-- Operations of the blocks CBK and SEC and of the per-instance entries, with the access ended. -/
def Node.odActHigh (n : Node) (p : Path) (irq : Bool) (index sub v : Nat) (value : List Byte) : Node :=
  let done (n : Node) : Node := n.odEnd p irq 0 0 false
  if index = 0x2E00 then done (n.setFreeze (v == 1))
  else if index = 0x2F00 then n.odUpdate p irq (v % 8) (v / 128 % 2)
  else if index = 0x2F10 then if value.length < 4 then n.odAbort p irq 6 else n.odChunk p irq value
  else if index = 0x2F20 ∧ sub = 1 then done { n with vault := { n.vault with keyRole := v } }
  else if index = 0x2F20 then
    if n.vault.keyRole = 0 ∨ 2 < n.vault.keyRole then n.odAbort p irq 7 else done (n.setRoleKey n.vault.keyRole (BitVec.ofNat 256 v))
  else if index = 0x2F21 then done (n.ownerChange (ownerRecordOf value))
  else if index = 0x2F30 then done (n.startQuote (BitVec.ofNat 256 v))
  else if index < 0x5810 then done (n.enter 6 (·.pressCommand (index - 0x5800) v))
  else if index < 0x5818 then done (n.enter 7 (·.canRecover (index - 0x5810)))
  else done (n.enter 0xB (·.outOperate (index - 0x5900) v))
/-- The operation behind an entry. -/
def Node.odAct (n : Node) (p : Path) (irq : Bool) (index sub : Nat) (value : List Byte) : Node :=
  if index < 0x2E00 then n.odActLow p irq index sub (leNat value) value else n.odActHigh p irq index sub (leNat value) value

/-! ### Writes (R102, R476, R477, R482) -/

/-- A standby unit takes writes of class P entries and of OD 0x1F00 (R476), and update operations (R525). -/
def writesOnStandby (index : Nat) (e : OdEntry) : Bool := e.cls == 2 || [0x1F00, 0x2F00, 0x2F10].contains index && e.cls != 1
/-- A length that fits the type: exact, or 0 to the maximum (R472, R477). A role key and a nonce are 32 bytes (R512, R528). -/
def lengthFits (e : OdEntry) (len : Nat) : Bool :=
  match typeSize e.type with
  | some s => len == s
  | none => decide (len ≤ e.size) && (e.type != 0xA || e.access != 2 || len == e.size)
/-- The role that an operation needs beyond that of its entry: an update step (R521, R526), a role key (R512). -/
def Node.actDenied (n : Node) (p : Path) (index sub : Nat) : Option Nat :=
  if (index = 0x2F00 ∧ sub = 2) ∨ index = 0x2F10 then n.updDenied p
  else if index = 0x2F20 ∧ sub = 2 ∧ n.roleKeyDenied p n.vault.keyRole then some 5
  else none
/-- Why a write is turned away before its value is looked at, in R477's order. -/
def Node.writeAbort (n : Node) (p : Path) (index sub : Nat) (e : OdEntry) (len : Nat) : Option Nat :=
  if e.access = 0 ∨ e.access = 3 then some 4
  else if n.roleOf p < e.writeRole then some 5
  else if (n.actDenied p index sub).isSome then n.actDenied p index sub
  else if n.standby && !writesOnStandby index e then some 0xC
  else if !lengthFits e len then some 6
  else none
/-- Another session's transfer writes the entry (R477, R481). -/
def Node.transferElsewhere (n : Node) (p : Path) (index sub : Nat) : Bool :=
  n.vnt.transfers.any fun (t : Transfer) => t.write && t.path != p && t.index == index && t.sub == sub
/-- A write to SH words: the shadow and the commit in one transaction; a refusal reloads the shadow (R102). -/
def Node.writeShadow (n : Node) (p : Path) (irq : Bool) (ws : List (Nat × Word)) : Node :=
  let g := (ws.map fun w => groupOf w.1).headD 0
  if n.dirty g then n.odAbort p irq 0xA
  else
    let n := n.putShadows ws
    match n.goRefusal g with
    | some c => ((n.turnAway g c).putShadows (ws.map fun w => (w.1, n.forceWord w.1))).odEnd p irq 0xB c false
    | none =>
      let n := n.setPhase g .validating
      { n with vnt := { n.vnt with odCommits := n.vnt.odCommits ++ [⟨p, g, ws.map (·.1), irq, n.askOf p⟩] } }
/-- A write to a signal (R328, R330). -/
def Node.writeSignal (n : Node) (p : Path) (irq : Bool) (k : Nat) (v : Nat) : Node :=
  let lo := BitVec.ofNat 32 v
  let hi := BitVec.ofNat 32 (v / 2 ^ 32)
  if n.blendOwned k then (n.hostSignal k lo hi).odAbort p irq 0x11 else (n.hostSignal k lo hi).odEnd p irq 0 0 false
/-- The value of a checked write goes where the entry is backed. -/
def Node.storeEntry (n : Node) (p : Path) (irq : Bool) (index sub : Nat) (e : OdEntry) (value : List Byte) : Node :=
  let v := leNat value
  match e.back with
  | .shadow f => n.writeShadow p irq [(f.addr, f.put (n.shadowWord f.addr) v)]
  | .shadow64 a => n.writeShadow p irq [(a, BitVec.ofNat 32 v), (a + 4, BitVec.ofNat 32 (v / 2 ^ 32))]
  | .imm f =>
    if n.entryHeld e then n.xabort.odEnd p irq 0 0 false
    else (n.storeImmediate f.addr (f.put (n.word f.addr) v)).odEnd p irq 0 0 false
  | .signal k => if n.entryHeld e then n.xabort.odEnd p irq 0 0 false else n.writeSignal p irq k v
  | _ => n.odAct p irq index sub value
/-- A response to a challenge is judged as an authentication at order 4, whatever its length (R477, R478). -/
def isResponse (index sub : Nat) : Bool := index == 0x1F00 && sub == 3
/-- A write with all its bytes, checked in R477's order and applied (R482). -/
def Node.applyWrite (n : Node) (p : Path) (irq : Bool) (index sub : Nat) (value : List Byte) : Node :=
  match n.odEntry index sub with
  | .error a => n.odAbort p irq a
  | .ok e =>
    if isResponse index sub then n.authRespond p irq value
    else
      match n.writeAbort p index sub e value.length with
      | some a => n.odAbort p irq a
      | none =>
        if !inRange index sub e value then n.odAbort p irq 7
        else if n.transferElsewhere p index sub then n.odAbort p irq 0x13
        else n.storeEntry p irq index sub e value
/-- The first segment of a write of `total` bytes that do not all come with it. A response that is locked or has the wrong length ends here. -/
def Node.startTransfer (n : Node) (p : Path) (irq : Bool) (index sub total : Nat) (seg : List Byte) : Node :=
  match n.odEntry index sub with
  | .error a => n.odAbort p irq a
  | .ok e =>
    if isResponse index sub && (total != 32 || n.vnt.authLocked.contains (pathKind p)) then n.authRespond p irq []
    else
      match n.writeAbort p index sub e total with
      | some a => n.odAbort p irq a
      | none =>
        if n.transferElsewhere p index sub then n.odAbort p irq 0x13
        else if total < seg.length then n.odAbort p irq 0xD
        else (n.putTransfer ⟨p, index, sub, true, total, seg, firstToggle p, irq⟩).odEnd p irq 0 0 true
/-- OP 2 (R483): the first segment of a write of `total` bytes. -/
def Node.odStartWrite (n : Node) (q : OdAsk) (seg : List Byte) (irq full : Bool) : Node :=
  n.serveAt q irq full fun n =>
    let n := n.dropTransfer q.path
    if seg.length = q.total then n.applyWrite q.path irq q.index q.sub seg else n.startTransfer q.path irq q.index q.sub q.total seg

/-! ### Segments (R482, R483) -/

/-- The next segment of a read. -/
def Node.sendMore (n : Node) (t : Transfer) (irq : Bool) : Node :=
  let k := min (segmentSize t.path) t.bytes.length
  let more := decide (k < t.bytes.length)
  let n := n.odReply t.path irq (t.bytes.take k) t.total more
  if more then n.putTransfer { t with bytes := t.bytes.drop k, toggle := !t.toggle } else n.dropTransfer t.path
/-- The next segment of a write. -/
def Node.takeMore (n : Node) (t : Transfer) (seg : List Byte) (irq : Bool) : Node :=
  let bytes := t.bytes ++ seg
  if t.total < bytes.length then (n.dropTransfer t.path).odAbort t.path irq 0xD
  else if bytes.length = t.total then (n.dropTransfer t.path).applyWrite t.path irq t.index t.sub bytes
  else (n.putTransfer { t with bytes := bytes, toggle := !t.toggle }).odEnd t.path irq 0 0 true
/-- The mailbox carries no toggle: its segments alternate by themselves (R484). -/
def hasToggle (p : Path) : Bool := (pathBox p).isNone
/-- OP 3 (R483). -/
def Node.odNext (n : Node) (q : OdAsk) (seg : List Byte) (irq full : Bool) : Node :=
  n.serveAt q irq full fun n =>
    let p := q.path
    match n.transferOf p with
    | none => n.odAbort p irq 0xD
    | some t =>
      if hasToggle p ∧ q.toggle = t.toggle then (n.dropTransfer p).odAbort p irq 0xD
      else if t.write then n.takeMore t seg irq
      else n.sendMore t irq
/-- OP 4 (R483). -/
def Node.odAbandon (n : Node) (q : OdAsk) (irq full : Bool) : Node :=
  n.serveAt q irq full fun n => (n.dropTransfer q.path).odEnd q.path irq 0 0 false
/-- The four words of a description (R484). -/
def Node.descWords (n : Node) (e : OdEntry) : List Nat :=
  let d := n.odDefault e
  [e.type + e.access * 2 ^ 8 + e.readRole * 2 ^ 10 + e.writeRole * 2 ^ 12 + e.cls * 2 ^ 14, e.size, d % 2 ^ 32, d / 2 ^ 32]
/-- OP 5 (R471, R483, R484): a mailbox shows it in DESC0 to DESC3, another path carries it as data. -/
def Node.odDescribe (n : Node) (q : OdAsk) (irq full : Bool) : Node :=
  n.serveAt q irq full fun n =>
    match n.odEntry q.index q.sub with
    | .error a => n.odAbort q.path irq a
    | .ok e =>
      let ws := n.descWords e
      match pathBox q.path with
      | some m => (n.putWords (ws.zipIdx.map fun w => (boxBase m + 0x10 + 4 * w.2, BitVec.ofNat 32 w.1))).odEnd q.path irq 0 0 false
      | none => n.odReply q.path irq (ws.flatMap fun w => natLe w 4) 16 false
/-- A request by its OP (R483); other codes have no operation. -/
def Node.serve (n : Node) (q : OdAsk) (data : List Byte) (irq full : Bool) : Node :=
  if q.op = 1 then n.odStartRead q irq full
  else if q.op = 2 then n.odStartWrite q data irq full
  else if q.op = 3 then n.odNext q data irq full
  else if q.op = 4 then n.odAbandon q irq full
  else n.when (q.op == 5) (·.odDescribe q irq full)

end Sys2Proof.Machine
end

