-- ==== Sys2Proof/Machine/Paths.lean ====
section
/-! DEFINITION. What comes in on the paths of the object dictionary: the commands of mailboxes, sessions and maintenance messages, the registers of
a Type 15 server, and the request datasets of the TRDP path (file 17 R478 to R490, file 09 R263, file 19 R527). -/

namespace Sys2Proof.Machine

/-! ### The registers of a Type 15 server (R487) -/

/-- Registers that an entry of a size takes. -/
def regsOf (size : Nat) : Nat := (size + 1) / 2
/-- The entry that map entry `k` names, or an abort: the index is missing, or the entry is too large for the map (log entry 90). -/
def Node.mapEntry (n : Node) (k : Nat) : Except Nat (Nat × Nat × OdEntry) :=
  match SMap.get (fun _ => none) n.vnt.t15Map k with
  | none => .error 1
  | some (index, sub) =>
    match n.odEntry index sub with
    | .error a => .error a
    | .ok e => if 8 < e.size then .error 1 else .ok (index, sub, e)
/-- Register `j` of an entry of a size and value: most significant 16 bits first in the lowest register; what is not used reads 0. -/
def mapPart (size value j : Nat) : Nat := if j < regsOf size then value / 65536 ^ (regsOf size - 1 - j) % 65536 else 0
/-- Why a read of map entry `k` is turned away. -/
def Node.mapAbort (n : Node) (p : Path) (k : Nat) : Option Nat :=
  match n.mapEntry k with
  | .error a => some a
  | .ok (_, _, e) => n.readAbort p e
/-- The value of map entry `k`: all ones where its block is in reset (R16). -/
def Node.mapValue (n : Node) (p : Path) (k : Nat) : Nat × Nat :=
  match n.mapEntry k with
  | .error _ => (0, 0)
  | .ok (index, sub, e) =>
    if n.entryHeld e then (e.size, 256 ^ e.size - 1)
    else (e.size, if index = 0x1F00 ∧ sub = 4 then n.roleOf p else leNat (n.odValue e))
/-- Accesses to blocks in reset are counted (R16). -/
def Node.countHeld (n : Node) (k : Nat) : Node :=
  match n.mapEntry k with
  | .error _ => n
  | .ok (_, _, e) => n.when (n.entryHeld e) Node.xabort
/-- Map entries that registers from `start` on touch. -/
def mapEntries (start count : Nat) : List Nat :=
  (List.range ((start % 4 + count + 3) / 4)).map fun i => (start - 0x1000) / 4 + i
/-- A read of any part of the map area. -/
def Node.readMap (n : Node) (p : Path) (start count : Nat) : Node :=
  let ks := mapEntries start count
  match ks.findSome? (n.mapAbort p) with
  | some a => n.odAbort p false a
  | none =>
    let data := (List.range count).flatMap fun i =>
      let r := start + i - 0x1000
      let v := n.mapValue p (r / 4)
      natBe (mapPart v.1 v.2 (r % 4)) 2
    (n.each ks fun k n => n.countHeld k).odReply p false data data.length false
/-- A write to the map area: it starts at an entry's first register and covers its whole size, or ends with exception 02. A value that does not fit
the entry's size is out of its range. -/
def Node.writeMap (n : Node) (p : Path) (start : Nat) (seg : List Byte) : Node :=
  match n.mapEntry ((start - 0x1000) / 4) with
  | .error a => n.odAbort p false a
  | .ok (index, sub, e) =>
    if start % 4 ≠ 0 ∨ seg.length ≠ 2 * regsOf e.size then n.odAbort p false 2
    else
      let value := seg.reverse
      if leNat (value.drop e.size) = 0 then n.applyWrite p false index sub (value.take e.size)
      else n.odAbort p false ((n.writeAbort p index sub e e.size).getD 7)
/-- Bytes of the mailbox area from register `r` on: header, the register that reads 1 while the operation runs, data. -/
def boxRegister (b : T15Box) (r : Nat) : List Byte :=
  if r < 0x108 then (spread b.header 16 []).drop (2 * (r - 0x100)) |>.take 2
  else if r = 0x108 then [0#8, if b.running then 1#8 else 0#8]
  else (spread b.data 4096 []).drop (2 * (r - 0x110)) |>.take 2
/-- Registers that lie in the mailbox area. -/
def inBox (start count : Nat) : Bool :=
  (decide (0x100 ≤ start) && decide (start + count ≤ 0x109)) || (decide (0x110 ≤ start) && decide (start + count ≤ 0x910))
/-- The request that the header registers hold, byte 0 in the upper half of the first (DESIGN CHOICE, log entry 90). -/
def askOfHeader (p : Path) (h : List Byte) (boxed : Bool) : OdAsk :=
  let at_ (k len : Nat) : Nat := leNat ((h.drop k).take len)
  ⟨p, at_ 0 1, at_ 1 1 % 2 == 1, at_ 2 2, at_ 4 1, at_ 8 4, boxed⟩
/-- Function 16 writes the header, which starts the operation; the data registers store. While an operation runs the server is busy. -/
def Node.writeBox (n : Node) (p : Path) (q start : Nat) (seg : List Byte) (full : Bool) : Node :=
  let b := n.t15Box q
  if start = 0x100 ∧ seg.length = 16 then
    if b.running then n.odBusy p false
    else
      let a := askOfHeader p seg true
      (n.setT15Box q ⟨seg, b.data, decide (1 ≤ a.op) && decide (a.op ≤ 5)⟩).serve a ((spread b.data 4096 []).take (leNat (seg.drop 12))) false full
  else if 0x110 ≤ start ∧ start + seg.length / 2 ≤ 0x910 then
    (n.setT15Box q { b with data := spread b.data (2 * (start - 0x110)) seg }).odEnd p false 0 0 false
  else n.odAbort p false 2
/-- A read of registers. Those outside the two areas belong to the image's process-image map. -/
def Node.readRegs (n : Node) (p : Path) (q start count : Nat) (full : Bool) : Node :=
  if 0x1000 ≤ start ∧ start + count ≤ 0x2000 then n.serveAt ⟨p, 1, false, 0, 0, 0, false⟩ false full (·.readMap p start count)
  else n.when (inBox start count) fun n =>
    let data := (List.range count).flatMap fun i => boxRegister (n.t15Box q) (start + i)
    (n.setAsk ⟨p, 1, false, 0, 0, 0, false⟩).odReply p false data data.length false
/-- A write of registers. -/
def Node.writeRegs (n : Node) (p : Path) (q start : Nat) (seg : List Byte) (full : Bool) : Node :=
  let count := seg.length / 2
  let a : OdAsk := ⟨p, 2, false, 0, 0, seg.length, false⟩
  if 0x1000 ≤ start ∧ start + count ≤ 0x2000 then n.serveAt a false full (·.writeMap p start seg)
  else n.when (inBox start count) fun n => (n.setAsk a).writeBox p q start seg full

/-! ### Reads, writes and segments (R482 to R484) -/

/-- OD_READ (R484), or a read of a Type 15 server's registers (R487). -/
def execOdRead (path : Path) (index : Half) (sub : Byte) (irq full : Bool) (regs : Option (Half × Half)) (s : State) :
    Host.Outcome State Fault Refusal :=
  s.upd fun n =>
    match path, regs with
    | .type15 q _, some r => n.onPath path 0x2000 (·.readRegs path q r.1.toNat r.2.toNat full)
    | _, _ => n.onPath path index.toNat (·.serve ⟨path, 1, false, index.toNat, sub.toNat, 0, false⟩ [] irq full)
/-- OD_WRITE (R484), or a write of a Type 15 server's registers (R487). -/
def execOdWrite (path : Path) (index : Half) (sub : Byte) (total : Nat) (seg : List Byte) (irq full : Bool) (regs : Option Half) (s : State) :
    Host.Outcome State Fault Refusal :=
  s.upd fun n =>
    match path, regs with
    | .type15 q _, some r => n.onPath path 0x2000 (·.writeRegs path q r.toNat seg full)
    | _, _ => n.onPath path index.toNat fun n =>
      ((n.fillBox path seg).fillTotal path total).serve ⟨path, 2, false, index.toNat, sub.toNat, total, false⟩ seg irq full
/-- OD_NEXT_SEGMENT (R482). -/
def execOdNextSegment (path : Path) (toggle : Bool) (seg : List Byte) (irq full : Bool) (s : State) : Host.Outcome State Fault Refusal :=
  s.upd (·.onPath path 0x2000 fun n =>
    let ask (n : Node) : OdAsk := match n.transferOf path with
      | some t => ⟨path, 3, toggle, t.index, t.sub, t.total, false⟩
      | none => ⟨path, 3, toggle, 0, 0, 0, false⟩
    (n.when ((n.transferOf path).any fun (t : Transfer) => t.write) (·.fillBox path seg)).serve (ask n) seg irq full)
/-- OD_ABORT_TRANSFER (R483). -/
def execOdAbortTransfer (path : Path) (s : State) : Host.Outcome State Fault Refusal :=
  s.upd (·.onPath path 0x2000 (·.serve ⟨path, 4, false, 0, 0, 0, false⟩ [] false false))
/-- OD_DESCRIBE (R484). -/
def execOdDescribe (path : Path) (index : Half) (sub : Byte) (irq full : Bool) (s : State) : Host.Outcome State Fault Refusal :=
  s.upd (·.onPath path index.toNat (·.serve ⟨path, 5, false, index.toNat, sub.toNat, 0, false⟩ [] irq full))
/-- SEGMENT_TIMEOUT (R482). -/
def execSegmentTimeout (path : Path) (s : State) : Host.Outcome State Fault Refusal :=
  s.upd fun n =>
    match n.transferOf path with
    | none => n
    | some t =>
      n.when n.serverUp fun n => (((n.dropTransfer path).count CNT_SEG_TIMEOUT).raise 0x0D43 [t.index, t.sub]).odAbort path t.irq 0xE

/-! ### Sessions (R478, R479, R490) -/

/-- AUTH_CHALLENGE_READ (R478). -/
def execAuthChallengeRead (path : Path) (s : State) : Host.Outcome State Fault Refusal :=
  s.upd (·.onPath path 0x1F00 (·.serve ⟨path, 1, false, 0x1F00, 1, 0, false⟩ [] false false))
/-- AUTH_ROLE_REQUEST (R478). -/
def execAuthRoleRequest (path : Path) (role : Byte) (s : State) : Host.Outcome State Fault Refusal :=
  s.upd (·.onPath path 0x1F00 (·.serve ⟨path, 2, false, 0x1F00, 2, 1, false⟩ [role] false false))
/-- AUTH_RESPONSE (R478). -/
def execAuthResponse (path : Path) (response : BitVec 256) (s : State) : Host.Outcome State Fault Refusal :=
  s.upd (·.onPath path 0x1F00 (·.serve ⟨path, 2, false, 0x1F00, 3, 32, false⟩ (natLe response.toNat 32) false false))
/-- RESTORE_DEFAULTS (R490). -/
def execRestoreDefaults (path : Path) (v : Half) (s : State) : Host.Outcome State Fault Refusal :=
  s.upd (·.onPath path 0x2D30 (·.serve ⟨path, 2, false, 0x2D30, 1, 2, false⟩ (natLe v.toNat 2) false false))
/-- AUTH_LOCK_EXPIRY (R478). -/
def execAuthLockExpiry (path : Path) (s : State) : Host.Outcome State Fault Refusal :=
  s.upd fun n => { n with vnt := { n.vnt with authLocked := n.vnt.authLocked.filter (· != pathKind path) } }
/-- SESSION_IDLE_LAPSE (R479). -/
def execSessionIdleLapse (path : Path) (s : State) : Host.Outcome State Fault Refusal :=
  s.upd fun n => n.when n.serverUp (·.lapse path)
/-- A connection closes: its session, its transfer and the accesses that wait on it are over (R479). -/
def Node.closePath (n : Node) (p : Path) : Node := (((n.lapse p).endSession p).dropTransfer p).dropWaits p
/-- CONNECTION_CLOSED (R479): of a maintenance or a Type 15 connection. -/
def execConnectionClosed (path : Path) (s : State) : Host.Outcome State Fault Refusal :=
  s.upd fun n => n.when (pathKind path == 4 || pathKind path == 5) (·.closePath path)

/-! ### Maintenance messages and request datasets (R485, R488, R527) -/

/-- MAINT_MESSAGE (R488, R527): after a raise, a message needs a right tag and a counter one above the last one accepted. -/
def execMaintMessage (conn : Nat) (counter : DWord) (tagOk : Bool) (op : Byte) (toggle : Bool) (index : Half) (sub : Byte) (total : Nat)
    (data : List Byte) (s : State) : Host.Outcome State Fault Refusal :=
  s.upd fun n =>
    let p := Path.maint conn
    let ask : OdAsk := ⟨p, op.toNat, toggle, index.toNat, sub.toNat, total, false⟩
    n.when (n.pathOpen p index.toNat && n.serverUp) fun n =>
      let s := n.sessionOf p
      if s.tagged.isNone then n.serve ask data false false
      else if tagOk && counter.toNat == s.lastCounter + 1 then (n.setSession { s with lastCounter := counter.toNat }).serve ask data false false
      else ((n.count CNT_MAINT_TAG).raise 0x0F0B []).closePath p
/-- A request dataset of the dictionary: header and segment (R483, R485). One too short to hold a header is not a request (log entry 92). -/
def Node.trdpServe (n : Node) (t : Telegram) : Node :=
  let q := askOfHeader (.trdp t.src) (t.data.take 16) false
  n.when (n.pathOpen q.path q.index && decide (16 ≤ t.data.length)) (·.serve q ((t.data.drop 16).take (min 1024 (leNat ((t.data.drop 12).take 4)))) false false)
/-- The request begins an exchange of the dictionary: a session of the Vintner has taken it, with OD_COMID (R485). -/
def Node.asksDictionary (old n : Node) (k : Nat) (t : Telegram) : Bool :=
  old.sesState k != 6 && n.sesState k == 6 && n.cf (F.SES_OWNER.at k) == 1 && t.comId.toNat == n.cf F.OD_COMID
/-- MD_REQUEST_RECEIVED (R263): an Mr, or the Mn of a notification session; the Vintner serves those of its own sessions (R220, R485). -/
def execMdRequestReceived (t : Telegram) (s : State) : Host.Outcome State Fault Refusal :=
  s.upd fun n => n.arriveMd t [.mr, .mn]
    (fun n => (n.replierOf t).filter fun k => (n.cf (F.SES_KIND.at k) == 0) == (t.msgType == .mn)) fun k old =>
      let n := (old.request k t).forVintner k t
      n.when (old.asksDictionary n k t) (·.trdpServe t)

end Sys2Proof.Machine
end

