-- ==== Sys2Proof/Machine/Registers.lean ====
section
/-! DEFINITION. Accesses of any length to BAR0, split into words, the mailboxes among them, the fabric wheel, and the remote-node service (R89,
R386, R484, R489). -/

namespace Sys2Proof.Machine

/-! ### Mailboxes by register (R484) -/

/-- The path of a mailbox. -/
def boxPath (m : Nat) : Path := if m < 4 then .hostMailbox (Fin.ofNat 4 m) else .remoteMailbox (Fin.ofNat 4 (m - 4))
/-- The segment a mailbox holds: SEGLEN bytes of DATA, 4,096 at most. -/
def Node.boxSegment (n : Node) (m : Nat) : List Byte := n.bytes (boxData m) (min 4096 (n.rd (F.MBOX_SEGLEN.at m)))
/-- A mailbox's command word: GO starts OP. An OP that R483 does not name starts nothing. -/
def Node.mailCommand (n : Node) (m : Nat) (v : Word) : Node :=
  let p := boxPath m
  let irq := on v 30
  let op := part v 24 3
  let index := part v 8 16
  let sub := part v 0 8
  n.when (on v 31 && n.pathOpen p index) fun n =>
    n.serve ⟨p, op, false, index, sub, n.rd (F.MBOX_TOTAL.at m), false⟩ (n.boxSegment m) irq false
/-- The mailbox whose command word lies at an address. -/
def mailboxAt (a : Nat) : Option Nat :=
  if 0x1000000 ≤ a ∧ a < 0x1020000 ∧ a % 0x4000 = 0 then some ((a - 0x1000000) / 0x4000) else none

/-! ### Spans (R89, R386) -/

/-- A write of a whole word, and whether it failed. -/
def Node.putWhole (n : Node) (by_ : Initiator) (a : Nat) (v : Word) : Node × Bool :=
  match mailboxAt a with
  | some m =>
    let n := n.dropHeld by_
    if n.reaches by_ a then (n.mailCommand m v, false) else (n.xabort, true)
  | none => n.assign by_ a v
/-- The word that a narrow write to a data area leaves, where the address is one: images, datasets, mailbox data and the chunk buffer take bytes.
The write-1 words of an image header see only the bits written. -/
def Node.narrowBase (n : Node) (a : Nat) : Option Word :=
  match n.place a with
  | .ram x => some (if 0x3000000 ≤ x ∧ x < 0x3100000 ∧ x % 0x10000 < 0x20 then 0#32 else n.ramWord x)
  | _ => none
/-- Bytes `data` of the word at `a`, from its byte `k` on. -/
def Node.putPart (n : Node) (by_ : Initiator) (a k : Nat) (data : List Byte) : Node × Bool :=
  if data.length = 4 then n.putWhole by_ a (BitVec.ofNat 32 (leNat data))
  else
    match n.narrowBase a with
    | some w => n.assign by_ a (overlay w k data)
    | none => n.narrow by_ (a + k)
/-- The parts of an access, ascending: at every boundary of `width` bytes (R386). -/
def splitAt (width ofs len : Nat) : List (Nat × Nat) :=
  (List.range ((ofs + len + width - 1) / width - ofs / width)).map fun i =>
    let lo := max ofs ((ofs / width + i) * width)
    (lo, min (ofs + len) ((ofs / width + i + 1) * width) - lo)
/-- A write within one aligned block of 256 bytes, and whether it failed: one transaction where the block holds CAN message buffers, words
elsewhere (R140, R315, R386). -/
def Node.putBlock (n : Node) (by_ : Initiator) (a : Nat) (data : List Byte) : Node × Bool :=
  if 0x740000 ≤ a ∧ a < 0x750000 then
    let n := n.dropHeld by_
    if n.reaches by_ a then (n.bufferBytes true a data, false) else (n.xabort, true)
  else (spanParts a data).foldl (fun (r : Node × Bool) q => if r.2 then r else r.1.putPart by_ q.1 q.2.1 q.2.2) (n, false)
/-- A write of a span: when one part fails, the later ones are not issued (R386). -/
def Node.putSpan (n : Node) (by_ : Initiator) (a : Nat) (data : List Byte) : Node × Bool :=
  (splitAt 256 a data.length).foldl
    (fun (r : Node × Bool) q => if r.2 then r else r.1.putBlock by_ q.1 ((data.drop (q.1 - a)).take q.2)) (n, false)
/-- A read of a span: when one part fails, it and the later ones return all ones and the later ones are not issued (R386, R389). A narrow
read returns the addressed bytes of the word (R89). -/
def Node.getSpan (n : Node) (by_ : Initiator) (a len : Nat) : Node × List Byte × Bool :=
  let first := a / 4 * 4
  let words := (List.range ((a + len + 3 - first) / 4)).map fun i => first + 4 * i
  let r := words.foldl (fun (r : Node × List Byte × Bool) w =>
    if r.2.2 then (r.1, r.2.1 ++ List.replicate 4 0xFF#8, true)
    else
      let f := r.1.fetch by_ w false
      (f.1, r.2.1 ++ natLe f.2.1.toNat 4, f.2.2)) (n, [], false)
  (r.1, (r.2.1.drop (a - first)).take len, r.2.2)

/-- REGISTER_WRITE (R4): one aligned word. -/
def execRegisterWrite (by_ : Initiator) (addr : Nat) (v : Word) (s : State) : Host.Outcome State Fault Refusal :=
  s.upd fun n => if n.cutOff by_ then n else (n.putWhole by_ (addr / 4 * 4) v).1

/-! ### The fabric wheel (R138 to R142) -/

/-- The accesses of the host bridge and of the Vintner are those of the host and of the maintenance path, which follow each register's own
rules (R89, R383). The host reaches the dataset memory through a window of the register network instead. -/
def fabricInitiator (owner : FabricOwner) (target : FabricTarget) : Option Initiator :=
  if target = .datasets then none
  else if owner = .host then some .host
  else if owner = .vintner then some .maint
  else none
/-- Bytes that an engine writes into the process-image windows, word by word under their rules (R272 to R275): OUT_XCHG exchanges, the rest of the
header and the input area are the Press's own, and what lies beyond a window is ignored. -/
def Node.imageBytes (n : Node) (a : Nat) (bytes : List Byte) : Node :=
  n.each (spanParts a bytes) fun q n =>
    let p := (q.1 - 0x3000000) / 0x10000
    let o := q.1 % 0x10000
    if n.winLen p ≤ o then n
    else if o = 0x10 then n.when (q.2.1 == 0 && (q.2.2.headD 0#8).getLsbD 0) (·.outExchange p)
    else if o < n.outArea p then n.count (CNT_IMG_WR_DROP p)
    else n.putBytes (q.1 + q.2.1) q.2.2
/-- Bytes that an engine writes into the window of the object-dictionary engine: a mailbox's data takes bytes; its registers take whole words, as
their access codes state, the command word among them (R4, R89, R484). -/
def Node.boxBytes (n : Node) (a : Nat) (bytes : List Byte) : Node :=
  n.each (spanParts a bytes) fun q n =>
    match n.place q.1 with
    | .ram x => n.putBytes (x + q.2.1) q.2.2
    | .word x =>
      if q.2.2.length = 4 then
        match mailboxAt x with
        | some m => n.mailCommand m (overlay 0#32 0 q.2.2)
        | none => n.storeReg x (overlay 0#32 0 q.2.2)
      else (n.count CNT_PARTIAL_WR).raise 0x0013 [q.1 + q.2.1]
    | _ => n
/-- Bytes that an engine writes into the signal store: a signal's whole new value, under R330's ownership (R328). -/
def Node.storeBytes (n : Node) (a : Nat) (bytes : List Byte) : Node :=
  let first := (a - 0x2000000) / 8
  n.each (List.range ((a + bytes.length + 7 - 0x2000000) / 8 - first)) fun i n =>
    let sig := first + i
    let at_ := 0x2000000 + 8 * sig
    let mine := (bytes.drop (at_ - a)).take (at_ + 8 - max a at_)
    let v := leNat (laidOver (natLe (n.signal sig).toNat 8) (a - at_) mine)
    n.hostSignal sig (BitVec.ofNat 32 v) (BitVec.ofNat 32 (v / 2 ^ 32))
/-- Bytes that an engine writes into the staging buffer: command words alone, by the Blend unit or under R412's ownership; the readbacks and inputs
are read-only (R340, R412). -/
def Node.stagingBytes (n : Node) (owner : FabricOwner) (a : Nat) (bytes : List Byte) : Node :=
  n.each ((spanParts a bytes).filter fun q => decide (q.1 < 0xB10060)) fun q n =>
    let v := overlay (n.word q.1) q.2.1 q.2.2
    if owner = .blend then n.putCommand ((q.1 - 0xB10000) / 4) v else n.hostCommand ((q.1 - 0xB10000) / 4) v
/-- Bytes that an engine writes to a target, under the rules of what stands there. -/
def Node.engineWrite (n : Node) (owner : FabricOwner) (target : FabricTarget) (ofs : Nat) (bytes : List Byte) : Node :=
  let a := (fabricHome target).1 + ofs
  match target with
  | .pressImages => n.imageBytes a bytes
  | .canBuffers => n.bufferBytes (owner == .blend) a bytes
  | .signals => n.storeBytes a bytes
  | .outputs => n.stagingBytes owner a bytes
  | .datasets => n.putBytes a bytes
  | .odEngine => n.boxBytes a bytes
/-- Bytes of the process-image windows, as any reader sees them (R272, R296). -/
def Node.imageRead (n : Node) (a len : Nat) : List Byte :=
  (List.range len).map fun k => (n.ramNow (a + k - (a + k) % 4)).extractLsb' (8 * ((a + k) % 4)) 8
/-- The data of a transaction moves: as an access of an initiator, or as bytes of an engine. -/
def Node.fabricMove (n : Node) (owner : FabricOwner) (target : FabricTarget) (write : Bool) (ofs : Nat) (bytes : List Byte) (len : Nat) : Node :=
  let a := (fabricHome target).1 + ofs
  match fabricInitiator owner target with
  | some by_ =>
    if n.cutOff by_ then n
    else if write then (n.putSpan by_ a bytes).1
    else
      let r := n.getSpan by_ a len
      r.1.emit (.reply r.2.1)
  | none =>
    if write then n.engineWrite owner target ofs bytes
    else n.emit (.reply (if target = .pressImages then n.imageRead a len else n.fabricRead target ofs len))
/-- Transactions that complete with an error: each is counted, and a read returns all ones. The host bridge and the Vintner do not issue the later
ones (R16, R386). -/
def Node.fabricFails (n : Node) (owner : FabricOwner) (target : FabricTarget) (write : Bool) (ofs len : Nat) : Node :=
  let parts := splitAt 256 ofs len
  let n := n.each (if (fabricInitiator owner target).isSome then parts.take 1 else parts) fun _ n => n.xabort
  n.when (!write) (·.emit (.reply (List.replicate len 0xFF#8)))
/-- The Press complex grants its slot to this Press: the next in rotation among those with a request (R271). -/
def Node.pressGranted (n : Node) (p : Fin 16) (pending : BitVec 16) : Bool :=
  (((List.range 16).map fun k => (n.trellis.pressTurn + 1 + k) % 16).find? fun k => pending.getLsbD k || k == p.val) == some p.val
/-- The initiator may make the access: a Press when it is granted the slot, and only to the signal store and the object-dictionary engine (R271). -/
def Node.fabricAllowed (n : Node) (owner : FabricOwner) (target : FabricTarget) : Bool :=
  match owner with
  | .press p pending => n.pressGranted p pending && (target == .signals || target == .odEngine)
  | _ => true
/-- A Press's turn has been used. -/
def Node.fabricTurn (n : Node) (owner : FabricOwner) : Node :=
  match owner with
  | .press p _ => { n with trellis := { n.trellis with pressTurn := p.val } }
  | _ => n
/-- FABRIC_TRANSACTION (R140, R142): a transaction in a slot the initiator owns; a longer access is carried out in ascending transactions, of which
the later ones take later slots of its own (log entry 59). An initiator that owns no slot, and a target whose island is in reset, complete it with
an error (R16). -/
def execFabricTransaction (owner : FabricOwner) (slot : Fin 16) (target : FabricTarget) (write : Bool) (ofs : Nat) (bytes : List Byte)
    (len : Nat) (s : State) : Host.Outcome State Fault Refusal :=
  s.upd fun n => n.when (n.powered && !n.islandDown 5) fun n =>
    let code := fabricCode owner
    let size := if write then bytes.length else len
    n.when (n.fabricAllowed owner target && decide (0 < size) && decide (ofs + size ≤ (fabricHome target).2.1)) fun n =>
      if !n.ownsSlot code then n.fabricFails owner target write ofs size
      else n.when (n.slotOwner slot == code) fun n =>
        let n := n.fabricTurn owner
        if n.islandDown (fabricHome target).2.2 then n.fabricFails owner target write ofs size
        else n.each (splitAt 256 ofs size) fun q n =>
          (n.emit (.fabric owner write q.1 q.2)).fabricMove owner target write q.1 ((bytes.drop (q.1 - ofs)).take q.2) q.2

/-! ### The remote-node service (R489) -/

/-- A target offset that a remote node may read, or write. -/
def remoteServed (write : Bool) (ofs : Nat) : Bool :=
  (!write && decide (ofs < 0x1000000)) || (decide (0x1010000 ≤ ofs) && decide (ofs < 0x1020000)) ||
    (decide (0x2000000 ≤ ofs) && decide (ofs < 0x2200000)) || (decide (0x3000000 ≤ ofs) && decide (ofs < 0x3100000))
/-- The source is in the list of remote peers, where 0 is an unused entry (R490). -/
def Node.isPeer (n : Node) (src : Ip) : Bool :=
  src != 0#32 && (List.range 15).any fun k => SMap.get (fun _ => 0#32) n.vnt.peers (k + 2) == src
/-- A reply to a remote request leaves on VP, but on a unit of a pair that is not active (R467). -/
def Node.sendOnVp (n : Node) (e : Emission) : Node := n.when (!n.standby) (·.emit e)
/-- REMOTE_REQUEST (R489): a request turned away is answered with an error, an empty reply, counted and recorded. -/
def execRemoteRequest (src : Ip) (write : Bool) (ofs len : Nat) (data : List Byte) (s : State) : Host.Outcome State Fault Refusal :=
  s.upd fun n => n.when (n.serverUp && n.cf F.VNT_IP != 0 && n.cfBit F.OD_CFG_REMOTE_EN) fun n =>
    if !n.isPeer src || !remoteServed write ofs || !remoteServed write (ofs + len - 1) then
      ((n.count CNT_REMOTE_DROP).raise 0x0D44 [src.toNat, ofs]).sendOnVp (.remoteRefused src ofs)
    else if write then
      let r := n.putSpan .maint ofs data
      r.1.sendOnVp (.reply [])
    else
      let r := n.getSpan .maint ofs len
      r.1.sendOnVp (.reply r.2.1)

end Sys2Proof.Machine
end

