-- ==== Sys2Proof/Machine/HostAccess.lean ====
section
/-! DEFINITION. Host accesses to BAR0, BAR2 and BAR4: ranges, prefetch, field and remote windows, late reads, and the QSPI target
(file 14 R378 to R392). A far side's answer comes with the command. -/

namespace Sys2Proof.Machine

/-! ### Ranges (R385) -/

/-- Code of a region in a range entry and in a latched address. -/
def barCode : Bar → Nat
  | .bar0 => 0
  | .bar2 => 1
  | .bar4 => 2
/-- Bytes of a region (R378). -/
def barSize : Bar → Nat
  | .bar0 => 0x4000000
  | .bar2 => 0x10000000
  | .bar4 => 0x4000
/-- The enabled range entry that covers an offset. BAR4 is served within the bridge and has none. -/
def Node.rangeAt (n : Node) (bar : Bar) (ofs : Nat) : Option Nat :=
  if bar = .bar4 then none
  else (List.range 16).find? fun e =>
    let base := n.cf (F.RANGE_BASE.at e) * 4096
    n.cf (F.RANGE_SIZE.at e) != 0 && n.cf (F.RANGE_BAR.at e) == barCode bar &&
      decide (base ≤ ofs) && decide (ofs < base + n.cf (F.RANGE_SIZE.at e) * 4096)
/-- Bytes that a read in a range prefetches: PF_LEN, but not beyond the read's 4 KiB page (R390). -/
def Node.prefetchLen (n : Node) (bar : Bar) (ofs len : Nat) : Nat :=
  match n.rangeAt bar ofs with
  | none => 0
  | some e => min (n.cf (F.RANGE_PF_LEN.at e)) (ofs / 4096 * 4096 + 4096 - (ofs + len))
/-- Width in bytes of a BAR2 far side. -/
def Node.farWidth (n : Node) (ofs : Nat) : Nat :=
  match n.rangeAt .bar2 ofs with
  | none => 4
  | some e => [4, 2, 1].getD (n.cf (F.RANGE_WIDTH.at e)) 4
/-- The writes of a range are non-posted. -/
def Node.nonPosted (n : Node) (bar : Bar) (ofs : Nat) : Bool := (n.rangeAt bar ofs).any fun e => n.cfBit (F.RANGE_NP.at e)
/-- An address as NP_ERR_INFO, LATE_ADDR and SE_ADDR hold it. -/
def latchedAddr (bar : Bar) (ofs : Nat) : Nat := barCode bar % 4 * 2 ^ 28 + ofs % 2 ^ 28

/-! ### Prefetch lines (R390, R391) -/

/-- A read of the word has a side effect (R90). -/
def Node.readHasEffect (n : Node) (a : Nat) : Bool :=
  (decide (0x1000000 ≤ a) && decide (a < 0x2000000)) || a == 0xA00220 ||
    (windowOf a).any (fun (w : Nat × Nat × Nat) => w.2.2 == 0) ||
    (timeView a).any (fun (v : Nat × Nat) => [8, 0x10, 0x18].contains v.2) ||
    match n.place a with
    | .word x => rowHas x (·.rc) || isLowWord x
    | .mirror x => isLowWord x && (Place.mirror x).shows
    | _ => false
/-- A new line; the oldest of four goes when a fifth comes. -/
def Node.addLine (n : Node) (l : PrefetchLine) : Node :=
  let n := match n.host.prefetch with
    | old :: _ => n.when (n.host.prefetch.length == 4) fun n => n.dropLines (· == old)
    | [] => n
  { n with host := { n.host with prefetch := n.host.prefetch ++ [l] } }
/-- The line that holds an access wholly. -/
def Node.lineFor (n : Node) (bar : Bar) (ofs len : Nat) : Option PrefetchLine :=
  n.host.prefetch.find? fun (l : PrefetchLine) => l.bar == bar && decide (l.ofs ≤ ofs) && decide (ofs + len ≤ l.ofs + l.bytes.length)
/-- The line has been read: its side effect is no longer one of an unread line. -/
def Node.lineRead (n : Node) (l : PrefetchLine) : Node :=
  { n with host := { n.host with prefetch := n.host.prefetch.map fun k => if k == l then { k with sideEffect := false } else k } }
/-- The prefetch behind a BAR0 read, of the bytes that a read by the host returns; suppressed where it would touch a register whose read has a side
effect (R391). -/
def Node.prefetchBar0 (n : Node) (ofs len : Nat) : Node :=
  let k := n.prefetchLen .bar0 ofs len
  n.when (k != 0) fun n =>
    let a := ofs + len
    let first := a / 4 * 4
    if (List.range ((a + k + 3 - first) / 4)).any fun i => n.readHasEffect (first + 4 * i) then n.count CNT_PF_SUPPRESS
    else
      let r := n.getSpan .host a k
      r.1.when (!r.2.2) (·.addLine ⟨.bar0, a, r.2.1, (n.rangeAt .bar0 ofs).getD 0, false⟩)
/-- The prefetch behind a BAR2 read, from the bytes that came with its data: only where NOSE is set. -/
def Node.prefetchBar2 (n : Node) (ofs len : Nat) (extra : List Byte) (effect : Bool) : Node :=
  let e := (n.rangeAt .bar2 ofs).getD 0
  let bytes := extra.take (n.prefetchLen .bar2 ofs len)
  n.when (!bytes.isEmpty && n.cfBit (F.RANGE_NOSE.at e)) (·.addLine ⟨.bar2, ofs + len, bytes, e, effect⟩)

/-! ### The far sides of BAR2 (R288, R384, R386) -/

/-- All ones. -/
def ones (len : Nat) : List Byte := List.replicate len 0xFF#8
/-- A BAR2 offset lies in the remote-node window. -/
def isRemote (ofs : Nat) : Bool := decide (0x8000000 ≤ ofs)
/-- Aperture of a remote offset, and the offset in it. -/
def apertureOf (ofs : Nat) : Nat := (ofs - 0x8000000) / 0x4000000 % 2
/-- A remote access can be made: PCIe is selected and the aperture is mapped (R384). -/
def Node.remoteMapped (n : Node) (ofs : Nat) : Bool := n.bit F.HBR_STATUS_PCIE_SEL && n.cf (F.RMT_IP_ADDR.at (apertureOf ofs)) != 0
/-- A remote access has failed (R384). -/
def Node.remoteFailed (n : Node) (ofs : Nat) : Node := (n.count CNT_RMT_ERR).raise 0x0A0A [apertureOf ofs, ofs % 0x4000000]
/-- The parts that a far side of BAR2 gets. -/
def Node.farParts (n : Node) (ofs len : Nat) : List (Nat × Nat) :=
  if isRemote ofs then splitAt 256 ofs len else n.fieldSplit (ofs / 0x800000) (splitAt (n.farWidth ofs) ofs len)
/-- Bytes of a read that a far side gave: from the part that failed on they are all ones (R386, R389). -/
def farBytes (parts : List (Nat × Nat)) (len : Nat) (far : FarReply) : List Byte :=
  let ok := fun (b : List Byte) (k : Nat) => ((b ++ ones k).take k ++ ones len).take len
  match far with
  | .data b _ => ok b len
  | .error done b => ok b ((parts.take done).map (·.2)).sum
  | .timeout => ones len
/-- A field-window access: each part goes to the image; one it cannot complete is counted, and one to a Press in reset is an error of the access
(R16). -/
def Node.toField (n : Node) (ofs len : Nat) (write : Bool) (far : FarReply) : Node :=
  let p := ofs / 0x800000
  if n.islandDown 3 then n.xabort
  else n.fieldParts p ((splitAt (n.farWidth ofs) ofs len).map fun q => (q.1 % 0x800000, q.2)) write far
/-- The request datagram of a remote access to UDP port 17226 of RMT_IPa with PCP RMT_PCP (R384). Source address, TTL, source port, checksum and
layout are not in the spec, nor how the destination's MAC address is found: a free value (log entry 85). -/
def Node.remoteFrame (n : Node) (a ofs len : Nat) (write : Bool) (data : List Byte) : Frame :=
  let bytes := Config.remoteBytes write ofs len data
  { dst := n.free 48, src := portMac 16, tag := some ⟨0, BitVec.ofNat 3 (n.cf F.HBR_CFG_RMT_PCP), false⟩, etype := 0x0800#16
    len := max 64 (50 + bytes.length)
    body := .ipv4 { src := BitVec.ofNat 32 (n.cf F.VNT_IP), dst := BitVec.ofNat 32 (n.cf (F.RMT_IP_ADDR.at a)), proto := 17#8, ttl := Config.trdpTtl, ihl := 5#4,
                    checksumOk := true, fragOfs := 0#13, srcPort := Config.remotePort, dstPort := 17226#16,
                    l4sum := Config.remoteSum write ofs len data }
    data := bytes }
/-- A request datagram goes through HP's ingress path, whatever HP's link (R384). -/
def Node.sendRemote (n : Node) (a ofs len : Nat) (write : Bool) (data : List Byte) : Node :=
  let f := n.remoteFrame a ofs len write data
  (n.emit (.remote a ofs len write data)).took.when (!n.islandDown 0) (·.inject 16 f)
/-- A remote access: one datagram for each part of up to 256 bytes; the one that fails is counted. -/
def Node.toRemote (n : Node) (ofs len : Nat) (write : Bool) (data : List Byte) (far : FarReply) : Node :=
  let parts := n.farParts ofs len
  if n.remoteMapped ofs then
    let n := n.each (issued parts far) fun q n =>
      n.sendRemote (apertureOf ofs) (q.1 % 0x4000000) q.2 write ((data.drop (q.1 - ofs)).take q.2)
    match far with
    | .error done _ => n.remoteFailed (parts.getD done (ofs, 0)).1
    | _ => n
  else n.remoteFailed ofs
/-- An access carried to the far side of BAR2. -/
def Node.toFar (n : Node) (ofs len : Nat) (write : Bool) (data : List Byte) (far : FarReply) : Node :=
  if isRemote ofs then n.toRemote ofs len write data far else n.toField ofs len write far
/-- The far side can be reached. -/
def Node.farReached (n : Node) (ofs len : Nat) : Bool :=
  if isRemote ofs then n.remoteMapped ofs
  else !n.islandDown 3 && (splitAt (n.farWidth ofs) ofs len).all fun q => n.fieldServes (ofs / 0x800000) (q.1 % 0x800000) q.2

/-! ### Reads (R383, R386, R389 to R392) -/

/-- A word of BAR4: the MSI-X table and the pending bits (R378). -/
def Node.bar4Word (n : Node) (o : Nat) : Word :=
  if o < 0x400 then n.msixWord o
  else if o = 0x2000 then n.host.msixPending.extractLsb' 0 32
  else if o = 0x2004 then n.host.msixPending.extractLsb' 32 32
  else 0#32
/-- Bytes of BAR4. -/
def Node.bar4Bytes (n : Node) (o len : Nat) : List Byte :=
  let first := o / 4 * 4
  (((List.range ((o + len + 3 - first) / 4)).flatMap fun i => natLe (n.bar4Word (first + 4 * i)).toNat 4).drop (o - first)).take len
/-- A read in BAR0 meets an uncorrectable memory error at its target, in part `done`: that part and the later ones are all ones (R386, R389). -/
def Node.bar0Error (n : Node) (ofs len done : Nat) : Node × List Byte :=
  let good := min len (((splitAt 4 ofs len).take done).map (·.2)).sum
  let r := n.getSpan .host ofs good
  (r.1, r.2.1 ++ ones (len - good))
/-- A read at its target: the bytes, or none while the far side of BAR2 has not answered. -/
def Node.hostFetch (n : Node) (bar : Bar) (ofs len : Nat) (far : FarReply) : Node × Option (List Byte) :=
  match n.lineFor bar ofs len with
  | some l => (n.lineRead l, some ((l.bytes.drop (ofs - l.ofs)).take len))
  | none =>
    match bar with
    | .bar0 =>
      match far with
      | .error done _ =>
        let r := n.bar0Error ofs len done
        (r.1, some r.2)
      | _ =>
        let r := n.getSpan .host ofs len
        (if r.2.2 then r.1 else r.1.prefetchBar0 ofs len, some r.2.1)
    | .bar4 => (n, some (n.bar4Bytes ofs len))
    | .bar2 =>
      let reached := n.farReached ofs len
      let parts := n.farParts ofs len
      let n := n.toFar ofs len false [] far
      if !reached then (n, some (ones len))
      else
        match far with
        | .data b effect => (n.prefetchBar2 ofs len (b.drop len) effect, some (farBytes parts len far))
        | .error _ _ => (n, some (farBytes parts len far))
        | .timeout => (n, none)
/-- The bridge serves a host over PCIe. -/
def Node.overPcie (n : Node) : Bool := !n.cutOff .host && n.bit F.HBR_STATUS_PCIE_SEL && n.bit F.HBR_STATUS_LINK_UP
/-- The bridge serves a host over QSPI. -/
def Node.overQspi (n : Node) : Bool := !n.cutOff .host && !n.bit F.HBR_STATUS_PCIE_SEL
/-- A host read waits for its far side. -/
def Node.outstanding (n : Node) (bar : Bar) (ofs len : Nat) (data : Option (List Byte)) : Node :=
  { n with host := { n.host with delayed := n.host.delayed ++ [⟨bar, ofs, len, data⟩] } }
/-- A host access to the remote-node window has completed: a withdrawn fetch is reissued (R393). -/
def Node.remoteDone (n : Node) (bar : Bar) (ofs : Nat) : Node :=
  n.when (bar == .bar2 && isRemote ofs) fun n => { n with host := { n.host with yielded := false } }
/-- HOST_READ (R383). A BAR2 read without an answer stays outstanding until LATE_READ; while four are outstanding the bridge takes no further read
(R393). -/
def execHostRead (bar : Bar) (ofs len : Nat) (far : FarReply) (s : State) : Host.Outcome State Fault Refusal :=
  s.upd fun n => n.when (n.overPcie && decide (ofs + len ≤ barSize bar) && decide (n.host.delayed.length < 4)) fun n =>
    let r := n.hostFetch bar ofs len far
    match r.2 with
    | some b => ((r.1.when (bar == .bar2) (·.endRun 0x0A01 0)).remoteDone bar ofs).emit (.reply b)
    | none => r.1.outstanding bar ofs len none
/-- LATE_READ (R392): the oldest outstanding read of the offset completes with all ones; what the far side answers later is discarded. -/
def execLateRead (ofs : Nat) (s : State) : Host.Outcome State Fault Refusal :=
  s.upd fun n =>
    match n.host.delayed.find? fun (d : DelayedRead) => d.ofs == ofs && d.region == .bar2 && d.data.isNone with
    | none => n
    | some d => n.when n.overPcie fun n =>
      let n := { n with host := { n.host with delayed := removeFirst (· == d) n.host.delayed } }
      let n := n.when (isRemote ofs) (·.remoteFailed ofs)
      let n := ((n.count CNT_LATE_READ).putWord 0xA0000C (BitVec.ofNat 32 (2 ^ 31 + latchedAddr .bar2 ofs))).raiseFirst 0x0A01 0 [ofs]
      (n.remoteDone .bar2 ofs).emit (.reply (ones d.len))

/-! ### Writes (R386, R387) -/

/-- A write to BAR4: words of the MSI-X table; an unmasked pending message goes out. -/
def Node.bar4Write (n : Node) (o : Nat) (data : List Byte) : Node :=
  let n := n.each (spanParts o data) fun q n => n.when (decide (q.1 < 0x400)) fun n =>
    { n with host := { n.host with msixTable := SMap.set msixReset n.host.msixTable q.1 (overlay (n.msixWord q.1) q.2.1 q.2.2) } }
  n.sendPending
/-- A write at its target, and whether it failed. -/
def Node.hostPut (n : Node) (bar : Bar) (ofs : Nat) (data : List Byte) (far : FarReply) : Node × Bool :=
  match bar with
  | .bar0 => n.putSpan .host ofs data
  | .bar4 => ((n.dropHeld .host).bar4Write ofs data, false)
  | .bar2 =>
    let n := n.dropHeld .host
    let reached := n.farReached ofs data.length
    let answer := if far == .timeout && isRemote ofs then FarReply.error 0 [] else far
    let failed := match answer with
      | .error _ _ => true
      | _ => false
    ((n.toFar ofs data.length true data answer).remoteDone bar ofs, !reached || failed)
/-- A non-posted write has failed (R387). -/
def Node.npFailed (n : Node) (a : Nat) : Node := ((n.putWord 0xA00008 (BitVec.ofNat 32 (2 ^ 31 + a))).count CNT_NP_ERR).raise 0x0A03 [a]
/-- What a write leaves behind: failures are counted and latched as posted or non-posted (R387), and lines of its range go (R390). A remote write
without an answer within the budget has failed (R384). -/
def Node.hostStore (n : Node) (bar : Bar) (ofs : Nat) (data : List Byte) (far : FarReply) : Node :=
  let fence := n.nonPosted bar ofs
  let range := n.rangeAt bar ofs
  let n := n.dropLines fun l => l.bar == bar && some l.entry == range
  let r := n.hostPut bar ofs data far
  let a := latchedAddr bar ofs
  if fence then r.1.when r.2 (·.npFailed a)
  else if r.2 then (r.1.count CNT_PW_ERR).raiseFirst 0x0A02 0 [a]
  else r.1.endRun 0x0A02 0
/-- HOST_WRITE (R387). -/
def execHostWrite (bar : Bar) (ofs : Nat) (data : List Byte) (far : FarReply) (s : State) : Host.Outcome State Fault Refusal :=
  s.upd fun n => n.when (n.overPcie && decide (ofs + data.length ≤ barSize bar)) (·.hostStore bar ofs data far)

/-! ### QSPI (R380 to R382) -/

/-- A transaction's status byte, with its data (R380). -/
def Node.qspiAnswer (n : Node) (status : Byte) (data : List Byte) : Node :=
  Node.emit { n with host := { n.host with qspiStatus := status } } (.reply (status :: data))
/-- A transaction by its command and address: region, offset and length of an access within the region; none is answered ERROR (R380). -/
def qspiTarget (op lenM1 : Nat) (want : Nat) (addr : Word) : Option (Bar × Nat × Nat) :=
  let ofs := addr.toNat % 2 ^ 30
  let len := 4 * (lenM1 + 1)
  match [Bar.bar0, .bar2, .bar4][addr.toNat / 2 ^ 30]? with
  | some b => if op = want ∧ ofs + len ≤ barSize b then some (b, ofs, len) else none
  | none => none
/-- A delayed read whose far side answers while the host repeats it; bytes beyond its end fill a prefetch line (R390). -/
def Node.qspiProgress (n : Node) (d : DelayedRead) (far : FarReply) : Node :=
  let data := if far == .timeout then none else some (farBytes (n.farParts d.ofs d.len) d.len far)
  let n := match far with
    | .data b effect => n.prefetchBar2 d.ofs d.len (b.drop d.len) effect
    | _ => n
  { n with host := { n.host with delayed := n.host.delayed.map fun k => if k == d then { k with data := data } else k } }
/-- A transaction while a fence waits is answered RETRY; the fence ends as its far side completes the write or fails it (R382, R387). -/
def Node.qspiFence (n : Node) (bar : Bar) (ofs : Nat) (far : FarReply) : Node :=
  let gone : Node := { n with host := { n.host with fence := none } }
  (match far with
    | .timeout => n
    | .data _ _ => gone
    | .error _ _ => gone.npFailed (latchedAddr bar ofs)).qspiAnswer 0x5A#8 []
/-- QSPI_READ (R380, R381): the first read starts the access and gets RETRY, as does each repetition until it has completed. While a fence waits,
and for a held read, `far` is the answer of what waits. `command` is the first byte, which may name an unknown OP; a transaction that is cut short
is discarded as a whole. -/
def execQspiRead (command : Byte) (addr : Word) (cut : Bool) (far : FarReply) (s : State) : Host.Outcome State Fault Refusal :=
  s.upd fun n => n.when (n.overQspi && !cut) fun n =>
    match n.host.fence with
    | some f => n.qspiFence f.1 f.2 far
    | none =>
      match qspiTarget (command.toNat / 16) (command.toNat % 16) 1 addr with
      | none => n.qspiAnswer 0xC3#8 []
      | some (region, ofs, len) =>
        match n.host.delayed.find? fun (d : DelayedRead) => d.region == region && d.ofs == ofs && d.len == len with
        | some d =>
          match d.data with
          | some b => Node.qspiAnswer { n with host := { n.host with delayed := removeFirst (· == d) n.host.delayed } } 0xA5#8 b
          | none => (n.qspiProgress d far).qspiAnswer 0x5A#8 []
        | none =>
          if 4 ≤ n.host.delayed.length then (n.count CNT_QSPI_BUSY).qspiAnswer 0x3C#8 []
          else
            let r := n.hostFetch region ofs len far
            (r.1.outstanding region ofs len r.2).qspiAnswer 0x5A#8 []
/-- QSPI_WRITE (R380, R382). `room` says that the posted-write buffer, which empties at the pace of the far sides, can take the data. A non-posted
write that its far side has not completed is a fence. -/
def execQspiWrite (addr : Word) (data : List Byte) (cut room : Bool) (far : FarReply) (s : State) : Host.Outcome State Fault Refusal :=
  s.upd fun n => n.when (n.overQspi && !cut) fun n =>
    match n.host.fence with
    | some f => n.qspiFence f.1 f.2 far
    | none =>
      match qspiTarget 2 (data.length / 4 - 1) 2 addr with
      | none => n.qspiAnswer 0xC3#8 []
      | some (region, ofs, _) =>
        if !room then n.qspiAnswer 0x3C#8 []
        else
          let waits := far == .timeout && region == .bar2 && n.nonPosted region ofs && n.farReached ofs data.length
          let n := n.hostStore region ofs data far
          let n : Node := if waits then { n with host := { n.host with fence := some (region, ofs) } } else n
          n.qspiAnswer 0xA5#8 []
/-- QSPI_DISCARD_EXPIRY (R381): delayed reads are numbered from the oldest. -/
def execQspiDiscardExpiry (slot : Nat) (s : State) : Host.Outcome State Fault Refusal :=
  s.upd fun n =>
    match n.host.delayed[slot]? with
    | none => n
    | some d => n.when (n.overQspi && d.data.isSome) fun n =>
      let n := { n with host := { n.host with delayed := removeFirst (· == d) n.host.delayed } }
      (n.count CNT_QSPI_DISCARD).raise 0x0A05 [latchedAddr d.region d.ofs]

end Sys2Proof.Machine
end

