-- ==== Sys2Proof/Machine/Dispatch.lean ====
section
/-! DEFINITION. One arm per command: its meaning. -/

namespace Sys2Proof.Machine

/-- What a command does to everything but the queue. -/
def exec (i : Instr) (s : State) : Host.Outcome State Fault Refusal :=
  match i with
  | .registerWrite by_ addr v => Sys2Proof.Machine.execRegisterWrite by_ addr v s
  | .partialWrite by_ addr size v => Sys2Proof.Machine.execPartialWrite by_ addr size v s
  | .rcCounterRead by_ addr sameClock => Sys2Proof.Machine.execRcCounterRead by_ addr sameClock s
  | .lowWordRead by_ addr => Sys2Proof.Machine.execLowWordRead by_ addr s
  | .tableWord0Read by_ addr => Sys2Proof.Machine.execTableWord0Read by_ addr s
  | .timeLoRead by_ view => Sys2Proof.Machine.execTimeLoRead by_ view s
  | .vbattOvervoltage mv => Sys2Proof.Machine.execVbattOvervoltage mv s
  | .overvoltageTimeout mv => Sys2Proof.Machine.execOvervoltageTimeout mv s
  | .dipStart mv => Sys2Proof.Machine.execDipStart mv s
  | .dipEnd ms lowestMv mv => Sys2Proof.Machine.execDipEnd ms lowestMv mv s
  | .dipTimeout => Sys2Proof.Machine.execDipTimeout s
  | .interruptionStart mv => Sys2Proof.Machine.execInterruptionStart mv s
  | .interruptionRiddenThrough mv => Sys2Proof.Machine.execInterruptionRiddenThrough mv s
  | .interruptionWindowExpiry => Sys2Proof.Machine.execInterruptionWindowExpiry s
  | .holdupReady mv => Sys2Proof.Machine.execHoldupReady mv s
  | .holdupNotReady mv => Sys2Proof.Machine.execHoldupNotReady mv s
  | .holdupReserve mv => Sys2Proof.Machine.execHoldupReserve mv s
  | .baseplate88c t => Sys2Proof.Machine.execBaseplate88c t s
  | .baseplate95c t => Sys2Proof.Machine.execBaseplate95c t s
  | .shutdownPowerDown => Sys2Proof.Machine.execShutdownPowerDown s
  | .powerGood hostSelHigh baseplate => Sys2Proof.Machine.execPowerGood hostSelHigh baseplate s
  | .hostBridgeRelease => Sys2Proof.Machine.execHostBridgeRelease s
  | .firmwareVerified copy edOk mldsaOk svn digest storeAOk storeBOk => Sys2Proof.Machine.execFirmwareVerified copy edOk mldsaOk svn digest storeAOk storeBOk s
  | .memoryTestDone failed => Sys2Proof.Machine.execMemoryTestDone failed s
  | .vintageSectionArrived sec digestOk => Sys2Proof.Machine.execVintageSectionArrived sec digestOk s
  | .vintageSignaturesDone why header => Sys2Proof.Machine.execVintageSignaturesDone why header s
  | .startUpCommit => Sys2Proof.Machine.execStartUpCommit s
  | .rstCmdWarm by_ key => Sys2Proof.Machine.execRstCmdWarm by_ key s
  | .vintnerWatchdogExpiry => Sys2Proof.Machine.execVintnerWatchdogExpiry s
  | .lockstepMismatch => Sys2Proof.Machine.execLockstepMismatch s
  | .vintnerSramError correctable => Sys2Proof.Machine.execVintnerSramError correctable s
  | .warmResetCommit => Sys2Proof.Machine.execWarmResetCommit s
  | .pciePerst => Sys2Proof.Machine.execPciePerst s
  | .pcieHotReset => Sys2Proof.Machine.execPcieHotReset s
  | .functionLevelReset => Sys2Proof.Machine.execFunctionLevelReset s
  | .pcieLinkLoss => Sys2Proof.Machine.execPcieLinkLoss s
  | .hbrCmdReset by_ key => Sys2Proof.Machine.execHbrCmdReset by_ key s
  | .dormCtrlEnter => Sys2Proof.Machine.execDormCtrlEnter s
  | .dormancyEntryStart => Sys2Proof.Machine.execDormancyEntryStart s
  | .dormancyRecordFlush => Sys2Proof.Machine.execDormancyRecordFlush s
  | .dormancyBypassRelease => Sys2Proof.Machine.execDormancyBypassRelease s
  | .dormancyPointOfNoReturn => Sys2Proof.Machine.execDormancyPointOfNoReturn s
  | .dormancyReached => Sys2Proof.Machine.execDormancyReached s
  | .dormancyLost => Sys2Proof.Machine.execDormancyLost s
  | .wakeInAssert vbattMv => Sys2Proof.Machine.execWakeInAssert vbattMv s
  | .wakePatternMatch n samples vbattMv => Sys2Proof.Machine.execWakePatternMatch n samples vbattMv s
  | .wakeRunStart => Sys2Proof.Machine.execWakeRunStart s
  | .commitGo by_ group => Sys2Proof.Machine.execCommitGo by_ group s
  | .commitValidated group leadNs => Sys2Proof.Machine.execCommitValidated group leadNs s
  | .commitAbort group => Sys2Proof.Machine.execCommitAbort group s
  | .idleCommitTakeEffect group => Sys2Proof.Machine.execIdleCommitTakeEffect group s
  | .idleCommitTimeout group => Sys2Proof.Machine.execIdleCommitTimeout group s
  | .mcCommitGo by_ leadNs => Sys2Proof.Machine.execMcCommitGo by_ leadNs s
  | .mcCommitAbort => Sys2Proof.Machine.execMcCommitAbort s
  | .mcCommitTimeout => Sys2Proof.Machine.execMcCommitTimeout s
  | .scheduleBankCopyDone => Sys2Proof.Machine.execScheduleBankCopyDone s
  | .blendBankCopyDone => Sys2Proof.Machine.execBlendBankCopyDone s
  | .baseCycleStart bus => Sys2Proof.Machine.execBaseCycleStart bus s
  | .gateWindowOpen entry => Sys2Proof.Machine.execGateWindowOpen entry s
  | .gateWindowClose entry => Sys2Proof.Machine.execGateWindowClose entry s
  | .pdTx entry => Sys2Proof.Machine.execPdTx entry s
  | .blendJob entry inconsistent hostReads => Sys2Proof.Machine.execBlendJob entry inconsistent hostReads s
  | .pressStart entry refBegun drives => Sys2Proof.Machine.execPressStart entry refBegun drives s
  | .outUpdate entry samples vloadA vloadB => Sys2Proof.Machine.execOutUpdate entry samples vloadA vloadB s
  | .testSlot entry measured finished => Sys2Proof.Machine.execTestSlot entry measured finished s
  | .hostIrq entry => Sys2Proof.Machine.execHostIrq entry s
  | .actionComplete entry lateNs => Sys2Proof.Machine.execActionComplete entry lateNs s
  | .testSuspended id => Sys2Proof.Machine.execTestSuspended id s
  | .trellisSlewEnd => Sys2Proof.Machine.execTrellisSlewEnd s
  | .rephaseGapEnd startNs gapNs bus => Sys2Proof.Machine.execRephaseGapEnd startNs gapNs bus s
  | .gridOriginStart startNs waitNs bus => Sys2Proof.Machine.execGridOriginStart startNs waitNs bus s
  | .scheduleScrubPass findings => Sys2Proof.Machine.execScheduleScrubPass findings s
  | .fabricTransaction owner slot target write ofs bytes len => Sys2Proof.Machine.execFabricTransaction owner slot target write ofs bytes len s
  | .frameReceived port frame rx press => Sys2Proof.Machine.execFrameReceived port frame rx press s
  | .copySelected port ns => Sys2Proof.Machine.execCopySelected port ns s
  | .copySent port ecc cask => Sys2Proof.Machine.execCopySent port ecc cask s
  | .ageingSweep => Sys2Proof.Machine.execAgeingSweep s
  | .learnedEntryAged bucket way => Sys2Proof.Machine.execLearnedEntryAged bucket way s
  | .bufferScrubLine line holder result => Sys2Proof.Machine.execBufferScrubLine line holder result s
  | .phyLinkOk port info => Sys2Proof.Machine.execPhyLinkOk port info s
  | .linkUpReport port leadNs => Sys2Proof.Machine.execLinkUpReport port leadNs s
  | .phyLinkLoss port => Sys2Proof.Machine.execPhyLinkLoss port s
  | .linkDownReport port leadNs => Sys2Proof.Machine.execLinkDownReport port leadNs s
  | .linkAttemptFailed port why => Sys2Proof.Machine.execLinkAttemptFailed port why s
  | .settleMaskEnd lineB leadNs => Sys2Proof.Machine.execSettleMaskEnd lineB leadNs s
  | .wakeEmit by_ mask => Sys2Proof.Machine.execWakeEmit by_ mask s
  | .wakeEmissionEnd n => Sys2Proof.Machine.execWakeEmissionEnd n s
  | .snapCmdGo by_ v => Sys2Proof.Machine.execSnapCmdGo by_ v s
  | .snapshotComplete => Sys2Proof.Machine.execSnapshotComplete s
  | .mdCollision md => Sys2Proof.Machine.execMdCollision md s
  | .mdBackoffEnd md => Sys2Proof.Machine.execMdBackoffEnd md s
  | .lateCollision md => Sys2Proof.Machine.execLateCollision md s
  | .ttdpHelloTx n => Sys2Proof.Machine.execTtdpHelloTx n s
  | .ttdpTopologyTx n => Sys2Proof.Machine.execTtdpTopologyTx n s
  | .ttdpFrameReceived n msg leadNs => Sys2Proof.Machine.execTtdpFrameReceived n msg leadNs s
  | .lineTimeout n leadNs => Sys2Proof.Machine.execLineTimeout n leadNs s
  | .speculationTimeout => Sys2Proof.Machine.execSpeculationTimeout s
  | .topologyCommit => Sys2Proof.Machine.execTopologyCommit s
  | .leesReleaseFrame => Sys2Proof.Machine.execLeesReleaseFrame s
  | .recomputeValidated leadNs entries => Sys2Proof.Machine.execRecomputeValidated leadNs entries s
  | .recomputeFail capacity => Sys2Proof.Machine.execRecomputeFail capacity s
  | .pdReceived t => Sys2Proof.Machine.execPdReceived t s
  | .pullRequestReceived t => Sys2Proof.Machine.execPullRequestReceived t s
  | .msgCmdPull by_ ctx => Sys2Proof.Machine.execMsgCmdPull by_ ctx s
  | .subscriberTimeout ctx => Sys2Proof.Machine.execSubscriberTimeout ctx s
  | .msgCmdGo by_ session => Sys2Proof.Machine.execMsgCmdGo by_ session s
  | .mdReplyTimeout session => Sys2Proof.Machine.execMdReplyTimeout session s
  | .mdReplyReceived t => Sys2Proof.Machine.execMdReplyReceived t s
  | .mdErrorReceived t => Sys2Proof.Machine.execMdErrorReceived t s
  | .mdRequestReceived t => Sys2Proof.Machine.execMdRequestReceived t s
  | .replierTimeout session => Sys2Proof.Machine.execReplierTimeout session s
  | .pressCmdStop by_ key press => Sys2Proof.Machine.execPressCmdStop by_ key press s
  | .pressCmdTest by_ key press => Sys2Proof.Machine.execPressCmdTest by_ key press s
  | .pressCmdReload by_ key press => Sys2Proof.Machine.execPressCmdReload by_ key press s
  | .pressInputExchange press bytes lineOk diag lateNs => Sys2Proof.Machine.execPressInputExchange press bytes lineOk diag lateNs s
  | .pressStopEffect press => Sys2Proof.Machine.execPressStopEffect press s
  | .outXchg by_ press => Sys2Proof.Machine.execOutXchg by_ press s
  | .pressFault press cause lateNs => Sys2Proof.Machine.execPressFault press cause lateNs s
  | .pressCycleWatchdog press lateNs => Sys2Proof.Machine.execPressCycleWatchdog press lateNs s
  | .pressSramTestDone press ok result => Sys2Proof.Machine.execPressSramTestDone press ok result s
  | .pressSelfTestDone press ok result => Sys2Proof.Machine.execPressSelfTestDone press ok result s
  | .pressVerifyDone press ok => Sys2Proof.Machine.execPressVerifyDone press ok s
  | .ppFrameArrival frame stamp => Sys2Proof.Machine.execPpFrameArrival frame stamp s
  | .dedicatedTxHandover press frame => Sys2Proof.Machine.execDedicatedTxHandover press frame s
  | .fieldWindowRequest press write ofs len reply => Sys2Proof.Machine.execFieldWindowRequest press write ofs len reply s
  | .lineStatusChange press status => Sys2Proof.Machine.execLineStatusChange press status s
  | .canTxPush c tag frame => Sys2Proof.Machine.execCanTxPush c tag frame s
  | .canTxCancel c tag begun => Sys2Proof.Machine.execCanTxCancel c tag begun s
  | .canTxDone c ref sofAgo loopMtq => Sys2Proof.Machine.execCanTxDone c ref sofAgo loopMtq s
  | .canArbLost c ref toRef => Sys2Proof.Machine.execCanArbLost c ref toRef s
  | .canFrameReceived c frame sofAgo => Sys2Proof.Machine.execCanFrameReceived c frame sofAgo s
  | .canErrorDetected c kind transmitting inData ref dTec dRec => Sys2Proof.Machine.execCanErrorDetected c kind transmitting inData ref dTec dRec s
  | .canRecoveryDone c => Sys2Proof.Machine.execCanRecoveryDone c s
  | .canCmdRecover by_ key c => Sys2Proof.Machine.execCanCmdRecover by_ key c s
  | .canCmdClearIdc by_ key c => Sys2Proof.Machine.execCanCmdClearIdc by_ key c s
  | .canIntegrated c => Sys2Proof.Machine.execCanIntegrated c s
  | .mbUpdate c b byHost frame stamp => Sys2Proof.Machine.execMbUpdate c b byHost frame stamp s
  | .mbAckUpd c b upd byReader => Sys2Proof.Machine.execMbAckUpd c b upd byReader s
  | .signalLowWordWrite by_ signal v => Sys2Proof.Machine.execSignalLowWordWrite by_ signal v s
  | .signalHighWordWrite by_ signal v => Sys2Proof.Machine.execSignalHighWordWrite by_ signal v s
  | .blendScrubPass findings => Sys2Proof.Machine.execBlendScrubPass findings s
  | .ptpSyncReceived d offsetNs rate port tx => Sys2Proof.Machine.execPtpSyncReceived d offsetNs rate port tx s
  | .domainLossTimeout d => Sys2Proof.Machine.execDomainLossTimeout d s
  | .revertTimerExpiry => Sys2Proof.Machine.execRevertTimerExpiry s
  | .activeTimeSlewEnd => Sys2Proof.Machine.execActiveTimeSlewEnd s
  | .clk10Loss => Sys2Proof.Machine.execClk10Loss s
  | .clk10Return => Sys2Proof.Machine.execClk10Return s
  | .ppsInEdge fraction => Sys2Proof.Machine.execPpsInEdge fraction s
  | .ppsInMissing => Sys2Proof.Machine.execPpsInMissing s
  | .ppsOutPulse => Sys2Proof.Machine.execPpsOutPulse s
  | .hostRead bar ofs len far => Sys2Proof.Machine.execHostRead bar ofs len far s
  | .hostWrite bar ofs data far => Sys2Proof.Machine.execHostWrite bar ofs data far s
  | .lateRead ofs => Sys2Proof.Machine.execLateRead ofs s
  | .prefetchLineExpiry line => Sys2Proof.Machine.execPrefetchLineExpiry line s
  | .qspiRead command addr cut far => Sys2Proof.Machine.execQspiRead command addr cut far s
  | .qspiWrite addr data cut room far => Sys2Proof.Machine.execQspiWrite addr data cut room far s
  | .qspiDiscardExpiry slot => Sys2Proof.Machine.execQspiDiscardExpiry slot s
  | .deviceReadTimeout addr read => Sys2Proof.Machine.execDeviceReadTimeout addr read s
  | .npYield => Sys2Proof.Machine.execNpYield s
  | .rxCopyAtHead queue => Sys2Proof.Machine.execRxCopyAtHead queue s
  | .rxWaitExpiry queue => Sys2Proof.Machine.execRxWaitExpiry queue s
  | .rxFrameWritten ring owned => Sys2Proof.Machine.execRxFrameWritten ring owned s
  | .ringIrqDelayExpiry tx ring => Sys2Proof.Machine.execRingIrqDelayExpiry tx ring s
  | .txRingFetch descs frame => Sys2Proof.Machine.execTxRingFetch descs frame s
  | .txWriteback => Sys2Proof.Machine.execTxWriteback s
  | .tailWrite by_ tx ring v => Sys2Proof.Machine.execTailWrite by_ tx ring v s
  | .ringSizeWrite by_ tx ring size irqEn => Sys2Proof.Machine.execRingSizeWrite by_ tx ring size irqEn s
  | .interruptFire => Sys2Proof.Machine.execInterruptFire s
  | .eqPop0Read by_ => Sys2Proof.Machine.execEqPop0Read by_ s
  | .inrushWindowClose ch limiting energy => Sys2Proof.Machine.execInrushWindowClose ch limiting energy s
  | .retryAttemptFail ch energy => Sys2Proof.Machine.execRetryAttemptFail ch energy s
  | .retryStart ch => Sys2Proof.Machine.execRetryStart ch s
  | .retryWindowClose ch => Sys2Proof.Machine.execRetryWindowClose ch s
  | .thermalLatchSet ch dt tj energy => Sys2Proof.Machine.execThermalLatchSet ch dt tj energy s
  | .thermalLatchRelease ch dt tj => Sys2Proof.Machine.execThermalLatchRelease ch dt tj s
  | .outCmdClearClamp by_ key ch => Sys2Proof.Machine.execOutCmdClearClamp by_ key ch s
  | .outCmdClearInrush by_ key ch => Sys2Proof.Machine.execOutCmdClearInrush by_ key ch s
  | .outCmdClearShed by_ key ch => Sys2Proof.Machine.execOutCmdClearShed by_ key ch s
  | .openLoadDetect ch => Sys2Proof.Machine.execOpenLoadDetect ch s
  | .stbDetect ch => Sys2Proof.Machine.execStbDetect ch s
  | .vloadLow supplyA lowestMv => Sys2Proof.Machine.execVloadLow supplyA lowestMv s
  | .vloadRecover supplyA => Sys2Proof.Machine.execVloadRecover supplyA s
  | .loadShed condition interval energies => Sys2Proof.Machine.execLoadShed condition interval energies s
  | .outHoldExpiry energies => Sys2Proof.Machine.execOutHoldExpiry energies s
  | .dimPinEdge pin level energies => Sys2Proof.Machine.execDimPinEdge pin level energies s
  | .commandWordWrite by_ ch v => Sys2Proof.Machine.execCommandWordWrite by_ ch v s
  | .corkRenewalTx => Sys2Proof.Machine.execCorkRenewalTx s
  | .renewalReceived => Sys2Proof.Machine.execRenewalReceived s
  | .holdOutRelease => Sys2Proof.Machine.execHoldOutRelease s
  | .leaseExpiry => Sys2Proof.Machine.execLeaseExpiry s
  | .holdInChange lineB low => Sys2Proof.Machine.execHoldInChange lineB low s
  | .holdDisagree => Sys2Proof.Machine.execHoldDisagree s
  | .rackLinkDown => Sys2Proof.Machine.execRackLinkDown s
  | .rackLinkUp partnerCompat => Sys2Proof.Machine.execRackLinkUp partnerCompat s
  | .rackFrameReceived seq last crcOk cells set => Sys2Proof.Machine.execRackFrameReceived seq last crcOk cells set s
  | .deltaApplied => Sys2Proof.Machine.execDeltaApplied s
  | .bulkRackingDone unit0Mac cells => Sys2Proof.Machine.execBulkRackingDone unit0Mac cells s
  | .claimTimeout => Sys2Proof.Machine.execClaimTimeout s
  | .claimWatchEnd partnerHoldSeen sameUnit => Sys2Proof.Machine.execClaimWatchEnd partnerHoldSeen sameUnit s
  | .digestCompare cycle partner => Sys2Proof.Machine.execDigestCompare cycle partner s
  | .takeover => Sys2Proof.Machine.execTakeover s
  | .breakInstant energies => Sys2Proof.Machine.execBreakInstant energies s
  | .redCmdResign by_ key => Sys2Proof.Machine.execRedCmdResign by_ key s
  | .resignationReceived => Sys2Proof.Machine.execResignationReceived s
  | .redCmdSwap by_ key => Sys2Proof.Machine.execRedCmdSwap by_ key s
  | .swapIntervalExpiry => Sys2Proof.Machine.execSwapIntervalExpiry s
  | .redCmdBulkRacking by_ key => Sys2Proof.Machine.execRedCmdBulkRacking by_ key s
  | .odRead path index sub irq full regs => Sys2Proof.Machine.execOdRead path index sub irq full regs s
  | .odWrite path index sub total seg irq full regs => Sys2Proof.Machine.execOdWrite path index sub total seg irq full regs s
  | .odNextSegment path toggle seg irq full => Sys2Proof.Machine.execOdNextSegment path toggle seg irq full s
  | .odAbortTransfer path => Sys2Proof.Machine.execOdAbortTransfer path s
  | .odDescribe path index sub irq full => Sys2Proof.Machine.execOdDescribe path index sub irq full s
  | .segmentTimeout path => Sys2Proof.Machine.execSegmentTimeout path s
  | .maintMessage conn counter tagOk op toggle index sub total data => Sys2Proof.Machine.execMaintMessage conn counter tagOk op toggle index sub total data s
  | .remoteRequest src write ofs len data => Sys2Proof.Machine.execRemoteRequest src write ofs len data s
  | .authChallengeRead path => Sys2Proof.Machine.execAuthChallengeRead path s
  | .authRoleRequest path role => Sys2Proof.Machine.execAuthRoleRequest path role s
  | .authResponse path response => Sys2Proof.Machine.execAuthResponse path response s
  | .authLockExpiry path => Sys2Proof.Machine.execAuthLockExpiry path s
  | .sessionIdleLapse path => Sys2Proof.Machine.execSessionIdleLapse path s
  | .persistentStoreWrite copyAOk copyBOk => Sys2Proof.Machine.execPersistentStoreWrite copyAOk copyBOk s
  | .restoreDefaults path v => Sys2Proof.Machine.execRestoreDefaults path v s
  | .dieTempHigh sensor t from115 => Sys2Proof.Machine.execDieTempHigh sensor t from115 s
  | .railExcursion rail mv high => Sys2Proof.Machine.execRailExcursion rail mv high s
  | .railRecovered rail mv => Sys2Proof.Machine.execRailRecovered rail mv s
  | .bookRecovery goodA goodB torn lostUpdate => Sys2Proof.Machine.execBookRecovery goodA goodB torn lostUpdate s
  | .recordWrite => Sys2Proof.Machine.execRecordWrite s
  | .pointerBlockTick => Sys2Proof.Machine.execPointerBlockTick s
  | .tokenRefill code => Sys2Proof.Machine.execTokenRefill code s
  | .cbkCmdFreeze by_ key alsoUnfreeze alsoRead => Sys2Proof.Machine.execCbkCmdFreeze by_ key alsoUnfreeze alsoRead s
  | .cbkCmdUnfreeze by_ key alsoRead => Sys2Proof.Machine.execCbkCmdUnfreeze by_ key alsoRead s
  | .cbkCmdRead by_ key unreadable => Sys2Proof.Machine.execCbkCmdRead by_ key unreadable s
  | .readoutComplete => Sys2Proof.Machine.execReadoutComplete s
  | .freezeLimitExpiry => Sys2Proof.Machine.execFreezeLimitExpiry s
  | .updOpen path key slotB => Sys2Proof.Machine.execUpdOpen path key slotB s
  | .updChunk path ofs bytes => Sys2Proof.Machine.execUpdChunk path ofs bytes s
  | .updFinish path key slotB => Sys2Proof.Machine.execUpdFinish path key slotB s
  | .slotVerifyDone why => Sys2Proof.Machine.execSlotVerifyDone why s
  | .updActivate path key slotB => Sys2Proof.Machine.execUpdActivate path key slotB s
  | .updConfirm path key slotB => Sys2Proof.Machine.execUpdConfirm path key slotB s
  | .updAbort path key slotB => Sys2Proof.Machine.execUpdAbort path key slotB s
  | .updSessionTimeout => Sys2Proof.Machine.execUpdSessionTimeout s
  | .trialTimerExpiry => Sys2Proof.Machine.execTrialTimerExpiry s
  | .ownerChangeRecord path signer slot key counter edOk mldsaOk => Sys2Proof.Machine.execOwnerChangeRecord path signer slot key counter edOk mldsaOk s
  | .roleKeyWrite path role keyValue => Sys2Proof.Machine.execRoleKeyWrite path role keyValue s
  | .attestNonceWrite path nonce => Sys2Proof.Machine.execAttestNonceWrite path nonce s
  | .attestQuoteReady => Sys2Proof.Machine.execAttestQuoteReady s
  | .attestQuoteRead path => Sys2Proof.Machine.execAttestQuoteRead path s
  | .mstopCmdEnter by_ key => Sys2Proof.Machine.execMstopCmdEnter by_ key s
  | .mstopEntry => Sys2Proof.Machine.execMstopEntry s
  | .mstopMemtestDone failed badCasks => Sys2Proof.Machine.execMstopMemtestDone failed badCasks s
  | .mstopCmdExit by_ key => Sys2Proof.Machine.execMstopCmdExit by_ key s
  | .loopCmdGo by_ port v => Sys2Proof.Machine.execLoopCmdGo by_ port v s
  | .loopCmdStop by_ port => Sys2Proof.Machine.execLoopCmdStop by_ port s
  | .loopbackDone port ok bad => Sys2Proof.Machine.execLoopbackDone port ok bad s
  | .tapInstruction code => Sys2Proof.Machine.execTapInstruction code s
  | .pcieLinkUp speed width => Sys2Proof.Machine.execPcieLinkUp speed width s
  | .pcieConfigWrite bme d0 config => Sys2Proof.Machine.execPcieConfigWrite bme d0 config s
  | .inputSample mv => Sys2Proof.Machine.execInputSample mv s
  | .lampPwmPeriod ch vloadMv energy => Sys2Proof.Machine.execLampPwmPeriod ch vloadMv energy s
  | .openLoadClear ch => Sys2Proof.Machine.execOpenLoadClear ch s
  | .stbClear ch => Sys2Proof.Machine.execStbClear ch s
  | .vloadNoSupply supplyA below => Sys2Proof.Machine.execVloadNoSupply supplyA below s
  | .dieTempNormal sensor t => Sys2Proof.Machine.execDieTempNormal sensor t s
  | .ptpMessageInterval d msgType delays => Sys2Proof.Machine.execPtpMessageInterval d msgType delays s
  | .rackControlWord word => Sys2Proof.Machine.execRackControlWord word s
  | .mdConfirmReceived t => Sys2Proof.Machine.execMdConfirmReceived t s
  | .connectionClosed path => Sys2Proof.Machine.execConnectionClosed path s
  | .claimRetryDelay => Sys2Proof.Machine.execClaimRetryDelay s
  | .ppsOutPulseEnd => Sys2Proof.Machine.execPpsOutPulseEnd s
  | .wakeSupplyGood => Sys2Proof.Machine.execWakeSupplyGood s
  | .lineUnitCapture unit data drives => Sys2Proof.Machine.execLineUnitCapture unit data drives s

end Sys2Proof.Machine
end

