-- ==== Sys2Proof/Machine/Idle.lean ====
section
/-! DEFINITION. What happens when no command waits. -/

namespace Sys2Proof.Machine

/-- One 2 ns clock of the time base island, which runs whenever the node is powered (R354, log entry 6), and of the fabric wheel (R133, R138). -/
def tick (n : Node) : Node :=
  n.when n.powered fun n => Node.wheelStart { n with time := { n.time with raw := n.time.raw + 1#64 } }

end Sys2Proof.Machine
end

