-- ==== Sys2Proof/Machine/Step.lean ====
section
/-! DEFINITION. One step of the block: the command at the front of the queue acts, or, on an empty queue, one clock of the time
base passes (log entry 6). -/

namespace Sys2Proof.Machine

/-- Take the front command and carry it out with the queue's rest; on an empty queue let one 2 ns clock pass. -/
def step (s : State) : Host.Outcome State Fault Refusal :=
  match s.pending with
  | [] => .next { s with node := tick s.node }
  | c :: rest => exec c { s with pending := rest }

/-- Put the command a word spells at the front of the queue; no word spells one. -/
def State.withFetchWord (s : State) (nbits w : Nat) : State :=
  match decodeTableWord nbits w with
  | some c => { s with pending := c :: s.pending }
  | none => s

end Sys2Proof.Machine
end

