-- ==== Sys2Proof/Safety.lean ====
section
/-! DEFINITION. What claims about the node are stated in: the canonical form of its maps, what a command leaves alone, and that it
completes. -/

namespace Sys2Proof.Machine

/-- The maps of registers and buffer memory are in canonical form. -/
def Store.wf (m : Store) : Bool :=
  SMap.wf resetWord m.regs && SMap.wf resetWord m.shadow && SMap.wf resetWord m.force && SMap.wf zeroByte m.ram

/-- The maps are in canonical form, the First Pressing still holds the records `rs`, its oldest, and the vendor's role key is what `vk` says:
none stands for the factory's (R496, R512). -/
def Node.Kept (rs : List Record) (vk : Option (BitVec 256)) (n : Node) : Prop :=
  n.store.wf = true ∧ (∃ l, n.book.first = l ++ rs) ∧ SMap.get (fun _ => none) n.vault.roleKeys 3 = vk

/-- The command answers a next state, the queue as it was, of whose node `P` holds. -/
def Completes (c : Instr) (s : State) (P : Node → Prop) : Prop := ∃ t, exec c s = .next t ∧ t.pending = s.pending ∧ P t.node

/-- From `n` to `m` the counter at `a` has counted one occurrence, saturating (R92). -/
def Node.Counts (n m : Node) (a : Nat) : Prop := m.word a = BitVec.ofNat 32 (min ((n.word a).toNat + 1) 0xFFFFFFFF)

/-- An access of the initiator reaches the block (R12, R16). -/
def Node.Reaches (n : Node) (by_ : Initiator) (block : Nat) : Prop := n.cutOff by_ = false ∧ n.blockHeld block = false

/-- The event code's bucket holds a token and the queue has room, so that an occurrence is recorded (R502, R504). -/
def Node.Admits (n : Node) (code : Nat) : Prop :=
  (n.cf (F.RATE_DEPTH.at code) = 0 ∨ n.missing code < n.cf (F.RATE_DEPTH.at code)) ∧ n.book.queue.length < 256

/-- The book's queue in RAM holds a record of the event. -/
def Node.Logged (m : Node) (code : Nat) (payload : List Nat) : Prop := ∃ r ∈ m.book.queue, r.code = code ∧ r.payload = payload

/-- From `n` to `m` the register map changes at most in the words at `ws`; shadow values, values in force and buffer memory not at all. -/
def Node.OnlyWords (n m : Node) (ws : List Nat) : Prop :=
  (∀ a, a ∉ ws → m.word a = n.word a) ∧ m.store.shadow = n.store.shadow ∧ m.store.force = n.store.force ∧ m.store.ram = n.store.ram

/-- The counters that raising an event may count in: suppressed, and lost while the queue is full (R502, R504). -/
def eventWords : List Nat := [CNT_CBK_SUPPR, CNT_CBK_QOVF]
/-- The counters that an access may count in: crossings aborted and low words discarded (R16, R328). -/
def accessWords : List Nat := [CNT_XABORT, CNT_PARTIAL_WR]

/-- A register, by its home address, that a write stores to as its access codes say: no command, no guard and no data area has a rule of its own
for it (R4). -/
def isPlainReg (a : Nat) : Bool :=
  (commitRegs.find? (·.2 == a)).isNone && !isCommand a && !deadEntry a && !(decide (0xA00400 ≤ a) && decide (a < 0xA00600)) &&
    !(decide (0xA00200 ≤ a) && decide (a ≤ 0xA0020C)) && !(decide (0xB10000 ≤ a) && decide (a < 0xB10060)) &&
    !(decide (0x740000 ≤ a) && decide (a < 0x750000)) && decide (a < 0x1000000)

/-- `n` with what writing registers may change in `m`. -/
def Node.withStore (n m : Node) : Node := { n with store := m.store }
/-- `n` with what raising events may change in `m`: registers, the book's queue and buckets, and the vectors that fire. -/
def Node.withEvents (n m : Node) : Node :=
  { n with
    store := m.store
    book := { n.book with
      queue := m.book.queue, missing := m.book.missing, pendingCount := m.book.pendingCount, lostFull := m.book.lostFull }
    host := { n.host with fires := m.host.fires } }
/-- `n` with what an access and its events may change in `m`: the initiator's held low word too. -/
def Node.withAccess (n m : Node) : Node := { n.withEvents m with blend := { n.blend with heldLow := m.blend.heldLow } }

/-- Where the command answers a next state, the queue is as it was, the node is `keep` of the node before and after, and the register map
has changed at most at `ws`. -/
def Changes (c : Instr) (s : State) (keep : Node → Node → Node) (ws : List Nat) : Prop :=
  ∀ t, exec c s = .next t → t.pending = s.pending ∧ t.node = keep s.node t.node ∧ s.node.OnlyWords t.node ws

/-! ### Replies of the object dictionary -/

/-- The first thing emitted from `n` to `m`, where it is a reply of the object dictionary. -/
def Node.firstReply (n m : Node) : Option OdReply :=
  match m.out.drop (m.out.length - (n.out.length + 1)) with
  | .odReply r :: out => if out = n.out then some r else none
  | _ => none
/-- A reply with a header and data as a path without a mailbox carries it: an SDO server's frame, a maintenance connection's counter and tag (R477,
R486, R527). -/
def Node.replyOn (n : Node) (p : Path) (h : OdHeader) (data : List Byte) : OdReply :=
  ⟨p, h, data, carriedAbort p h.abort,
    match p with
    | .sdo q => some (n.sdoFrame q h (carriedAbort p h.abort) data)
    | _ => none,
    match p with
    | .maint _ => n.nextTag p (h.bytes ++ data)
    | _ => none⟩
/-- The server takes a request for an index on the path, and the reply leaves: the path is open (R480), a Press's request has a slot (R142), and on
a unit of a pair that is not active nothing leaves on VP (R467). -/
def Node.Serves (n : Node) (p : Path) (index : Nat) : Prop :=
  n.serverUp = true ∧ n.serverFull = false ∧ n.pathOpen p index = true ∧
    (pathKind p = 3 ∨ pathKind p = 4 → n.ownsSlot 1 = true ∧ n.islandDown 5 = false) ∧
    (n.standby = true → pathKind p = 3 ∨ pathKind p = 4)
/-- The node once it has taken a request: an SDO server's has left its receive FIFO (R312, R486). -/
def Node.requestTaken (n : Node) (p : Path) : Node :=
  match p with
  | .sdo q => n.takeSdoRequest q
  | _ => n

/-! ### Parts of the node, and those a command may change -/

/-- A part of the node: a component, or one of the four maps of its store. -/
inductive Part where
  | power | supply | pins | commits | mc | faults | runs | hiLatch | winLatch | timeLatch | book | trellis | cellar
  | ports | ina | flows | sessions | mdStarted | presses | images | cans | lineUnits | blend | time | host | outs | pair
  | vnt | vault | maint | out | fresh | regs | shadow | force | ram
  deriving DecidableEq, Repr

/-- `m` has the part as `n` has it. -/
def Node.Same (pt : Part) (n m : Node) : Prop :=
  match pt with
  | .power => m.power = n.power
  | .supply => m.supply = n.supply
  | .pins => m.pins = n.pins
  | .commits => m.commits = n.commits
  | .mc => m.mc = n.mc
  | .faults => m.faults = n.faults
  | .runs => m.runs = n.runs
  | .hiLatch => m.hiLatch = n.hiLatch
  | .winLatch => m.winLatch = n.winLatch
  | .timeLatch => m.timeLatch = n.timeLatch
  | .book => m.book = n.book
  | .trellis => m.trellis = n.trellis
  | .cellar => m.cellar = n.cellar
  | .ports => m.ports = n.ports
  | .ina => m.ina = n.ina
  | .flows => m.flows = n.flows
  | .sessions => m.sessions = n.sessions
  | .mdStarted => m.mdStarted = n.mdStarted
  | .presses => m.presses = n.presses
  | .images => m.images = n.images
  | .cans => m.cans = n.cans
  | .lineUnits => m.lineUnits = n.lineUnits
  | .blend => m.blend = n.blend
  | .time => m.time = n.time
  | .host => m.host = n.host
  | .outs => m.outs = n.outs
  | .pair => m.pair = n.pair
  | .vnt => m.vnt = n.vnt
  | .vault => m.vault = n.vault
  | .maint => m.maint = n.maint
  | .out => m.out = n.out
  | .fresh => m.fresh = n.fresh
  | .regs => m.store.regs = n.store.regs
  | .shadow => m.store.shadow = n.store.shadow
  | .force => m.store.force = n.store.force
  | .ram => m.store.ram = n.store.ram

/-- The part is none of those in the list. -/
def Part.off (pt : Part) (l : List Part) : Bool := !l.contains pt

/-- The parts that a command may change; every other part it leaves as it is. Raising an event changes registers (two counters), the book
and, as its vector fires, the host bridge. -/
def touches : Instr → List Part
  | .registerWrite .. => 
      [.power, .supply, .pins, .commits, .mc, .faults, .runs, .hiLatch, .winLatch, .timeLatch, .book, .trellis,
       .cellar, .ports, .ina, .flows, .sessions, .mdStarted, .presses, .images, .cans, .lineUnits, .blend, .time,
       .host, .outs, .pair, .vnt, .vault, .maint, .out, .fresh, .regs, .shadow, .force, .ram]
  | .partialWrite .. => [.book, .blend, .host, .regs]
  | .rcCounterRead .. => [.pins, .runs, .hiLatch, .winLatch, .timeLatch, .host, .out, .fresh, .regs]
  | .lowWordRead .. => [.pins, .runs, .hiLatch, .winLatch, .timeLatch, .host, .out, .fresh, .regs]
  | .tableWord0Read .. => [.pins, .runs, .hiLatch, .winLatch, .timeLatch, .host, .out, .fresh, .regs]
  | .timeLoRead .. => [.pins, .runs, .hiLatch, .winLatch, .timeLatch, .host, .out, .fresh, .regs]
  | .vbattOvervoltage .. => 
      [.power, .supply, .pins, .book, .trellis, .cellar, .ports, .ina, .host, .outs, .pair, .vault, .out, .fresh,
       .regs]
  | .overvoltageTimeout .. => 
      [.power, .supply, .pins, .book, .trellis, .cellar, .ports, .ina, .host, .outs, .pair, .vault, .out, .fresh,
       .regs]
  | .dipStart .. => [.supply, .book, .host, .regs]
  | .dipEnd .. => [.supply, .book, .host, .regs]
  | .dipTimeout => 
      [.power, .supply, .pins, .book, .trellis, .cellar, .ports, .ina, .host, .outs, .pair, .vault, .out, .fresh,
       .regs]
  | .interruptionStart .. => [.supply, .book, .host, .regs]
  | .interruptionRiddenThrough .. => [.supply, .book, .host, .regs]
  | .interruptionWindowExpiry => 
      [.power, .supply, .pins, .book, .trellis, .cellar, .ports, .ina, .host, .outs, .pair, .vault, .out, .fresh,
       .regs]
  | .holdupReady .. => [.regs]
  | .holdupNotReady .. => [.regs]
  | .holdupReserve .. => 
      [.power, .supply, .pins, .book, .trellis, .cellar, .ports, .ina, .host, .outs, .pair, .vault, .out, .fresh,
       .regs]
  | .baseplate88c .. => 
      [.power, .supply, .pins, .book, .trellis, .cellar, .ports, .ina, .host, .outs, .pair, .vault, .out, .fresh,
       .regs]
  | .baseplate95c .. => 
      [.power, .supply, .pins, .book, .trellis, .cellar, .ports, .ina, .host, .outs, .pair, .vault, .out, .fresh,
       .regs]
  | .shutdownPowerDown => 
      [.power, .supply, .pins, .commits, .mc, .faults, .runs, .hiLatch, .winLatch, .timeLatch, .book, .trellis,
       .cellar, .ports, .ina, .flows, .sessions, .mdStarted, .presses, .images, .cans, .lineUnits, .blend, .time,
       .host, .outs, .pair, .vnt, .vault, .maint, .regs, .shadow, .force, .ram]
  | .powerGood .. => 
      [.power, .supply, .pins, .commits, .mc, .faults, .runs, .hiLatch, .winLatch, .timeLatch, .book, .trellis,
       .cellar, .ports, .ina, .flows, .sessions, .mdStarted, .presses, .images, .cans, .lineUnits, .blend, .time,
       .host, .outs, .pair, .vnt, .vault, .maint, .out, .fresh, .regs, .shadow, .force, .ram]
  | .hostBridgeRelease => [.trellis, .host, .regs]
  | .firmwareVerified .. => [.supply, .faults, .book, .trellis, .host, .pair, .vnt, .vault, .regs, .shadow]
  | .memoryTestDone .. => [.supply, .faults, .book, .trellis, .host, .maint, .regs, .shadow]
  | .vintageSectionArrived .. => 
      [.power, .supply, .pins, .commits, .mc, .faults, .runs, .hiLatch, .winLatch, .timeLatch, .book, .trellis,
       .cellar, .ports, .ina, .flows, .sessions, .mdStarted, .presses, .images, .cans, .lineUnits, .blend, .time,
       .host, .outs, .pair, .vnt, .vault, .maint, .out, .fresh, .regs, .shadow, .force, .ram]
  | .vintageSignaturesDone .. => 
      [.power, .supply, .pins, .commits, .mc, .faults, .runs, .hiLatch, .winLatch, .timeLatch, .book, .trellis,
       .cellar, .ports, .ina, .flows, .sessions, .mdStarted, .presses, .images, .cans, .lineUnits, .blend, .time,
       .host, .outs, .pair, .vnt, .vault, .maint, .out, .fresh, .regs, .shadow, .force, .ram]
  | .startUpCommit => 
      [.supply, .pins, .runs, .book, .trellis, .cellar, .ports, .ina, .flows, .presses, .images, .blend, .time,
       .host, .outs, .pair, .vnt, .vault, .out, .fresh, .regs, .shadow, .force, .ram]
  | .rstCmdWarm .. => 
      [.power, .supply, .pins, .commits, .mc, .faults, .runs, .hiLatch, .winLatch, .timeLatch, .book, .trellis,
       .cellar, .ports, .ina, .flows, .sessions, .mdStarted, .presses, .images, .cans, .lineUnits, .blend, .time,
       .host, .outs, .pair, .vnt, .vault, .maint, .out, .regs, .shadow, .force, .ram]
  | .vintnerWatchdogExpiry => 
      [.power, .supply, .pins, .commits, .mc, .faults, .runs, .hiLatch, .winLatch, .timeLatch, .book, .trellis,
       .cellar, .ports, .ina, .flows, .sessions, .mdStarted, .presses, .images, .cans, .lineUnits, .blend, .time,
       .host, .outs, .pair, .vnt, .vault, .maint, .out, .regs, .shadow, .force, .ram]
  | .lockstepMismatch => 
      [.power, .supply, .pins, .commits, .mc, .faults, .runs, .hiLatch, .winLatch, .timeLatch, .book, .trellis,
       .cellar, .ports, .ina, .flows, .sessions, .mdStarted, .presses, .images, .cans, .lineUnits, .blend, .time,
       .host, .outs, .pair, .vnt, .vault, .maint, .out, .regs, .shadow, .force, .ram]
  | .vintnerSramError .. => [.supply, .regs]
  | .warmResetCommit => 
      [.supply, .pins, .runs, .book, .trellis, .cellar, .ports, .ina, .flows, .presses, .images, .blend, .time,
       .host, .outs, .pair, .vnt, .vault, .out, .fresh, .regs, .shadow, .force, .ram]
  | .pciePerst => [.pins, .book, .cellar, .sessions, .host, .vnt, .vault, .regs]
  | .pcieHotReset => [.pins, .book, .cellar, .sessions, .host, .vnt, .vault, .regs]
  | .functionLevelReset => [.pins, .book, .cellar, .sessions, .host, .vnt, .vault, .regs]
  | .pcieLinkLoss => [.pins, .book, .cellar, .sessions, .host, .vnt, .vault, .regs]
  | .hbrCmdReset .. => [.pins, .book, .cellar, .sessions, .blend, .host, .vnt, .vault, .regs]
  | .dormCtrlEnter => [.power, .supply, .book, .host, .out, .regs]
  | .dormancyEntryStart => [.supply, .book, .trellis, .host, .outs, .fresh, .regs]
  | .dormancyRecordFlush => [.supply, .book, .host, .vault, .regs]
  | .dormancyBypassRelease => [.supply, .book, .cellar, .ports, .host, .regs]
  | .dormancyPointOfNoReturn => [.supply, .pins, .regs]
  | .dormancyReached => 
      [.power, .supply, .pins, .commits, .mc, .faults, .runs, .hiLatch, .winLatch, .timeLatch, .book, .trellis,
       .cellar, .ports, .ina, .flows, .sessions, .mdStarted, .presses, .images, .cans, .lineUnits, .blend, .time,
       .host, .outs, .pair, .vnt, .vault, .maint, .regs, .shadow, .force, .ram]
  | .dormancyLost => 
      [.power, .supply, .pins, .commits, .mc, .faults, .runs, .hiLatch, .winLatch, .timeLatch, .book, .trellis,
       .cellar, .ports, .ina, .flows, .sessions, .mdStarted, .presses, .images, .cans, .lineUnits, .blend, .time,
       .host, .outs, .pair, .vnt, .vault, .maint, .regs, .shadow, .force, .ram]
  | .wakeInAssert .. => 
      [.power, .supply, .pins, .commits, .mc, .faults, .runs, .hiLatch, .winLatch, .timeLatch, .book, .trellis,
       .cellar, .ports, .ina, .flows, .sessions, .mdStarted, .presses, .images, .cans, .lineUnits, .blend, .time,
       .host, .outs, .pair, .vnt, .vault, .maint, .out, .regs, .shadow, .force, .ram]
  | .wakePatternMatch .. => 
      [.power, .supply, .pins, .commits, .mc, .faults, .runs, .hiLatch, .winLatch, .timeLatch, .book, .trellis,
       .cellar, .ports, .ina, .flows, .sessions, .mdStarted, .presses, .images, .cans, .lineUnits, .blend, .time,
       .host, .outs, .pair, .vnt, .vault, .maint, .out, .regs, .shadow, .force, .ram]
  | .wakeRunStart => 
      [.supply, .pins, .runs, .book, .trellis, .cellar, .ports, .ina, .flows, .presses, .images, .blend, .time,
       .host, .outs, .pair, .vnt, .vault, .out, .fresh, .regs, .shadow, .force, .ram]
  | .commitGo .. => [.commits, .book, .blend, .host, .regs]
  | .commitValidated .. => [.commits, .runs, .book, .cellar, .ina, .sessions, .presses, .host, .pair, .vnt, .out, .regs, .shadow, .ram]
  | .commitAbort .. => 
      [.commits, .mc, .runs, .book, .trellis, .cellar, .ina, .sessions, .presses, .host, .vnt, .out, .regs, .shadow,
       .ram]
  | .idleCommitTakeEffect .. => 
      [.pins, .commits, .faults, .runs, .book, .trellis, .cellar, .ports, .ina, .flows, .sessions, .presses,
       .cans, .lineUnits, .blend, .time, .host, .outs, .vnt, .out, .fresh, .regs, .shadow, .force, .ram]
  | .idleCommitTimeout .. => [.commits, .runs, .book, .cellar, .ina, .sessions, .presses, .host, .vnt, .out, .regs, .shadow, .ram]
  | .mcCommitGo .. => [.mc, .book, .blend, .host, .pair, .out, .regs]
  | .mcCommitAbort => [.mc, .book, .trellis, .host, .regs, .shadow]
  | .mcCommitTimeout => [.mc, .book, .host, .regs]
  | .scheduleBankCopyDone => [.regs]
  | .blendBankCopyDone => [.regs]
  | .baseCycleStart .. => 
      [.power, .supply, .pins, .commits, .mc, .faults, .runs, .book, .trellis, .cellar, .ports, .ina, .flows,
       .sessions, .presses, .cans, .lineUnits, .blend, .time, .host, .outs, .pair, .vnt, .out, .fresh, .regs,
       .shadow, .force, .ram]
  | .gateWindowOpen .. => [.trellis]
  | .gateWindowClose .. => [.trellis]
  | .pdTx .. => [.runs, .book, .trellis, .cellar, .ina, .flows, .presses, .host, .pair, .out, .fresh, .regs, .ram]
  | .blendJob .. => [.runs, .book, .trellis, .flows, .blend, .host, .outs, .pair, .out, .regs, .ram]
  | .pressStart .. => [.pins, .runs, .book, .trellis, .presses, .cans, .lineUnits, .host, .out, .regs, .ram]
  | .outUpdate .. => [.book, .host, .outs, .pair, .regs]
  | .testSlot .. => [.book, .trellis, .host, .outs, .regs]
  | .hostIrq .. => [.host, .regs]
  | .actionComplete .. => [.book, .trellis, .host, .regs]
  | .testSuspended .. => [.book, .host, .regs]
  | .trellisSlewEnd => [.regs]
  | .rephaseGapEnd .. => 
      [.power, .supply, .pins, .commits, .mc, .faults, .runs, .book, .trellis, .cellar, .ports, .ina, .flows,
       .sessions, .presses, .cans, .lineUnits, .blend, .time, .host, .outs, .pair, .vnt, .out, .fresh, .regs,
       .shadow, .force, .ram]
  | .gridOriginStart .. => 
      [.power, .supply, .pins, .commits, .mc, .faults, .runs, .book, .trellis, .cellar, .ports, .ina, .flows,
       .sessions, .presses, .cans, .lineUnits, .blend, .time, .host, .outs, .pair, .vnt, .out, .fresh, .regs,
       .shadow, .force, .ram]
  | .scheduleScrubPass .. => [.book, .trellis, .host, .regs]
  | .fabricTransaction .. => 
      [.power, .supply, .pins, .commits, .mc, .faults, .runs, .hiLatch, .winLatch, .timeLatch, .book, .trellis,
       .cellar, .ports, .ina, .flows, .sessions, .mdStarted, .presses, .images, .cans, .lineUnits, .blend, .time,
       .host, .outs, .pair, .vnt, .vault, .maint, .out, .fresh, .regs, .shadow, .force, .ram]
  | .frameReceived .. => [.runs, .book, .cellar, .ina, .presses, .host, .out, .regs]
  | .copySelected .. => [.runs, .book, .cellar, .host, .regs]
  | .copySent .. => [.faults, .runs, .book, .cellar, .host, .out, .regs]
  | .ageingSweep => [.book, .cellar, .host, .regs]
  | .learnedEntryAged .. => [.cellar]
  | .bufferScrubLine .. => [.faults, .book, .cellar, .host, .regs]
  | .phyLinkOk .. => [.book, .ports, .host, .regs]
  | .linkUpReport .. => [.book, .trellis, .cellar, .ports, .ina, .host, .out, .regs, .shadow]
  | .phyLinkLoss .. => [.cellar, .ports, .host, .regs]
  | .linkDownReport .. => [.book, .trellis, .cellar, .ports, .ina, .host, .out, .regs, .shadow]
  | .linkAttemptFailed .. => [.book, .host, .regs]
  | .settleMaskEnd .. => [.book, .trellis, .cellar, .ports, .ina, .host, .out, .regs, .shadow]
  | .wakeEmit .. => [.book, .cellar, .ports, .blend, .host, .out, .regs]
  | .wakeEmissionEnd .. => [.regs]
  | .snapCmdGo .. => [.blend, .host, .regs]
  | .snapshotComplete => [.host, .regs]
  | .mdCollision .. => [.book, .cellar, .ports, .host, .fresh, .regs]
  | .mdBackoffEnd .. => [.ports]
  | .lateCollision .. => [.book, .cellar, .host, .regs]
  | .ttdpHelloTx .. => [.book, .trellis, .cellar, .ina, .host, .regs, .shadow]
  | .ttdpTopologyTx .. => [.book, .trellis, .cellar, .ina, .host, .regs, .shadow]
  | .ttdpFrameReceived .. => [.book, .trellis, .cellar, .ina, .host, .regs, .shadow]
  | .lineTimeout .. => [.book, .trellis, .cellar, .ina, .host, .regs, .shadow]
  | .speculationTimeout => [.book, .trellis, .cellar, .ina, .host, .regs, .shadow]
  | .topologyCommit => [.faults, .runs, .book, .trellis, .cellar, .ina, .flows, .blend, .host, .regs, .shadow, .force]
  | .leesReleaseFrame => [.book, .cellar, .ina, .host, .out, .regs]
  | .recomputeValidated .. => [.ina, .regs, .shadow]
  | .recomputeFail .. => [.faults, .book, .ina, .host, .regs]
  | .pdReceived .. => [.book, .flows, .host, .regs, .ram]
  | .pullRequestReceived .. => [.runs, .book, .cellar, .ina, .flows, .presses, .host, .out, .regs]
  | .msgCmdPull .. => [.runs, .book, .cellar, .ina, .flows, .presses, .blend, .host, .out, .fresh, .regs]
  | .subscriberTimeout .. => [.book, .host, .regs, .ram]
  | .msgCmdGo .. => [.runs, .book, .cellar, .ina, .sessions, .mdStarted, .presses, .blend, .host, .out, .regs]
  | .mdReplyTimeout .. => [.runs, .book, .cellar, .ina, .sessions, .presses, .host, .out, .regs]
  | .mdReplyReceived .. => [.runs, .book, .cellar, .ina, .presses, .host, .out, .regs, .ram]
  | .mdErrorReceived .. => [.book, .host, .regs]
  | .mdRequestReceived .. => 
      [.power, .supply, .pins, .commits, .mc, .faults, .runs, .hiLatch, .winLatch, .timeLatch, .book, .trellis,
       .cellar, .ports, .ina, .flows, .sessions, .mdStarted, .presses, .images, .cans, .lineUnits, .blend, .time,
       .host, .outs, .pair, .vnt, .vault, .maint, .out, .fresh, .regs, .shadow, .force, .ram]
  | .replierTimeout .. => [.book, .host, .regs]
  | .pressCmdStop .. => [.faults, .book, .trellis, .presses, .cans, .lineUnits, .blend, .host, .regs, .ram]
  | .pressCmdTest .. => [.faults, .book, .trellis, .presses, .cans, .lineUnits, .blend, .host, .regs, .ram]
  | .pressCmdReload .. => [.faults, .book, .trellis, .presses, .cans, .lineUnits, .blend, .host, .regs, .ram]
  | .pressInputExchange .. => [.faults, .book, .trellis, .presses, .cans, .lineUnits, .host, .regs, .ram]
  | .pressStopEffect .. => [.faults, .book, .trellis, .presses, .cans, .lineUnits, .host, .regs, .ram]
  | .outXchg .. => 
      [.power, .supply, .pins, .commits, .mc, .faults, .runs, .hiLatch, .winLatch, .timeLatch, .book, .trellis,
       .cellar, .ports, .ina, .flows, .sessions, .mdStarted, .presses, .images, .cans, .lineUnits, .blend, .time,
       .host, .outs, .pair, .vnt, .vault, .maint, .out, .fresh, .regs, .shadow, .force, .ram]
  | .pressFault .. => 
      [.power, .supply, .pins, .commits, .mc, .faults, .runs, .hiLatch, .winLatch, .timeLatch, .book, .trellis,
       .cellar, .ports, .ina, .flows, .sessions, .mdStarted, .presses, .images, .cans, .lineUnits, .blend, .time,
       .host, .outs, .pair, .vnt, .vault, .maint, .out, .fresh, .regs, .shadow, .force, .ram]
  | .pressCycleWatchdog .. => 
      [.power, .supply, .pins, .commits, .mc, .faults, .runs, .hiLatch, .winLatch, .timeLatch, .book, .trellis,
       .cellar, .ports, .ina, .flows, .sessions, .mdStarted, .presses, .images, .cans, .lineUnits, .blend, .time,
       .host, .outs, .pair, .vnt, .vault, .maint, .out, .regs, .shadow, .force, .ram]
  | .pressSramTestDone .. => [.book, .host, .regs, .ram]
  | .pressSelfTestDone .. => [.faults, .book, .presses, .host, .regs, .ram]
  | .pressVerifyDone .. => [.book, .presses, .lineUnits, .host, .regs, .ram]
  | .ppFrameArrival .. => [.runs, .book, .presses, .host, .out, .regs]
  | .dedicatedTxHandover .. => [.book, .host, .out, .regs]
  | .fieldWindowRequest .. => [.host, .out, .regs]
  | .lineStatusChange .. => [.book, .host, .regs, .ram]
  | .canTxPush .. => [.cans, .out, .regs]
  | .canTxCancel .. => [.cans, .out, .regs]
  | .canTxDone .. => [.book, .cans, .host, .out, .fresh, .regs]
  | .canArbLost .. => [.cans, .regs]
  | .canFrameReceived .. => [.runs, .book, .cans, .host, .fresh, .regs]
  | .canErrorDetected .. => [.book, .cans, .host, .regs]
  | .canRecoveryDone .. => [.book, .cans, .host, .regs]
  | .canCmdRecover .. => [.book, .blend, .host, .regs]
  | .canCmdClearIdc .. => [.blend, .host, .regs]
  | .canIntegrated .. => [.regs]
  | .mbUpdate .. => [.host, .regs]
  | .mbAckUpd .. => [.host, .regs]
  | .signalLowWordWrite .. => 
      [.power, .supply, .pins, .commits, .mc, .faults, .runs, .hiLatch, .winLatch, .timeLatch, .book, .trellis,
       .cellar, .ports, .ina, .flows, .sessions, .mdStarted, .presses, .images, .cans, .lineUnits, .blend, .time,
       .host, .outs, .pair, .vnt, .vault, .maint, .out, .fresh, .regs, .shadow, .force, .ram]
  | .signalHighWordWrite .. => 
      [.power, .supply, .pins, .commits, .mc, .faults, .runs, .hiLatch, .winLatch, .timeLatch, .book, .trellis,
       .cellar, .ports, .ina, .flows, .sessions, .mdStarted, .presses, .images, .cans, .lineUnits, .blend, .time,
       .host, .outs, .pair, .vnt, .vault, .maint, .out, .fresh, .regs, .shadow, .force, .ram]
  | .blendScrubPass .. => [.book, .blend, .host, .regs]
  | .ptpSyncReceived .. => [.pins, .book, .trellis, .time, .host, .regs]
  | .domainLossTimeout .. => [.pins, .book, .trellis, .time, .host, .regs]
  | .revertTimerExpiry => [.pins, .book, .trellis, .time, .host, .regs]
  | .activeTimeSlewEnd => [.time, .regs]
  | .clk10Loss => [.book, .host, .regs]
  | .clk10Return => [.regs]
  | .ppsInEdge .. => [.pins, .time, .host, .regs]
  | .ppsInMissing => [.book, .host, .regs]
  | .ppsOutPulse => [.pins, .time]
  | .hostRead .. => [.pins, .runs, .hiLatch, .winLatch, .timeLatch, .book, .cellar, .ina, .presses, .host, .out, .fresh, .regs]
  | .hostWrite .. => 
      [.power, .supply, .pins, .commits, .mc, .faults, .runs, .hiLatch, .winLatch, .timeLatch, .book, .trellis,
       .cellar, .ports, .ina, .flows, .sessions, .mdStarted, .presses, .images, .cans, .lineUnits, .blend, .time,
       .host, .outs, .pair, .vnt, .vault, .maint, .out, .fresh, .regs, .shadow, .force, .ram]
  | .lateRead .. => [.runs, .book, .host, .out, .regs]
  | .prefetchLineExpiry .. => [.book, .host, .regs]
  | .qspiRead .. => [.pins, .runs, .hiLatch, .winLatch, .timeLatch, .book, .cellar, .ina, .presses, .host, .out, .fresh, .regs]
  | .qspiWrite .. => 
      [.power, .supply, .pins, .commits, .mc, .faults, .runs, .hiLatch, .winLatch, .timeLatch, .book, .trellis,
       .cellar, .ports, .ina, .flows, .sessions, .mdStarted, .presses, .images, .cans, .lineUnits, .blend, .time,
       .host, .outs, .pair, .vnt, .vault, .maint, .out, .fresh, .regs, .shadow, .force, .ram]
  | .qspiDiscardExpiry .. => [.book, .host, .regs]
  | .deviceReadTimeout .. => [.book, .host, .regs]
  | .npYield => [.host, .regs]
  | .rxCopyAtHead .. => [.runs, .book, .cellar, .host, .regs]
  | .rxWaitExpiry .. => [.runs, .book, .cellar, .host, .regs]
  | .rxFrameWritten .. => [.cellar, .host, .out, .regs]
  | .ringIrqDelayExpiry .. => [.host, .regs]
  | .txRingFetch .. => [.runs, .book, .cellar, .ina, .presses, .host, .out, .fresh, .regs]
  | .txWriteback => [.host, .out, .regs]
  | .tailWrite .. => [.runs, .book, .cellar, .blend, .host, .regs]
  | .ringSizeWrite .. => [.runs, .book, .cellar, .blend, .host, .regs]
  | .interruptFire => [.pins, .runs, .book, .host, .out, .regs]
  | .eqPop0Read .. => [.pins, .runs, .hiLatch, .winLatch, .timeLatch, .host, .out, .fresh, .regs]
  | .inrushWindowClose .. => [.book, .host, .outs, .regs]
  | .retryAttemptFail .. => [.book, .host, .outs, .regs]
  | .retryStart .. => [.outs, .regs]
  | .retryWindowClose .. => [.book, .host, .outs, .regs]
  | .thermalLatchSet .. => [.book, .host, .outs, .regs]
  | .thermalLatchRelease .. => [.book, .host, .outs, .regs]
  | .outCmdClearClamp .. => [.book, .blend, .host, .outs, .regs]
  | .outCmdClearInrush .. => [.book, .blend, .host, .outs, .regs]
  | .outCmdClearShed .. => [.book, .blend, .host, .outs, .regs]
  | .openLoadDetect .. => [.book, .host, .outs, .regs]
  | .stbDetect .. => [.book, .host, .outs, .regs]
  | .vloadLow .. => [.book, .host, .regs]
  | .vloadRecover .. => [.regs]
  | .loadShed .. => [.book, .host, .outs, .regs]
  | .outHoldExpiry .. => [.book, .host, .outs, .regs]
  | .dimPinEdge .. => [.book, .host, .outs, .regs]
  | .commandWordWrite .. => 
      [.power, .supply, .pins, .commits, .mc, .faults, .runs, .hiLatch, .winLatch, .timeLatch, .book, .trellis,
       .cellar, .ports, .ina, .flows, .sessions, .mdStarted, .presses, .images, .cans, .lineUnits, .blend, .time,
       .host, .outs, .pair, .vnt, .vault, .maint, .out, .fresh, .regs, .shadow, .force, .ram]
  | .corkRenewalTx => [.pins, .book, .cellar, .ina, .host, .pair, .out, .regs]
  | .renewalReceived => [.pins, .cellar, .ina, .host, .pair, .out, .regs]
  | .holdOutRelease => [.pins, .regs]
  | .leaseExpiry => [.book, .host, .pair, .regs]
  | .holdInChange .. => [.pins, .runs, .book, .cellar, .ina, .host, .pair, .out, .regs]
  | .holdDisagree => [.runs, .book, .host, .regs]
  | .rackLinkDown => [.book, .host, .pair, .regs]
  | .rackLinkUp .. => [.book, .host, .vnt, .out, .regs]
  | .rackFrameReceived .. => [.commits, .mc, .pair, .out, .regs, .shadow]
  | .deltaApplied => [.book, .flows, .host, .pair, .regs, .shadow, .force]
  | .bulkRackingDone .. => [.book, .flows, .host, .pair, .vnt, .regs, .shadow, .force, .ram]
  | .claimTimeout => [.out, .regs]
  | .claimWatchEnd .. => [.pins, .book, .cellar, .ina, .host, .pair, .out, .regs]
  | .digestCompare .. => [.runs, .book, .host, .pair, .regs]
  | .takeover => 
      [.pins, .runs, .book, .trellis, .cellar, .ina, .flows, .sessions, .blend, .host, .outs, .pair, .out, .regs,
       .shadow, .ram]
  | .breakInstant .. => [.book, .host, .outs, .pair, .regs]
  | .redCmdResign .. => [.pins, .book, .cellar, .ina, .blend, .host, .pair, .out, .regs]
  | .resignationReceived => [.pair]
  | .redCmdSwap .. => [.pins, .book, .cellar, .ina, .blend, .host, .pair, .out, .regs]
  | .swapIntervalExpiry => [.pair]
  | .redCmdBulkRacking .. => [.pins, .book, .cellar, .ina, .blend, .host, .pair, .out, .regs]
  | .odRead .. => 
      [.power, .supply, .pins, .commits, .mc, .faults, .runs, .hiLatch, .winLatch, .timeLatch, .book, .trellis,
       .cellar, .ports, .ina, .flows, .sessions, .mdStarted, .presses, .images, .cans, .lineUnits, .blend, .time,
       .host, .outs, .pair, .vnt, .vault, .maint, .out, .fresh, .regs, .shadow, .force, .ram]
  | .odWrite .. => 
      [.power, .supply, .pins, .commits, .mc, .faults, .runs, .hiLatch, .winLatch, .timeLatch, .book, .trellis,
       .cellar, .ports, .ina, .flows, .sessions, .mdStarted, .presses, .images, .cans, .lineUnits, .blend, .time,
       .host, .outs, .pair, .vnt, .vault, .maint, .out, .fresh, .regs, .shadow, .force, .ram]
  | .odNextSegment .. => 
      [.power, .supply, .pins, .commits, .mc, .faults, .runs, .hiLatch, .winLatch, .timeLatch, .book, .trellis,
       .cellar, .ports, .ina, .flows, .sessions, .mdStarted, .presses, .images, .cans, .lineUnits, .blend, .time,
       .host, .outs, .pair, .vnt, .vault, .maint, .out, .fresh, .regs, .shadow, .force, .ram]
  | .odAbortTransfer .. => 
      [.power, .supply, .pins, .commits, .mc, .faults, .runs, .hiLatch, .winLatch, .timeLatch, .book, .trellis,
       .cellar, .ports, .ina, .flows, .sessions, .mdStarted, .presses, .images, .cans, .lineUnits, .blend, .time,
       .host, .outs, .pair, .vnt, .vault, .maint, .out, .fresh, .regs, .shadow, .force, .ram]
  | .odDescribe .. => 
      [.power, .supply, .pins, .commits, .mc, .faults, .runs, .hiLatch, .winLatch, .timeLatch, .book, .trellis,
       .cellar, .ports, .ina, .flows, .sessions, .mdStarted, .presses, .images, .cans, .lineUnits, .blend, .time,
       .host, .outs, .pair, .vnt, .vault, .maint, .out, .fresh, .regs, .shadow, .force, .ram]
  | .segmentTimeout .. => [.runs, .book, .cellar, .ina, .sessions, .presses, .host, .vnt, .out, .regs, .ram]
  | .maintMessage .. => 
      [.power, .supply, .pins, .commits, .mc, .faults, .runs, .hiLatch, .winLatch, .timeLatch, .book, .trellis,
       .cellar, .ports, .ina, .flows, .sessions, .mdStarted, .presses, .images, .cans, .lineUnits, .blend, .time,
       .host, .outs, .pair, .vnt, .vault, .maint, .out, .fresh, .regs, .shadow, .force, .ram]
  | .remoteRequest .. => 
      [.power, .supply, .pins, .commits, .mc, .faults, .runs, .hiLatch, .winLatch, .timeLatch, .book, .trellis,
       .cellar, .ports, .ina, .flows, .sessions, .mdStarted, .presses, .images, .cans, .lineUnits, .blend, .time,
       .host, .outs, .pair, .vnt, .vault, .maint, .out, .fresh, .regs, .shadow, .force, .ram]
  | .authChallengeRead .. => 
      [.power, .supply, .pins, .commits, .mc, .faults, .runs, .hiLatch, .winLatch, .timeLatch, .book, .trellis,
       .cellar, .ports, .ina, .flows, .sessions, .mdStarted, .presses, .images, .cans, .lineUnits, .blend, .time,
       .host, .outs, .pair, .vnt, .vault, .maint, .out, .fresh, .regs, .shadow, .force, .ram]
  | .authRoleRequest .. => 
      [.power, .supply, .pins, .commits, .mc, .faults, .runs, .hiLatch, .winLatch, .timeLatch, .book, .trellis,
       .cellar, .ports, .ina, .flows, .sessions, .mdStarted, .presses, .images, .cans, .lineUnits, .blend, .time,
       .host, .outs, .pair, .vnt, .vault, .maint, .out, .fresh, .regs, .shadow, .force, .ram]
  | .authResponse .. => 
      [.power, .supply, .pins, .commits, .mc, .faults, .runs, .hiLatch, .winLatch, .timeLatch, .book, .trellis,
       .cellar, .ports, .ina, .flows, .sessions, .mdStarted, .presses, .images, .cans, .lineUnits, .blend, .time,
       .host, .outs, .pair, .vnt, .vault, .maint, .out, .fresh, .regs, .shadow, .force, .ram]
  | .authLockExpiry .. => [.vnt]
  | .sessionIdleLapse .. => [.book, .sessions, .host, .vnt, .vault, .regs]
  | .persistentStoreWrite .. => [.runs, .book, .cellar, .ina, .sessions, .presses, .host, .vnt, .out, .regs, .ram]
  | .restoreDefaults .. => 
      [.power, .supply, .pins, .commits, .mc, .faults, .runs, .hiLatch, .winLatch, .timeLatch, .book, .trellis,
       .cellar, .ports, .ina, .flows, .sessions, .mdStarted, .presses, .images, .cans, .lineUnits, .blend, .time,
       .host, .outs, .pair, .vnt, .vault, .maint, .out, .fresh, .regs, .shadow, .force, .ram]
  | .dieTempHigh .. => [.faults, .book, .host, .regs]
  | .railExcursion .. => [.faults, .book, .host, .regs]
  | .railRecovered .. => [.faults, .regs]
  | .bookRecovery .. => [.book, .host, .regs]
  | .recordWrite => [.book, .host, .regs]
  | .pointerBlockTick => [.book, .regs]
  | .tokenRefill .. => [.book]
  | .cbkCmdFreeze .. => [.book, .blend, .host, .regs]
  | .cbkCmdUnfreeze .. => [.book, .blend, .host, .regs]
  | .cbkCmdRead .. => [.book, .blend, .host, .regs]
  | .readoutComplete => [.book, .host, .regs]
  | .freezeLimitExpiry => [.book, .host, .regs]
  | .updOpen .. => [.runs, .book, .cellar, .ina, .sessions, .presses, .host, .vnt, .vault, .out, .regs, .ram]
  | .updChunk .. => [.runs, .book, .cellar, .ina, .sessions, .presses, .host, .vnt, .out, .regs, .ram]
  | .updFinish .. => [.runs, .book, .cellar, .ina, .sessions, .presses, .host, .vnt, .vault, .out, .regs, .ram]
  | .slotVerifyDone .. => [.book, .host, .vault, .regs]
  | .updActivate .. => 
      [.power, .supply, .pins, .commits, .mc, .faults, .runs, .hiLatch, .winLatch, .timeLatch, .book, .trellis,
       .cellar, .ports, .ina, .flows, .sessions, .mdStarted, .presses, .images, .cans, .lineUnits, .blend, .time,
       .host, .outs, .pair, .vnt, .vault, .maint, .out, .regs, .shadow, .force, .ram]
  | .updConfirm .. => [.runs, .book, .cellar, .ina, .sessions, .presses, .host, .vnt, .vault, .out, .regs, .ram]
  | .updAbort .. => [.runs, .book, .cellar, .ina, .sessions, .presses, .host, .vnt, .vault, .out, .regs, .ram]
  | .updSessionTimeout => [.book, .host, .vault, .regs]
  | .trialTimerExpiry => 
      [.power, .supply, .pins, .commits, .mc, .faults, .runs, .hiLatch, .winLatch, .timeLatch, .book, .trellis,
       .cellar, .ports, .ina, .flows, .sessions, .mdStarted, .presses, .images, .cans, .lineUnits, .blend, .time,
       .host, .outs, .pair, .vnt, .vault, .maint, .out, .regs, .shadow, .force, .ram]
  | .ownerChangeRecord .. => [.runs, .book, .cellar, .ina, .sessions, .presses, .host, .vnt, .vault, .out, .regs, .ram]
  | .roleKeyWrite .. => [.runs, .book, .cellar, .ina, .sessions, .presses, .host, .vnt, .vault, .out, .regs, .ram]
  | .attestNonceWrite .. => [.runs, .book, .cellar, .ina, .sessions, .presses, .host, .vnt, .vault, .out, .regs, .ram]
  | .attestQuoteReady => [.book, .host, .vault, .regs]
  | .attestQuoteRead .. => [.runs, .book, .cellar, .ina, .sessions, .presses, .host, .vnt, .out, .regs, .ram]
  | .mstopCmdEnter .. => [.book, .blend, .host, .maint, .regs]
  | .mstopEntry => 
      [.commits, .mc, .faults, .runs, .book, .trellis, .cellar, .ports, .ina, .sessions, .presses, .cans, .lineUnits,
       .host, .vnt, .maint, .out, .regs, .shadow, .ram]
  | .mstopMemtestDone .. => [.faults, .book, .cellar, .presses, .host, .maint, .regs, .shadow, .force, .ram]
  | .mstopCmdExit .. => 
      [.power, .supply, .pins, .commits, .mc, .faults, .runs, .hiLatch, .winLatch, .timeLatch, .book, .trellis,
       .cellar, .ports, .ina, .flows, .sessions, .mdStarted, .presses, .images, .cans, .lineUnits, .blend, .time,
       .host, .outs, .pair, .vnt, .vault, .maint, .out, .regs, .shadow, .force, .ram]
  | .loopCmdGo .. => [.book, .trellis, .cellar, .ports, .ina, .blend, .host, .out, .regs, .shadow]
  | .loopCmdStop .. => [.book, .trellis, .cellar, .ports, .ina, .blend, .host, .out, .fresh, .regs, .shadow]
  | .loopbackDone .. => [.book, .trellis, .cellar, .ports, .ina, .host, .out, .regs, .shadow]
  | .tapInstruction .. => [.book, .host, .maint, .out, .regs]
  | .pcieLinkUp .. => [.host, .out, .regs]
  | .pcieConfigWrite .. => [.pins, .runs, .cellar, .host, .out, .regs]
  | .inputSample .. => [.outs]
  | .lampPwmPeriod .. => [.book, .host, .outs, .regs]
  | .openLoadClear .. => [.outs]
  | .stbClear .. => [.outs]
  | .vloadNoSupply .. => [.regs]
  | .dieTempNormal .. => [.faults, .regs]
  | .ptpMessageInterval .. => [.time, .out, .regs]
  | .rackControlWord .. => [.power, .supply, .pins, .book, .trellis, .cellar, .ports, .ina, .host, .pair, .out, .regs, .shadow]
  | .mdConfirmReceived .. => [.book, .host, .regs]
  | .connectionClosed .. => [.book, .sessions, .host, .vnt, .vault, .regs]
  | .claimRetryDelay => [.pair]
  | .ppsOutPulseEnd => [.pins]
  | .wakeSupplyGood => 
      [.power, .supply, .pins, .commits, .mc, .faults, .runs, .hiLatch, .winLatch, .timeLatch, .book, .trellis,
       .cellar, .ports, .ina, .flows, .sessions, .mdStarted, .presses, .images, .cans, .lineUnits, .blend, .time,
       .host, .outs, .pair, .vnt, .vault, .maint, .regs, .shadow, .force, .ram]
  | .lineUnitCapture .. => [.pins, .cans, .lineUnits, .out]

end Sys2Proof.Machine
end

