-- ==== Sys2Proof/Certificates/Slice0/Obligations.lean ====
section
/-! DEFINITION. The statements for the provers. A completion statement says of each command when `exec` answers a next state with the command's own
effect (`Completes`, Safety.lean), under hypotheses on the state and operands alone; the general statements and the frames follow. -/
open Sys2Proof Sys2Proof.Machine


/-! ### Supply, temperatures, the persistent store (files 02, 03 and 17) -/

/-- The supply commands that shut nothing down complete with their effect: the dip timer, event 0x0D20 at its start (its content is the model's
choice, log entry 73), and the count and event 0x0D21 of a dip that ends before 250 ms (R46); the interruption window, which a ride-through ends
with a count and event 0x0D22 outside an orderly shutdown (R48), and which releases a node that is off or shutting down from a thermal stop (R30);
the count and event 0x0D24 of a dip or interruption that finds HOLDUP_RDY clear (R49); HOLDUP_RDY (R49); the readings that VBATT_MV, HOLDUP_MV,
BASE_T, DIE_T and RAIL_MV show, with the die and rail faults, counts and events (R30, R468, R469, R470). -/
def Obligations.SupplyCommandsComplete : Prop :=
  ∀ s : State,
    (∀ mv, s.node.powered = true → s.node.supply.dip = false → Completes (.dipStart mv) s fun m =>
      m.supply.dip = true ∧ m.rd F.VBATT_MV = mv.toNat ∧ (s.node.Admits 0x0D20 → m.Logged 0x0D20 [mv.toNat]) ∧
      (s.node.bit F.PWR_STATUS_HOLDUP_RDY = false → s.node.Counts m CNT_HOLDUP_LOW ∧
        (s.node.book.queue.length < 255 → s.node.Admits 0x0D24 → m.Logged 0x0D24 [])) ∧
      (s.node.bit F.PWR_STATUS_HOLDUP_RDY = true → m.word CNT_HOLDUP_LOW = s.node.word CNT_HOLDUP_LOW)) ∧
    (∀ ms lowest mv, s.node.powered = true → s.node.supply.dip = true → Completes (.dipEnd ms lowest mv) s fun m =>
      m.supply.dip = false ∧ m.rd F.VBATT_MV = mv.toNat ∧
      (ms < 250 → s.node.Counts m CNT_DIP ∧ (s.node.Admits 0x0D21 → m.Logged 0x0D21 [ms, lowest])) ∧
      (250 ≤ ms → m.word CNT_DIP = s.node.word CNT_DIP)) ∧
    (∀ mv, s.node.powered = true → s.node.supply.interruption = false → Completes (.interruptionStart mv) s fun m =>
      m.supply.interruption = true ∧ m.rd F.VBATT_MV = mv.toNat ∧
      (s.node.bit F.PWR_STATUS_HOLDUP_RDY = false → s.node.Counts m CNT_HOLDUP_LOW ∧ (s.node.Admits 0x0D24 → m.Logged 0x0D24 [])) ∧
      (s.node.bit F.PWR_STATUS_HOLDUP_RDY = true → m.word CNT_HOLDUP_LOW = s.node.word CNT_HOLDUP_LOW)) ∧
    (∀ mv, s.node.power = .off ∨ s.node.power = .shutdown → Completes (.interruptionStart mv) s fun m =>
      m.supply.heatLock = false ∧ m.power = s.node.power) ∧
    (∀ mv, s.node.powered = true → s.node.supply.interruption = true → Completes (.interruptionRiddenThrough mv) s fun m =>
      m.supply.interruption = false ∧ m.rd F.VBATT_MV = mv.toNat ∧
      (s.node.power ≠ .shutdown → s.node.Counts m CNT_INTERRUPT ∧ (s.node.Admits 0x0D22 → m.Logged 0x0D22 [])) ∧
      (s.node.power = .shutdown → m.word CNT_INTERRUPT = s.node.word CNT_INTERRUPT)) ∧
    (∀ mv, s.node.powered = true → Completes (.holdupReady mv) s fun m =>
      m.bit F.PWR_STATUS_HOLDUP_RDY = true ∧ m.rd F.HOLDUP_MV = mv.toNat) ∧
    (∀ mv, s.node.powered = true → Completes (.holdupNotReady mv) s fun m =>
      m.bit F.PWR_STATUS_HOLDUP_RDY = false ∧ m.rd F.HOLDUP_MV = mv.toNat) ∧
    (∀ t, s.node.powered = true → s.node.supply.hotStop = false → Completes (.baseplate88c t) s fun m =>
      m.rd F.BASE_T = t.toNat ∧ m.power = s.node.power ∧ (s.node.Admits 0x0D25 → m.Logged 0x0D25 [])) ∧
    (∀ k t b, s.node.powered = true → Completes (.dieTempHigh k t b) s fun m =>
      m.rd (F.DIE_T.at k) = t.toNat ∧ (t.slt 1000#16 = false → .die k ∈ m.faults) ∧ (t.slt 1000#16 = true → .die k ∉ m.faults) ∧
      (b = true → (919#16).slt t = true → s.node.Admits 0x0D30 → m.Logged 0x0D30 [k.val]) ∧
      (t.slt 1000#16 = false → .die k ∉ s.node.faults → (b = false ∨ s.node.book.queue.length < 255) → s.node.Admits 0x0D31 →
        m.Logged 0x0D31 [k.val])) ∧
    (∀ k t, Completes (.dieTempNormal k t) s fun m => .die k ∉ m.faults ∧ (s.node.powered = true → m.rd (F.DIE_T.at k) = t.toNat)) ∧
    (∀ k mv high, s.node.powered = true → Completes (.railExcursion k mv high) s fun m =>
      m.rd (F.RAIL_MV.at k) = mv.toNat ∧ m.bit (F.RAIL_HIGH.at k) = high ∧ m.bit (F.RAIL_LOW.at k) = !high ∧
      s.node.Counts m CNT_RAIL_EXC ∧ .rail k ∈ m.faults ∧ (s.node.Admits 0x0D32 → m.Logged 0x0D32 [k.val, mv.toNat])) ∧
    (∀ k mv, s.node.powered = true → Completes (.railRecovered k mv) s fun m =>
      m.rd (F.RAIL_MV.at k) = mv.toNat ∧ m.bit (F.RAIL_HIGH.at k) = false ∧ m.bit (F.RAIL_LOW.at k) = false ∧ .rail k ∉ m.faults)

/-- Each shutdown cause starts the orderly shutdown of a node in Run, or in an entry into Dormancy before its step 5 (R30, R44, R46, R48 to R51):
PWRWARN_N goes low, STAT_OK goes off, every channel stops conducting, every fabric slot stops, PWR_STATE shows 4, the cause is kept and the shutdown
is counted; DIP_TIMEOUT ends the dip and INTERRUPTION_WINDOW_EXPIRY the interruption; a thermal cause with VBATT not below 4.5 V keeps the node off
afterwards. A second cause changes nothing of the shutdown. SHUTDOWN_POWER_DOWN leaves the node off, its pins as those of an unpowered node and
every register but the slot states, the anti-rollback counters, UNIT_CFG and ISLAND_STATUS at its reset value (R51). -/
def Obligations.ShutdownCommandsComplete : Prop :=
  ∀ s : State,
    (s.node.canRestart = true →
      (∀ v, ∀ p ∈ [(Instr.vbattOvervoltage v, ShutdownCause.overvoltage), (.overvoltageTimeout v, .overvoltage), (.baseplate95c v, .thermal),
          (.holdupReserve v, .reserve)],
        Completes p.1 s fun m =>
          m.power = .shutdown ∧ m.pins.pwrwarn = true ∧ m.pins.statOk = false ∧ m.supply.cause = some p.2 ∧ m.trellis.running = [] ∧
          m.rd F.PWR_STATUS_PWR_STATE = 4 ∧ s.node.Counts m CNT_SUPPLY_SHUTDOWN ∧ (∀ c < 24, m.conducts c = false) ∧
          (p.2 = .thermal → m.supply.heatLock = !s.node.supply.interruption)) ∧
      (s.node.supply.dip = true → Completes .dipTimeout s fun m =>
        m.power = .shutdown ∧ m.pins.pwrwarn = true ∧ m.pins.statOk = false ∧ m.supply.cause = some .dipTimeout ∧ m.supply.dip = false ∧
        m.trellis.running = [] ∧ m.rd F.PWR_STATUS_PWR_STATE = 4 ∧ s.node.Counts m CNT_SUPPLY_SHUTDOWN ∧ ∀ c < 24, m.conducts c = false) ∧
      (s.node.supply.interruption = true → Completes .interruptionWindowExpiry s fun m =>
        m.power = .shutdown ∧ m.pins.pwrwarn = true ∧ m.pins.statOk = false ∧ m.supply.cause = some .interruption ∧
        m.supply.interruption = false ∧ m.trellis.running = [] ∧ m.rd F.PWR_STATUS_PWR_STATE = 4 ∧ s.node.Counts m CNT_SUPPLY_SHUTDOWN ∧
        ∀ c < 24, m.conducts c = false)) ∧
    (∀ v, s.node.power = .shutdown → ∀ c ∈ [Instr.vbattOvervoltage v, .overvoltageTimeout v, .baseplate95c v, .holdupReserve v],
      Completes c s fun m => m.power = .shutdown ∧ m.supply = s.node.supply ∧ m.word CNT_SUPPLY_SHUTDOWN = s.node.word CNT_SUPPLY_SHUTDOWN) ∧
    (s.node.power = .shutdown → Completes .shutdownPowerDown s fun m =>
      m.power = .off ∧ m.pins = Node.unpowered.pins ∧ (∀ c < 24, m.conducts c = false) ∧
      (∀ a, a ∉ [0xF00000, F.UNIT_CFG_UNIT.addr, F.ISLAND_STATUS_IN_RESET.addr] → a < 0xF00100 ∨ 0xF00200 ≤ a → m.word a = resetWord a))
/-! ### Start-up, resets and Dormancy (files 02 and 03) -/

/-- The start-up commands complete. POWER_GOOD of a node that is off puts it in Run with HOST_SEL as sampled, islands 0 to 7 and the host bridge in
reset, BASE_T as read, every channel off and event 0x0D01 queued (R42, R64, R69); after a thermal stop it shuts down again where the baseplate reads
above 80 °C, and changes nothing while that stop keeps the node off (R30). HOST_BRIDGE_RELEASE takes the bridge out of reset on that interface
(R69). FIRMWARE_VERIFIED of the copy to try starts the firmware exactly with both signatures and a security version not below the counter,
START_PHASE then showing the memory test, or the load at a warm reset or a wake; else the other copy is tried next (R65, R518). MEMORY_TEST_DONE
begins the load with a fault for each failed block (R69, R70). While a load runs, a section is kept and its SH words become shadow values;
signatures that pass make the Vintage verified (R67); a failure of either counts, marks the slot failed and goes to the other slot, or to recovery
where that slot has failed too (R68), and for a slot on trial resets the node (R524). -/
def Obligations.StartUpCommandsComplete : Prop :=
  ∀ s : State,
    (∀ pcie t, s.node.power = .off → s.node.supply.heatLock = false →
      ((s.node.supply.hotStop = false ∨ (640#16).slt t = false) → Completes (.powerGood pcie t) s fun m =>
        m.power = .run ∧ m.supply.pcie = pcie ∧ m.host.inReset = true ∧ m.rd F.ISLAND_STATUS_IN_RESET = 0xFF ∧ m.rd F.BASE_T = t.toNat ∧
        m.Logged 0x0D01 [0] ∧ ∀ c, (m.chan c).on = false) ∧
      (s.node.supply.hotStop = true → (640#16).slt t = true → Completes (.powerGood pcie t) s fun m =>
        m.power = .shutdown ∧ m.supply.cause = some .thermal)) ∧
    (∀ pcie t, s.node.power = .off → s.node.supply.heatLock = true → Completes (.powerGood pcie t) s fun m => m = s.node) ∧
    (s.node.power = .run → s.node.host.inReset = true → Completes .hostBridgeRelease s fun m =>
      m.host.inReset = false ∧ m.bit F.HBR_STATUS_PCIE_SEL = s.node.supply.pcie ∧ m.islandDown 7 = false) ∧
    (∀ copy ed ml svn digest okA okB, s.node.power = .run → s.node.supply.firmware = false → s.node.supply.fwTried ≠ 2 →
      copy.val = s.node.bootCopy →
      Completes (.firmwareVerified copy ed ml svn digest okA okB) s fun m =>
        if ed = true ∧ ml = true ∧ s.node.rollback 0 ≤ svn.toNat then
          m.supply.firmware = true ∧ m.vault.fwCopy = copy ∧ m.vnt.fwDigest = digest ∧ m.vnt.fwSvn = svn.toNat ∧
          if s.node.supply.warm = true ∨ s.node.supply.waking = true then m.supply.loading = true ∧ m.rd F.PWR_STATUS_START_PHASE = 3
          else m.rd F.PWR_STATUS_START_PHASE = 2
        else m.supply.firmware = false ∧ m.supply.fwTried = s.node.supply.fwTried + 1) ∧
    (∀ failed, s.node.power = .run → s.node.rd F.PWR_STATUS_START_PHASE = 2 → Completes (.memoryTestDone failed) s fun m =>
      m.supply.loading = true ∧ m.rd F.PWR_STATUS_START_PHASE = 3 ∧ m.store.shadow = [] ∧
      ∀ e ∈ failed, FaultCause.memory e.1 ∈ m.faults) ∧
    (s.node.streaming = true →
      (∀ sec, Completes (.vintageSectionArrived sec true) s fun m =>
        m.supply.sections = sec :: s.node.supply.sections ∧ m.rd F.SPEC_STATUS_SOURCE = 1 ∧ m.store.force = s.node.store.force ∧
        ∀ b a v, sec = .config b [(a, v)] → groupOf a ≠ 0 → m.shadowWord a = v) ∧
      (∀ h, (s.node.owner h.keySlot).isSome = true → s.node.svnsOk h = true →
        Completes (.vintageSignaturesDone none h) s fun m => m.supply.verified = true ∧ m.supply.loading = true) ∧
      ∀ sec h w, ∀ c ∈ [Instr.vintageSectionArrived sec false, .vintageSignaturesDone (some w) h],
        (s.node.slotState s.node.supply.slot ≠ 3 → Completes c s fun m =>
          s.node.Counts m CNT_VERIFY_FAIL ∧ m.slotState s.node.supply.slot = 5 ∧
          if s.node.supply.slotFailed = true then m.supply.recovery = true ∧ FaultCause.recovery ∈ m.faults ∧ m.rd F.PWR_STATUS_START_PHASE = 5
          else m.supply.slot = 1 - s.node.supply.slot ∧ m.supply.slotFailed = true ∧ m.supply.sections = [] ∧
            m.bit F.PWR_STATUS_FALLBACK = true) ∧
        (s.node.slotIn 3 = some s.node.supply.slot → (∀ u, s.node.vault.session = some u → u.slot ≠ s.node.supply.slot) → Completes c s fun m =>
          m.power = .run ∧ m.supply.warm = true ∧ m.supply.firmware = false ∧ m.slotState s.node.supply.slot = 5 ∧
          m.word CNT_VERIFY_FAIL = 1#32 ∧ m.bit F.PWR_STATUS_FALLBACK = true ∧ m.supply.slotFailed = true))

/-- A verified Vintage is committed by the command of its boundary: START_UP_COMMIT, WARM_RESET_COMMIT in a warm reset, WAKE_RUN_START in a wake
(R67, R69, R74, R82). The load ends; in every commit group but 0x21 the loaded word is the word in force; START_PHASE is 4, SPEC_STATUS.SOURCE 0 and
TIME_STATUS.RUNNING set; STAT_OK is on where no fault stands (R40), and the Trellis runs unless its memory has failed (R70). A warm reset and a wake
are over with it, and nothing is owed: the one warm reset or wake that was counts in CNT_WARM_RESET or CNT_WAKE (R75, R82). -/
def Obligations.VintageCommitsComplete : Prop :=
  ∀ s : State, s.node.power = .run → s.node.supply.verified = true →
    ∀ e ∈ [(Instr.startUpCommit, !s.node.supply.warm && !s.node.supply.waking), (.warmResetCommit, s.node.supply.warm),
        (.wakeRunStart, s.node.supply.waking)],
      e.2 = true → Completes e.1 s fun m =>
        m.power = .run ∧ m.supply.loading = false ∧ m.supply.sections = [] ∧ m.supply.verified = false ∧
        (∀ g ∈ groups, g ≠ 0x21 → ∀ a, groupOf a = g → m.forceWord a = s.node.shadowWord a) ∧
        m.rd F.PWR_STATUS_START_PHASE = 4 ∧ m.rd F.SPEC_STATUS_SOURCE = 0 ∧ m.bit F.TIME_STATUS_RUNNING = true ∧
        (m.faults = [] → m.statOk = true) ∧ (s.node.blockFailed 1 = false → m.bit F.TRL_STATUS_RUNNING = true) ∧
        (e.1 = .warmResetCommit → m.supply.warm = false ∧ m.supply.owed = [] ∧
          ∀ c, s.node.supply.owed = [.warm c] → s.node.Counts m CNT_WARM_RESET) ∧
        (e.1 = .wakeRunStart → m.supply.waking = false ∧ m.supply.owed = [] ∧
          ∀ src raw, s.node.supply.owed = [.wake src raw] → s.node.Counts m CNT_WAKE)

/-- RST_CMD_WARM, the Vintner's watchdog and a lockstep mismatch each start a node in Run, or in an entry into Dormancy before its step 5, anew
(R73, R465): it is in Run, in a warm reset, without firmware and without queued frames, its time base as it was, LAST_RESET the cause and the reset
owed to CNT_WARM_RESET (R75). An uncorrectable error of the Vintner's SRAM halts it, and a corrected one counts (R465). A reset of the host bridge,
by PCIe or by HBR_CMD_RESET, empties its queues of firings, prefetched lines and delayed reads and changes no power state (R77, R379, R405). -/
def Obligations.ResetCommandsComplete : Prop :=
  ∀ s : State,
    (s.node.canRestart = true →
      (∀ by_, s.node.Reaches by_ 0xD → Completes (.rstCmdWarm by_ 0x5A3C#16) s fun m =>
        m.power = .run ∧ m.supply.warm = true ∧ m.supply.firmware = false ∧ m.time.raw = s.node.time.raw ∧ m.cellar.copies = [] ∧
        m.rd F.PWR_STATUS_LAST_RESET = 1 ∧ .warm 1 ∈ m.supply.owed) ∧
      ∀ e ∈ [(Instr.vintnerWatchdogExpiry, 2), (.lockstepMismatch, 3)], Completes e.1 s fun m =>
        m.power = .run ∧ m.supply.warm = true ∧ m.supply.firmware = false ∧ m.time.raw = s.node.time.raw ∧ m.cellar.copies = [] ∧
        m.rd F.PWR_STATUS_LAST_RESET = e.2 ∧ .warm e.2 ∈ m.supply.owed) ∧
    (s.node.powered = true → s.node.supply.firmware = true →
      (Completes (.vintnerSramError true) s fun m => s.node.Counts m CNT_VNT_SRAM_CORR ∧ m.supply = s.node.supply) ∧
      Completes (.vintnerSramError false) s fun m => m.supply.halted = true) ∧
    (s.node.powered = true → s.node.host.inReset = false → s.node.bit F.HBR_STATUS_PCIE_SEL = true →
      (∀ c ∈ [Instr.pciePerst, .pcieHotReset, .functionLevelReset], Completes c s fun m =>
        m.host.fires = [] ∧ m.host.prefetch = [] ∧ m.host.delayed = [] ∧ m.host.bme = false ∧ m.host.txWork = none ∧ m.power = s.node.power) ∧
      (s.node.bit F.HBR_STATUS_LINK_UP = true → Completes .pcieLinkLoss s fun m =>
        m.host.fires = [] ∧ m.host.prefetch = [] ∧ m.host.delayed = [] ∧ m.host.bme = false ∧ m.bit F.HBR_STATUS_LINK_UP = false ∧
        m.power = s.node.power)) ∧
    (∀ by_, s.node.Reaches by_ 0xA → s.node.host.inReset = false → s.node.bit F.HBR_STATUS_PCIE_SEL = false →
      Completes (.hbrCmdReset by_ 0x2B61#16) s fun m =>
        m.host.fires = [] ∧ m.host.prefetch = [] ∧ m.host.delayed = [] ∧ m.host.eqFifo = [] ∧ m.power = s.node.power)

/-- Dormancy. DORM_CTRL_ENTER in Run begins the entry exactly on the conditions of R78, and else shows a refusal code and counts. The step commands
of R79 each do their step: the Trellis stops and every channel goes off; an update session ends; the bypass drivers release; the wake sources of
WAKE_CFG are armed; DORMANCY_REACHED puts the node in Dormancy, or starts it where a wake is latched that does not wait for VBATT (R54, R80).
DORMANCY_LOST leaves the node off. An armed wake, of WAKE_IN_N or of a detected pattern, starts a node in Dormancy with VBATT at 18.0 V or more and
waits for that below (R54, R81, R82, R200); from step 5 of the entry on it is latched, and before that WAKE_IN_N aborts the entry (R80). WAKE_IN_N
releases a node that is off from a thermal stop (R30). WAKE_SUPPLY_GOOD ends the wait. -/
def Obligations.DormancyCommandsComplete : Prop :=
  ∀ s : State,
    (s.node.power = .run → s.node.islandDown 8 = false → s.node.powered = true → Completes .dormCtrlEnter s fun m =>
      if 250 ≤ s.node.rd F.LAT_TOL_TOL_MS ∧ s.node.bit F.DORM_CTRL_PERMIT = true ∧ s.node.noneOn = true ∧ s.node.noneLocked = true ∧
          s.node.roleOk = true ∧ s.node.word 0xD0001C ≠ 0#32 ∧ s.node.slotIn 3 = none then
        m.power = .dormEntry ∧ m.supply.dormStep = 1 ∧ m.rd F.PWR_STATUS_PWR_STATE = 2 ∧ m.rd F.DORM_STATUS_REFUSE = 0
      else m.power = .run ∧ m.rd F.DORM_STATUS_REFUSE ≠ 0 ∧ s.node.Counts m CNT_DORM_REFUSED) ∧
    (s.node.dormAt 1 = true → Completes .dormancyEntryStart s fun m =>
      m.supply.dormStep = 2 ∧ m.bit F.TRL_STATUS_RUNNING = false ∧ m.trellis.running = [] ∧ m.trellis.openGates = [] ∧
      ∀ c < 24, m.conducts c = false) ∧
    (s.node.dormAt 2 = true → Completes .dormancyRecordFlush s fun m => m.supply.dormStep = 3 ∧ m.vault.session = none) ∧
    (s.node.dormAt 3 = true → Completes .dormancyBypassRelease s fun m =>
      m.supply.dormStep = 4 ∧ m.bit F.BYPASS_STATUS_DRV_A = false ∧ m.bit F.BYPASS_STATUS_DRV_B = false) ∧
    (s.node.dormAt 4 = true → Completes .dormancyPointOfNoReturn s fun m =>
      m.supply.dormStep = 5 ∧ m.supply.armed = (s.node.word 0xD0001C).toNat % 32) ∧
    (s.node.dormAt 5 = true →
      ((s.node.supply.latchedWake = none ∨ s.node.supply.wakeWaitsSupply = true) → Completes .dormancyReached s fun m =>
        m.power = .dormancy ∧ m.supply.armed = s.node.supply.armed ∧ m.supply.latchedWake = s.node.supply.latchedWake ∧ m.store.force = []) ∧
      ∀ w, s.node.supply.latchedWake = some w → s.node.supply.wakeWaitsSupply = false → Completes .dormancyReached s fun m =>
        m.power = .run ∧ m.supply.waking = true ∧ m.word F.WAKE_SRC_IN.addr = BitVec.ofNat 32 w) ∧
    (s.node.power = .dormancy → Completes .dormancyLost s fun m => m.power = .off ∧ m.supply.armed = 0 ∧ m.supply.latchedWake = none) ∧
    (∀ mv (p : Fin 4) samples, wakeDetected samples.length samples = true →
      ∀ e ∈ [(Instr.wakeInAssert mv, 4), (.wakePatternMatch p samples mv, p.val)],
        (s.node.power = .dormancy → s.node.supply.latchedWake = none → s.node.supply.armed / 2 ^ e.2 % 2 = 1 → Completes e.1 s fun m =>
          if 18000 ≤ mv then m.power = .run ∧ m.supply.waking = true ∧ m.word F.WAKE_SRC_IN.addr = BitVec.ofNat 32 (2 ^ e.2)
          else m.power = .dormancy ∧ m.supply.latchedWake = some (2 ^ e.2) ∧ m.supply.wakeWaitsSupply = true) ∧
        (s.node.power = .dormEntry → 5 ≤ s.node.supply.dormStep → s.node.supply.latchedWake = none → s.node.supply.armed / 2 ^ e.2 % 2 = 1 →
          Completes e.1 s fun m =>
            m.power = .dormEntry ∧ m.supply.latchedWake = some (2 ^ e.2 + 32) ∧ m.supply.wakeWaitsSupply = decide (mv < 18000))) ∧
    (∀ mv, s.node.power = .off → Completes (.wakeInAssert mv) s fun m => m.power = .off ∧ m.supply.heatLock = false) ∧
    (∀ mv, s.node.power = .dormEntry → s.node.supply.dormStep < 5 → s.node.supply.dormAbort = false → s.node.bit F.WAKE_CFG_IN_EN = true →
      Completes (.wakeInAssert mv) s fun m =>
        m.supply.dormAbort = true ∧ m.supply.dormStep = s.node.supply.dormStep ∧ m.rd F.DORM_STATUS_REFUSE = 7) ∧
    (∀ w, s.node.power = .dormancy → s.node.supply.wakeWaitsSupply = true → s.node.supply.latchedWake = some w →
      Completes .wakeSupplyGood s fun m => m.power = .run ∧ m.supply.waking = true ∧ m.word F.WAKE_SRC_IN.addr = BitVec.ofNat 32 w) ∧
    (s.node.power = .dormEntry → s.node.supply.wakeWaitsSupply = true → Completes .wakeSupplyGood s fun m =>
      m.supply.wakeWaitsSupply = false ∧ m.power = .dormEntry)

/-! ### Commits (file 04) -/

/-- Commits of one group complete: GO is turned away with its code, counted and recorded, or starts validation (R97, R98, R100), validation refuses
with code and COMMIT_INFO or leaves the commit pending, and a reset, a stop or a load begun meanwhile refuses it (R96, R100), taking effect makes
every shadow word of the group the word in force, with CODE 0 and SEQ one higher, ABORT copies back with CODE 7 (R98), and a group that finds its
block busy too long is refused with 0x0B (R96). -/
def Obligations.GroupCommitCommandsComplete : Prop :=
  ∀ (s : State) (g : Nat), groupExists g = true →
    (∀ by_, s.node.Reaches by_ (groupBlock g) →
      (s.node.blockDown (groupBlock g) = false → s.node.rd F.PWR_STATUS_START_PHASE = 4 → s.node.standby = false →
        s.node.groupLocked g = false → s.node.topoLocked g = false →
        Completes (.commitGo by_ g) s fun m => m.phase g = .validating ∧ m.store = s.node.store) ∧
      (∀ c, s.node.goRefusal g = some c → Completes (.commitGo by_ g) s fun m =>
        m.phase g = s.node.phase g ∧ m.rd (commitCode (commitAddr g)) = c ∧ m.word (commitAddr g + 4) = noInfo ∧
        m.store.force = s.node.store.force ∧ s.node.Counts m CNT_COMMIT_REFUSED ∧ (s.node.Admits 0x0011 → m.Logged 0x0011 [g, c])) ∧
      (s.node.blockDown (groupBlock g) = false → s.node.rd F.PWR_STATUS_START_PHASE = 4 → s.node.standby = false →
        s.node.groupLocked g = true → Completes (.commitGo by_ g) s fun m => m.rd (commitCode (commitAddr g)) = 4)) ∧
    (∀ ns, s.node.phase g = .validating →
      (s.node.blockDown (groupBlock g) = false → s.node.rd F.PWR_STATUS_START_PHASE = 4 →
        (s.node.validate [g] g = none → Completes (.commitValidated g ns) s fun m =>
          m.phase g = .pending (s.node.commitSkip ns) ∧ m.store = s.node.store) ∧
        ∀ code info, s.node.validate [g] g = some (code, info) → Completes (.commitValidated g ns) s fun m =>
          m.phase g = .idle ∧ m.rd (commitCode (commitAddr g)) = code % 256 ∧ m.word (commitAddr g + 4) = info ∧
          m.store.force = s.node.store.force ∧ s.node.Counts m CNT_COMMIT_REFUSED) ∧
      (s.node.blockDown (groupBlock g) = true → Completes (.commitValidated g ns) s fun m =>
        m.phase g = .idle ∧ m.rd (commitCode (commitAddr g)) = 8 ∧ m.store.force = s.node.store.force) ∧
      (s.node.blockDown (groupBlock g) = false → s.node.rd F.PWR_STATUS_START_PHASE ≠ 4 → Completes (.commitValidated g ns) s fun m =>
        m.phase g = .idle ∧ m.rd (commitCode (commitAddr g)) = 0xA ∧ m.store.force = s.node.store.force)) ∧
    (s.node.powered = true → s.node.blockHeld (groupBlock g) = false → Completes (.commitAbort g) s fun m =>
      m.phase g = .idle ∧ m.rd (commitCode (commitAddr g)) = 7 ∧ m.store.force = s.node.store.force ∧
      ∀ a, groupOf a = g → m.shadowWord a = s.node.forceWord a) ∧
    (s.node.idleWaits g = true → s.node.blockIdle g = true → s.node.pairActive = false → s.node.standby = false →
      Completes (.idleCommitTakeEffect g) s fun m =>
        m.phase g = .idle ∧ (∀ a, groupOf a = g → m.forceWord a = s.node.shadowWord a) ∧ m.rd (commitCode (commitAddr g)) = 0 ∧
        m.word (commitAddr g + 4) = noInfo ∧
        m.rd (commitSeq (commitAddr g)) = (s.node.rd (commitSeq (commitAddr g)) + 1) % 256 ∧
        (s.node.host.inReset = false → ∃ f ∈ m.host.fires, f.vector = 0)) ∧
    (s.node.idleWaits g = true → Completes (.idleCommitTimeout g) s fun m =>
      m.phase g = .idle ∧ m.rd (commitCode (commitAddr g)) = 0xB ∧ m.store.force = s.node.store.force ∧
      s.node.Counts m CNT_COMMIT_REFUSED)

/-- Multi-group commits complete (R99): a set whose groups may all be committed and validate is pending as a whole, one with a number that names no
group is refused with code 1 and one during a load with 0x0A (R100), an ABORT and a timeout withdraw the whole set with codes 7 and 0x0B. The copies
of the schedule and Blend banks end TBL_BUSY (R135, R349). -/
def Obligations.SetCommitCommandsComplete : Prop :=
  ∀ s : State,
    (∀ by_ ns gs, s.node.Reaches by_ 0 → (s.node.mcNumbers.filter (· != 0xFF)).eraseDups = gs →
      (s.node.rd F.PWR_STATUS_START_PHASE = 4 → s.node.mc = none → gs ≠ [] → (∀ g ∈ s.node.mcNumbers, g = 0xFF ∨ groupExists g = true) →
        (∀ g ∈ gs, s.node.goRefusal g = none) → (∀ g ∈ gs, s.node.validate gs g = none) →
        Completes (.mcCommitGo by_ ns) s fun m =>
          m.mc = some ⟨gs, s.node.commitSkip ns⟩ ∧ m.store.force = s.node.store.force ∧ ∀ g ∈ gs, m.groupLocked g = true) ∧
      (s.node.rd F.PWR_STATUS_START_PHASE = 4 → s.node.mc = none → (∃ g ∈ s.node.mcNumbers, g ≠ 0xFF ∧ groupExists g = false) →
        Completes (.mcCommitGo by_ ns) s fun m =>
          m.mc = none ∧ m.rd (commitCode 0x120) = 1 ∧ m.store.force = s.node.store.force ∧ s.node.Counts m CNT_COMMIT_REFUSED) ∧
      (s.node.rd F.PWR_STATUS_START_PHASE ≠ 4 → s.node.supply.recovery = false → Completes (.mcCommitGo by_ ns) s fun m =>
        m.mc = s.node.mc ∧ m.rd (commitCode 0x120) = 0xA ∧ m.store.force = s.node.store.force ∧ s.node.Counts m CNT_COMMIT_REFUSED)) ∧
    (s.node.powered = true → s.node.islandDown 5 = false → Completes .mcCommitAbort s fun m =>
      m.mc = none ∧ m.rd (commitCode 0x120) = 7 ∧ m.store.force = s.node.store.force ∧
      ∀ x g a, s.node.mc = some x → g ∈ x.groups → groupOf a = g → m.shadowWord a = s.node.forceWord a) ∧
    (∀ x, s.node.mc = some x → Completes .mcCommitTimeout s fun m =>
      m.mc = none ∧ m.rd (commitCode 0x120) = 0xB ∧ m.store = { s.node.store with regs := m.store.regs } ∧
      s.node.Counts m CNT_COMMIT_REFUSED) ∧
    Completes .scheduleBankCopyDone s (fun m => m.bit F.TRL_STATUS_TBL_BUSY = false) ∧
    (s.node.powered = true → Completes .blendBankCopyDone s fun m => m.bit F.BLD_STATUS_TBL_BUSY = false)

/-! ### The Trellis (file 05) -/

/-- BASE_CYCLE_START completes. With no commit, topology commit, skipped entry or re-phase due it advances CYCLE_IDX modulo N and BCNT by one and
leaves every value in force (R106, R121, R350), in a single node and in a unit of a pair that keeps its role; in a single node the one commit whose
start has come takes effect there (R96); where a hard re-phase is due, the gap begins in its place (R109); where a wake has aborted an entry into
Dormancy, Run resumes (R80). TRELLIS_SLEW_END and REPHASE_GAP_END leave the Trellis tracking, the latter with its count, event 0x0103 and the index
of the new timeline (R108, R109). GRID_ORIGIN_START ends the wait for a grid's aligned instant, with its index, BCNT one higher, and event 0x0109
where it has waited (R136; the instant of that event and its unit are the model's, log entries 75 and 78). -/
def Obligations.BaseCyclesComplete : Prop :=
  ∀ (s : State) (bus : BusView),
    (s.node.powered = true → s.node.issuing = true → s.node.supply.dormAbort = false → s.node.pair.swapIn = none → s.node.pair.becomes = none →
      s.node.rd F.RED_STATUS_STATE ≠ 2 → s.node.pair.reseedDue = false →
      (s.node.trellis.rephaseDue = false → s.node.commits = [] → s.node.mc = none → s.node.trellis.skipped = [] → s.node.ina.spec = none →
        s.node.ina.decided = none → Completes (.baseCycleStart bus) s fun m =>
          m.rd F.CYCLE_IDX_IDX = (s.node.rd F.CYCLE_IDX_IDX + 1) % max 1 (SchedBank.cycles s.node.cf) % 2 ^ 13 ∧
          m.rd F.BCNT = (s.node.rd F.BCNT + 1) % 2 ^ 32 ∧ m.store.force = s.node.store.force) ∧
      (∀ g, groupExists g = true → idleBound g = false → g ≠ 0x11 → s.node.rd F.RED_STATUS_STATE = 0 → s.node.trellis.rephaseDue = false →
        s.node.commits = [(g, .pending 0)] → s.node.mc = none → s.node.trellis.skipped = [] → s.node.ina.spec = none →
        s.node.ina.decided = none → Completes (.baseCycleStart bus) s fun m =>
          m.phase g = .idle ∧ m.rd (commitCode (commitAddr g)) = 0 ∧ ∀ a, groupOf a = g → m.forceWord a = s.node.shadowWord a) ∧
      (s.node.trellis.rephaseDue = true → Completes (.baseCycleStart bus) s fun m =>
        m.trellis.gap = true ∧ m.trellis.openGates = [] ∧ m.rd F.TRL_STATUS_PHASE_STATE = 3 ∧
        m.trellis.gapFrom = s.node.rd F.CYCLE_IDX_IDX)) ∧
    (s.node.power = .dormEntry → s.node.supply.dormAbort = true → Completes (.baseCycleStart bus) s fun m =>
      m.power = .run ∧ m.supply.dormStep = 0 ∧ m.supply.dormAbort = false ∧ m.rd F.PWR_STATUS_PWR_STATE = 1) ∧
    (s.node.rd F.TRL_STATUS_PHASE_STATE = 2 → Completes .trellisSlewEnd s fun m =>
      m.rd F.TRL_STATUS_PHASE_STATE = 1 ∧ m.rd F.PHASE_ERR_ERR = 0) ∧
    (∀ startNs gapNs, s.node.trellis.gap = true → s.node.trellis.waitOrigin = false → s.node.commits = [] → s.node.mc = none →
      s.node.trellis.skipped = [] → s.node.ina.spec = none → s.node.ina.decided = none → Completes (.rephaseGapEnd startNs gapNs bus) s fun m =>
        m.trellis.gap = false ∧ s.node.Counts m CNT_REPHASE ∧ m.rd F.TRL_STATUS_PHASE_STATE = 1 ∧
        m.rd F.CYCLE_IDX_IDX = s.node.indexAt startNs % 2 ^ 13 ∧
        (s.node.Admits 0x0103 → m.Logged 0x0103 [gapNs, s.node.trellis.gapFrom, s.node.indexAt startNs])) ∧
    (∀ startNs, s.node.trellis.waitOrigin = true →
      (Completes (.gridOriginStart startNs 0 bus) s fun m =>
        m.trellis.waitOrigin = false ∧ m.rd F.CYCLE_IDX_IDX = s.node.indexAt startNs % 2 ^ 13 ∧ m.rd F.BCNT = (s.node.rd F.BCNT + 1) % 2 ^ 32) ∧
      ∀ waitNs, waitNs ≠ 0 → s.node.commits = [] → s.node.mc = none → s.node.trellis.skipped = [] → s.node.ina.spec = none →
        s.node.ina.decided = none → Completes (.gridOriginStart startNs waitNs bus) s fun m =>
          m.trellis.waitOrigin = false ∧ m.rd F.CYCLE_IDX_IDX = s.node.indexAt startNs % 2 ^ 13 ∧ m.rd F.BCNT = (s.node.rd F.BCNT + 1) % 2 ^ 32 ∧
          (s.node.Admits 0x0109 → m.Logged 0x0109 [waitNs]))

/-- The schedule's actions complete. Where its entry is due, a gate window opens; it closes (R123). HOST_IRQ tags, and fires vector 4 unless its
entry still waits (R120). A completed action frees its target, and one that is late counts an overrun and shows its entry (R118). A test slot whose
window is too short or whose pulse is not allowed has result 3; one that does not finish is suspended; one that finishes leaves result 1 or 2 by
what it measured; a suspended test that does not finish has result 4 (R129, R533 to R536). The scrub counts an entry it corrects, counts and skips
one in force that it cannot correct, remembers such a shadow entry, and changes nothing where all is clean (R137). -/
def Obligations.ScheduleActionsComplete : Prop :=
  ∀ (s : State) (entry : Nat),
    (s.node.due entry 1 = true → s.node.trellis.openGates.contains entry = false → Completes (.gateWindowOpen entry) s fun m =>
      m.trellis.openGates = entry :: s.node.trellis.openGates) ∧
    (Completes (.gateWindowClose entry) s fun m => m.trellis.openGates.contains entry = false) ∧
    (s.node.due entry 7 = true →
      (Completes (.hostIrq entry) s fun m => m.rd F.IRQ_TAG_TAG = s.node.cf (F.ENT_ARG.at entry) % 2 ^ 16) ∧
      (s.node.host.inReset = false → s.node.host.msixPending.getLsbD 4 = false → s.node.irqQueued = false →
        Completes (.hostIrq entry) s fun m => ∃ f ∈ m.host.fires, f.vector = 4 ∧ f.arg = s.node.cf (F.ENT_ARG.at entry))) ∧
    (∀ lateNs, s.node.trellis.running.any (·.entry == entry) = true → Completes (.actionComplete entry lateNs) s fun m =>
      (∀ r ∈ m.trellis.running, r.entry ≠ entry) ∧
      (lateNs ≠ 0 → s.node.Counts m CNT_WINDOW_OVERRUN ∧ m.rd F.OVERRUN_LAST_ENTRY = entry % 2 ^ 16)) ∧
    (∀ id measured finished, s.node.due entry 6 = true → s.node.targetOf entry = id →
      ((s.node.cf (F.ENT_WINDOW.at entry) < leastWindow id ∨ (id < 0x40 ∧ s.node.pulseAllowed entry (id - 0x20) = false)) →
        Completes (.testSlot entry measured finished) s fun m => m.word (0x400 + 4 * id) = testWord id 3 0) ∧
      (leastWindow id ≤ s.node.cf (F.ENT_WINDOW.at entry) → (id < 0x40 → s.node.pulseAllowed entry (id - 0x20) = true) →
        (Completes (.testSlot entry measured false) s fun m => id ∈ m.trellis.suspended) ∧
        Completes (.testSlot entry measured true) s fun m =>
          id ∉ m.trellis.suspended ∧
          (id < 0x40 → m.word (0x400 + 4 * id) = testWord id (if measured.headD 0 < 600 then 1 else 2) (measured.headD 0)) ∧
          (0x40 ≤ id → id < 0x60 → m.word (0x400 + 4 * id) = testWord id (if measured.headD 0 = 0 then 1 else 2) (measured.headD 0)) ∧
          (0x60 ≤ id → m.word (0x400 + 4 * id) = testWord id (if measured = [] then 1 else 2) (measured.headD 0)))) ∧
    (∀ id : Byte, s.node.trellis.suspended.contains id.toNat = true → Completes (.testSuspended id) s fun m =>
      m.word (0x400 + 4 * id.toNat) = testWord id.toNat 4 0) ∧
    (∀ w inForce, s.node.powered = true → s.node.islandDown 5 = false →
      (Completes (.scheduleScrubPass [⟨inForce, entry, w, .corrected⟩]) s fun m => s.node.Counts m CNT_SCHED_ECC_CORR) ∧
      (s.node.trellis.skipped.contains entry = false → Completes (.scheduleScrubPass [⟨true, entry, w, .uncorrectable⟩]) s fun m =>
        s.node.Counts m CNT_SCHED_ECC ∧ m.trellis.skipped = entry :: s.node.trellis.skipped) ∧
      (Completes (.scheduleScrubPass [⟨false, entry, w, .uncorrectable⟩]) s fun m =>
        m.trellis.shadowBad = (entry, w.val) :: s.node.trellis.shadowBad ∧ m.store = s.node.store) ∧
      ∀ fs, (∀ f ∈ fs, ScrubFinding.result f = .clean) → Completes (.scheduleScrubPass fs) s fun m => m = s.node)

/-- FABRIC_TRANSACTION completes (R139, R140, R142, R271, R16). In a slot that its initiator owns, a Press's once it is granted the slot, a
transaction within an aligned block of 256 bytes writes the target under the target's rules, or answers with what the target holds, and one of the
host bridge or the Vintner is the access that this initiator makes there; a longer write of the dataset memory is made of one transaction for each
aligned block of 256 bytes. One of an initiator that owns no slot, and one to a target in reset, counts in CNT_XABORT, changes no buffer memory, and
a read answers all ones. -/
def Obligations.FabricTransactionsComplete : Prop :=
  ∀ (s : State) (owner : FabricOwner) (slot : Fin 16) (target : FabricTarget) (ofs : Nat),
    s.node.powered = true → s.node.islandDown 5 = false → s.node.fabricAllowed owner target = true →
    (s.node.slotOwner slot = fabricCode owner → s.node.islandDown (fabricHome target).2.2 = false →
      (∀ bytes : List Byte, 0 < bytes.length → ofs + bytes.length ≤ (fabricHome target).2.1 →
        (ofs % 256 + bytes.length ≤ 256 → fabricInitiator owner target = none →
          Completes (.fabricTransaction owner slot target true ofs bytes 0) s fun m =>
            m = ((s.node.fabricTurn owner).emit (.fabric owner true ofs bytes.length)).engineWrite owner target ofs bytes) ∧
        (∀ by_, ofs % 256 + bytes.length ≤ 256 → fabricInitiator owner target = some by_ → s.node.cutOff by_ = false →
          Completes (.fabricTransaction owner slot target true ofs bytes 0) s fun m =>
            m = ((s.node.emit (.fabric owner true ofs bytes.length)).putSpan by_ ((fabricHome target).1 + ofs) bytes).1) ∧
        (target = .datasets → Completes (.fabricTransaction owner slot target true ofs bytes 0) s fun m =>
          m.bytes (0x30000000 + ofs) bytes.length = bytes ∧ m.store.regs = s.node.store.regs ∧
          m.out = ((splitAt 256 ofs bytes.length).map fun q => .fabric owner true q.1 q.2).reverse ++ s.node.out)) ∧
      ∀ len, 0 < len → ofs % 256 + len ≤ 256 → ofs + len ≤ (fabricHome target).2.1 →
        (fabricInitiator owner target = none → Completes (.fabricTransaction owner slot target false ofs [] len) s fun m =>
          m.out = .reply (if target = .pressImages then s.node.imageRead ((fabricHome target).1 + ofs) len else s.node.fabricRead target ofs len) ::
            .fabric owner false ofs len :: s.node.out ∧ m.store = s.node.store) ∧
        ∀ by_, fabricInitiator owner target = some by_ → s.node.cutOff by_ = false →
          Completes (.fabricTransaction owner slot target false ofs [] len) s fun m =>
            m.out.head? = some (.reply ((s.node.emit (.fabric owner false ofs len)).getSpan by_ ((fabricHome target).1 + ofs) len).2.1)) ∧
    ((∀ k < 16, s.node.slotOwner k ≠ fabricCode owner) ∨
        (s.node.slotOwner slot = fabricCode owner ∧ s.node.islandDown (fabricHome target).2.2 = true) →
      (∀ bytes : List Byte, 0 < bytes.length → ofs % 256 + bytes.length ≤ 256 → ofs + bytes.length ≤ (fabricHome target).2.1 →
        Completes (.fabricTransaction owner slot target true ofs bytes 0) s fun m =>
          s.node.Counts m CNT_XABORT ∧ m.store.ram = s.node.store.ram ∧ m.out = s.node.out) ∧
      ∀ len, 0 < len → ofs % 256 + len ≤ 256 → ofs + len ≤ (fabricHome target).2.1 →
        Completes (.fabricTransaction owner slot target false ofs [] len) s fun m =>
          s.node.Counts m CNT_XABORT ∧ m.store.ram = s.node.store.ram ∧ m.out = .reply (List.replicate len 0xFF#8) :: s.node.out)
/-! ### Register accesses (files 01, 04, 06, 12, 13, 14, 15) -/

/-- REGISTER_WRITE completes by the access codes (R4): at a plain register (isPlainReg) an RW field takes the value; where the register has no RW
field, a W1C field is cleared where a 1 is written; an SH field takes the value in the shadow and leaves the value in force (R88), or is left alone
and counted while its group is locked (R98); a register without fields of these kinds keeps its word. LAT_TOL, MAX_FRAME and DEV_ID are examples.
PARTIAL_WRITE is discarded, counted and recorded (R89), and one that does not reach its register counts in CNT_XABORT (R16). -/
def Obligations.RegisterWritesComplete : Prop :=
  ∀ (s : State) (by_ : Initiator) (v : Word), s.node.cutOff by_ = false → s.node.held by_ = none →
    (∀ a r, a % 4 = 0 → s.node.reaches by_ a = true → s.node.place a = .word a → isPlainReg a = true → rowOf a = some r →
      Completes (.registerWrite by_ a v) s fun m =>
        m.store.force = s.node.store.force ∧
        (r.rw = 0 → r.w1c = 0 → m.word a = s.node.word a) ∧
        (r.rw ≠ 0 → r.w1c = 0 → m.word a = mixWord r.rw (s.node.word a) v) ∧
        (r.rw = 0 → r.w1c ≠ 0 → m.word a = s.node.word a &&& ~~~(v &&& wordMask r.w1c)) ∧
        (r.sh ≠ 0 → s.node.shadowShut a = false → m.shadowWord a = mixWord r.sh (s.node.shadowWord a) v) ∧
        (r.sh ≠ 0 → s.node.shadowShut a = true → m.store.shadow = s.node.store.shadow ∧ s.node.Counts m CNT_PARTIAL_WR) ∧
        (r.sh = 0 → m.store.shadow = s.node.store.shadow)) ∧
    (s.node.blockHeld 0xD = false → Completes (.registerWrite by_ 0xD00010 v) s fun m =>
      m.rd F.LAT_TOL_TOL_MS = F.LAT_TOL_TOL_MS.get v ∧ m.store.shadow = s.node.store.shadow ∧ m.store.force = s.node.store.force) ∧
    (∀ p, p < 19 → s.node.blockHeld 3 = false →
      (s.node.groupLocked 0x30 = false → Completes (.registerWrite by_ (0x300104 + 32 * p) v) s fun m =>
        m.sf (F.MAX_FRAME.at p) = (F.MAX_FRAME.at p).get v ∧ m.store.force = s.node.store.force ∧ m.store.regs = s.node.store.regs) ∧
      (s.node.groupLocked 0x30 = true → Completes (.registerWrite by_ (0x300104 + 32 * p) v) s fun m =>
        s.node.Counts m CNT_PARTIAL_WR ∧ m.store.shadow = s.node.store.shadow ∧ m.store.force = s.node.store.force)) ∧
    (s.node.blockHeld 0 = false → Completes (.registerWrite by_ 0 v) s fun m => m.store = s.node.store) ∧
    (∀ addr size w, s.node.reaches by_ addr = true → Completes (.partialWrite by_ addr size w) s fun m =>
      s.node.Counts m CNT_PARTIAL_WR ∧ m.store.shadow = s.node.store.shadow ∧ m.store.force = s.node.store.force ∧ m.store.ram = s.node.store.ram ∧
      (s.node.Admits 0x0013 → m.Logged 0x0013 [addr])) ∧
    (∀ addr size w, s.node.reaches by_ addr = false → Completes (.partialWrite by_ addr size w) s fun m =>
      s.node.Counts m CNT_XABORT ∧ m.store.shadow = s.node.store.shadow ∧ m.store.force = s.node.store.force ∧ m.store.ram = s.node.store.ram)

/-- Reads with an effect complete: an RC counter is cleared, or left at 1 by an event in the same clock, and the reader gets what it held (R92); the
low word of a 64-bit value, RAW for one, latches the high one for that reader alone (R91); word 0 of a table entry latches the entry (R173, R237);
TIME_LO latches its view (R356); EQ_POP0 removes the head entry and holds its other words for the reader (R396). -/
def Obligations.LatchingReadsComplete : Prop :=
  ∀ (s : State) (by_ : Initiator), s.node.cutOff by_ = false →
    (∀ a same, a % 4 = 0 → s.node.reaches by_ a = true → s.node.place a = .word a → windowOf a = none → timeView a = none →
      rowHas a (·.rc) = true → Completes (.rcCounterRead by_ a same) s fun m =>
        m.word a = (if same then 1#32 else 0#32) ∧ m.out = .reply (natLe (s.node.peek a).toNat 4) :: s.node.out) ∧
    (∀ a, a % 4 = 0 → s.node.reaches by_ a = true → windowOf a = none → timeView a = none → isLowWord (s.node.place a).home = true →
      isHighWord (s.node.place a).home = false → (s.node.place a).shows = true → rowHas (s.node.place a).home (·.rc) = false →
      (a < 0xA00220 ∨ 0xA0022C < a) → Completes (.lowWordRead by_ a) s fun m =>
        m.out = .reply (natLe (s.node.peek a).toNat 4) :: s.node.out ∧ m.highLatched by_ = s.node.peek (a + 4) ∧
        ∀ other, initiatorIx other ≠ initiatorIx by_ → m.highLatched other = s.node.highLatched other) ∧
    (s.node.blockHeld 9 = false → s.node.wiped = false → Completes (.lowWordRead by_ F.RAW_LO.addr) s fun m =>
      m.out = .reply (natLe (s.node.time.raw.extractLsb' 0 32).toNat 4) :: s.node.out ∧
      m.highLatched by_ = s.node.time.raw.extractLsb' 32 32) ∧
    (∀ a window e, a % 4 = 0 → s.node.reaches by_ a = true → windowOf a = some (window, e, 0) → Completes (.tableWord0Read by_ a) s fun m =>
      m.latchOf by_ window = some ⟨e, s.node.peek (a + 4), s.node.peek (a + 8), s.node.peek (a + 12)⟩ ∧
      m.out = .reply (natLe (s.node.peek a).toNat 4) :: s.node.out) ∧
    (∀ view : Fin 3, s.node.blockHeld 9 = false → Completes (.timeLoRead by_ view) s fun m =>
      m.timeLatched by_ view = some ⟨(s.node.viewNs view).extractLsb' 32 32, s.node.view view⟩ ∧ m.store = s.node.store ∧
      m.out.head? = some (.reply (natLe (s.node.peek (0x900108 + 0x40 * view.val)).toNat 4))) ∧
    (∀ e rest, s.node.blockHeld 0xA = false → s.node.host.eqFifo = e :: rest → s.node.host.eqLost = 0 → Completes (.eqPop0Read by_) s fun m =>
      m.host.eqFifo = rest ∧ SMap.get (fun _ => none) m.host.eqPops (initiatorIx by_) = some e ∧
      m.out = .reply (natLe e.w0.toNat 4) :: s.node.out)

/-- Writes to the data areas complete: a signal's low word is held and its high word makes the value, or is ignored for a 32-bit format (R328,
R330), unless Blend owns the signal (R330); a command word is staged with its mark unless Blend owns it (R412); OUT_XCHG swaps the output buffers
and marks the new one (R274). -/
def Obligations.DataWritesComplete : Prop :=
  ∀ (s : State) (by_ : Initiator), s.node.cutOff by_ = false →
    (∀ (sig : Fin 262144) v, s.node.reaches by_ (0x2000000 + 8 * sig.val) = true → s.node.held by_ = none →
      Completes (.signalLowWordWrite by_ sig v) s fun m => m.held by_ = some (sig.val, v) ∧ m.store = s.node.store) ∧
    (∀ (sig : Fin 262144) lo v, s.node.reaches by_ (0x2000000 + 8 * sig.val + 4) = true → s.node.held by_ = some (sig.val, lo) →
      (s.node.blendOwned sig = false → ∀ hi, hi = (if s.node.bit (F.QA_SFMT.at sig) then 0#32 else v) →
        Completes (.signalHighWordWrite by_ sig v) s fun m =>
        m.held by_ = none ∧ m.word64 (0x2000000 + 8 * sig.val) = hi ++ lo ∧ m.rd (F.QA_QUAL.at sig) = 1 ∧ m.bit (F.QA_SAT.at sig) = false) ∧
      (s.node.blendOwned sig = true → Completes (.signalHighWordWrite by_ sig v) s fun m =>
        m.held by_ = none ∧ s.node.Counts m CNT_SIG_WR_DROP ∧ m.store.ram = s.node.store.ram)) ∧
    (∀ (sig : Fin 262144) v, s.node.reaches by_ (0x2000000 + 8 * sig.val + 4) = true → s.node.held by_ = none →
      Completes (.signalHighWordWrite by_ sig v) s fun m => s.node.Counts m CNT_PARTIAL_WR) ∧
    (∀ (ch : Fin 24) v, s.node.reaches by_ (0xB10000 + 4 * ch.val) = true → s.node.held by_ = none →
      (s.node.commandOwned ch = false → Completes (.commandWordWrite by_ ch v) s fun m =>
        m.word (0xB10000 + 4 * ch.val) = v &&& 0xFF01#32 ∧ m.outs.marks.getLsbD ch = true) ∧
      (s.node.commandOwned ch = true → Completes (.commandWordWrite by_ ch v) s fun m =>
        s.node.Counts m CNT_CMD_WR_DROP ∧ m.outs = s.node.outs)) ∧
    (∀ p : Fin 16, s.node.reaches by_ (imageBase p + 0x10) = true → 0x10 < s.node.winLen p → Completes (.outXchg by_ p) s fun m =>
      m.imgBit p imgOutNew = true ∧ m.imgBit p imgOutFront = !s.node.imgBit p imgOutFront)

/-! ### The switch core (file 06) -/

/-- FRAME_RECEIVED completes at a port whose link is up: a frame that fails a check of R183 changes nothing in the Cellar and counts in that check's
counter; one that passes is counted, and before a commit does not go on (R61); a dedicated port's frame goes to its Press with its ingress stamp
(R359), or is dropped and counted (R286). In the Cellar of a single node, outside a VLAN of its port it is dropped (R151); a new source address is
learned where its bucket has a free way (R156); an IPv4 header with a bad checksum, with options or with a TTL that ends is counted and routed
nowhere but to the Vintner (R159); a frame without destination counts in CNT_NO_DEST (R157); and bridged to one port it is queued there in its
egress form, its charge as R162 decides, or refused and counted. At PP the frame is that of the flow engine or of a Press that may use PP, with its
PCP (R283, R285), and without such a frame nothing changes. -/
def Obligations.FrameReceptionCompletes : Prop :=
  ∀ (s : State) (port : Fin 19) (f₀ f : Frame) (rx : RxFlags) (press : Option (Fin 16)),
    s.node.powered = true → s.node.islandDown 0 = false → (s.node.port port).loopback = false → s.node.physical port = true →
    s.node.linkUp port = true →
    (port.val = 17 → s.node.fromPp f₀ press = none → Completes (.frameReceived port f₀ rx press) s fun m => m = s.node) ∧
    ((if port.val = 17 then s.node.fromPp f₀ press else some f₀) = some f →
      (∀ c, s.node.checkFails port f rx = some c → Completes (.frameReceived port f₀ rx press) s fun m =>
        s.node.Counts m c ∧ m.cellar = s.node.cellar) ∧
      (s.node.checkFails port f rx = none → s.node.forwarding = false → Completes (.frameReceived port f₀ rx press) s fun m =>
        s.node.Counts m (CNT_RX_FRAMES port) ∧ m.cellar = s.node.cellar) ∧
      (∀ k : Fin 16, s.node.checkFails port f rx = none → s.node.forwarding = true → s.node.dedicated port = some k.val →
        (s.node.pressTakes k f = true → Completes (.frameReceived port f₀ rx press) s fun m =>
          (m.press k).rxQueue = (s.node.press k).rxQueue ++ [(f, s.node.ingressStamp port)] ∧
          m.out.head? = some (.toPress k f (s.node.ingressStamp port)) ∧ m.cellar = s.node.cellar) ∧
        (s.node.pressTakes k f = false → Completes (.frameReceived port f₀ rx press) s fun m =>
          s.node.Counts m (CNT_PP_RX_DROP k) ∧ (m.press k).rxQueue = (s.node.press k).rxQueue ∧ m.cellar = s.node.cellar)) ∧
      (s.node.checkFails port f rx = none → s.node.forwarding = true → s.node.dedicated port = none → s.node.pair.enabled = false →
        s.node.standby = false →
        (port.val < 4 → Config.isTtdp f.dst f.etype = false) →
        (s.node.member (s.node.vidOf port f) port = false → Completes (.frameReceived port f₀ rx press) s fun m =>
          s.node.Counts m (CNT_VLAN_DROP port) ∧ m.cellar.copies = s.node.cellar.copies ∧ m.cellar.table = s.node.cellar.table) ∧
        (s.node.member (s.node.vidOf port f) port = true → s.node.cfBit (F.PORT_CFG_LEARN.at port) = true → isGroup f.src = false →
          s.node.findWay f.src (s.node.cf (F.VLAN_FID.at (s.node.vidOf port f))) = none →
          (∃ k ∈ bucketKeys (macBucket f.src (s.node.cf (F.VLAN_FID.at (s.node.vidOf port f)))), s.node.way k = none) →
          Completes (.frameReceived port f₀ rx press) s fun m =>
            ∃ k ∈ bucketKeys (macBucket f.src (s.node.cf (F.VLAN_FID.at (s.node.vidOf port f)))),
            s.node.way k = none ∧
            m.way k = some ⟨f.src, s.node.cf (F.VLAN_FID.at (s.node.vidOf port f)), BitVec.ofNat 19 (2 ^ port.val), false, s.node.nowUs⟩) ∧
        (s.node.member (s.node.vidOf port f) port = true → s.node.cfBit (F.PORT_CFG_LEARN.at port) = false → s.node.ptpPath port f = .bridge →
          (∀ ip, f.ip = some ip → f.etype = 0x0800#16 → f.dst = s.node.routerMac → s.node.routerMac ≠ 0#48 →
            (s.node.cf (F.VLAN_ROUTE.at (s.node.vidOf port f)) = 1 ∨ s.node.cf (F.VLAN_ROUTE.at (s.node.vidOf port f)) = 2) →
            (ip.checksumOk = false → Completes (.frameReceived port f₀ rx press) s fun m =>
              s.node.Counts m CNT_IP_HDR_ERR ∧ m.cellar.copies = s.node.cellar.copies) ∧
            (ip.checksumOk = true → ip.ihl ≠ 5#4 → Completes (.frameReceived port f₀ rx press) s fun m =>
              s.node.Counts m CNT_IP_SLOWPATH ∧ ∀ c ∈ m.cellar.copies, c ∈ s.node.cellar.copies ∨ c.port = 18) ∧
            (ip.checksumOk = true → ip.ihl = 5#4 → ip.ttl.toNat ≤ 1 → Completes (.frameReceived port f₀ rx press) s fun m =>
              s.node.Counts m CNT_TTL_EXPIRED ∧ ∀ c ∈ m.cellar.copies, c ∈ s.node.cellar.copies ∨ c.port = 18)) ∧
          (f.dst ≠ s.node.routerMac →
            ((s.node.bridgePorts f.dst (s.node.vidOf port f)).filter (· != port.val) = [] → Completes (.frameReceived port f₀ rx press) s fun m =>
              s.node.Counts m (CNT_NO_DEST port) ∧ m.cellar.copies = s.node.cellar.copies) ∧
            ∀ q form, (s.node.bridgePorts f.dst (s.node.vidOf port f)).filter (· != port.val) = [q] → s.node.mayReach q = true →
              form = s.node.egressForm f (s.node.vidOf port f) (s.node.pcpOf port f) q →
              (∀ g, s.node.admission (casksOf f.len) q (s.node.queueOf q (s.node.pcpOf port f)) form.len = .taken g →
                Completes (.frameReceived port f₀ rx press) s fun m => ∃ c, m.cellar.copies = s.node.cellar.copies ++ [c] ∧
                  c.port = q ∧ c.queue = s.node.queueOf q (s.node.pcpOf port f) ∧ c.casks = casksOf f.len ∧ c.guaranteed = g ∧ c.out = form) ∧
              (s.node.admission (casksOf f.len) q (s.node.queueOf q (s.node.pcpOf port f)) form.len = .refused →
                Completes (.frameReceived port f₀ rx press) s fun m =>
                  s.node.Counts m (CNT_ADMIT_DROP q) ∧ m.cellar.copies = s.node.cellar.copies)))))

/-- The egress commands complete: COPY_SELECTED starts the highest queue with a frame whose gate stays open, with its egress stamp (R124, R152,
R359); a sent copy that carries no PTP event message leaves at the wire and is counted, with an inverted FCS, a count and its Cask retired once
after an uncorrectable error (R170, R171); ageing leaves no aged copy and keeps every other but those with a stamp request (R165), and no Lees frame
older than 100 ms (R228); a learned entry ages out (R156); the scrub counts what it corrects and its passes (R170), and takes out a held frame it
cannot correct (R171). On a multidrop port a collision backs off and keeps the copy, the 16th and a late one discard it (R205, R206). The oldest
frame of the Lees queue that is to be released leaves it (R228). -/
def Obligations.EgressCommandsComplete : Prop :=
  ∀ s : State,
    (∀ (port : Fin 19) (q : Fin 8) ns c, s.node.forwarding = true → s.node.portIdle port = true → port.val ≠ 16 →
      (∀ k, q.val < k → k < 8 → s.node.headCopy port k = (s.node, none)) →
      s.node.headCopy port q = (s.node, some c) → s.node.gateFits port q ns c.out.len (s.node.mbps port) = true →
      Completes (.copySelected port ns) s fun m =>
        m.sendingOn port = some { c with egress := s.node.egressStamp port } ∧ c ∉ m.cellar.copies ∧
        ∀ d ∈ s.node.cellar.copies, d ≠ c → d ∈ m.cellar.copies) ∧
    (∀ (port : Fin 19) c cask, s.node.sendingOn port = some c → c.out.ptpEvent = none → c.port = port.val →
      (Completes (.copySent port .clean cask) s fun m =>
        m.sendingOn port = none ∧ s.node.Counts m (CNT_TX_FRAMES port) ∧
        (port.val ≠ 18 → m.out = (if s.node.physical port then .frame port c.out true else .frame s.node.pairUplink (c.out.relayed port) true) ::
          s.node.out) ∧ (port.val = 18 → .frame port c.out true ∈ m.out)) ∧
      (Completes (.copySent port .uncorrectable cask) s fun m =>
        m.sendingOn port = none ∧ s.node.Counts m CNT_BUF_ECC ∧
        m.out = (if s.node.physical port then .frame port c.out false else .frame s.node.pairUplink (c.out.relayed port) false) :: s.node.out ∧
        m.rd F.SWC_STATUS_RETIRED = s.node.rd F.SWC_STATUS_RETIRED +
          (if s.node.rd F.SWC_STATUS_RETIRED < 64 ∧ cask ∉ s.node.cellar.retired then 1 else 0) ∧
        (s.node.rd F.SWC_STATUS_RETIRED < 64 → cask ∈ m.cellar.retired))) ∧
    (s.node.forwarding = true → Completes .ageingSweep s fun m =>
      (∀ c ∈ m.cellar.copies, s.node.aged c = false) ∧ (∀ c ∈ s.node.cellar.copies, s.node.aged c = false → c ∈ m.cellar.copies ∨ c.tsReq ≠ none) ∧
      ∀ h ∈ m.cellar.lees, s.node.nowUs - h.rxUs ≤ 100000) ∧
    (∀ (bucket : Fin 2048) (way : Fin 8) w, s.node.way (8 * bucket.val + way.val) = some w → w.isStatic = false →
      s.node.cf F.ADDR_CFG_AGE_SEL ≠ 7 → Completes (.learnedEntryAged bucket way) s fun m => m.way (8 * bucket.val + way.val) = none) ∧
    (∀ line holder, s.node.forwarding = true →
      (Completes (.bufferScrubLine line holder .corrected) s fun m => s.node.Counts m CNT_BUF_ECC_CORR ∧ m.cellar = s.node.cellar) ∧
      (Completes (.bufferScrubLine line holder .clean) s fun m => m.cellar = s.node.cellar ∧
        m.rd F.SCRUB_PASS = (s.node.rd F.SCRUB_PASS + (if line % 49152 = 49151 then 1 else 0)) % 4294967296)) ∧
    (∀ line h, s.node.forwarding = true → (s.node.heldFrames.any fun e => e.1 == h) = true →
      Completes (.bufferScrubLine line (some h) .uncorrectable) s fun m =>
        s.node.Counts m CNT_BUF_ECC ∧ (∀ c ∈ m.cellar.copies, c.id ≠ h) ∧ ∀ e ∈ m.cellar.lees, e.id ≠ h) ∧
    (∀ (md : Fin 2) c, s.node.sendingOn (14 + md.val) = some c →
      (c.tries < 15 → Completes (.mdCollision md) s fun m =>
        s.node.Counts m (CNT_COLL (14 + md.val)) ∧ m.sendingOn (14 + md.val) = none ∧
        m.cellar.copies = { c with tries := c.tries + 1 } :: s.node.cellar.copies ∧
        ∃ r, (m.port (14 + md.val)).backoff = some r ∧ r < 2 ^ min (c.tries + 1) 10) ∧
      (15 ≤ c.tries → Completes (.mdCollision md) s fun m =>
        s.node.Counts m (CNT_COLL (14 + md.val)) ∧ s.node.Counts m (CNT_EXCESS_COLL (14 + md.val)) ∧ m.cellar.copies = s.node.cellar.copies) ∧
      (Completes (.lateCollision md) s fun m =>
        s.node.Counts m (CNT_LATE_COLL (14 + md.val)) ∧ m.sendingOn (14 + md.val) = none ∧ m.cellar.copies = s.node.cellar.copies)) ∧
    (∀ md : Fin 2, Completes (.mdBackoffEnd md) s fun m => (m.port (14 + md.val)).backoff = none) ∧
    (∀ h rest, s.node.forwarding = true → s.node.cellar.releasing ≠ 0 → s.node.cellar.lees = h :: rest → Completes .leesReleaseFrame s fun m =>
      m.cellar.releasing = s.node.cellar.releasing - 1 ∧ h ∉ m.cellar.lees ∧
      m.cellar.lees.length ≤ s.node.cellar.lees.length)

/-! ### Ports (file 07) -/

/-- The port commands complete. PHY_LINK_OK with a report that the mode can use makes the link usable and shows the report, each field in the modes
that have it (R186, R190, R194, R210), with a glitch counted where the port was still reported up (R187); any other report leaves the link as it was
(R178, R191, R192, R202). A report of link up sets UP and LINK_SUMMARY; one of link down clears them and SPEED, flushes the port's queues and counts
(R186, R187). A lost link leaves the port unusable and its sending ended (R187). A failed attempt shows, counts or records what its cause asks in
the modes that know it (R191, R192, R202). The settle mask ends, and a state that has lasted is reported (R197). WAKE_EMIT sends the code 0b10110010
four times on an enabled port that is link down, is counted and refused on one that is link up and ignored on a disabled one; an emission ends
(R198, R199). -/
def Obligations.PortCommandsComplete : Prop :=
  ∀ s : State,
    (∀ (port : Fin 16) info, port.val < 14 → s.node.portTrains port = true →
      (s.node.phyRefused port info = none → (s.node.port port).usable = false → Completes (.phyLinkOk port info) s fun m =>
        (m.port port).usable = true ∧ (m.port port).info = s.node.shownPhy port info ∧
        m.rd (F.LINK_STATUS_SPEED.at port) = (s.node.shownPhy port info).speed.toNat ∧
        m.rd (F.LINK_STATUS_SQI.at port) = (s.node.shownPhy port info).sqi.toNat ∧
        m.bit (F.LINK_STATUS_MASTER.at port) = (s.node.shownPhy port info).master ∧
        m.bit (F.LINK_STATUS_MDIX.at port) = (s.node.shownPhy port info).mdix ∧
          m.bit (F.LINK_STATUS_HALF.at port) = (s.node.shownPhy port info).half ∧
        m.bit (F.LINK_STATUS_AN_DONE.at port) = (s.node.shownPhy port info).anDone ∧
        m.bit (F.LINK_STATUS_LOCAL_RX_OK.at port) = (s.node.shownPhy port info).localRxOk ∧
        m.bit (F.LINK_STATUS_REMOTE_RX_OK.at port) = (s.node.shownPhy port info).remoteRxOk ∧
        ((s.node.port port).losing = true → s.node.Counts m (CNT_LINK_GLITCH port))) ∧
      (s.node.phyRefused port info = none → (s.node.port port).usable = true → Completes (.phyLinkOk port info) s fun m =>
        (m.port port).usable = true ∧ m.rd (F.LINK_STATUS_SQI.at port) = (s.node.shownPhy port info).sqi.toNat) ∧
      (∀ why, s.node.phyRefused port info = some why → Completes (.phyLinkOk port info) s fun m =>
        (m.port port).usable = (s.node.port port).usable ∧ m.linkUp port = s.node.linkUp port)) ∧
    (∀ (port : Fin 16) ns, s.node.portTrains port = true → s.node.portUsable port = true → s.node.linkUp port = false →
      s.node.settling port = false → Completes (.linkUpReport port ns) s fun m =>
        m.linkUp port = true ∧ m.bit ⟨0x300000, port.val, 1, 4⟩ = true ∧ (m.port port).losing = false) ∧
    (∀ port : Fin 16, s.node.powered = true → (s.node.port port).usable = true → port.val < 14 → Completes (.phyLinkLoss port) s fun m =>
      (m.port port).usable = false ∧ (m.port port).losing = s.node.linkUp port ∧ m.sendingOn port = none) ∧
    (∀ (port : Fin 16) ns, s.node.powered = true → s.node.physical port = true → s.node.linkUp port = true → s.node.portUsable port = false →
      s.node.settling port = false → Completes (.linkDownReport port ns) s fun m =>
        m.linkUp port = false ∧ m.bit ⟨0x300000, port.val, 1, 4⟩ = false ∧ m.rd (F.LINK_STATUS_SPEED.at port) = 0 ∧
        (∀ c ∈ m.cellar.copies, c.port ≠ port.val) ∧ s.node.Counts m (CNT_LINK_DOWN port)) ∧
    (∀ (port : Fin 16), s.node.portTrains port = true → (s.node.port port).usable = false →
      (modeHears (s.node.portMode F.PORT_MODE_MODE port) = true →
        (Completes (.linkAttemptFailed port .halfDuplex) s fun m =>
          m.bit (F.LINK_STATUS_HALF.at port) = true ∧ (s.node.Admits 0x0303 → m.Logged 0x0303 [port.val])) ∧
        (Completes (.linkAttemptFailed port .speed) s fun m => s.node.Admits 0x0303 → m.Logged 0x0303 [port.val])) ∧
      (isT1 (s.node.portMode F.PORT_MODE_MODE port) = true →
        (Completes (.linkAttemptFailed port .role) s fun m => s.node.Counts m (CNT_LINK_GLITCH port)) ∧
        (Completes (.linkAttemptFailed port .mode) s fun m => s.node.Counts m (CNT_LINK_GLITCH port)))) ∧
    (∀ (lineB : Bool) ns, s.node.powered = true → s.node.bit ⟨0x300008, 2 + lineB.toNat, 1, 4⟩ = true →
      Completes (.settleMaskEnd lineB ns) s fun m =>
        m.bit ⟨0x300008, 2 + lineB.toNat, 1, 4⟩ = false ∧ ∀ p ∈ [lineB.toNat, lineB.toNat + 2], m.settling p = false ∧
          m.linkUp p = (if s.node.physical p = true ∧ s.node.portUsable p = true ∧ s.node.linkUp p = false ∧
              s.node.upTicks p ≤ s.node.now - (s.node.port p).since then true
            else if s.node.physical p = true ∧ s.node.portUsable p = false ∧ s.node.linkUp p = true ∧
              s.node.downTicks p ≤ s.node.now - (s.node.port p).since then false
            else s.node.linkUp p)) ∧
    (∀ by_ (p : Fin 4), s.node.Reaches by_ 3 → s.node.emitting p = false →
      (s.node.linkUp p = true → Completes (.wakeEmit by_ (BitVec.ofNat 4 (2 ^ p.val))) s fun m =>
        s.node.Counts m CNT_WAKE_REFUSED ∧ m.emitting p = false) ∧
      (s.node.linkUp p = false → s.node.portMode F.PORT_MODE_MODE p = 0 → Completes (.wakeEmit by_ (BitVec.ofNat 4 (2 ^ p.val))) s fun m =>
        m = { s.node with vnt := m.vnt, store := m.store } ∧ m.emitting p = false) ∧
      (s.node.linkUp p = false → s.node.portMode F.PORT_MODE_MODE p ≠ 0 → Completes (.wakeEmit by_ (BitVec.ofNat 4 (2 ^ p.val))) s fun m =>
        m.emitting p = true ∧ m.out = .wakePattern p 0b10110010#8 4 :: s.node.out ∧ (m.port p).usable = false)) ∧
    (∀ p : Fin 4, Completes (.wakeEmissionEnd p) s fun m => m.emitting p = false)

/-- A snapshot copies the sixteen counters of the port, or of each port, and clears them, BUSY set; a GO while one runs changes no register; its
completion clears BUSY, advances SEQ, shows whether all ports were copied or which one, and fires vector 15 where that was asked for (R209). -/
def Obligations.SnapshotCommandsComplete : Prop :=
  ∀ s : State,
    (∀ by_ v p, s.node.Reaches by_ 3 → s.node.bit F.SNAP_STATUS_BUSY = false → F.SNAP_CMD_GO.get v = 1 →
      (if F.SNAP_CMD_ALL.get v = 1 then p ≤ 18 else F.SNAP_CMD_PORT.get v = p ∧ p ≤ 18) → Completes (.snapCmdGo by_ v) s fun m =>
        m.bit F.SNAP_STATUS_BUSY = true ∧ ∀ k < 16,
          m.word (0x303000 + 64 * p + 4 * k) = s.node.word (0x302000 + 64 * p + 4 * k) ∧ m.word (0x302000 + 64 * p + 4 * k) = 0#32) ∧
    (∀ by_ v, s.node.Reaches by_ 3 → s.node.bit F.SNAP_STATUS_BUSY = true → s.node.held by_ = none →
      Completes (.snapCmdGo by_ v) s fun m => m.store = s.node.store) ∧
    (s.node.bit F.SNAP_STATUS_BUSY = true → Completes .snapshotComplete s fun m =>
      m.bit F.SNAP_STATUS_BUSY = false ∧ m.rd F.SNAP_STATUS_SEQ = (s.node.rd F.SNAP_STATUS_SEQ + 1) % 2 ^ F.SNAP_STATUS_SEQ.width ∧
      m.bit F.SNAP_STATUS_LAST_ALL = s.node.bit F.SNAP_CMD_ALL ∧
      (s.node.bit F.SNAP_CMD_ALL = false → m.rd F.SNAP_STATUS_LAST_PORT = s.node.rd F.SNAP_CMD_PORT) ∧
      (s.node.bit F.SNAP_CMD_IRQ = true → s.node.host.inReset = false → ∃ x ∈ m.host.fires, x.vector = 15))

/-! ### Inauguration (file 08) -/

/-- The inauguration commands complete. A HELLO makes its line valid with its neighbour, and while the engine runs shows the line up and keeps what
it hears (R217, R237); a timeout makes the line invalid and shows it down (R217). A bad frame and a table of more than 63 consists are counted and
change nothing of the inauguration (R214, R216); any other table's counter is kept for train agreement (R225). The node's own HELLO and TOPOLOGY are
queued at queue 7 of the line where admission takes them, and counted where it refuses them (R215, R216). A speculation that times out is dropped,
its held frames discarded and counted (R27, R227). -/
def Obligations.InaugurationCommandsComplete : Prop :=
  ∀ (s : State) (line : Fin 4) (leadNs : Nat),
    (∀ mac info, s.node.forwarding = true → s.node.linkUp line = true → Completes (.ttdpFrameReceived line (.hello mac info true) leadNs) s fun m =>
      (m.line line).helloValid = true ∧ (m.line line).neighbour = mac ∧
      (s.node.inaLive = true → m.lineUp line = true ∧ m.bit (lineField line) = true ∧
        ∀ c, info = some c → m.ina.heard.head? = some c)) ∧
    (∀ mac info, s.node.forwarding = true → s.node.linkUp line = true →
      Completes (.ttdpFrameReceived line (.hello mac info false) leadNs) s fun m =>
      s.node.Counts m CNT_TTDP_ERR ∧ m.ina = s.node.ina) ∧
    (∀ mac t counter, s.node.forwarding = true → s.node.linkUp line = true → s.node.inaLive = true →
      (63 < t.length → Completes (.ttdpFrameReceived line (.topology mac t counter true) leadNs) s fun m =>
        s.node.Counts m CNT_TTDP_ERR ∧ m.ina = s.node.ina) ∧
      (t.length ≤ 63 → Completes (.ttdpFrameReceived line (.topology mac t counter true) leadNs) s fun m =>
        ⟨mac, counter, s.node.now⟩ ∈ m.ina.reports)) ∧
    (∀ mac t counter, s.node.forwarding = true → s.node.linkUp line = true →
      Completes (.ttdpFrameReceived line (.topology mac t counter false) leadNs) s
      fun m => s.node.Counts m CNT_TTDP_ERR ∧ m.ina = s.node.ina) ∧
    (Completes (.lineTimeout line leadNs) s fun m => (m.line line).helloValid = false ∧
      (s.node.inaLive = true → m.lineUp line = false ∧ m.bit (lineField line) = false)) ∧
    (∀ f, s.node.inaLive = true → s.node.linkUp line = true →
      f = Config.ttdpFrame true (portMac line) (BitVec.ofNat 4 (s.node.rd ⟨0x400000, 4, 4, 4⟩)) s.node.ina.table (topoCount s.node.ina.table) →
      Completes (.ttdpHelloTx line) s fun m =>
        (m.line line).fastLeft = (s.node.line line).fastLeft - 1 ∧
        (s.node.admission (casksOf f.len) line 7 f.len = .refused → m.cellar.copies = s.node.cellar.copies ∧
          s.node.Counts m (CNT_ADMIT_DROP line)) ∧
        ∀ g, s.node.admission (casksOf f.len) line 7 f.len = .taken g →
          ∃ c, m.cellar.copies = s.node.cellar.copies ++ [c] ∧ c.port = line.val ∧ c.queue = 7 ∧ c.guaranteed = g ∧ c.out = f) ∧
    (∀ f, s.node.inaLive = true → s.node.linkUp line = true →
      f = Config.ttdpFrame false s.node.nodeMac (BitVec.ofNat 4 (s.node.rd ⟨0x400000, 4, 4, 4⟩)) s.node.ina.table (topoCount s.node.ina.table) →
      Completes (.ttdpTopologyTx line) s fun m =>
        (s.node.admission (casksOf f.len) line 7 f.len = .refused → m.cellar.copies = s.node.cellar.copies ∧
          s.node.Counts m (CNT_ADMIT_DROP line)) ∧
        ∀ g, s.node.admission (casksOf f.len) line 7 f.len = .taken g →
          ∃ c, m.cellar.copies = s.node.cellar.copies ++ [c] ∧ c.port = line.val ∧ c.queue = 7 ∧ c.guaranteed = g ∧ c.out = f) ∧
    (s.node.inaLive = true → s.node.ina.decided = none → s.node.ina.spec.isSome = true → Completes .speculationTimeout s fun m =>
      m.ina.spec = none ∧ m.cellar.specBank = none ∧ m.cellar.lees = [] ∧ m.cellar.specActive = false ∧ m.rd F.SPEC_TOPO_CNT = 0 ∧
      m.word CNT_LEES_DISCARD = BitVec.ofNat 32 (min ((s.node.word CNT_LEES_DISCARD).toNat + s.node.cellar.lees.length) 0xFFFFFFFF))

/-- TOPOLOGY_COMMIT puts a decided topology in force at its boundary: table, tag, counters and translation bank, the previous bank kept for two base
cycles (R226, R229, R230, R254), recomputed entries of the schedule (R132), and the shadows of its unlocked groups as the values in force, a host
edit withdrawn with code 7 (R543). RECOMPUTE_VALIDATED decides the topology, its entries of group 0x10 in the shadow bank unless that is locked
(R132, R230); RECOMPUTE_FAIL leaves the node in the failure state, with the fault and event 0x0407 (R231). -/
def Obligations.TopologyCommitsComplete : Prop :=
  ∀ s : State,
    (∀ c, s.node.ina.decided = some c → s.node.inaLive = true → c.skip = 0 → sameTable s.node.ina.table c.table = true →
      (∀ e ∈ c.bank, groupOf e.1 = 0x21) → (∀ e ∈ c.schedule, groupOf e.1 = 0x10) →
      Completes .topologyCommit s fun m =>
        m.ina.committed = c.table ∧ m.ina.decided = none ∧ m.ina.spec = none ∧ m.rd F.TRL_STATUS_TOPO_TAG = c.tag ∧
        m.word F.ETB_TOPO_CNT.addr = c.counter ∧ m.rd F.INA_STATUS_STATE = 1 ∧ m.rd F.INA_STATUS_CONSISTS = c.table.length % 64 ∧
        m.word F.ETB_CNT_PREV.addr = s.node.word F.ETB_CNT_CUR.addr ∧ m.word F.ETB_CNT_CUR.addr = c.counter ∧ m.rd F.PDF_STATUS_GRACE = 2 ∧
        s.node.Counts m CNT_INAUG ∧ m.cellar.prevBank = s.node.translationBank ∧ m.cellar.prevCycles = 2 ∧
        m.cellar.releasing = s.node.cellar.lees.length ∧ FaultCause.recompute ∉ m.faults ∧
        (∀ a, groupOf a = 0x21 → m.forceWord a = ((SMap.setAll resetWord [] c.bank : SMap Word)).foldl
          (fun w e => if e.1 = a then e.2 else w) (resetWord a)) ∧
        (∀ a, groupOf a = 0x10 → m.forceWord a = if c.recompute = true ∧
          c.tag = 0 then (s.node.putForces c.schedule).forceWord a else s.node.forceWord a) ∧
        ∀ g ∈ topoGroups, s.node.groupLocked g = false → (∀ a ∈ s.node.groupKeys g, m.shadowWord a = m.forceWord a) ∧
          m.rd (commitCode (commitAddr g)) = if (s.node.putForces c.schedule).dirty g then 7 else 0) ∧
    (∀ leadNs c entries, s.node.ina.recomputing = some c → s.node.inaLive = true → (c.tag ≠ 0 ∨ s.node.directoryFits c.table = true) →
      Completes (.recomputeValidated leadNs entries) s fun m =>
        m.ina.decided = some { c with
          skip := if leadNs < 10000 then 2 else 1, schedule := if c.tag = 0 then entries.filter fun e => groupOf e.1 == 0x10 else [] } ∧
        m.ina.recomputing = none ∧ m.rd F.INA_STATUS_STATE = 5 ∧ m.store.force = s.node.store.force ∧
        (∀ a, groupOf a = 0x10 → m.shadowWord a = if c.tag = 0 ∧ s.node.groupLocked 0x10 = false then
            (s.node.putShadows (entries.filter fun e => groupOf e.1 == 0x10)).shadowWord a else s.node.shadowWord a)) ∧
    (∀ capacity, s.node.ina.recomputing.isSome = true → Completes (.recomputeFail capacity) s fun m =>
      m.ina.recomputing = none ∧ m.ina.decided = none ∧ m.ina.owed = true ∧ FaultCause.recompute ∈ m.faults ∧ m.rd F.INA_STATUS_STATE = 6 ∧
      (s.node.Admits 0x0407 → m.Logged 0x0407 [if capacity then 1 else 0]))

/-! ### Process data and messages (file 09) -/

/-- The flow commands complete. PD_TX: an inactive context sends nothing and counts, and so does a publisher without a dataset (R248); a publisher
and a pull requester that can send count their sequence counter up (R248, R249); the active unit counts the telegram and puts it through PP, where
it enters the Cellar as a frame of R247 (R241), and a standby unit leaves the Cellar alone (R250); SDTv2 advances its own counter (R258).
MSG_CMD_PULL sends a pull request (R249). A telegram is refused and counted at the first check of R251 that it fails (R255, R258, R259), or stored
in the back buffer, which becomes the front (R252, R253); a Pr without context counts, and with one is answered under its sequence counter, or
refused for a stale topology counter (R249, R255). A subscriber times out with a count, its dataset cleared where TO_ACTION asks (R253). -/
def Obligations.FlowCommandsComplete : Prop :=
  ∀ s : State,
    (∀ entry i, s.node.due entry 2 = true → s.node.blockHeld 5 = false → s.node.targetOf entry = i → i < 1024 →
      (s.node.trellis.running.any fun r => r.action == 2 && r.target == i) = false →
      (s.node.flowActive i = false → Completes (.pdTx entry) s fun m => s.node.Counts m CNT_PD_INACTIVE) ∧
      (s.node.flowActive i = true → s.node.cf (F.CTX_ROLE.at i) = 0 → s.node.bit (F.CST_NEVER.at i) = true →
        s.node.cf (F.CTX_DS_LEN.at i) ≠ 0 → Completes (.pdTx entry) s fun m => s.node.Counts m CNT_PD_NOT_READY) ∧
      ∀ dst mac, s.node.flowActive i = true → s.node.flowPeer i = some dst → s.node.macFor dst = some mac → s.node.ownsSlot 2 = true →
        (s.node.cf (F.CTX_ROLE.at i) = 0 → s.node.bit (F.CST_NEVER.at i) = false →
          (s.node.activeUnit = false → Completes (.pdTx entry) s fun m => ⟨entry, 2, i⟩ ∈ m.trellis.running ∧
            m.rd (F.CST_SEQ.at i) = (s.node.rd (F.CST_SEQ.at i) + 1) % 2 ^ 32 ∧ m.cellar = s.node.cellar ∧
            (s.node.cfBit (F.CTX_SDT_EN.at i) = true → (m.flow i).safeSeq = ((s.node.flow i).safeSeq + 1) % 2 ^ 32)) ∧
          (∀ n f, s.node.activeUnit = true → s.node.cfBit (F.CTX_SDT_EN.at i) = false → n = s.node.incr (F.CST_SEQ.at i) →
            f = n.telegramFrame (n.flowTelegram i .pd dst (n.forceWord (F.CTX_COM_ID.at i).addr) (s.node.sentData i)) mac
              (n.cf (F.CTX_VID.at i)) (n.cf (F.CTX_PCP.at i)) false →
            s.node.checkFails 17 f ⟨false, false, false⟩ = none → Completes (.pdTx entry) s fun m =>
              m.rd (F.CST_SEQ.at i) = (s.node.rd (F.CST_SEQ.at i) + 1) % 2 ^ 32 ∧ s.node.Counts m CNT_PD_TX ∧
              s.node.Counts m (CNT_RX_FRAMES 17) ∧ ⟨entry, 2, i⟩ ∈ m.trellis.running ∧
              ∀ q g, s.node.forwarding = true → s.node.pair.enabled = false → s.node.dedicated 17 = none →
                s.node.member (s.node.vidOf 17 f) 17 = true → s.node.cfBit (F.PORT_CFG_LEARN.at 17) = false → mac ≠ s.node.routerMac →
                (s.node.bridgePorts mac (s.node.vidOf 17 f)).filter (· != 17) = [q] →
                s.node.admission (casksOf f.len) q (s.node.queueOf q (s.node.pcpOf 17 f))
                  (s.node.egressForm f (s.node.vidOf 17 f) (s.node.pcpOf 17 f) q).len = .taken g →
                ∃ c, m.cellar.copies = s.node.cellar.copies ++ [c] ∧ c.port = q ∧
                  c.out = s.node.egressForm f (s.node.vidOf 17 f) (s.node.pcpOf 17 f) q)) ∧
        (s.node.cf (F.CTX_ROLE.at i) = 2 → Completes (.pdTx entry) s fun m => ⟨entry, 2, i⟩ ∈ m.trellis.running ∧
          m.rd (F.CST_SEQ.at i) = (s.node.rd (F.CST_SEQ.at i) + 1) % 2 ^ 32 ∧
          (s.node.activeUnit = true → s.node.Counts m CNT_PD_TX) ∧ (s.node.activeUnit = false → m.cellar = s.node.cellar))) ∧
    (∀ by_ (i : Fin 1024) dst mac, s.node.Reaches by_ 5 → s.node.pdfLive = true → s.node.flowActive i = true →
      s.node.cf (F.CTX_ROLE.at i) = 2 → s.node.flowPeer i = some dst → s.node.macFor dst = some mac →
      Completes (.msgCmdPull by_ i) s fun m => m.rd (F.CST_SEQ.at i) = (s.node.rd (F.CST_SEQ.at i) + 1) % 2 ^ 32 ∧
        (s.node.activeUnit = true → s.node.Counts m CNT_PD_TX ∧ (90 ≤ s.node.maxFrame 17 90 → s.node.Counts m (CNT_RX_FRAMES 17))) ∧
        (s.node.activeUnit = false → m.cellar = s.node.cellar)) ∧
    (∀ t : Telegram, s.node.takes t = true → t.msgType ∈ [TrdpType.pd, .pp, .pe, .unknown] →
      (badHeader t = true → Completes (.pdReceived t) s fun m => s.node.Counts m CNT_PD_HDR_ERR) ∧
      (badHeader t = false → s.node.subscriberOf t = none → Completes (.pdReceived t) s fun m => s.node.Counts m CNT_PD_NO_CTX) ∧
      ∀ i, badHeader t = false → s.node.subscriberOf t = some i → i < 1024 →
        ((t.dsLen ≠ s.node.cf (F.CTX_DS_LEN.at i) ∨ t.frameLongEnough = false ∨ t.data.length ≠ t.dsLen) →
          Completes (.pdReceived t) s fun m => s.node.Counts m CNT_PD_LEN_ERR ∧ m.store.ram = s.node.store.ram) ∧
        (t.dsLen = s.node.cf (F.CTX_DS_LEN.at i) → t.frameLongEnough = true → t.data.length = t.dsLen →
          (s.node.countersOk (s.node.cf (F.CTX_CNT_MODE.at i)) (s.node.cfBit (F.CTX_STRICT.at i)) t.etbTopo t.opTopo = false →
            Completes (.pdReceived t) s fun m => s.node.Counts m CNT_TOPO_STALE ∧ (m.flow i).staleSeen = true ∧ m.store.ram = s.node.store.ram) ∧
          (s.node.countersOk (s.node.cf (F.CTX_CNT_MODE.at i)) (s.node.cfBit (F.CTX_STRICT.at i)) t.etbTopo t.opTopo = true →
            ((t.seq = s.node.word (F.CST_SEQ.at i).addr ∧ t.src = s.node.word (F.CST_SRC_IP.at i).addr) →
              Completes (.pdReceived t) s fun m => s.node.Counts m CNT_PD_DUP ∧ m.store.ram = s.node.store.ram) ∧
            (¬ (t.seq = s.node.word (F.CST_SEQ.at i).addr ∧ t.src = s.node.word (F.CST_SRC_IP.at i).addr) →
              (s.node.cfBit (F.CTX_SDT_EN.at i) = true → s.node.sdtFails i t.data ≠ 0 → Completes (.pdReceived t) s fun m =>
                s.node.Counts m CNT_SDT_ERR ∧ (m.flow i).failRun = true ∧ (m.flow i).validRun = 0 ∧ m.store.ram = s.node.store.ram) ∧
              ((s.node.cfBit (F.CTX_SDT_EN.at i) = true → s.node.sdtFails i t.data = 0) → s.node.ownsSlot 2 = true →
                Completes (.pdReceived t) s fun m =>
                  s.node.Counts m CNT_PD_RX ∧ m.word (F.CST_SEQ.at i).addr = t.seq ∧ m.word (F.CST_SRC_IP.at i).addr = t.src ∧
                  m.bit (F.CST_NEW.at i) = true ∧ m.bit (F.CST_NEVER.at i) = false ∧ m.bit (F.CST_TIMED_OUT.at i) = false ∧
                  m.rd (F.CST_FRONT.at i) = 1 - s.node.rd (F.CST_FRONT.at i) ∧ m.bytes (s.node.backBuffer i) t.dsLen = t.data ∧
                  (s.node.cfBit (F.CTX_SDT_EN.at i) = true → (m.flow i).failRun = false ∧ (m.flow i).safeSeq = trailerSeq t.data)))))) ∧
    (∀ t : Telegram, s.node.takes t = true → t.msgType = .pr → badHeader t = false →
      ((s.node.flowsInUse.filter fun j => s.node.flowActive j && s.node.forceWord (F.CTX_COM_ID.at j).addr == t.comId &&
        (s.node.cf (F.CTX_ROLE.at j) == 3 || (s.node.cf (F.CTX_ROLE.at j) == 0 && s.node.cfBit (F.CTX_PULL_EN.at j)))) = [] →
        Completes (.pullRequestReceived t) s fun m => s.node.Counts m CNT_PD_NO_CTX) ∧
      ∀ i, i < 1024 → (s.node.flowsInUse.filter fun j => s.node.flowActive j && s.node.forceWord (F.CTX_COM_ID.at j).addr == t.comId &&
        (s.node.cf (F.CTX_ROLE.at j) == 3 || (s.node.cf (F.CTX_ROLE.at j) == 0 && s.node.cfBit (F.CTX_PULL_EN.at j)))) = [i] →
        (s.node.countersOk (s.node.cf (F.CTX_CNT_MODE.at i)) (s.node.cfBit (F.CTX_STRICT.at i)) t.etbTopo t.opTopo = false →
          Completes (.pullRequestReceived t) s fun m => s.node.Counts m CNT_TOPO_STALE ∧ m.cellar = s.node.cellar) ∧
        (s.node.countersOk (s.node.cf (F.CTX_CNT_MODE.at i)) (s.node.cfBit (F.CTX_STRICT.at i)) t.etbTopo t.opTopo = true →
          (s.node.macFor (if t.replyIp = 0#32 then t.src else t.replyIp)).isSome = true → Completes (.pullRequestReceived t) s fun m =>
            m.rd (F.CST_SEQ.at i) = (s.node.rd (F.CST_SEQ.at i) + 1) % 2 ^ 32 ∧
            (s.node.activeUnit = true → s.node.Counts m CNT_PD_TX) ∧ (s.node.activeUnit = false → m.cellar = s.node.cellar))) ∧
    (∀ i : Fin 1024, s.node.pdfLive = true → s.node.flowActive i = true → s.node.cf (F.CTX_ROLE.at i) = 1 →
      s.node.cf (F.CTX_TIMEOUT.at i) ≠ 0 → s.node.bit (F.CST_TIMED_OUT.at i) = false → Completes (.subscriberTimeout i) s fun m =>
        m.bit (F.CST_TIMED_OUT.at i) = true ∧ s.node.Counts m CNT_PD_TIMEOUT ∧
        (s.node.cf (F.CTX_TO_ACTION.at i) = 1 → m.bit (F.CST_NEW.at i) = true ∧
          m.frontData i = List.replicate (s.node.cf (F.CTX_DS_LEN.at i)) 0#8) ∧
        (s.node.cf (F.CTX_TO_ACTION.at i) ≠ 1 → m.store.ram = s.node.store.ram))

/-- The message commands complete. A caller's GO starts a session under the next identifier, with its sequence counter and retries, and the active
unit counts its request (R261, R262); a replier's GO answers the pending request (R263); a dataset too long leaves the session as it was, and a GO
to a busy session counts. A reply, an error and a confirmation end the exchange (R262, R263); a request is stored and waits for its GO, a
notification is stored, and a repetition counts (R263); a reply without session, one that is cut short and one with stale counters count and store
nothing (R251, R264). A reply timeout retries while tries are left and then ends the session, and a replier's timeout ends it, with their counts
(R262, R263). -/
def Obligations.MessageCommandsComplete : Prop :=
  ∀ (s : State) (k : Fin 256),
    (∀ by_, s.node.Reaches by_ 5 → s.node.pdfLive = true → s.node.cfBit (F.SES_VALID.at k) = true →
      (s.node.cfBit (F.SES_ROLE.at k) = false → (s.node.sesState k = 0 ∨ s.node.sesState k = 3) → s.node.outLength k ≤ mdMax →
        Completes (.msgCmdGo by_ k) s fun m =>
          (m.ses k).id = Config.sessionId s.node.nodeMac s.node.mdStarted ∧ m.mdStarted = s.node.mdStarted + 1#64 ∧
          m.rd (F.SST_SEQ.at k) = (s.node.rd (F.SST_SEQ.at k) + 1) % 2 ^ 32 ∧ (m.ses k).triesLeft = s.node.cf (F.SES_RETRIES.at k) ∧
          m.sesState k = (if s.node.cf (F.SES_KIND.at k) = 0 then 3 else 1) ∧
          ∀ dst, s.node.sessionPeer k = some dst → (s.node.macFor dst).isSome → s.node.activeUnit = true → s.node.Counts m CNT_MD_TX) ∧
      (∀ r, s.node.cfBit (F.SES_ROLE.at k) = true → s.node.sesState k = 6 → s.node.outLength k ≤ mdMax → (s.node.ses k).request = some r →
        Completes (.msgCmdGo by_ k) s fun m => (m.ses k).answered = some r ∧ (m.ses k).id = r.sessionId ∧
          m.sesState k = (if s.node.cf (F.SES_KIND.at k) = 2 then 2 else 3) ∧ ∃ t, (m.ses k).reply = some t ∧ t.dst = r.src ∧
          t.sessionId = r.sessionId ∧ t.data = s.node.outData k) ∧
      (mdMax < s.node.outLength k → (s.node.sesState k = 0 ∨ s.node.sesState k = 3 ∨ (s.node.cfBit (F.SES_ROLE.at k) = true ∧
        s.node.sesState k = 6)) →
        Completes (.msgCmdGo by_ k) s fun m => m.sesState k = s.node.sesState k ∧ m.cellar = s.node.cellar) ∧
      ((if s.node.cfBit (F.SES_ROLE.at k) then s.node.sesState k ∉ [0, 3, 6] else s.node.sesState k ∉ [0, 3]) →
        Completes (.msgCmdGo by_ k) s fun m =>
        s.node.Counts m CNT_MD_BUSY ∧ m.sesState k = s.node.sesState k)) ∧
    (s.node.pdfLive = true → s.node.sesState k = 1 →
      ((s.node.ses k).triesLeft = 0 → Completes (.mdReplyTimeout k) s fun m => m.sesState k = 4 ∧ s.node.Counts m CNT_MD_TIMEOUT) ∧
      ((s.node.ses k).triesLeft ≠ 0 → Completes (.mdReplyTimeout k) s fun m => (m.ses k).triesLeft = (s.node.ses k).triesLeft - 1 ∧
        m.sesState k = 1 ∧ ∀ dst, (s.node.ses k).request.isSome = true → s.node.sessionPeer k = some dst → (s.node.macFor dst).isSome →
          s.node.activeUnit = true → s.node.Counts m CNT_MD_RETRY)) ∧
    (∀ t : Telegram, s.node.takes t = true → mdFails t = none → t.msgType = .mp ∨ t.msgType = .mq →
      (s.node.callerOf t = none → Completes (.mdReplyReceived t) s fun m => s.node.Counts m CNT_MD_RX_UNMATCHED ∧ m.store.ram = s.node.store.ram) ∧
      (s.node.callerOf t = some k.val → mdShort t = true → Completes (.mdReplyReceived t) s fun m =>
        s.node.Counts m CNT_PD_LEN_ERR ∧ m.sesState k = s.node.sesState k ∧ m.store.ram = s.node.store.ram)) ∧
    (∀ t : Telegram, s.node.takes t = true → mdFails t = none → mdShort t = false →
      (s.node.callerOf t = some k.val → s.node.sesCountersOk k t = true →
        (t.msgType = .mp ∨ t.msgType = .mq → s.node.ownsSlot 2 = true → Completes (.mdReplyReceived t) s fun m =>
          m.sesState k = 3 ∧ m.word (F.SST_LEN.at k).addr = BitVec.ofNat 32 t.dsLen ∧ m.word (F.SST_SRC.at k).addr = t.src ∧
          m.bytes (s.node.inBuffer k) t.dsLen = t.data) ∧
        (t.msgType = .me → Completes (.mdErrorReceived t) s fun m => m.sesState k = 5)) ∧
      (s.node.callerOf t = some k.val → s.node.sesCountersOk k t = false →
        (t.msgType = .mp ∨ t.msgType = .mq → Completes (.mdReplyReceived t) s fun m =>
          s.node.Counts m CNT_TOPO_STALE ∧ m.sesState k = s.node.sesState k ∧ m.store.ram = s.node.store.ram)) ∧
      (s.node.replierOf t = some k.val → s.node.sesCountersOk k t = true →
        (t.msgType = .mr → s.node.cf (F.SES_KIND.at k) ≠ 0 → s.node.ownsSlot 2 = true →
          ¬ (s.node.sesState k = 6 ∧ repeats t (s.node.ses k).request = true) → repeats t (s.node.ses k).answered = false →
          Completes (.mdRequestReceived t) s fun m =>
            m.sesState k = 6 ∧ (m.ses k).request = some t ∧ m.bytes (s.node.inBuffer k) t.dsLen = t.data) ∧
        (t.msgType = .mn → s.node.cf (F.SES_KIND.at k) = 0 → s.node.ownsSlot 2 = true →
          ¬ (s.node.sesState k = 6 ∧ repeats t (s.node.ses k).request = true) → repeats t (s.node.ses k).answered = false →
          Completes (.mdRequestReceived t) s fun m => m.sesState k = 3 ∧ m.bytes (s.node.inBuffer k) t.dsLen = t.data) ∧
        (t.msgType = .mr → s.node.cf (F.SES_KIND.at k) ≠ 0 →
          (s.node.sesState k = 6 ∧ repeats t (s.node.ses k).request = true) ∨ repeats t (s.node.ses k).answered = true →
          Completes (.mdRequestReceived t) s fun m => s.node.Counts m CNT_MD_DUP ∧ m.sesState k = s.node.sesState k)) ∧
      ((s.node.sessionsInUse.find? fun j => s.node.cfBit (F.SES_ROLE.at j) && s.node.sesState j == 2 && (s.node.ses j).id == t.sessionId) =
          some k.val → s.node.sesCountersOk k t = true → t.msgType = .mc → Completes (.mdConfirmReceived t) s fun m => m.sesState k = 3)) ∧
    (s.node.pdfLive = true → s.node.cfBit (F.SES_ROLE.at k) = true →
      (s.node.sesState k = 6 → Completes (.replierTimeout k) s fun m => m.sesState k = 0 ∧ s.node.Counts m CNT_MD_TIMEOUT) ∧
      (s.node.sesState k = 2 → Completes (.replierTimeout k) s fun m => m.sesState k = 4 ∧ s.node.Counts m CNT_MD_TIMEOUT))

/-! ### The Press complex (file 10) -/

/-- The Press state commands complete. With the key, a command to a running Press in a cycle waits for the cycle's end; to one that runs none, or
that loads or tests, STOP stops it at once, its receive queue empty, its line units silent and its fault over; TEST and RELOAD of a Press stopped,
failed or running no cycle begin the test or the load (R289, R290, R293, R294); a command that the state ignores is recorded, and one without the
key does nothing (R293, R294). PRESS_STOP_EFFECT carries out the stop that waits and what follows it (R290). A test that passes leads to the load,
and one that fails leaves the Press failed; a verified image runs with an empty receive queue, its line units' captures at reset and a reload
counted, and one that fails verification leaves the Press failed (R293). A corrected error only counts (R270), an uncorrectable one ends a load or a
test, and a fault of a running Press, without a stop that waits and outside a trial, stops it and leaves it failed, or reloads it while automatic
reloads are left (R292). -/
def Obligations.PressStateCommandsComplete : Prop :=
  ∀ (s : State) (p : Fin 16),
    (∀ by_, s.node.Reaches by_ 6 →
      (s.node.pressState p = 2 → (s.node.press p).cycle.isSome = true →
        (Completes (.pressCmdStop by_ 0x7E19#16 p) s fun m => m.pressState p = 2 ∧ (m.press p).stopWaits = some (1, .stay)) ∧
        (Completes (.pressCmdTest by_ 0x7E19#16 p) s fun m => m.pressState p = 2 ∧ (m.press p).stopWaits = some (1, .test)) ∧
        (Completes (.pressCmdReload by_ 0x7E19#16 p) s fun m => m.pressState p = 2 ∧ (m.press p).stopWaits = some (1, .reload))) ∧
      (s.node.pressState p = 1 ∨ s.node.pressState p = 4 ∨ (s.node.pressState p = 2 ∧ (s.node.press p).cycle = none) →
        Completes (.pressCmdStop by_ 0x7E19#16 p) s fun m => m.pressState p = 3 ∧ m.rd (F.PRESS_STATE_LAST_CAUSE.at p) = 1 ∧
          (m.press p).rxQueue = [] ∧ (∀ u ∈ s.node.unitsOf p, m.luDe u = false) ∧ FaultCause.press p ∉ m.faults) ∧
      (s.node.pressState p = 3 ∨ s.node.pressState p = 5 ∨ (s.node.pressState p = 2 ∧ (s.node.press p).cycle = none) →
        (Completes (.pressCmdTest by_ 0x7E19#16 p) s fun m => m.pressState p = 4 ∧ (m.press p).sram = []) ∧
        (Completes (.pressCmdReload by_ 0x7E19#16 p) s fun m => m.pressState p = 1 ∧ (m.press p).counts = true)) ∧
      (s.node.pressState p ∈ [3, 5] → Completes (.pressCmdStop by_ 0x7E19#16 p) s fun m =>
        m.pressState p = s.node.pressState p ∧ (s.node.Admits 0x060B → m.Logged 0x060B [p, 1, s.node.pressState p])) ∧
      (s.node.pressState p ∈ [1, 4] →
        (Completes (.pressCmdTest by_ 0x7E19#16 p) s fun m =>
          m.pressState p = s.node.pressState p ∧ (s.node.Admits 0x060B → m.Logged 0x060B [p, 2, s.node.pressState p])) ∧
        (Completes (.pressCmdReload by_ 0x7E19#16 p) s fun m =>
          m.pressState p = s.node.pressState p ∧ (s.node.Admits 0x060B → m.Logged 0x060B [p, 3, s.node.pressState p]))) ∧
      (s.node.pressState p = 0 → (s.node.cfBit (F.PRESS_CFG_ENABLE.at p) = false ∨ s.node.running = false) →
        (Completes (.pressCmdStop by_ 0x7E19#16 p) s fun m => m.pressState p = 0 ∧ (s.node.Admits 0x060B → m.Logged 0x060B [p, 1, 0])) ∧
        (Completes (.pressCmdTest by_ 0x7E19#16 p) s fun m => m.pressState p = 0 ∧ (s.node.Admits 0x060B → m.Logged 0x060B [p, 2, 0])) ∧
        (Completes (.pressCmdReload by_ 0x7E19#16 p) s fun m => m.pressState p = 0 ∧ (s.node.Admits 0x060B → m.Logged 0x060B [p, 3, 0]))) ∧
      (∀ key, key ≠ 0x7E19#16 → s.node.held by_ = none →
        (Completes (.pressCmdStop by_ key p) s fun m => m = s.node) ∧ (Completes (.pressCmdTest by_ key p) s fun m => m = s.node) ∧
        (Completes (.pressCmdReload by_ key p) s fun m => m = s.node))) ∧
    (∀ cause f, (s.node.press p).stopWaits = some (cause, f) → Completes (.pressStopEffect p) s fun m =>
      m.rd (F.PRESS_STATE_LAST_CAUSE.at p) = cause % 2 ^ 8 ∧ (m.press p).stopWaits = none ∧ (m.press p).cycle = none ∧
      m.pressState p = (match f with
        | .stay => 3
        | .test => 4
        | .reload => 1
        | .commit => if s.node.cfBit (F.PRESS_CFG_ENABLE.at p) then 1 else 0)) ∧
    (s.node.pressState p = 4 → ∀ r,
      (Completes (.pressSramTestDone p true r) s fun m => m.pressState p = 4) ∧
      (Completes (.pressSramTestDone p false r) s fun m => m.pressState p = 5 ∧ m.rd (F.PRESS_STATE_LAST_CAUSE.at p) = 7 ∧
        s.node.Counts m (CNT_PRS_FAULT p) ∧ (s.node.Admits 0x0603 → m.Logged 0x0603 [p, r.toNat])) ∧
      (Completes (.pressSelfTestDone p true r) s fun m => m.pressState p = 1 ∧ (s.node.Admits 0x0603 → m.Logged 0x0603 [p, r.toNat])) ∧
      (Completes (.pressSelfTestDone p false r) s fun m => m.pressState p = 5 ∧ s.node.Counts m (CNT_PRS_FAULT p))) ∧
    (s.node.pressState p = 1 →
      (Completes (.pressVerifyDone p true) s fun m => m.pressState p = 2 ∧ (m.press p).cycle = none ∧ (m.press p).rxQueue = [] ∧
        m.word (F.PRESS_VER_IMAGE.at p).addr = m.header p 2 ∧ (∀ u ∈ s.node.unitsOf p, (m.lineUnit u).captures = []) ∧
        ((s.node.press p).counts = true → s.node.Counts m (CNT_PRS_RELOAD p))) ∧
      Completes (.pressVerifyDone p false) s fun m =>
        m.pressState p = 5 ∧ m.rd (F.PRESS_STATE_LAST_CAUSE.at p) = 6 ∧ s.node.Counts m (CNT_PRS_FAULT p)) ∧
    (s.node.powered = true → s.node.islandDown 3 = false → ∀ ns, Completes (.pressFault p .sramCorrected ns) s fun m =>
      s.node.Counts m (CNT_SRAM_CORR p) ∧ m.pressState p = s.node.pressState p) ∧
    (s.node.powered = true → s.node.islandDown 3 = false → ∀ ns,
      (s.node.pressState p = 1 → Completes (.pressFault p .sram ns) s fun m =>
        m.pressState p = 5 ∧ m.rd (F.PRESS_STATE_LAST_CAUSE.at p) = 6) ∧
      (s.node.pressState p = 4 → Completes (.pressFault p .sram ns) s fun m =>
        m.pressState p = 5 ∧ m.rd (F.PRESS_STATE_LAST_CAUSE.at p) = 7)) ∧
    (s.node.powered = true → s.node.islandDown 3 = false → s.node.pressState p = 2 → (s.node.press p).stopWaits = none →
      s.node.slotIn 3 = none → ∀ ns,
      (s.node.cfBit (F.PRESS_CFG_AUTO_RELOAD.at p) = false ∨ 3 ≤ s.node.autoUsed p →
        (Completes (.pressFault p .imageException ns) s fun m => m.pressState p = 5 ∧ m.rd (F.PRESS_STATE_LAST_CAUSE.at p) = 4 ∧
          FaultCause.press p ∈ m.faults ∧ (m.press p).cycle = none ∧ s.node.Counts m (CNT_PRS_FAULT p)) ∧
        (Completes (.pressFault p .sram ns) s fun m => m.pressState p = 5 ∧ m.rd (F.PRESS_STATE_LAST_CAUSE.at p) = 3) ∧
        Completes (.pressCycleWatchdog p ns) s fun m => m.pressState p = 5 ∧ m.rd (F.PRESS_STATE_LAST_CAUSE.at p) = 5 ∧
          FaultCause.press p ∈ m.faults) ∧
      (s.node.cfBit (F.PRESS_CFG_AUTO_RELOAD.at p) = true → s.node.autoUsed p < 3 →
        (Completes (.pressFault p .imageException ns) s fun m => m.pressState p = 1 ∧ m.autoUsed p = s.node.autoUsed p + 1) ∧
        Completes (.pressCycleWatchdog p ns) s fun m => m.pressState p = 1 ∧ m.autoUsed p = s.node.autoUsed p + 1))

/-- The Press data commands complete. PRESS_START begins a cycle with a copy of the output buffer, the selector and OUT_NEW clear, and drives a
transmission that its image begins, or counts a Press that does not run (R127, R274, R280, R291); PRESS_INPUT_EXCHANGE swaps the input buffers,
stores the input and ends the cycle and its action (R273, R276). A frame at PP reaches the Press its dispatch entry names, and an ARP frame every
Press that uses IPv4, with its stamp where the Press can take it, or is counted (R285, R359); a dedicated port sends, or counts (R286, R297); the
field window is served, by a client in 16-bit accesses, or counts (R288), and in an island in reset counts in CNT_XABORT (R16). LINE_STATUS_CHANGE
shows and records the status (R276); a capture and the bits received are kept, those received under the unit's own DE discarded (R280, R281). -/
def Obligations.PressDataCommandsComplete : Prop :=
  ∀ s : State,
    (∀ entry refs drives p, s.node.due entry 4 = true → s.node.blockHeld 6 = false → s.node.targetOf entry = p →
      (s.node.trellis.running.any fun r => r.action == 4 && r.target == p) = false →
      (s.node.pressRuns p = true → Completes (.pressStart entry refs drives) s fun m =>
        (m.press p).cycle = some entry ∧ (m.press p).outputs = s.node.bytes (s.node.outBuf p (s.node.outFront p)) (s.node.outLen p) ∧
        (m.press p).selector = s.node.cf (F.ENT_ARG.at entry) % 256 ∧ m.imgBit p imgOutNew = false ∧
        ⟨entry, 4, p⟩ ∈ m.trellis.running) ∧
      (∀ u : Fin 32, ∀ levels, s.node.pressRuns p = true → s.node.lineOwner u = p → s.node.lineLive u = true → s.node.burstFits u levels = true →
        (s.node.lineUnit u).held = none →
        Completes (.pressStart entry refs [.burst u 0 levels]) s fun m =>
          m.luDe u = true ∧ m.luTxd u = m.lineIdle u ∧ m.out.head? = some (.line u levels)) ∧
      (s.node.pressRuns p = false → Completes (.pressStart entry refs drives) s fun m =>
        s.node.Counts m (CNT_START_STOPPED p) ∧ m.trellis = s.node.trellis)) ∧
    (∀ (p : Fin 16) bytes ok diag ns, s.node.pressRuns p = true → (s.node.press p).cycle.isSome = true → (s.node.press p).stopWaits = none →
      Completes (.pressInputExchange p bytes ok diag ns) s fun m =>
        m.imgBit p imgInFront = !s.node.imgBit p imgInFront ∧ m.imgBit p imgInNew = true ∧ m.imgBit p imgLineOk = ok ∧
        m.header p 1 = s.node.header p 1 + 1#32 ∧ (m.press p).cycle = none ∧ (m.press p).rxQueue = [] ∧
        (∀ e, (s.node.press p).cycle = some e → ∀ r ∈ m.trellis.running, r.entry ≠ e) ∧
        (bytes.length = s.node.inLen p → s.node.inLen p ≤ 4096 → m.bytes (m.inBuf p (m.inFront p)) (s.node.inLen p) = bytes)) ∧
    (∀ f (stamp : DWord), s.node.running = true → s.node.islandDown 3 = false → s.node.pdfTakes f = false →
      (f.etype = 0x0806#16 → Completes (.ppFrameArrival f stamp) s fun m => ∀ p : Fin 16, (m.press p).rxQueue =
        if s.node.pressRuns p = true ∧ s.node.usesIp p = true ∧ s.node.pressTakes p f = true then (s.node.press p).rxQueue ++ [(f, stamp.toNat)]
        else (s.node.press p).rxQueue) ∧
      (f.etype ≠ 0x0806#16 → (List.range 64).find? (s.node.dispatches f) = none → Completes (.ppFrameArrival f stamp) s fun m =>
        s.node.Counts m CNT_PP_NO_PRESS) ∧
      ∀ d, f.etype ≠ 0x0806#16 → (List.range 64).find? (s.node.dispatches f) = some d →
        (s.node.pressTakes (s.node.cf (F.DISP_PRESS.at d)) f = true → Completes (.ppFrameArrival f stamp) s fun m =>
          (m.press (s.node.cf (F.DISP_PRESS.at d))).rxQueue = (s.node.press (s.node.cf (F.DISP_PRESS.at d))).rxQueue ++ [(f, stamp.toNat)] ∧
          m.out = .toPress (s.node.cf (F.DISP_PRESS.at d)) f stamp.toNat :: s.node.out) ∧
        (s.node.pressTakes (s.node.cf (F.DISP_PRESS.at d)) f = false → Completes (.ppFrameArrival f stamp) s fun m =>
          s.node.Counts m (CNT_PP_RX_DROP (s.node.cf (F.DISP_PRESS.at d))) ∧ m.presses = s.node.presses)) ∧
    (∀ (p : Fin 16) f q, s.node.running = true → s.node.pressRuns p = true → s.node.cf (F.PRESS_CFG_DED_PORT.at p) = q → q ≠ 31 →
      s.node.activeUnit = true →
      (f.len ≤ s.node.cf (F.MAX_FRAME.at q) → s.node.linkUp q = true → s.node.portUsable q = true →
        (dedSpeedOk (s.node.cf (F.PRESS_CFG_IMAGE.at p)) (s.node.mbps q) = true → Completes (.dedicatedTxHandover p f) s fun m =>
          s.node.Counts m (CNT_TX_FRAMES q) ∧ m.out = .frame q f true :: s.node.out) ∧
        (dedSpeedOk (s.node.cf (F.PRESS_CFG_IMAGE.at p)) (s.node.mbps q) = false → Completes (.dedicatedTxHandover p f) s fun m => m = s.node)) ∧
      (s.node.cf (F.MAX_FRAME.at q) < f.len ∨ s.node.linkUp q = false ∨ s.node.portUsable q = false →
        Completes (.dedicatedTxHandover p f) s fun m =>
        s.node.Counts m (CNT_DED_TX_DROP p) ∧ m.out = s.node.out)) ∧
    (∀ (p : Fin 16) write ofs len, s.node.powered = true →
      (s.node.islandDown 3 = false →
        (∀ bytes se, s.node.fieldServes p ofs len = true → s.node.fieldClient p = false →
          Completes (.fieldWindowRequest p write ofs len (.data bytes se)) s fun m =>
            m.out = .field p ofs len write :: s.node.out ∧ m.store = s.node.store) ∧
        (∀ bytes se, s.node.fieldServes p ofs 4 = true → s.node.fieldClient p = true →
          Completes (.fieldWindowRequest p write ofs 4 (.data bytes se)) s fun m =>
            m.out = .field p (ofs + 2) 2 write :: .field p ofs 2 write :: s.node.out ∧ m.store = s.node.store) ∧
        (∀ k bs, ∀ r ∈ [FarReply.error k bs, .timeout], s.node.fieldServes p ofs len = true →
          Completes (.fieldWindowRequest p write ofs len r) s fun m =>
          s.node.Counts m (CNT_FW_ERR p)) ∧
        (∀ r, s.node.fieldServes p ofs len = false → Completes (.fieldWindowRequest p write ofs len r) s fun m =>
          s.node.Counts m (CNT_FW_ERR p) ∧ m.out = s.node.out)) ∧
      (∀ r, s.node.islandDown 3 = true → Completes (.fieldWindowRequest p write ofs len r) s fun m =>
        s.node.Counts m CNT_XABORT ∧ m.out = s.node.out)) ∧
    (∀ (p : Fin 16) w, s.node.pressRuns p = true → s.node.header p 3 ≠ w → Completes (.lineStatusChange p w) s fun m =>
      m.header p 3 = w ∧ (s.node.Admits 0x060A → m.Logged 0x060A [p, w.toNat])) ∧
    (∀ (u : Fin 32) data, s.node.lineOn u = true → s.node.pressRuns (s.node.lineOwner u) = true → Completes (.lineUnitCapture u data []) s fun m =>
      (m.lineUnit u).captures = (s.node.now :: (s.node.lineUnit u).captures).take 16 ∧
      (m.lineUnit u).received = (s.node.lineUnit u).received ++ if s.node.luDe u then [] else data)

/-! ### CAN FD (file 11) -/

/-- The transmit side of a controller completes. The FIFO takes a frame that the image may send or reports that it is full (R308); a cancellation
removes an entry, or reports that it comes too late (R311); a head entry is sent, reported, counted and leaves in the format the controller may
send, TEC one less (R308, R309, R317, R318), unless its loop delay and TDCO lie above 127 mtq, an error that leaves it in the FIFO (R306); a sent
reference message leaves with REF_ID and the image's data and is captured (R323, R324). Lost arbitration is counted, and a reference message that
loses to another is abandoned (R309, R323). An error in mode 0 is counted and shown, moves TEC and REC and with them the state (R318, R321); in the
other modes it is counted alone, and takes a controller in mode 1 from the bus (R316); the fourth consecutive bit error in the data of a head entry
is an identifier collision (R322). The steps of TEC and REC other than those are the standard's, given with the command, and how a controller in
mode 1 waits is the model's choice (log entries 16 and 76). -/
def Obligations.CanTransmitCommandsComplete : Prop :=
  ∀ (s : State) (c : Fin 8),
    (∀ tag f, s.node.canLive c = true → s.node.imageSends c f = true →
      ((s.node.can c).tx.length < 32 → Completes (.canTxPush c tag f) s fun m =>
        (m.can c).tx = (s.node.can c).tx ++ [⟨tag, { f with rtr := f.rtr && !f.fdf }⟩]) ∧
      (32 ≤ (s.node.can c).tx.length → Completes (.canTxPush c tag f) s fun m =>
        s.node.Counts m (CNT_CAN_TX_FULL c) ∧ m.out = .canReport c tag 3 s.node.now :: s.node.out ∧ m.cans = s.node.cans)) ∧
    (∀ tag i, s.node.canLive c = true → (s.node.can c).tx.findIdx? (·.tag == tag) = some i →
      (Completes (.canTxCancel c tag false) s fun m =>
        (m.can c).tx = (s.node.can c).tx.eraseIdx i ∧ s.node.Counts m (CNT_CAN_CANCEL c) ∧
        m.out = .canReport c tag 1 s.node.now :: s.node.out) ∧
      (i = 0 → s.node.canSends c = true → Completes (.canTxCancel c tag true) s fun m =>
        m.cans = s.node.cans ∧ m.out = .canReport c tag 2 s.node.now :: s.node.out)) ∧
    (∀ e rest ago loop f, s.node.canSends c = true → (s.node.can c).tx = e :: rest →
      f = sentFrame e.frame (s.node.cfBit (F.CAN_CFG_FD_EN.at c)) (s.node.canState c == 3) →
      (s.node.tdcFails c loop f = false → Completes (.canTxDone c false ago loop) s fun m =>
        (m.can c).tx = rest ∧ s.node.Counts m (CNT_CAN_TX c) ∧ m.rd (F.ERR_CNT_TEC.at c) = min (s.node.rd (F.ERR_CNT_TEC.at c) - 1) 256 ∧
        m.out = .canReport c e.tag 0 (s.node.now - ago) :: .canFrame c f :: s.node.out) ∧
      (s.node.tdcFails c loop f = true → Completes (.canTxDone c false ago loop) s fun m =>
        (m.can c).tx = e :: rest ∧ s.node.Counts m (CNT_CAN_TX_ERR c) ∧
        m.rd (F.ERR_CNT_TEC.at c) = min (s.node.rd (F.ERR_CNT_TEC.at c) + 8) 256 ∧ m.out = s.node.out)) ∧
    (∀ ago loop, s.node.canSends c = true → (s.node.can c).refWaits = true → (s.node.can c).refBegun = false →
      Completes (.canTxDone c true ago loop) s fun m =>
      (m.can c).refWaits = false ∧ m.out = .canFrame c (s.node.refFrame c) :: s.node.out ∧ (m.can c).tx = (s.node.can c).tx ∧
      m.word64 (F.REF_CAPTURE_LO.at c).addr = BitVec.ofNat 64 (s.node.now - ago) ∧
      m.rd (F.REF_SEQ.at c) = (s.node.rd (F.REF_SEQ.at c) + 1) % 2 ^ (F.REF_SEQ.at c).width) ∧
    (∀ toRef, s.node.canSends c = true → (s.node.can c).tx ≠ [] → Completes (.canArbLost c false toRef) s fun m =>
      s.node.Counts m (CNT_CAN_ARB_LOST c) ∧ (m.can c).tx = (s.node.can c).tx ∧ (m.can c).idRun = 0) ∧
    (s.node.canSends c = true → (s.node.can c).refBegun = false →
      (Completes (.canArbLost c true true) s fun m => (m.can c).refWaits = false ∧ m.store = s.node.store) ∧
      (Completes (.canArbLost c true false) s fun m => m = s.node)) ∧
    (∀ kind transmitting inData ref dTec dRec step, s.node.canOnBus c = true → s.node.canMode c = 0 →
      step = (if transmitting = true ∧ inData = true ∧ (kind = .bit1 ∨ kind = .bit0) then 8 else dTec) →
      Completes (.canErrorDetected c kind transmitting inData ref dTec dRec) s fun m =>
        s.node.Counts m (if transmitting then CNT_CAN_TX_ERR c else CNT_CAN_RX_ERR c) ∧
        m.rd (F.ERR_CNT_TEC.at c) = min (s.node.rd (F.ERR_CNT_TEC.at c) + step) 256 ∧
        m.rd (F.ERR_CNT_REC.at c) = min (s.node.rd (F.ERR_CNT_REC.at c) + dRec) 255 ∧
        m.rd (F.CAN_STATUS_LAST_ERR.at c) = canErrorCode kind ∧
        (255 < s.node.rd (F.ERR_CNT_TEC.at c) + step → m.canState c = if s.node.cfBit (F.CAN_CFG_AUTO_RECOV.at c) then 5 else 4) ∧
        (s.node.rd (F.ERR_CNT_TEC.at c) + step ≤ 255 →
          m.canState c = if 128 ≤ s.node.rd (F.ERR_CNT_TEC.at c) + step ∨ 128 ≤ min (s.node.rd (F.ERR_CNT_REC.at c) + dRec) 255 then 3 else 2)) ∧
    (∀ kind inData ref dTec dRec, s.node.canOnBus c = true → s.node.canMode c ≠ 0 →
      Completes (.canErrorDetected c kind false inData ref dTec dRec) s fun m =>
        s.node.Counts m (CNT_CAN_RX_ERR c) ∧ m.rd (F.ERR_CNT_TEC.at c) = s.node.rd (F.ERR_CNT_TEC.at c) ∧
        m.rd (F.ERR_CNT_REC.at c) = s.node.rd (F.ERR_CNT_REC.at c) ∧
        m.canState c = if s.node.canMode c = 1 then 1 else s.node.canState c) ∧
    (∀ e rest kind, s.node.canSends c = true → (s.node.can c).tx = e :: rest → (kind = .bit0 ∨ kind = .bit1) → (s.node.can c).idRun = 3 →
      (s.node.can c).idSeen = false → ∀ dTec dRec, Completes (.canErrorDetected c kind true true false dTec dRec) s fun m =>
        m.bit (F.CAN_STATUS_IDC.at c) = true ∧ s.node.Counts m (CNT_CAN_IDCOLL c) ∧ (m.can c).idSeen = true ∧ (m.can c).idRun = 4 ∧
        m.word (F.IDC_ID.at c).addr = BitVec.ofNat 32 (e.frame.id.toNat + (if e.frame.ide then 2 ^ 31 else 0)))

/-- The receive side and the bus states complete. A frame enters the FIFO with its stamp or is counted as lost (R312, R313); a frame in FD format
where FD is off takes the controller off the bus with PEX set, and is an error with it clear (R317); recovery and integration lead to the bus (R307,
R321); a recovery command, by CAN_CMD with its key or by the image, starts the recovery of a controller in bus-off, or is recorded; the key also
clears IDC, and without it nothing changes (R321, R325). A message buffer is updated by its producer and acknowledged by its consumer; a party that
may not write it is counted (R314, R315), and an access to buffers in reset counts in CNT_XABORT (R16). -/
def Obligations.CanReceiveCommandsComplete : Prop :=
  ∀ (s : State) (c : Fin 8),
    (∀ f ago, s.node.canOnBus c = true → (f.fdf = false ∨ s.node.cfBit (F.CAN_CFG_FD_EN.at c) = true) →
      ((s.node.can c).rx.length < 128 → Completes (.canFrameReceived c f ago) s fun m =>
        (m.can c).rx = (s.node.can c).rx ++ [⟨f, s.node.now - ago⟩] ∧ s.node.Counts m (CNT_CAN_RX c)) ∧
      (128 ≤ (s.node.can c).rx.length → Completes (.canFrameReceived c f ago) s fun m =>
        (m.can c).rx = (s.node.can c).rx ∧ s.node.Counts m (CNT_CAN_RX_OVF c))) ∧
    (∀ f ago, s.node.canOnBus c = true → f.fdf = true → s.node.cfBit (F.CAN_CFG_FD_EN.at c) = false →
      (s.node.cfBit (F.CAN_CFG_PEX.at c) = true → Completes (.canFrameReceived c f ago) s fun m =>
        m.canState c = 1 ∧ (m.can c).rx = (s.node.can c).rx) ∧
      (s.node.cfBit (F.CAN_CFG_PEX.at c) = false → Completes (.canFrameReceived c f ago) s fun m =>
        s.node.Counts m (CNT_CAN_RX_ERR c) ∧ m.rd (F.CAN_STATUS_LAST_ERR.at c) = 2 ∧ (m.can c).rx = (s.node.can c).rx)) ∧
    (s.node.canLive c = true → s.node.canState c = 5 → Completes (.canRecoveryDone c) s fun m =>
      m.canState c = 2 ∧ m.rd (F.ERR_CNT_TEC.at c) = 0 ∧ m.rd (F.ERR_CNT_REC.at c) = 0 ∧ m.rd (F.CAN_STATUS_RECOV_CNT.at c) = 128) ∧
    (s.node.canLive c = true → s.node.canState c = 1 → Completes (.canIntegrated c) s fun m =>
      m.canState c = if 128 ≤ s.node.rd (F.ERR_CNT_TEC.at c) ∨ 128 ≤ s.node.rd (F.ERR_CNT_REC.at c) then 3 else 2) ∧
    (∀ by_, s.node.Reaches by_ 7 →
      (s.node.canState c = 4 → s.node.cfBit (F.CAN_CFG_AUTO_RECOV.at c) = false → Completes (.canCmdRecover (some by_) 0x4A17#16 c) s fun m =>
        m.canState c = 5 ∧ m.rd (F.CAN_STATUS_RECOV_CNT.at c) = 0) ∧
      (s.node.canState c ≠ 4 → Completes (.canCmdRecover (some by_) 0x4A17#16 c) s fun m =>
        m.canState c = s.node.canState c ∧ (s.node.Admits 0x0709 → m.Logged 0x0709 [c.val])) ∧
      (Completes (.canCmdClearIdc by_ 0x4A17#16 c) s fun m => m.bit (F.CAN_STATUS_IDC.at c) = false) ∧
      ∀ key, key ≠ 0x4A17#16 → s.node.held by_ = none →
        (Completes (.canCmdRecover (some by_) key c) s fun m => m = s.node) ∧ Completes (.canCmdClearIdc by_ key c) s fun m => m = s.node) ∧
    (∀ key, s.node.canLive c = true → s.node.canState c = 4 → s.node.cfBit (F.CAN_CFG_AUTO_RECOV.at c) = false →
      Completes (.canCmdRecover none key c) s fun m => m.canState c = 5 ∧ m.rd (F.CAN_STATUS_RECOV_CNT.at c) = 0) ∧
    (∀ (b : Fin 64) byHost f stamp, s.node.powered = true → s.node.islandDown 3 = false → (byHost = true ∨ s.node.canLive c = true) →
      (s.node.bit (F.MB_DIR.at (64 * c.val + b.val)) = byHost → Completes (.mbUpdate c b byHost f stamp) s fun m =>
        m.bit (F.MB_NEW.at (64 * c.val + b.val)) = true ∧ m.bit (F.MB_WIP.at (64 * c.val + b.val)) = false ∧
        m.rd (F.MB_UPD.at (64 * c.val + b.val)) = (s.node.rd (F.MB_UPD.at (64 * c.val + b.val)) + 1) % 2 ^ 16 ∧
        ∀ w < 22, m.word (mbAddr c b + 4 * (w + 2)) = (mbWords f stamp).getD w 0#32) ∧
      (s.node.bit (F.MB_DIR.at (64 * c.val + b.val)) ≠ byHost → Completes (.mbUpdate c b byHost f stamp) s fun m =>
        s.node.Counts m (CNT_MB_WR_DROP c) ∧ m.rd (F.MB_UPD.at (64 * c.val + b.val)) = s.node.rd (F.MB_UPD.at (64 * c.val + b.val)))) ∧
    (∀ (b : Fin 64) upd, s.node.powered = true → s.node.islandDown 3 = false →
      (s.node.rd (F.MB_UPD.at (64 * c.val + b.val)) = upd.toNat → Completes (.mbAckUpd c b upd true) s fun m =>
        m.bit (F.MB_NEW.at (64 * c.val + b.val)) = false) ∧
      (s.node.rd (F.MB_UPD.at (64 * c.val + b.val)) ≠ upd.toNat → Completes (.mbAckUpd c b upd true) s fun m => m.store = s.node.store) ∧
      Completes (.mbAckUpd c b upd false) s fun m => s.node.Counts m (CNT_MB_WR_DROP c)) ∧
    (∀ b upd reader f stamp, s.node.powered = true → s.node.islandDown 3 = true →
      (Completes (.mbAckUpd c b upd reader) s fun m => s.node.Counts m CNT_XABORT) ∧
      Completes (.mbUpdate c b true f stamp) s fun m => s.node.Counts m CNT_XABORT)

/-! ### Blend (file 12) and time (file 13) -/

/-- A Blend job that is due runs and occupies its target; one for another topology changes nothing (R343, R346). The one move of a job: a signal
whose source delivers new, consistent data takes the rescaled field with quality 1, its stamp and marker (R335, R341); one whose source does not
deliver has quality 3 and one that is read inconsistently 4, both counted, the value standing with BADACT 0; one too old has 2 (R341); and the words
of a field in the command container take the rescaled signal and their marks (R342, R412). The scrub counts what it corrects; a signal it cannot
correct becomes 0 with quality 5, and an entry in force is skipped, both counted (R348). -/
def Obligations.BlendCommandsComplete : Prop :=
  ∀ s : State,
    (∀ entry j inc reads, s.node.due entry 3 = true → s.node.blockHeld 8 = false → s.node.targetOf entry = j →
      (s.node.trellis.running.any fun r => r.action == 3 && r.target == j) = false →
      ((s.node.cf (F.JOB_TOPO.at j) = 0 ∨ s.node.cf (F.JOB_TOPO.at j) = s.node.topoTag) →
        (Completes (.blendJob entry inc reads) s fun m =>
          ⟨entry, 3, j⟩ ∈ m.trellis.running ∧ (s.node.jobEntries j = [] → m.store.force = s.node.store.force ∧
            (s.node.cfBit (F.JOB_CONSUME.at j) = false → m.store = s.node.store))) ∧
        ∀ e sig key, s.node.jobEntries j = [e] → s.node.cf (F.BE_SIGNAL.at e) = sig → s.node.containerOf e = key →
          (s.node.cf (F.BE_KIND.at e) = 0 → s.node.readContainer (key / 1024) (key % 1024) reads = none →
            Completes (.blendJob entry inc reads) s fun m =>
            s.node.Counts m CNT_BLD_SRC_BAD ∧ m.qual sig = 3 ∧ (s.node.cfBit (F.BE_BADACT.at e) = false → m.signal sig = s.node.signal sig)) ∧
          (∀ marker data, s.node.cf (F.BE_KIND.at e) = 0 → s.node.readContainer (key / 1024) (key % 1024) reads = some (marker, data) →
            (key ∈ inc → Completes (.blendJob entry inc reads) s fun m =>
              s.node.Counts m CNT_BLD_INCONS ∧ m.qual sig = 4 ∧ (s.node.cfBit (F.BE_BADACT.at e) = false → m.signal sig = s.node.signal sig)) ∧
            (∀ r, key ∉ inc → s.node.marker e ≠ some marker →
              s.node.rescale e ((s.node.fieldFormat e).read (fieldGet data (s.node.cf (F.BE_BIT_OFS.at e)) (s.node.cf (F.BE_LEN.at e))
                (s.node.cfBit (F.BE_ORDER.at e)))) (s.node.signalFormat e) = some r →
              Completes (.blendJob entry inc reads) s fun m =>
                m.signal sig = BitVec.ofNat 64 r.1 ∧ m.qual sig = 1 ∧ m.rd (F.QA_STAMP.at sig) = s.node.bcnt ∧ m.marker e = some marker ∧
                m.bit (F.QA_SAT.at sig) = (r.2 && !s.node.cfBit (F.BE_NOSAT.at e))) ∧
            (key ∉ inc → s.node.marker e = some marker → s.node.cf (F.BE_MAXAGE.at e) ≠ 0xFFFF →
              (s.node.cf (F.BE_MAXAGE.at e) = 0 ∨ s.node.cf (F.BE_MAXAGE.at e) < s.node.sigAge sig) → s.node.qual sig ≠ 2 →
              Completes (.blendJob entry inc reads) s fun m =>
                m.qual sig = 2 ∧ m.signal sig = s.node.signal sig ∧ s.node.Counts m CNT_BLD_STALE)) ∧
          (∀ r k, s.node.cf (F.BE_KIND.at e) = 1 → key = containerKey 5 0 → s.node.fabricError 5 = false → s.node.qual sig = 1 →
            s.node.rescale e ((s.node.signalFormat e).read (s.node.signalBits sig)) (s.node.fieldFormat e) = some r →
            k ∈ fieldWords (s.node.cf (F.BE_BIT_OFS.at e)) (s.node.cf (F.BE_LEN.at e)) → Completes (.blendJob entry inc reads) s fun m =>
              m.outs.marks.getLsbD k = true ∧ m.word (F.CMD_ON.at k).addr = BitVec.ofNat 32 (leNat (((fieldPut (List.replicate 96 0#8)
                (s.node.cf (F.BE_BIT_OFS.at e)) (s.node.cf (F.BE_LEN.at e)) (s.node.cfBit (F.BE_ORDER.at e)) r.1).drop (4 * k)).take 4)) &&&
                   0xFF01#32)) ∧
      (s.node.cf (F.JOB_TOPO.at j) ≠ 0 → s.node.cf (F.JOB_TOPO.at j) ≠ s.node.topoTag →
        Completes (.blendJob entry inc reads) s fun m => m = s.node)) ∧
    (∀ st f, s.node.powered = true → s.node.islandDown 4 = false →
      (f.result = .corrected → Completes (.blendScrubPass [(st, f)]) s fun m => s.node.Counts m CNT_BLD_ECC_CORR) ∧
      (f.result = .uncorrectable → f.entry < 262144 → st = .signal → Completes (.blendScrubPass [(st, f)]) s fun m =>
        m.signal f.entry = 0#64 ∧ m.qual f.entry = 5 ∧ s.node.Counts m CNT_SIG_ECC) ∧
      (f.result = .uncorrectable → f.inForce = true → st = .entry → s.node.blend.skipped.contains f.entry = false →
        Completes (.blendScrubPass [(st, f)]) s fun m => m.blend.skipped = f.entry :: s.node.blend.skipped ∧ s.node.Counts m CNT_BLD_ECC))

/-- The commands of network time complete. A Sync on a port of its domain sets the view's rate, VIEW_OFS_ERR and RX_PORT; the eighth in a row within
100 ns locks the domain, one above 100 ns starts the row anew, and in a locked domain an offset above 1 µs is stepped away and counted (R355, R364,
R365). A lost domain goes to holdover with a count (R365), the source reverts (R366), and a slew ends with the active time at its source's rate,
without a jump (R355, R367). The active unit sends Pdelay_Req with peer delay on the domain's ports that are up, keeping the link delays measured,
Delay_Req at its time receiver without it, and Sync and Announce as grandmaster on every such port, or as an 802.1AS relay on its time-transmitter
ports, each with the domain's time; otherwise nothing (R364, R368, R370). -/
def Obligations.NetworkTimeCommandsComplete : Prop :=
  ∀ (s : State) (d : Fin 2),
    (∀ ofs rate (port : Fin 16) (tx : BitVec 16), s.node.powered = true → s.node.islandDown 6 = false →
      s.node.cfBit (F.DOM_CFG_ENABLE.at d) = true →
      s.node.rd (F.DOM_STATUS_STATE.at d) ≠ 0 → s.node.cf (F.DOM_CFG_PORTS.at d) / 2 ^ port.val % 2 = 1 →
      (s.node.domLocked d = false → s.node.goodSyncs d < 7 → ofs.natAbs ≤ 100 → Completes (.ptpSyncReceived d ofs rate port tx) s fun m =>
        m.goodSyncs d = s.node.goodSyncs d + 1 ∧ m.rd (F.DOM_STATUS_RX_PORT.at d) = port ∧ m.word (txPortsHome d) = tx.zeroExtend 32 ∧
        m.view d = (s.node.rateView d rate).view d ∧
        m.rd (F.VIEW_OFS_ERR.at d) = (BitVec.ofInt 32 ofs).toNat ∧ m.rd (F.DOM_STATUS_STATE.at d) = s.node.rd (F.DOM_STATUS_STATE.at d)) ∧
      (100 < ofs.natAbs → ofs.natAbs ≤ 1000 → Completes (.ptpSyncReceived d ofs rate port tx) s fun m =>
        m.goodSyncs d = 0 ∧ m.view d = (s.node.rateView d rate).view d ∧ m.domLocked d = s.node.domLocked d) ∧
      (s.node.domLocked d = false → s.node.goodSyncs d = 7 → ofs.natAbs ≤ 100 → Completes (.ptpSyncReceived d ofs rate port tx) s fun m =>
        m.domLocked d = true ∧ (m.view d).rate = rate) ∧
      (s.node.domLocked d = true → 1000 < ofs.natAbs → Completes (.ptpSyncReceived d ofs rate port tx) s fun m =>
        s.node.Counts m CNT_DOM_STEP ∧ m.goodSyncs d = 0 ∧ (m.view d).rate = rate ∧
        (m.view d).base = ((s.node.rateView d rate).view d).base - BitVec.ofInt 64 ofs)) ∧
    (s.node.powered = true → s.node.domLocked d = true → Completes (.domainLossTimeout d) s fun m =>
      m.rd (F.DOM_STATUS_STATE.at d) = 3 ∧ s.node.Counts m CNT_DOM_LOST) ∧
    (s.node.powered = true → s.node.cfBit F.TIME_CFG_REVERT = true → s.node.cf F.TIME_CFG_PRIMARY = d → s.node.domLocked d = true →
      s.node.rd F.TIME_STATUS_SOURCE = 2 - d.val → Completes .revertTimerExpiry s fun m => m.rd F.TIME_STATUS_SOURCE = d.val + 1) ∧
    (s.node.bit F.TIME_STATUS_SLEWING = true → s.node.rd F.TIME_STATUS_SOURCE = d.val + 1 → s.node.viewNs 2 = s.node.viewNs d →
      Completes .activeTimeSlewEnd s fun m =>
        (m.view 2).rate = (s.node.view d).rate ∧ m.viewNs 2 = s.node.viewNs 2 ∧ m.bit F.TIME_STATUS_SLEWING = false ∧ m.time.slewNs = 0) ∧
    (∀ delays up, s.node.running = true → s.node.activeUnit = true → s.node.cfBit (F.DOM_CFG_ENABLE.at d) = true →
      up = (portsOf (s.node.cf (F.DOM_CFG_PORTS.at d))).filter s.node.linkUp →
      (s.node.cf (F.DOM_CFG_PROFILE.at d) ≠ 0 →
        (Completes (.ptpMessageInterval d 2#4 delays) s fun m =>
          m.out = .ptp d 2 (up.map fun p => (p, portMac p)) (s.node.viewNs d) :: s.node.out) ∧
        ∀ l : LinkDelay, l.port.val ∈ up → Completes (.ptpMessageInterval d 2#4 [l]) s fun m =>
          m.word64 (linkHome d l.port) = l.mean ∧ m.word (linkHome d l.port + 8) = l.ratio) ∧
      (s.node.cf (F.DOM_CFG_PROFILE.at d) = 0 →
        (Completes (.ptpMessageInterval d 2#4 delays) s fun m => m = s.node) ∧
        (s.node.rd (F.DOM_STATUS_RX_PORT.at d) ∈ up → Completes (.ptpMessageInterval d 1#4 delays) s fun m =>
          m.out = .ptp d 1 [(s.node.rd (F.DOM_STATUS_RX_PORT.at d), vintnerMac)] (s.node.viewNs d) :: s.node.out)) ∧
      (∀ k : BitVec 4, k = 0#4 ∨ k = 0xB#4 →
        (s.node.grandmaster d = true → Completes (.ptpMessageInterval d k delays) s fun m =>
          m.out = .ptp d k.toNat (up.map fun p => (p, vintnerMac)) (s.node.viewNs d) :: s.node.out) ∧
        (s.node.grandmaster d = false → s.node.cf (F.DOM_CFG_PROFILE.at d) = 2 → s.node.domLocked d = true →
          Completes (.ptpMessageInterval d k delays) s fun m =>
            m.out = .ptp d k.toNat ((up.filter fun p => s.node.txPort d p && p != s.node.rd (F.DOM_STATUS_RX_PORT.at d)).map fun p => (p,
              vintnerMac))
              (s.node.viewNs d) :: s.node.out) ∧
        (s.node.grandmaster d = false → s.node.cf (F.DOM_CFG_PROFILE.at d) ≠ 2 ∨ s.node.domLocked d = false →
          Completes (.ptpMessageInterval d k delays) s fun m => m = s.node)))

/-- The clock and pulse commands complete: the 10 MHz reference is lost, with a count, and returns (R371); a PPS input edge is stamped, counted in
PPS_SEQ and fires vector 39 (R372), and sets a grandmaster that it aligns to its full second (R364, R372); a missing one is counted (R372); and the
PPS output goes high within 4 ns of a whole second of the active time that has had no pulse, and low (R373). -/
def Obligations.ClockCommandsComplete : Prop :=
  ∀ s : State,
    (s.node.powered = true → s.node.cfBit F.TIME_CFG_CLK_SRC = true → s.node.bit F.TIME_STATUS_CLK10_OK = true → Completes .clk10Loss s fun m =>
      m.bit F.TIME_STATUS_CLK10_OK = false ∧ s.node.Counts m CNT_CLK10_LOSS) ∧
    (s.node.powered = true → s.node.islandDown 6 = false → s.node.cfBit F.TIME_CFG_CLK_SRC = true → Completes .clk10Return s fun m =>
      m.bit F.TIME_STATUS_CLK10_OK = true) ∧
    (∀ fr : Fin 8, s.node.powered = true → s.node.islandDown 6 = false → Completes (.ppsInEdge fr) s fun m =>
      m.word64 0x900010 = BitVec.ofNat 64 (fineStamp s.node.now + fr.val) ∧ m.bit F.TIME_STATUS_PPS_IN_OK = true ∧
      m.rd F.PPS_SEQ = (s.node.rd F.PPS_SEQ + 1) % 2 ^ F.PPS_SEQ.width ∧ (s.node.host.inReset = false → ∃ x ∈ m.host.fires, x.vector = 39) ∧
      ∀ d : Fin 2, s.node.grandmaster d = true → s.node.cfBit (F.DOM_CFG_GM_PPS.at d) = true →
        m.viewNs d = s.node.time.gmSeconds * 1000000000#64 ∧ m.time.gmSeconds = s.node.time.gmSeconds + 1#64) ∧
    (s.node.powered = true → s.node.bit F.TIME_STATUS_PPS_IN_OK = true → Completes .ppsInMissing s fun m =>
      m.bit F.TIME_STATUS_PPS_IN_OK = false ∧ s.node.Counts m CNT_PPS_MISS) ∧
    (∀ second, s.node.powered = true → s.node.bit F.TIME_STATUS_RUNNING = true → s.node.cfBit F.TIME_CFG_PPS_OUT_EN = true →
      second * 1000000000 ≤ s.node.activeNs.toNat + 4 → s.node.activeNs.toNat ≤ second * 1000000000 + 4 → s.node.time.ppsSecond < second →
      Completes .ppsOutPulse s fun m => m.pins.ppsOut = true ∧ m.time.ppsSecond = second ∧ m.store = s.node.store) ∧
    Completes .ppsOutPulseEnd s fun m => m.pins.ppsOut = false ∧ m.store = s.node.store

/-! ### The host bridge (file 14) -/

/-- Host accesses over PCIe complete: a prefetched line, a plain register, BAR4 and the far sides of BAR2 answer, with all ones from the part that
fails on, and a far side that does not answer leaves the read outstanding until it is late, when it completes with all ones and is counted (R378,
R383, R384, R386, R389, R390, R392). A write takes effect at the register (R4), at the MSI-X table or at the far side; one to a far side that is not
reached is counted as posted or non-posted (R387). A line expires. A device read that fails is counted, and a fetch stops its ring (R393, R402); a
fetch that yields is counted and is withdrawn until a remote access completes (R393). -/
def Obligations.PcieAccessesComplete : Prop :=
  ∀ s : State, s.node.overPcie = true →
    (∀ ofs b effect far, s.node.host.delayed.length < 4 → far = .timeout ∨ far = .data b effect → ofs % 4 = 0 → s.node.lineFor .bar0 ofs 4 = none →
      s.node.reaches .host ofs = true → s.node.place ofs = .word ofs →
      ofs + 4 ≤ 0x4000000 → windowOf ofs = none → timeView ofs = none → rowHas ofs (·.rc) = false → isHighWord ofs = false →
      (ofs < 0xA00220 ∨ 0xA0022C < ofs) → Completes (.hostRead .bar0 ofs 4 far) s fun m =>
        m.out.head? = some (.reply (natLe (s.node.peek ofs).toNat 4)) ∧ m.store.shadow = s.node.store.shadow ∧ m.store.force = s.node.store.force) ∧
    (∀ ofs len b, s.node.host.delayed.length < 4 → s.node.lineFor .bar0 ofs len = none → ofs + len ≤ 0x4000000 →
      Completes (.hostRead .bar0 ofs len (.error 0 b)) s fun m => m.out.head? = some (.reply (ones len))) ∧
    (∀ ofs len far, s.node.host.delayed.length < 4 → s.node.lineFor .bar4 ofs len = none → ofs + len ≤ 0x4000 →
      Completes (.hostRead .bar4 ofs len far) s fun m =>
      m.out = .reply (s.node.bar4Bytes ofs len) :: s.node.out ∧ m.store = s.node.store) ∧
    (∀ ofs len, s.node.host.delayed.length < 4 → s.node.lineFor .bar2 ofs len = none → ofs + len ≤ 0x10000000 →
      (∀ b effect, s.node.farReached ofs len = true → Completes (.hostRead .bar2 ofs len (.data b effect)) s fun m =>
        m.out.head? = some (.reply ((b ++ ones len).take len))) ∧
      (∀ done b, s.node.farReached ofs len = true → Completes (.hostRead .bar2 ofs len (.error done b)) s fun m =>
        m.out.head? = some (.reply (farBytes (s.node.farParts ofs len) len (.error done b))) ∧
        (done = 0 → m.out.head? = some (.reply (ones len))) ∧ (isRemote ofs = true → s.node.Counts m CNT_RMT_ERR)) ∧
      (s.node.farReached ofs len = true → Completes (.hostRead .bar2 ofs len .timeout) s fun m =>
        m.host.delayed = s.node.host.delayed ++ [⟨.bar2, ofs, len, none⟩]) ∧
      (∀ far, s.node.farReached ofs len = false → Completes (.hostRead .bar2 ofs len far) s fun m => m.out.head? = some (.reply (ones len)))) ∧
    (∀ ofs len, s.node.host.delayed = [⟨.bar2, ofs, len, none⟩] → Completes (.lateRead ofs) s fun m =>
      m.host.delayed = [] ∧ s.node.Counts m CNT_LATE_READ ∧ m.word 0xA0000C = BitVec.ofNat 32 (2 ^ 31 + latchedAddr .bar2 ofs) ∧
      m.out = .reply (ones len) :: s.node.out) ∧
    (∀ bar ofs len far l, s.node.host.delayed.length < 4 → ofs + len ≤ barSize bar → s.node.lineFor bar ofs len = some l →
      Completes (.hostRead bar ofs len far) s fun m =>
      m.out.head? = some (.reply ((l.bytes.drop (ofs - l.ofs)).take len)) ∧ m.store.ram = s.node.store.ram ∧ m.store.force = s.node.store.force) ∧
    (∀ ofs data far r, ofs % 4 = 0 → data.length = 4 → ofs + 4 ≤ 0x4000000 → s.node.reaches .host ofs = true → s.node.place ofs = .word ofs →
      isPlainReg ofs = true → rowOf ofs = some r → r.rw ≠ 0 → r.w1c = 0 → s.node.held .host = none → s.node.host.prefetch = [] →
      Completes (.hostWrite .bar0 ofs data far) s fun m =>
        m.word ofs = mixWord r.rw (s.node.word ofs) (BitVec.ofNat 32 (leNat data)) ∧ m.store.force = s.node.store.force) ∧
    (∀ ofs data b effect, s.node.farReached ofs data.length = true → data ≠ [] → ofs + data.length ≤ 0x10000000 → s.node.host.prefetch = [] →
      s.node.held .host = none →
      (isRemote ofs = true → ofs / 256 = (ofs + data.length - 1) / 256 → Completes (.hostWrite .bar2 ofs data (.data b effect)) s fun m =>
        .remote (apertureOf ofs) (ofs % 0x4000000) data.length true data ∈ m.out ∧ m.host.yielded = false) ∧
      (isRemote ofs = false → s.node.fieldClient (ofs / 0x800000) = true → data.length = 2 → s.node.farWidth ofs = 4 →
        Completes (.hostWrite .bar2 ofs data (.data b effect)) s fun m =>
          m.out = .field (ofs / 0x800000) (ofs % 0x800000) 2 true :: s.node.out ∧ m.store = s.node.store)) ∧
    (∀ ofs data far, ofs % 4 = 0 → ofs < 0x400 → data.length = 4 → s.node.host.prefetch = [] →
      Completes (.hostWrite .bar4 ofs data far) s fun m => m.msixWord ofs = BitVec.ofNat 32 (leNat data)) ∧
    (∀ ofs data far, s.node.farReached ofs data.length = false → ofs + data.length ≤ 0x10000000 →
      (s.node.nonPosted .bar2 ofs = true → Completes (.hostWrite .bar2 ofs data far) s fun m =>
        s.node.Counts m CNT_NP_ERR ∧ m.word 0xA00008 = BitVec.ofNat 32 (2 ^ 31 + latchedAddr .bar2 ofs)) ∧
      (s.node.nonPosted .bar2 ofs = false → Completes (.hostWrite .bar2 ofs data far) s fun m => s.node.Counts m CNT_PW_ERR)) ∧
    (∀ line l, s.node.host.prefetch[line]? = some l → Completes (.prefetchLineExpiry line) s fun m => l ∉ m.host.prefetch) ∧
    (∀ a read, s.node.dmaOk = true →
      (∀ descs t, read = .fetch descs → s.node.host.txWork = none → s.node.host.yielded = false → s.node.txServed = some t →
        Completes (.deviceReadTimeout a read) s fun m =>
          s.node.Counts m CNT_DMA_RD_ERR ∧ s.node.Counts m CNT_TX_DESC_ERR ∧ m.rd F.HBR_STATUS_TX_STOPPED / 2 ^ t % 2 = 1) ∧
      ∀ c, read = .container c → Completes (.deviceReadTimeout a read) s fun m => s.node.Counts m CNT_DMA_RD_ERR) ∧
    (s.node.dmaOk = true → s.node.host.txWork = none → s.node.txServed.isSome = true → s.node.host.yielded = false → Completes .npYield s fun m =>
      m.host.yielded = true ∧ s.node.Counts m CNT_NP_YIELD)

/-- QSPI transactions complete with their status byte: a read of a range of BAR0, BAR2 or BAR4 gets 0xC3 beyond the region, 0x5A while its access
runs, 0xA5 with the data once it has completed, 0x3C with four others waiting (R380, R381); an unknown OP or region gets 0xC3 (R380). A write takes
effect and gets 0xA5, or 0x3C and no effect while the buffer has no room (R382); one that is cut short does nothing (R380). While a non-posted write
waits, its fence answers every transaction 0x5A until the far side answers (R382). An unread result is discarded and counted (R381). -/
def Obligations.QspiAccessesComplete : Prop :=
  ∀ s : State, s.node.overQspi = true →
    (∀ (region : Bar) (ofs len : Nat) (k : Fin 16) (addr : Word), s.node.host.fence = none →
      ofs < 2 ^ 30 → len = 4 * (k.val + 1) → addr = BitVec.ofNat 32 (barCode region * 2 ^ 30 + ofs) →
      (∀ far, barSize region < ofs + len → Completes (.qspiRead (BitVec.ofNat 8 (16 + k)) addr false far) s fun m =>
        m.out = .reply [0xC3#8] :: s.node.out ∧ m.host.qspiStatus = 0xC3#8) ∧
      (∀ far b, ofs + len ≤ barSize region → s.node.host.delayed = [⟨region, ofs, len, some b⟩] →
        Completes (.qspiRead (BitVec.ofNat 8 (16 + k)) addr false far) s fun m => m.out = .reply (0xA5#8 :: b) :: s.node.out ∧
          m.host.delayed = []) ∧
      (∀ far, ofs + len ≤ 0x4000 → region = .bar4 → s.node.host.delayed = [] → s.node.lineFor .bar4 ofs len = none →
        Completes (.qspiRead (BitVec.ofNat 8 (16 + k)) addr false far) s fun m =>
          m.out = .reply [0x5A#8] :: s.node.out ∧ m.host.delayed = [⟨.bar4, ofs, len, some (s.node.bar4Bytes ofs len)⟩]) ∧
      (∀ far, ofs + len ≤ barSize region → 4 ≤ s.node.host.delayed.length →
        (∀ d ∈ s.node.host.delayed, d.region ≠ region ∨ d.ofs ≠ ofs ∨ d.len ≠ len) →
        Completes (.qspiRead (BitVec.ofNat 8 (16 + k)) addr false far) s fun m =>
          m.out = .reply [0x3C#8] :: s.node.out ∧ s.node.Counts m CNT_QSPI_BUSY ∧ m.host.delayed = s.node.host.delayed) ∧
      (∀ b effect, s.node.host.delayed = [⟨.bar2, ofs, len, none⟩] → region = .bar2 → ofs + len ≤ 0x10000000 →
        Completes (.qspiRead (BitVec.ofNat 8 (16 + k)) addr false (.data b effect)) s fun m =>
          m.out.head? = some (.reply [0x5A#8]) ∧ m.host.delayed = [⟨.bar2, ofs, len, some ((b ++ ones len).take len)⟩]) ∧
      (∀ data far, data.length = len → ofs + len ≤ barSize region →
        (Completes (.qspiWrite addr data false true far) s fun m =>
          m.out.head? = some (.reply [0xA5#8]) ∧ m.host.qspiStatus = 0xA5#8 ∧
          (region = .bar2 → far = .timeout → s.node.nonPosted .bar2 ofs = true → s.node.farReached ofs len = true → m.host.fence = some (.bar2,
            ofs)) ∧
          (region = .bar4 → ofs % 4 = 0 → ofs < 0x400 → len = 4 → s.node.host.prefetch = [] → m.msixWord ofs = BitVec.ofNat 32 (leNat data)) ∧
          ∀ r, region = .bar0 → ofs % 4 = 0 → len = 4 → s.node.reaches .host ofs = true → s.node.place ofs = .word ofs → isPlainReg ofs = true →
            rowOf ofs = some r → r.rw ≠ 0 → r.w1c = 0 → s.node.held .host = none → s.node.host.prefetch = [] →
            m.word ofs = mixWord r.rw (s.node.word ofs) (BitVec.ofNat 32 (leNat data))) ∧
        Completes (.qspiWrite addr data false false far) s fun m => m.out = .reply [0x3C#8] :: s.node.out ∧ m.store = s.node.store) ∧
      ∀ data room far, data.length = len → barSize region < ofs + len → Completes (.qspiWrite addr data false room far) s fun m =>
        m.out = .reply [0xC3#8] :: s.node.out ∧ m.store = s.node.store) ∧
    (∀ command addr far, s.node.host.fence = none → command.toNat / 16 ≠ 1 ∨ addr.toNat / 2 ^ 30 = 3 →
      Completes (.qspiRead command addr false far) s fun m => m.out = .reply [0xC3#8] :: s.node.out ∧ m.store = s.node.store) ∧
    (∀ command addr data room far,
      (Completes (.qspiRead command addr true far) s fun m => m = s.node) ∧
      (Completes (.qspiWrite addr data true room far) s fun m => m = s.node) ∧
      ∀ f, s.node.host.fence = some f →
        (Completes (.qspiRead command addr false .timeout) s fun m => m.out = .reply [0x5A#8] :: s.node.out ∧ m.host.fence = some f) ∧
        (Completes (.qspiWrite addr data false room .timeout) s fun m => m.out = .reply [0x5A#8] :: s.node.out ∧ m.host.fence = some f) ∧
        ∀ b effect, Completes (.qspiRead command addr false (.data b effect)) s fun m =>
          m.out = .reply [0x5A#8] :: s.node.out ∧ m.host.fence = none) ∧
    (∀ slot d, s.node.host.delayed[slot]? = some d → d.data.isSome = true → Completes (.qspiDiscardExpiry slot) s fun m =>
      s.node.Counts m CNT_QSPI_DISCARD ∧ m.host.delayed.length + 1 = s.node.host.delayed.length)

/-- The interrupt commands complete: over QSPI the oldest firing enters the event queue, or is lost and counted where it has no slot (R396); over
PCIe it is sent as an MSI-X message, or becomes a pending bit while its vector or the function is masked, MSI-X is not enabled or R379 permits no
DMA (R379, R394), or enters the queue in host memory where it is routed there and the queue is enabled, or is not written where it is not (R394,
R396). The link comes up and the configuration takes what the host writes (R379, R397). -/
def Obligations.InterruptCommandsComplete : Prop :=
  ∀ s : State,
    (∀ f rest, s.node.host.inReset = false → s.node.host.fires = f :: rest →
      (s.node.bit F.HBR_STATUS_PCIE_SEL = false → s.node.host.eqLost = 0 → s.node.host.eqFifo.length < 256 →
        Completes .interruptFire s fun m =>
          m.host.fires = rest ∧ m.pins.qspiIrq = true ∧
          m.host.eqFifo = s.node.host.eqFifo ++ [⟨eqWord0 f, eqWord1 Config.eqFirstPhase f, BitVec.ofNat 64 f.stamp⟩]) ∧
      (s.node.bit F.HBR_STATUS_PCIE_SEL = false → 256 ≤ s.node.host.eqFifo.length → Completes .interruptFire s fun m =>
        m.host.fires.take rest.length = rest ∧ s.node.Counts m CNT_EQ_OVF ∧ m.host.eqLost = s.node.host.eqLost + 1 ∧
          m.host.eqFifo = s.node.host.eqFifo) ∧
      (s.node.bit F.HBR_STATUS_PCIE_SEL = true → (f.kind ≠ 0 ∨ s.node.routed f.vector = true) → s.node.dmaOk = true →
        (s.node.bit F.EQ_CFG_EN = true → s.node.host.eqLost = 0 → s.node.host.eqFull = false → Completes .interruptFire s fun m =>
          m.host.fires = rest ∧ m.rd F.EQ_TAIL = (s.node.rd F.EQ_TAIL + 1) % s.node.eqSize ∧
          .eqWrite (s.node.rd F.EQ_TAIL) ⟨eqWord0 f, eqWord1 (s.node.host.eqPhase != Config.eqFirstPhase) f, BitVec.ofNat 64 f.stamp⟩ ∈ m.out) ∧
        (s.node.bit F.EQ_CFG_EN = false → Completes .interruptFire s fun m => m.host.fires = rest ∧ m.out = s.node.out)) ∧
      (s.node.bit F.HBR_STATUS_PCIE_SEL = true → f.kind = 0 → f.vector < 64 → s.node.routed f.vector = false →
        (s.node.dmaOk = false → Completes .interruptFire s fun m =>
          m.host.fires = rest ∧ m.out = s.node.out ∧ m.host.msixPending.getLsbD f.vector = true) ∧
        (s.node.dmaOk = true → s.node.host.msixPending = 0#64 →
        (s.node.msixMasked f.vector = false → s.node.host.config.msixEnable = true → s.node.host.config.functionMask = false →
          Completes .interruptFire s fun m =>
            m.host.fires = rest ∧ m.out = .msix f.vector :: s.node.out ∧ m.host.msixPending = 0#64) ∧
        (s.node.msixMasked f.vector = true ∨ s.node.host.config.msixEnable = false ∨ s.node.host.config.functionMask = true →
          Completes .interruptFire s fun m =>
          m.host.fires = rest ∧ m.out = s.node.out ∧ m.host.msixPending.getLsbD f.vector = true)))) ∧
    (∀ speed width : Fin 4, s.node.powered = true → s.node.host.inReset = false → s.node.bit F.HBR_STATUS_PCIE_SEL = true →
      Completes (.pcieLinkUp speed width) s fun m =>
        m.bit F.HBR_STATUS_LINK_UP = true ∧ m.rd F.HBR_STATUS_SPEED = speed ∧ m.rd F.HBR_STATUS_WIDTH = width) ∧
    (∀ bme d0 config, s.node.host.inReset = false → s.node.bit F.HBR_STATUS_LINK_UP = true → Completes (.pcieConfigWrite bme d0 config) s fun m =>
      m.host.bme = bme ∧ m.host.d0 = d0 ∧ m.host.config = config)

/-- The ring commands complete. Receive: a copy at the head reserves its descriptors, waits for them, or is discarded for want of a ring or as too
big, and a waiting one is dropped in time (R399); a written frame advances HEAD, on a ring disabled meanwhile as well, and writes its descriptors
back, and one that meets a descriptor it may not use is counted (R398, R400). Transmit: a frame's descriptors are fetched and the frame enters HP's
ingress, a fault stops the ring, a failed read with status 5 for what was fetched, or the frame's end is awaited (R393, R401, R402), and the
write-back reports a frame of one descriptor and advances HEAD (R403). TAIL and SIZE are taken, or refused and counted (R103, R398), and a delayed
report fires its vector (R400, R403). -/
def Obligations.RingCommandsComplete : Prop :=
  ∀ s : State,
    (∀ (q : Fin 8) c, s.node.hpUp = true → s.node.headCopy 16 q = (s.node, some c) → s.node.cellar.copies.filter (· == c) = [c] →
      (s.node.rd (F.RING_CFG_SIZE.at (s.node.rxRing q)) = 0 → Completes (.rxCopyAtHead q) s fun m =>
        s.node.Counts m CNT_RX_NO_RING ∧ c ∉ m.cellar.copies) ∧
      (s.node.rd (F.RING_CFG_SIZE.at (s.node.rxRing q)) ≠ 0 →
        s.node.rd (F.RING_CFG_SIZE.at (s.node.rxRing q)) <
          (c.out.len - 4 + s.node.bufSize (s.node.rxRing q) - 1) / s.node.bufSize (s.node.rxRing q) →
        Completes (.rxCopyAtHead q) s fun m => s.node.Counts m CNT_RX_TOO_BIG ∧ c ∉ m.cellar.copies) ∧
      (s.node.ringAvail (s.node.rxRing q) - (s.node.ring (s.node.rxRing q)).reserved <
          (c.out.len - 4 + s.node.bufSize (s.node.rxRing q) - 1) / s.node.bufSize (s.node.rxRing q) →
        (c.out.len - 4 + s.node.bufSize (s.node.rxRing q) - 1) / s.node.bufSize (s.node.rxRing q) ≤
          s.node.rd (F.RING_CFG_SIZE.at (s.node.rxRing q)) →
        s.node.rd (F.RING_CFG_SIZE.at (s.node.rxRing q)) ≠ 0 → c.queue = q.val →
        (s.node.rd (F.RING_RX_WAIT.at (s.node.rxRing q)) ≠ 0 → Completes (.rxCopyAtHead q) s fun m =>
          m.rxWaiting q = some c ∧ m.cellar = s.node.cellar) ∧
        (s.node.rd (F.RING_RX_WAIT.at (s.node.rxRing q)) = 0 → Completes (.rxCopyAtHead q) s fun m =>
          s.node.Counts m CNT_RX_WAIT_DROP ∧ c ∉ m.cellar.copies)) ∧
      ∀ need, need = (c.out.len - 4 + s.node.bufSize (s.node.rxRing q) - 1) / s.node.bufSize (s.node.rxRing q) →
        s.node.rd (F.RING_CFG_SIZE.at (s.node.rxRing q)) ≠ 0 → need ≤ s.node.rd (F.RING_CFG_SIZE.at (s.node.rxRing q)) →
        need ≤ s.node.ringAvail (s.node.rxRing q) - (s.node.ring (s.node.rxRing q)).reserved → Completes (.rxCopyAtHead q) s fun m =>
          m.host.rxWork = s.node.host.rxWork ++ [⟨s.node.rxRing q, s.node.ringSlots (s.node.rxRing q) need, s.node.ringWrap (s.node.rxRing q),
            false, q,
            { c with egress := s.node.egressStamp 16 }⟩] ∧ c ∉ m.cellar.copies ∧
          (m.ring (s.node.rxRing q)).reserved = (s.node.ring (s.node.rxRing q)).reserved + need) ∧
    (∀ (q : Fin 8) c, s.node.rxWaiting q = some c → c.queue = q.val → s.node.cellar.copies.filter (· == c) = [c] →
      Completes (.rxWaitExpiry q) s fun m => s.node.Counts m CNT_RX_WAIT_DROP ∧ c ∉ m.cellar.copies ∧ m.rxWaiting q = none) ∧
    (∀ (r : Fin 4) (w : RxWork) (wrap : Nat), s.node.host.rxWork.find? (fun w => w.ring == r.val) = some w → w.copy.tsReq = none →
      w.detached = false →
      wrap = (if s.node.ringWrap r = 0 then w.wrap else s.node.ringWrap r) → wrap ≠ 0 →
      (Completes (.rxFrameWritten r true) s fun m =>
        m.host.rxWork = removeFirst (· == w) s.node.host.rxWork ∧
        m.rd (F.RING_HEAD.at r) = (s.node.rd (F.RING_HEAD.at r) + w.slots.length) % wrap ∧
        .rxRing r (w.slots.headD 0) w.queue w.copy.ingress w.copy.stamp { w.copy.out with len := w.copy.out.len - 4 } ∈ m.out ∧
        (w.slots.length = 1 → .writeBack false r (w.slots.headD 0) 0 true true (min (s.node.bufSize r) (w.copy.out.len - 4)) ∈ m.out)) ∧
      Completes (.rxFrameWritten r false) s fun m =>
        s.node.Counts m CNT_RX_DESC_ERR ∧ m.rd (F.RING_HEAD.at r) = (s.node.rd (F.RING_HEAD.at r) + w.slots.length) % wrap) ∧
    (∀ tx (r : Fin 4), (s.node.ring (ringIx tx r)).unreported = true → Completes (.ringIrqDelayExpiry tx r) s fun m =>
      (m.ring (ringIx tx r)).unreported = false ∧
      (s.node.host.inReset = false → ∃ f ∈ m.host.fires, f.vector = if tx then 41 else 40)) ∧
    (∀ t descs f, s.node.dmaOk = true → s.node.host.txWork = none → s.node.host.yielded = false → s.node.txServed = some t →
      (txUnfinished (s.node.ringAvail (4 + t)) descs = true → Completes (.txRingFetch descs f) s fun m => m = s.node) ∧
      (txUnfinished (s.node.ringAvail (4 + t)) descs = false →
        (∀ l i, txSpan (s.node.ringAvail (4 + t)) descs = (some l, i) → Completes (.txRingFetch descs f) s fun m =>
          m.host.yielded = false ∧ (∃ w, m.host.txWork = some w ∧ w.ring = t ∧ w.descs = l) ∧
          (m.ring (4 + t)).reserved = (s.node.ring (4 + t)).reserved + l.length ∧
          ∀ n, (l.map (·.len)).foldl (· + ·) 0 = n → n ≠ 0 →
            s.node.checkFails 16 { f with len := n + 4 } ⟨false, false, false⟩ = none → s.node.Counts m (CNT_RX_FRAMES 16) ∧
              m.host.txWork.map (·.status) = some 0) ∧
        ∀ i, txSpan (s.node.ringAvail (4 + t)) descs = (none, i) → Completes (.txRingFetch descs f) s fun m =>
          s.node.Counts m CNT_TX_DESC_ERR ∧ m.rd F.HBR_STATUS_TX_STOPPED / 2 ^ t % 2 = 1 ∧
          ∀ d a, descs[i]? = some d → d.own = true → d.failedAt = some a →
            s.node.Counts m CNT_DMA_RD_ERR ∧ (m.host.txWork.map fun w => (w.ring, w.descs, w.status)) = some (t, descs.take (i + 1), 5))) ∧
    (∀ w, s.node.dmaOk = true → s.node.host.txWork = some w → w.detached = false → s.node.ringWrap (4 + w.ring) ≠ 0 →
      Completes .txWriteback s fun m =>
      m.host.txWork = none ∧
      (∀ d, w.descs = [d] → .writeBack true w.ring (w.slots.getD 0 0) (if d.len = 0 then 2 else w.status) d.sof d.eof d.len ∈ m.out) ∧
      m.rd (F.RING_HEAD.at (4 + w.ring)) = (s.node.rd (F.RING_HEAD.at (4 + w.ring)) + w.descs.length) % s.node.ringWrap (4 + w.ring)) ∧
    (∀ by_ tx (r : Fin 4) (v : Half) k, s.node.Reaches by_ 0xA → k = ringIx tx r → (tx = false → s.node.host.rxWaits = []) →
      (v.toNat < s.node.ringWrap k →
        (v.toNat + s.node.ringWrap k - s.node.rd (F.RING_HEAD.at k)) % s.node.ringWrap k ≤ s.node.rd (F.RING_CFG_SIZE.at k) →
        (s.node.ring k).reserved ≤ (v.toNat + s.node.ringWrap k - s.node.rd (F.RING_HEAD.at k)) % s.node.ringWrap k →
        Completes (.tailWrite by_ tx r v) s fun m => m.rd (F.RING_TAIL.at k) = v.toNat) ∧
      (s.node.ringWrap k ≤ v.toNat → Completes (.tailWrite by_ tx r v) s fun m =>
        s.node.Counts m CNT_RING_WR_DROP ∧ m.rd (F.RING_TAIL.at k) = s.node.rd (F.RING_TAIL.at k)) ∧
      (∀ irq, v.toNat ≤ 4096 → s.node.rd (F.RING_CFG_SIZE.at k) = 0 → v ≠ 0#16 → Completes (.ringSizeWrite by_ tx r v irq) s fun m =>
        m.rd (F.RING_CFG_SIZE.at k) = v.toNat ∧ m.rd (F.RING_HEAD.at k) = 0 ∧ m.rd (F.RING_TAIL.at k) = 0 ∧
        m.bit (F.RING_CFG_IRQ_EN.at k) = irq) ∧
      ∀ irq, 4096 < v.toNat → Completes (.ringSizeWrite by_ tx r v irq) s fun m =>
        m.rd (F.RING_CFG_SIZE.at k) = s.node.rd (F.RING_CFG_SIZE.at k) ∧ s.node.Counts m CNT_RING_WR_DROP ∧ m.bit (F.RING_CFG_IRQ_EN.at k) = irq)

/-! ### Outputs and inputs (file 15) -/

/-- An OUT_UPDATE completes: LATCH_SEQ counts it, each channel's I is latched, row 1 ends and OUT_HOLD starts anew, and every marked channel takes
ON and DIM of its command word while the others keep theirs (R128, R410, R412, R413, R423, R429). When OUT_HOLD expires the fail state takes every
channel that rows 1 to 4 do not hold off: on, last or off (R429). -/
def Obligations.OutputUpdatesComplete : Prop :=
  ∀ s : State,
    (∀ entry samples vA vB, s.node.due entry 5 = true → s.node.pair.breakHold = false →
      Completes (.outUpdate entry samples vA vB) s fun m =>
        m.rd F.LATCH_SEQ = (s.node.rd F.LATCH_SEQ + 1) % 2 ^ 32 ∧ m.outs.row1 = false ∧ m.outs.holdRuns = true ∧
        ∀ c < 24, m.rd (F.RB_I.at c) = currentSteps (s.node.chan c).fine c (sampleOf samples c) ∧
          (s.node.outs.marks.getLsbD c = true → (m.chan c).on = s.node.bit (F.CMD_ON.at c) ∧ (m.chan c).held = false ∧
            (m.chan c).failApplied = false ∧ (m.chan c).cleared = false ∧ (m.chan c).dim = BitVec.ofNat 8 (s.node.rd (F.CMD_DIM.at c))) ∧
          (s.node.outs.marks.getLsbD c = false → (m.chan c).on = (s.node.chan c).on ∧ (m.chan c).held = (s.node.chan c).held)) ∧
    (∀ es, s.node.outs.holdRuns = true → s.node.outs.row1 = false → s.node.pair.breakHold = false → Completes (.outHoldExpiry es) s fun m =>
      m.outs.holdRuns = false ∧ s.node.Counts m CNT_FAILSTATE ∧ ∀ c < 24, s.node.rowsHold c = false →
        (m.chan c).failApplied = true ∧ (m.chan c).holdOn = (s.node.asked c && !(s.node.chan c).cleared) ∧
        ((s.node.chan c).cleared = false → (s.node.chan c).seq = .none →
          m.wants c = (s.node.cf (F.CH_CFG_FAIL_STATE.at c) == 2 || s.node.cf (F.CH_CFG_FAIL_STATE.at c) == 1 && s.node.wants c)))

/-- The protection of a channel completes: an inrush window closes, with a lock where the channel limits (R415); an attempt fails, waits or locks, a
retry starts, and the retry window closes well or with a lock (R417); the thermal latch is set within the limits of R420 and released below them;
each clear is done, or refused and counted (R422); open load and short to battery are found and cleared (R424); and a load-shed condition that holds
sheds the lowest priority of the channels concerned, while one that does not hold sheds none (R428). -/
def Obligations.ChannelProtectionCompletes : Prop :=
  ∀ (s : State) (c : Fin 24),
    ((s.node.chan c).seq = .inrush →
      (∀ e, (s.node.chan c).therm = false → Completes (.inrushWindowClose c false e) s fun m => (m.chan c).seq = .none ∧ m.store = s.node.store) ∧
      (∀ e, s.node.conducts c = true → s.node.noSupply c = false → Completes (.inrushWindowClose c true e) s fun m =>
        (m.chan c).inrushFail = true ∧ (m.chan c).seq = .none ∧ s.node.Counts m (CNT_INRUSH_FAIL c))) ∧
    ((s.node.chan c).legacy = true → s.node.conducts c = true → (s.node.chan c).seq = .retry false → (s.node.chan c).settled = false →
      (∀ e, ((s.node.addEnergy c e).chan c).clampLock = false → (s.node.chan c).retryLeft ≠ 0 → Completes (.retryAttemptFail c e) s fun m =>
        (m.chan c).seq = .retry true) ∧
      (∀ e, ((s.node.addEnergy c e).chan c).clampLock = false → (s.node.chan c).retryLeft = 0 → Completes (.retryAttemptFail c e) s fun m =>
        (m.chan c).inrushFail = true ∧ s.node.Counts m (CNT_INRUSH_FAIL c))) ∧
    ((s.node.chan c).seq = .retry true → (s.node.chan c).therm = false → (s.node.chan c).retryLeft ≠ 0 → Completes (.retryStart c) s fun m =>
      (m.chan c).seq = .retry false ∧ (m.chan c).retryLeft = (s.node.chan c).retryLeft - 1 ∧ s.node.Counts m (CNT_RETRY c)) ∧
    ((s.node.chan c).seq = .retry false → (s.node.chan c).therm = false → Completes (.retryWindowClose c) s fun m =>
      (m.chan c).seq = .none ∧ (m.chan c).settled = true) ∧
    ((s.node.chan c).seq = .retry true → Completes (.retryWindowClose c) s fun m => (m.chan c).inrushFail = true) ∧
    (∀ dt tj e, s.node.conducts c = true → (s.node.chan c).therm = false → ((s.node.cf F.OUT_CFG_TH_DIFF : Int) ≤ dt ∨ 175 ≤ tj) →
      Completes (.thermalLatchSet c dt tj e) s fun m => (m.chan c).therm = true ∧ s.node.Counts m (CNT_THERM_TRIP c)) ∧
    (∀ dt tj, (s.node.chan c).therm = true → dt ≤ (s.node.cf F.OUT_CFG_TH_DIFF : Int) - 15 → tj ≤ 160 →
      Completes (.thermalLatchRelease c dt tj) s fun m => (m.chan c).therm = false) ∧
    (∀ by_, s.node.Reaches by_ 0xB →
      ((s.node.chan c).clampLock = true → s.node.bucketNow c * 4 < bucketCapacity c → Completes (.outCmdClearClamp by_ 0x6C2D#16 c) s fun m =>
        (m.chan c).clampLock = false ∧ (m.chan c).cleared = true) ∧
      ((s.node.chan c).clampLock = true → bucketCapacity c ≤ s.node.bucketNow c * 4 → Completes (.outCmdClearClamp by_ 0x6C2D#16 c) s fun m =>
        (m.chan c).clampLock = true ∧ s.node.Counts m CNT_CLEAR_REFUSED) ∧
      ((s.node.chan c).inrushFail = true → Completes (.outCmdClearInrush by_ 0x6C2D#16 c) s fun m =>
        (m.chan c).inrushFail = false ∧ (m.chan c).cleared = true) ∧
      ((s.node.chan c).shed = true → s.node.outs.shedConds.getLsbD (s.node.chan c).shedBy = false →
        Completes (.outCmdClearShed by_ 0x6C2D#16 c) s fun m =>
        (m.chan c).shed = false ∧ (m.chan c).cleared = true) ∧
      ((s.node.chan c).shed = true → s.node.outs.shedConds.getLsbD (s.node.chan c).shedBy = true →
        Completes (.outCmdClearShed by_ 0x6C2D#16 c) s fun m =>
        (m.chan c).shed = true ∧ s.node.Counts m CNT_CLEAR_REFUSED)) ∧
    (s.node.conducts c = true → (s.node.chan c).openLoad = false → (s.node.chan c).seq ≠ .inrush → s.node.lowSupply c = false →
      s.node.cf (F.CH_CFG_OL_TH.at c) ≠ 0 → Completes (.openLoadDetect c) s fun m =>
        (m.chan c).openLoad = true ∧ s.node.Counts m CNT_OPEN_LOAD) ∧
    (s.node.conducts c = true → Completes (.openLoadClear c) s fun m => (m.chan c).openLoad = false ∧ m.store = s.node.store) ∧
    (s.node.powered = true → s.node.conducts c = false → (s.node.chan c).stb = false → s.node.cfBit (F.CH_CFG_PAIRED.at c) = false →
      Completes (.stbDetect c) s fun m => (m.chan c).stb = true ∧ s.node.Counts m CNT_STB) ∧
    (Completes (.stbClear c) s fun m => (m.chan c).stb = false ∧ m.store = s.node.store) ∧
    (∀ (cond : Fin 4) interval es p, s.node.overLimit cond interval = true → s.node.shedPriority cond = some p → shedConcerns cond c = true →
      s.node.conducts c = true →
      s.node.cf (F.CH_CFG_SHED_PRIO.at c) = p → Completes (.loadShed cond interval es) s fun m =>
        (m.chan c).shed = true ∧ (m.chan c).shedBy = cond.val ∧ (m.chan c).seq = .none) ∧
    (∀ (cond : Fin 4) interval es, s.node.overLimit cond interval = true → s.node.shedPriority cond = none →
      Completes (.loadShed cond interval es) s fun m =>
        m.outs.shedConds.getLsbD cond = true ∧ m.outs.channels = s.node.outs.channels ∧ m.store = s.node.store) ∧
    (∀ (cond : Fin 4) interval es, s.node.overLimit cond interval = false → Completes (.loadShed cond interval es) s fun m =>
      m.outs.shedConds.getLsbD cond = false ∧ m.outs.channels = s.node.outs.channels ∧ m.store = s.node.store)

/-- Supplies, DIM pins, lamps and inputs complete: a low supply is flagged and counted and recovers (R427), a DIM pin follows its edge and gates its
channels (R425), a lamp takes the duty of R426, and an input reads its voltage against the thresholds of its range (R41), is filtered (R434) and
sinks its base and wetting currents (R433). -/
def Obligations.SupplyAndInputCommandsComplete : Prop :=
  ∀ s : State,
    (∀ a mv, s.node.powered = true → s.node.bit (if a then F.OUT_STATUS_LOW_A else F.OUT_STATUS_LOW_B) = false →
      Completes (.vloadLow a mv) s fun m =>
        m.bit (if a then F.OUT_STATUS_LOW_A else F.OUT_STATUS_LOW_B) = true ∧ s.node.Counts m CNT_VLOAD_LOW) ∧
    (∀ a, Completes (.vloadRecover a) s fun m => m.bit (if a then F.OUT_STATUS_LOW_A else F.OUT_STATUS_LOW_B) = false) ∧
    (∀ a below, s.node.powered = true → Completes (.vloadNoSupply a below) s fun m =>
      m.bit (if a then F.OUT_STATUS_NOSUP_A else F.OUT_STATUS_NOSUP_B) = below) ∧
    (∀ (pin : Fin 4) level es, Completes (.dimPinEdge pin level es) s fun m =>
      m.outs.dimPins.getLsbD pin = level ∧ (∀ p < 4, p ≠ pin.val → m.outs.dimPins.getLsbD p = s.node.outs.dimPins.getLsbD p) ∧
      ∀ c < 24, s.node.cf (F.CH_CFG_DIM_SRC.at c) = pin + 1 → s.node.cfBit (F.CH_CFG_LAMP.at c) = false → s.node.failOn c = false →
        m.conducts c = (m.wants c && level)) ∧
    (∀ (l : Fin 4) mv e, s.node.powered = true → s.node.cfBit (F.CH_CFG_LAMP.at (20 + l.val)) = true →
      Completes (.lampPwmPeriod l mv e) s fun m =>
        (m.chan (20 + l.val)).duty = lampDuty (s.node.cf (F.CH_CFG_UREF.at (20 + l.val))) mv
          (if s.node.failOn (20 + l.val) then 255 else (s.node.chan (20 + l.val)).dim.toNat)) ∧
    (∀ mv, s.node.powered = true → Completes (.inputSample mv) s fun m => m.store = s.node.store ∧ ∀ k < 16,
      let range := s.node.cfBit (F.DI_CFG_RANGE110.at k)
      let d := (s.node.input k).sample (s.node.cf (F.DI_CFG_FILT.at k)) ((s.node.input k).levelAt range (mv.getD k 0))
      (m.input k).level = (s.node.input k).levelAt range (mv.getD k 0) ∧ (m.input k).state = d.state ∧ (m.input k).rises = d.rises ∧
      (m.input k).sink = (if (if range then 20000 else 6000) < mv.getD k 0 then 500 else 0) +
        (if (m.input k).wetLeft = 0 then 0 else if s.node.cfBit (F.DI_CFG_WET10.at k) then 10000 else 2000) ∧
      (s.node.cfBit (F.DI_CFG_WET_EN.at k) = false → (m.input k).wetLeft = 0) ∧
      (s.node.cfBit (F.DI_CFG_WET_EN.at k) = true → d.state ≠ (s.node.input k).state → (m.input k).wetLeft = wetSamples))

/-! ### Redundancy (file 16) -/

/-- The role commands complete: a claim is made after the listening time and ends as R443 says (how units of one number learn of it with the link
down is the model's choice, log entry 82), a renewal or a hold line makes a listening unit standby (R443), a second active unit 1 and the command to
resign make the unit standby (R445, R458), the Cork is renewed and released (R444), a takeover makes a unit active, with every command word marked
where it starts from a racked or pre-executed state and none where it starts cold (R455, R456), the command and the interval ask for a swap (R460),
and the break switches the channels off (R459). -/
def Obligations.RoleCommandsComplete : Prop :=
  ∀ s : State,
    (s.node.running = true → s.node.rd F.RED_STATUS_STATE = 1 → Completes .claimTimeout s fun m => m.rd F.RED_STATUS_STATE = 2) ∧
    (s.node.rd F.RED_STATUS_STATE = 2 → Completes .claimRetryDelay s fun m => m.pair.claimDelayed = false ∧ m.store = s.node.store) ∧
    (s.node.rd F.RED_STATUS_STATE = 2 → s.node.pair.claimWatch = true →
      (∀ same, Completes (.claimWatchEnd false same) s fun m => m.pair.becomes = some causeClaim ∧ m.pair.claimWatch = false) ∧
      ∀ same,
        (same = false ∨ s.node.pair.sameUnit = true →
          s.node.bit F.RED_STATUS_RACK_UP = true ∨ s.node.pair.sameUnit = false →
          (s.node.unit = 1 → Completes (.claimWatchEnd true same) s fun m =>
            m.rd F.RED_STATUS_STATE = 4 ∧ s.node.Counts m CNT_CLAIM_COLL) ∧
          (s.node.unit ≠ 1 → Completes (.claimWatchEnd true same) s fun m =>
            m.rd F.RED_STATUS_STATE = 2 ∧ m.pair.becomes = some causeClaim)) ∧
        (same = true ∨ s.node.pair.sameUnit = true → s.node.bit F.RED_STATUS_RACK_UP = false → Completes (.claimWatchEnd true same) s fun m =>
          m.pins.holdOut = false ∧ m.pair.claimDelayed = true ∧ s.node.Counts m CNT_CLAIM_COLL)) ∧
    (s.node.pairActive = true → s.node.bit F.TRL_STATUS_RUNNING = true ∨ s.node.power = .dormEntry → s.node.supply.firmware = true →
      s.node.supply.halted = false →
      (s.node.holdSeen = false ∨ s.node.unit ≠ 1 → Completes .corkRenewalTx s fun m =>
        m.pins.holdOut = true ∧ m.bit F.RED_STATUS_HOLD_OUT = true ∧
        (s.node.bit F.RED_STATUS_RACK_UP = true → m.out = .rack .renewal :: s.node.out)) ∧
      (s.node.holdSeen = true → s.node.unit = 1 → Completes .corkRenewalTx s fun m =>
        m.rd F.RED_STATUS_STATE = 4 ∧ m.pins.holdOut = false ∧ s.node.Counts m CNT_RESIGN)) ∧
    (s.node.running = true → s.node.bit F.RED_STATUS_RACK_UP = true →
      (s.node.standby = true → Completes .renewalReceived s fun m => m.pair.leaseExpired = false ∧ m.store = s.node.store) ∧
      (s.node.rd F.RED_STATUS_STATE = 1 → Completes .renewalReceived s fun m => m.rd F.RED_STATUS_STATE = 4 ∧ m.pair.bulk = true)) ∧
    (s.node.pairActive = true → Completes .holdOutRelease s fun m => m.pins.holdOut = false ∧ m.bit F.RED_STATUS_HOLD_OUT = false) ∧
    (s.node.standby = true → Completes .leaseExpiry s fun m =>
      m.pair.leaseExpired = true ∧ (s.node.holdSeen = true → m.bit F.RED_STATUS_SYNC = false)) ∧
    (∀ lineB low, s.node.powered = true → s.node.islandDown 5 = false →
      ((low = false ∨ s.node.running = false) → Completes (.holdInChange lineB low) s fun m =>
        m.bit (if lineB then F.RED_STATUS_HOLD_IN_B else F.RED_STATUS_HOLD_IN_A) = low) ∧
      (low = true → s.node.running = true → s.node.rd F.RED_STATUS_STATE = 1 → Completes (.holdInChange lineB low) s fun m =>
        m.rd F.RED_STATUS_STATE = 4) ∧
      (low = true → s.node.running = true → s.node.pairActive = true → s.node.bit F.RED_STATUS_HOLD_OUT = true → s.node.unit = 1 →
        Completes (.holdInChange lineB low) s fun m => m.rd F.RED_STATUS_STATE = 4 ∧ s.node.Counts m CNT_RESIGN)) ∧
    (s.node.pair.enabled = true → s.node.bit F.RED_STATUS_HOLD_IN_A ≠ s.node.bit F.RED_STATUS_HOLD_IN_B → (0x0C05, 0) ∉ s.node.runs →
      Completes .holdDisagree s fun m => s.node.Counts m CNT_HOLD_DISAGREE ∧ (0x0C05, 0) ∈ m.runs) ∧
    (s.node.standby = true → s.node.running = true → (s.node.pair.resigned = true ∨ s.node.pair.leaseExpired = true ∧ s.node.holdSeen = false) →
      Completes .takeover s fun m =>
        m.rd F.RED_STATUS_STATE = 3 ∧ m.pins.holdOut = true ∧ m.pair.resigned = false ∧ m.pair.leaseExpired = false ∧
        s.node.Counts m CNT_TAKEOVER ∧
        ((s.node.bit F.RED_STATUS_IN_STEP = true ∨ s.node.bit F.RED_STATUS_SYNC = true) → m.outs.marks = 0xFFFFFF#24) ∧
        (s.node.bit F.RED_STATUS_IN_STEP = false → s.node.bit F.RED_STATUS_SYNC = false → m.outs.marks = 0#24)) ∧
    (s.node.standby = true → s.node.bit F.RED_STATUS_RACK_UP = true → Completes .resignationReceived s fun m => m.pair.resigned = true) ∧
    (∀ es, s.node.pair.breakHold = true → Completes (.breakInstant es) s fun m =>
      m.pair.breakHold = false ∧ m.outs.row1 = true ∧ ∀ c < 24, m.conducts c = false) ∧
    (∀ by_, s.node.Reaches by_ 0xC → s.node.running = true →
      (s.node.pairActive = true → Completes (.redCmdResign by_ 0x3D8E#16) s fun m =>
        m.rd F.RED_STATUS_STATE = 4 ∧ m.pair.breakHold = true ∧ s.node.Counts m CNT_RESIGN) ∧
      (s.node.pairActive = true → Completes (.redCmdSwap by_ 0x3D8E#16) s fun m => m.pair.swapWanted = true) ∧
      (s.node.standby = true → Completes (.redCmdBulkRacking by_ 0x3D8E#16) s fun m =>
        m.pair.bulk = true ∧ m.out = .rack .bulk :: s.node.out)) ∧
    (s.node.running = true → s.node.pairActive = true → s.node.cf F.PAIR_CFG_SWAP_H ≠ 0 → Completes .swapIntervalExpiry s fun m =>
      m.pair.swapWanted = true ∧ m.store = s.node.store)

/-- The racking commands complete: the link goes down, with a count, and comes up with the partner's compatibility number (R446, R449); frames are
kept, or counted and asked for again with a bad CRC (R446, R447), until the delta is complete and applied, or dropped while the numbers differ
(R447, R449); a commit set's groups wait for the active unit's start, confirmed (R450); bulk racking ends with the active unit's copy (R448) and
unit 0's node address learnt (R181); digests are compared (R453); and a control word is acted on: a link report (R441), the partner's state and key
(R443), its busy groups (R450), a request for the whole state or for the last delta (R447, R448), a swap (R460), Dormancy and its abort (R461). -/
def Obligations.RackingCommandsComplete : Prop :=
  ∀ s : State,
    (s.node.bit F.RED_STATUS_RACK_UP = true → Completes .rackLinkDown s fun m =>
      m.bit F.RED_STATUS_RACK_UP = false ∧ s.node.Counts m CNT_RACK_DOWN) ∧
    (∀ compat, s.node.powered = true → s.node.islandDown 5 = false → s.node.pair.enabled = true → s.node.bit F.RED_STATUS_RACK_UP = false →
      Completes (.rackLinkUp compat) s fun m =>
        m.bit F.RED_STATUS_RACK_UP = true ∧ m.bit F.RED_STATUS_COMPAT = decide (compat = s.node.vnt.compat) ∧ m.vnt.partnerCompat = compat) ∧
    (s.node.standby = true → s.node.bit F.RED_STATUS_RACK_UP = true → ∀ seq last cells,
      (∀ set, Completes (.rackFrameReceived seq last false cells set) s fun m =>
        s.node.Counts m CNT_RACK_CRC ∧ m.pair = s.node.pair ∧ m.out = .rack .again :: s.node.out) ∧
      ((s.node.pair.frames.any fun f => f.1 == seq) = false → Completes (.rackFrameReceived seq last true cells none) s fun m =>
        m.pair.frames = s.node.pair.frames ++ [(seq, cells)] ∧ (last = true → m.pair.lastSeen = some seq)) ∧
      ∀ g skip, groupExists g = true → Completes (.rackFrameReceived seq last true cells (some ([g], skip))) s fun m =>
        m.phase g = .pending skip ∧ m.pair.frames = s.node.pair.frames ∧ m.out = .rack (.confirm [g]) :: s.node.out ∧
        ∀ a v, cells = [(a, v)] → groupOf a = g → m.shadowWord a = v) ∧
    (s.node.standby = true → s.node.deltaComplete = true → Completes .deltaApplied s fun m =>
      m.pair.frames = [] ∧ m.pair.lastSeen = none ∧ m.pair.deltaDone = true ∧
      (s.node.bit F.RED_STATUS_COMPAT = false → m.store = s.node.store ∧ m.pair.racked = s.node.pair.racked) ∧
      ∀ a v, s.node.bit F.RED_STATUS_COMPAT = true → s.node.pair.frames = [(0, [(a, v)])] → s.node.pair.lastSeen = some 0 →
        rackedKey a = true → m.rackedWord a = v) ∧
    (∀ mac cells, s.node.standby = true → s.node.pair.bulk = true → s.node.bit F.RED_STATUS_RACK_UP = true → s.node.bit F.RED_STATUS_COMPAT = true →
      Completes (.bulkRackingDone mac cells) s fun m =>
        m.pair.bulk = false ∧ m.pair.skip = 2 ∧ s.node.Counts m CNT_RESEED ∧ m.bit F.RED_STATUS_SYNC = true ∧
        (s.node.rd F.RED_STATUS_UNIT = 1 → m.vnt.unit0Mac = some mac) ∧
        ∀ a v, cells = [(a, v)] → s.node.pair.sinceBulk = [] → rackedKey a = true → m.rackedWord a = v) ∧
    (s.node.bit F.RED_STATUS_RACK_UP = true →
      (∀ (p : Fin 4) up lead, s.node.physical p = false → s.node.linkUp p ≠ up → Completes (.rackControlWord (.link p up lead)) s fun m =>
        m.linkUp p = up ∧ (up = false → s.node.Counts m (CNT_LINK_DOWN p))) ∧
      (∀ (st : Fin 16) unit ok, Completes (.rackControlWord (.state st unit ok)) s fun m =>
        m.rd F.RED_STATUS_PARTNER = st ∧ m.pair.partnerDormOk = ok) ∧
      (∀ gs, Completes (.rackControlWord (.busy gs)) s fun m => m.pair.partnerBusy = gs ∧ m.store = s.node.store) ∧
      (∀ key, Completes (.rackControlWord (.identity key)) s fun m => m.pair.partnerKey = some key) ∧
      (s.node.pairActive = true → Completes (.rackControlWord .bulk) s fun m =>
        m.out = .rack (.bulkCopy (s.node.rackKeys.eraseDups.map fun a => (a, s.node.rackValue a))) :: s.node.out) ∧
      (∀ idx cells, s.node.pairActive = true → s.node.pair.lastDelta = some (idx, cells) → Completes (.rackControlWord .again) s fun m =>
        m.out = .rack (.delta idx cells) :: s.node.out) ∧
      (s.node.standby = true → Completes (.rackControlWord .swap) s fun m => m.pair.swapIn = some 2) ∧
      (s.node.standby = true → s.node.power = .run → Completes (.rackControlWord .dormEnter) s fun m => m.power = .dormEntry) ∧
      (s.node.power = .dormEntry → s.node.supply.dormStep < 5 → s.node.supply.dormAbort = false →
        Completes (.rackControlWord .dormAbort) s fun m => m.supply.dormAbort = true ∧ m.rd F.DORM_STATUS_REFUSE = 7)) ∧
    (∀ (cycle : BitVec 13) own partner k, s.node.pair.digests.find? (·.1 == cycle.toNat) = some (k, own) → s.node.bit F.RED_STATUS_RACK_UP = true →
      (s.node.pairActive = true ∨ s.node.standby = true) →
      (s.node.pair.skip ≠ 0 → Completes (.digestCompare cycle partner) s fun m =>
        m.pair.skip = s.node.pair.skip - 1 ∧ m.store = s.node.store) ∧
      (s.node.pair.skip = 0 → own = partner → Completes (.digestCompare cycle partner) s fun m =>
        m.pair.matched = s.node.pair.matched + 1 ∧ m.pair.misses = 0 ∧ m.rd F.RED_STATUS_MIS_RUN = 0 ∧
        (7 ≤ s.node.pair.matched → m.bit F.RED_STATUS_IN_STEP = true)) ∧
      (s.node.pair.skip = 0 → own ≠ partner → Completes (.digestCompare cycle partner) s fun m =>
        m.pair.misses = s.node.pair.misses + 1 ∧ m.pair.matched = 0 ∧ m.bit F.RED_STATUS_IN_STEP = false ∧
        s.node.Counts m CNT_DIGEST_MISMATCH ∧ m.rd F.RED_STATUS_MIS_RUN = min 255 (s.node.rd F.RED_STATUS_MIS_RUN + 1) ∧
        (s.node.standby = true → s.node.divLimit ≤ s.node.pair.misses + 1 → m.pair.reseedDue = true)))


/-! ### The object dictionary (file 17) -/

/-- The access commands complete on every path but a mailbox (that is part of the next statement): a read is answered with the entry's value, a
write of all its bytes goes to the shadow register with its commit (R102), to the consist UUID, or becomes a segmented transfer; further segments,
an abort, a description and the segment timeout act on the transfer of the path; an entry that does not exist or turns the access away ends it with
its abort code (R477, R482, R483), and with 64 requests held it ends with 0x0F and is counted (R480). Every reply carries the request's header
(R483), as its path carries it. A read of a Type 15 map entry answers its four registers, most significant 16 bits first (R487). -/
def Obligations.ObjectAccessesComplete : Prop :=
  ∀ (s : State) (p : Path), pathBox p = none →
    (∀ index sub irq regs wreg, s.node.Serves p index.toNat → (regs = none ∨ pathKind p ≠ 4) → (wreg = none ∨ pathKind p ≠ 4) →
      (∀ e, s.node.odEntry index.toNat sub.toNat = .ok e →
        (s.node.readAbort p e = none → s.node.entryHeld e = false → index ≠ 0x1F00 → index ≠ 0x2F30 →
          Completes (.odRead p index sub irq false regs) s fun m =>
            let v := (s.node.requestTaken p).odValue e
            let k := firstSegment p v.length
            s.node.firstReply m =
              some (s.node.replyOn p ⟨1, false, decide (k < v.length), index.toNat, sub.toNat, 0, 0, v.length, k⟩ (v.take k))) ∧
        (∀ a, a ≠ 0 → s.node.readAbort p e = some a → (Completes (.odRead p index sub irq false regs) s fun m => s.node.firstReply m =
          some (s.node.replyOn p ⟨1, false, false, index.toNat, sub.toNat, a, 0, 0, 0⟩ []))) ∧
        (Completes (.odDescribe p index sub irq false) s fun m => s.node.firstReply m =
          some (s.node.replyOn p ⟨5, false, false, index.toNat, sub.toNat, 0, 0, 16, 16⟩ ((s.node.descWords e).flatMap fun w => natLe w 4))) ∧
        (isResponse index.toNat sub.toNat = false →
          (∀ seg a, a ≠ 0 → s.node.writeAbort p index.toNat sub.toNat e seg.length = some a →
            (Completes (.odWrite p index sub seg.length seg irq false wreg) s fun m => s.node.firstReply m =
          some (s.node.replyOn p ⟨2, false, false, index.toNat, sub.toNat, a, 0, seg.length, 0⟩ []))) ∧
          (∀ seg f, e.back = .shadow f → s.node.writeAbort p index.toNat sub.toNat e seg.length = none →
            inRange index.toNat sub.toNat e seg = true →
            s.node.transferElsewhere p index.toNat sub.toNat = false → s.node.dirty (groupOf f.addr) = false →
            s.node.goRefusal (groupOf f.addr) = none → Completes (.odWrite p index sub seg.length seg irq false wreg) s fun m =>
              m.shadowWord f.addr = f.put (s.node.shadowWord f.addr) (leNat seg) ∧
              m.vnt.odCommits = s.node.vnt.odCommits ++
                [⟨p, groupOf f.addr, [f.addr], irq, ⟨p, 2, false, index.toNat, sub.toNat, seg.length, false⟩⟩]) ∧
          (∀ (seg : List Byte) total, s.node.writeAbort p index.toNat sub.toNat e total = none →
            s.node.transferElsewhere p index.toNat sub.toNat = false → seg.length < total →
            Completes (.odWrite p index sub total seg irq false wreg) s fun m =>
              m.transferOf p = some ⟨p, index.toNat, sub.toNat, true, total, seg, firstToggle p, irq⟩ ∧
              s.node.firstReply m = some (s.node.replyOn p ⟨2, false, true, index.toNat, sub.toNat, 0, 0, total, 0⟩ [])))) ∧
      (∀ a, a ≠ 0 → s.node.odEntry index.toNat sub.toNat = .error a →
        (Completes (.odRead p index sub irq false regs) s fun m => s.node.firstReply m =
          some (s.node.replyOn p ⟨1, false, false, index.toNat, sub.toNat, a, 0, 0, 0⟩ [])) ∧
            (Completes (.odDescribe p index sub irq false) s fun m => s.node.firstReply m =
          some (s.node.replyOn p ⟨5, false, false, index.toNat, sub.toNat, a, 0, 0, 0⟩ []))) ∧
      (∀ total seg, (Completes (.odRead p index sub irq true regs) s fun m => s.node.firstReply m =
          some (s.node.replyOn p ⟨1, false, false, index.toNat, sub.toNat, 0xF, 0, 0, 0⟩ [])) ∧
            (Completes (.odWrite p index sub total seg irq true wreg) s fun m => s.node.firstReply m =
          some (s.node.replyOn p ⟨2, false, false, index.toNat, sub.toNat, 0xF, 0, total, 0⟩ [])) ∧
        (Completes (.odDescribe p index sub irq true) s fun m => s.node.firstReply m =
          some (s.node.replyOn p ⟨5, false, false, index.toNat, sub.toNat, 0xF, 0, 0, 0⟩ []))) ∧
      Completes (.odRead p index sub irq true regs) s fun m => s.node.Counts m CNT_OD_BUSY) ∧
    (∀ seg irq wreg, s.node.Serves p 0x1020 → (wreg = none ∨ pathKind p ≠ 4) → 2 ≤ s.node.roleOf p → seg.length ≤ 16 →
      s.node.transferElsewhere p 0x1020 1 = false → Completes (.odWrite p 0x1020#16 1#8 seg.length seg irq false wreg) s fun m =>
        m.vnt.uuid = seg ∧ m.vnt.storeDue = true ∧
        s.node.firstReply m = some (s.node.replyOn p ⟨2, false, false, 0x1020, 1, 0, 0, seg.length, 0⟩ [])) ∧
    (s.node.Serves p 0x2000 →
      (Completes (.odAbortTransfer p) s fun m => m.transferOf p = none ∧
        s.node.firstReply m = some (s.node.replyOn p ⟨4, false, false, 0, 0, 0, 0, 0, 0⟩ [])) ∧
      (∀ toggle seg irq, s.node.transferOf p = none → Completes (.odNextSegment p toggle seg irq false) s fun m =>
        s.node.firstReply m = some (s.node.replyOn p ⟨3, toggle, false, 0, 0, 0xD, 0, 0, 0⟩ [])) ∧
      (∀ t seg irq, s.node.transferOf p = some t →
        (Completes (.odNextSegment p t.toggle seg irq false) s fun m => m.transferOf p = none ∧
          s.node.firstReply m = some (s.node.replyOn p ⟨3, t.toggle, false, t.index, t.sub, 0xD, 0, t.total, 0⟩ [])) ∧
        (t.write = true → t.bytes.length + seg.length < t.total → Completes (.odNextSegment p (!t.toggle) seg irq false) s fun m =>
          m.transferOf p = some { t with bytes := t.bytes ++ seg, toggle := !t.toggle } ∧
          s.node.firstReply m = some (s.node.replyOn p ⟨3, !t.toggle, true, t.index, t.sub, 0, 0, t.total, 0⟩ [])) ∧
        (t.write = false → Completes (.odNextSegment p (!t.toggle) seg irq false) s fun m =>
          let k := min (segmentSize p) t.bytes.length
          s.node.firstReply m =
            some (s.node.replyOn p ⟨3, !t.toggle, decide (k < t.bytes.length), t.index, t.sub, 0, 0, t.total, k⟩ (t.bytes.take k))))) ∧
    (∀ t, s.node.transferOf p = some t → s.node.serverUp = true → (s.node.askOf p).boxed = false → (s.node.standby = true → pathKind p = 3 ∨
      pathKind p = 4) →
      p ≠ .register → Completes (.segmentTimeout p) s fun m =>
        m.transferOf p = none ∧ s.node.Counts m CNT_SEG_TIMEOUT ∧
        let q := s.node.askOf p
        s.node.firstReply m = some (s.node.replyOn p ⟨q.op, q.toggle, false, q.index, q.sub, 0xE, 0, q.total, 0⟩ [])) ∧
    (∀ (q : Fin 16) modbus index sub irq (k : Fin 1024) i j e, p = .type15 q modbus → s.node.Serves p 0x2000 →
      (s.node.mapEntry k).toOption = some (i, j, e) →
      s.node.readAbort p e = none → s.node.entryHeld e = false → i ≠ 0x1F00 →
      Completes (.odRead p index sub irq false (some (BitVec.ofNat 16 (0x1000 + 4 * k), 4#16))) s fun m =>
        (s.node.firstReply m).map (·.data) =
          some ([0, 1, 2, 3].flatMap fun r => natBe (mapPart e.size (leNat (s.node.odValue e)) r) 2))

/-- The commands of the maintenance path, the remote service and the mailboxes complete: a message without tags, or one with a right tag and
counter, which it advances, does what the command of its OP does on the path, and any other ends its connection (R488, R527); a remote request is
served, or turned away with an error and counted (R489). On a mailbox the outcome of an access stands in its status, with DONE set, BUSY clear, the
abort code and, after a read, the first segment and the length of the value, after a description its words (R484); a write of a shadow register
stays BUSY until its commit has ended (R102). Abandoning a transfer and a segment without one end at once (R482, R483). -/
def Obligations.MaintenancePathCommandsComplete : Prop :=
  ∀ s : State, s.node.serverUp = true →
    (∀ conn counter tagOk op toggle (index : Half) sub total data, s.node.pathOpen (.maint conn) index.toNat = true →
      ((s.node.sessionOf (.maint conn)).tagged = none →
        (s.node.serverFull = false → s.node.standby = false → op = 4#8 →
          Completes (.maintMessage conn counter tagOk op toggle index sub total data) s fun m =>
            m.transferOf (.maint conn) = none ∧
            s.node.firstReply m = some (s.node.replyOn (.maint conn) ⟨4, toggle, false, index.toNat, sub.toNat, 0, 0, total, 0⟩ [])) ∧
        (op = 1#8 → toggle = false → total = 0 → exec (.maintMessage conn counter tagOk op toggle index sub total data) s =
          exec (.odRead (.maint conn) index sub false false none) s) ∧
        (op = 2#8 → toggle = false → exec (.maintMessage conn counter tagOk op toggle index sub total data) s =
          exec (.odWrite (.maint conn) index sub total data false false none) s) ∧
        (∀ t, op = 3#8 → s.node.transferOf (.maint conn) = some t → t.index = index.toNat → t.sub = sub.toNat → t.total = total →
          exec (.maintMessage conn counter tagOk op toggle index sub total data) s =
            exec (.odNextSegment (.maint conn) toggle data false false) s) ∧
        (op = 5#8 → toggle = false → total = 0 → exec (.maintMessage conn counter tagOk op toggle index sub total data) s =
          exec (.odDescribe (.maint conn) index sub false false) s)) ∧
      ((s.node.sessionOf (.maint conn)).tagged ≠ none → tagOk = true →
        counter.toNat = (s.node.sessionOf (.maint conn)).lastCounter + 1 → s.node.serverFull = false → s.node.standby = false → op = 4#8 →
        Completes (.maintMessage conn counter tagOk op toggle index sub total data) s fun m =>
          (m.sessionOf (.maint conn)).lastCounter = counter.toNat ∧ m.transferOf (.maint conn) = none ∧
          (m.sessionOf (.maint conn)).sent = (s.node.sessionOf (.maint conn)).sent + 1 ∧
          s.node.firstReply m = some (s.node.replyOn (.maint conn) ⟨4, toggle, false, index.toNat, sub.toNat, 0, 0, total, 0⟩ [])) ∧
      ((s.node.sessionOf (.maint conn)).tagged ≠ none → tagOk = false ∨ counter.toNat ≠ (s.node.sessionOf (.maint conn)).lastCounter + 1 →
        Completes (.maintMessage conn counter tagOk op toggle index sub total data) s fun m =>
          m.sessionOf (.maint conn) = newSession (.maint conn) ∧ m.transferOf (.maint conn) = none ∧ s.node.Counts m CNT_MAINT_TAG)) ∧
    (∀ src write ofs len data, s.node.cf F.VNT_IP ≠ 0 → s.node.cfBit F.OD_CFG_REMOTE_EN = true → s.node.standby = false →
      (s.node.isPeer src = false ∨ remoteServed write ofs = false ∨ remoteServed write (ofs + len - 1) = false →
        Completes (.remoteRequest src write ofs len data) s fun m =>
          m.out = .remoteRefused src ofs :: s.node.out ∧ s.node.Counts m CNT_REMOTE_DROP) ∧
      (s.node.isPeer src = true → remoteServed false ofs = true → remoteServed false (ofs + len - 1) = true →
        Completes (.remoteRequest src false ofs len data) s fun m => m.out.head? = some (.reply (s.node.getSpan .maint ofs len).2.1)) ∧
      (s.node.isPeer src = true → remoteServed true ofs = true → remoteServed true (ofs + len - 1) = true →
        Completes (.remoteRequest src true ofs len data) s fun m =>
          m.out.head? = some (.reply []) ∧ m.store = (s.node.putSpan .maint ofs data).1.store)) ∧
    ∀ p b, pathBox p = some b → s.node.serverFull = false → s.node.bit (F.MBOX_BUSY.at b) = false →
      s.node.cutOff (if b < 4 then .host else .maint) = false → s.node.reaches (if b < 4 then .host else .maint) (boxBase b) = true →
      s.node.pathOpen p 0 = true →
      let shows (m : Node) (abort : Nat) : Prop :=
        m.bit (F.MBOX_DONE.at b) = true ∧ m.bit (F.MBOX_BUSY.at b) = false ∧ m.bit (F.MBOX_LOST.at b) = false ∧
        m.rd (F.MBOX_ABORT.at b) = abort % 256
      (∀ index sub irq,
        (∀ e, s.node.odEntry index.toNat sub.toNat = .ok e →
          (s.node.readAbort p e = none → s.node.entryHeld e = false → index ≠ 0x1F00 → index ≠ 0x2F30 →
            Completes (.odRead p index sub irq false none) s fun m =>
            shows m 0 ∧ m.rd (F.MBOX_TOTAL.at b) = (s.node.odValue e).length % 2 ^ 32 ∧
            m.rd (F.MBOX_SEGLEN.at b) = min 4096 (s.node.odValue e).length ∧
            m.bit (F.MBOX_MORE.at b) = decide (4096 < (s.node.odValue e).length) ∧
            m.bytes (boxData b) (min 4096 (s.node.odValue e).length) = (s.node.odValue e).take 4096) ∧
          (∀ a, a ≠ 0 → s.node.readAbort p e = some a → Completes (.odRead p index sub irq false none) s fun m => shows m a ∧
            s.node.Counts m CNT_OD_ABORT) ∧
          (Completes (.odDescribe p index sub irq false) s fun m => shows m 0 ∧
            m.word (boxBase b + 0x10) = BitVec.ofNat 32 (e.type + e.access * 2 ^ 8 + e.readRole * 2 ^ 10 + e.writeRole * 2 ^ 12 + e.cls * 2 ^ 14) ∧
            m.word (boxBase b + 0x14) = BitVec.ofNat 32 e.size) ∧
          (∀ seg a, isResponse index.toNat sub.toNat = false → a ≠ 0 → s.node.writeAbort p index.toNat sub.toNat e seg.length = some a →
            Completes (.odWrite p index sub seg.length seg irq false none) s fun m =>
            shows m a ∧ s.node.Counts m CNT_OD_ABORT) ∧
          (∀ seg f, isResponse index.toNat sub.toNat = false → e.back = .shadow f → s.node.writeAbort p index.toNat sub.toNat e seg.length = none →
            inRange index.toNat sub.toNat e seg = true →
            s.node.transferElsewhere p index.toNat sub.toNat = false → s.node.dirty (groupOf f.addr) = false →
            s.node.goRefusal (groupOf f.addr) = none → Completes (.odWrite p index sub seg.length seg irq false none) s fun m =>
              m.vnt.odCommits = s.node.vnt.odCommits ++ [⟨p, groupOf f.addr, [f.addr], irq, s.node.askOf p⟩] ∧ m.bit (F.MBOX_BUSY.at b) = true ∧
              m.bit (F.MBOX_DONE.at b) = false)) ∧
        (∀ a, a ≠ 0 → s.node.odEntry index.toNat sub.toNat = .error a → ∀ c ∈ [Instr.odRead p index sub irq false none,
          .odDescribe p index sub irq false],
          Completes c s fun m => shows m a ∧ s.node.Counts m CNT_OD_ABORT)) ∧
      (Completes (.odAbortTransfer p) s fun m => shows m 0 ∧ m.transferOf p = none) ∧
      (∀ toggle seg irq, s.node.transferOf p = none → Completes (.odNextSegment p toggle seg irq false) s fun m =>
        shows m 0xD ∧ s.node.Counts m CNT_OD_ABORT) ∧
      ∀ t toggle seg irq, s.node.transferOf p = some t → t.write = true → t.bytes.length + seg.length < t.total →
        Completes (.odNextSegment p toggle seg irq false) s fun m =>
          shows m 0 ∧ m.bit (F.MBOX_MORE.at b) = true ∧ m.transferOf p = some { t with bytes := t.bytes ++ seg, toggle := !t.toggle }

/-- The session and store commands complete: a challenge is given with the keys of its moment, a role is asked for, a right response raises the role
and a wrong one, or one on a locked path, ends with abort 0x12 (R478), a lock ends, sessions lapse and connections close (R479), the older copy of
the persistent store is written, and the other where that fails (R475), and restoring the defaults is asked for with the key 0x5E7D and waits for
the store (R475, R490). -/
def Obligations.SessionCommandsComplete : Prop :=
  ∀ (s : State) (p : Path),
    (pathBox p = none → s.node.Serves p 0x1F00 →
      (Completes (.authChallengeRead p) s fun m =>
        (m.sessionOf p).challenge = some (s.node.free 128) ∧
        (m.sessionOf p).keys = [s.node.roleKey 1, s.node.roleKey 2, s.node.roleKey 3] ∧
        (s.node.firstReply m).map (·.data) = some (natLe (s.node.free 128).toNat 16)) ∧
      (∀ role : Byte, s.node.transferElsewhere p 0x1F00 2 = false →
        (1 ≤ role.toNat → role.toNat ≤ 3 → Completes (.authRoleRequest p role) s fun m => (m.sessionOf p).asked = role.toNat) ∧
        (role.toNat = 0 → Completes (.authRoleRequest p role) s fun m => (m.sessionOf p).role = 0) ∧
        (3 < role.toNat → Completes (.authRoleRequest p role) s fun m =>
          s.node.firstReply m = some (s.node.replyOn p ⟨2, false, false, 0x1F00, 2, 7, 0, 1, 0⟩ []))) ∧
      (∀ response,
        (pathKind p ∈ s.node.vnt.authLocked → Completes (.authResponse p response) s fun m =>
          s.node.firstReply m = some (s.node.replyOn p ⟨2, false, false, 0x1F00, 3, 0x12, 0, 32, 0⟩ []) ∧
          m.word CNT_AUTH_FAIL = s.node.word CNT_AUTH_FAIL) ∧
        (∀ r key, pathKind p ∉ s.node.vnt.authLocked → (s.node.sessionOf p).expects = some (r, key) →
          (r = response → Completes (.authResponse p response) s fun m =>
            (m.sessionOf p).role = (s.node.sessionOf p).asked ∧ (m.sessionOf p).challenge = none ∧
            (s.node.firstReply m).map (·.header) = some ⟨2, false, false, 0x1F00, 3, 0, 0, 32, 0⟩) ∧
          (r ≠ response → Completes (.authResponse p response) s fun m =>
            s.node.firstReply m = some (s.node.replyOn p ⟨2, false, false, 0x1F00, 3, 0x12, 0, 32, 0⟩ []) ∧ s.node.Counts m CNT_AUTH_FAIL)))) ∧
    (pathBox p = none → s.node.Serves p 0x2D30 → 2 ≤ s.node.roleOf p → s.node.standby = false → s.node.transferElsewhere p 0x2D30 1 = false →
      ∀ v : Half,
      (v = 0x5E7D#16 → Completes (.restoreDefaults p v) s fun m =>
        m.vnt.restoreDue = true ∧ m.vnt.storeDue = true ∧ m.out = s.node.out ∧
        m.vnt.restores = s.node.vnt.restores ++ [⟨p, false, ⟨p, 2, false, 0x2D30, 1, 2, false⟩⟩]) ∧
      (v ≠ 0x5E7D#16 → Completes (.restoreDefaults p v) s fun m =>
        s.node.firstReply m = some (s.node.replyOn p ⟨2, false, false, 0x2D30, 1, 7, 0, 2, 0⟩ []))) ∧
    (Completes (.authLockExpiry p) s fun m => pathKind p ∉ m.vnt.authLocked ∧ m.store = s.node.store) ∧
    (s.node.serverUp = true → Completes (.sessionIdleLapse p) s fun m => (m.sessionOf p).role = 0) ∧
    (pathKind p = 4 ∨ pathKind p = 5 → Completes (.connectionClosed p) s fun m =>
      m.sessionOf p = newSession p ∧ m.transferOf p = none ∧ ∀ w ∈ m.vnt.odCommits, w.path ≠ p) ∧
    (∀ a b, s.node.powered = true → s.node.supply.firmware = true → s.node.supply.halted = false → s.node.vnt.storeDue = true →
      let seq := max s.node.vnt.storeA.seq s.node.vnt.storeB.seq + 1
      ((a || b) = true → Completes (.persistentStoreWrite a b) s fun m =>
        m.vnt.storeDue = false ∧ m.vnt.restoreDue = false ∧ m.vnt.restores = [] ∧ (s.node.vnt.restoreDue = true →
          m.vnt.uuid = List.replicate 16 0#8) ∧
        m.vnt.storeWrites = s.node.vnt.storeWrites + 1 ∧
        (s.node.vnt.olderIsA = true → a = true → m.vnt.storeA.seq = seq ∧ m.vnt.storeA.valid = true ∧ m.vnt.storeB = s.node.vnt.storeB) ∧
        (s.node.vnt.olderIsA = false → b = true → m.vnt.storeB.seq = seq ∧ m.vnt.storeB.valid = true ∧ m.vnt.storeA = s.node.vnt.storeA)) ∧
      (a = false → b = false → Completes (.persistentStoreWrite a b) s fun m =>
        m.vnt.storeDue = true ∧ m.vnt.restoreDue = false ∧ m.vnt.restores = [] ∧ m.vnt.storeWrites = s.node.vnt.storeWrites ∧
        m.vnt.uuid = s.node.vnt.uuid))
/-! ### The Cellar Book (file 18) -/

/-- The commands of the Cellar Book complete: recovery takes the later of two good pointer copies and the record whose update was lost, counts a
torn record, starts the power-cycle count once in a power cycle and sets READY (R73, R500), a record goes to the first free slot of the First
Pressing, whose last one is recorded, else to the head of the Last Pressing, which wraps (R496, R499), a report of lost records goes first (R504),
the pointer block is rewritten (R497), a bucket refills (R502), the book freezes and unfreezes on the key 0x1E4B, and nothing is written while it is
frozen (R505), and a readout shows its records, those it cannot read as all ones, and completes (R501, R506). -/
def Obligations.BookCommandsComplete : Prop :=
  ∀ s : State,
    (∀ goodA goodB torn lost, s.node.powered = true → s.node.bit F.CBK_STATUS_READY = false → s.node.supply.firmware = true →
      s.node.power ≠ .shutdown → Completes (.bookRecovery goodA goodB torn lost) s fun m =>
        m.bit F.CBK_STATUS_READY = true ∧ m.book.ptrB = m.book.ptrA ∧
        (goodA = true → goodB = true → lost = false →
          m.book.ptrA.fpCount = (laterPointer s.node.book.ptrA s.node.book.ptrB).fpCount ∧
          m.book.ptrA.lpHead = (laterPointer s.node.book.ptrA s.node.book.ptrB).lpHead ∧
          (s.node.book.recovered = false → m.book.pcc = ((laterPointer s.node.book.ptrA s.node.book.ptrB).pcc + 1) % 2 ^ 32)) ∧
        (goodA = true → goodB = true → lost = true → s.node.book.cut.isSome = true →
          (laterPointer s.node.book.ptrA s.node.book.ptrB).fpCount < 16384 →
          m.book.first.head? = s.node.book.cut ∧ m.book.ptrA.fpCount = (laterPointer s.node.book.ptrA s.node.book.ptrB).fpCount + 1) ∧
        (s.node.book.recovered = true → m.book.pcc = s.node.book.pcc) ∧ (torn = true → s.node.Counts m CNT_CBK_TORN)) ∧
    (s.node.powered = true → s.node.bit F.CBK_STATUS_READY = true → s.node.book.frozen = false →
      (∀ r rest, s.node.book.queue = r :: rest → s.node.book.lostReset = 0 → s.node.book.lostFull = 0 →
        (s.node.book.ptrA.fpCount < 16383 → Completes .recordWrite s fun m =>
          m.book.first = r :: s.node.book.first ∧ m.book.queue = rest ∧ m.book.ptrA.fpCount = s.node.book.ptrA.fpCount + 1) ∧
        (s.node.book.ptrA.fpCount = 16383 → Completes .recordWrite s fun m =>
          m.book.first = r :: s.node.book.first ∧ m.book.ptrA.fpCount = 16384 ∧ (s.node.Admits 0x0E04 → m.Logged 0x0E04 [])) ∧
        (16384 ≤ s.node.book.ptrA.fpCount → Completes .recordWrite s fun m =>
          SMap.get (fun _ => none) m.book.last s.node.book.ptrA.lpHead = some r ∧ m.book.queue = rest ∧
          if s.node.book.ptrA.lpHead + 1 = 98304 then
            m.book.ptrA.lpHead = 0 ∧ m.book.ptrA.lpWraps = s.node.book.ptrA.lpWraps + 1
          else m.book.ptrA.lpHead = s.node.book.ptrA.lpHead + 1 ∧ m.book.ptrA.lpWraps = s.node.book.ptrA.lpWraps)) ∧
      (s.node.book.lostReset ≠ 0 → s.node.book.ptrA.fpCount < 16383 → Completes .recordWrite s fun m =>
        m.book.first.head?.map (fun r => (r.code, r.payload)) = some (0x0E01, [s.node.book.lostReset, 2]) ∧ m.book.lostReset = 0 ∧
        m.book.queue = s.node.book.queue) ∧
      (s.node.book.lostReset = 0 → s.node.book.lostFull ≠ 0 → s.node.book.queue.length < 256 → s.node.book.ptrA.fpCount < 16383 →
        Completes .recordWrite s fun m =>
          m.book.first.head?.map (fun r => (r.code, r.payload)) = some (0x0E01, [s.node.book.lostFull, 1]) ∧ m.book.lostFull = 0 ∧
          m.book.queue = s.node.book.queue) ∧
      (Completes .pointerBlockTick s fun m =>
        m.book.ptrA.wseq = s.node.book.ptrA.wseq + 1#32 ∧ m.book.ptrB = m.book.ptrA ∧
        m.book.ptrA.fpCount = s.node.book.ptrA.fpCount ∧ m.book.ptrA.lpHead = s.node.book.ptrA.lpHead)) ∧
    (s.node.book.frozen = true → ∀ c ∈ [Instr.recordWrite, .pointerBlockTick], Completes c s fun m => m = s.node) ∧
    (∀ code : Half, s.node.powered = true → Completes (.tokenRefill code) s fun m =>
      m.missing code.toNat = s.node.missing code.toNat - 1 ∧ m.store = s.node.store) ∧
    (∀ by_, s.node.Reaches by_ 0xE →
      (Completes (.cbkCmdFreeze by_ 0x1E4B#16 false false) s fun m => m.book.frozenCmd = true) ∧
      (Completes (.cbkCmdFreeze by_ 0x1E4B#16 true false) s fun m => m.book.frozenCmd = s.node.book.frozenCmd) ∧
      (Completes (.cbkCmdUnfreeze by_ 0x1E4B#16 false) s fun m => m.book.frozenCmd = false) ∧
      (∀ key, key ≠ 0x1E4B#16 → ∀ u r, Completes (.cbkCmdFreeze by_ key u r) s fun m => m.book.frozenCmd = s.node.book.frozenCmd) ∧
      (∀ unreadable, s.node.bit F.CBK_STATUS_RD_BUSY = false → s.node.rd F.READ_COUNT ≠ 0 →
        Completes (.cbkCmdRead by_ 0x1E4B#16 unreadable) s fun m =>
          m.bit F.CBK_STATUS_RD_BUSY = true ∧ m.book.readout = true ∧ m.book.first = s.node.book.first ∧ m.book.last = s.node.book.last ∧
          ∀ i k, i < s.node.rd F.READ_COUNT → i < 256 → k < 16 → unreadable = [] → m.word (0xE10000 + 64 * i + 4 * k) =
            if s.node.book.bad (s.node.bit F.READ_CFG_AREA) (s.node.rd F.READ_CFG_START + i) then 0xFFFFFFFF#32
            else (recordWords (s.node.book.at (s.node.bit F.READ_CFG_AREA) (s.node.rd F.READ_CFG_START + i))).getD k 0#32)) ∧
    (s.node.bit F.CBK_STATUS_RD_BUSY = true → Completes .readoutComplete s fun m =>
      m.bit F.CBK_STATUS_RD_BUSY = false ∧ m.book.readout = false) ∧
    (s.node.book.frozenCmd = true → s.node.Admits 0x0E03 → Completes .freezeLimitExpiry s fun m =>
      m.book.frozenCmd = false ∧ m.Logged 0x0E03 [])

/-! ### The vault (file 19) -/

/-- The update commands complete: a session opens on a slot that is not in force, else with LAST_ERR 0x10 (R521, R525), chunks enter the slot and
advance UPD_NEXT, FINISH starts the verification, and its end makes the slot valid, or refused with the reason of the Vintage in it (R516, R517,
R521); a session ends early with its slot empty, a valid slot goes on trial by a warm reset, not in a session (R522, R525), a trial is confirmed
(R523), and its timer falls back (R524). -/
def Obligations.UpdateCommandsComplete : Prop :=
  ∀ (s : State) (path : Path), s.node.powered = true → s.node.islandDown 8 = false →
    (∀ slotB, s.node.updDenied path = none →
      (s.node.vault.session = none → s.node.slotInForce ≠ some (if slotB then 1 else 0) → Completes (.updOpen path 0x9A47#16 slotB) s fun m =>
        m.vault.session = some ⟨path, if slotB then 1 else 0⟩ ∧ m.slotState (if slotB then 1 else 0) = 1 ∧ m.rd F.UPD_NEXT = 0 ∧
        m.rd F.SEC_STATUS_SESSION = sessionCode path) ∧
      (s.node.vault.session ≠ none →
        (Completes (.updOpen path 0x9A47#16 slotB) s fun m => m.vault = s.node.vault ∧ m.rd F.SEC_STATUS_LAST_ERR = 0x10) ∧
        Completes (.updActivate path 0x9A47#16 slotB) s fun m => m.vault = s.node.vault ∧ m.rd F.SEC_STATUS_LAST_ERR = 0x11) ∧
      (s.node.ownsSession path = true →
        (∀ u ofs (bytes : List Byte), s.node.vault.session = some u → bytes.length ≤ 4096 → ofs + bytes.length ≤ slotSize →
          ofs = s.node.rd F.UPD_NEXT → Completes (.updChunk path ofs bytes) s fun m =>
            m.rd F.UPD_NEXT = ofs + bytes.length ∧ m.store.ram = SMap.putBytes s.node.store.ram (slotBase u.slot + ofs)
              (if path = .register then s.node.bytes chunkBuffer bytes.length else bytes)) ∧
        (Completes (.updFinish path 0x9A47#16 slotB) s fun m =>
          m.vault.verifying = s.node.vault.session.map (·.slot) ∧ m.bit F.SEC_STATUS_BUSY = true) ∧
        (Completes (.updAbort path 0x9A47#16 slotB) s fun m => m.vault.session = none ∧ m.vault.verifying = none)) ∧
      (∀ k, k = (if slotB then 1 else 0) → s.node.vault.session = none → s.node.slotState k = 2 → s.node.slotIn 3 = none →
        s.node.canRestart = true → Completes (.updActivate path 0x9A47#16 slotB) s fun m =>
          m.power = .run ∧ m.supply.warm = true ∧ m.supply.firmware = false ∧ m.slotState k = 3) ∧
      (∀ k, s.node.slotIn 3 = some k → s.node.vault.trialSince ≠ none → Completes (.updConfirm path 0x9A47#16 slotB) s fun m =>
        m.vault.trialSince = none ∧ m.vault.fwTrial = none ∧ m.slotState k = 4)) ∧
    (∀ k why, s.node.vault.verifying = some k →
      (s.node.slotRefusal k why = none → Completes (.slotVerifyDone why) s fun m =>
        m.vault.session = none ∧ m.vault.verifying = none ∧ m.slotState k = 2 ∧ m.rd F.SEC_STATUS_SESSION = 0 ∧
        m.slotHeader k = s.node.readHeader k) ∧
      (∀ r, s.node.slotRefusal k why = some r → Completes (.slotVerifyDone why) s fun m =>
        m.vault.session = none ∧ m.slotState k = 5 ∧ m.rd F.SEC_STATUS_LAST_ERR = r ∧
        s.node.Counts m (if r = 5 then CNT_SEC_ROLLBACK else CNT_SEC_SIG_FAIL))) ∧
    (∀ u, s.node.vault.session = some u → s.node.vault.verifying = none → Completes .updSessionTimeout s fun m =>
      m.vault.session = none ∧ m.slotState u.slot = 0 ∧ s.node.Counts m CNT_UPD_ABORT) ∧
    (s.node.vault.trialSince ≠ none → s.node.slotIn 3 ≠ none → s.node.canRestart = true → Completes .trialTimerExpiry s fun m =>
      m.power = .run ∧ m.supply.warm = true ∧ m.supply.firmware = false)

/-- The key and attestation commands complete: an owner-change record that passes its checks fills or empties its slot, and one that fails, or would
empty the last filled slot, is counted (R511), a session at a role writes the key of its role or one below (R512), and a quote is asked for, becomes
ready and is read (R528). -/
def Obligations.KeyCommandsComplete : Prop :=
  ∀ (s : State) (path : Path), s.node.powered = true → s.node.islandDown 8 = false →
    (∀ (signer slot : Fin 4) key counter edOk mlOk, 2 ≤ s.node.roleOf path → s.node.standby = false →
      (s.node.owner signer ≠ none → edOk = true → mlOk = true → counter = s.node.rollback 16 + 1 →
        (key ≠ none ∨ ∃ k : Fin 4, k ≠ slot ∧ s.node.owner k ≠ none) →
        Completes (.ownerChangeRecord path signer slot key counter edOk mlOk) s fun m => m.owner slot = key) ∧
      (s.node.owner signer = none ∨ edOk = false ∨ mlOk = false →
        Completes (.ownerChangeRecord path signer slot key counter edOk mlOk) s fun m =>
          m.vault.owners = s.node.vault.owners ∧ s.node.Counts m CNT_SEC_SIG_FAIL) ∧
      (s.node.owner signer ≠ none → edOk = true → mlOk = true → counter ≠ s.node.rollback 16 + 1 →
        Completes (.ownerChangeRecord path signer slot key counter edOk mlOk) s fun m =>
          m.vault.owners = s.node.vault.owners ∧ s.node.Counts m CNT_SEC_ROLLBACK) ∧
      (s.node.owner signer ≠ none → edOk = true → mlOk = true → counter = s.node.rollback 16 + 1 → key = none →
        (∀ k < 4, k ≠ slot.val → s.node.owner k = none) → Completes (.ownerChangeRecord path signer slot key counter edOk mlOk) s fun m =>
          m.vault.owners = s.node.vault.owners ∧ s.node.Counts m CNT_SEC_SIG_FAIL)) ∧
    (∀ (role : Fin 4) key, 1 ≤ role.val → role.val ≤ 2 → role.val ≤ s.node.roleOf path → s.node.standby = false →
      Completes (.roleKeyWrite path role key) s fun m =>
      m.roleKey role = key ∧ m.roleKey 3 = s.node.roleKey 3) ∧
    (∀ nonce, s.node.standby = false → Completes (.attestNonceWrite path nonce) s fun m => m.vault.quote = some ⟨nonce, false, []⟩) ∧
    (∀ q, s.node.vault.quote = some q → q.ready = false → Completes .attestQuoteReady s fun m =>
      m.quoteReady = some (s.node.quoteBody q.nonce ++ Config.quoteSignatures (s.node.quoteBody q.nonce))) ∧
    (pathBox path = none → path ≠ .register → (s.node.standby = true → pathKind path = 3 ∨ pathKind path = 4) →
      (s.node.quoteReady = none → Completes (.attestQuoteRead path) s fun m =>
        s.node.firstReply m = some (s.node.replyOn path ⟨1, false, false, 0x2F30, 2, 0xF, 0, 0, 0⟩ [])) ∧
      (∀ b, s.node.quoteReady = some b → Completes (.attestQuoteRead path) s fun m =>
        let k := firstSegment path b.length
        s.node.firstReply m = some (s.node.replyOn path ⟨1, false, decide (k < b.length), 0x2F30, 2, 0, 0, b.length, k⟩ (b.take k))))
/-! ### Maintenance (file 20) -/

/-- The maintenance commands complete: the stop is requested with the key 0x5C71 or refused with its code, entered with the Trellis stopped,
followed by the memory test and its result, and left by a warm reset (R538, R539, R541), a port sends its frames in loopback until it is done or
stopped, no more counted than were sent (R537), and a TAP instruction acts (R540). -/
def Obligations.MaintenanceCommandsComplete : Prop :=
  ∀ s : State,
    (∀ by_, s.node.Reaches by_ 0 →
      (s.node.maint.stopped = false → s.node.maint.requested = false →
        (s.node.mstopRefusal = none → Completes (.mstopCmdEnter by_ 0x5C71#16) s fun m =>
          m.maint.requested = true ∧ m.rd F.MSTOP_STATUS_PHASE = 1) ∧
        (∀ c, s.node.mstopRefusal = some c → Completes (.mstopCmdEnter by_ 0x5C71#16) s fun m =>
          m.maint = s.node.maint ∧ m.rd F.MSTOP_STATUS_REFUSE = c)) ∧
      (s.node.maint.stopped = true → s.node.canRestart = true → Completes (.mstopCmdExit by_ 0x5C71#16) s fun m =>
        m.power = .run ∧ m.supply.warm = true ∧ m.maint.stopped = false) ∧
      (∀ (port : Fin 16) (v : Word), F.LOOP_CMD_MODE.get v = 1 → s.node.bit (F.LOOP_RESULT_BUSY.at port) = false →
        (s.node.loopRefused port = false → Completes (.loopCmdGo by_ port v) s fun m =>
          (m.port port).loopback = true ∧ m.bit (F.LOOP_RESULT_BUSY.at port) = true ∧ m.rd (F.LOOP_BAD.at port) = 0 ∧
          .pattern port (portMac port) (loopFrames v) (s.node.loopLen port v) ∈ m.out ∧ m.linkUp port = false) ∧
        (s.node.loopRefused port = true → Completes (.loopCmdGo by_ port v) s fun m => m.ports = s.node.ports)) ∧
      (∀ port : Fin 16, s.node.bit (F.LOOP_RESULT_BUSY.at port) = true → Completes (.loopCmdStop by_ port) s fun m =>
        (m.port port).loopback = false ∧ m.bit (F.LOOP_RESULT_BUSY.at port) = false ∧ m.bit (F.LOOP_RESULT_DONE.at port) = true ∧
        m.bit (F.LOOP_RESULT_ABORTED.at port) = true)) ∧
    (s.node.maint.requested = true → s.node.power = .run → Completes .mstopEntry s fun m =>
      m.maint.stopped = true ∧ m.maint.requested = false ∧ m.rd F.MSTOP_STATUS_PHASE = 2 ∧ m.bit F.TRL_STATUS_RUNNING = false ∧
      (s.node.standby = true → m.bit F.RED_STATUS_RACK_UP = false)) ∧
    (∀ failed bad, s.node.maint.stopped = true → s.node.rd F.MSTOP_STATUS_PHASE = 2 → Completes (.mstopMemtestDone failed bad) s fun m =>
      m.rd F.MSTOP_STATUS_PHASE = 3 ∧ m.maint.stopped = true ∧ (failed = [] → m.rd F.MSTOP_STATUS_FAIL_BLOCKS = 0) ∧
      (∀ e rest, failed = e :: rest → m.rd F.MTEST_ADDR = e.2 % 2 ^ 32 ∧ m.rd F.MSTOP_STATUS_FAIL_BLOCKS / 2 ^ e.1.val % 2 = 1)) ∧
    (∀ (port : Fin 16) ok bad, s.node.bit (F.LOOP_RESULT_BUSY.at port) = true → (s.node.port port).loopCount < 2 ^ 20 →
      Completes (.loopbackDone port ok bad) s fun m =>
      (m.port port).loopback = false ∧ m.bit (F.LOOP_RESULT_BUSY.at port) = false ∧ m.bit (F.LOOP_RESULT_DONE.at port) = true ∧
      m.bit (F.LOOP_RESULT_ABORTED.at port) = false ∧
      m.rd (F.LOOP_RESULT_OK.at port) = min ok (s.node.port port).loopCount ∧
      m.rd (F.LOOP_BAD.at port) = min bad ((s.node.port port).loopCount - min ok (s.node.port port).loopCount)) ∧
    (∀ code, s.node.powered = true →
      (s.node.supply.recovery = true ∨ s.node.maint.stopped = true → Completes (.tapInstruction code) s fun m =>
        m.maint.tap = code ∧ (code = .idcode → m.out = .idcode 0xB9640C6B#32 :: s.node.out)) ∧
      (s.node.supply.recovery = false → s.node.maint.stopped = false → Completes (.tapInstruction code) s fun m =>
        m.maint.tap = tapOutside code ∧ (code = .idcode → m.out = .idcode 0xB9640C6B#32 :: s.node.out)))

/-! ### The step, the state after reset, and what holds of every command -/

/-- Tier 1. A step takes the command at the front of the queue and is exec of it with the queue's rest. -/
def Obligations.StepRunsTheFrontCommand : Prop :=
  ∀ (c : Instr) (rest : List Instr) (s : State), s.pending = c :: rest → step s = exec c { s with pending := rest }

/-- Tier 1. On an empty queue one 2 ns clock of the time base passes while the node is powered, and nothing else happens, but that group 0x11 takes
effect where its base-cycle start has come and fabric slot 0 starts at that clock (R133). That the clock passes then is the model's choice (log
entry 6). -/
def Obligations.EmptyQueuePassesOneClock : Prop :=
  ∀ s : State, s.pending = [] →
    let n := { s.node with time := { s.node.time with raw := s.node.time.raw + 1#64 } }
    (s.node.powered = true → (∀ alone, s.node.phase 0x11 = .slotZero alone → n.slotZero = false) → step s = .next { s with node := n }) ∧
    (∀ alone, s.node.powered = true → s.node.phase 0x11 = .slotZero alone → n.slotZero = true →
      ∃ t, step s = .next t ∧ t.pending = [] ∧ t.node.time = n.time ∧ t.node.phase 0x11 = .idle ∧
        t.node.rd (commitCode (commitAddr 0x11)) = 0 ∧ ∀ a, groupOf a = 0x11 → t.node.forceWord a = s.node.shadowWord a) ∧
    (s.node.powered = false → step s = .next s)

/-- Tier 1. Right after reset the node is off with no command waiting, its maps are in canonical form, its identity registers and the first rows of
the TRL, SWC and VNT tables read as their Reset columns say, every channel is off, and nothing is recorded or open. -/
def Obligations.ResetLeavesTheStatedValues : Prop :=
  let n := State.reset.node
  State.reset.pending = [] ∧ n.power = .off ∧ n.store.wf = true ∧ n.word 0x0 = 0x4B589640#32 ∧ n.word 0x4 = 0xB1#32 ∧
  n.sf F.BASE_CYCLE = 1000 ∧ n.cf F.HYPER_PERIOD = 1000 ∧ n.word 0x100 = 0xFFFFFFFF#32 ∧ n.time.raw = 0#64 ∧
  n.book.queue = [] ∧ n.book.first = [] ∧ n.out = [] ∧ n.faults = [] ∧ n.vault.session = none ∧ n.cellar.copies = [] ∧
  ∀ c < 24, (n.chan c).on = false

/-- Tier 3. From every state whose maps of registers, shadows, values in force and buffer memory are in canonical form, every step leads to such a
state. -/
def Obligations.StepsKeepTheStoreCanonical : Prop :=
  ∀ s t : State, s.node.store.wf = true → step s = .next t → t.node.store.wf = true

/-- Tier 3. No step erases or rewrites a record of the First Pressing: the records there only gain newer ones (R496). Stated of states with
canonical maps; that every step keeps those is `StepsKeepTheStoreCanonical`. -/
def Obligations.FirstPressingIsNeverRewritten : Prop :=
  ∀ s t : State, s.node.store.wf = true → step s = .next t → ∃ newer, t.node.book.first = newer ++ s.node.book.first

/-- Tier 3. No step changes the vendor's role key (R512). -/
def Obligations.VendorKeyNeverChanges : Prop :=
  ∀ s t : State, s.node.store.wf = true → step s = .next t → t.node.roleKey 3 = s.node.roleKey 3

/-- Tier 3, the frame of all commands: where a command answers a next state, the queue is as it was, and every part of the node that its row of
`touches` does not name is unchanged: components, registers, shadows, values in force and every byte of buffer memory. -/
def Obligations.CommandsChangeOnlyTheirParts : Prop :=
  ∀ (c : Instr) (s t : State), exec c s = .next t →
    t.pending = s.pending ∧ ∀ p : Part, p ∉ touches c → s.node.Same p t.node

/-- An event occurrence that finds a token enters the queue with its code, its payload and the pending count, which returns to 0, and takes a token
where the depth is not 0; it stands behind the records queued before it, but before those of its own clock with a greater code (R504). One that
finds no token is counted as suppressed and adds to the pending count (R502); one that finds the queue full is counted as lost (R504). Its vector
fires in every case (R502). That one clock is one value of the raw counter is the model's reading (log entry 67). -/
def Obligations.EventsAreAdmittedByTokens : Prop :=
  ∀ (n : Node) (code : Nat) (payload : List Nat),
    (n.Admits code →
      (∃ r front back, (n.raise code payload).book.queue = front ++ r :: back ∧ n.book.queue = front ++ back ∧ r.code = code ∧
        r.payload = payload ∧ r.suppr = min (n.suppressed code) 65535 ∧ r.raw = n.now ∧ r.spec = (n.standby && preExecuted code) ∧
        (∀ x ∈ front, x.raw = n.now → x.code ≤ code) ∧ (∀ x, back.head? = some x → x.raw = n.now ∧ code < x.code)) ∧
      (n.raise code payload).suppressed code = 0 ∧ (n.raise code payload).store = n.store ∧
      (n.cf (F.RATE_DEPTH.at code) ≠ 0 → (n.raise code payload).missing code = n.missing code + 1)) ∧
    (n.cf (F.RATE_DEPTH.at code) ≠ 0 → n.cf (F.RATE_DEPTH.at code) ≤ n.missing code →
      (n.raise code payload).book.queue = n.book.queue ∧ (n.raise code payload).suppressed code = n.suppressed code + 1 ∧
      n.Counts (n.raise code payload) CNT_CBK_SUPPR ∧ (n.raise code payload).missing code = n.missing code) ∧
    ((n.cf (F.RATE_DEPTH.at code) = 0 ∨ n.missing code < n.cf (F.RATE_DEPTH.at code)) → 256 ≤ n.book.queue.length →
      (n.raise code payload).book.queue = n.book.queue ∧ n.Counts (n.raise code payload) CNT_CBK_QOVF ∧
      (n.raise code payload).book.lostFull = n.book.lostFull + 1) ∧
    (∀ v, vectorOf code = some v → n.host.inReset = false →
      (n.raise code payload).host.fires = n.host.fires ++ [⟨v, code, 0, 0, n.now⟩])

/-- A field of a container that is written and lies within it reads back as the value written, with either byte order, and the container keeps its
length and every byte outside the spanned ones (R333). -/
def Obligations.BlendFieldsReadBack : Prop :=
  ∀ (data : List Byte) (ofs len : Nat) (big : Bool) (v : Nat), ofs / 8 + fieldBytes ofs len ≤ data.length →
    fieldGet (fieldPut data ofs len big v) ofs len big = v % 2 ^ len ∧
    (fieldPut data ofs len big v).length = data.length ∧
    ∀ k, (k < ofs / 8 ∨ ofs / 8 + fieldBytes ofs len ≤ k) → (fieldPut data ofs len big v)[k]? = data[k]?

/-- The high word of a 64-bit value that an initiator reads, at its register or in the mirror of a register that has a shadow, is the one it latched
last, or 0 if it has latched none; a low word's read latches its high word for that initiator, and no read of another initiator disturbs its latch
(R6, R88, R91). Which pairs of words are such values is the model's reading (log entry 47). -/
def Obligations.HighWordsComeFromTheReadersLatch : Prop :=
  ∀ (n : Node) (by_ : Initiator) (a : Nat), n.place a = .word a → windowOf a = none → timeView a = none → rowHas a (·.rc) = false →
    (a < 0xA00220 ∨ 0xA0022C < a) →
    (isHighWord a = true →
      (n.readWord by_ a false).2 = SMap.get (fun _ => 0#32) n.hiLatch (initiatorIx by_) ∧ (n.readWord by_ a false).1.hiLatch = n.hiLatch) ∧
    (isHighWord a = false → isLowWord a = true →
      (n.readWord by_ a false).2 = n.peek a ∧
      SMap.get (fun _ => 0#32) (n.readWord by_ a false).1.hiLatch (initiatorIx by_) = n.peek (a + 4)) ∧
    (∀ b x, n.place b = .mirror x → windowOf b = none → timeView b = none → (x < 0xA00220 ∨ 0xA0022C < x) →
      (rowHas x (·.sh != 0) = true → isHighWord x = true →
        (n.readWord by_ b false).2 = SMap.get (fun _ => 0#32) n.hiLatch (initiatorIx by_)) ∧
      (rowHas x (·.sh != 0) = true → isHighWord x = false → isLowWord x = true →
        SMap.get (fun _ => 0#32) (n.readWord by_ b false).1.hiLatch (initiatorIx by_) = n.peek (b + 4)) ∧
      (rowHas x (·.sh != 0) = false → (n.readWord by_ b false).2 = n.peek b)) ∧
    (∀ (other : Initiator) (x : Nat) same, initiatorIx other ≠ initiatorIx by_ →
      SMap.get (fun _ => 0#32) (n.readWord other x same).1.hiLatch (initiatorIx by_) = SMap.get (fun _ => 0#32) n.hiLatch (initiatorIx by_)) ∧
    SMap.get (fun _ => 0#32) Node.unpowered.hiLatch (initiatorIx by_) = 0#32

/-- A corrected SRAM error of a Press is counted; an uncorrectable one of a running Press is a Press fault with cause 3 (R270): counted, and, with
AUTO_RELOAD clear, it leaves the Press failed, and with it set and fewer than three reloads used, loading again (R292). -/
def Obligations.PressSramErrors : Prop :=
  ∀ (s : State) (p : Fin 16), s.node.powered = true → s.node.islandDown 3 = false →
    (∀ ns, Completes (.pressFault p .sramCorrected ns) s fun m => s.node.Counts m (CNT_SRAM_CORR p)) ∧
    (∀ ns, s.node.pressState p = 2 → (s.node.press p).stopWaits = none → s.node.slotIn 3 = none → Completes (.pressFault p .sram ns) s fun m =>
      m.rd (F.PRESS_STATE_LAST_CAUSE.at p) = 3 ∧ s.node.Counts m (CNT_PRS_FAULT p) ∧
      (s.node.cfBit (F.PRESS_CFG_AUTO_RELOAD.at p) = false → m.pressState p = 5 ∧ FaultCause.press p ∈ m.faults) ∧
      (s.node.cfBit (F.PRESS_CFG_AUTO_RELOAD.at p) = true → s.node.autoUsed p < 3 → m.pressState p = 1))

/-! ### Frames, register by register. Every word of the register map outside the list is unchanged, and so are all shadows, values in force and
buffer memory. The parts beside the store are in `CommandsChangeOnlyTheirParts`. -/

/-- What the supply, sensor, output and link commands leave alone. -/
def Obligations.SupplyOutputAndLinkFrames : Prop :=
  ∀ (s t : State) (sensor : Fin 8) (rail : Fin 12) (ch : Fin 24) (port : Fin 16) (lane : Fin 4) (half : Fin 2) (x mv : Nat) (ti tj : Int)
    (w : Half) (b a : Bool) (info : PhyInfo) (why : LinkFailure) (es : List (Fin 24 × Nat)),
    ∀ e ∈ [(Instr.dipStart w, [F.VBATT_MV.addr, CNT_HOLDUP_LOW] ++ eventWords), (.dipEnd x mv w, [F.VBATT_MV.addr, CNT_DIP] ++ eventWords),
        (.interruptionStart w, [F.VBATT_MV.addr, CNT_HOLDUP_LOW] ++ eventWords), (.interruptionRiddenThrough w, [F.VBATT_MV.addr,
          CNT_INTERRUPT] ++ eventWords),
        (.holdupReady w, [F.HOLDUP_MV.addr, F.PWR_STATUS_HOLDUP_RDY.addr]), (.holdupNotReady w, [F.HOLDUP_MV.addr, F.PWR_STATUS_HOLDUP_RDY.addr]),
        (.dieTempHigh sensor w b, (F.DIE_T.at sensor).addr :: eventWords),
        (.railExcursion rail w b, [(F.RAIL_MV.at rail).addr, CNT_RAIL_EXC] ++ eventWords), (.railRecovered rail w, [(F.RAIL_MV.at rail).addr]),
        (.vintnerSramError b, [CNT_VNT_SRAM_CORR]), (.retryStart ch, [CNT_RETRY ch]), (.inrushWindowClose ch b x, [CNT_CLAMP_LOCK ch,
          CNT_INRUSH_FAIL ch] ++ eventWords),
        (.retryWindowClose ch, CNT_INRUSH_FAIL ch :: eventWords), (.thermalLatchRelease ch ti tj, eventWords),
        (.retryAttemptFail ch x, [CNT_CLAMP_LOCK ch, CNT_INRUSH_FAIL ch] ++ eventWords),
        (.thermalLatchSet ch ti tj x, [CNT_CLAMP_LOCK ch, CNT_INRUSH_FAIL ch, CNT_THERM_TRIP ch] ++ eventWords),
        (.openLoadDetect ch, CNT_OPEN_LOAD :: eventWords), (.stbDetect ch, CNT_STB :: eventWords), (.outHoldExpiry es,
          CNT_FAILSTATE :: channels.map (CNT_CLAMP_LOCK ·) ++ eventWords),
        (.vloadLow b mv, [F.OUT_STATUS_LOW_A.addr, CNT_VLOAD_LOW] ++ eventWords), (.vloadRecover b, [F.OUT_STATUS_LOW_A.addr]),
        (.vloadNoSupply b a, [F.OUT_STATUS_LOW_A.addr]), (.phyLinkOk port info, [(F.LINK_STATUS_SPEED.at port).addr,
          CNT_LINK_GLITCH port] ++ eventWords),
        (.linkAttemptFailed port why, [(F.LINK_STATUS_HALF.at port).addr, CNT_LINK_GLITCH port] ++ eventWords),
        (.wakeEmissionEnd lane, [0x300014]), (.lateCollision half, CNT_LATE_COLL (14 + half.val) :: eventWords)] ++
        (if s.node.supply.hotStop then [] else [(.baseplate88c w, F.BASE_T.addr :: eventWords)]),
      exec e.1 s = .next t → s.node.OnlyWords t.node e.2

/-- What the time, Trellis, CAN, Book and vault commands leave alone. -/
def Obligations.TimeCanAndBookFrames : Prop :=
  ∀ (s t : State) (by_ : Initiator) (key tag : Half) (id : Byte) (c : Fin 8) (frame : CanFrame) (kind : CanError) (x y : Nat)
    (b1 b2 b3 : Bool) (init : Option Initiator) (why : Option VintageFault),
    let canWords := [(F.CAN_STATUS_STATE.at c).addr, (F.ERR_CNT_TEC.at c).addr]
    ∀ e ∈ [(Instr.clk10Loss, [F.TIME_STATUS_CLK10_OK.addr, CNT_CLK10_LOSS] ++ eventWords), (.clk10Return, [F.TIME_STATUS_CLK10_OK.addr]),
        (.ppsInMissing, [F.TIME_STATUS_PPS_IN_OK.addr, CNT_PPS_MISS] ++ eventWords), (.activeTimeSlewEnd, [F.TIME_STATUS_SLEWING.addr]),
        (.trellisSlewEnd, [F.PHASE_ERR_ERR.addr, F.TRL_STATUS_PHASE_STATE.addr]), (.scheduleBankCopyDone, [F.TRL_STATUS_TBL_BUSY.addr]),
        (.blendBankCopyDone, [F.BLD_STATUS_TBL_BUSY.addr]), (.hostIrq x, [F.IRQ_TAG_TAG.addr]),
        (.actionComplete x y, [F.OVERRUN_LAST_ENTRY.addr, CNT_WINDOW_OVERRUN] ++ eventWords),
        (.testSuspended id, [0x400 + 4 * id.toNat, CNT_TEST_FAIL] ++ eventWords), (.canTxPush c tag frame, [CNT_CAN_TX_FULL c]),
        (.canTxCancel c tag b1, [CNT_CAN_CANCEL c]), (.canArbLost c b1 b2, [CNT_CAN_ARB_LOST c]),
        (.canErrorDetected c kind b1 b2 b3 x y,
          canWords ++ [(F.IDC_ID.at c).addr, CNT_CAN_BUSOFF c, CNT_CAN_IDCOLL c, CNT_CAN_TX_ERR c, CNT_CAN_RX_ERR c] ++ eventWords),
        (.canRecoveryDone c, canWords ++ eventWords), (.canIntegrated c, canWords),
        (.canCmdClearIdc by_ key c, (F.CAN_STATUS_IDC.at c).addr :: accessWords),
        (.canCmdRecover init key c, canWords ++ accessWords ++ eventWords),
        (.recordWrite, [F.FP_COUNT.addr, F.LP_HEAD.addr, F.LP_WRAPS.addr, F.RUN_S.addr, F.RUN_MS.addr, F.PCC.addr] ++ eventWords),
        (.pointerBlockTick, [F.FP_COUNT.addr, F.LP_HEAD.addr, F.LP_WRAPS.addr, F.RUN_S.addr, F.RUN_MS.addr, F.PCC.addr]),
        (.readoutComplete, [F.CBK_STATUS_RD_BUSY.addr]), (.freezeLimitExpiry, eventWords), (.attestQuoteReady, eventWords),
        (.updSessionTimeout, [F.SEC_STATUS_BUSY.addr, CNT_UPD_ABORT] ++ eventWords),
        (.slotVerifyDone why, [F.SEC_STATUS_BUSY.addr, CNT_SEC_ROLLBACK, CNT_SEC_SIG_FAIL] ++ eventWords)],
      exec e.1 s = .next t → s.node.OnlyWords t.node e.2

/-- What the redundancy, message, commit, host and maintenance commands leave alone. -/
def Obligations.PairHostAndMaintenanceFrames : Prop :=
  ∀ (s t : State) (by_ : Initiator) (key : Half) (group lead x ok bad : Nat) (addr : DWord) (read : DeviceRead) (session : Fin 256)
    (cycle : BitVec 13)
    (partner : DWord) (speed width : Fin 4) (port : Fin 16) (code : TapCode),
    ∀ e ∈ [(Instr.rackLinkDown, [F.RED_STATUS_RACK_UP.addr, CNT_RACK_DOWN] ++ eventWords), (.leaseExpiry, F.RED_STATUS_SYNC.addr :: eventWords),
        (.holdDisagree, CNT_HOLD_DISAGREE :: eventWords), (.holdOutRelease, [F.RED_STATUS_HOLD_OUT.addr]),
        (.claimTimeout, [F.RED_STATUS_STATE.addr]),
        (.digestCompare cycle partner, [0xC00020, 0xC00024, 0xC00028, 0xC0002C, F.DIGEST_IDX.addr, F.RED_STATUS_IN_STEP.addr,
          CNT_DIGEST_MISMATCH] ++ eventWords),
        (.replierTimeout session, [(F.SST_STATE.at session).addr, CNT_MD_TIMEOUT] ++ eventWords),
        (.commitGo by_ group, [commitAddr group, commitAddr group + 4, CNT_COMMIT_REFUSED] ++ accessWords ++ eventWords),
        (.mcCommitGo by_ lead, [mcCommitAddr, mcCommitAddr + 4, CNT_COMMIT_REFUSED] ++ accessWords ++ eventWords),
        (.deviceReadTimeout addr read, [CNT_DMA_RD_ERR, CNT_TX_DESC_ERR, F.HBR_STATUS_TX_STOPPED.addr] ++ eventWords), (.qspiDiscardExpiry x,
          CNT_QSPI_DISCARD :: eventWords),
        (.lateRead x, [0xA0000C, CNT_LATE_READ, CNT_RMT_ERR] ++ eventWords), (.pcieLinkUp speed width, [F.HBR_STATUS_LINK_UP.addr]),
        (.mstopCmdEnter by_ key, F.MSTOP_STATUS_PHASE.addr :: accessWords ++ eventWords), (.tapInstruction code, eventWords),
        (.loopbackDone port ok bad, [(F.LOOP_RESULT_OK.at port).addr, (F.LOOP_BAD.at port).addr] ++ (if port.val < 14 then [] else
          [(F.LINK_STATUS_UP.at port).addr, 0x300000, CNT_LINK_GLITCH port, CNT_LINK_FLUSH port, CNT_LINK_DOWN port]) ++ eventWords)] ++
        (if s.node.holdSeen && s.node.unit == 1 then [] else [(.corkRenewalTx, [F.RED_STATUS_HOLD_OUT.addr])]),
      exec e.1 s = .next t → s.node.OnlyWords t.node e.2

/-- Buffer memory outside the bytes stored is unchanged by a fabric write of an engine, whose target and offset give the address, but for the header
word of a Press whose OUT_XCHG it writes and for what a mailbox's command word starts (R140, R274, R275, R484), and by a chunk of an update, which
goes to the slot of the session at its offset, or at UPD_NEXT over the register path, but for the 20 bytes of a reply in the out buffer of a request
dataset's session (R485, R515, R521, R529). A fabric read changes none. -/
def Obligations.BufferMemoryFrames : Prop :=
  ∀ (s t : State),
    (∀ owner slot target ofs (bytes : List Byte) len a, fabricInitiator owner target = none →
      exec (.fabricTransaction owner slot target true ofs bytes len) s = .next t →
      (target = .odEngine → ∀ j < bytes.length, 4 ≤ (ofs + j) % 0x4000) →
      (target = .pressImages → 4 ≤ a % 0x10000 ∨ ∀ j < bytes.length, (ofs + j) % 0x10000 ≠ 0x10) →
      (a < (fabricHome target).1 + ofs ∨ (fabricHome target).1 + ofs + bytes.length ≤ a) →
      SMap.get zeroByte t.node.store.ram a = SMap.get zeroByte s.node.store.ram a) ∧
    (∀ owner slot target ofs (bytes : List Byte) len, fabricInitiator owner target = none →
      exec (.fabricTransaction owner slot target false ofs bytes len) s = .next t →
      t.node.store.ram = s.node.store.ram) ∧
    (∀ path ofs (bytes : List Byte) u a o, s.node.vault.session = some u → o = (if path = .register then s.node.rd F.UPD_NEXT else ofs) →
      exec (.updChunk path ofs bytes) s = .next t →
      (∀ src k, path = .trdp src → s.node.odSession src = some k → a < s.node.outBuffer k ∨ s.node.outBuffer k + 20 ≤ a) →
      (a < slotBase u.slot + o ∨ slotBase u.slot + o + bytes.length ≤ a) →
      SMap.get zeroByte t.node.store.ram a = SMap.get zeroByte s.node.store.ram a)
end

