-- ==== Sys2Proof/Laws/Maps.lean ====
section
/-! SUPPORT. Laws of the sparse maps: reading after writing, and that every operation keeps the canonical form. -/

namespace Sys2Proof.Machine

variable {V : Type}

/-! ### Reading after writing. They need no canonical form. -/

theorem SMap.get_insert (d : Nat → V) (k j : Nat) (v : V) (m : SMap V) :
    SMap.get d (SMap.insert k v m) j = if j = k then v else SMap.get d m j := by
  fun_induction SMap.insert k v m <;> simp_all [SMap.get] <;> grind

theorem SMap.get_erase (d : Nat → V) (k j : Nat) (m : SMap V) :
    SMap.get d (SMap.erase k m) j = if j = k then d k else SMap.get d m j := by
  fun_induction SMap.erase k m <;> grind [SMap.get]

/-- A key reads as it was last set; every other key reads as before. -/
theorem SMap.get_set [DecidableEq V] (d : Nat → V) (m : SMap V) (k j : Nat) (v : V) :
    SMap.get d (SMap.set d m k v) j = if j = k then v else SMap.get d m j := by
  by_cases h : v = d k <;> simp [SMap.set, h, SMap.get_insert, SMap.get_erase]

@[simp] theorem SMap.get_set_self [DecidableEq V] (d : Nat → V) (m : SMap V) (k : Nat) (v : V) :
    SMap.get d (SMap.set d m k v) k = v := (SMap.get_set ..).trans (if_pos rfl)

theorem SMap.get_set_ne [DecidableEq V] (d : Nat → V) (m : SMap V) {k j : Nat} (v : V) (h : j ≠ k) :
    SMap.get d (SMap.set d m k v) j = SMap.get d m j := (SMap.get_set ..).trans (if_neg h)

theorem SMap.get_setAll_not_mem [DecidableEq V] (d : Nat → V) (j : Nat) (ws : List (Nat × V)) (m : SMap V) (h : j ∉ ws.map (·.1)) :
    SMap.get d (SMap.setAll d m ws) j = SMap.get d m j := by
  refine List.foldlRecOn (motive := fun m' => SMap.get d m' j = SMap.get d m j) ws _ rfl fun m' ih e he => ?_
  exact (SMap.get_set_ne d m' e.2 (by rintro rfl; exact h (List.mem_map_of_mem he))).trans ih

theorem SMap.get_only (d : Nat → V) (p : Nat → Bool) (j : Nat) (m : SMap V) :
    SMap.get d (SMap.only p m) j = if p j then SMap.get d m j else d j := by
  induction m with grind [SMap.only, SMap.get]

theorem SMap.get_putBytes_outside (bs : List (BitVec 8)) (j : Nat) (m : SMap (BitVec 8)) (a : Nat) (h : j < a ∨ a + bs.length ≤ j) :
    SMap.get zeroByte (SMap.putBytes m a bs) j = SMap.get zeroByte m j := by
  fun_induction SMap.putBytes m a bs <;> grind [SMap.get_set_ne]

/-! ### The canonical form -/

theorem SMap.wfFrom_mono [DecidableEq V] {d : Nat → V} {lo lo' : Nat} {m : SMap V} (h : lo' ≤ lo)
    (w : SMap.wfFrom d lo m = true) : SMap.wfFrom d lo' m = true := by
  fun_cases SMap.wfFrom d lo m <;> grind [SMap.wfFrom]

theorem SMap.wfFrom_insert [DecidableEq V] {d : Nat → V} {k lo : Nat} {v : V} (hv : v ≠ d k) {m : SMap V}
    (w : SMap.wfFrom d lo m = true) (h : lo ≤ k) : SMap.wfFrom d lo (SMap.insert k v m) = true := by
  fun_induction SMap.insert k v m generalizing lo <;> grind [SMap.wfFrom]

theorem SMap.wfFrom_erase [DecidableEq V] {d : Nat → V} {k lo : Nat} {m : SMap V} (w : SMap.wfFrom d lo m = true) :
    SMap.wfFrom d lo (SMap.erase k m) = true := by
  induction m generalizing lo with
  | nil => exact w
  | cons e t ih =>
    have := fun lo' (h : lo' ≤ e.1 + 1) w' => SMap.wfFrom_mono h (ih (lo := e.1 + 1) w')
    grind [SMap.erase, SMap.wfFrom]

/-- Writing keeps the canonical form. -/
theorem SMap.wf_set [DecidableEq V] {d : Nat → V} {m : SMap V} {k : Nat} {v : V} (w : SMap.wf d m = true) :
    SMap.wf d (SMap.set d m k v) = true := by
  by_cases h : v = d k
  · simpa [SMap.wf, SMap.set, h] using SMap.wfFrom_erase w
  · simpa [SMap.wf, SMap.set, h] using SMap.wfFrom_insert h w k.zero_le

theorem SMap.wf_setAll [DecidableEq V] {d : Nat → V} (ws : List (Nat × V)) {m : SMap V} (w : SMap.wf d m = true) :
    SMap.wf d (SMap.setAll d m ws) = true := 
  List.foldlRecOn (motive := fun m' => SMap.wf d m' = true) ws _ w fun _ ih _ _ => SMap.wf_set ih

theorem SMap.wf_putBytes (bs : List (BitVec 8)) {m : SMap (BitVec 8)} {a : Nat} (w : SMap.wf zeroByte m = true) :
    SMap.wf zeroByte (SMap.putBytes m a bs) = true := by
  fun_induction SMap.putBytes m a bs <;> grind [SMap.wf_set]

/-- Selecting entries keeps the canonical form. -/
theorem SMap.wfFrom_only [DecidableEq V] {d : Nat → V} {p : Nat → Bool} {lo : Nat} {m : SMap V} (w : SMap.wfFrom d lo m = true) :
    SMap.wfFrom d lo (SMap.only p m) = true := by
  induction m generalizing lo with
  | nil => exact w
  | cons e t ih =>
    have := fun lo' (h : lo' ≤ e.1 + 1) w' => SMap.wfFrom_mono h (ih (lo := e.1 + 1) w')
    grind [SMap.only, SMap.wfFrom]

theorem SMap.wf_only [DecidableEq V] {d : Nat → V} {p : Nat → Bool} {m : SMap V} (w : SMap.wf d m = true) :
    SMap.wf d (SMap.only p m) = true := SMap.wfFrom_only w

end Sys2Proof.Machine
end

