-- ==== Sys2Proof/Laws/Kept.lean ====
section
/-! SUPPORT. Every function over the node, and every command, keeps the maps of the store canonical, the First Pressing's records and the
vendor's role key: one lemma for each. -/

namespace Sys2Proof.Machine

variable {rs : List Record} {vk : Option (BitVec 256)}

theorem foldl_kept {α : Type} (f : Node → α → Node) (l : List α) (n : Node) (h : n.Kept rs vk)
    (hf : ∀ x a, Node.Kept rs vk x → (f x a).Kept rs vk) : (l.foldl f n).Kept rs vk :=
  List.foldlRecOn (motive := Node.Kept rs vk) l f h fun m hm a _ => hf m a hm

theorem foldlPair_kept {α β : Type} (f : Node × β → α → Node × β) (l : List α) (n : Node × β) (h : n.1.Kept rs vk)
    (hf : ∀ x a, Node.Kept rs vk x.1 → (f x a).1.Kept rs vk) : (l.foldl f n).1.Kept rs vk :=
  List.foldlRecOn (motive := fun r => Node.Kept rs vk r.1) l f h fun r hr a _ => hf r a hr

theorem mk_kept (m : Node) (power_ : Power) (supply_ : Supply) (pins_ : Pins) (commits_ : SMap CommitPhase) (mc_ : Option McSet)
    (faults_ : List FaultCause) (runs_ : List (Nat × Nat)) (hiLatch_ : SMap Word) (winLatch_ : List (Nat × WindowLatch)) (timeLatch_ : SMap
    (Option TimeLatch)) (book_ : Book) (trellis_ : Trellis) (cellar_ : Cellar) (ports_ : SMap PortState) (ina_ : Inauguration)
    (flows_ : SMap FlowState) (sessions_ : SMap SessionState) (mdStarted_ : DWord) (presses_ : SMap Press) (images_ : List ImageInfo)
    (cans_ : SMap CanCtrl) (lineUnits_ : SMap LineUnit) (blend_ : Blend) (time_ : TimeBase) (host_ : HostBridge) (outs_ : Outputs) (pair_ : Pair)
    (vnt_ : Vintner) (vault_ : Vault) (maint_ : Maint) (out_ : List Emission) (fresh_ : Nat)
    (h : m.Kept rs vk) (hb : book_.first = m.book.first) (hv : vault_.roleKeys = m.vault.roleKeys) :
        ({ power := power_, store := m.store, supply := supply_, pins := pins_, commits := commits_, mc := mc_, faults := faults_, runs := runs_, hiLatch := hiLatch_, winLatch := winLatch_, timeLatch := timeLatch_, book := book_, trellis := trellis_, cellar := cellar_, ports := ports_, ina := ina_, flows := flows_, sessions := sessions_, mdStarted := mdStarted_, presses := presses_, images := images_, cans := cans_, lineUnits := lineUnits_, blend := blend_, time := time_, host := host_, outs := outs_, pair := pair_, vnt := vnt_, vault := vault_, maint := maint_, out := out_, fresh := fresh_ }
        : Node).Kept rs vk := by
  obtain ⟨h1, h2, h3⟩ := h
  exact ⟨h1, by rw [← hb] at h2; exact h2, by rw [← hv] at h3; exact h3⟩

theorem Node.when_kept (n : Node) (b : Bool) (f : Node → Node) (h : n.Kept rs vk) (hf : ∀ x : Node, x.Kept rs vk → (f x).Kept rs vk) :
    (n.when b f).Kept rs vk := by
  unfold Node.when; split
  · exact hf n h
  · exact h

theorem Node.each_kept {α : Type} (n : Node) (l : List α) (f : α → Node → Node) (h : n.Kept rs vk)
    (hf : ∀ a (x : Node), x.Kept rs vk → (f a x).Kept rs vk) : (n.each l f).Kept rs vk := by
  exact List.foldlRecOn (motive := fun m => m.Kept rs vk) l (fun m a => f a m) h fun m hm a _ => hf a m hm

theorem State.upd_kept {s : State} {f : Node → Node} {t : State} (hs : s.node.Kept rs vk)
    (hf : ∀ x : Node, x.Kept rs vk → (f x).Kept rs vk) (ht : s.upd f = .next t) : t.node.Kept rs vk := by
  unfold State.upd at ht
  cases ht
  exact hf _ hs

theorem Node.putWord_kept (n : Node) (a : Nat) (v : Word) (h : n.Kept rs vk) : (n.putWord a v).Kept rs vk := by
  obtain ⟨h, h2⟩ := h
  refine ⟨?_, h2⟩
  simp only [Store.wf, Bool.and_eq_true, Node.putWord] at h ⊢
  exact ⟨⟨⟨SMap.wf_set h.1.1.1, h.1.1.2⟩, h.1.2⟩, h.2⟩

theorem Node.putShadow_kept (n : Node) (a : Nat) (v : Word) (h : n.Kept rs vk) : (n.putShadow a v).Kept rs vk := by
  obtain ⟨h, h2⟩ := h
  refine ⟨?_, h2⟩
  simp only [Store.wf, Bool.and_eq_true, Node.putShadow] at h ⊢
  exact ⟨⟨⟨h.1.1.1, SMap.wf_set h.1.1.2⟩, h.1.2⟩, h.2⟩

theorem Node.putForce_kept (n : Node) (a : Nat) (v : Word) (h : n.Kept rs vk) : (n.putForce a v).Kept rs vk := by
  obtain ⟨h, h2⟩ := h
  refine ⟨?_, h2⟩
  simp only [Store.wf, Bool.and_eq_true, Node.putForce] at h ⊢
  exact ⟨⟨⟨h.1.1.1, h.1.1.2⟩, SMap.wf_set h.1.2⟩, h.2⟩

theorem Node.putWords_kept (n : Node) (ws : List (Nat × Word)) (h : n.Kept rs vk) : (n.putWords ws).Kept rs vk := by
  obtain ⟨h, h2⟩ := h
  refine ⟨?_, h2⟩
  simp only [Store.wf, Bool.and_eq_true, Node.putWords] at h ⊢
  exact ⟨⟨⟨SMap.wf_setAll ws h.1.1.1, h.1.1.2⟩, h.1.2⟩, h.2⟩

theorem Node.putShadows_kept (n : Node) (ws : List (Nat × Word)) (h : n.Kept rs vk) : (n.putShadows ws).Kept rs vk := by
  obtain ⟨h, h2⟩ := h
  refine ⟨?_, h2⟩
  simp only [Store.wf, Bool.and_eq_true, Node.putShadows] at h ⊢
  exact ⟨⟨⟨h.1.1.1, SMap.wf_setAll ws h.1.1.2⟩, h.1.2⟩, h.2⟩

theorem Node.putForces_kept (n : Node) (ws : List (Nat × Word)) (h : n.Kept rs vk) : (n.putForces ws).Kept rs vk := by
  obtain ⟨h, h2⟩ := h
  refine ⟨?_, h2⟩
  simp only [Store.wf, Bool.and_eq_true, Node.putForces] at h ⊢
  exact ⟨⟨⟨h.1.1.1, h.1.1.2⟩, SMap.wf_setAll ws h.1.2⟩, h.2⟩

theorem Node.resetWords_kept (n : Node) (p : Nat → Bool) (h : n.Kept rs vk) : (n.resetWords p).Kept rs vk := by
  obtain ⟨h, h2⟩ := h
  refine ⟨?_, h2⟩
  simp only [Store.wf, Bool.and_eq_true, Node.resetWords] at h ⊢
  exact ⟨⟨⟨SMap.wf_only h.1.1.1, h.1.1.2⟩, h.1.2⟩, h.2⟩

theorem Node.resetConfig_kept (n : Node) (p : Nat → Bool) (h : n.Kept rs vk) : (n.resetConfig p).Kept rs vk := by
  obtain ⟨h, h2⟩ := h
  refine ⟨?_, h2⟩
  simp only [Store.wf, Bool.and_eq_true, Node.resetConfig] at h ⊢
  exact ⟨⟨⟨h.1.1.1, SMap.wf_only h.1.1.2⟩, SMap.wf_only h.1.2⟩, h.2⟩

theorem Node.clearShadows_kept (n : Node) (h : n.Kept rs vk) : n.clearShadows.Kept rs vk := by
  obtain ⟨h, h2⟩ := h
  refine ⟨?_, h2⟩
  simp only [Store.wf, Bool.and_eq_true, Node.clearShadows] at h ⊢
  exact ⟨⟨⟨h.1.1.1, rfl⟩, h.1.2⟩, h.2⟩

theorem Node.reloadShadows_kept (n : Node) (h : n.Kept rs vk) : n.reloadShadows.Kept rs vk := by
  obtain ⟨h, h2⟩ := h
  refine ⟨?_, h2⟩
  simp only [Store.wf, Bool.and_eq_true, Node.reloadShadows] at h ⊢
  exact ⟨⟨⟨h.1.1.1, h.1.2⟩, h.1.2⟩, h.2⟩

theorem Node.forceShadows_kept (n : Node) (h : n.Kept rs vk) : n.forceShadows.Kept rs vk := by
  obtain ⟨h, h2⟩ := h
  refine ⟨?_, h2⟩
  simp only [Store.wf, Bool.and_eq_true, Node.forceShadows] at h ⊢
  exact ⟨⟨⟨h.1.1.1, h.1.1.2⟩, h.1.1.2⟩, h.2⟩

theorem Node.setStore_kept (n : Node) (m : Store) (h : n.Kept rs vk) (hm : m.wf = true) : (n.setStore m).Kept rs vk := ⟨hm, h.2⟩

theorem Node.wr_kept (n : Node) (f : Field) (v : Nat) (h0 : n.Kept rs vk) :
    (Node.wr n f v).Kept rs vk := by
  unfold Node.wr
  repeat' (first | with_reducible assumption | with_reducible rfl | with_reducible apply Node.putWord_kept)

theorem Node.wrBit_kept (n : Node) (f : Field) (b : Bool) (h0 : n.Kept rs vk) :
    (Node.wrBit n f b).Kept rs vk := by
  unfold Node.wrBit
  repeat' (first | with_reducible assumption | with_reducible rfl | with_reducible apply Node.wr_kept)

theorem Node.countBy_kept (n : Node) (a k : Nat) (h0 : n.Kept rs vk) :
    (Node.countBy n a k).Kept rs vk := by
  unfold Node.countBy
  repeat' (first | with_reducible assumption | with_reducible rfl | with_reducible apply Node.putWord_kept)

theorem Node.count_kept (n : Node) (a : Nat) (h0 : n.Kept rs vk) :
    (Node.count n a).Kept rs vk := by
  unfold Node.count
  repeat' (first | with_reducible assumption | with_reducible rfl | with_reducible apply Node.countBy_kept)

theorem Node.incr_kept (n : Node) (f : Field) (h0 : n.Kept rs vk) :
    (Node.incr n f).Kept rs vk := by
  unfold Node.incr
  repeat' (first | with_reducible assumption | with_reducible rfl | with_reducible apply Node.wr_kept)

theorem Node.putWord64_kept (n : Node) (a : Nat) (v : DWord) (h0 : n.Kept rs vk) :
    (Node.putWord64 n a v).Kept rs vk := by
  unfold Node.putWord64
  repeat' (first | with_reducible assumption | with_reducible rfl | with_reducible apply Node.putWord_kept)

theorem Node.loadWord_kept (n : Node) (a : Nat) (v : Word) (h0 : n.Kept rs vk) :
    (Node.loadWord n a v).Kept rs vk := by
  unfold Node.loadWord
  repeat' (first | with_reducible assumption | with_reducible rfl | with_reducible apply Node.putWord_kept)

theorem Node.putBytes_kept (n : Node) (a : Nat) (bs : List Byte) (h : n.Kept rs vk) : (n.putBytes a bs).Kept rs vk := by
  obtain ⟨h, h2⟩ := h
  refine ⟨?_, h2⟩
  simp only [Store.wf, Bool.and_eq_true, Node.putBytes] at h ⊢
  exact ⟨⟨⟨h.1.1.1, h.1.1.2⟩, h.1.2⟩, SMap.wf_putBytes bs h.2⟩

theorem Node.clearBytes_kept (n : Node) (a len : Nat) (h : n.Kept rs vk) : (n.clearBytes a len).Kept rs vk := by
  obtain ⟨h, h2⟩ := h
  refine ⟨?_, h2⟩
  simp only [Store.wf, Bool.and_eq_true, Node.clearBytes] at h ⊢
  exact ⟨⟨⟨h.1.1.1, h.1.1.2⟩, h.1.2⟩, SMap.wf_only h.2⟩

theorem Node.keepBytes_kept (n : Node) (p : Nat → Bool) (h : n.Kept rs vk) : (n.keepBytes p).Kept rs vk := by
  obtain ⟨h, h2⟩ := h
  refine ⟨?_, h2⟩
  simp only [Store.wf, Bool.and_eq_true, Node.keepBytes] at h ⊢
  exact ⟨⟨⟨h.1.1.1, h.1.1.2⟩, h.1.2⟩, SMap.wf_only h.2⟩

theorem Node.putRamWord_kept (n : Node) (a : Nat) (v : Word) (h0 : n.Kept rs vk) :
    (Node.putRamWord n a v).Kept rs vk := by
  unfold Node.putRamWord
  repeat' (first | with_reducible assumption | with_reducible rfl | with_reducible apply Node.putBytes_kept)

theorem Node.onOuts_kept (n : Node) (f : Outputs → Outputs) (h0 : n.Kept rs vk) :
    (Node.onOuts n f).Kept rs vk := by
  unfold Node.onOuts
  repeat' (first | with_reducible assumption | with_reducible rfl | intro _ | dsimp -proj only | exact @rfl (List Record) _
                  | exact @rfl (SMap (Option (BitVec 256))) _ | split | with_reducible apply mk_kept)

theorem Node.setPort_kept (n : Node) (p : Nat) (f : PortState → PortState) (h0 : n.Kept rs vk) :
    (Node.setPort n p f).Kept rs vk := by
  unfold Node.setPort
  repeat' (first | with_reducible assumption | with_reducible rfl | intro _ | dsimp -proj only | exact @rfl (List Record) _
                  | exact @rfl (SMap (Option (BitVec 256))) _ | split | with_reducible apply mk_kept)

theorem Node.setFlow_kept (n : Node) (c : Nat) (f : FlowState → FlowState) (h0 : n.Kept rs vk) :
    (Node.setFlow n c f).Kept rs vk := by
  unfold Node.setFlow
  repeat' (first | with_reducible assumption | with_reducible rfl | intro _ | dsimp -proj only | exact @rfl (List Record) _
                  | exact @rfl (SMap (Option (BitVec 256))) _ | split | with_reducible apply mk_kept)

theorem Node.setSes_kept (n : Node) (c : Nat) (f : SessionState → SessionState) (h0 : n.Kept rs vk) :
    (Node.setSes n c f).Kept rs vk := by
  unfold Node.setSes
  repeat' (first | with_reducible assumption | with_reducible rfl | intro _ | dsimp -proj only | exact @rfl (List Record) _
                  | exact @rfl (SMap (Option (BitVec 256))) _ | split | with_reducible apply mk_kept)

theorem Node.setPress_kept (n : Node) (p : Nat) (f : Press → Press) (h0 : n.Kept rs vk) :
    (Node.setPress n p f).Kept rs vk := by
  unfold Node.setPress
  repeat' (first | with_reducible assumption | with_reducible rfl | intro _ | dsimp -proj only | exact @rfl (List Record) _
                  | exact @rfl (SMap (Option (BitVec 256))) _ | split | with_reducible apply mk_kept)

theorem Node.setLineUnit_kept (n : Node) (u : Nat) (f : LineUnit → LineUnit) (h0 : n.Kept rs vk) :
    (Node.setLineUnit n u f).Kept rs vk := by
  unfold Node.setLineUnit
  repeat' (first | with_reducible assumption | with_reducible rfl | intro _ | dsimp -proj only | exact @rfl (List Record) _
                  | exact @rfl (SMap (Option (BitVec 256))) _ | split | with_reducible apply mk_kept)

theorem Node.setCan_kept (n : Node) (c : Nat) (f : CanCtrl → CanCtrl) (h0 : n.Kept rs vk) :
    (Node.setCan n c f).Kept rs vk := by
  unfold Node.setCan
  repeat' (first | with_reducible assumption | with_reducible rfl | intro _ | dsimp -proj only | exact @rfl (List Record) _
                  | exact @rfl (SMap (Option (BitVec 256))) _ | split | with_reducible apply mk_kept)

theorem Node.setChan_kept (n : Node) (c : Nat) (f : Channel → Channel) (h0 : n.Kept rs vk) :
    (Node.setChan n c f).Kept rs vk := by
  unfold Node.setChan
  repeat' (first | with_reducible assumption | with_reducible rfl | intro _ | dsimp -proj only | exact @rfl (List Record) _
                  | exact @rfl (SMap (Option (BitVec 256))) _ | split | with_reducible apply mk_kept)

theorem Node.setInput_kept (n : Node) (k : Nat) (f : DigIn → DigIn) (h0 : n.Kept rs vk) :
    (Node.setInput n k f).Kept rs vk := by
  unfold Node.setInput
  repeat' (first | with_reducible assumption | with_reducible rfl | intro _ | dsimp -proj only | exact @rfl (List Record) _
                  | exact @rfl (SMap (Option (BitVec 256))) _ | split | with_reducible apply mk_kept)

theorem Node.setLine_kept (n : Node) (k : Nat) (f : LineState → LineState) (h0 : n.Kept rs vk) :
    (Node.setLine n k f).Kept rs vk := by
  unfold Node.setLine
  repeat' (first | with_reducible assumption | with_reducible rfl | intro _ | dsimp -proj only | exact @rfl (List Record) _
                  | exact @rfl (SMap (Option (BitVec 256))) _ | split | with_reducible apply mk_kept)

theorem Node.setRing_kept (n : Node) (k : Nat) (f : Ring → Ring) (h0 : n.Kept rs vk) :
    (Node.setRing n k f).Kept rs vk := by
  unfold Node.setRing
  repeat' (first | with_reducible assumption | with_reducible rfl | intro _ | dsimp -proj only | exact @rfl (List Record) _
                  | exact @rfl (SMap (Option (BitVec 256))) _ | split | with_reducible apply mk_kept)

theorem Node.setPhase_kept (n : Node) (g : Nat) (p : CommitPhase) (h0 : n.Kept rs vk) :
    (Node.setPhase n g p).Kept rs vk := by
  unfold Node.setPhase
  repeat' (first | with_reducible assumption | with_reducible rfl | intro _ | dsimp -proj only | exact @rfl (List Record) _
                  | exact @rfl (SMap (Option (BitVec 256))) _ | split | with_reducible apply mk_kept)

theorem Node.took_kept (n : Node) (h0 : n.Kept rs vk) :
    (Node.took n).Kept rs vk := by
  unfold Node.took
  repeat' (first | with_reducible assumption | with_reducible rfl | intro _ | dsimp -proj only | exact @rfl (List Record) _
                  | exact @rfl (SMap (Option (BitVec 256))) _ | split | with_reducible apply mk_kept)

theorem Node.emit_kept (n : Node) (e : Emission) (h0 : n.Kept rs vk) :
    (Node.emit n e).Kept rs vk := by
  unfold Node.emit
  repeat' (first | with_reducible assumption | with_reducible rfl | intro _ | dsimp -proj only | exact @rfl (List Record) _
                  | exact @rfl (SMap (Option (BitVec 256))) _ | split | with_reducible apply mk_kept)

theorem Node.addFault_kept (n : Node) (c : FaultCause) (h0 : n.Kept rs vk) :
    (Node.addFault n c).Kept rs vk := by
  unfold Node.addFault
  repeat' (first | with_reducible assumption | with_reducible rfl | intro _ | dsimp -proj only | exact @rfl (List Record) _
                  | exact @rfl (SMap (Option (BitVec 256))) _ | split | with_reducible apply mk_kept)

theorem Node.dropFault_kept (n : Node) (c : FaultCause) (h0 : n.Kept rs vk) :
    (Node.dropFault n c).Kept rs vk := by
  unfold Node.dropFault
  repeat' (first | with_reducible assumption | with_reducible rfl | intro _ | dsimp -proj only | exact @rfl (List Record) _
                  | exact @rfl (SMap (Option (BitVec 256))) _ | split | with_reducible apply mk_kept)

theorem Node.setView_kept (n : Node) (v : Nat) (w : View) (h0 : n.Kept rs vk) :
    (Node.setView n v w).Kept rs vk := by
  unfold Node.setView
  repeat' (first | with_reducible assumption | with_reducible rfl | intro _ | dsimp -proj only | exact @rfl (List Record) _
                  | exact @rfl (SMap (Option (BitVec 256))) _ | split | with_reducible apply mk_kept)

theorem Node.fire_kept (n : Node) (vector code arg : Nat) (h0 : n.Kept rs vk) :
    (Node.fire n vector code arg).Kept rs vk := by
  unfold Node.fire
  repeat' (first | with_reducible assumption | with_reducible rfl | intro _ | dsimp -proj only | exact @rfl (List Record) _
                  | exact @rfl (SMap (Option (BitVec 256))) _ | split | with_reducible apply mk_kept)

theorem Node.enqueue_kept (n : Node) (r : Record) (h0 : n.Kept rs vk) :
    (Node.enqueue n r).Kept rs vk := by
  unfold Node.enqueue
  repeat' (first | with_reducible assumption | with_reducible rfl | with_reducible apply Node.count_kept | intro _
                  | dsimp -proj only | exact @rfl (List Record) _ | exact @rfl (SMap (Option (BitVec 256))) _ | split
                  | with_reducible apply mk_kept)

theorem Node.logEvent_kept (n : Node) (code : Nat) (spec : Bool) (payload : List Nat) (h0 : n.Kept rs vk) :
    (Node.logEvent n code spec payload).Kept rs vk := by
  unfold Node.logEvent
  repeat' (first | with_reducible assumption | with_reducible rfl | with_reducible apply Node.count_kept
                  | with_reducible apply Node.enqueue_kept | intro _ | dsimp -proj only | exact @rfl (List Record) _
                  | exact @rfl (SMap (Option (BitVec 256))) _ | split | with_reducible apply mk_kept)

theorem Node.raiseAs_kept (n : Node) (spec : Bool) (code : Nat) (payload : List Nat) (h0 : n.Kept rs vk) :
    (Node.raiseAs n spec code payload).Kept rs vk := by
  unfold Node.raiseAs
  repeat' (first | with_reducible assumption | with_reducible rfl | with_reducible apply Node.fire_kept
                  | with_reducible apply Node.logEvent_kept | intro _ | dsimp -proj only | exact @rfl (List Record) _
                  | exact @rfl (SMap (Option (BitVec 256))) _ | split)

theorem Node.raise_kept (n : Node) (code : Nat) (payload : List Nat) (h0 : n.Kept rs vk) :
    (Node.raise n code payload).Kept rs vk := by
  unfold Node.raise
  repeat' (first | with_reducible assumption | with_reducible rfl | with_reducible apply Node.raiseAs_kept)

theorem Node.raiseFirst_kept (n : Node) (code idx : Nat) (payload : List Nat) (h0 : n.Kept rs vk) :
    (Node.raiseFirst n code idx payload).Kept rs vk := by
  unfold Node.raiseFirst
  repeat' (first | with_reducible assumption | with_reducible rfl | with_reducible apply Node.raise_kept | intro _
                  | dsimp -proj only | exact @rfl (List Record) _ | exact @rfl (SMap (Option (BitVec 256))) _ | split
                  | with_reducible apply mk_kept)

theorem Node.endRun_kept (n : Node) (code idx : Nat) (h0 : n.Kept rs vk) :
    (Node.endRun n code idx).Kept rs vk := by
  unfold Node.endRun
  repeat' (first | with_reducible assumption | with_reducible rfl | intro _ | dsimp -proj only | exact @rfl (List Record) _
                  | exact @rfl (SMap (Option (BitVec 256))) _ | split | with_reducible apply mk_kept)

theorem Node.setSpec_kept (n : Node) (source blocks : Nat) (h0 : n.Kept rs vk) :
    (Node.setSpec n source blocks).Kept rs vk := by
  unfold Node.setSpec
  repeat' (first | with_reducible assumption | with_reducible rfl | with_reducible apply Node.wr_kept
                  | with_reducible apply Node.wrBit_kept)

theorem Node.xabort_kept (n : Node) (h0 : n.Kept rs vk) :
    (Node.xabort n).Kept rs vk := by
  unfold Node.xabort
  repeat' (first | with_reducible assumption | with_reducible rfl | with_reducible apply Node.when_kept
                  | with_reducible apply Node.count_kept | with_reducible apply Node.fire_kept | intro _)

theorem Node.setHeld_kept (n : Node) (by_ : Initiator) (v : Option (Nat × Word)) (h0 : n.Kept rs vk) :
    (Node.setHeld n by_ v).Kept rs vk := by
  unfold Node.setHeld
  repeat' (first | with_reducible assumption | with_reducible rfl | intro _ | dsimp -proj only | exact @rfl (List Record) _
                  | exact @rfl (SMap (Option (BitVec 256))) _ | split | with_reducible apply mk_kept)

theorem Node.dropHeld_kept (n : Node) (by_ : Initiator) (h0 : n.Kept rs vk) :
    (Node.dropHeld n by_).Kept rs vk := by
  unfold Node.dropHeld
  repeat' (first | with_reducible assumption | with_reducible rfl | with_reducible apply Node.when_kept
                  | with_reducible apply Node.count_kept | with_reducible apply Node.setHeld_kept | intro _)

theorem Node.cross_kept (n : Node) (island : Nat) (f : Node → Node) (h0 : n.Kept rs vk) (h1 : ∀ (x0 : Node), Node.Kept rs vk x0 → (f x0).Kept rs
    vk) :
    (Node.cross n island f).Kept rs vk := by
  unfold Node.cross
  repeat' (first | with_reducible assumption | with_reducible rfl | with_reducible apply h1
                  | with_reducible apply Node.xabort_kept | intro _ | dsimp -proj only | exact @rfl (List Record) _
                  | exact @rfl (SMap (Option (BitVec 256))) _ | split)

theorem Node.enter_kept (n : Node) (block : Nat) (f : Node → Node) (h0 : n.Kept rs vk) (h1 : ∀ (x0 : Node), Node.Kept rs vk x0 → (f x0).Kept rs
    vk) :
    (Node.enter n block f).Kept rs vk := by
  unfold Node.enter
  repeat' (first | with_reducible assumption | with_reducible rfl | with_reducible apply h1
                  | with_reducible apply Node.xabort_kept | intro _ | dsimp -proj only | exact @rfl (List Record) _
                  | exact @rfl (SMap (Option (BitVec 256))) _ | split)

theorem Node.access_kept (n : Node) (by_ : Initiator) (block : Nat) (f : Node → Node) (h0 : n.Kept rs vk) (h1 : ∀ (x0 : Node), Node.Kept rs vk x0 →
    (f x0).Kept rs vk) :
    (Node.access n by_ block f).Kept rs vk := by
  unfold Node.access
  repeat' (first | with_reducible assumption | with_reducible rfl | with_reducible apply h1
                  | with_reducible apply Node.dropHeld_kept | with_reducible apply Node.enter_kept | intro _ | dsimp -proj only
                  | exact @rfl (List Record) _ | exact @rfl (SMap (Option (BitVec 256))) _ | split)

theorem Node.setIslands_kept (n : Node) (mask : Nat) (h0 : n.Kept rs vk) :
    (Node.setIslands n mask).Kept rs vk := by
  unfold Node.setIslands
  repeat' (first | with_reducible assumption | with_reducible rfl | with_reducible apply Node.when_kept
                  | with_reducible apply Node.wr_kept | intro _ | dsimp -proj only | exact @rfl (List Record) _
                  | exact @rfl (SMap (Option (BitVec 256))) _ | split | with_reducible apply mk_kept)

theorem Node.copying_kept (n : Node) (g : Nat) (h0 : n.Kept rs vk) :
    (Node.copying n g).Kept rs vk := by
  unfold Node.copying
  repeat' (first | with_reducible assumption | with_reducible rfl | with_reducible apply Node.wrBit_kept | intro _
                  | dsimp -proj only | exact @rfl (List Record) _ | exact @rfl (SMap (Option (BitVec 256))) _ | split
                  | with_reducible apply mk_kept)

theorem Node.applyGroup_kept (n : Node) (g : Nat) (h0 : n.Kept rs vk) :
    (Node.applyGroup n g).Kept rs vk := by
  unfold Node.applyGroup
  repeat' (first | with_reducible assumption | with_reducible rfl | with_reducible apply Node.putForces_kept
                  | with_reducible apply Node.copying_kept)

theorem Node.reloadGroup_kept (n : Node) (g : Nat) (h0 : n.Kept rs vk) :
    (Node.reloadGroup n g).Kept rs vk := by
  unfold Node.reloadGroup
  repeat' (first | with_reducible assumption | with_reducible rfl | with_reducible apply Node.putShadows_kept
                  | with_reducible apply Node.copying_kept)

theorem Node.setCode_kept (n : Node) (g code : Nat) (h0 : n.Kept rs vk) :
    (Node.setCode n g code).Kept rs vk := by
  unfold Node.setCode
  repeat' (first | with_reducible assumption | with_reducible rfl | with_reducible apply Node.wr_kept)

theorem Node.setInfo_kept (n : Node) (g : Nat) (info : Word) (h0 : n.Kept rs vk) :
    (Node.setInfo n g info).Kept rs vk := by
  unfold Node.setInfo
  repeat' (first | with_reducible assumption | with_reducible rfl | with_reducible apply Node.putWord_kept)

theorem Node.bumpSeq_kept (n : Node) (g : Nat) (h0 : n.Kept rs vk) :
    (Node.bumpSeq n g).Kept rs vk := by
  unfold Node.bumpSeq
  repeat' (first | with_reducible assumption | with_reducible rfl | with_reducible apply Node.incr_kept)

theorem Node.groupTaken_kept (n : Node) (g : Nat) (h0 : n.Kept rs vk) :
    (Node.groupTaken n g).Kept rs vk := by
  unfold Node.groupTaken
  repeat' (first | with_reducible assumption | with_reducible rfl | with_reducible apply Node.setCode_kept
                  | with_reducible apply Node.setInfo_kept | with_reducible apply Node.bumpSeq_kept)

theorem Node.refused_kept (n : Node) (g code : Nat) (h0 : n.Kept rs vk) :
    (Node.refused n g code).Kept rs vk := by
  unfold Node.refused
  repeat' (first | with_reducible assumption | with_reducible rfl | with_reducible apply Node.count_kept
                  | with_reducible apply Node.raise_kept)

theorem Node.refuseGroup_kept (n : Node) (g code : Nat) (h0 : n.Kept rs vk) :
    (Node.refuseGroup n g code).Kept rs vk := by
  unfold Node.refuseGroup
  repeat' (first | with_reducible assumption | with_reducible rfl | with_reducible apply Node.setPhase_kept
                  | with_reducible apply Node.setCode_kept | with_reducible apply Node.refused_kept)

theorem Node.rewritePointer_kept (n : Node) (fp head wraps : Nat) (h0 : n.Kept rs vk) :
    (Node.rewritePointer n fp head wraps).Kept rs vk := by
  unfold Node.rewritePointer
  repeat' (first | with_reducible assumption | with_reducible rfl | with_reducible apply Node.wr_kept | intro _ | dsimp -proj only
                  | exact @rfl (List Record) _ | exact @rfl (SMap (Option (BitVec 256))) _ | split | with_reducible apply mk_kept)

/-- Placing a record leaves every record of the First Pressing where it is. -/
theorem Book.placeAt_first {rs : List Record} (b : Book) (p : PointerBlock) (r : Record) (h : ∃ l, b.first = l ++ rs) : ∃ l,
    (b.placeAt p r).first = l ++ rs := by
  obtain ⟨l, hl⟩ := h
  unfold Book.placeAt
  split
  · exact ⟨r :: l, by simp [hl]⟩
  · exact ⟨l, hl⟩

theorem Node.writeRecord_kept (n : Node) (r : Record) (h : n.Kept rs vk) : (n.writeRecord r).Kept rs vk := by
  unfold Node.writeRecord
  have h1 : Node.Kept rs vk { n with book := n.book.placeAt n.book.ptrA r } := ⟨h.1, Book.placeAt_first _ _ _ h.2.1, h.2.2⟩
  repeat' (first | with_reducible assumption | with_reducible rfl | with_reducible apply Node.when_kept
                  | with_reducible apply Node.raise_kept | with_reducible apply Node.rewritePointer_kept | intro _ | dsimp -proj only | split)

theorem Node.writeNext_kept (n : Node) (h0 : n.Kept rs vk) :
    (Node.writeNext n).Kept rs vk := by
  unfold Node.writeNext
  repeat' (first | with_reducible assumption | with_reducible rfl | with_reducible apply Node.fire_kept
                  | with_reducible apply Node.writeRecord_kept | intro _ | dsimp -proj only | exact @rfl (List Record) _
                  | exact @rfl (SMap (Option (BitVec 256))) _ | split | with_reducible apply mk_kept)

theorem Node.writeMany_kept (n : Node) (k : Nat) (h : n.Kept rs vk) : (n.writeMany k).Kept rs vk := by
  induction k generalizing n with
  | zero => exact h
  | succ k ih => exact ih _ (Node.writeNext_kept n h)

theorem Node.flushBook_kept (n : Node) (h0 : n.Kept rs vk) :
    (Node.flushBook n).Kept rs vk := by
  unfold Node.flushBook
  repeat' (first | with_reducible assumption | with_reducible rfl | with_reducible apply Node.writeMany_kept | intro _
                  | dsimp -proj only | exact @rfl (List Record) _ | exact @rfl (SMap (Option (BitVec 256))) _ | split
                  | with_reducible apply mk_kept)

theorem Node.foundRecord_kept (n : Node) (p : PointerBlock) (found : Option Record) (h : n.Kept rs vk) :
    (n.foundRecord p found).Kept rs vk := by
  unfold Node.foundRecord
  split
  · exact h
  · rename_i r
    have hb : ∃ l, ((({ n with book := { n.book with cut := none } } : Node).book.placeAt p r)).first = l ++ rs := Book.placeAt_first _ _ _ h.2.1
    exact Node.when_kept _ _ _ ⟨h.1, hb, h.2.2⟩ fun x hx => Node.raise_kept _ _ _ hx

theorem execBookRecovery_kept (goodA goodB torn lostUpdate : Bool) (s : State) (hs : s.node.Kept rs vk) (s' : State)
    (ht : execBookRecovery goodA goodB torn lostUpdate s = .next s') :
    s'.node.Kept rs vk := by
  unfold execBookRecovery at ht
  refine State.upd_kept hs ?_ ht
  repeat' (first | with_reducible assumption | with_reducible rfl | with_reducible apply Node.when_kept
                  | with_reducible apply Node.wrBit_kept | with_reducible apply Node.countBy_kept | with_reducible apply Node.count_kept
                  | with_reducible apply Node.raise_kept | with_reducible apply Node.rewritePointer_kept
                  | with_reducible apply Node.flushBook_kept | with_reducible apply Node.foundRecord_kept | intro _ | dsimp -proj only
                  | exact @rfl (List Record) _ | exact @rfl (SMap (Option (BitVec 256))) _ | split | with_reducible apply mk_kept)

theorem execRecordWrite_kept (s : State) (hs : s.node.Kept rs vk) (s' : State) (ht : execRecordWrite s = .next s') :
    s'.node.Kept rs vk := by
  unfold execRecordWrite at ht
  refine State.upd_kept hs ?_ ht
  repeat' (first | with_reducible assumption | with_reducible rfl | with_reducible apply Node.when_kept
                  | with_reducible apply Node.writeNext_kept | intro _)

theorem execPointerBlockTick_kept (s : State) (hs : s.node.Kept rs vk) (s' : State) (ht : execPointerBlockTick s = .next s') :
    s'.node.Kept rs vk := by
  unfold execPointerBlockTick at ht
  refine State.upd_kept hs ?_ ht
  repeat' (first | with_reducible assumption | with_reducible rfl | with_reducible apply Node.when_kept
                  | with_reducible apply Node.rewritePointer_kept | intro _)

theorem execTokenRefill_kept (code : Half) (s : State) (hs : s.node.Kept rs vk) (s' : State) (ht : execTokenRefill code s = .next s') :
    s'.node.Kept rs vk := by
  unfold execTokenRefill at ht
  refine State.upd_kept hs ?_ ht
  repeat' (first | with_reducible assumption | with_reducible rfl | with_reducible apply Node.when_kept | intro _
                  | dsimp -proj only | exact @rfl (List Record) _ | exact @rfl (SMap (Option (BitVec 256))) _ | split
                  | with_reducible apply mk_kept)

theorem Node.reportBad_kept (n : Node) (lastArea : Bool) (is : List Nat) (h0 : n.Kept rs vk) :
    (Node.reportBad n lastArea is).Kept rs vk := by
  unfold Node.reportBad
  repeat' (first | with_reducible assumption | with_reducible rfl | with_reducible apply Node.each_kept
                  | with_reducible apply Node.count_kept | with_reducible apply Node.raise_kept | intro _)

theorem Node.startReadout_kept (n : Node) (bad : List (Fin 256)) (h0 : n.Kept rs vk) :
    (Node.startReadout n bad).Kept rs vk := by
  unfold Node.startReadout
  repeat' (first | with_reducible assumption | with_reducible rfl | with_reducible apply Node.when_kept
                  | with_reducible apply Node.putWords_kept | with_reducible apply Node.wrBit_kept | with_reducible apply Node.count_kept
                  | with_reducible apply Node.reportBad_kept | intro _ | dsimp -proj only | exact @rfl (List Record) _
                  | exact @rfl (SMap (Option (BitVec 256))) _ | split | with_reducible apply mk_kept)

theorem Node.setFreeze_kept (n : Node) (on : Bool) (h0 : n.Kept rs vk) :
    (Node.setFreeze n on).Kept rs vk := by
  unfold Node.setFreeze
  repeat' (first | with_reducible assumption | with_reducible rfl | intro _ | dsimp -proj only | exact @rfl (List Record) _
                  | exact @rfl (SMap (Option (BitVec 256))) _ | split | with_reducible apply mk_kept)

theorem Node.cbkCommand_kept (n : Node) (freeze unfreeze read : Bool) (bad : List (Fin 256)) (h0 : n.Kept rs vk) :
    (Node.cbkCommand n freeze unfreeze read bad).Kept rs vk := by
  unfold Node.cbkCommand
  repeat' (first | with_reducible assumption | with_reducible rfl | with_reducible apply Node.when_kept
                  | with_reducible apply Node.startReadout_kept | with_reducible apply Node.setFreeze_kept | intro _)

theorem execCbkCmdFreeze_kept (by_ : Initiator) (key : Half) (alsoUnfreeze alsoRead : Bool) (s : State) (hs : s.node.Kept rs vk) (s' : State)
    (ht : execCbkCmdFreeze by_ key alsoUnfreeze alsoRead s = .next s') :
    s'.node.Kept rs vk := by
  unfold execCbkCmdFreeze at ht
  refine State.upd_kept hs ?_ ht
  repeat' (first | with_reducible assumption | with_reducible rfl | with_reducible apply Node.when_kept
                  | with_reducible apply Node.access_kept | with_reducible apply Node.cbkCommand_kept | intro _)

theorem execCbkCmdUnfreeze_kept (by_ : Initiator) (key : Half) (alsoRead : Bool) (s : State) (hs : s.node.Kept rs vk) (s' : State)
    (ht : execCbkCmdUnfreeze by_ key alsoRead s = .next s') :
    s'.node.Kept rs vk := by
  unfold execCbkCmdUnfreeze at ht
  refine State.upd_kept hs ?_ ht
  repeat' (first | with_reducible assumption | with_reducible rfl | with_reducible apply Node.when_kept
                  | with_reducible apply Node.access_kept | with_reducible apply Node.cbkCommand_kept | intro _)

theorem execCbkCmdRead_kept (by_ : Initiator) (key : Half) (unreadable : List (Fin 256)) (s : State) (hs : s.node.Kept rs vk) (s' : State)
    (ht : execCbkCmdRead by_ key unreadable s = .next s') :
    s'.node.Kept rs vk := by
  unfold execCbkCmdRead at ht
  refine State.upd_kept hs ?_ ht
  repeat' (first | with_reducible assumption | with_reducible rfl | with_reducible apply Node.when_kept
                  | with_reducible apply Node.access_kept | with_reducible apply Node.cbkCommand_kept | intro _)

theorem execReadoutComplete_kept (s : State) (hs : s.node.Kept rs vk) (s' : State) (ht : execReadoutComplete s = .next s') :
    s'.node.Kept rs vk := by
  unfold execReadoutComplete at ht
  refine State.upd_kept hs ?_ ht
  repeat' (first | with_reducible assumption | with_reducible rfl | with_reducible apply Node.when_kept
                  | with_reducible apply Node.wrBit_kept | with_reducible apply Node.fire_kept | intro _ | dsimp -proj only
                  | exact @rfl (List Record) _ | exact @rfl (SMap (Option (BitVec 256))) _ | split | with_reducible apply mk_kept)

theorem execFreezeLimitExpiry_kept (s : State) (hs : s.node.Kept rs vk) (s' : State) (ht : execFreezeLimitExpiry s = .next s') :
    s'.node.Kept rs vk := by
  unfold execFreezeLimitExpiry at ht
  refine State.upd_kept hs ?_ ht
  repeat' (first | with_reducible assumption | with_reducible rfl | with_reducible apply Node.when_kept
                  | with_reducible apply Node.raise_kept | intro _ | dsimp -proj only | exact @rfl (List Record) _
                  | exact @rfl (SMap (Option (BitVec 256))) _ | split | with_reducible apply mk_kept)

theorem Node.setSession_kept (n : Node) (s : Session) (h0 : n.Kept rs vk) :
    (Node.setSession n s).Kept rs vk := by
  unfold Node.setSession
  repeat' (first | with_reducible assumption | with_reducible rfl | intro _ | dsimp -proj only | exact @rfl (List Record) _
                  | exact @rfl (SMap (Option (BitVec 256))) _ | split | with_reducible apply mk_kept)

theorem Node.endSession_kept (n : Node) (p : Path) (h0 : n.Kept rs vk) :
    (Node.endSession n p).Kept rs vk := by
  unfold Node.endSession
  repeat' (first | with_reducible assumption | with_reducible rfl | intro _ | dsimp -proj only | exact @rfl (List Record) _
                  | exact @rfl (SMap (Option (BitVec 256))) _ | split | with_reducible apply mk_kept)

theorem Node.publicSession_kept (n : Node) (p : Path) (h0 : n.Kept rs vk) :
    (Node.publicSession n p).Kept rs vk := by
  unfold Node.publicSession
  repeat' (first | with_reducible assumption | with_reducible rfl | with_reducible apply Node.setSession_kept
                  | with_reducible apply Node.endSession_kept | intro _ | dsimp -proj only | exact @rfl (List Record) _
                  | exact @rfl (SMap (Option (BitVec 256))) _ | split)

theorem Node.dropWaits_kept (n : Node) (p : Path) (h0 : n.Kept rs vk) :
    (Node.dropWaits n p).Kept rs vk := by
  unfold Node.dropWaits
  repeat' (first | with_reducible assumption | with_reducible rfl | intro _ | dsimp -proj only | exact @rfl (List Record) _
                  | exact @rfl (SMap (Option (BitVec 256))) _ | split | with_reducible apply mk_kept)

theorem Node.dropTransfer_kept (n : Node) (p : Path) (h0 : n.Kept rs vk) :
    (Node.dropTransfer n p).Kept rs vk := by
  unfold Node.dropTransfer
  repeat' (first | with_reducible assumption | with_reducible rfl | intro _ | dsimp -proj only | exact @rfl (List Record) _
                  | exact @rfl (SMap (Option (BitVec 256))) _ | split | with_reducible apply mk_kept)

theorem Node.putTransfer_kept (n : Node) (t : Transfer) (h0 : n.Kept rs vk) :
    (Node.putTransfer n t).Kept rs vk := by
  unfold Node.putTransfer
  repeat' (first | with_reducible assumption | with_reducible rfl | intro _ | dsimp -proj only | exact @rfl (List Record) _
                  | exact @rfl (SMap (Option (BitVec 256))) _ | split | with_reducible apply mk_kept)

theorem Node.freezeReadout_kept (n : Node) (h0 : n.Kept rs vk) :
    (Node.freezeReadout n).Kept rs vk := by
  unfold Node.freezeReadout
  repeat' (first | with_reducible assumption | with_reducible rfl | intro _ | dsimp -proj only | exact @rfl (List Record) _
                  | exact @rfl (SMap (Option (BitVec 256))) _ | split | with_reducible apply mk_kept)

theorem Node.putMeas_kept (n : Node) (m : Nat) (d : BitVec 256) (h0 : n.Kept rs vk) :
    (Node.putMeas n m d).Kept rs vk := by
  unfold Node.putMeas
  repeat' (first | with_reducible assumption | with_reducible rfl | with_reducible apply Node.putWords_kept)

theorem Node.extendMeas_kept (n : Node) (m : Nat) (d : BitVec 256) (h0 : n.Kept rs vk) :
    (Node.extendMeas n m d).Kept rs vk := by
  unfold Node.extendMeas
  repeat' (first | with_reducible assumption | with_reducible rfl | with_reducible apply Node.putMeas_kept)

theorem Node.measureOwners_kept (n : Node) (h0 : n.Kept rs vk) :
    (Node.measureOwners n).Kept rs vk := by
  unfold Node.measureOwners
  repeat' (first | with_reducible assumption | with_reducible rfl | with_reducible apply Node.each_kept
                  | with_reducible apply Node.extendMeas_kept | intro _)

theorem Node.startMeasures_kept (n : Node) (h0 : n.Kept rs vk) :
    (Node.startMeasures n).Kept rs vk := by
  unfold Node.startMeasures
  repeat' (first | with_reducible assumption | with_reducible rfl | with_reducible apply Node.resetWords_kept
                  | with_reducible apply Node.extendMeas_kept | with_reducible apply Node.measureOwners_kept)

theorem Node.raiseCounter_kept (n : Node) (k v : Nat) (h0 : n.Kept rs vk) :
    (Node.raiseCounter n k v).Kept rs vk := by
  unfold Node.raiseCounter
  repeat' (first | with_reducible assumption | with_reducible rfl | with_reducible apply Node.when_kept
                  | with_reducible apply Node.putWord_kept | with_reducible apply Node.raise_kept | intro _)

theorem Node.setSlot_kept (n : Node) (k v : Nat) (h0 : n.Kept rs vk) :
    (Node.setSlot n k v).Kept rs vk := by
  unfold Node.setSlot
  repeat' (first | with_reducible assumption | with_reducible rfl | with_reducible apply Node.wr_kept)

theorem Node.setSlotHeader_kept (n : Node) (k : Nat) (h : VintageHeader) (h0 : n.Kept rs vk) :
    (Node.setSlotHeader n k h).Kept rs vk := by
  unfold Node.setSlotHeader
  repeat' (first | with_reducible assumption | with_reducible rfl | intro _ | dsimp -proj only | exact @rfl (List Record) _
                  | exact @rfl (SMap (Option (BitVec 256))) _ | split | with_reducible apply mk_kept)

theorem Node.lastErr_kept (n : Node) (r : Nat) (h0 : n.Kept rs vk) :
    (Node.lastErr n r).Kept rs vk := by
  unfold Node.lastErr
  repeat' (first | with_reducible assumption | with_reducible rfl | with_reducible apply Node.wr_kept)

theorem Node.slotRefused_kept (n : Node) (slot reason : Nat) (h0 : n.Kept rs vk) :
    (Node.slotRefused n slot reason).Kept rs vk := by
  unfold Node.slotRefused
  repeat' (first | with_reducible assumption | with_reducible rfl | with_reducible apply Node.count_kept
                  | with_reducible apply Node.raise_kept | intro _ | dsimp -proj only | exact @rfl (List Record) _
                  | exact @rfl (SMap (Option (BitVec 256))) _ | split)

theorem Node.closeSession_kept (n : Node) (slot v : Nat) (h0 : n.Kept rs vk) :
    (Node.closeSession n slot v).Kept rs vk := by
  unfold Node.closeSession
  repeat' (first | with_reducible assumption | with_reducible rfl | with_reducible apply Node.wr_kept
                  | with_reducible apply Node.wrBit_kept | with_reducible apply Node.setSlot_kept | intro _ | dsimp -proj only
                  | exact @rfl (List Record) _ | exact @rfl (SMap (Option (BitVec 256))) _ | split | with_reducible apply mk_kept)

theorem Node.dropSession_kept (n : Node) (h0 : n.Kept rs vk) :
    (Node.dropSession n).Kept rs vk := by
  unfold Node.dropSession
  repeat' (first | with_reducible assumption | with_reducible rfl | with_reducible apply Node.count_kept
                  | with_reducible apply Node.raise_kept | with_reducible apply Node.closeSession_kept | intro _ | dsimp -proj only
                  | exact @rfl (List Record) _ | exact @rfl (SMap (Option (BitVec 256))) _ | split)

theorem Node.updOpen_kept (n : Node) (p : Path) (slot : Nat) (h0 : n.Kept rs vk) :
    (Node.updOpen n p slot).Kept rs vk := by
  unfold Node.updOpen
  repeat' (first | with_reducible assumption | with_reducible rfl | with_reducible apply Node.wr_kept
                  | with_reducible apply Node.raise_kept | with_reducible apply Node.setSlot_kept | with_reducible apply Node.lastErr_kept
                  | intro _ | dsimp -proj only | exact @rfl (List Record) _ | exact @rfl (SMap (Option (BitVec 256))) _ | split
                  | with_reducible apply mk_kept)

theorem Node.updWrite_kept (n : Node) (p : Path) (ofs : Nat) (bytes : List Byte) (h0 : n.Kept rs vk) :
    (Node.updWrite n p ofs bytes).Kept rs vk := by
  unfold Node.updWrite
  repeat' (first | with_reducible assumption | with_reducible rfl | with_reducible apply Node.when_kept
                  | with_reducible apply Node.wr_kept | with_reducible apply Node.putBytes_kept | intro _ | dsimp -proj only
                  | exact @rfl (List Record) _ | exact @rfl (SMap (Option (BitVec 256))) _ | split)

theorem Node.chunkGo_kept (n : Node) (len : Nat) (h0 : n.Kept rs vk) :
    (Node.chunkGo n len).Kept rs vk := by
  unfold Node.chunkGo
  repeat' (first | with_reducible assumption | with_reducible rfl | with_reducible apply Node.updWrite_kept)

theorem Node.updFinish_kept (n : Node) (p : Path) (h0 : n.Kept rs vk) :
    (Node.updFinish n p).Kept rs vk := by
  unfold Node.updFinish
  repeat' (first | with_reducible assumption | with_reducible rfl | with_reducible apply Node.when_kept
                  | with_reducible apply Node.wrBit_kept | intro _ | dsimp -proj only | exact @rfl (List Record) _
                  | exact @rfl (SMap (Option (BitVec 256))) _ | split | with_reducible apply mk_kept)

theorem Node.updAbort_kept (n : Node) (p : Path) (h0 : n.Kept rs vk) :
    (Node.updAbort n p).Kept rs vk := by
  unfold Node.updAbort
  repeat' (first | with_reducible assumption | with_reducible rfl | with_reducible apply Node.when_kept
                  | with_reducible apply Node.dropSession_kept)

theorem execUpdSessionTimeout_kept (s : State) (hs : s.node.Kept rs vk) (s' : State) (ht : execUpdSessionTimeout s = .next s') :
    s'.node.Kept rs vk := by
  unfold execUpdSessionTimeout at ht
  refine State.upd_kept hs ?_ ht
  repeat' (first | with_reducible assumption | with_reducible rfl | with_reducible apply Node.when_kept
                  | with_reducible apply Node.dropSession_kept | intro _)

theorem execSlotVerifyDone_kept (why : Option VintageFault) (s : State) (hs : s.node.Kept rs vk) (s' : State)
    (ht : execSlotVerifyDone why s = .next s') :
    s'.node.Kept rs vk := by
  unfold execSlotVerifyDone at ht
  refine State.upd_kept hs ?_ ht
  repeat' (first | with_reducible assumption | with_reducible rfl | with_reducible apply Node.raise_kept
                  | with_reducible apply Node.setSlotHeader_kept | with_reducible apply Node.lastErr_kept
                  | with_reducible apply Node.slotRefused_kept | with_reducible apply Node.closeSession_kept | intro _ | dsimp -proj only
                  | exact @rfl (List Record) _ | exact @rfl (SMap (Option (BitVec 256))) _ | split)

theorem Node.ownerRefused_kept (n : Node) (slot r : Nat) (h0 : n.Kept rs vk) :
    (Node.ownerRefused n slot r).Kept rs vk := by
  unfold Node.ownerRefused
  repeat' (first | with_reducible assumption | with_reducible rfl | with_reducible apply Node.count_kept
                  | with_reducible apply Node.raise_kept | intro _ | dsimp -proj only | exact @rfl (List Record) _
                  | exact @rfl (SMap (Option (BitVec 256))) _ | split)

theorem Node.ownerChange_kept (n : Node) (o : OwnerRecord) (h0 : n.Kept rs vk) :
    (Node.ownerChange n o).Kept rs vk := by
  unfold Node.ownerChange
  repeat' (first | with_reducible assumption | with_reducible rfl | with_reducible apply Node.raise_kept
                  | with_reducible apply Node.extendMeas_kept | with_reducible apply Node.measureOwners_kept
                  | with_reducible apply Node.raiseCounter_kept | with_reducible apply Node.ownerRefused_kept | intro _ | dsimp -proj only
                  | exact @rfl (List Record) _ | exact @rfl (SMap (Option (BitVec 256))) _ | split | with_reducible apply mk_kept)

theorem Node.setRoleKey_kept (n : Node) (role : Nat) (key : BitVec 256) (h : n.Kept rs vk) (hr : role ≠ 3) :
    (n.setRoleKey role key).Kept rs vk := by
  unfold Node.setRoleKey
  refine Node.raise_kept _ _ _ (Node.extendMeas_kept _ _ _ ?_)
  obtain ⟨hw, hf, hk⟩ := h
  exact ⟨hw, hf, (SMap.get_set_ne (fun _ => none) n.vault.roleKeys (some key) (Ne.symm hr)).trans hk⟩

theorem Node.startQuote_kept (n : Node) (nonce : BitVec 256) (h0 : n.Kept rs vk) :
    (Node.startQuote n nonce).Kept rs vk := by
  unfold Node.startQuote
  repeat' (first | with_reducible assumption | with_reducible rfl | intro _ | dsimp -proj only | exact @rfl (List Record) _
                  | exact @rfl (SMap (Option (BitVec 256))) _ | split | with_reducible apply mk_kept)

theorem execAttestQuoteReady_kept (s : State) (hs : s.node.Kept rs vk) (s' : State) (ht : execAttestQuoteReady s = .next s') :
    s'.node.Kept rs vk := by
  unfold execAttestQuoteReady at ht
  refine State.upd_kept hs ?_ ht
  repeat' (first | with_reducible assumption | with_reducible rfl | with_reducible apply Node.when_kept
                  | with_reducible apply Node.raise_kept | intro _ | dsimp -proj only | exact @rfl (List Record) _
                  | exact @rfl (SMap (Option (BitVec 256))) _ | split | with_reducible apply mk_kept)

theorem Node.turnOn_kept (n : Node) (c : Nat) (h0 : n.Kept rs vk) :
    (Node.turnOn n c).Kept rs vk := by
  unfold Node.turnOn
  repeat' (first | with_reducible assumption | with_reducible rfl | with_reducible apply Node.setChan_kept)

theorem Node.changeChan_kept (n : Node) (c : Nat) (f : Channel → Channel) (h0 : n.Kept rs vk) :
    (Node.changeChan n c f).Kept rs vk := by
  unfold Node.changeChan
  repeat' (first | with_reducible assumption | with_reducible rfl | with_reducible apply Node.when_kept
                  | with_reducible apply Node.setChan_kept | with_reducible apply Node.turnOn_kept | intro _)

theorem Node.turnOns_kept (n before : Node) (h0 : n.Kept rs vk) (_h1 : before.Kept rs vk) :
    (Node.turnOns n before).Kept rs vk := by
  unfold Node.turnOns
  repeat' (first | with_reducible assumption | with_reducible rfl | with_reducible apply Node.when_kept
                  | with_reducible apply Node.each_kept | with_reducible apply Node.turnOn_kept | intro _)

theorem Node.addEnergy_kept (n : Node) (c uj : Nat) (h0 : n.Kept rs vk) :
    (Node.addEnergy n c uj).Kept rs vk := by
  unfold Node.addEnergy
  repeat' (first | with_reducible assumption | with_reducible rfl | with_reducible apply Node.when_kept
                  | with_reducible apply Node.count_kept | with_reducible apply Node.setChan_kept | with_reducible apply Node.raise_kept
                  | intro _)

theorem Node.inrushLock_kept (n : Node) (c : Nat) (h0 : n.Kept rs vk) :
    (Node.inrushLock n c).Kept rs vk := by
  unfold Node.inrushLock
  repeat' (first | with_reducible assumption | with_reducible rfl | with_reducible apply Node.count_kept
                  | with_reducible apply Node.setChan_kept | with_reducible apply Node.raise_kept)

theorem Node.attemptFailed_kept (n : Node) (c : Nat) (h0 : n.Kept rs vk) :
    (Node.attemptFailed n c).Kept rs vk := by
  unfold Node.attemptFailed
  repeat' (first | with_reducible assumption | with_reducible rfl | with_reducible apply Node.when_kept
                  | with_reducible apply Node.setChan_kept | with_reducible apply Node.inrushLock_kept | intro _ | dsimp -proj only
                  | exact @rfl (List Record) _ | exact @rfl (SMap (Option (BitVec 256))) _ | split)

theorem Node.channelsOff_kept (n : Node) (h0 : n.Kept rs vk) :
    (Node.channelsOff n).Kept rs vk := by
  unfold Node.channelsOff
  repeat' (first | with_reducible assumption | with_reducible rfl | with_reducible apply Node.each_kept
                  | with_reducible apply Node.onOuts_kept | with_reducible apply Node.setChan_kept | intro _)

theorem Node.freeEnergy_kept (n : Node) (c : Nat) (h0 : n.Kept rs vk) :
    (Node.freeEnergy n c).Kept rs vk := by
  unfold Node.freeEnergy
  repeat' (first | with_reducible assumption | with_reducible rfl | with_reducible apply Node.took_kept
                  | with_reducible apply Node.addEnergy_kept)

theorem Node.channelsCut_kept (n : Node) (h0 : n.Kept rs vk) :
    (Node.channelsCut n).Kept rs vk := by
  unfold Node.channelsCut
  repeat' (first | with_reducible assumption | with_reducible rfl | with_reducible apply Node.each_kept
                  | with_reducible apply Node.channelsOff_kept | with_reducible apply Node.freeEnergy_kept | intro _)

theorem Node.clearStaging_kept (n : Node) (h0 : n.Kept rs vk) :
    (Node.clearStaging n).Kept rs vk := by
  unfold Node.clearStaging
  repeat' (first | with_reducible assumption | with_reducible rfl | with_reducible apply Node.resetWords_kept | intro _
                  | dsimp -proj only | exact @rfl (List Record) _ | exact @rfl (SMap (Option (BitVec 256))) _ | split
                  | with_reducible apply mk_kept)

theorem Node.holdChannels_kept (n : Node) (h0 : n.Kept rs vk) :
    (Node.holdChannels n).Kept rs vk := by
  unfold Node.holdChannels
  repeat' (first | with_reducible assumption | with_reducible rfl | with_reducible apply Node.each_kept
                  | with_reducible apply Node.setChan_kept | with_reducible apply Node.clearStaging_kept | intro _ | dsimp -proj only
                  | exact @rfl (List Record) _ | exact @rfl (SMap (Option (BitVec 256))) _ | split | with_reducible apply mk_kept)

theorem Node.freshOutputs_kept (n : Node) (h0 : n.Kept rs vk) :
    (Node.freshOutputs n).Kept rs vk := by
  unfold Node.freshOutputs
  repeat' (first | with_reducible assumption | with_reducible rfl | with_reducible apply Node.clearStaging_kept | intro _
                  | dsimp -proj only | exact @rfl (List Record) _ | exact @rfl (SMap (Option (BitVec 256))) _ | split
                  | with_reducible apply mk_kept)

theorem Node.turnedOff_kept (n : Node) (was : List Nat) (energies : List (Fin 24 × Nat)) (h0 : n.Kept rs vk) :
    (Node.turnedOff n was energies).Kept rs vk := by
  unfold Node.turnedOff
  repeat' (first | with_reducible assumption | with_reducible rfl | with_reducible apply Node.when_kept
                  | with_reducible apply Node.each_kept | with_reducible apply Node.addEnergy_kept | intro _)

theorem Node.latchChannel_kept (n : Node) (c : Nat) (m : ChannelSample) (h0 : n.Kept rs vk) :
    (Node.latchChannel n c m).Kept rs vk := by
  unfold Node.latchChannel
  repeat' (first | with_reducible assumption | with_reducible rfl | with_reducible apply Node.wr_kept
                  | with_reducible apply Node.wrBit_kept | with_reducible apply Node.setChan_kept | with_reducible apply foldl_kept
                  | with_reducible apply foldlPair_kept | intro _)

theorem Node.latchInputs_kept (n : Node) (h0 : n.Kept rs vk) :
    (Node.latchInputs n).Kept rs vk := by
  unfold Node.latchInputs
  repeat' (first | with_reducible assumption | with_reducible rfl | with_reducible apply Node.each_kept
                  | with_reducible apply Node.putWords_kept | with_reducible apply Node.wr_kept | with_reducible apply Node.setInput_kept
                  | with_reducible apply foldl_kept | with_reducible apply foldlPair_kept | intro _)

theorem Node.applyWord_kept (n : Node) (c energy : Nat) (h0 : n.Kept rs vk) :
    (Node.applyWord n c energy).Kept rs vk := by
  unfold Node.applyWord
  repeat' (first | with_reducible assumption | with_reducible rfl | with_reducible apply Node.when_kept
                  | with_reducible apply Node.changeChan_kept | with_reducible apply Node.addEnergy_kept | intro _)

theorem Node.outUpdate_kept (n : Node) (samples : List (Fin 24 × ChannelSample)) (vA vB : Nat) (h0 : n.Kept rs vk) :
    (Node.outUpdate n samples vA vB).Kept rs vk := by
  unfold Node.outUpdate
  repeat' (first | with_reducible assumption | with_reducible rfl | with_reducible apply Node.when_kept
                  | with_reducible apply Node.each_kept | with_reducible apply Node.wr_kept | with_reducible apply Node.incr_kept
                  | with_reducible apply Node.onOuts_kept | with_reducible apply Node.changeChan_kept | with_reducible apply Node.turnOns_kept
                  | with_reducible apply Node.latchChannel_kept | with_reducible apply Node.latchInputs_kept
                  | with_reducible apply Node.applyWord_kept | intro _ | dsimp -proj only | exact @rfl (List Record) _
                  | exact @rfl (SMap (Option (BitVec 256))) _ | split)

theorem execInrushWindowClose_kept (ch : Fin 24) (limiting : Bool) (energy : Nat) (s : State) (hs : s.node.Kept rs vk) (s' : State)
    (ht : execInrushWindowClose ch limiting energy s = .next s') :
    s'.node.Kept rs vk := by
  unfold execInrushWindowClose at ht
  refine State.upd_kept hs ?_ ht
  repeat' (first | with_reducible assumption | with_reducible rfl | with_reducible apply Node.when_kept
                  | with_reducible apply Node.setChan_kept | with_reducible apply Node.addEnergy_kept | with_reducible apply Node.inrushLock_kept
                  | intro _ | dsimp -proj only | exact @rfl (List Record) _ | exact @rfl (SMap (Option (BitVec 256))) _ | split)

theorem execRetryAttemptFail_kept (ch : Fin 24) (energy : Nat) (s : State) (hs : s.node.Kept rs vk) (s' : State)
    (ht : execRetryAttemptFail ch energy s = .next s') :
    s'.node.Kept rs vk := by
  unfold execRetryAttemptFail at ht
  refine State.upd_kept hs ?_ ht
  repeat' (first | with_reducible assumption | with_reducible rfl | with_reducible apply Node.when_kept
                  | with_reducible apply Node.addEnergy_kept | with_reducible apply Node.attemptFailed_kept | intro _)

theorem execRetryStart_kept (ch : Fin 24) (s : State) (hs : s.node.Kept rs vk) (s' : State) (ht : execRetryStart ch s = .next s') :
    s'.node.Kept rs vk := by
  unfold execRetryStart at ht
  refine State.upd_kept hs ?_ ht
  repeat' (first | with_reducible assumption | with_reducible rfl | with_reducible apply Node.when_kept
                  | with_reducible apply Node.count_kept | with_reducible apply Node.setChan_kept | intro _)

theorem execRetryWindowClose_kept (ch : Fin 24) (s : State) (hs : s.node.Kept rs vk) (s' : State) (ht : execRetryWindowClose ch s = .next s') :
    s'.node.Kept rs vk := by
  unfold execRetryWindowClose at ht
  refine State.upd_kept hs ?_ ht
  repeat' (first | with_reducible assumption | with_reducible rfl | with_reducible apply Node.setChan_kept
                  | with_reducible apply Node.inrushLock_kept | intro _ | dsimp -proj only | exact @rfl (List Record) _
                  | exact @rfl (SMap (Option (BitVec 256))) _ | split)

theorem execThermalLatchSet_kept (ch : Fin 24) (dt tj : Int) (energy : Nat) (s : State) (hs : s.node.Kept rs vk) (s' : State)
    (ht : execThermalLatchSet ch dt tj energy s = .next s') :
    s'.node.Kept rs vk := by
  unfold execThermalLatchSet at ht
  refine State.upd_kept hs ?_ ht
  repeat' (first | with_reducible assumption | with_reducible rfl | with_reducible apply Node.when_kept
                  | with_reducible apply Node.count_kept | with_reducible apply Node.setChan_kept | with_reducible apply Node.raise_kept
                  | with_reducible apply Node.addEnergy_kept | with_reducible apply Node.attemptFailed_kept | intro _)

theorem execThermalLatchRelease_kept (ch : Fin 24) (dt tj : Int) (s : State) (hs : s.node.Kept rs vk) (s' : State)
    (ht : execThermalLatchRelease ch dt tj s = .next s') :
    s'.node.Kept rs vk := by
  unfold execThermalLatchRelease at ht
  refine State.upd_kept hs ?_ ht
  repeat' (first | with_reducible assumption | with_reducible rfl | with_reducible apply Node.when_kept
                  | with_reducible apply Node.raise_kept | with_reducible apply Node.changeChan_kept | intro _)

theorem Node.clearDone_kept (n : Node) (ch op : Nat) (f : Channel → Channel) (h0 : n.Kept rs vk) :
    (Node.clearDone n ch op f).Kept rs vk := by
  unfold Node.clearDone
  repeat' (first | with_reducible assumption | with_reducible rfl | with_reducible apply Node.setChan_kept
                  | with_reducible apply Node.raise_kept)

theorem Node.clearRefused_kept (n : Node) (ch : Nat) (h0 : n.Kept rs vk) :
    (Node.clearRefused n ch).Kept rs vk := by
  unfold Node.clearRefused
  repeat' (first | with_reducible assumption | with_reducible rfl | with_reducible apply Node.count_kept
                  | with_reducible apply Node.raise_kept)

theorem Node.clearLock_kept (n : Node) (ch op : Nat) (h0 : n.Kept rs vk) :
    (Node.clearLock n ch op).Kept rs vk := by
  unfold Node.clearLock
  repeat' (first | with_reducible assumption | with_reducible rfl | with_reducible apply Node.when_kept
                  | with_reducible apply Node.clearDone_kept | with_reducible apply Node.clearRefused_kept | intro _ | dsimp -proj only
                  | exact @rfl (List Record) _ | exact @rfl (SMap (Option (BitVec 256))) _ | split)

theorem execOutCmdClearClamp_kept (by_ : Initiator) (key : Half) (ch : Fin 24) (s : State) (hs : s.node.Kept rs vk) (s' : State)
    (ht : execOutCmdClearClamp by_ key ch s = .next s') :
    s'.node.Kept rs vk := by
  unfold execOutCmdClearClamp at ht
  refine State.upd_kept hs ?_ ht
  repeat' (first | with_reducible assumption | with_reducible rfl | with_reducible apply Node.when_kept
                  | with_reducible apply Node.access_kept | with_reducible apply Node.clearLock_kept | intro _)

theorem execOutCmdClearInrush_kept (by_ : Initiator) (key : Half) (ch : Fin 24) (s : State) (hs : s.node.Kept rs vk) (s' : State)
    (ht : execOutCmdClearInrush by_ key ch s = .next s') :
    s'.node.Kept rs vk := by
  unfold execOutCmdClearInrush at ht
  refine State.upd_kept hs ?_ ht
  repeat' (first | with_reducible assumption | with_reducible rfl | with_reducible apply Node.when_kept
                  | with_reducible apply Node.access_kept | with_reducible apply Node.clearLock_kept | intro _)

theorem execOutCmdClearShed_kept (by_ : Initiator) (key : Half) (ch : Fin 24) (s : State) (hs : s.node.Kept rs vk) (s' : State)
    (ht : execOutCmdClearShed by_ key ch s = .next s') :
    s'.node.Kept rs vk := by
  unfold execOutCmdClearShed at ht
  refine State.upd_kept hs ?_ ht
  repeat' (first | with_reducible assumption | with_reducible rfl | with_reducible apply Node.when_kept
                  | with_reducible apply Node.access_kept | with_reducible apply Node.clearLock_kept | intro _)

theorem execOpenLoadDetect_kept (ch : Fin 24) (s : State) (hs : s.node.Kept rs vk) (s' : State) (ht : execOpenLoadDetect ch s = .next s') :
    s'.node.Kept rs vk := by
  unfold execOpenLoadDetect at ht
  refine State.upd_kept hs ?_ ht
  repeat' (first | with_reducible assumption | with_reducible rfl | with_reducible apply Node.when_kept
                  | with_reducible apply Node.count_kept | with_reducible apply Node.setChan_kept | with_reducible apply Node.raise_kept
                  | intro _)

theorem execOpenLoadClear_kept (ch : Fin 24) (s : State) (hs : s.node.Kept rs vk) (s' : State) (ht : execOpenLoadClear ch s = .next s') :
    s'.node.Kept rs vk := by
  unfold execOpenLoadClear at ht
  refine State.upd_kept hs ?_ ht
  repeat' (first | with_reducible assumption | with_reducible rfl | with_reducible apply Node.when_kept
                  | with_reducible apply Node.setChan_kept | intro _)

theorem execStbDetect_kept (ch : Fin 24) (s : State) (hs : s.node.Kept rs vk) (s' : State) (ht : execStbDetect ch s = .next s') :
    s'.node.Kept rs vk := by
  unfold execStbDetect at ht
  refine State.upd_kept hs ?_ ht
  repeat' (first | with_reducible assumption | with_reducible rfl | with_reducible apply Node.when_kept
                  | with_reducible apply Node.count_kept | with_reducible apply Node.setChan_kept | with_reducible apply Node.raise_kept
                  | intro _)

theorem execStbClear_kept (ch : Fin 24) (s : State) (hs : s.node.Kept rs vk) (s' : State) (ht : execStbClear ch s = .next s') :
    s'.node.Kept rs vk := by
  unfold execStbClear at ht
  refine State.upd_kept hs ?_ ht
  repeat' (first | with_reducible assumption | with_reducible rfl | with_reducible apply Node.setChan_kept | intro _)

theorem execVloadLow_kept (supplyA : Bool) (lowestMv : Nat) (s : State) (hs : s.node.Kept rs vk) (s' : State)
    (ht : execVloadLow supplyA lowestMv s = .next s') :
    s'.node.Kept rs vk := by
  unfold execVloadLow at ht
  refine State.upd_kept hs ?_ ht
  repeat' (first | with_reducible assumption | with_reducible rfl | with_reducible apply Node.when_kept
                  | with_reducible apply Node.wrBit_kept | with_reducible apply Node.count_kept | with_reducible apply Node.raise_kept | intro _)

theorem execVloadRecover_kept (supplyA : Bool) (s : State) (hs : s.node.Kept rs vk) (s' : State) (ht : execVloadRecover supplyA s = .next s') :
    s'.node.Kept rs vk := by
  unfold execVloadRecover at ht
  refine State.upd_kept hs ?_ ht
  repeat' (first | with_reducible assumption | with_reducible rfl | with_reducible apply Node.wrBit_kept | intro _)

theorem execVloadNoSupply_kept (supplyA below : Bool) (s : State) (hs : s.node.Kept rs vk) (s' : State)
    (ht : execVloadNoSupply supplyA below s = .next s') :
    s'.node.Kept rs vk := by
  unfold execVloadNoSupply at ht
  refine State.upd_kept hs ?_ ht
  repeat' (first | with_reducible assumption | with_reducible rfl | with_reducible apply Node.when_kept
                  | with_reducible apply Node.wrBit_kept | intro _)

theorem execLoadShed_kept (condition : Fin 4) (interval : List LoadSample) (energies : List (Fin 24 × Nat)) (s : State) (hs : s.node.Kept rs vk)
    (s' : State) (ht : execLoadShed condition interval energies s = .next s') :
    s'.node.Kept rs vk := by
  unfold execLoadShed at ht
  refine State.upd_kept hs ?_ ht
  repeat' (first | with_reducible assumption | with_reducible rfl | with_reducible apply Node.each_kept
                  | with_reducible apply Node.count_kept | with_reducible apply Node.onOuts_kept | with_reducible apply Node.setChan_kept
                  | with_reducible apply Node.raise_kept | with_reducible apply Node.turnedOff_kept | intro _ | dsimp -proj only
                  | exact @rfl (List Record) _ | exact @rfl (SMap (Option (BitVec 256))) _ | split)

theorem execOutHoldExpiry_kept (energies : List (Fin 24 × Nat)) (s : State) (hs : s.node.Kept rs vk) (s' : State)
    (ht : execOutHoldExpiry energies s = .next s') :
    s'.node.Kept rs vk := by
  unfold execOutHoldExpiry at ht
  refine State.upd_kept hs ?_ ht
  repeat' (first | with_reducible assumption | with_reducible rfl | with_reducible apply Node.when_kept
                  | with_reducible apply Node.each_kept | with_reducible apply Node.count_kept | with_reducible apply Node.raise_kept
                  | with_reducible apply Node.changeChan_kept | with_reducible apply Node.turnedOff_kept | intro _ | dsimp -proj only
                  | exact @rfl (List Record) _ | exact @rfl (SMap (Option (BitVec 256))) _ | split | with_reducible apply mk_kept)

theorem Node.outputsApplied_kept (n before : Node) (h0 : n.Kept rs vk) (h1 : before.Kept rs vk) :
    (Node.outputsApplied n before).Kept rs vk := by
  unfold Node.outputsApplied
  repeat' (first | with_reducible assumption | with_reducible rfl | with_reducible apply Node.when_kept
                  | with_reducible apply Node.each_kept | with_reducible apply Node.setChan_kept | with_reducible apply Node.turnOns_kept
                  | with_reducible apply Node.freeEnergy_kept | intro _)

theorem execDimPinEdge_kept (pin : Fin 4) (level : Bool) (energies : List (Fin 24 × Nat)) (s : State) (hs : s.node.Kept rs vk) (s' : State)
    (ht : execDimPinEdge pin level energies s = .next s') :
    s'.node.Kept rs vk := by
  unfold execDimPinEdge at ht
  refine State.upd_kept hs ?_ ht
  repeat' (first | with_reducible assumption | with_reducible rfl | with_reducible apply Node.turnedOff_kept | intro _
                  | dsimp -proj only | exact @rfl (List Record) _ | exact @rfl (SMap (Option (BitVec 256))) _ | split
                  | with_reducible apply mk_kept)

theorem execLampPwmPeriod_kept (ch : Fin 4) (vloadMv energy : Nat) (s : State) (hs : s.node.Kept rs vk) (s' : State)
    (ht : execLampPwmPeriod ch vloadMv energy s = .next s') :
    s'.node.Kept rs vk := by
  unfold execLampPwmPeriod at ht
  refine State.upd_kept hs ?_ ht
  repeat' (first | with_reducible assumption | with_reducible rfl | with_reducible apply Node.when_kept
                  | with_reducible apply Node.setChan_kept | with_reducible apply Node.addEnergy_kept | intro _)

theorem execInputSample_kept (mv : List Int) (s : State) (hs : s.node.Kept rs vk) (s' : State) (ht : execInputSample mv s = .next s') :
    s'.node.Kept rs vk := by
  unfold execInputSample at ht
  refine State.upd_kept hs ?_ ht
  repeat' (first | with_reducible assumption | with_reducible rfl | with_reducible apply Node.when_kept
                  | with_reducible apply Node.each_kept | with_reducible apply Node.setInput_kept | intro _)

theorem Node.setWay_kept (n : Node) (key : Nat) (w : Option Way) (h0 : n.Kept rs vk) :
    (Node.setWay n key w).Kept rs vk := by
  unfold Node.setWay
  repeat' (first | with_reducible assumption | with_reducible rfl | intro _ | dsimp -proj only | exact @rfl (List Record) _
                  | exact @rfl (SMap (Option (BitVec 256))) _ | split | with_reducible apply mk_kept)

theorem Node.learn_kept (n : Node) (mac : Mac) (fid p : Nat) (h0 : n.Kept rs vk) :
    (Node.learn n mac fid p).Kept rs vk := by
  unfold Node.learn
  repeat' (first | with_reducible assumption | with_reducible rfl | with_reducible apply Node.count_kept
                  | with_reducible apply Node.raise_kept | with_reducible apply Node.setWay_kept | intro _ | dsimp -proj only
                  | exact @rfl (List Record) _ | exact @rfl (SMap (Option (BitVec 256))) _ | split)

theorem Node.loadStatic_kept (n : Node) (h0 : n.Kept rs vk) :
    (Node.loadStatic n).Kept rs vk := by
  unfold Node.loadStatic
  repeat' (first | with_reducible assumption | with_reducible rfl | with_reducible apply Node.each_kept
                  | with_reducible apply Node.setWay_kept | intro _ | dsimp -proj only | exact @rfl (List Record) _
                  | exact @rfl (SMap (Option (BitVec 256))) _ | split | with_reducible apply mk_kept)

theorem Node.stampEntry_kept (n : Node) (r : Nat × Nat) (stamp : Nat) (h0 : n.Kept rs vk) :
    (Node.stampEntry n r stamp).Kept rs vk := by
  unfold Node.stampEntry
  repeat' (first | with_reducible assumption | with_reducible rfl | intro _ | dsimp -proj only | exact @rfl (List Record) _
                  | exact @rfl (SMap (Option (BitVec 256))) _ | split | with_reducible apply mk_kept)

theorem Node.unsent_kept (n : Node) (tsReq : Option (Nat × Nat)) (h0 : n.Kept rs vk) :
    (Node.unsent n tsReq).Kept rs vk := by
  unfold Node.unsent
  repeat' (first | with_reducible assumption | with_reducible rfl | with_reducible apply Node.stampEntry_kept | intro _
                  | dsimp -proj only | exact @rfl (List Record) _ | exact @rfl (SMap (Option (BitVec 256))) _ | split)

theorem Node.admitTo_kept (n : Node) (h : HeldFrame) (f : Frame) (vid : Nat) (dests : List Nat) (h0 : n.Kept rs vk) :
    (Node.admitTo n h f vid dests).Kept rs vk := by
  unfold Node.admitTo
  repeat' (first | with_reducible assumption | with_reducible rfl | with_reducible apply Node.when_kept
                  | with_reducible apply Node.each_kept | with_reducible apply Node.count_kept | with_reducible apply Node.raise_kept
                  | with_reducible apply Node.refused_kept | with_reducible apply Node.unsent_kept | intro _ | dsimp -proj only
                  | exact @rfl (List Record) _ | exact @rfl (SMap (Option (BitVec 256))) _ | split | with_reducible apply mk_kept)

theorem Node.bridge_kept (n : Node) (h : HeldFrame) (f : Frame) (vid : Nat) (routed : Bool) (h0 : n.Kept rs vk) :
    (Node.bridge n h f vid routed).Kept rs vk := by
  unfold Node.bridge
  repeat' (first | with_reducible assumption | with_reducible rfl | with_reducible apply Node.count_kept
                  | with_reducible apply Node.unsent_kept | with_reducible apply Node.admitTo_kept | intro _ | dsimp -proj only
                  | exact @rfl (List Record) _ | exact @rfl (SMap (Option (BitVec 256))) _ | split)

theorem Node.toVintner_kept (n : Node) (h : HeldFrame) (h0 : n.Kept rs vk) :
    (Node.toVintner n h).Kept rs vk := by
  unfold Node.toVintner
  repeat' (first | with_reducible assumption | with_reducible rfl | with_reducible apply Node.admitTo_kept)

theorem Node.holdInLees_kept (n : Node) (h : HeldFrame) (h0 : n.Kept rs vk) :
    (Node.holdInLees n h).Kept rs vk := by
  unfold Node.holdInLees
  repeat' (first | with_reducible assumption | with_reducible rfl | with_reducible apply Node.count_kept
                  | with_reducible apply Node.raise_kept | with_reducible apply Node.unsent_kept | with_reducible apply foldl_kept
                  | with_reducible apply foldlPair_kept | intro _ | dsimp -proj only | exact @rfl (List Record) _
                  | exact @rfl (SMap (Option (BitVec 256))) _ | split | with_reducible apply mk_kept)

theorem Node.forwardRouted_kept (n : Node) (h : HeldFrame) (ip : Ipv4) (src : Ip) (hop : NextHop) (h0 : n.Kept rs vk) :
    (Node.forwardRouted n h ip src hop).Kept rs vk := by
  unfold Node.forwardRouted
  repeat' (first | with_reducible assumption | with_reducible rfl | with_reducible apply Node.bridge_kept)

theorem Node.routeOn_kept (n : Node) (h : HeldFrame) (ip : Ipv4) (consist checked : Bool) (h0 : n.Kept rs vk) :
    (Node.routeOn n h ip consist checked).Kept rs vk := by
  unfold Node.routeOn
  repeat' (first | with_reducible assumption | with_reducible rfl | with_reducible apply Node.count_kept
                  | with_reducible apply Node.raise_kept | with_reducible apply Node.unsent_kept | with_reducible apply Node.toVintner_kept
                  | with_reducible apply Node.holdInLees_kept | with_reducible apply Node.forwardRouted_kept | intro _ | dsimp -proj only
                  | exact @rfl (List Record) _ | exact @rfl (SMap (Option (BitVec 256))) _ | split)

theorem Node.route_kept (n : Node) (h : HeldFrame) (ip : Ipv4) (consist : Bool) (h0 : n.Kept rs vk) :
    (Node.route n h ip consist).Kept rs vk := by
  unfold Node.route
  repeat' (first | with_reducible assumption | with_reducible rfl | with_reducible apply Node.count_kept
                  | with_reducible apply Node.unsent_kept | with_reducible apply Node.toVintner_kept | with_reducible apply Node.routeOn_kept
                  | intro _ | dsimp -proj only | exact @rfl (List Record) _ | exact @rfl (SMap (Option (BitVec 256))) _ | split)

theorem Node.countRx_kept (n : Node) (p : Nat) (f : Frame) (h0 : n.Kept rs vk) :
    (Node.countRx n p f).Kept rs vk := by
  unfold Node.countRx
  repeat' (first | with_reducible assumption | with_reducible rfl | with_reducible apply Node.when_kept
                  | with_reducible apply Node.countBy_kept | with_reducible apply Node.count_kept | intro _)

theorem Node.lookup_kept (n : Node) (h : HeldFrame) (released : Bool) (h0 : n.Kept rs vk) :
    (Node.lookup n h released).Kept rs vk := by
  unfold Node.lookup
  repeat' (first | with_reducible assumption | with_reducible rfl | with_reducible apply Node.bridge_kept
                  | with_reducible apply Node.toVintner_kept | with_reducible apply Node.routeOn_kept | with_reducible apply Node.route_kept
                  | intro _ | dsimp -proj only | exact @rfl (List Record) _ | exact @rfl (SMap (Option (BitVec 256))) _ | split)

theorem Node.classify_kept (n : Node) (p : Nat) (f : Frame) (tsReq : Option (Nat × Nat)) (h0 : n.Kept rs vk) :
    (Node.classify n p f tsReq).Kept rs vk := by
  unfold Node.classify
  repeat' (first | with_reducible assumption | with_reducible rfl | with_reducible apply Node.when_kept
                  | with_reducible apply Node.count_kept | with_reducible apply Node.learn_kept | with_reducible apply Node.unsent_kept
                  | with_reducible apply Node.admitTo_kept | with_reducible apply Node.bridge_kept | with_reducible apply Node.lookup_kept
                  | intro _ | dsimp -proj only | exact @rfl (List Record) _ | exact @rfl (SMap (Option (BitVec 256))) _ | split
                  | with_reducible apply mk_kept)

theorem Node.queueAt_kept (n : Node) (p q : Nat) (ingress pcp : Nat) (f : Frame) (h0 : n.Kept rs vk) :
    (Node.queueAt n p q ingress pcp f).Kept rs vk := by
  unfold Node.queueAt
  repeat' (first | with_reducible assumption | with_reducible rfl | with_reducible apply Node.count_kept
                  | with_reducible apply Node.raise_kept | with_reducible apply Node.refused_kept | intro _ | dsimp -proj only
                  | exact @rfl (List Record) _ | exact @rfl (SMap (Option (BitVec 256))) _ | split | with_reducible apply mk_kept)

theorem Node.pressQueue_kept (n : Node) (k : Nat) (f : Frame) (stamp : Nat) (h0 : n.Kept rs vk) :
    (Node.pressQueue n k f stamp).Kept rs vk := by
  unfold Node.pressQueue
  repeat' (first | with_reducible assumption | with_reducible rfl | with_reducible apply Node.setPress_kept
                  | with_reducible apply Node.emit_kept)

theorem Node.sendToPress_kept (n : Node) (p : Nat) (f : Frame) (stamp : Nat) (h0 : n.Kept rs vk) :
    (Node.sendToPress n p f stamp).Kept rs vk := by
  unfold Node.sendToPress
  repeat' (first | with_reducible assumption | with_reducible rfl | with_reducible apply Node.count_kept
                  | with_reducible apply Node.raiseFirst_kept | with_reducible apply Node.endRun_kept | with_reducible apply Node.pressQueue_kept
                  | intro _ | dsimp -proj only | exact @rfl (List Record) _ | exact @rfl (SMap (Option (BitVec 256))) _ | split)

theorem Node.accept_kept (n : Node) (p : Nat) (f : Frame) (tsReq : Option (Nat × Nat)) (h0 : n.Kept rs vk) :
    (Node.accept n p f tsReq).Kept rs vk := by
  unfold Node.accept
  repeat' (first | with_reducible assumption | with_reducible rfl | with_reducible apply Node.when_kept
                  | with_reducible apply Node.count_kept | with_reducible apply Node.classify_kept | with_reducible apply Node.queueAt_kept
                  | with_reducible apply Node.sendToPress_kept | intro _ | dsimp -proj only | exact @rfl (List Record) _
                  | exact @rfl (SMap (Option (BitVec 256))) _ | split)

theorem Node.receive_kept (n : Node) (p : Nat) (f : Frame) (rx : RxFlags) (tsReq : Option (Nat × Nat)) (h0 : n.Kept rs vk) :
    (Node.receive n p f rx tsReq).Kept rs vk := by
  unfold Node.receive
  repeat' (first | with_reducible assumption | with_reducible rfl | with_reducible apply Node.count_kept
                  | with_reducible apply Node.unsent_kept | with_reducible apply Node.countRx_kept | with_reducible apply Node.accept_kept
                  | intro _ | dsimp -proj only | exact @rfl (List Record) _ | exact @rfl (SMap (Option (BitVec 256))) _ | split)

theorem Node.inject_kept (n : Node) (p : Nat) (f : Frame) (h0 : n.Kept rs vk) :
    (Node.inject n p f).Kept rs vk := by
  unfold Node.inject
  repeat' (first | with_reducible assumption | with_reducible rfl | with_reducible apply Node.receive_kept)

theorem execFrameReceived_kept (port : Fin 19) (frame : Frame) (rx : RxFlags) (press : Option (Fin 16)) (s : State) (hs : s.node.Kept rs vk)
    (s' : State) (ht : execFrameReceived port frame rx press s = .next s') :
    s'.node.Kept rs vk := by
  unfold execFrameReceived at ht
  refine State.upd_kept hs ?_ ht
  repeat' (first | with_reducible assumption | with_reducible rfl | with_reducible apply Node.when_kept
                  | with_reducible apply Node.receive_kept | intro _ | dsimp -proj only | exact @rfl (List Record) _
                  | exact @rfl (SMap (Option (BitVec 256))) _ | split)

theorem execLearnedEntryAged_kept (bucket : Fin 2048) (way : Fin 8) (s : State) (hs : s.node.Kept rs vk) (s' : State)
    (ht : execLearnedEntryAged bucket way s = .next s') :
    s'.node.Kept rs vk := by
  unfold execLearnedEntryAged at ht
  refine State.upd_kept hs ?_ ht
  repeat' (first | with_reducible assumption | with_reducible rfl | with_reducible apply Node.when_kept
                  | with_reducible apply Node.setWay_kept | intro _ | dsimp -proj only | exact @rfl (List Record) _
                  | exact @rfl (SMap (Option (BitVec 256))) _ | split)

theorem Node.released_kept (n : Node) (gone : List Copy) (h0 : n.Kept rs vk) :
    (Node.released n gone).Kept rs vk := by
  unfold Node.released
  repeat' (first | with_reducible assumption | with_reducible rfl | with_reducible apply Node.when_kept
                  | with_reducible apply Node.each_kept | with_reducible apply Node.stampEntry_kept | intro _ | dsimp -proj only
                  | exact @rfl (List Record) _ | exact @rfl (SMap (Option (BitVec 256))) _ | split)

theorem Node.dropCopies_kept (n : Node) (p : Copy → Bool) (f : Copy → Node → Node) (h0 : n.Kept rs vk) (h1 : ∀ (x0 : Copy)
    (x1 : Node), Node.Kept rs vk x1 → (f x0 x1).Kept rs vk) :
    (Node.dropCopies n p f).Kept rs vk := by
  unfold Node.dropCopies
  repeat' (first | with_reducible assumption | with_reducible rfl | with_reducible apply h1 | with_reducible apply Node.each_kept
                  | with_reducible apply Node.released_kept | intro _ | dsimp -proj only | exact @rfl (List Record) _
                  | exact @rfl (SMap (Option (BitVec 256))) _ | split | with_reducible apply mk_kept)

theorem Node.flushPort_kept (n : Node) (p : Nat) (h0 : n.Kept rs vk) :
    (Node.flushPort n p).Kept rs vk := by
  unfold Node.flushPort
  repeat' (first | with_reducible assumption | with_reducible rfl | with_reducible apply Node.count_kept
                  | with_reducible apply Node.dropCopies_kept | intro _)

theorem Node.cutShort_kept (n : Node) (p : Nat) (h0 : n.Kept rs vk) :
    (Node.cutShort n p).Kept rs vk := by
  unfold Node.cutShort
  repeat' (first | with_reducible assumption | with_reducible rfl | with_reducible apply Node.count_kept
                  | with_reducible apply Node.released_kept | intro _ | dsimp -proj only | exact @rfl (List Record) _
                  | exact @rfl (SMap (Option (BitVec 256))) _ | split | with_reducible apply mk_kept)

theorem Node.countAged_kept (c : Copy) (n : Node) (h0 : n.Kept rs vk) :
    (Node.countAged c n).Kept rs vk := by
  unfold Node.countAged
  repeat' (first | with_reducible assumption | with_reducible rfl | with_reducible apply Node.count_kept
                  | with_reducible apply Node.raise_kept)

theorem Node.trimHead_kept (n : Node) (p q fuel : Nat) (h : n.Kept rs vk) : (n.trimHead p q fuel).Kept rs vk := by
  induction fuel generalizing n with
  | zero => exact h
  | succ k ih =>
    unfold Node.trimHead
    split
    · exact h
    · split
      · exact ih _ (Node.dropCopies_kept _ _ _ h fun c x hx => Node.countAged_kept _ _ hx)
      · split
        · exact ih _ (Node.dropCopies_kept _ _ _ h fun c x hx => Node.count_kept _ _ hx)
        · exact h

theorem Node.headCopy_kept (n : Node) (p q : Nat) (h0 : n.Kept rs vk) :
    (Node.headCopy n p q).1.Kept rs vk := by
  unfold Node.headCopy
  repeat' (first | with_reducible assumption | with_reducible rfl | with_reducible apply Node.trimHead_kept)

theorem Node.copyLeft_kept (n : Node) (c : Copy) (h0 : n.Kept rs vk) :
    (Node.copyLeft n c).Kept rs vk := by
  unfold Node.copyLeft
  repeat' (first | with_reducible assumption | with_reducible rfl | with_reducible apply Node.when_kept
                  | with_reducible apply Node.wr_kept | with_reducible apply Node.countBy_kept | with_reducible apply Node.count_kept
                  | with_reducible apply Node.emit_kept | with_reducible apply Node.stampEntry_kept | intro _ | dsimp -proj only
                  | exact @rfl (List Record) _ | exact @rfl (SMap (Option (BitVec 256))) _ | split | with_reducible apply mk_kept)

theorem Node.ringAdvance_kept (n : Node) (k d wrap : Nat) (detached : Bool) (h0 : n.Kept rs vk) :
    (Node.ringAdvance n k d wrap detached).Kept rs vk := by
  unfold Node.ringAdvance
  repeat' (first | with_reducible assumption | with_reducible rfl | with_reducible apply Node.when_kept
                  | with_reducible apply Node.wr_kept | with_reducible apply Node.setRing_kept | intro _)

theorem Node.ringReport_kept (n : Node) (k : Nat) (h0 : n.Kept rs vk) :
    (Node.ringReport n k).Kept rs vk := by
  unfold Node.ringReport
  repeat' (first | with_reducible assumption | with_reducible rfl | with_reducible apply Node.when_kept
                  | with_reducible apply Node.wr_kept | with_reducible apply Node.setRing_kept | with_reducible apply Node.fire_kept | intro _)

theorem Node.ringDone_kept (n : Node) (k : Nat) (h0 : n.Kept rs vk) :
    (Node.ringDone n k).Kept rs vk := by
  unfold Node.ringDone
  repeat' (first | with_reducible assumption | with_reducible rfl | with_reducible apply Node.when_kept
                  | with_reducible apply Node.setRing_kept | with_reducible apply Node.ringReport_kept | intro _)

theorem Node.setRxWait_kept (n : Node) (q : Nat) (c : Option Copy) (h0 : n.Kept rs vk) :
    (Node.setRxWait n q c).Kept rs vk := by
  unfold Node.setRxWait
  repeat' (first | with_reducible assumption | with_reducible rfl | intro _ | dsimp -proj only | exact @rfl (List Record) _
                  | exact @rfl (SMap (Option (BitVec 256))) _ | split | with_reducible apply mk_kept)

theorem Node.rxWaitDrop_kept (n : Node) (c : Copy) (h0 : n.Kept rs vk) :
    (Node.rxWaitDrop n c).Kept rs vk := by
  unfold Node.rxWaitDrop
  repeat' (first | with_reducible assumption | with_reducible rfl | with_reducible apply Node.count_kept
                  | with_reducible apply Node.raiseFirst_kept | with_reducible apply Node.dropCopies_kept
                  | with_reducible apply Node.setRxWait_kept | intro _)

theorem Node.hpTake_kept (n : Node) (q : Nat) (h : n.Kept rs vk) : (n.hpTake q).Kept rs vk := by
  have hc := Node.headCopy_kept n 16 q h
  unfold Node.hpTake
  split
  · rename_i heq; rw [heq] at hc; exact hc
  · rename_i heq; rw [heq] at hc
    repeat' (first | with_reducible assumption | exact hc | with_reducible apply Node.count_kept
                    | with_reducible apply Node.setRing_kept | with_reducible apply Node.endRun_kept | with_reducible apply Node.dropCopies_kept
                    | with_reducible apply Node.setRxWait_kept | with_reducible apply Node.rxWaitDrop_kept | intro _ | dsimp -proj only | split)

theorem Node.rxRetry_kept (n : Node) (r : Nat) (h0 : n.Kept rs vk) :
    (Node.rxRetry n r).Kept rs vk := by
  unfold Node.rxRetry
  repeat' (first | with_reducible assumption | with_reducible rfl | with_reducible apply Node.when_kept
                  | with_reducible apply Node.each_kept | with_reducible apply Node.hpTake_kept | intro _)

theorem execRxCopyAtHead_kept (queue : Fin 8) (s : State) (hs : s.node.Kept rs vk) (s' : State) (ht : execRxCopyAtHead queue s = .next s') :
    s'.node.Kept rs vk := by
  unfold execRxCopyAtHead at ht
  refine State.upd_kept hs ?_ ht
  repeat' (first | with_reducible assumption | with_reducible rfl | with_reducible apply Node.when_kept
                  | with_reducible apply Node.hpTake_kept | intro _)

theorem execRxWaitExpiry_kept (queue : Fin 8) (s : State) (hs : s.node.Kept rs vk) (s' : State) (ht : execRxWaitExpiry queue s = .next s') :
    s'.node.Kept rs vk := by
  unfold execRxWaitExpiry at ht
  refine State.upd_kept hs ?_ ht
  repeat' (first | with_reducible assumption | with_reducible rfl | with_reducible apply Node.setRxWait_kept
                  | with_reducible apply Node.rxWaitDrop_kept | intro _ | dsimp -proj only | exact @rfl (List Record) _
                  | exact @rfl (SMap (Option (BitVec 256))) _ | split)

theorem execRxFrameWritten_kept (ring : Fin 4) (owned : Bool) (s : State) (hs : s.node.Kept rs vk) (s' : State)
    (ht : execRxFrameWritten ring owned s = .next s') :
    s'.node.Kept rs vk := by
  unfold execRxFrameWritten at ht
  refine State.upd_kept hs ?_ ht
  repeat' (first | with_reducible assumption | with_reducible rfl | with_reducible apply Node.each_kept
                  | with_reducible apply Node.count_kept | with_reducible apply Node.emit_kept | with_reducible apply Node.copyLeft_kept
                  | with_reducible apply Node.ringAdvance_kept | with_reducible apply Node.ringDone_kept | intro _ | dsimp -proj only
                  | exact @rfl (List Record) _ | exact @rfl (SMap (Option (BitVec 256))) _ | split | with_reducible apply mk_kept)

theorem execRingIrqDelayExpiry_kept (tx : Bool) (ring : Fin 4) (s : State) (hs : s.node.Kept rs vk) (s' : State)
    (ht : execRingIrqDelayExpiry tx ring s = .next s') :
    s'.node.Kept rs vk := by
  unfold execRingIrqDelayExpiry at ht
  refine State.upd_kept hs ?_ ht
  repeat' (first | with_reducible assumption | with_reducible rfl | with_reducible apply Node.ringReport_kept | intro _)

theorem Node.txStop_kept (n : Node) (t ix : Nat) (h0 : n.Kept rs vk) :
    (Node.txStop n t ix).Kept rs vk := by
  unfold Node.txStop
  repeat' (first | with_reducible assumption | with_reducible rfl | with_reducible apply Node.wr_kept
                  | with_reducible apply Node.count_kept | with_reducible apply Node.raise_kept)

theorem Node.deviceReadFails_kept (n : Node) (addr : DWord) (h0 : n.Kept rs vk) :
    (Node.deviceReadFails n addr).Kept rs vk := by
  unfold Node.deviceReadFails
  repeat' (first | with_reducible assumption | with_reducible rfl | with_reducible apply Node.count_kept
                  | with_reducible apply Node.raise_kept)

theorem Node.txHold_kept (n : Node) (t : Nat) (l : List TxDesc) (status : Nat) (h0 : n.Kept rs vk) :
    (Node.txHold n t l status).Kept rs vk := by
  unfold Node.txHold
  repeat' (first | with_reducible assumption | with_reducible rfl | with_reducible apply Node.setRing_kept | intro _
                  | dsimp -proj only | exact @rfl (List Record) _ | exact @rfl (SMap (Option (BitVec 256))) _ | split
                  | with_reducible apply mk_kept)

theorem Node.txFetchFails_kept (n : Node) (t : Nat) (l : List TxDesc) (addr : DWord) (h0 : n.Kept rs vk) :
    (Node.txFetchFails n t l addr).Kept rs vk := by
  unfold Node.txFetchFails
  repeat' (first | with_reducible assumption | with_reducible rfl | with_reducible apply Node.when_kept
                  | with_reducible apply Node.txStop_kept | with_reducible apply Node.deviceReadFails_kept | with_reducible apply Node.txHold_kept
                  | intro _)

theorem execTxRingFetch_kept (descs : List TxDesc) (frame : Frame) (s : State) (hs : s.node.Kept rs vk) (s' : State)
    (ht : execTxRingFetch descs frame s = .next s') :
    s'.node.Kept rs vk := by
  unfold execTxRingFetch at ht
  refine State.upd_kept hs ?_ ht
  repeat' (first | with_reducible assumption | with_reducible rfl | with_reducible apply Node.when_kept
                  | with_reducible apply Node.took_kept | with_reducible apply Node.receive_kept | with_reducible apply Node.txStop_kept
                  | with_reducible apply Node.txHold_kept | with_reducible apply Node.txFetchFails_kept | with_reducible apply foldl_kept
                  | with_reducible apply foldlPair_kept | intro _ | dsimp -proj only | exact @rfl (List Record) _
                  | exact @rfl (SMap (Option (BitVec 256))) _ | split)

theorem execTxWriteback_kept (s : State) (hs : s.node.Kept rs vk) (s' : State) (ht : execTxWriteback s = .next s') :
    s'.node.Kept rs vk := by
  unfold execTxWriteback at ht
  refine State.upd_kept hs ?_ ht
  repeat' (first | with_reducible assumption | with_reducible rfl | with_reducible apply Node.when_kept
                  | with_reducible apply Node.each_kept | with_reducible apply Node.emit_kept | with_reducible apply Node.ringAdvance_kept
                  | with_reducible apply Node.ringDone_kept | intro _ | dsimp -proj only | exact @rfl (List Record) _
                  | exact @rfl (SMap (Option (BitVec 256))) _ | split | with_reducible apply mk_kept)

theorem Node.ringTail_kept (n : Node) (k v : Nat) (h0 : n.Kept rs vk) :
    (Node.ringTail n k v).Kept rs vk := by
  unfold Node.ringTail
  repeat' (first | with_reducible assumption | with_reducible rfl | with_reducible apply Node.when_kept
                  | with_reducible apply Node.wr_kept | with_reducible apply Node.count_kept | with_reducible apply Node.rxRetry_kept | intro _
                  | dsimp -proj only | exact @rfl (List Record) _ | exact @rfl (SMap (Option (BitVec 256))) _ | split)

theorem execTailWrite_kept (by_ : Initiator) (tx : Bool) (ring : Fin 4) (v : Half) (s : State) (hs : s.node.Kept rs vk) (s' : State)
    (ht : execTailWrite by_ tx ring v s = .next s') :
    s'.node.Kept rs vk := by
  unfold execTailWrite at ht
  refine State.upd_kept hs ?_ ht
  repeat' (first | with_reducible assumption | with_reducible rfl | with_reducible apply Node.access_kept
                  | with_reducible apply Node.ringTail_kept | intro _)

theorem Node.detachRing_kept (n : Node) (k : Nat) (h0 : n.Kept rs vk) :
    (Node.detachRing n k).Kept rs vk := by
  unfold Node.detachRing
  repeat' (first | with_reducible assumption | with_reducible rfl | with_reducible apply Node.setRing_kept | intro _
                  | dsimp -proj only | exact @rfl (List Record) _ | exact @rfl (SMap (Option (BitVec 256))) _ | split
                  | with_reducible apply mk_kept)

theorem Node.ringCfg_kept (n : Node) (k size : Nat) (irqEn : Bool) (h0 : n.Kept rs vk) :
    (Node.ringCfg n k size irqEn).Kept rs vk := by
  unfold Node.ringCfg
  repeat' (first | with_reducible assumption | with_reducible rfl | with_reducible apply Node.when_kept
                  | with_reducible apply Node.wr_kept | with_reducible apply Node.wrBit_kept | with_reducible apply Node.count_kept
                  | with_reducible apply Node.rxRetry_kept | with_reducible apply Node.detachRing_kept | intro _ | dsimp -proj only
                  | exact @rfl (List Record) _ | exact @rfl (SMap (Option (BitVec 256))) _ | split)

theorem execRingSizeWrite_kept (by_ : Initiator) (tx : Bool) (ring : Fin 4) (size : Half) (irqEn : Bool) (s : State) (hs : s.node.Kept rs vk)
    (s' : State) (ht : execRingSizeWrite by_ tx ring size irqEn s = .next s') :
    s'.node.Kept rs vk := by
  unfold execRingSizeWrite at ht
  refine State.upd_kept hs ?_ ht
  repeat' (first | with_reducible assumption | with_reducible rfl | with_reducible apply Node.access_kept
                  | with_reducible apply Node.ringCfg_kept | intro _)

theorem Node.setOrigin_kept (n : Node) (ns : Int) (h0 : n.Kept rs vk) :
    (Node.setOrigin n ns).Kept rs vk := by
  unfold Node.setOrigin
  repeat' (first | with_reducible assumption | with_reducible rfl | with_reducible apply Node.putShadows_kept
                  | with_reducible apply Node.putForces_kept)

theorem Node.startAction_kept (n : Node) (i a : Nat) (f : Node → Node) (h0 : n.Kept rs vk) (h1 : ∀ (x0 : Node), Node.Kept rs vk x0 →
    (f x0).Kept rs vk) :
    (Node.startAction n i a f).Kept rs vk := by
  unfold Node.startAction
  repeat' (first | with_reducible assumption | with_reducible rfl | with_reducible apply h1 | with_reducible apply Node.when_kept
                  | with_reducible apply Node.count_kept | with_reducible apply Node.raise_kept | with_reducible apply Node.xabort_kept | intro _
                  | dsimp -proj only | exact @rfl (List Record) _ | exact @rfl (SMap (Option (BitVec 256))) _ | split)

theorem Node.occupy_kept (n : Node) (i a : Nat) (h0 : n.Kept rs vk) :
    (Node.occupy n i a).Kept rs vk := by
  unfold Node.occupy
  repeat' (first | with_reducible assumption | with_reducible rfl | intro _ | dsimp -proj only | exact @rfl (List Record) _
                  | exact @rfl (SMap (Option (BitVec 256))) _ | split | with_reducible apply mk_kept)

theorem Node.actionDone_kept (n : Node) (i lateNs : Nat) (h0 : n.Kept rs vk) :
    (Node.actionDone n i lateNs).Kept rs vk := by
  unfold Node.actionDone
  repeat' (first | with_reducible assumption | with_reducible rfl | with_reducible apply Node.when_kept
                  | with_reducible apply Node.wr_kept | with_reducible apply Node.count_kept | with_reducible apply Node.raise_kept | intro _
                  | dsimp -proj only | exact @rfl (List Record) _ | exact @rfl (SMap (Option (BitVec 256))) _ | split
                  | with_reducible apply mk_kept)

theorem execGateWindowOpen_kept (entry : Nat) (s : State) (hs : s.node.Kept rs vk) (s' : State) (ht : execGateWindowOpen entry s = .next s') :
    s'.node.Kept rs vk := by
  unfold execGateWindowOpen at ht
  refine State.upd_kept hs ?_ ht
  repeat' (first | with_reducible assumption | with_reducible rfl | with_reducible apply Node.when_kept | intro _
                  | dsimp -proj only | exact @rfl (List Record) _ | exact @rfl (SMap (Option (BitVec 256))) _ | split
                  | with_reducible apply mk_kept)

theorem execGateWindowClose_kept (entry : Nat) (s : State) (hs : s.node.Kept rs vk) (s' : State) (ht : execGateWindowClose entry s = .next s') :
    s'.node.Kept rs vk := by
  unfold execGateWindowClose at ht
  refine State.upd_kept hs ?_ ht
  repeat' (first | with_reducible assumption | with_reducible rfl | intro _ | dsimp -proj only | exact @rfl (List Record) _
                  | exact @rfl (SMap (Option (BitVec 256))) _ | split | with_reducible apply mk_kept)

theorem Node.setSending_kept (n : Node) (p : Nat) (c : Option Copy) (h0 : n.Kept rs vk) :
    (Node.setSending n p c).Kept rs vk := by
  unfold Node.setSending
  repeat' (first | with_reducible assumption | with_reducible rfl | intro _ | dsimp -proj only | exact @rfl (List Record) _
                  | exact @rfl (SMap (Option (BitVec 256))) _ | split | with_reducible apply mk_kept)

theorem Node.selectFrom_kept (n : Node) (p ns q : Nat) (h : n.Kept rs vk) : (n.selectFrom p ns q).Kept rs vk := by
  induction q generalizing n with
  | zero => exact h
  | succ q ih =>
    have hc := Node.headCopy_kept n p q h
    unfold Node.selectFrom
    split
    · rename_i heq; rw [heq] at hc; exact ih _ hc
    · rename_i heq; rw [heq] at hc
      repeat' (first | with_reducible assumption | exact hc | with_reducible apply ih | with_reducible apply Node.hpTake_kept
                      | with_reducible apply Node.setSending_kept | intro _ | dsimp -proj only | split)

theorem execCopySelected_kept (port : Fin 19) (ns : Nat) (s : State) (hs : s.node.Kept rs vk) (s' : State)
    (ht : execCopySelected port ns s = .next s') :
    s'.node.Kept rs vk := by
  unfold execCopySelected at ht
  refine State.upd_kept hs ?_ ht
  repeat' (first | with_reducible assumption | with_reducible rfl | with_reducible apply Node.when_kept
                  | with_reducible apply Node.selectFrom_kept | intro _)

theorem Node.gateSpill_kept (n : Node) (h0 : n.Kept rs vk) :
    (Node.gateSpill n).Kept rs vk := by
  unfold Node.gateSpill
  repeat' (first | with_reducible assumption | with_reducible rfl | with_reducible apply Node.when_kept
                  | with_reducible apply Node.each_kept | with_reducible apply Node.count_kept | intro _ | dsimp -proj only
                  | exact @rfl (List Record) _ | exact @rfl (SMap (Option (BitVec 256))) _ | split)

theorem Node.awaitOrigin_kept (n : Node) (h0 : n.Kept rs vk) :
    (Node.awaitOrigin n).Kept rs vk := by
  unfold Node.awaitOrigin
  repeat' (first | with_reducible assumption | with_reducible rfl | intro _ | dsimp -proj only | exact @rfl (List Record) _
                  | exact @rfl (SMap (Option (BitVec 256))) _ | split | with_reducible apply mk_kept)

theorem Node.endHolds_kept (n : Node) (h0 : n.Kept rs vk) :
    (Node.endHolds n).Kept rs vk := by
  unfold Node.endHolds
  repeat' (first | with_reducible assumption | with_reducible rfl | with_reducible apply Node.wrBit_kept | intro _
                  | dsimp -proj only | exact @rfl (List Record) _ | exact @rfl (SMap (Option (BitVec 256))) _ | split
                  | with_reducible apply mk_kept)

theorem Node.scheduleApplied_kept (n before : Node) (h0 : n.Kept rs vk) (_h1 : before.Kept rs vk) :
    (Node.scheduleApplied n before).Kept rs vk := by
  unfold Node.scheduleApplied
  repeat' (first | with_reducible assumption | with_reducible rfl | with_reducible apply Node.when_kept
                  | with_reducible apply Node.wr_kept | with_reducible apply Node.setOrigin_kept | with_reducible apply Node.gateSpill_kept
                  | with_reducible apply Node.awaitOrigin_kept | with_reducible apply Node.endHolds_kept | intro _ | dsimp -proj only
                  | exact @rfl (List Record) _ | exact @rfl (SMap (Option (BitVec 256))) _ | split | with_reducible apply mk_kept)

theorem Node.bufferError_kept (n : Node) (cask port : Nat) (h0 : n.Kept rs vk) :
    (Node.bufferError n cask port).Kept rs vk := by
  unfold Node.bufferError
  repeat' (first | with_reducible assumption | with_reducible rfl | with_reducible apply Node.when_kept
                  | with_reducible apply Node.wr_kept | with_reducible apply Node.count_kept | with_reducible apply Node.addFault_kept
                  | with_reducible apply Node.raise_kept | intro _ | dsimp -proj only | exact @rfl (List Record) _
                  | exact @rfl (SMap (Option (BitVec 256))) _ | split | with_reducible apply mk_kept)

theorem Node.correct_kept (n : Node) (c : Copy) (h0 : n.Kept rs vk) :
    (Node.correct n c).1.Kept rs vk := by
  unfold Node.correct
  repeat' (first | with_reducible assumption | with_reducible rfl | with_reducible apply Node.when_kept
                  | with_reducible apply Node.count_kept | with_reducible apply Node.raiseFirst_kept | with_reducible apply Node.endRun_kept
                  | intro _ | dsimp -proj only | exact @rfl (List Record) _ | exact @rfl (SMap (Option (BitVec 256))) _ | split)

theorem Node.vintnerTakes_kept (n : Node) (c : Copy) (h0 : n.Kept rs vk) :
    (Node.vintnerTakes n c).Kept rs vk := by
  unfold Node.vintnerTakes
  repeat' (first | with_reducible assumption | with_reducible rfl | with_reducible apply Node.when_kept
                  | with_reducible apply Node.emit_kept | intro _ | dsimp -proj only | exact @rfl (List Record) _
                  | exact @rfl (SMap (Option (BitVec 256))) _ | split)

theorem execCopySent_kept (port : Fin 19) (ecc : EccResult) (cask : Nat) (s : State) (hs : s.node.Kept rs vk) (s' : State)
    (ht : execCopySent port ecc cask s = .next s') :
    s'.node.Kept rs vk := by
  unfold execCopySent at ht
  refine State.upd_kept hs ?_ ht
  repeat' (first | with_reducible assumption | with_reducible rfl | with_reducible apply Node.when_kept
                  | with_reducible apply Node.count_kept | with_reducible apply Node.emit_kept | with_reducible apply Node.copyLeft_kept
                  | with_reducible apply Node.setSending_kept | with_reducible apply Node.bufferError_kept
                  | with_reducible apply Node.correct_kept | with_reducible apply Node.vintnerTakes_kept | intro _ | dsimp -proj only
                  | exact @rfl (List Record) _ | exact @rfl (SMap (Option (BitVec 256))) _ | split)

theorem execAgeingSweep_kept (s : State) (hs : s.node.Kept rs vk) (s' : State) (ht : execAgeingSweep s = .next s') :
    s'.node.Kept rs vk := by
  unfold execAgeingSweep at ht
  refine State.upd_kept hs ?_ ht
  repeat' (first | with_reducible assumption | with_reducible rfl | with_reducible apply Node.when_kept
                  | with_reducible apply Node.each_kept | with_reducible apply Node.count_kept | with_reducible apply Node.raise_kept
                  | with_reducible apply Node.dropCopies_kept | with_reducible apply Node.countAged_kept | intro _ | dsimp -proj only
                  | exact @rfl (List Record) _ | exact @rfl (SMap (Option (BitVec 256))) _ | split | with_reducible apply mk_kept)

theorem execBufferScrubLine_kept (line : Nat) (holder : Option Nat) (result : EccResult) (s : State) (hs : s.node.Kept rs vk) (s' : State)
    (ht : execBufferScrubLine line holder result s = .next s') :
    s'.node.Kept rs vk := by
  unfold execBufferScrubLine at ht
  refine State.upd_kept hs ?_ ht
  repeat' (first | with_reducible assumption | with_reducible rfl | with_reducible apply Node.when_kept
                  | with_reducible apply Node.count_kept | with_reducible apply Node.incr_kept | with_reducible apply Node.dropCopies_kept
                  | with_reducible apply Node.bufferError_kept | intro _ | dsimp -proj only | exact @rfl (List Record) _
                  | exact @rfl (SMap (Option (BitVec 256))) _ | split | with_reducible apply mk_kept)

theorem execLeesReleaseFrame_kept (s : State) (hs : s.node.Kept rs vk) (s' : State) (ht : execLeesReleaseFrame s = .next s') :
    s'.node.Kept rs vk := by
  unfold execLeesReleaseFrame at ht
  refine State.upd_kept hs ?_ ht
  repeat' (first | with_reducible assumption | with_reducible rfl | with_reducible apply Node.when_kept
                  | with_reducible apply Node.lookup_kept | intro _ | dsimp -proj only | exact @rfl (List Record) _
                  | exact @rfl (SMap (Option (BitVec 256))) _ | split | with_reducible apply mk_kept)

theorem execMdCollision_kept (md : Fin 2) (s : State) (hs : s.node.Kept rs vk) (s' : State) (ht : execMdCollision md s = .next s') :
    s'.node.Kept rs vk := by
  unfold execMdCollision at ht
  refine State.upd_kept hs ?_ ht
  repeat' (first | with_reducible assumption | with_reducible rfl | with_reducible apply Node.count_kept
                  | with_reducible apply Node.setPort_kept | with_reducible apply Node.took_kept | with_reducible apply Node.raise_kept
                  | with_reducible apply Node.released_kept | with_reducible apply Node.setSending_kept | intro _ | dsimp -proj only
                  | exact @rfl (List Record) _ | exact @rfl (SMap (Option (BitVec 256))) _ | split | with_reducible apply mk_kept)

theorem execMdBackoffEnd_kept (md : Fin 2) (s : State) (hs : s.node.Kept rs vk) (s' : State) (ht : execMdBackoffEnd md s = .next s') :
    s'.node.Kept rs vk := by
  unfold execMdBackoffEnd at ht
  refine State.upd_kept hs ?_ ht
  repeat' (first | with_reducible assumption | with_reducible rfl | with_reducible apply Node.setPort_kept | intro _)

theorem execLateCollision_kept (md : Fin 2) (s : State) (hs : s.node.Kept rs vk) (s' : State) (ht : execLateCollision md s = .next s') :
    s'.node.Kept rs vk := by
  unfold execLateCollision at ht
  refine State.upd_kept hs ?_ ht
  repeat' (first | with_reducible assumption | with_reducible rfl | with_reducible apply Node.count_kept
                  | with_reducible apply Node.raise_kept | with_reducible apply Node.released_kept | with_reducible apply Node.setSending_kept
                  | intro _ | dsimp -proj only | exact @rfl (List Record) _ | exact @rfl (SMap (Option (BitVec 256))) _ | split)

theorem Node.inaState_kept (n : Node) (v : Nat) (h0 : n.Kept rs vk) :
    (Node.inaState n v).Kept rs vk := by
  unfold Node.inaState
  repeat' (first | with_reducible assumption | with_reducible rfl | with_reducible apply Node.wr_kept)

theorem Node.ownLines_kept (n : Node) (h0 : n.Kept rs vk) :
    (Node.ownLines n).Kept rs vk := by
  unfold Node.ownLines
  repeat' (first | with_reducible assumption | with_reducible rfl | with_reducible apply Node.when_kept
                  | with_reducible apply Node.wr_kept | intro _)

theorem Node.otherLines_kept (n : Node) (info : ConsistInfo) (h0 : n.Kept rs vk) :
    (Node.otherLines n info).Kept rs vk := by
  unfold Node.otherLines
  repeat' (first | with_reducible assumption | with_reducible rfl | with_reducible apply Node.when_kept
                  | with_reducible apply Node.wr_kept | intro _ | dsimp -proj only | exact @rfl (List Record) _
                  | exact @rfl (SMap (Option (BitVec 256))) _ | split | with_reducible apply mk_kept)

theorem Node.showSpec_kept (n : Node) (target kind : Nat) (counter : Word) (h0 : n.Kept rs vk) :
    (Node.showSpec n target kind counter).Kept rs vk := by
  unfold Node.showSpec
  repeat' (first | with_reducible assumption | with_reducible rfl | with_reducible apply Node.wr_kept
                  | with_reducible apply Node.wrBit_kept | with_reducible apply Node.setSpec_kept)

theorem Node.freeLees_kept (n : Node) (h0 : n.Kept rs vk) :
    (Node.freeLees n).Kept rs vk := by
  unfold Node.freeLees
  repeat' (first | with_reducible assumption | with_reducible rfl | with_reducible apply Node.each_kept
                  | with_reducible apply Node.countBy_kept | with_reducible apply Node.stampEntry_kept | intro _ | dsimp -proj only
                  | exact @rfl (List Record) _ | exact @rfl (SMap (Option (BitVec 256))) _ | split | with_reducible apply mk_kept)

theorem Node.endSpec_kept (n : Node) (h0 : n.Kept rs vk) :
    (Node.endSpec n).Kept rs vk := by
  unfold Node.endSpec
  repeat' (first | with_reducible assumption | with_reducible rfl | with_reducible apply Node.showSpec_kept | intro _
                  | dsimp -proj only | exact @rfl (List Record) _ | exact @rfl (SMap (Option (BitVec 256))) _ | split
                  | with_reducible apply mk_kept)

theorem Node.dropSpec_kept (n : Node) (reason : Nat) (h0 : n.Kept rs vk) :
    (Node.dropSpec n reason).Kept rs vk := by
  unfold Node.dropSpec
  repeat' (first | with_reducible assumption | with_reducible rfl | with_reducible apply Node.when_kept
                  | with_reducible apply Node.raise_kept | with_reducible apply Node.inaState_kept | with_reducible apply Node.freeLees_kept
                  | with_reducible apply Node.endSpec_kept | intro _ | dsimp -proj only | exact @rfl (List Record) _
                  | exact @rfl (SMap (Option (BitVec 256))) _ | split | with_reducible apply mk_kept)

theorem Node.startSpec_kept (n : Node) (index : Nat) (v : GraftVariant) (t : List ConsistInfo) (trigger leadNs : Nat) (h0 : n.Kept rs vk) :
    (Node.startSpec n index v t trigger leadNs).Kept rs vk := by
  unfold Node.startSpec
  repeat' (first | with_reducible assumption | with_reducible rfl | with_reducible apply Node.raiseAs_kept
                  | with_reducible apply Node.inaState_kept | with_reducible apply Node.showSpec_kept | intro _ | dsimp -proj only
                  | exact @rfl (List Record) _ | exact @rfl (SMap (Option (BitVec 256))) _ | split | with_reducible apply mk_kept)

theorem Node.refineSpec_kept (n : Node) (t : List ConsistInfo) (h0 : n.Kept rs vk) :
    (Node.refineSpec n t).Kept rs vk := by
  unfold Node.refineSpec
  repeat' (first | with_reducible assumption | with_reducible rfl | with_reducible apply Node.wr_kept | intro _ | dsimp -proj only
                  | exact @rfl (List Record) _ | exact @rfl (SMap (Option (BitVec 256))) _ | split | with_reducible apply mk_kept)

theorem Node.decideCommit_kept (n : Node) (c : TopoCommit) (h0 : n.Kept rs vk) :
    (Node.decideCommit n c).Kept rs vk := by
  unfold Node.decideCommit
  repeat' (first | with_reducible assumption | with_reducible rfl | with_reducible apply Node.inaState_kept | intro _
                  | dsimp -proj only | exact @rfl (List Record) _ | exact @rfl (SMap (Option (BitVec 256))) _ | split
                  | with_reducible apply mk_kept)

theorem Node.startRecompute_kept (n : Node) (h0 : n.Kept rs vk) :
    (Node.startRecompute n).Kept rs vk := by
  unfold Node.startRecompute
  repeat' (first | with_reducible assumption | with_reducible rfl | with_reducible apply Node.when_kept
                  | with_reducible apply Node.count_kept | with_reducible apply Node.raise_kept | with_reducible apply Node.reloadGroup_kept
                  | with_reducible apply Node.setCode_kept | with_reducible apply Node.inaState_kept | intro _ | dsimp -proj only
                  | exact @rfl (List Record) _ | exact @rfl (SMap (Option (BitVec 256))) _ | split | with_reducible apply mk_kept)

theorem Node.settle_kept (n : Node) (h0 : n.Kept rs vk) :
    (Node.settle n).Kept rs vk := by
  unfold Node.settle
  repeat' (first | with_reducible assumption | with_reducible rfl | with_reducible apply Node.when_kept
                  | with_reducible apply Node.dropSpec_kept | with_reducible apply Node.decideCommit_kept
                  | with_reducible apply Node.startRecompute_kept | intro _ | dsimp -proj only | exact @rfl (List Record) _
                  | exact @rfl (SMap (Option (BitVec 256))) _ | split)

theorem Node.tableChange_kept (n : Node) (t : List ConsistInfo) (trigger leadNs : Nat) (h0 : n.Kept rs vk) :
    (Node.tableChange n t trigger leadNs).Kept rs vk := by
  unfold Node.tableChange
  repeat' (first | with_reducible assumption | with_reducible rfl | with_reducible apply Node.inaState_kept
                  | with_reducible apply Node.dropSpec_kept | with_reducible apply Node.startSpec_kept | with_reducible apply Node.refineSpec_kept
                  | intro _ | dsimp -proj only | exact @rfl (List Record) _ | exact @rfl (SMap (Option (BitVec 256))) _ | split
                  | with_reducible apply mk_kept)

theorem Node.learnTable_kept (n : Node) (t : List ConsistInfo) (h0 : n.Kept rs vk) :
    (Node.learnTable n t).Kept rs vk := by
  unfold Node.learnTable
  repeat' (first | with_reducible assumption | with_reducible rfl | with_reducible apply Node.refineSpec_kept | intro _
                  | dsimp -proj only | exact @rfl (List Record) _ | exact @rfl (SMap (Option (BitVec 256))) _ | split
                  | with_reducible apply mk_kept)

theorem Node.direction_kept (n : Node) (d : Nat) (up : Bool) (leadNs : Nat) (h0 : n.Kept rs vk) :
    (Node.direction n d up leadNs).Kept rs vk := by
  unfold Node.direction
  repeat' (first | with_reducible assumption | with_reducible rfl | with_reducible apply Node.when_kept
                  | with_reducible apply Node.tableChange_kept | intro _ | dsimp -proj only | exact @rfl (List Record) _
                  | exact @rfl (SMap (Option (BitVec 256))) _ | split)

theorem Node.refreshLines_kept (n : Node) (leadNs : Nat) (h0 : n.Kept rs vk) :
    (Node.refreshLines n leadNs).Kept rs vk := by
  unfold Node.refreshLines
  repeat' (first | with_reducible assumption | with_reducible rfl | with_reducible apply Node.when_kept
                  | with_reducible apply Node.each_kept | with_reducible apply Node.wrBit_kept | with_reducible apply Node.setLine_kept
                  | with_reducible apply Node.raise_kept | with_reducible apply Node.ownLines_kept | with_reducible apply Node.settle_kept
                  | with_reducible apply Node.direction_kept | intro _)

theorem Node.startInaug_kept (n : Node) (h0 : n.Kept rs vk) :
    (Node.startInaug n).Kept rs vk := by
  unfold Node.startInaug
  repeat' (first | with_reducible assumption | with_reducible rfl | with_reducible apply Node.when_kept
                  | with_reducible apply Node.each_kept | with_reducible apply Node.settle_kept | with_reducible apply Node.direction_kept
                  | with_reducible apply Node.refreshLines_kept | intro _ | dsimp -proj only | exact @rfl (List Record) _
                  | exact @rfl (SMap (Option (BitVec 256))) _ | split | with_reducible apply mk_kept)

theorem Node.hearNew_kept (n : Node) (k : Nat) (c : ConsistInfo) (h0 : n.Kept rs vk) :
    (Node.hearNew n k c).Kept rs vk := by
  unfold Node.hearNew
  repeat' (first | with_reducible assumption | with_reducible rfl | with_reducible apply Node.when_kept
                  | with_reducible apply Node.learnTable_kept | intro _ | dsimp -proj only | exact @rfl (List Record) _
                  | exact @rfl (SMap (Option (BitVec 256))) _ | split)

theorem Node.hello_kept (n : Node) (k : Nat) (mac : Mac) (info : Option ConsistInfo) (leadNs : Nat) (h0 : n.Kept rs vk) :
    (Node.hello n k mac info leadNs).Kept rs vk := by
  unfold Node.hello
  repeat' (first | with_reducible assumption | with_reducible rfl | with_reducible apply Node.when_kept
                  | with_reducible apply Node.setLine_kept | with_reducible apply Node.otherLines_kept | with_reducible apply Node.settle_kept
                  | with_reducible apply Node.refreshLines_kept | with_reducible apply Node.hearNew_kept | intro _ | dsimp -proj only
                  | exact @rfl (List Record) _ | exact @rfl (SMap (Option (BitVec 256))) _ | split)

theorem Node.topology_kept (n : Node) (k : Nat) (mac : Mac) (t : List ConsistInfo) (counter : Word) (leadNs : Nat) (h0 : n.Kept rs vk) :
    (Node.topology n k mac t counter leadNs).Kept rs vk := by
  unfold Node.topology
  repeat' (first | with_reducible assumption | with_reducible rfl | with_reducible apply Node.when_kept
                  | with_reducible apply Node.count_kept | with_reducible apply Node.raise_kept | with_reducible apply Node.otherLines_kept
                  | with_reducible apply Node.settle_kept | with_reducible apply Node.tableChange_kept | with_reducible apply Node.learnTable_kept
                  | with_reducible apply Node.hearNew_kept | intro _ | dsimp -proj only | exact @rfl (List Record) _
                  | exact @rfl (SMap (Option (BitVec 256))) _ | split | with_reducible apply mk_kept)

theorem execTtdpFrameReceived_kept (line : Fin 4) (msg : TtdpMsg) (leadNs : Nat) (s : State) (hs : s.node.Kept rs vk) (s' : State)
    (ht : execTtdpFrameReceived line msg leadNs s = .next s') :
    s'.node.Kept rs vk := by
  unfold execTtdpFrameReceived at ht
  refine State.upd_kept hs ?_ ht
  repeat' (first | with_reducible assumption | with_reducible rfl | with_reducible apply Node.when_kept
                  | with_reducible apply Node.count_kept | with_reducible apply Node.hello_kept | with_reducible apply Node.topology_kept
                  | intro _ | dsimp -proj only | exact @rfl (List Record) _ | exact @rfl (SMap (Option (BitVec 256))) _ | split)

theorem execLineTimeout_kept (line : Fin 4) (leadNs : Nat) (s : State) (hs : s.node.Kept rs vk) (s' : State)
    (ht : execLineTimeout line leadNs s = .next s') :
    s'.node.Kept rs vk := by
  unfold execLineTimeout at ht
  refine State.upd_kept hs ?_ ht
  repeat' (first | with_reducible assumption | with_reducible rfl | with_reducible apply Node.setLine_kept
                  | with_reducible apply Node.refreshLines_kept | intro _)

theorem Node.sendTtdp_kept (n : Node) (k : Nat) (hello : Bool) (h0 : n.Kept rs vk) :
    (Node.sendTtdp n k hello).Kept rs vk := by
  unfold Node.sendTtdp
  repeat' (first | with_reducible assumption | with_reducible rfl | with_reducible apply Node.queueAt_kept)

theorem execTtdpHelloTx_kept (line : Fin 4) (s : State) (hs : s.node.Kept rs vk) (s' : State) (ht : execTtdpHelloTx line s = .next s') :
    s'.node.Kept rs vk := by
  unfold execTtdpHelloTx at ht
  refine State.upd_kept hs ?_ ht
  repeat' (first | with_reducible assumption | with_reducible rfl | with_reducible apply Node.when_kept
                  | with_reducible apply Node.setLine_kept | with_reducible apply Node.sendTtdp_kept | intro _)

theorem execTtdpTopologyTx_kept (line : Fin 4) (s : State) (hs : s.node.Kept rs vk) (s' : State) (ht : execTtdpTopologyTx line s = .next s') :
    s'.node.Kept rs vk := by
  unfold execTtdpTopologyTx at ht
  refine State.upd_kept hs ?_ ht
  repeat' (first | with_reducible assumption | with_reducible rfl | with_reducible apply Node.when_kept
                  | with_reducible apply Node.sendTtdp_kept | intro _)

theorem execSpeculationTimeout_kept (s : State) (hs : s.node.Kept rs vk) (s' : State) (ht : execSpeculationTimeout s = .next s') :
    s'.node.Kept rs vk := by
  unfold execSpeculationTimeout at ht
  refine State.upd_kept hs ?_ ht
  repeat' (first | with_reducible assumption | with_reducible rfl | with_reducible apply Node.when_kept
                  | with_reducible apply Node.dropSpec_kept | with_reducible apply Node.settle_kept | intro _)

theorem Node.putSchedule_kept (n : Node) (words : List (Nat × Word)) (h0 : n.Kept rs vk) :
    (Node.putSchedule n words).Kept rs vk := by
  unfold Node.putSchedule
  repeat' (first | with_reducible assumption | with_reducible rfl | with_reducible apply Node.when_kept
                  | with_reducible apply Node.putShadows_kept | intro _)

theorem execRecomputeValidated_kept (leadNs : Nat) (entries : List (Nat × Word)) (s : State) (hs : s.node.Kept rs vk) (s' : State)
    (ht : execRecomputeValidated leadNs entries s = .next s') :
    s'.node.Kept rs vk := by
  unfold execRecomputeValidated at ht
  refine State.upd_kept hs ?_ ht
  repeat' (first | with_reducible assumption | with_reducible rfl | with_reducible apply Node.when_kept
                  | with_reducible apply Node.decideCommit_kept | with_reducible apply Node.putSchedule_kept | intro _ | dsimp -proj only
                  | exact @rfl (List Record) _ | exact @rfl (SMap (Option (BitVec 256))) _ | split)

theorem execRecomputeFail_kept (capacity : Bool) (s : State) (hs : s.node.Kept rs vk) (s' : State) (ht : execRecomputeFail capacity s = .next s') :
    s'.node.Kept rs vk := by
  unfold execRecomputeFail at ht
  refine State.upd_kept hs ?_ ht
  repeat' (first | with_reducible assumption | with_reducible rfl | with_reducible apply Node.when_kept
                  | with_reducible apply Node.addFault_kept | with_reducible apply Node.raise_kept | with_reducible apply Node.inaState_kept
                  | intro _ | dsimp -proj only | exact @rfl (List Record) _ | exact @rfl (SMap (Option (BitVec 256))) _ | split
                  | with_reducible apply mk_kept)

theorem Node.loseTopology_kept (n : Node) (h0 : n.Kept rs vk) :
    (Node.loseTopology n).Kept rs vk := by
  unfold Node.loseTopology
  repeat' (first | with_reducible assumption | with_reducible rfl | with_reducible apply Node.when_kept
                  | with_reducible apply Node.freeLees_kept | with_reducible apply Node.endSpec_kept | intro _ | dsimp -proj only
                  | exact @rfl (List Record) _ | exact @rfl (SMap (Option (BitVec 256))) _ | split | with_reducible apply mk_kept)

theorem Node.writeDirectory_kept (n : Node) (t : List ConsistInfo) (h0 : n.Kept rs vk) :
    (Node.writeDirectory n t).Kept rs vk := by
  unfold Node.writeDirectory
  repeat' (first | with_reducible assumption | with_reducible rfl | with_reducible apply Node.putWords_kept
                  | with_reducible apply Node.resetWords_kept | with_reducible apply Node.ownLines_kept)

theorem Node.consistHeard_kept (n : Node) (t : Telegram) (h0 : n.Kept rs vk) :
    (Node.consistHeard n t).Kept rs vk := by
  unfold Node.consistHeard
  repeat' (first | with_reducible assumption | with_reducible rfl | with_reducible apply Node.when_kept
                  | with_reducible apply Node.writeDirectory_kept | intro _ | dsimp -proj only | exact @rfl (List Record) _
                  | exact @rfl (SMap (Option (BitVec 256))) _ | split | with_reducible apply mk_kept)

theorem Node.showPhy_kept (n : Node) (p : Nat) (i : PhyInfo) (h0 : n.Kept rs vk) :
    (Node.showPhy n p i).Kept rs vk := by
  unfold Node.showPhy
  repeat' (first | with_reducible assumption | with_reducible rfl | with_reducible apply Node.wr_kept
                  | with_reducible apply Node.wrBit_kept | with_reducible apply foldl_kept | with_reducible apply foldlPair_kept | intro _)

theorem Node.setUp_kept (n : Node) (p : Nat) (up : Bool) (h0 : n.Kept rs vk) :
    (Node.setUp n p up).Kept rs vk := by
  unfold Node.setUp
  repeat' (first | with_reducible assumption | with_reducible rfl | with_reducible apply Node.wrBit_kept)

theorem Node.tellPartner_kept (n : Node) (p : Nat) (up : Bool) (h0 : n.Kept rs vk) :
    (Node.tellPartner n p up).Kept rs vk := by
  unfold Node.tellPartner
  repeat' (first | with_reducible assumption | with_reducible rfl | with_reducible apply Node.when_kept
                  | with_reducible apply Node.emit_kept | intro _)

theorem Node.reportUp_kept (n : Node) (p leadNs : Nat) (h0 : n.Kept rs vk) :
    (Node.reportUp n p leadNs).Kept rs vk := by
  unfold Node.reportUp
  repeat' (first | with_reducible assumption | with_reducible rfl | with_reducible apply Node.when_kept
                  | with_reducible apply Node.setPort_kept | with_reducible apply Node.raise_kept | with_reducible apply Node.refreshLines_kept
                  | with_reducible apply Node.setUp_kept | with_reducible apply Node.tellPartner_kept | intro _)

theorem Node.reportDown_kept (n : Node) (p leadNs : Nat) (h0 : n.Kept rs vk) :
    (Node.reportDown n p leadNs).Kept rs vk := by
  unfold Node.reportDown
  repeat' (first | with_reducible assumption | with_reducible rfl | with_reducible apply Node.when_kept
                  | with_reducible apply Node.wr_kept | with_reducible apply Node.count_kept | with_reducible apply Node.setPort_kept
                  | with_reducible apply Node.raise_kept | with_reducible apply Node.flushPort_kept | with_reducible apply Node.cutShort_kept
                  | with_reducible apply Node.refreshLines_kept | with_reducible apply Node.setUp_kept
                  | with_reducible apply Node.tellPartner_kept | intro _)

theorem Node.phyLost_kept (n : Node) (p : Nat) (h0 : n.Kept rs vk) :
    (Node.phyLost n p).Kept rs vk := by
  unfold Node.phyLost
  repeat' (first | with_reducible assumption | with_reducible rfl | with_reducible apply Node.when_kept
                  | with_reducible apply Node.wr_kept | with_reducible apply Node.setPort_kept | with_reducible apply Node.cutShort_kept
                  | with_reducible apply Node.showPhy_kept | intro _)

theorem Node.linkGone_kept (n : Node) (p leadNs : Nat) (h0 : n.Kept rs vk) :
    (Node.linkGone n p leadNs).Kept rs vk := by
  unfold Node.linkGone
  repeat' (first | with_reducible assumption | with_reducible rfl | with_reducible apply Node.when_kept
                  | with_reducible apply Node.reportDown_kept | with_reducible apply Node.phyLost_kept | intro _)

theorem Node.attemptFails_kept (n : Node) (p : Nat) (why : LinkFailure) (h0 : n.Kept rs vk) :
    (Node.attemptFails n p why).Kept rs vk := by
  unfold Node.attemptFails
  repeat' (first | with_reducible assumption | with_reducible rfl | with_reducible apply Node.when_kept
                  | with_reducible apply Node.wrBit_kept | with_reducible apply Node.count_kept | with_reducible apply Node.raise_kept | intro _
                  | dsimp -proj only | exact @rfl (List Record) _ | exact @rfl (SMap (Option (BitVec 256))) _ | split)

theorem Node.phyUsable_kept (n : Node) (p : Nat) (info : PhyInfo) (h0 : n.Kept rs vk) :
    (Node.phyUsable n p info).Kept rs vk := by
  unfold Node.phyUsable
  repeat' (first | with_reducible assumption | with_reducible rfl | with_reducible apply Node.when_kept
                  | with_reducible apply Node.wr_kept | with_reducible apply Node.count_kept | with_reducible apply Node.setPort_kept
                  | with_reducible apply Node.showPhy_kept | intro _ | dsimp -proj only | exact @rfl (List Record) _
                  | exact @rfl (SMap (Option (BitVec 256))) _ | split)

theorem execPhyLinkOk_kept (port : Fin 16) (info : PhyInfo) (s : State) (hs : s.node.Kept rs vk) (s' : State)
    (ht : execPhyLinkOk port info s = .next s') :
    s'.node.Kept rs vk := by
  unfold execPhyLinkOk at ht
  refine State.upd_kept hs ?_ ht
  repeat' (first | with_reducible assumption | with_reducible rfl | with_reducible apply Node.when_kept
                  | with_reducible apply Node.attemptFails_kept | with_reducible apply Node.phyUsable_kept | intro _ | dsimp -proj only
                  | exact @rfl (List Record) _ | exact @rfl (SMap (Option (BitVec 256))) _ | split)

theorem execLinkUpReport_kept (port : Fin 16) (leadNs : Nat) (s : State) (hs : s.node.Kept rs vk) (s' : State)
    (ht : execLinkUpReport port leadNs s = .next s') :
    s'.node.Kept rs vk := by
  unfold execLinkUpReport at ht
  refine State.upd_kept hs ?_ ht
  repeat' (first | with_reducible assumption | with_reducible rfl | with_reducible apply Node.when_kept
                  | with_reducible apply Node.reportUp_kept | intro _)

theorem execPhyLinkLoss_kept (port : Fin 16) (s : State) (hs : s.node.Kept rs vk) (s' : State) (ht : execPhyLinkLoss port s = .next s') :
    s'.node.Kept rs vk := by
  unfold execPhyLinkLoss at ht
  refine State.upd_kept hs ?_ ht
  repeat' (first | with_reducible assumption | with_reducible rfl | with_reducible apply Node.when_kept
                  | with_reducible apply Node.phyLost_kept | intro _)

theorem execLinkDownReport_kept (port : Fin 16) (leadNs : Nat) (s : State) (hs : s.node.Kept rs vk) (s' : State)
    (ht : execLinkDownReport port leadNs s = .next s') :
    s'.node.Kept rs vk := by
  unfold execLinkDownReport at ht
  refine State.upd_kept hs ?_ ht
  repeat' (first | with_reducible assumption | with_reducible rfl | with_reducible apply Node.when_kept
                  | with_reducible apply Node.reportDown_kept | intro _)

theorem execLinkAttemptFailed_kept (port : Fin 16) (why : LinkFailure) (s : State) (hs : s.node.Kept rs vk) (s' : State)
    (ht : execLinkAttemptFailed port why s = .next s') :
    s'.node.Kept rs vk := by
  unfold execLinkAttemptFailed at ht
  refine State.upd_kept hs ?_ ht
  repeat' (first | with_reducible assumption | with_reducible rfl | with_reducible apply Node.when_kept
                  | with_reducible apply Node.attemptFails_kept | intro _)

theorem Node.followMode_kept (n : Node) (p : Nat) (h0 : n.Kept rs vk) :
    (Node.followMode n p).Kept rs vk := by
  unfold Node.followMode
  repeat' (first | with_reducible assumption | with_reducible rfl | with_reducible apply Node.when_kept
                  | with_reducible apply Node.reportUp_kept | with_reducible apply Node.linkGone_kept | with_reducible apply Node.phyUsable_kept
                  | intro _ | dsimp -proj only | exact @rfl (List Record) _ | exact @rfl (SMap (Option (BitVec 256))) _ | split)

theorem Node.followModes_kept (n : Node) (h0 : n.Kept rs vk) :
    (Node.followModes n).Kept rs vk := by
  unfold Node.followModes
  repeat' (first | with_reducible assumption | with_reducible rfl | with_reducible apply Node.followMode_kept)

theorem Node.portsApplied_kept (n before : Node) (h0 : n.Kept rs vk) (_h1 : before.Kept rs vk) :
    (Node.portsApplied n before).Kept rs vk := by
  unfold Node.portsApplied
  repeat' (first | with_reducible assumption | with_reducible rfl | with_reducible apply Node.when_kept
                  | with_reducible apply Node.each_kept | with_reducible apply Node.setPort_kept | with_reducible apply Node.linkGone_kept
                  | with_reducible apply Node.followModes_kept | intro _)

theorem Node.updateLine_kept (n : Node) (k : Nat) (h0 : n.Kept rs vk) :
    (Node.updateLine n k).Kept rs vk := by
  unfold Node.updateLine
  repeat' (first | with_reducible assumption | with_reducible rfl | with_reducible apply Node.when_kept
                  | with_reducible apply Node.each_kept | with_reducible apply Node.wr_kept | with_reducible apply Node.wrBit_kept
                  | with_reducible apply Node.raise_kept | with_reducible apply Node.phyLost_kept | intro _ | dsimp -proj only
                  | exact @rfl (List Record) _ | exact @rfl (SMap (Option (BitVec 256))) _ | split)

theorem Node.updateBypass_kept (n : Node) (h0 : n.Kept rs vk) :
    (Node.updateBypass n).Kept rs vk := by
  unfold Node.updateBypass
  repeat' (first | with_reducible assumption | with_reducible rfl | with_reducible apply Node.updateLine_kept)

theorem execSettleMaskEnd_kept (lineB : Bool) (leadNs : Nat) (s : State) (hs : s.node.Kept rs vk) (s' : State)
    (ht : execSettleMaskEnd lineB leadNs s = .next s') :
    s'.node.Kept rs vk := by
  unfold execSettleMaskEnd at ht
  refine State.upd_kept hs ?_ ht
  repeat' (first | with_reducible assumption | with_reducible rfl | with_reducible apply Node.when_kept
                  | with_reducible apply Node.each_kept | with_reducible apply Node.wrBit_kept | with_reducible apply Node.reportUp_kept
                  | with_reducible apply Node.reportDown_kept | intro _ | dsimp -proj only | exact @rfl (List Record) _
                  | exact @rfl (SMap (Option (BitVec 256))) _ | split)

theorem Node.wakeEmit_kept (n : Node) (mask : BitVec 4) (h0 : n.Kept rs vk) :
    (Node.wakeEmit n mask).Kept rs vk := by
  unfold Node.wakeEmit
  repeat' (first | with_reducible assumption | with_reducible rfl | with_reducible apply Node.when_kept
                  | with_reducible apply Node.each_kept | with_reducible apply Node.wrBit_kept | with_reducible apply Node.count_kept
                  | with_reducible apply Node.emit_kept | with_reducible apply Node.raise_kept | with_reducible apply Node.phyLost_kept | intro _
                  | dsimp -proj only | exact @rfl (List Record) _ | exact @rfl (SMap (Option (BitVec 256))) _ | split)

theorem execWakeEmit_kept (by_ : Initiator) (mask : BitVec 4) (s : State) (hs : s.node.Kept rs vk) (s' : State)
    (ht : execWakeEmit by_ mask s = .next s') :
    s'.node.Kept rs vk := by
  unfold execWakeEmit at ht
  refine State.upd_kept hs ?_ ht
  repeat' (first | with_reducible assumption | with_reducible rfl | with_reducible apply Node.access_kept
                  | with_reducible apply Node.wakeEmit_kept | intro _)

theorem execWakeEmissionEnd_kept (port : Fin 4) (s : State) (hs : s.node.Kept rs vk) (s' : State) (ht : execWakeEmissionEnd port s = .next s') :
    s'.node.Kept rs vk := by
  unfold execWakeEmissionEnd at ht
  refine State.upd_kept hs ?_ ht
  repeat' (first | with_reducible assumption | with_reducible rfl | with_reducible apply Node.wrBit_kept | intro _)

theorem Node.snapshot_kept (n : Node) (p : Nat) (h0 : n.Kept rs vk) :
    (Node.snapshot n p).Kept rs vk := by
  unfold Node.snapshot
  repeat' (first | with_reducible assumption | with_reducible rfl | with_reducible apply Node.putWords_kept)

theorem Node.snapGo_kept (n : Node) (v : Word) (h0 : n.Kept rs vk) :
    (Node.snapGo n v).Kept rs vk := by
  unfold Node.snapGo
  repeat' (first | with_reducible assumption | with_reducible rfl | with_reducible apply Node.when_kept
                  | with_reducible apply Node.each_kept | with_reducible apply Node.putWord_kept | with_reducible apply Node.wrBit_kept
                  | with_reducible apply Node.snapshot_kept | intro _)

theorem execSnapCmdGo_kept (by_ : Initiator) (v : Word) (s : State) (hs : s.node.Kept rs vk) (s' : State) (ht : execSnapCmdGo by_ v s = .next s') :
    s'.node.Kept rs vk := by
  unfold execSnapCmdGo at ht
  refine State.upd_kept hs ?_ ht
  repeat' (first | with_reducible assumption | with_reducible rfl | with_reducible apply Node.access_kept
                  | with_reducible apply Node.snapGo_kept | intro _)

theorem execSnapshotComplete_kept (s : State) (hs : s.node.Kept rs vk) (s' : State) (ht : execSnapshotComplete s = .next s') :
    s'.node.Kept rs vk := by
  unfold execSnapshotComplete at ht
  refine State.upd_kept hs ?_ ht
  repeat' (first | with_reducible assumption | with_reducible rfl | with_reducible apply Node.when_kept
                  | with_reducible apply Node.putWord_kept | with_reducible apply Node.wr_kept | with_reducible apply Node.wrBit_kept
                  | with_reducible apply Node.incr_kept | with_reducible apply Node.fire_kept | intro _)

theorem Node.standPhase_kept (n : Node) (err : Int) (h0 : n.Kept rs vk) :
    (Node.standPhase n err).Kept rs vk := by
  unfold Node.standPhase
  repeat' (first | with_reducible assumption | with_reducible rfl | with_reducible apply Node.wr_kept | intro _ | dsimp -proj only
                  | exact @rfl (List Record) _ | exact @rfl (SMap (Option (BitVec 256))) _ | split | with_reducible apply mk_kept)

theorem Node.followStep_kept (n : Node) (phase d : Int) (first : Bool) (h0 : n.Kept rs vk) :
    (Node.followStep n phase d first).Kept rs vk := by
  unfold Node.followStep
  repeat' (first | with_reducible assumption | with_reducible rfl | with_reducible apply Node.when_kept
                  | with_reducible apply Node.wr_kept | with_reducible apply Node.raise_kept | with_reducible apply Node.standPhase_kept | intro _
                  | dsimp -proj only | exact @rfl (List Record) _ | exact @rfl (SMap (Option (BitVec 256))) _ | split
                  | with_reducible apply mk_kept)

theorem Node.countStep_kept (n : Node) (v : Nat) (h0 : n.Kept rs vk) :
    (Node.countStep n v).Kept rs vk := by
  unfold Node.countStep
  repeat' (first | with_reducible assumption | with_reducible rfl | with_reducible apply Node.wr_kept)

theorem Node.stepPps_kept (n : Node) (old : Nat) (h0 : n.Kept rs vk) :
    (Node.stepPps n old).Kept rs vk := by
  unfold Node.stepPps
  repeat' (first | with_reducible assumption | with_reducible rfl | with_reducible apply Node.when_kept | intro _
                  | dsimp -proj only | exact @rfl (List Record) _ | exact @rfl (SMap (Option (BitVec 256))) _ | split
                  | with_reducible apply mk_kept)

theorem Node.stepView_kept (n : Node) (v : Nat) (d : Int) (h0 : n.Kept rs vk) :
    (Node.stepView n v d).Kept rs vk := by
  unfold Node.stepView
  repeat' (first | with_reducible assumption | with_reducible rfl | with_reducible apply Node.when_kept
                  | with_reducible apply Node.setView_kept | with_reducible apply Node.countStep_kept | with_reducible apply Node.stepPps_kept
                  | intro _)

theorem Node.rateView_kept (n : Node) (v : Nat) (r : Word) (h0 : n.Kept rs vk) :
    (Node.rateView n v r).Kept rs vk := by
  unfold Node.rateView
  repeat' (first | with_reducible assumption | with_reducible rfl | with_reducible apply Node.when_kept
                  | with_reducible apply Node.setView_kept | intro _)

theorem Node.followSource_kept (n : Node) (d : Nat) (first : Bool) (h0 : n.Kept rs vk) :
    (Node.followSource n d first).Kept rs vk := by
  unfold Node.followSource
  repeat' (first | with_reducible assumption | with_reducible rfl | with_reducible apply Node.when_kept
                  | with_reducible apply Node.wrBit_kept | with_reducible apply Node.count_kept | with_reducible apply Node.raise_kept
                  | with_reducible apply Node.followStep_kept | with_reducible apply Node.stepView_kept | with_reducible apply Node.rateView_kept
                  | intro _ | dsimp -proj only | exact @rfl (List Record) _ | exact @rfl (SMap (Option (BitVec 256))) _ | split
                  | with_reducible apply mk_kept)

theorem Node.takeSource_kept (n : Node) (d : Nat) (h0 : n.Kept rs vk) :
    (Node.takeSource n d).Kept rs vk := by
  unfold Node.takeSource
  repeat' (first | with_reducible assumption | with_reducible rfl | with_reducible apply Node.wr_kept
                  | with_reducible apply Node.raise_kept | with_reducible apply Node.followSource_kept | intro _ | dsimp -proj only
                  | exact @rfl (List Record) _ | exact @rfl (SMap (Option (BitVec 256))) _ | split)

theorem Node.chooseSource_kept (n : Node) (h0 : n.Kept rs vk) :
    (Node.chooseSource n).Kept rs vk := by
  unfold Node.chooseSource
  repeat' (first | with_reducible assumption | with_reducible rfl | with_reducible apply Node.wr_kept
                  | with_reducible apply Node.wrBit_kept | with_reducible apply Node.raise_kept | with_reducible apply Node.takeSource_kept
                  | intro _ | dsimp -proj only | exact @rfl (List Record) _ | exact @rfl (SMap (Option (BitVec 256))) _ | split)

theorem Node.setGoodSyncs_kept (n : Node) (d k : Nat) (h0 : n.Kept rs vk) :
    (Node.setGoodSyncs n d k).Kept rs vk := by
  unfold Node.setGoodSyncs
  repeat' (first | with_reducible assumption | with_reducible rfl | intro _ | dsimp -proj only | exact @rfl (List Record) _
                  | exact @rfl (SMap (Option (BitVec 256))) _ | split | with_reducible apply mk_kept)

theorem Node.startDomain_kept (n : Node) (d : Nat) (h0 : n.Kept rs vk) :
    (Node.startDomain n d).Kept rs vk := by
  unfold Node.startDomain
  repeat' (first | with_reducible assumption | with_reducible rfl | with_reducible apply Node.putWord_kept
                  | with_reducible apply Node.wr_kept | with_reducible apply Node.setGoodSyncs_kept)

theorem Node.clockApplied_kept (n : Node) (h0 : n.Kept rs vk) :
    (Node.clockApplied n).Kept rs vk := by
  unfold Node.clockApplied
  repeat' (first | with_reducible assumption | with_reducible rfl | with_reducible apply Node.when_kept
                  | with_reducible apply Node.wrBit_kept | intro _ | dsimp -proj only | exact @rfl (List Record) _
                  | exact @rfl (SMap (Option (BitVec 256))) _ | split | with_reducible apply mk_kept)

theorem Node.timeApplied_kept (n before : Node) (h0 : n.Kept rs vk) (_h1 : before.Kept rs vk) :
    (Node.timeApplied n before).Kept rs vk := by
  unfold Node.timeApplied
  repeat' (first | with_reducible assumption | with_reducible rfl | with_reducible apply Node.when_kept
                  | with_reducible apply Node.each_kept | with_reducible apply Node.chooseSource_kept | with_reducible apply Node.startDomain_kept
                  | with_reducible apply Node.clockApplied_kept | intro _)

theorem Node.timeRestart_kept (n : Node) (h0 : n.Kept rs vk) :
    (Node.timeRestart n).Kept rs vk := by
  unfold Node.timeRestart
  repeat' (first | with_reducible assumption | with_reducible rfl | intro _ | dsimp -proj only | exact @rfl (List Record) _
                  | exact @rfl (SMap (Option (BitVec 256))) _ | split | with_reducible apply mk_kept)

theorem execPtpSyncReceived_kept (d : Fin 2) (offsetNs : Int) (rate : Word) (port : Fin 16) (tx : BitVec 16) (s : State) (hs : s.node.Kept rs vk)
    (s' : State) (ht : execPtpSyncReceived d offsetNs rate port tx s = .next s') :
    s'.node.Kept rs vk := by
  unfold execPtpSyncReceived at ht
  refine State.upd_kept hs ?_ ht
  repeat' (first | with_reducible assumption | with_reducible rfl | with_reducible apply Node.when_kept
                  | with_reducible apply Node.putWord_kept | with_reducible apply Node.wr_kept | with_reducible apply Node.count_kept
                  | with_reducible apply Node.raise_kept | with_reducible apply Node.stepView_kept | with_reducible apply Node.rateView_kept
                  | with_reducible apply Node.followSource_kept | with_reducible apply Node.chooseSource_kept
                  | with_reducible apply Node.setGoodSyncs_kept | intro _)

theorem execDomainLossTimeout_kept (d : Fin 2) (s : State) (hs : s.node.Kept rs vk) (s' : State) (ht : execDomainLossTimeout d s = .next s') :
    s'.node.Kept rs vk := by
  unfold execDomainLossTimeout at ht
  refine State.upd_kept hs ?_ ht
  repeat' (first | with_reducible assumption | with_reducible rfl | with_reducible apply Node.when_kept
                  | with_reducible apply Node.putWord_kept | with_reducible apply Node.wr_kept | with_reducible apply Node.count_kept
                  | with_reducible apply Node.raise_kept | with_reducible apply Node.chooseSource_kept
                  | with_reducible apply Node.setGoodSyncs_kept | intro _)

theorem execRevertTimerExpiry_kept (s : State) (hs : s.node.Kept rs vk) (s' : State) (ht : execRevertTimerExpiry s = .next s') :
    s'.node.Kept rs vk := by
  unfold execRevertTimerExpiry at ht
  refine State.upd_kept hs ?_ ht
  repeat' (first | with_reducible assumption | with_reducible rfl | with_reducible apply Node.when_kept
                  | with_reducible apply Node.takeSource_kept | intro _)

theorem execActiveTimeSlewEnd_kept (s : State) (hs : s.node.Kept rs vk) (s' : State) (ht : execActiveTimeSlewEnd s = .next s') :
    s'.node.Kept rs vk := by
  unfold execActiveTimeSlewEnd at ht
  refine State.upd_kept hs ?_ ht
  repeat' (first | with_reducible assumption | with_reducible rfl | with_reducible apply Node.when_kept
                  | with_reducible apply Node.wrBit_kept | with_reducible apply Node.rateView_kept | intro _ | dsimp -proj only
                  | exact @rfl (List Record) _ | exact @rfl (SMap (Option (BitVec 256))) _ | split | with_reducible apply mk_kept)

theorem execClk10Loss_kept (s : State) (hs : s.node.Kept rs vk) (s' : State) (ht : execClk10Loss s = .next s') :
    s'.node.Kept rs vk := by
  unfold execClk10Loss at ht
  refine State.upd_kept hs ?_ ht
  repeat' (first | with_reducible assumption | with_reducible rfl | with_reducible apply Node.when_kept
                  | with_reducible apply Node.wrBit_kept | with_reducible apply Node.count_kept | with_reducible apply Node.raise_kept | intro _)

theorem execClk10Return_kept (s : State) (hs : s.node.Kept rs vk) (s' : State) (ht : execClk10Return s = .next s') :
    s'.node.Kept rs vk := by
  unfold execClk10Return at ht
  refine State.upd_kept hs ?_ ht
  repeat' (first | with_reducible assumption | with_reducible rfl | with_reducible apply Node.when_kept
                  | with_reducible apply Node.wrBit_kept | intro _)

theorem execPpsInEdge_kept (fraction : Fin 8) (s : State) (hs : s.node.Kept rs vk) (s' : State) (ht : execPpsInEdge fraction s = .next s') :
    s'.node.Kept rs vk := by
  unfold execPpsInEdge at ht
  refine State.upd_kept hs ?_ ht
  repeat' (first | with_reducible assumption | with_reducible rfl | with_reducible apply Node.when_kept
                  | with_reducible apply Node.each_kept | with_reducible apply Node.wrBit_kept | with_reducible apply Node.incr_kept
                  | with_reducible apply Node.putWord64_kept | with_reducible apply Node.fire_kept | with_reducible apply Node.stepView_kept
                  | intro _ | dsimp -proj only | exact @rfl (List Record) _ | exact @rfl (SMap (Option (BitVec 256))) _ | split
                  | with_reducible apply mk_kept)

theorem execPpsInMissing_kept (s : State) (hs : s.node.Kept rs vk) (s' : State) (ht : execPpsInMissing s = .next s') :
    s'.node.Kept rs vk := by
  unfold execPpsInMissing at ht
  refine State.upd_kept hs ?_ ht
  repeat' (first | with_reducible assumption | with_reducible rfl | with_reducible apply Node.when_kept
                  | with_reducible apply Node.wrBit_kept | with_reducible apply Node.count_kept | with_reducible apply Node.raise_kept | intro _)

theorem execPpsOutPulse_kept (s : State) (hs : s.node.Kept rs vk) (s' : State) (ht : execPpsOutPulse s = .next s') :
    s'.node.Kept rs vk := by
  unfold execPpsOutPulse at ht
  refine State.upd_kept hs ?_ ht
  repeat' (first | with_reducible assumption | with_reducible rfl | with_reducible apply Node.when_kept | intro _
                  | dsimp -proj only | exact @rfl (List Record) _ | exact @rfl (SMap (Option (BitVec 256))) _ | split
                  | with_reducible apply mk_kept)

theorem execPpsOutPulseEnd_kept (s : State) (hs : s.node.Kept rs vk) (s' : State) (ht : execPpsOutPulseEnd s = .next s') :
    s'.node.Kept rs vk := by
  unfold execPpsOutPulseEnd at ht
  refine State.upd_kept hs ?_ ht
  repeat' (first | with_reducible assumption | with_reducible rfl | intro _ | dsimp -proj only | exact @rfl (List Record) _
                  | exact @rfl (SMap (Option (BitVec 256))) _ | split | with_reducible apply mk_kept)

theorem Node.putLink_kept (n : Node) (d : Nat) (l : LinkDelay) (h0 : n.Kept rs vk) :
    (Node.putLink n d l).Kept rs vk := by
  unfold Node.putLink
  repeat' (first | with_reducible assumption | with_reducible rfl | with_reducible apply Node.putWord_kept
                  | with_reducible apply Node.putWord64_kept)

theorem execPtpMessageInterval_kept (d : Fin 2) (msgType : BitVec 4) (delays : List LinkDelay) (s : State) (hs : s.node.Kept rs vk) (s' : State)
    (ht : execPtpMessageInterval d msgType delays s = .next s') :
    s'.node.Kept rs vk := by
  unfold execPtpMessageInterval at ht
  refine State.upd_kept hs ?_ ht
  repeat' (first | with_reducible assumption | with_reducible rfl | with_reducible apply Node.when_kept
                  | with_reducible apply Node.each_kept | with_reducible apply Node.emit_kept | with_reducible apply Node.putLink_kept | intro _
                  | dsimp -proj only | exact @rfl (List Record) _ | exact @rfl (SMap (Option (BitVec 256))) _ | split)

theorem Node.setPending_kept (n : Node) (v : Nat) (b : Bool) (h0 : n.Kept rs vk) :
    (Node.setPending n v b).Kept rs vk := by
  unfold Node.setPending
  repeat' (first | with_reducible assumption | with_reducible rfl | intro _ | dsimp -proj only | exact @rfl (List Record) _
                  | exact @rfl (SMap (Option (BitVec 256))) _ | split | with_reducible apply mk_kept)

theorem Node.sendPending_kept (n : Node) (h0 : n.Kept rs vk) :
    (Node.sendPending n).Kept rs vk := by
  unfold Node.sendPending
  repeat' (first | with_reducible assumption | with_reducible rfl | with_reducible apply Node.when_kept
                  | with_reducible apply Node.each_kept | with_reducible apply Node.emit_kept | with_reducible apply Node.setPending_kept
                  | intro _)

theorem Node.msix_kept (n : Node) (v : Nat) (h0 : n.Kept rs vk) :
    (Node.msix n v).Kept rs vk := by
  unfold Node.msix
  repeat' (first | with_reducible assumption | with_reducible rfl | with_reducible apply Node.setPending_kept
                  | with_reducible apply Node.sendPending_kept)

theorem Node.eqWrite_kept (n : Node) (f : Fire) (h0 : n.Kept rs vk) :
    (Node.eqWrite n f).Kept rs vk := by
  unfold Node.eqWrite
  repeat' (first | with_reducible assumption | with_reducible rfl | with_reducible apply Node.wr_kept
                  | with_reducible apply Node.emit_kept | with_reducible apply Node.msix_kept | intro _ | dsimp -proj only
                  | exact @rfl (List Record) _ | exact @rfl (SMap (Option (BitVec 256))) _ | split | with_reducible apply mk_kept)

theorem Node.eqSpace_kept (n : Node) (h0 : n.Kept rs vk) :
    (Node.eqSpace n).Kept rs vk := by
  unfold Node.eqSpace
  repeat' (first | with_reducible assumption | with_reducible rfl | with_reducible apply Node.when_kept
                  | with_reducible apply Node.endRun_kept | with_reducible apply Node.eqWrite_kept | intro _ | dsimp -proj only
                  | exact @rfl (List Record) _ | exact @rfl (SMap (Option (BitVec 256))) _ | split | with_reducible apply mk_kept)

theorem Node.eqPut_kept (n : Node) (f : Fire) (h0 : n.Kept rs vk) :
    (Node.eqPut n f).Kept rs vk := by
  unfold Node.eqPut
  repeat' (first | with_reducible assumption | with_reducible rfl | with_reducible apply Node.count_kept
                  | with_reducible apply Node.raiseFirst_kept | with_reducible apply Node.eqWrite_kept | with_reducible apply Node.eqSpace_kept
                  | intro _ | dsimp -proj only | exact @rfl (List Record) _ | exact @rfl (SMap (Option (BitVec 256))) _ | split
                  | with_reducible apply mk_kept)

theorem execInterruptFire_kept (s : State) (hs : s.node.Kept rs vk) (s' : State) (ht : execInterruptFire s = .next s') :
    s'.node.Kept rs vk := by
  unfold execInterruptFire at ht
  refine State.upd_kept hs ?_ ht
  repeat' (first | with_reducible assumption | with_reducible rfl | with_reducible apply Node.when_kept
                  | with_reducible apply Node.msix_kept | with_reducible apply Node.eqPut_kept | intro _ | dsimp -proj only
                  | exact @rfl (List Record) _ | exact @rfl (SMap (Option (BitVec 256))) _ | split | with_reducible apply mk_kept)

theorem Node.eqPop_kept (n : Node) (by_ : Initiator) (h0 : n.Kept rs vk) :
    (Node.eqPop n by_).1.Kept rs vk := by
  unfold Node.eqPop
  repeat' (first | with_reducible assumption | with_reducible rfl | with_reducible apply Node.eqSpace_kept | intro _
                  | dsimp -proj only | exact @rfl (List Record) _ | exact @rfl (SMap (Option (BitVec 256))) _ | split
                  | with_reducible apply mk_kept)

theorem Node.lineLost_kept (n : Node) (l : PrefetchLine) (h0 : n.Kept rs vk) :
    (Node.lineLost n l).Kept rs vk := by
  unfold Node.lineLost
  repeat' (first | with_reducible assumption | with_reducible rfl | with_reducible apply Node.when_kept
                  | with_reducible apply Node.putWord_kept | with_reducible apply Node.count_kept | with_reducible apply Node.raise_kept
                  | intro _)

theorem Node.dropLines_kept (n : Node) (p : PrefetchLine → Bool) (h0 : n.Kept rs vk) :
    (Node.dropLines n p).Kept rs vk := by
  unfold Node.dropLines
  repeat' (first | with_reducible assumption | with_reducible rfl | with_reducible apply Node.each_kept
                  | with_reducible apply Node.lineLost_kept | intro _ | dsimp -proj only | exact @rfl (List Record) _
                  | exact @rfl (SMap (Option (BitVec 256))) _ | split | with_reducible apply mk_kept)

theorem execPrefetchLineExpiry_kept (line : Nat) (s : State) (hs : s.node.Kept rs vk) (s' : State) (ht : execPrefetchLineExpiry line s = .next s') :
    s'.node.Kept rs vk := by
  unfold execPrefetchLineExpiry at ht
  refine State.upd_kept hs ?_ ht
  repeat' (first | with_reducible assumption | with_reducible rfl | with_reducible apply Node.dropLines_kept | intro _
                  | dsimp -proj only | exact @rfl (List Record) _ | exact @rfl (SMap (Option (BitVec 256))) _ | split)

theorem Node.hpDown_kept (n : Node) (h0 : n.Kept rs vk) :
    (Node.hpDown n).Kept rs vk := by
  unfold Node.hpDown
  repeat' (first | with_reducible assumption | with_reducible rfl | with_reducible apply Node.each_kept
                  | with_reducible apply Node.count_kept | with_reducible apply Node.setRing_kept | with_reducible apply Node.released_kept
                  | with_reducible apply Node.flushPort_kept | intro _ | dsimp -proj only | exact @rfl (List Record) _
                  | exact @rfl (SMap (Option (BitVec 256))) _ | split | with_reducible apply mk_kept)

theorem Node.hostPathEnds_kept (n : Node) (h0 : n.Kept rs vk) :
    (Node.hostPathEnds n).Kept rs vk := by
  unfold Node.hostPathEnds
  repeat' (first | with_reducible assumption | with_reducible rfl | with_reducible apply Node.when_kept
                  | with_reducible apply Node.each_kept | with_reducible apply Node.wrBit_kept | with_reducible apply Node.endSession_kept
                  | with_reducible apply Node.dropWaits_kept | with_reducible apply Node.dropTransfer_kept
                  | with_reducible apply Node.dropSession_kept | intro _)

theorem Node.resetBridge_kept (n : Node) (linkDown : Bool) (h0 : n.Kept rs vk) :
    (Node.resetBridge n linkDown).Kept rs vk := by
  unfold Node.resetBridge
  repeat' (first | with_reducible assumption | with_reducible rfl | with_reducible apply Node.when_kept
                  | with_reducible apply Node.resetWords_kept | with_reducible apply Node.wr_kept | with_reducible apply Node.wrBit_kept
                  | with_reducible apply Node.count_kept | with_reducible apply Node.raise_kept | with_reducible apply Node.dropLines_kept
                  | with_reducible apply Node.hpDown_kept | with_reducible apply Node.hostPathEnds_kept | intro _ | dsimp -proj only
                  | exact @rfl (List Record) _ | exact @rfl (SMap (Option (BitVec 256))) _ | split | with_reducible apply mk_kept)

theorem Node.pcieReset_kept (n : Node) (linkDown : Bool) (h0 : n.Kept rs vk) :
    (Node.pcieReset n linkDown).Kept rs vk := by
  unfold Node.pcieReset
  repeat' (first | with_reducible assumption | with_reducible rfl | with_reducible apply Node.when_kept
                  | with_reducible apply Node.resetBridge_kept | intro _)

theorem execPciePerst_kept (s : State) (hs : s.node.Kept rs vk) (s' : State) (ht : execPciePerst s = .next s') :
    s'.node.Kept rs vk := by
  unfold execPciePerst at ht
  refine State.upd_kept hs ?_ ht
  repeat' (first | with_reducible assumption | with_reducible rfl | with_reducible apply Node.pcieReset_kept | intro _)

theorem execPcieHotReset_kept (s : State) (hs : s.node.Kept rs vk) (s' : State) (ht : execPcieHotReset s = .next s') :
    s'.node.Kept rs vk := by
  unfold execPcieHotReset at ht
  refine State.upd_kept hs ?_ ht
  repeat' (first | with_reducible assumption | with_reducible rfl | with_reducible apply Node.pcieReset_kept | intro _)

theorem execFunctionLevelReset_kept (s : State) (hs : s.node.Kept rs vk) (s' : State) (ht : execFunctionLevelReset s = .next s') :
    s'.node.Kept rs vk := by
  unfold execFunctionLevelReset at ht
  refine State.upd_kept hs ?_ ht
  repeat' (first | with_reducible assumption | with_reducible rfl | with_reducible apply Node.pcieReset_kept | intro _)

theorem execPcieLinkLoss_kept (s : State) (hs : s.node.Kept rs vk) (s' : State) (ht : execPcieLinkLoss s = .next s') :
    s'.node.Kept rs vk := by
  unfold execPcieLinkLoss at ht
  refine State.upd_kept hs ?_ ht
  repeat' (first | with_reducible assumption | with_reducible rfl | with_reducible apply Node.when_kept
                  | with_reducible apply Node.pcieReset_kept | intro _)

theorem Node.hbrReset_kept (n : Node) (h0 : n.Kept rs vk) :
    (Node.hbrReset n).Kept rs vk := by
  unfold Node.hbrReset
  repeat' (first | with_reducible assumption | with_reducible rfl | with_reducible apply Node.when_kept
                  | with_reducible apply Node.resetBridge_kept | intro _)

theorem execHbrCmdReset_kept (by_ : Initiator) (key : Half) (s : State) (hs : s.node.Kept rs vk) (s' : State)
    (ht : execHbrCmdReset by_ key s = .next s') :
    s'.node.Kept rs vk := by
  unfold execHbrCmdReset at ht
  refine State.upd_kept hs ?_ ht
  repeat' (first | with_reducible assumption | with_reducible rfl | with_reducible apply Node.when_kept
                  | with_reducible apply Node.access_kept | with_reducible apply Node.hbrReset_kept | intro _)

theorem execPcieLinkUp_kept (speed width : Fin 4) (s : State) (hs : s.node.Kept rs vk) (s' : State) (ht : execPcieLinkUp speed width s = .next s') :
    s'.node.Kept rs vk := by
  unfold execPcieLinkUp at ht
  refine State.upd_kept hs ?_ ht
  repeat' (first | with_reducible assumption | with_reducible rfl | with_reducible apply Node.when_kept
                  | with_reducible apply Node.wr_kept | with_reducible apply Node.wrBit_kept | with_reducible apply Node.sendPending_kept
                  | intro _)

theorem execPcieConfigWrite_kept (bme d0 : Bool) (config : PcieConfig) (s : State) (hs : s.node.Kept rs vk) (s' : State)
    (ht : execPcieConfigWrite bme d0 config s = .next s') :
    s'.node.Kept rs vk := by
  unfold execPcieConfigWrite at ht
  refine State.upd_kept hs ?_ ht
  repeat' (first | with_reducible assumption | with_reducible rfl | with_reducible apply Node.when_kept
                  | with_reducible apply Node.sendPending_kept | with_reducible apply Node.eqSpace_kept | with_reducible apply Node.hpDown_kept
                  | intro _ | dsimp -proj only | exact @rfl (List Record) _ | exact @rfl (SMap (Option (BitVec 256))) _ | split
                  | with_reducible apply mk_kept)

theorem execDeviceReadTimeout_kept (addr : DWord) (read : DeviceRead) (s : State) (hs : s.node.Kept rs vk) (s' : State)
    (ht : execDeviceReadTimeout addr read s = .next s') :
    s'.node.Kept rs vk := by
  unfold execDeviceReadTimeout at ht
  refine State.upd_kept hs ?_ ht
  repeat' (first | with_reducible assumption | with_reducible rfl | with_reducible apply Node.when_kept
                  | with_reducible apply Node.deviceReadFails_kept | with_reducible apply Node.txFetchFails_kept | intro _ | dsimp -proj only
                  | exact @rfl (List Record) _ | exact @rfl (SMap (Option (BitVec 256))) _ | split)

theorem execNpYield_kept (s : State) (hs : s.node.Kept rs vk) (s' : State) (ht : execNpYield s = .next s') :
    s'.node.Kept rs vk := by
  unfold execNpYield at ht
  refine State.upd_kept hs ?_ ht
  repeat' (first | with_reducible assumption | with_reducible rfl | with_reducible apply Node.when_kept
                  | with_reducible apply Node.count_kept | intro _ | dsimp -proj only | exact @rfl (List Record) _
                  | exact @rfl (SMap (Option (BitVec 256))) _ | split | with_reducible apply mk_kept)

theorem Node.activate_kept (n before : Node) (used : List Nat) (i : Nat) (h0 : n.Kept rs vk) (_h1 : before.Kept rs vk) :
    (Node.activate n before used i).Kept rs vk := by
  unfold Node.activate
  repeat' (first | with_reducible assumption | with_reducible rfl | with_reducible apply Node.putWord_kept
                  | with_reducible apply Node.wr_kept | with_reducible apply Node.wrBit_kept | with_reducible apply Node.setFlow_kept
                  | with_reducible apply foldl_kept | with_reducible apply foldlPair_kept | intro _ | dsimp -proj only
                  | exact @rfl (List Record) _ | exact @rfl (SMap (Option (BitVec 256))) _ | split)

theorem Node.reactivate_kept (n : Node) (h0 : n.Kept rs vk) :
    (Node.reactivate n).Kept rs vk := by
  unfold Node.reactivate
  repeat' (first | with_reducible assumption | with_reducible rfl | with_reducible apply Node.when_kept
                  | with_reducible apply Node.each_kept | with_reducible apply Node.wr_kept | with_reducible apply Node.wrBit_kept
                  | with_reducible apply Node.setFlow_kept | with_reducible apply Node.raise_kept | with_reducible apply Node.activate_kept
                  | intro _ | dsimp -proj only | exact @rfl (List Record) _ | exact @rfl (SMap (Option (BitVec 256))) _ | split)

theorem Node.dsAsk_kept (n : Node) (len : Nat) (h0 : n.Kept rs vk) :
    (Node.dsAsk n len).Kept rs vk := by
  unfold Node.dsAsk
  repeat' (first | with_reducible assumption | with_reducible rfl | with_reducible apply Node.when_kept
                  | with_reducible apply Node.xabort_kept)

theorem Node.dsPut_kept (n : Node) (a : Nat) (bs : List Byte) (h0 : n.Kept rs vk) :
    (Node.dsPut n a bs).Kept rs vk := by
  unfold Node.dsPut
  repeat' (first | with_reducible assumption | with_reducible rfl | with_reducible apply Node.putBytes_kept
                  | with_reducible apply Node.dsAsk_kept | intro _ | dsimp -proj only | exact @rfl (List Record) _
                  | exact @rfl (SMap (Option (BitVec 256))) _ | split)

theorem Node.exchange_kept (n : Node) (i : Nat) (h0 : n.Kept rs vk) :
    (Node.exchange n i).Kept rs vk := by
  unfold Node.exchange
  repeat' (first | with_reducible assumption | with_reducible rfl | with_reducible apply Node.wr_kept
                  | with_reducible apply Node.wrBit_kept | with_reducible apply Node.setFlow_kept)

theorem Node.noMac_kept (n : Node) (i : Nat) (h0 : n.Kept rs vk) :
    (Node.noMac n i).Kept rs vk := by
  unfold Node.noMac
  repeat' (first | with_reducible assumption | with_reducible rfl | with_reducible apply Node.when_kept
                  | with_reducible apply Node.count_kept | with_reducible apply Node.setFlow_kept | with_reducible apply Node.raise_kept
                  | intro _)

theorem Node.handOver_kept (n : Node) (i : Nat) (t : Telegram) (mac : Mac) (h0 : n.Kept rs vk) :
    (Node.handOver n i t mac).Kept rs vk := by
  unfold Node.handOver
  repeat' (first | with_reducible assumption | with_reducible rfl | with_reducible apply Node.when_kept
                  | with_reducible apply Node.count_kept | with_reducible apply Node.inject_kept | intro _)

theorem Node.fillTrailer_kept (n : Node) (i : Nat) (h0 : n.Kept rs vk) :
    (Node.fillTrailer n i).Kept rs vk := by
  unfold Node.fillTrailer
  repeat' (first | with_reducible assumption | with_reducible rfl | with_reducible apply Node.when_kept
                  | with_reducible apply Node.setFlow_kept | with_reducible apply Node.dsPut_kept | intro _)

theorem Node.digestSet_kept (n : Node) (i : Nat) (data : List Byte) (h0 : n.Kept rs vk) :
    (Node.digestSet n i data).Kept rs vk := by
  unfold Node.digestSet
  repeat' (first | with_reducible assumption | with_reducible rfl | with_reducible apply Node.when_kept | intro _
                  | dsimp -proj only | exact @rfl (List Record) _ | exact @rfl (SMap (Option (BitVec 256))) _ | split
                  | with_reducible apply mk_kept)

theorem Node.publish_kept (n : Node) (entry i : Nat) (h0 : n.Kept rs vk) :
    (Node.publish n entry i).Kept rs vk := by
  unfold Node.publish
  repeat' (first | with_reducible assumption | with_reducible rfl | with_reducible apply Node.count_kept
                  | with_reducible apply Node.incr_kept | with_reducible apply Node.occupy_kept | with_reducible apply Node.dsAsk_kept
                  | with_reducible apply Node.noMac_kept | with_reducible apply Node.handOver_kept | with_reducible apply Node.fillTrailer_kept
                  | with_reducible apply Node.digestSet_kept | intro _ | dsimp -proj only | exact @rfl (List Record) _
                  | exact @rfl (SMap (Option (BitVec 256))) _ | split)

theorem Node.pull_kept (n : Node) (i : Nat) (h0 : n.Kept rs vk) :
    (Node.pull n i).Kept rs vk := by
  unfold Node.pull
  repeat' (first | with_reducible assumption | with_reducible rfl | with_reducible apply Node.incr_kept
                  | with_reducible apply Node.took_kept | with_reducible apply Node.noMac_kept | with_reducible apply Node.handOver_kept | intro _
                  | dsimp -proj only | exact @rfl (List Record) _ | exact @rfl (SMap (Option (BitVec 256))) _ | split)

theorem execPdTx_kept (entry : Nat) (s : State) (hs : s.node.Kept rs vk) (s' : State) (ht : execPdTx entry s = .next s') :
    s'.node.Kept rs vk := by
  unfold execPdTx at ht
  refine State.upd_kept hs ?_ ht
  repeat' (first | with_reducible assumption | with_reducible rfl | with_reducible apply Node.count_kept
                  | with_reducible apply Node.startAction_kept | with_reducible apply Node.occupy_kept | with_reducible apply Node.publish_kept
                  | with_reducible apply Node.pull_kept | intro _ | dsimp -proj only | exact @rfl (List Record) _
                  | exact @rfl (SMap (Option (BitVec 256))) _ | split)

theorem Node.msgPull_kept (n : Node) (i : Nat) (h0 : n.Kept rs vk) :
    (Node.msgPull n i).Kept rs vk := by
  unfold Node.msgPull
  repeat' (first | with_reducible assumption | with_reducible rfl | with_reducible apply Node.when_kept
                  | with_reducible apply Node.pull_kept | intro _)

theorem execMsgCmdPull_kept (by_ : Initiator) (ctx : Fin 1024) (s : State) (hs : s.node.Kept rs vk) (s' : State)
    (ht : execMsgCmdPull by_ ctx s = .next s') :
    s'.node.Kept rs vk := by
  unfold execMsgCmdPull at ht
  refine State.upd_kept hs ?_ ht
  repeat' (first | with_reducible assumption | with_reducible rfl | with_reducible apply Node.access_kept
                  | with_reducible apply Node.msgPull_kept | intro _)

theorem Node.stale_kept (n : Node) (i : Nat) (h0 : n.Kept rs vk) :
    (Node.stale n i).Kept rs vk := by
  unfold Node.stale
  repeat' (first | with_reducible assumption | with_reducible rfl | with_reducible apply Node.when_kept
                  | with_reducible apply Node.count_kept | with_reducible apply Node.setFlow_kept | with_reducible apply Node.raise_kept
                  | intro _)

theorem Node.sdtFailed_kept (n : Node) (i why : Nat) (h0 : n.Kept rs vk) :
    (Node.sdtFailed n i why).Kept rs vk := by
  unfold Node.sdtFailed
  repeat' (first | with_reducible assumption | with_reducible rfl | with_reducible apply Node.when_kept
                  | with_reducible apply Node.wrBit_kept | with_reducible apply Node.count_kept | with_reducible apply Node.setFlow_kept
                  | with_reducible apply Node.raise_kept | intro _)

theorem Node.sdtPassed_kept (n : Node) (i : Nat) (data : List Byte) (h0 : n.Kept rs vk) :
    (Node.sdtPassed n i data).Kept rs vk := by
  unfold Node.sdtPassed
  repeat' (first | with_reducible assumption | with_reducible rfl | with_reducible apply Node.when_kept
                  | with_reducible apply Node.wrBit_kept | with_reducible apply Node.setFlow_kept | intro _)

theorem Node.acceptPd_kept (n : Node) (i : Nat) (t : Telegram) (h0 : n.Kept rs vk) :
    (Node.acceptPd n i t).Kept rs vk := by
  unfold Node.acceptPd
  repeat' (first | with_reducible assumption | with_reducible rfl | with_reducible apply Node.when_kept
                  | with_reducible apply Node.putWord_kept | with_reducible apply Node.wrBit_kept | with_reducible apply Node.count_kept
                  | with_reducible apply Node.raise_kept | with_reducible apply Node.dsPut_kept | with_reducible apply Node.exchange_kept
                  | intro _)

theorem execPdReceived_kept (t : Telegram) (s : State) (hs : s.node.Kept rs vk) (s' : State) (ht : execPdReceived t s = .next s') :
    s'.node.Kept rs vk := by
  unfold execPdReceived at ht
  refine State.upd_kept hs ?_ ht
  repeat' (first | with_reducible assumption | with_reducible rfl | with_reducible apply Node.when_kept
                  | with_reducible apply Node.count_kept | with_reducible apply Node.stale_kept | with_reducible apply Node.sdtFailed_kept
                  | with_reducible apply Node.sdtPassed_kept | with_reducible apply Node.acceptPd_kept | intro _ | dsimp -proj only
                  | exact @rfl (List Record) _ | exact @rfl (SMap (Option (BitVec 256))) _ | split)

theorem Node.answerPull_kept (n : Node) (i : Nat) (t : Telegram) (h0 : n.Kept rs vk) :
    (Node.answerPull n i t).Kept rs vk := by
  unfold Node.answerPull
  repeat' (first | with_reducible assumption | with_reducible rfl | with_reducible apply Node.incr_kept
                  | with_reducible apply Node.dsAsk_kept | with_reducible apply Node.noMac_kept | with_reducible apply Node.handOver_kept
                  | with_reducible apply Node.stale_kept | intro _ | dsimp -proj only | exact @rfl (List Record) _
                  | exact @rfl (SMap (Option (BitVec 256))) _ | split)

theorem execPullRequestReceived_kept (t : Telegram) (s : State) (hs : s.node.Kept rs vk) (s' : State) (ht : execPullRequestReceived t s = .next
    s') :
    s'.node.Kept rs vk := by
  unfold execPullRequestReceived at ht
  refine State.upd_kept hs ?_ ht
  repeat' (first | with_reducible assumption | with_reducible rfl | with_reducible apply Node.when_kept
                  | with_reducible apply Node.each_kept | with_reducible apply Node.count_kept | with_reducible apply Node.answerPull_kept
                  | intro _ | dsimp -proj only | exact @rfl (List Record) _ | exact @rfl (SMap (Option (BitVec 256))) _ | split)

theorem execSubscriberTimeout_kept (ctx : Fin 1024) (s : State) (hs : s.node.Kept rs vk) (s' : State) (ht : execSubscriberTimeout ctx s = .next
    s') :
    s'.node.Kept rs vk := by
  unfold execSubscriberTimeout at ht
  refine State.upd_kept hs ?_ ht
  repeat' (first | with_reducible assumption | with_reducible rfl | with_reducible apply Node.when_kept
                  | with_reducible apply Node.wrBit_kept | with_reducible apply Node.count_kept | with_reducible apply Node.clearBytes_kept
                  | with_reducible apply Node.raise_kept | intro _)

theorem Node.setSesState_kept (n : Node) (k v : Nat) (h0 : n.Kept rs vk) :
    (Node.setSesState n k v).Kept rs vk := by
  unfold Node.setSesState
  repeat' (first | with_reducible assumption | with_reducible rfl | with_reducible apply Node.wr_kept)

theorem Node.sendMd_kept (n : Node) (k : Nat) (t : Telegram) (c : Option Nat) (h0 : n.Kept rs vk) :
    (Node.sendMd n k t c).Kept rs vk := by
  unfold Node.sendMd
  repeat' (first | with_reducible assumption | with_reducible rfl | with_reducible apply Node.when_kept
                  | with_reducible apply Node.count_kept | with_reducible apply Node.raise_kept | with_reducible apply Node.inject_kept | intro _
                  | dsimp -proj only | exact @rfl (List Record) _ | exact @rfl (SMap (Option (BitVec 256))) _ | split)

theorem Node.callerGo_kept (n : Node) (k : Nat) (h0 : n.Kept rs vk) :
    (Node.callerGo n k).Kept rs vk := by
  unfold Node.callerGo
  repeat' (first | with_reducible assumption | with_reducible rfl | with_reducible apply Node.when_kept
                  | with_reducible apply Node.incr_kept | with_reducible apply Node.setSes_kept | with_reducible apply Node.setSesState_kept
                  | with_reducible apply Node.sendMd_kept | intro _ | dsimp -proj only | exact @rfl (List Record) _
                  | exact @rfl (SMap (Option (BitVec 256))) _ | split | with_reducible apply mk_kept)

theorem Node.replierSend_kept (n : Node) (k : Nat) (com : Word) (h0 : n.Kept rs vk) :
    (Node.replierSend n k com).Kept rs vk := by
  unfold Node.replierSend
  repeat' (first | with_reducible assumption | with_reducible rfl | with_reducible apply Node.when_kept
                  | with_reducible apply Node.incr_kept | with_reducible apply Node.setSes_kept | with_reducible apply Node.raise_kept
                  | with_reducible apply Node.setSesState_kept | with_reducible apply Node.sendMd_kept | intro _ | dsimp -proj only
                  | exact @rfl (List Record) _ | exact @rfl (SMap (Option (BitVec 256))) _ | split)

theorem Node.replierGo_kept (n : Node) (k : Nat) (h0 : n.Kept rs vk) :
    (Node.replierGo n k).Kept rs vk := by
  unfold Node.replierGo
  repeat' (first | with_reducible assumption | with_reducible rfl | with_reducible apply Node.replierSend_kept)

theorem Node.msgGo_kept (n : Node) (k : Nat) (h0 : n.Kept rs vk) :
    (Node.msgGo n k).Kept rs vk := by
  unfold Node.msgGo
  repeat' (first | with_reducible assumption | with_reducible rfl | with_reducible apply Node.when_kept
                  | with_reducible apply Node.count_kept | with_reducible apply Node.dsAsk_kept | with_reducible apply Node.callerGo_kept
                  | with_reducible apply Node.replierGo_kept | intro _ | dsimp -proj only | exact @rfl (List Record) _
                  | exact @rfl (SMap (Option (BitVec 256))) _ | split)

theorem execMsgCmdGo_kept (by_ : Initiator) (session : Fin 256) (s : State) (hs : s.node.Kept rs vk) (s' : State)
    (ht : execMsgCmdGo by_ session s = .next s') :
    s'.node.Kept rs vk := by
  unfold execMsgCmdGo at ht
  refine State.upd_kept hs ?_ ht
  repeat' (first | with_reducible assumption | with_reducible rfl | with_reducible apply Node.access_kept
                  | with_reducible apply Node.msgGo_kept | intro _)

theorem Node.sesTimedOut_kept (n : Node) (k state : Nat) (h0 : n.Kept rs vk) :
    (Node.sesTimedOut n k state).Kept rs vk := by
  unfold Node.sesTimedOut
  repeat' (first | with_reducible assumption | with_reducible rfl | with_reducible apply Node.count_kept
                  | with_reducible apply Node.raise_kept | with_reducible apply Node.setSesState_kept)

theorem execMdReplyTimeout_kept (session : Fin 256) (s : State) (hs : s.node.Kept rs vk) (s' : State) (ht : execMdReplyTimeout session s = .next
    s') :
    s'.node.Kept rs vk := by
  unfold execMdReplyTimeout at ht
  refine State.upd_kept hs ?_ ht
  repeat' (first | with_reducible assumption | with_reducible rfl | with_reducible apply Node.when_kept
                  | with_reducible apply Node.setSes_kept | with_reducible apply Node.sendMd_kept | with_reducible apply Node.sesTimedOut_kept
                  | intro _ | dsimp -proj only | exact @rfl (List Record) _ | exact @rfl (SMap (Option (BitVec 256))) _ | split)

theorem Node.storeMd_kept (n : Node) (k : Nat) (t : Telegram) (h0 : n.Kept rs vk) :
    (Node.storeMd n k t).Kept rs vk := by
  unfold Node.storeMd
  repeat' (first | with_reducible assumption | with_reducible rfl | with_reducible apply Node.putWord_kept
                  | with_reducible apply Node.dsPut_kept)

theorem Node.arriveMd_kept (n : Node) (t : Telegram) (kinds : List TrdpType) (find : Node → Option Nat) (f : Nat → Node → Node) (h0 : n.Kept rs vk)
    (h1 : ∀ (x0 : Nat) (x1 : Node), Node.Kept rs vk x1 → (f x0 x1).Kept rs vk) :
    (Node.arriveMd n t kinds find f).Kept rs vk := by
  unfold Node.arriveMd
  repeat' (first | with_reducible assumption | with_reducible rfl | with_reducible apply h1 | with_reducible apply Node.when_kept
                  | with_reducible apply Node.count_kept | intro _ | dsimp -proj only | exact @rfl (List Record) _
                  | exact @rfl (SMap (Option (BitVec 256))) _ | split)

theorem Node.forVintner_kept (n : Node) (k : Nat) (t : Telegram) (h0 : n.Kept rs vk) :
    (Node.forVintner n k t).Kept rs vk := by
  unfold Node.forVintner
  repeat' (first | with_reducible assumption | with_reducible rfl | with_reducible apply Node.when_kept
                  | with_reducible apply Node.consistHeard_kept | intro _)

theorem execMdReplyReceived_kept (t : Telegram) (s : State) (hs : s.node.Kept rs vk) (s' : State) (ht : execMdReplyReceived t s = .next s') :
    s'.node.Kept rs vk := by
  unfold execMdReplyReceived at ht
  refine State.upd_kept hs ?_ ht
  repeat' (first | with_reducible assumption | with_reducible rfl | with_reducible apply Node.when_kept
                  | with_reducible apply Node.raise_kept | with_reducible apply Node.setSesState_kept | with_reducible apply Node.sendMd_kept
                  | with_reducible apply Node.storeMd_kept | with_reducible apply Node.arriveMd_kept | with_reducible apply Node.forVintner_kept
                  | intro _)

theorem execMdErrorReceived_kept (t : Telegram) (s : State) (hs : s.node.Kept rs vk) (s' : State) (ht : execMdErrorReceived t s = .next s') :
    s'.node.Kept rs vk := by
  unfold execMdErrorReceived at ht
  refine State.upd_kept hs ?_ ht
  repeat' (first | with_reducible assumption | with_reducible rfl | with_reducible apply Node.raise_kept
                  | with_reducible apply Node.setSesState_kept | with_reducible apply Node.arriveMd_kept | intro _)

theorem Node.request_kept (n : Node) (k : Nat) (t : Telegram) (h0 : n.Kept rs vk) :
    (Node.request n k t).Kept rs vk := by
  unfold Node.request
  repeat' (first | with_reducible assumption | with_reducible rfl | with_reducible apply Node.count_kept
                  | with_reducible apply Node.setSes_kept | with_reducible apply Node.raise_kept | with_reducible apply Node.setSesState_kept
                  | with_reducible apply Node.sendMd_kept | with_reducible apply Node.storeMd_kept | intro _ | dsimp -proj only
                  | exact @rfl (List Record) _ | exact @rfl (SMap (Option (BitVec 256))) _ | split)

theorem execReplierTimeout_kept (session : Fin 256) (s : State) (hs : s.node.Kept rs vk) (s' : State) (ht : execReplierTimeout session s = .next
    s') :
    s'.node.Kept rs vk := by
  unfold execReplierTimeout at ht
  refine State.upd_kept hs ?_ ht
  repeat' (first | with_reducible assumption | with_reducible rfl | with_reducible apply Node.when_kept
                  | with_reducible apply Node.sesTimedOut_kept | intro _ | dsimp -proj only | exact @rfl (List Record) _
                  | exact @rfl (SMap (Option (BitVec 256))) _ | split)

theorem execMdConfirmReceived_kept (t : Telegram) (s : State) (hs : s.node.Kept rs vk) (s' : State) (ht : execMdConfirmReceived t s = .next s') :
    s'.node.Kept rs vk := by
  unfold execMdConfirmReceived at ht
  refine State.upd_kept hs ?_ ht
  repeat' (first | with_reducible assumption | with_reducible rfl | with_reducible apply Node.raise_kept
                  | with_reducible apply Node.setSesState_kept | with_reducible apply Node.arriveMd_kept | intro _)

theorem Node.setAsk_kept (n : Node) (a : OdAsk) (h0 : n.Kept rs vk) :
    (Node.setAsk n a).Kept rs vk := by
  unfold Node.setAsk
  repeat' (first | with_reducible assumption | with_reducible rfl | with_reducible apply Node.when_kept | intro _
                  | dsimp -proj only | exact @rfl (List Record) _ | exact @rfl (SMap (Option (BitVec 256))) _ | split
                  | with_reducible apply mk_kept)

theorem Node.tagSent_kept (n : Node) (p : Path) (h0 : n.Kept rs vk) :
    (Node.tagSent n p).Kept rs vk := by
  unfold Node.tagSent
  repeat' (first | with_reducible assumption | with_reducible rfl | with_reducible apply Node.when_kept
                  | with_reducible apply Node.setSession_kept | intro _)

theorem Node.setT15Box_kept (n : Node) (p : Nat) (b : T15Box) (h0 : n.Kept rs vk) :
    (Node.setT15Box n p b).Kept rs vk := by
  unfold Node.setT15Box
  repeat' (first | with_reducible assumption | with_reducible rfl | intro _ | dsimp -proj only | exact @rfl (List Record) _
                  | exact @rfl (SMap (Option (BitVec 256))) _ | split | with_reducible apply mk_kept)

theorem Node.trdpReply_kept (n : Node) (src : Ip) (bytes : List Byte) (h0 : n.Kept rs vk) :
    (Node.trdpReply n src bytes).Kept rs vk := by
  unfold Node.trdpReply
  repeat' (first | with_reducible assumption | with_reducible rfl | with_reducible apply Node.dsPut_kept
                  | with_reducible apply Node.replierSend_kept | intro _ | dsimp -proj only | exact @rfl (List Record) _
                  | exact @rfl (SMap (Option (BitVec 256))) _ | split)

theorem Node.sendReply_kept (n : Node) (a : OdAsk) (h : OdHeader) (data : List Byte) (h0 : n.Kept rs vk) :
    (Node.sendReply n a h data).Kept rs vk := by
  unfold Node.sendReply
  repeat' (first | with_reducible assumption | with_reducible rfl | with_reducible apply Node.when_kept
                  | with_reducible apply Node.emit_kept | with_reducible apply Node.tagSent_kept | with_reducible apply Node.setT15Box_kept
                  | with_reducible apply Node.trdpReply_kept | intro _ | dsimp -proj only | exact @rfl (List Record) _
                  | exact @rfl (SMap (Option (BitVec 256))) _ | split)

theorem Node.answerPath_kept (n : Node) (p : Path) (abort arg total : Nat) (more : Bool) (data : List Byte) (h0 : n.Kept rs vk) :
    (Node.answerPath n p abort arg total more data).Kept rs vk := by
  unfold Node.answerPath
  repeat' (first | with_reducible assumption | with_reducible rfl | with_reducible apply Node.sendReply_kept)

theorem Node.odEnd_kept (n : Node) (p : Path) (irq : Bool) (abort arg : Nat) (more : Bool) (h0 : n.Kept rs vk) :
    (Node.odEnd n p irq abort arg more).Kept rs vk := by
  unfold Node.odEnd
  repeat' (first | with_reducible assumption | with_reducible rfl | with_reducible apply Node.when_kept
                  | with_reducible apply Node.wr_kept | with_reducible apply Node.wrBit_kept | with_reducible apply Node.count_kept
                  | with_reducible apply Node.fire_kept | with_reducible apply Node.answerPath_kept | intro _ | dsimp -proj only
                  | exact @rfl (List Record) _ | exact @rfl (SMap (Option (BitVec 256))) _ | split)

theorem Node.odAbort_kept (n : Node) (p : Path) (irq : Bool) (abort : Nat) (h0 : n.Kept rs vk) :
    (Node.odAbort n p irq abort).Kept rs vk := by
  unfold Node.odAbort
  repeat' (first | with_reducible assumption | with_reducible rfl | with_reducible apply Node.odEnd_kept)

theorem Node.odReply_kept (n : Node) (p : Path) (irq : Bool) (data : List Byte) (total : Nat) (more : Bool) (h0 : n.Kept rs vk) :
    (Node.odReply n p irq data total more).Kept rs vk := by
  unfold Node.odReply
  repeat' (first | with_reducible assumption | with_reducible rfl | with_reducible apply Node.wr_kept
                  | with_reducible apply Node.putBytes_kept | with_reducible apply Node.answerPath_kept | with_reducible apply Node.odEnd_kept
                  | intro _ | dsimp -proj only | exact @rfl (List Record) _ | exact @rfl (SMap (Option (BitVec 256))) _ | split)

theorem Node.odSend_kept (n : Node) (p : Path) (index sub : Nat) (irq : Bool) (value : List Byte) (h0 : n.Kept rs vk) :
    (Node.odSend n p index sub irq value).Kept rs vk := by
  unfold Node.odSend
  repeat' (first | with_reducible assumption | with_reducible rfl | with_reducible apply Node.putTransfer_kept
                  | with_reducible apply Node.freezeReadout_kept | with_reducible apply Node.odReply_kept | intro _ | dsimp -proj only
                  | exact @rfl (List Record) _ | exact @rfl (SMap (Option (BitVec 256))) _ | split)

theorem Node.odOutcome_kept (n : Node) (g code : Nat) (h0 : n.Kept rs vk) :
    (Node.odOutcome n g code).Kept rs vk := by
  unfold Node.odOutcome
  repeat' (first | with_reducible assumption | with_reducible rfl | with_reducible apply Node.each_kept
                  | with_reducible apply Node.putShadows_kept | with_reducible apply Node.setAsk_kept | with_reducible apply Node.odEnd_kept
                  | intro _ | dsimp -proj only | exact @rfl (List Record) _ | exact @rfl (SMap (Option (BitVec 256))) _ | split
                  | with_reducible apply mk_kept)

theorem Node.updStep_kept (n : Node) (p : Path) (index : Nat) (f : Node → Node) (h0 : n.Kept rs vk) (h1 : ∀ (x0 : Node), Node.Kept rs vk x0 →
    (f x0).Kept rs vk) :
    (Node.updStep n p index f).Kept rs vk := by
  unfold Node.updStep
  repeat' (first | with_reducible assumption | with_reducible rfl | with_reducible apply h1 | with_reducible apply Node.when_kept
                  | with_reducible apply Node.setAsk_kept | with_reducible apply Node.odEnd_kept | intro _ | dsimp -proj only
                  | exact @rfl (List Record) _ | exact @rfl (SMap (Option (BitVec 256))) _ | split)

theorem execUpdOpen_kept (path : Path) (key : Half) (slotB : Bool) (s : State) (hs : s.node.Kept rs vk) (s' : State)
    (ht : execUpdOpen path key slotB s = .next s') :
    s'.node.Kept rs vk := by
  unfold execUpdOpen at ht
  refine State.upd_kept hs ?_ ht
  repeat' (first | with_reducible assumption | with_reducible rfl | with_reducible apply Node.when_kept
                  | with_reducible apply Node.updOpen_kept | with_reducible apply Node.updStep_kept | intro _)

theorem execUpdChunk_kept (path : Path) (ofs : Nat) (bytes : List Byte) (s : State) (hs : s.node.Kept rs vk) (s' : State)
    (ht : execUpdChunk path ofs bytes s = .next s') :
    s'.node.Kept rs vk := by
  unfold execUpdChunk at ht
  refine State.upd_kept hs ?_ ht
  repeat' (first | with_reducible assumption | with_reducible rfl | with_reducible apply Node.updWrite_kept
                  | with_reducible apply Node.chunkGo_kept | with_reducible apply Node.updStep_kept | intro _ | dsimp -proj only
                  | exact @rfl (List Record) _ | exact @rfl (SMap (Option (BitVec 256))) _ | split)

theorem execUpdFinish_kept (path : Path) (key : Half) (_slotB : Bool) (s : State) (hs : s.node.Kept rs vk) (s' : State)
    (ht : execUpdFinish path key _slotB s = .next s') :
    s'.node.Kept rs vk := by
  unfold execUpdFinish at ht
  refine State.upd_kept hs ?_ ht
  repeat' (first | with_reducible assumption | with_reducible rfl | with_reducible apply Node.when_kept
                  | with_reducible apply Node.updFinish_kept | with_reducible apply Node.updStep_kept | intro _)

theorem execUpdAbort_kept (path : Path) (key : Half) (_slotB : Bool) (s : State) (hs : s.node.Kept rs vk) (s' : State)
    (ht : execUpdAbort path key _slotB s = .next s') :
    s'.node.Kept rs vk := by
  unfold execUpdAbort at ht
  refine State.upd_kept hs ?_ ht
  repeat' (first | with_reducible assumption | with_reducible rfl | with_reducible apply Node.when_kept
                  | with_reducible apply Node.updAbort_kept | with_reducible apply Node.updStep_kept | intro _)

theorem execOwnerChangeRecord_kept (path : Path) (signer slot : Fin 4) (key : Option (BitVec 256)) (counter : Nat) (edOk mldsaOk : Bool) (s : State)
    (hs : s.node.Kept rs vk) (s' : State) (ht : execOwnerChangeRecord path signer slot key counter edOk mldsaOk s = .next s') :
    s'.node.Kept rs vk := by
  unfold execOwnerChangeRecord at ht
  refine State.upd_kept hs ?_ ht
  repeat' (first | with_reducible assumption | with_reducible rfl | with_reducible apply Node.when_kept
                  | with_reducible apply Node.ownerChange_kept | with_reducible apply Node.setAsk_kept | with_reducible apply Node.odEnd_kept
                  | intro _ | dsimp -proj only | exact @rfl (List Record) _ | exact @rfl (SMap (Option (BitVec 256))) _ | split)

theorem execRoleKeyWrite_kept (path : Path) (role : Fin 4) (keyValue : BitVec 256) (s : State) (hs : s.node.Kept rs vk) (s' : State)
    (ht : execRoleKeyWrite path role keyValue s = .next s') : s'.node.Kept rs vk := by
  unfold execRoleKeyWrite at ht
  refine State.upd_kept hs (fun x hx => ?_) ht
  refine Node.when_kept _ _ _ hx fun y hy => ?_
  have hy' := Node.setAsk_kept y ⟨path, 2, false, 0x2F20, 2, 32, false⟩ hy
  dsimp only
  split
  · exact Node.odEnd_kept _ _ _ _ _ _ hy'
  · split
    · exact Node.odEnd_kept _ _ _ _ _ _ hy'
    · split
      · exact Node.odEnd_kept _ _ _ _ _ _ hy'
      · exact Node.odEnd_kept _ _ _ _ _ _ (Node.setRoleKey_kept _ _ _ hy' (by omega))

theorem execAttestNonceWrite_kept (path : Path) (nonce : BitVec 256) (s : State) (hs : s.node.Kept rs vk) (s' : State)
    (ht : execAttestNonceWrite path nonce s = .next s') :
    s'.node.Kept rs vk := by
  unfold execAttestNonceWrite at ht
  refine State.upd_kept hs ?_ ht
  repeat' (first | with_reducible assumption | with_reducible rfl | with_reducible apply Node.when_kept
                  | with_reducible apply Node.startQuote_kept | with_reducible apply Node.setAsk_kept | with_reducible apply Node.odEnd_kept
                  | intro _ | dsimp -proj only | exact @rfl (List Record) _ | exact @rfl (SMap (Option (BitVec 256))) _ | split)

theorem execAttestQuoteRead_kept (path : Path) (s : State) (hs : s.node.Kept rs vk) (s' : State) (ht : execAttestQuoteRead path s = .next s') :
    s'.node.Kept rs vk := by
  unfold execAttestQuoteRead at ht
  refine State.upd_kept hs ?_ ht
  repeat' (first | with_reducible assumption | with_reducible rfl | with_reducible apply Node.when_kept
                  | with_reducible apply Node.setAsk_kept | with_reducible apply Node.odEnd_kept | with_reducible apply Node.odSend_kept | intro _
                  | dsimp -proj only | exact @rfl (List Record) _ | exact @rfl (SMap (Option (BitVec 256))) _ | split)

theorem Node.setCanState_kept (n : Node) (c v : Nat) (h0 : n.Kept rs vk) :
    (Node.setCanState n c v).Kept rs vk := by
  unfold Node.setCanState
  repeat' (first | with_reducible assumption | with_reducible rfl | with_reducible apply Node.wr_kept)

theorem Node.startRecovery_kept (n : Node) (c : Nat) (h0 : n.Kept rs vk) :
    (Node.startRecovery n c).Kept rs vk := by
  unfold Node.startRecovery
  repeat' (first | with_reducible assumption | with_reducible rfl | with_reducible apply Node.wr_kept
                  | with_reducible apply Node.setCanState_kept)

theorem Node.seeRecovery_kept (n : Node) (c count : Nat) (h0 : n.Kept rs vk) :
    (Node.seeRecovery n c count).Kept rs vk := by
  unfold Node.seeRecovery
  repeat' (first | with_reducible assumption | with_reducible rfl | with_reducible apply Node.when_kept
                  | with_reducible apply Node.wr_kept | with_reducible apply Node.count_kept | intro _)

theorem Node.refAgain_kept (n : Node) (c : Nat) (h0 : n.Kept rs vk) :
    (Node.refAgain n c).Kept rs vk := by
  unfold Node.refAgain
  repeat' (first | with_reducible assumption | with_reducible rfl | with_reducible apply Node.setCan_kept)

theorem Node.confine_kept (n : Node) (c : Nat) (h0 : n.Kept rs vk) :
    (Node.confine n c).Kept rs vk := by
  unfold Node.confine
  repeat' (first | with_reducible assumption | with_reducible rfl | with_reducible apply Node.when_kept
                  | with_reducible apply Node.count_kept | with_reducible apply Node.setCan_kept | with_reducible apply Node.raise_kept
                  | with_reducible apply Node.setCanState_kept | with_reducible apply Node.startRecovery_kept
                  | with_reducible apply Node.refAgain_kept | intro _ | dsimp -proj only | exact @rfl (List Record) _
                  | exact @rfl (SMap (Option (BitVec 256))) _ | split)

theorem Node.setErrors_kept (n : Node) (c tec rec_ : Nat) (h0 : n.Kept rs vk) :
    (Node.setErrors n c tec rec_).Kept rs vk := by
  unfold Node.setErrors
  repeat' (first | with_reducible assumption | with_reducible rfl | with_reducible apply Node.when_kept
                  | with_reducible apply Node.wr_kept | with_reducible apply Node.confine_kept | intro _)

theorem Node.canStop_kept (n : Node) (c p : Nat) (h0 : n.Kept rs vk) :
    (Node.canStop n c p).Kept rs vk := by
  unfold Node.canStop
  repeat' (first | with_reducible assumption | with_reducible rfl | with_reducible apply Node.countBy_kept
                  | with_reducible apply Node.setCan_kept | with_reducible apply Node.setCanState_kept)

theorem Node.canAuto_kept (n : Node) (c : Nat) (h0 : n.Kept rs vk) :
    (Node.canAuto n c).Kept rs vk := by
  unfold Node.canAuto
  repeat' (first | with_reducible assumption | with_reducible rfl | with_reducible apply Node.when_kept
                  | with_reducible apply Node.startRecovery_kept | intro _)

theorem Node.canStart_kept (n : Node) (c : Nat) (h0 : n.Kept rs vk) :
    (Node.canStart n c).Kept rs vk := by
  unfold Node.canStart
  repeat' (first | with_reducible assumption | with_reducible rfl | with_reducible apply Node.setCanState_kept
                  | with_reducible apply Node.canAuto_kept)

theorem Node.showDirections_kept (n : Node) (c : Nat) (h0 : n.Kept rs vk) :
    (Node.showDirections n c).Kept rs vk := by
  unfold Node.showDirections
  repeat' (first | with_reducible assumption | with_reducible rfl | with_reducible apply Node.each_kept
                  | with_reducible apply Node.wr_kept | intro _)

theorem Node.showAllDirections_kept (n : Node) (h0 : n.Kept rs vk) :
    (Node.showAllDirections n).Kept rs vk := by
  unfold Node.showAllDirections
  repeat' (first | with_reducible assumption | with_reducible rfl | with_reducible apply Node.each_kept
                  | with_reducible apply Node.showDirections_kept | intro _)

theorem Node.canApplied_kept (n before : Node) (c : Nat) (h0 : n.Kept rs vk) (_h1 : before.Kept rs vk) :
    (Node.canApplied n before c).Kept rs vk := by
  unfold Node.canApplied
  repeat' (first | with_reducible assumption | with_reducible rfl | with_reducible apply Node.when_kept
                  | with_reducible apply Node.setCanState_kept | with_reducible apply Node.canAuto_kept
                  | with_reducible apply Node.showDirections_kept | intro _)

theorem execCanTxPush_kept (c : Fin 8) (tag : Half) (frame : CanFrame) (s : State) (hs : s.node.Kept rs vk) (s' : State)
    (ht : execCanTxPush c tag frame s = .next s') :
    s'.node.Kept rs vk := by
  unfold execCanTxPush at ht
  refine State.upd_kept hs ?_ ht
  repeat' (first | with_reducible assumption | with_reducible rfl | with_reducible apply Node.when_kept
                  | with_reducible apply Node.count_kept | with_reducible apply Node.setCan_kept | with_reducible apply Node.emit_kept | intro _
                  | dsimp -proj only | exact @rfl (List Record) _ | exact @rfl (SMap (Option (BitVec 256))) _ | split)

theorem execCanTxCancel_kept (c : Fin 8) (tag : Half) (begun : Bool) (s : State) (hs : s.node.Kept rs vk) (s' : State)
    (ht : execCanTxCancel c tag begun s = .next s') :
    s'.node.Kept rs vk := by
  unfold execCanTxCancel at ht
  refine State.upd_kept hs ?_ ht
  repeat' (first | with_reducible assumption | with_reducible rfl | with_reducible apply Node.when_kept
                  | with_reducible apply Node.count_kept | with_reducible apply Node.setCan_kept | with_reducible apply Node.emit_kept | intro _
                  | dsimp -proj only | exact @rfl (List Record) _ | exact @rfl (SMap (Option (BitVec 256))) _ | split)

theorem Node.capture_kept (n : Node) (c stamp : Nat) (h0 : n.Kept rs vk) :
    (Node.capture n c stamp).Kept rs vk := by
  unfold Node.capture
  repeat' (first | with_reducible assumption | with_reducible rfl | with_reducible apply Node.incr_kept
                  | with_reducible apply Node.putWord64_kept)

theorem Node.tdcError_kept (n : Node) (c : Nat) (h0 : n.Kept rs vk) :
    (Node.tdcError n c).Kept rs vk := by
  unfold Node.tdcError
  repeat' (first | with_reducible assumption | with_reducible rfl | with_reducible apply Node.wr_kept
                  | with_reducible apply Node.count_kept | with_reducible apply Node.setCan_kept | with_reducible apply Node.took_kept
                  | with_reducible apply Node.setErrors_kept)

theorem execCanTxDone_kept (c : Fin 8) (ref : Bool) (sofAgo loopMtq : Nat) (s : State) (hs : s.node.Kept rs vk) (s' : State)
    (ht : execCanTxDone c ref sofAgo loopMtq s = .next s') :
    s'.node.Kept rs vk := by
  unfold execCanTxDone at ht
  refine State.upd_kept hs ?_ ht
  repeat' (first | with_reducible assumption | with_reducible rfl | with_reducible apply Node.when_kept
                  | with_reducible apply Node.count_kept | with_reducible apply Node.setCan_kept | with_reducible apply Node.emit_kept
                  | with_reducible apply Node.setErrors_kept | with_reducible apply Node.capture_kept | with_reducible apply Node.tdcError_kept
                  | intro _ | dsimp -proj only | exact @rfl (List Record) _ | exact @rfl (SMap (Option (BitVec 256))) _ | split)

theorem execCanArbLost_kept (c : Fin 8) (ref toRef : Bool) (s : State) (hs : s.node.Kept rs vk) (s' : State)
    (ht : execCanArbLost c ref toRef s = .next s') :
    s'.node.Kept rs vk := by
  unfold execCanArbLost at ht
  refine State.upd_kept hs ?_ ht
  repeat' (first | with_reducible assumption | with_reducible rfl | with_reducible apply Node.when_kept
                  | with_reducible apply Node.count_kept | with_reducible apply Node.setCan_kept | intro _ | dsimp -proj only
                  | exact @rfl (List Record) _ | exact @rfl (SMap (Option (BitVec 256))) _ | split)

theorem execCanFrameReceived_kept (c : Fin 8) (frame : CanFrame) (sofAgo : Nat) (s : State) (hs : s.node.Kept rs vk) (s' : State)
    (ht : execCanFrameReceived c frame sofAgo s = .next s') :
    s'.node.Kept rs vk := by
  unfold execCanFrameReceived at ht
  refine State.upd_kept hs ?_ ht
  repeat' (first | with_reducible assumption | with_reducible rfl | with_reducible apply Node.when_kept
                  | with_reducible apply Node.wr_kept | with_reducible apply Node.count_kept | with_reducible apply Node.setCan_kept
                  | with_reducible apply Node.took_kept | with_reducible apply Node.raiseFirst_kept | with_reducible apply Node.endRun_kept
                  | with_reducible apply Node.setCanState_kept | with_reducible apply Node.setErrors_kept | with_reducible apply Node.capture_kept
                  | intro _ | dsimp -proj only | exact @rfl (List Record) _ | exact @rfl (SMap (Option (BitVec 256))) _ | split)

theorem Node.attemptError_kept (n : Node) (c : Nat) (collides : Bool) (h0 : n.Kept rs vk) :
    (Node.attemptError n c collides).Kept rs vk := by
  unfold Node.attemptError
  repeat' (first | with_reducible assumption | with_reducible rfl | with_reducible apply Node.when_kept
                  | with_reducible apply Node.putWord_kept | with_reducible apply Node.wrBit_kept | with_reducible apply Node.count_kept
                  | with_reducible apply Node.setCan_kept | with_reducible apply Node.raise_kept | intro _ | dsimp -proj only
                  | exact @rfl (List Record) _ | exact @rfl (SMap (Option (BitVec 256))) _ | split)

theorem Node.restrictedWait_kept (n : Node) (c : Nat) (h0 : n.Kept rs vk) :
    (Node.restrictedWait n c).Kept rs vk := by
  unfold Node.restrictedWait
  repeat' (first | with_reducible assumption | with_reducible rfl | with_reducible apply Node.when_kept
                  | with_reducible apply Node.setCanState_kept | intro _)

theorem execCanErrorDetected_kept (c : Fin 8) (kind : CanError) (transmitting inData ref : Bool) (dTec dRec : Nat) (s : State)
    (hs : s.node.Kept rs vk) (s' : State) (ht : execCanErrorDetected c kind transmitting inData ref dTec dRec s = .next s') :
    s'.node.Kept rs vk := by
  unfold execCanErrorDetected at ht
  refine State.upd_kept hs ?_ ht
  repeat' (first | with_reducible assumption | with_reducible rfl | with_reducible apply Node.when_kept
                  | with_reducible apply Node.wr_kept | with_reducible apply Node.count_kept | with_reducible apply Node.refAgain_kept
                  | with_reducible apply Node.setErrors_kept | with_reducible apply Node.attemptError_kept
                  | with_reducible apply Node.restrictedWait_kept | intro _)

theorem execCanRecoveryDone_kept (c : Fin 8) (s : State) (hs : s.node.Kept rs vk) (s' : State) (ht : execCanRecoveryDone c s = .next s') :
    s'.node.Kept rs vk := by
  unfold execCanRecoveryDone at ht
  refine State.upd_kept hs ?_ ht
  repeat' (first | with_reducible assumption | with_reducible rfl | with_reducible apply Node.when_kept
                  | with_reducible apply Node.wr_kept | with_reducible apply Node.setCan_kept | with_reducible apply Node.raise_kept
                  | with_reducible apply Node.setCanState_kept | intro _)

theorem Node.canRecover_kept (n : Node) (c : Nat) (h0 : n.Kept rs vk) :
    (Node.canRecover n c).Kept rs vk := by
  unfold Node.canRecover
  repeat' (first | with_reducible assumption | with_reducible rfl | with_reducible apply Node.raise_kept
                  | with_reducible apply Node.startRecovery_kept | intro _ | dsimp -proj only | exact @rfl (List Record) _
                  | exact @rfl (SMap (Option (BitVec 256))) _ | split)

theorem execCanCmdRecover_kept (by_ : Option Initiator) (key : Half) (c : Fin 8) (s : State) (hs : s.node.Kept rs vk) (s' : State)
    (ht : execCanCmdRecover by_ key c s = .next s') :
    s'.node.Kept rs vk := by
  unfold execCanCmdRecover at ht
  refine State.upd_kept hs ?_ ht
  repeat' (first | with_reducible assumption | with_reducible rfl | with_reducible apply Node.when_kept
                  | with_reducible apply Node.access_kept | with_reducible apply Node.canRecover_kept | intro _ | dsimp -proj only
                  | exact @rfl (List Record) _ | exact @rfl (SMap (Option (BitVec 256))) _ | split)

theorem execCanCmdClearIdc_kept (by_ : Initiator) (key : Half) (c : Fin 8) (s : State) (hs : s.node.Kept rs vk) (s' : State)
    (ht : execCanCmdClearIdc by_ key c s = .next s') :
    s'.node.Kept rs vk := by
  unfold execCanCmdClearIdc at ht
  refine State.upd_kept hs ?_ ht
  repeat' (first | with_reducible assumption | with_reducible rfl | with_reducible apply Node.when_kept
                  | with_reducible apply Node.wrBit_kept | with_reducible apply Node.access_kept | intro _)

theorem execCanIntegrated_kept (c : Fin 8) (s : State) (hs : s.node.Kept rs vk) (s' : State) (ht : execCanIntegrated c s = .next s') :
    s'.node.Kept rs vk := by
  unfold execCanIntegrated at ht
  refine State.upd_kept hs ?_ ht
  repeat' (first | with_reducible assumption | with_reducible rfl | with_reducible apply Node.when_kept
                  | with_reducible apply Node.setCanState_kept | intro _)

theorem Node.mbStore_kept (n : Node) (c b : Nat) (toBus : Bool) (words : List (Nat × Word)) (h0 : n.Kept rs vk) :
    (Node.mbStore n c b toBus words).Kept rs vk := by
  unfold Node.mbStore
  repeat' (first | with_reducible assumption | with_reducible rfl | with_reducible apply Node.putWords_kept
                  | with_reducible apply Node.wrBit_kept | with_reducible apply Node.count_kept | with_reducible apply Node.incr_kept | intro _
                  | dsimp -proj only | exact @rfl (List Record) _ | exact @rfl (SMap (Option (BitVec 256))) _ | split)

theorem Node.mbAck_kept (n : Node) (c b : Nat) (upd : Nat) (h0 : n.Kept rs vk) :
    (Node.mbAck n c b upd).Kept rs vk := by
  unfold Node.mbAck
  repeat' (first | with_reducible assumption | with_reducible rfl | with_reducible apply Node.when_kept
                  | with_reducible apply Node.wrBit_kept | intro _)

theorem execMbUpdate_kept (c : Fin 8) (b : Fin 64) (byHost : Bool) (frame : CanFrame) (stamp : DWord) (s : State) (hs : s.node.Kept rs vk)
    (s' : State) (ht : execMbUpdate c b byHost frame stamp s = .next s') :
    s'.node.Kept rs vk := by
  unfold execMbUpdate at ht
  refine State.upd_kept hs ?_ ht
  repeat' (first | with_reducible assumption | with_reducible rfl | with_reducible apply Node.when_kept
                  | with_reducible apply Node.cross_kept | with_reducible apply Node.mbStore_kept | intro _)

theorem execMbAckUpd_kept (c : Fin 8) (b : Fin 64) (upd : Half) (byReader : Bool) (s : State) (hs : s.node.Kept rs vk) (s' : State)
    (ht : execMbAckUpd c b upd byReader s = .next s') :
    s'.node.Kept rs vk := by
  unfold execMbAckUpd at ht
  refine State.upd_kept hs ?_ ht
  repeat' (first | with_reducible assumption | with_reducible rfl | with_reducible apply Node.when_kept
                  | with_reducible apply Node.count_kept | with_reducible apply Node.cross_kept | with_reducible apply Node.mbAck_kept | intro _
                  | dsimp -proj only | exact @rfl (List Record) _ | exact @rfl (SMap (Option (BitVec 256))) _ | split)

theorem Node.setHeader_kept (n : Node) (p k : Nat) (v : Word) (h0 : n.Kept rs vk) :
    (Node.setHeader n p k v).Kept rs vk := by
  unfold Node.setHeader
  repeat' (first | with_reducible assumption | with_reducible rfl | with_reducible apply Node.putRamWord_kept)

theorem Node.setImgBit_kept (n : Node) (p b : Nat) (v : Bool) (h0 : n.Kept rs vk) :
    (Node.setImgBit n p b v).Kept rs vk := by
  unfold Node.setImgBit
  repeat' (first | with_reducible assumption | with_reducible rfl | with_reducible apply Node.setHeader_kept)

theorem Node.outExchange_kept (n : Node) (p : Nat) (h0 : n.Kept rs vk) :
    (Node.outExchange n p).Kept rs vk := by
  unfold Node.outExchange
  repeat' (first | with_reducible assumption | with_reducible rfl | with_reducible apply Node.setImgBit_kept)

theorem Node.setPressState_kept (n : Node) (p v : Nat) (h0 : n.Kept rs vk) :
    (Node.setPressState n p v).Kept rs vk := by
  unfold Node.setPressState
  repeat' (first | with_reducible assumption | with_reducible rfl | with_reducible apply Node.wr_kept
                  | with_reducible apply Node.wrBit_kept | with_reducible apply Node.setImgBit_kept)

theorem Node.endCycle_kept (n : Node) (p lateNs : Nat) (h0 : n.Kept rs vk) :
    (Node.endCycle n p lateNs).Kept rs vk := by
  unfold Node.endCycle
  repeat' (first | with_reducible assumption | with_reducible rfl | with_reducible apply Node.setPress_kept
                  | with_reducible apply Node.actionDone_kept | intro _ | dsimp -proj only | exact @rfl (List Record) _
                  | exact @rfl (SMap (Option (BitVec 256))) _ | split)

theorem Node.drivePin_kept (n : Node) (p : Nat) (d : FieldDrive) (h0 : n.Kept rs vk) :
    (Node.drivePin n p d).Kept rs vk := by
  unfold Node.drivePin
  repeat' (first | with_reducible assumption | with_reducible rfl | with_reducible apply Node.when_kept
                  | with_reducible apply Node.setLineUnit_kept | with_reducible apply Node.setCan_kept | with_reducible apply Node.emit_kept
                  | intro _ | dsimp -proj only | exact @rfl (List Record) _ | exact @rfl (SMap (Option (BitVec 256))) _ | split
                  | with_reducible apply mk_kept)

theorem Node.lineSilent_kept (n : Node) (u : Nat) (h0 : n.Kept rs vk) :
    (Node.lineSilent n u).Kept rs vk := by
  unfold Node.lineSilent
  repeat' (first | with_reducible assumption | with_reducible rfl | with_reducible apply Node.setLineUnit_kept)

theorem Node.stopPress_kept (n : Node) (p cause lateNs : Nat) (h0 : n.Kept rs vk) :
    (Node.stopPress n p cause lateNs).Kept rs vk := by
  unfold Node.stopPress
  repeat' (first | with_reducible assumption | with_reducible rfl | with_reducible apply Node.each_kept
                  | with_reducible apply Node.wr_kept | with_reducible apply Node.clearBytes_kept | with_reducible apply Node.setPress_kept
                  | with_reducible apply Node.dropFault_kept | with_reducible apply Node.raise_kept | with_reducible apply Node.canStop_kept
                  | with_reducible apply Node.setPressState_kept | with_reducible apply Node.endCycle_kept
                  | with_reducible apply Node.lineSilent_kept | intro _)

theorem Node.loadPress_kept (n : Node) (p : Nat) (counts : Bool) (h0 : n.Kept rs vk) :
    (Node.loadPress n p counts).Kept rs vk := by
  unfold Node.loadPress
  repeat' (first | with_reducible assumption | with_reducible rfl | with_reducible apply Node.clearBytes_kept
                  | with_reducible apply Node.setPress_kept | with_reducible apply Node.extendMeas_kept
                  | with_reducible apply Node.setPressState_kept | intro _ | dsimp -proj only | exact @rfl (List Record) _
                  | exact @rfl (SMap (Option (BitVec 256))) _ | split)

theorem Node.loadWaiting_kept (n : Node) (h0 : n.Kept rs vk) :
    (Node.loadWaiting n).Kept rs vk := by
  unfold Node.loadWaiting
  repeat' (first | with_reducible assumption | with_reducible rfl | with_reducible apply Node.when_kept
                  | with_reducible apply Node.each_kept | with_reducible apply Node.loadPress_kept | intro _)

theorem Node.followStop_kept (n : Node) (p : Nat) (f : StopFollow) (h0 : n.Kept rs vk) :
    (Node.followStop n p f).Kept rs vk := by
  unfold Node.followStop
  repeat' (first | with_reducible assumption | with_reducible rfl | with_reducible apply Node.wrBit_kept
                  | with_reducible apply Node.setPress_kept | with_reducible apply Node.dropFault_kept
                  | with_reducible apply Node.setPressState_kept | with_reducible apply Node.loadPress_kept | intro _ | dsimp -proj only
                  | exact @rfl (List Record) _ | exact @rfl (SMap (Option (BitVec 256))) _ | split)

theorem Node.requestStop_kept (n : Node) (p cause : Nat) (f : StopFollow) (h0 : n.Kept rs vk) :
    (Node.requestStop n p cause f).Kept rs vk := by
  unfold Node.requestStop
  repeat' (first | with_reducible assumption | with_reducible rfl | with_reducible apply Node.when_kept
                  | with_reducible apply Node.setPress_kept | with_reducible apply Node.stopPress_kept | with_reducible apply Node.followStop_kept
                  | intro _ | dsimp -proj only | exact @rfl (List Record) _ | exact @rfl (SMap (Option (BitVec 256))) _ | split)

theorem Node.pressCommand_kept (n : Node) (p op : Nat) (h0 : n.Kept rs vk) :
    (Node.pressCommand n p op).Kept rs vk := by
  unfold Node.pressCommand
  repeat' (first | with_reducible assumption | with_reducible rfl | with_reducible apply Node.raise_kept
                  | with_reducible apply Node.loadWaiting_kept | with_reducible apply Node.requestStop_kept | intro _ | dsimp -proj only
                  | exact @rfl (List Record) _ | exact @rfl (SMap (Option (BitVec 256))) _ | split)

theorem Node.stopWaiting_kept (n : Node) (p : Nat) (h0 : n.Kept rs vk) :
    (Node.stopWaiting n p).Kept rs vk := by
  unfold Node.stopWaiting
  repeat' (first | with_reducible assumption | with_reducible rfl | with_reducible apply Node.stopPress_kept
                  | with_reducible apply Node.followStop_kept | intro _ | dsimp -proj only | exact @rfl (List Record) _
                  | exact @rfl (SMap (Option (BitVec 256))) _ | split)

theorem Node.pressCmd_kept (n : Node) (by_ : Initiator) (key : Half) (p op : Nat) (h0 : n.Kept rs vk) :
    (Node.pressCmd n by_ key p op).Kept rs vk := by
  unfold Node.pressCmd
  repeat' (first | with_reducible assumption | with_reducible rfl | with_reducible apply Node.when_kept
                  | with_reducible apply Node.access_kept | with_reducible apply Node.pressCommand_kept | intro _)

theorem execPressCmdStop_kept (by_ : Initiator) (key : Half) (press : Fin 16) (s : State) (hs : s.node.Kept rs vk) (s' : State)
    (ht : execPressCmdStop by_ key press s = .next s') :
    s'.node.Kept rs vk := by
  unfold execPressCmdStop at ht
  refine State.upd_kept hs ?_ ht
  repeat' (first | with_reducible assumption | with_reducible rfl | with_reducible apply Node.pressCmd_kept | intro _)

theorem execPressCmdTest_kept (by_ : Initiator) (key : Half) (press : Fin 16) (s : State) (hs : s.node.Kept rs vk) (s' : State)
    (ht : execPressCmdTest by_ key press s = .next s') :
    s'.node.Kept rs vk := by
  unfold execPressCmdTest at ht
  refine State.upd_kept hs ?_ ht
  repeat' (first | with_reducible assumption | with_reducible rfl | with_reducible apply Node.pressCmd_kept | intro _)

theorem execPressCmdReload_kept (by_ : Initiator) (key : Half) (press : Fin 16) (s : State) (hs : s.node.Kept rs vk) (s' : State)
    (ht : execPressCmdReload by_ key press s = .next s') :
    s'.node.Kept rs vk := by
  unfold execPressCmdReload at ht
  refine State.upd_kept hs ?_ ht
  repeat' (first | with_reducible assumption | with_reducible rfl | with_reducible apply Node.pressCmd_kept | intro _)

theorem execPressStopEffect_kept (press : Fin 16) (s : State) (hs : s.node.Kept rs vk) (s' : State) (ht : execPressStopEffect press s = .next s') :
    s'.node.Kept rs vk := by
  unfold execPressStopEffect at ht
  refine State.upd_kept hs ?_ ht
  repeat' (first | with_reducible assumption | with_reducible rfl | with_reducible apply Node.stopWaiting_kept | intro _)

theorem Node.startImage_kept (n : Node) (p : Nat) (h0 : n.Kept rs vk) :
    (Node.startImage n p).Kept rs vk := by
  unfold Node.startImage
  repeat' (first | with_reducible assumption | with_reducible rfl | with_reducible apply Node.when_kept
                  | with_reducible apply Node.each_kept | with_reducible apply Node.putWord_kept | with_reducible apply Node.count_kept
                  | with_reducible apply Node.setPress_kept | with_reducible apply Node.setLineUnit_kept | with_reducible apply Node.raise_kept
                  | with_reducible apply Node.canStart_kept | with_reducible apply Node.setHeader_kept
                  | with_reducible apply Node.setPressState_kept | intro _)

theorem Node.pressFails_kept (n : Node) (p cause : Nat) (h0 : n.Kept rs vk) :
    (Node.pressFails n p cause).Kept rs vk := by
  unfold Node.pressFails
  repeat' (first | with_reducible assumption | with_reducible rfl | with_reducible apply Node.wr_kept
                  | with_reducible apply Node.count_kept | with_reducible apply Node.setPressState_kept)

theorem Node.selfTestFails_kept (n : Node) (p : Nat) (result : List Nat) (h0 : n.Kept rs vk) :
    (Node.selfTestFails n p result).Kept rs vk := by
  unfold Node.selfTestFails
  repeat' (first | with_reducible assumption | with_reducible rfl | with_reducible apply Node.raise_kept
                  | with_reducible apply Node.pressFails_kept)

theorem Node.verifyFails_kept (n : Node) (p : Nat) (h0 : n.Kept rs vk) :
    (Node.verifyFails n p).Kept rs vk := by
  unfold Node.verifyFails
  repeat' (first | with_reducible assumption | with_reducible rfl | with_reducible apply Node.raise_kept
                  | with_reducible apply Node.pressFails_kept)

theorem Node.waitedRequest_kept (n : Node) (p : Nat) (r : Option (Nat × StopFollow)) (h0 : n.Kept rs vk) :
    (Node.waitedRequest n p r).Kept rs vk := by
  unfold Node.waitedRequest
  repeat' (first | with_reducible assumption | with_reducible rfl | with_reducible apply Node.requestStop_kept
                  | with_reducible apply Node.pressCommand_kept | intro _ | dsimp -proj only | exact @rfl (List Record) _
                  | exact @rfl (SMap (Option (BitVec 256))) _ | split)

theorem Node.autoReload_kept (n : Node) (p : Nat) (h0 : n.Kept rs vk) :
    (Node.autoReload n p).Kept rs vk := by
  unfold Node.autoReload
  repeat' (first | with_reducible assumption | with_reducible rfl | with_reducible apply Node.setPress_kept
                  | with_reducible apply Node.loadPress_kept)

theorem Node.pressFault_kept (n : Node) (p cause lateNs : Nat) (h0 : n.Kept rs vk) :
    (Node.pressFault n p cause lateNs).Kept rs vk := by
  unfold Node.pressFault
  repeat' (first | with_reducible assumption | with_reducible rfl | with_reducible apply Node.when_kept
                  | with_reducible apply Node.count_kept | with_reducible apply Node.addFault_kept | with_reducible apply Node.raise_kept
                  | with_reducible apply Node.setPressState_kept | with_reducible apply Node.stopPress_kept
                  | with_reducible apply Node.waitedRequest_kept | with_reducible apply Node.autoReload_kept | intro _ | dsimp -proj only
                  | exact @rfl (List Record) _ | exact @rfl (SMap (Option (BitVec 256))) _ | split)

theorem execPressSramTestDone_kept (press : Fin 16) (ok : Bool) (result : Half) (s : State) (hs : s.node.Kept rs vk) (s' : State)
    (ht : execPressSramTestDone press ok result s = .next s') :
    s'.node.Kept rs vk := by
  unfold execPressSramTestDone at ht
  refine State.upd_kept hs ?_ ht
  repeat' (first | with_reducible assumption | with_reducible rfl | with_reducible apply Node.when_kept
                  | with_reducible apply Node.selfTestFails_kept | intro _)

theorem execPressSelfTestDone_kept (press : Fin 16) (ok : Bool) (result : Half) (s : State) (hs : s.node.Kept rs vk) (s' : State)
    (ht : execPressSelfTestDone press ok result s = .next s') :
    s'.node.Kept rs vk := by
  unfold execPressSelfTestDone at ht
  refine State.upd_kept hs ?_ ht
  repeat' (first | with_reducible assumption | with_reducible rfl | with_reducible apply Node.when_kept
                  | with_reducible apply Node.raise_kept | with_reducible apply Node.followStop_kept
                  | with_reducible apply Node.selfTestFails_kept | intro _ | dsimp -proj only | exact @rfl (List Record) _
                  | exact @rfl (SMap (Option (BitVec 256))) _ | split)

theorem execPressVerifyDone_kept (press : Fin 16) (ok : Bool) (s : State) (hs : s.node.Kept rs vk) (s' : State)
    (ht : execPressVerifyDone press ok s = .next s') :
    s'.node.Kept rs vk := by
  unfold execPressVerifyDone at ht
  refine State.upd_kept hs ?_ ht
  repeat' (first | with_reducible assumption | with_reducible rfl | with_reducible apply Node.when_kept
                  | with_reducible apply Node.loadWaiting_kept | with_reducible apply Node.startImage_kept
                  | with_reducible apply Node.verifyFails_kept | intro _ | dsimp -proj only | exact @rfl (List Record) _
                  | exact @rfl (SMap (Option (BitVec 256))) _ | split)

theorem Node.pressesApplied_kept (n before : Node) (h0 : n.Kept rs vk) (_h1 : before.Kept rs vk) :
    (Node.pressesApplied n before).Kept rs vk := by
  unfold Node.pressesApplied
  repeat' (first | with_reducible assumption | with_reducible rfl | with_reducible apply Node.each_kept
                  | with_reducible apply Node.flushPort_kept | with_reducible apply Node.canStop_kept | with_reducible apply Node.lineSilent_kept
                  | with_reducible apply Node.loadWaiting_kept | with_reducible apply Node.requestStop_kept | with_reducible apply foldl_kept
                  | with_reducible apply foldlPair_kept | intro _ | dsimp -proj only | exact @rfl (List Record) _
                  | exact @rfl (SMap (Option (BitVec 256))) _ | split | with_reducible apply mk_kept)

theorem Node.sendReferences_kept (n : Node) (p : Nat) (begun : List (Fin 8)) (h0 : n.Kept rs vk) :
    (Node.sendReferences n p begun).Kept rs vk := by
  unfold Node.sendReferences
  repeat' (first | with_reducible assumption | with_reducible rfl | with_reducible apply Node.when_kept
                  | with_reducible apply Node.each_kept | with_reducible apply Node.count_kept | with_reducible apply Node.setCan_kept
                  | with_reducible apply Node.raise_kept | intro _)

theorem execPressStart_kept (entry : Nat) (refBegun : List (Fin 8)) (drives : List FieldDrive) (s : State) (hs : s.node.Kept rs vk) (s' : State)
    (ht : execPressStart entry refBegun drives s = .next s') :
    s'.node.Kept rs vk := by
  unfold execPressStart at ht
  refine State.upd_kept hs ?_ ht
  repeat' (first | with_reducible assumption | with_reducible rfl | with_reducible apply Node.each_kept
                  | with_reducible apply Node.count_kept | with_reducible apply Node.setPress_kept | with_reducible apply Node.raiseFirst_kept
                  | with_reducible apply Node.endRun_kept | with_reducible apply Node.startAction_kept | with_reducible apply Node.occupy_kept
                  | with_reducible apply Node.setImgBit_kept | with_reducible apply Node.drivePin_kept
                  | with_reducible apply Node.sendReferences_kept | intro _ | dsimp -proj only | exact @rfl (List Record) _
                  | exact @rfl (SMap (Option (BitVec 256))) _ | split)

theorem execPressInputExchange_kept (press : Fin 16) (bytes : List Byte) (lineOk : Bool) (diag : List (Fin 59 × Word)) (lateNs : Nat) (s : State)
    (hs : s.node.Kept rs vk) (s' : State) (ht : execPressInputExchange press bytes lineOk diag lateNs s = .next s') :
    s'.node.Kept rs vk := by
  unfold execPressInputExchange at ht
  refine State.upd_kept hs ?_ ht
  repeat' (first | with_reducible assumption | with_reducible rfl | with_reducible apply Node.when_kept
                  | with_reducible apply Node.each_kept | with_reducible apply Node.putBytes_kept | with_reducible apply Node.setPress_kept
                  | with_reducible apply Node.setLineUnit_kept | with_reducible apply Node.setCan_kept | with_reducible apply Node.setHeader_kept
                  | with_reducible apply Node.setImgBit_kept | with_reducible apply Node.endCycle_kept
                  | with_reducible apply Node.stopWaiting_kept | intro _)

theorem execLineStatusChange_kept (press : Fin 16) (status : Word) (s : State) (hs : s.node.Kept rs vk) (s' : State)
    (ht : execLineStatusChange press status s = .next s') :
    s'.node.Kept rs vk := by
  unfold execLineStatusChange at ht
  refine State.upd_kept hs ?_ ht
  repeat' (first | with_reducible assumption | with_reducible rfl | with_reducible apply Node.when_kept
                  | with_reducible apply Node.raise_kept | with_reducible apply Node.setHeader_kept | intro _)

theorem execLineUnitCapture_kept (unit : Fin 32) (data : List Bool) (drives : List FieldDrive) (s : State) (hs : s.node.Kept rs vk) (s' : State)
    (ht : execLineUnitCapture unit data drives s = .next s') :
    s'.node.Kept rs vk := by
  unfold execLineUnitCapture at ht
  refine State.upd_kept hs ?_ ht
  repeat' (first | with_reducible assumption | with_reducible rfl | with_reducible apply Node.when_kept
                  | with_reducible apply Node.each_kept | with_reducible apply Node.setLineUnit_kept | with_reducible apply Node.drivePin_kept
                  | intro _)

theorem execPpFrameArrival_kept (frame : Frame) (stamp : DWord) (s : State) (hs : s.node.Kept rs vk) (s' : State)
    (ht : execPpFrameArrival frame stamp s = .next s') :
    s'.node.Kept rs vk := by
  unfold execPpFrameArrival at ht
  refine State.upd_kept hs ?_ ht
  repeat' (first | with_reducible assumption | with_reducible rfl | with_reducible apply Node.when_kept
                  | with_reducible apply Node.each_kept | with_reducible apply Node.count_kept | with_reducible apply Node.sendToPress_kept
                  | intro _ | dsimp -proj only | exact @rfl (List Record) _ | exact @rfl (SMap (Option (BitVec 256))) _ | split)

theorem execDedicatedTxHandover_kept (press : Fin 16) (frame : Frame) (s : State) (hs : s.node.Kept rs vk) (s' : State)
    (ht : execDedicatedTxHandover press frame s = .next s') :
    s'.node.Kept rs vk := by
  unfold execDedicatedTxHandover at ht
  refine State.upd_kept hs ?_ ht
  repeat' (first | with_reducible assumption | with_reducible rfl | with_reducible apply Node.when_kept
                  | with_reducible apply Node.countBy_kept | with_reducible apply Node.count_kept | with_reducible apply Node.emit_kept
                  | with_reducible apply Node.raise_kept | intro _ | dsimp -proj only | exact @rfl (List Record) _
                  | exact @rfl (SMap (Option (BitVec 256))) _ | split)

theorem Node.fieldParts_kept (n : Node) (p : Nat) (parts : List (Nat × Nat)) (write : Bool) (far : FarReply) (h0 : n.Kept rs vk) :
    (Node.fieldParts n p parts write far).Kept rs vk := by
  unfold Node.fieldParts
  repeat' (first | with_reducible assumption | with_reducible rfl | with_reducible apply Node.each_kept
                  | with_reducible apply Node.count_kept | with_reducible apply Node.emit_kept | intro _ | dsimp -proj only
                  | exact @rfl (List Record) _ | exact @rfl (SMap (Option (BitVec 256))) _ | split)

theorem execFieldWindowRequest_kept (press : Fin 16) (write : Bool) (ofs len : Nat) (reply : FarReply) (s : State) (hs : s.node.Kept rs vk)
    (s' : State) (ht : execFieldWindowRequest press write ofs len reply s = .next s') :
    s'.node.Kept rs vk := by
  unfold execFieldWindowRequest at ht
  refine State.upd_kept hs ?_ ht
  repeat' (first | with_reducible assumption | with_reducible rfl | with_reducible apply Node.when_kept
                  | with_reducible apply Node.cross_kept | with_reducible apply Node.fieldParts_kept | intro _)

theorem Node.putSignal_kept (n : Node) (sig : Nat) (v : DWord) (h0 : n.Kept rs vk) :
    (Node.putSignal n sig v).Kept rs vk := by
  unfold Node.putSignal
  repeat' (first | with_reducible assumption | with_reducible rfl | with_reducible apply Node.putWord64_kept)

theorem Node.setQual_kept (n : Node) (sig q : Nat) (h0 : n.Kept rs vk) :
    (Node.setQual n sig q).Kept rs vk := by
  unfold Node.setQual
  repeat' (first | with_reducible assumption | with_reducible rfl | with_reducible apply Node.wr_kept)

theorem Node.stampGood_kept (n : Node) (sig : Nat) (h0 : n.Kept rs vk) :
    (Node.stampGood n sig).Kept rs vk := by
  unfold Node.stampGood
  repeat' (first | with_reducible assumption | with_reducible rfl | with_reducible apply Node.wr_kept
                  | with_reducible apply Node.setQual_kept)

theorem Node.initSignal_kept (n : Node) (sig : Nat) (h0 : n.Kept rs vk) :
    (Node.initSignal n sig).Kept rs vk := by
  unfold Node.initSignal
  repeat' (first | with_reducible assumption | with_reducible rfl | with_reducible apply Node.wr_kept
                  | with_reducible apply Node.wrBit_kept | with_reducible apply Node.putSignal_kept | with_reducible apply Node.setQual_kept)

theorem Node.initSignals_kept (n : Node) (h0 : n.Kept rs vk) :
    (Node.initSignals n).Kept rs vk := by
  unfold Node.initSignals
  repeat' (first | with_reducible assumption | with_reducible rfl | with_reducible apply Node.each_kept
                  | with_reducible apply Node.resetWords_kept | with_reducible apply Node.wrBit_kept | with_reducible apply Node.putSignal_kept
                  | intro _ | dsimp -proj only | exact @rfl (List Record) _ | exact @rfl (SMap (Option (BitVec 256))) _ | split
                  | with_reducible apply mk_kept)

theorem Node.blendApplied_kept (n before : Node) (h0 : n.Kept rs vk) (_h1 : before.Kept rs vk) :
    (Node.blendApplied n before).Kept rs vk := by
  unfold Node.blendApplied
  repeat' (first | with_reducible assumption | with_reducible rfl | with_reducible apply Node.when_kept
                  | with_reducible apply Node.each_kept | with_reducible apply Node.wrBit_kept | with_reducible apply Node.initSignal_kept
                  | intro _ | dsimp -proj only | exact @rfl (List Record) _ | exact @rfl (SMap (Option (BitVec 256))) _ | split
                  | with_reducible apply mk_kept)

theorem Node.saturated_kept (n : Node) (e : Nat) (sat : Bool) (h0 : n.Kept rs vk) :
    (Node.saturated n e sat).Kept rs vk := by
  unfold Node.saturated
  repeat' (first | with_reducible assumption | with_reducible rfl | with_reducible apply Node.when_kept
                  | with_reducible apply Node.count_kept | with_reducible apply Node.raiseFirst_kept | intro _)

theorem Node.noValue_kept (n : Node) (e : Nat) (h0 : n.Kept rs vk) :
    (Node.noValue n e).Kept rs vk := by
  unfold Node.noValue
  repeat' (first | with_reducible assumption | with_reducible rfl | with_reducible apply Node.count_kept
                  | with_reducible apply Node.raiseFirst_kept)

theorem Node.consume_kept (n : Node) (key upd : Nat) (h0 : n.Kept rs vk) :
    (Node.consume n key upd).Kept rs vk := by
  unfold Node.consume
  repeat' (first | with_reducible assumption | with_reducible rfl | with_reducible apply Node.wrBit_kept
                  | with_reducible apply Node.mbAck_kept | with_reducible apply Node.setImgBit_kept | intro _ | dsimp -proj only
                  | exact @rfl (List Record) _ | exact @rfl (SMap (Option (BitVec 256))) _ | split)

theorem Node.writeHost_kept (n : Node) (h : Nat) (data : List Byte) (h0 : n.Kept rs vk) :
    (Node.writeHost n h data).Kept rs vk := by
  unfold Node.writeHost
  repeat' (first | with_reducible assumption | with_reducible rfl | with_reducible apply Node.when_kept
                  | with_reducible apply Node.count_kept | with_reducible apply Node.emit_kept | with_reducible apply Node.raiseFirst_kept
                  | with_reducible apply Node.endRun_kept | intro _ | dsimp -proj only | exact @rfl (List Record) _
                  | exact @rfl (SMap (Option (BitVec 256))) _ | split | with_reducible apply mk_kept)

theorem Node.putCommand_kept (n : Node) (c : Nat) (v : Word) (h0 : n.Kept rs vk) :
    (Node.putCommand n c v).Kept rs vk := by
  unfold Node.putCommand
  repeat' (first | with_reducible assumption | with_reducible rfl | with_reducible apply Node.putWord_kept | intro _
                  | dsimp -proj only | exact @rfl (List Record) _ | exact @rfl (SMap (Option (BitVec 256))) _ | split
                  | with_reducible apply mk_kept)

theorem Node.writeContainer_kept (n : Node) (key : Nat) (data : List Byte) (touched : List Nat) (h0 : n.Kept rs vk) :
    (Node.writeContainer n key data touched).Kept rs vk := by
  unfold Node.writeContainer
  repeat' (first | with_reducible assumption | with_reducible rfl | with_reducible apply Node.each_kept
                  | with_reducible apply Node.putBytes_kept | with_reducible apply Node.xabort_kept | with_reducible apply Node.exchange_kept
                  | with_reducible apply Node.mbStore_kept | with_reducible apply Node.outExchange_kept | with_reducible apply Node.writeHost_kept
                  | with_reducible apply Node.putCommand_kept | intro _ | dsimp -proj only | exact @rfl (List Record) _
                  | exact @rfl (SMap (Option (BitVec 256))) _ | split)

theorem Node.takeValue_kept (n : Node) (e sig : Nat) (r : Nat × Bool) (h0 : n.Kept rs vk) :
    (Node.takeValue n e sig r).Kept rs vk := by
  unfold Node.takeValue
  repeat' (first | with_reducible assumption | with_reducible rfl | with_reducible apply Node.wrBit_kept
                  | with_reducible apply Node.putSignal_kept | with_reducible apply Node.saturated_kept)

theorem Node.gradeBad_kept (n : Node) (e q : Nat) (h0 : n.Kept rs vk) :
    (Node.gradeBad n e q).Kept rs vk := by
  unfold Node.gradeBad
  repeat' (first | with_reducible assumption | with_reducible rfl | with_reducible apply Node.when_kept
                  | with_reducible apply Node.setQual_kept | with_reducible apply Node.noValue_kept | with_reducible apply Node.takeValue_kept
                  | intro _ | dsimp -proj only | exact @rfl (List Record) _ | exact @rfl (SMap (Option (BitVec 256))) _ | split)

theorem Node.gradeGood_kept (n : Node) (e marker : Nat) (data : List Byte) (h0 : n.Kept rs vk) :
    (Node.gradeGood n e marker data).Kept rs vk := by
  unfold Node.gradeGood
  repeat' (first | with_reducible assumption | with_reducible rfl | with_reducible apply Node.when_kept
                  | with_reducible apply Node.count_kept | with_reducible apply Node.raise_kept | with_reducible apply Node.setQual_kept
                  | with_reducible apply Node.stampGood_kept | with_reducible apply Node.noValue_kept | with_reducible apply Node.takeValue_kept
                  | intro _ | dsimp -proj only | exact @rfl (List Record) _ | exact @rfl (SMap (Option (BitVec 256))) _ | split
                  | with_reducible apply mk_kept)

theorem Node.moveOut_kept (n : Node) (e : Nat) (data : List Byte) (h0 : n.Kept rs vk) :
    (Node.moveOut n e data).1.Kept rs vk := by
  unfold Node.moveOut
  repeat' (first | with_reducible assumption | with_reducible rfl | with_reducible apply Node.when_kept
                  | with_reducible apply Node.saturated_kept | with_reducible apply Node.noValue_kept | intro _ | dsimp -proj only
                  | exact @rfl (List Record) _ | exact @rfl (SMap (Option (BitVec 256))) _ | split | with_reducible apply mk_kept)

theorem Node.jobSource_kept (n : Node) (job key : Nat) (ents inconsistent : List Nat) (hostReads : List HostRead) (good : List (Nat × Nat))
    (h0 : n.Kept rs vk) :
    (Node.jobSource n job key ents inconsistent hostReads good).1.Kept rs vk := by
  unfold Node.jobSource
  repeat' (first | with_reducible assumption | with_reducible rfl | with_reducible apply Node.when_kept
                  | with_reducible apply Node.each_kept | with_reducible apply Node.count_kept | with_reducible apply Node.raise_kept
                  | with_reducible apply Node.raiseFirst_kept | with_reducible apply Node.endRun_kept | with_reducible apply Node.xabort_kept
                  | with_reducible apply Node.gradeBad_kept | with_reducible apply Node.gradeGood_kept | intro _ | dsimp -proj only
                  | exact @rfl (List Record) _ | exact @rfl (SMap (Option (BitVec 256))) _ | split)

theorem Node.jobTarget_kept (n : Node) (key : Nat) (ents : List Nat) (h0 : n.Kept rs vk) :
    (Node.jobTarget n key ents).1.Kept rs vk := by
  unfold Node.jobTarget
  repeat' (first | with_reducible assumption | with_reducible rfl | with_reducible apply Node.moveOut_kept
                  | with_reducible apply foldl_kept | with_reducible apply foldlPair_kept | intro _)

theorem Node.runJob_kept (n : Node) (j : Nat) (inconsistent : List Nat) (hostReads : List HostRead) (h0 : n.Kept rs vk) :
    (Node.runJob n j inconsistent hostReads).Kept rs vk := by
  unfold Node.runJob
  repeat' (first | with_reducible assumption | with_reducible rfl | with_reducible apply Node.when_kept
                  | with_reducible apply Node.each_kept | with_reducible apply Node.consume_kept | with_reducible apply Node.writeContainer_kept
                  | with_reducible apply Node.jobSource_kept | with_reducible apply Node.jobTarget_kept | with_reducible apply foldl_kept
                  | with_reducible apply foldlPair_kept | intro _)

theorem execBlendJob_kept (entry : Nat) (inconsistent : List Nat) (hostReads : List HostRead) (s : State) (hs : s.node.Kept rs vk) (s' : State)
    (ht : execBlendJob entry inconsistent hostReads s = .next s') :
    s'.node.Kept rs vk := by
  unfold execBlendJob at ht
  refine State.upd_kept hs ?_ ht
  repeat' (first | with_reducible assumption | with_reducible rfl | with_reducible apply Node.when_kept
                  | with_reducible apply Node.startAction_kept | with_reducible apply Node.occupy_kept | with_reducible apply Node.runJob_kept
                  | intro _)

theorem Node.hostSignal_kept (n : Node) (sig : Nat) (lo hi : Word) (h0 : n.Kept rs vk) :
    (Node.hostSignal n sig lo hi).Kept rs vk := by
  unfold Node.hostSignal
  repeat' (first | with_reducible assumption | with_reducible rfl | with_reducible apply Node.wrBit_kept
                  | with_reducible apply Node.count_kept | with_reducible apply Node.raise_kept | with_reducible apply Node.putSignal_kept
                  | with_reducible apply Node.stampGood_kept | intro _ | dsimp -proj only | exact @rfl (List Record) _
                  | exact @rfl (SMap (Option (BitVec 256))) _ | split)

theorem Node.signalHigh_kept (n : Node) (by_ : Initiator) (sig : Nat) (v : Word) (h0 : n.Kept rs vk) :
    (Node.signalHigh n by_ sig v).Kept rs vk := by
  unfold Node.signalHigh
  repeat' (first | with_reducible assumption | with_reducible rfl | with_reducible apply Node.count_kept
                  | with_reducible apply Node.setHeld_kept | with_reducible apply Node.dropHeld_kept | with_reducible apply Node.hostSignal_kept
                  | intro _ | dsimp -proj only | exact @rfl (List Record) _ | exact @rfl (SMap (Option (BitVec 256))) _ | split)

theorem Node.blendFinding_kept (n : Node) (f : BlendStore × ScrubFinding) (h0 : n.Kept rs vk) :
    (Node.blendFinding n f).Kept rs vk := by
  unfold Node.blendFinding
  repeat' (first | with_reducible assumption | with_reducible rfl | with_reducible apply Node.when_kept
                  | with_reducible apply Node.count_kept | with_reducible apply Node.raise_kept | with_reducible apply Node.putSignal_kept
                  | with_reducible apply Node.setQual_kept | intro _ | dsimp -proj only | exact @rfl (List Record) _
                  | exact @rfl (SMap (Option (BitVec 256))) _ | split | with_reducible apply mk_kept)

theorem execBlendScrubPass_kept (findings : List (BlendStore × ScrubFinding)) (s : State) (hs : s.node.Kept rs vk) (s' : State)
    (ht : execBlendScrubPass findings s = .next s') :
    s'.node.Kept rs vk := by
  unfold execBlendScrubPass at ht
  refine State.upd_kept hs ?_ ht
  repeat' (first | with_reducible assumption | with_reducible rfl | with_reducible apply Node.when_kept
                  | with_reducible apply Node.each_kept | with_reducible apply Node.blendFinding_kept | intro _)

theorem execBlendBankCopyDone_kept (s : State) (hs : s.node.Kept rs vk) (s' : State) (ht : execBlendBankCopyDone s = .next s') :
    s'.node.Kept rs vk := by
  unfold execBlendBankCopyDone at ht
  refine State.upd_kept hs ?_ ht
  repeat' (first | with_reducible assumption | with_reducible rfl | with_reducible apply Node.wrBit_kept | intro _)

theorem Node.hostCommand_kept (n : Node) (c : Nat) (v : Word) (h0 : n.Kept rs vk) :
    (Node.hostCommand n c v).Kept rs vk := by
  unfold Node.hostCommand
  repeat' (first | with_reducible assumption | with_reducible rfl | with_reducible apply Node.count_kept
                  | with_reducible apply Node.raiseFirst_kept | with_reducible apply Node.endRun_kept | with_reducible apply Node.putCommand_kept
                  | intro _ | dsimp -proj only | exact @rfl (List Record) _ | exact @rfl (SMap (Option (BitVec 256))) _ | split)

theorem Node.takeBank_kept (n : Node) (bank : SMap Word) (h0 : n.Kept rs vk) :
    (Node.takeBank n bank).Kept rs vk := by
  unfold Node.takeBank
  repeat' (first | with_reducible assumption | with_reducible rfl | with_reducible apply Node.putShadows_kept
                  | with_reducible apply Node.putForces_kept | intro _ | dsimp -proj only | exact @rfl (List Record) _
                  | exact @rfl (SMap (Option (BitVec 256))) _ | split | with_reducible apply mk_kept)

theorem Node.takeSchedule_kept (n : Node) (recomputed : Bool) (words : List (Nat × Word)) (h0 : n.Kept rs vk) :
    (Node.takeSchedule n recomputed words).Kept rs vk := by
  unfold Node.takeSchedule
  repeat' (first | with_reducible assumption | with_reducible rfl | with_reducible apply Node.putForces_kept
                  | with_reducible apply Node.endHolds_kept | with_reducible apply Node.scheduleApplied_kept | intro _ | dsimp -proj only
                  | exact @rfl (List Record) _ | exact @rfl (SMap (Option (BitVec 256))) _ | split)

theorem Node.topoGroup_kept (n : Node) (g : Nat) (dirty : Bool) (h0 : n.Kept rs vk) :
    (Node.topoGroup n g dirty).Kept rs vk := by
  unfold Node.topoGroup
  repeat' (first | with_reducible assumption | with_reducible rfl | with_reducible apply Node.when_kept
                  | with_reducible apply Node.raise_kept | with_reducible apply Node.reloadGroup_kept | with_reducible apply Node.setCode_kept
                  | with_reducible apply Node.bumpSeq_kept | intro _ | dsimp -proj only | exact @rfl (List Record) _
                  | exact @rfl (SMap (Option (BitVec 256))) _ | split)

theorem Node.takeTopology_kept (n : Node) (c : TopoCommit) (h0 : n.Kept rs vk) :
    (Node.takeTopology n c).Kept rs vk := by
  unfold Node.takeTopology
  repeat' (first | with_reducible assumption | with_reducible rfl | with_reducible apply Node.putWord_kept
                  | with_reducible apply Node.wr_kept | with_reducible apply Node.wrBit_kept | with_reducible apply Node.incr_kept
                  | with_reducible apply Node.writeDirectory_kept | with_reducible apply Node.reactivate_kept | intro _ | dsimp -proj only
                  | exact @rfl (List Record) _ | exact @rfl (SMap (Option (BitVec 256))) _ | split | with_reducible apply mk_kept)

theorem Node.applyTopology_kept (n : Node) (c : TopoCommit) (h0 : n.Kept rs vk) :
    (Node.applyTopology n c).Kept rs vk := by
  unfold Node.applyTopology
  repeat' (first | with_reducible assumption | with_reducible rfl | with_reducible apply Node.each_kept
                  | with_reducible apply Node.putForces_kept | with_reducible apply Node.count_kept | with_reducible apply Node.fire_kept
                  | with_reducible apply Node.raise_kept | with_reducible apply Node.takeBank_kept | with_reducible apply Node.takeSchedule_kept
                  | with_reducible apply Node.topoGroup_kept | with_reducible apply Node.takeTopology_kept | intro _)

theorem Node.commitTopology_kept (n : Node) (c : TopoCommit) (h0 : n.Kept rs vk) :
    (Node.commitTopology n c).Kept rs vk := by
  unfold Node.commitTopology
  repeat' (first | with_reducible assumption | with_reducible rfl | with_reducible apply Node.dropFault_kept
                  | with_reducible apply Node.inaState_kept | with_reducible apply Node.endSpec_kept
                  | with_reducible apply Node.applyTopology_kept | intro _ | dsimp -proj only | exact @rfl (List Record) _
                  | exact @rfl (SMap (Option (BitVec 256))) _ | split | with_reducible apply mk_kept)

theorem execTopologyCommit_kept (s : State) (hs : s.node.Kept rs vk) (s' : State) (ht : execTopologyCommit s = .next s') :
    s'.node.Kept rs vk := by
  unfold execTopologyCommit at ht
  refine State.upd_kept hs ?_ ht
  repeat' (first | with_reducible assumption | with_reducible rfl | with_reducible apply Node.when_kept
                  | with_reducible apply Node.settle_kept | with_reducible apply Node.tableChange_kept
                  | with_reducible apply Node.commitTopology_kept | intro _ | dsimp -proj only | exact @rfl (List Record) _
                  | exact @rfl (SMap (Option (BitVec 256))) _ | split)

theorem Node.renumber_kept (n : Node) (h0 : n.Kept rs vk) :
    (Node.renumber n).Kept rs vk := by
  unfold Node.renumber
  repeat' (first | with_reducible assumption | with_reducible rfl | with_reducible apply Node.refineSpec_kept
                  | with_reducible apply Node.applyTopology_kept | intro _ | dsimp -proj only | exact @rfl (List Record) _
                  | exact @rfl (SMap (Option (BitVec 256))) _ | split | with_reducible apply mk_kept)

theorem Node.adoptDirectory_kept (n : Node) (h0 : n.Kept rs vk) :
    (Node.adoptDirectory n).Kept rs vk := by
  unfold Node.adoptDirectory
  repeat' (first | with_reducible assumption | with_reducible rfl | with_reducible apply Node.when_kept | intro _
                  | dsimp -proj only | exact @rfl (List Record) _ | exact @rfl (SMap (Option (BitVec 256))) _ | split
                  | with_reducible apply mk_kept)

theorem Node.opApplied_kept (n before : Node) (h0 : n.Kept rs vk) (_h1 : before.Kept rs vk) :
    (Node.opApplied n before).Kept rs vk := by
  unfold Node.opApplied
  repeat' (first | with_reducible assumption | with_reducible rfl | with_reducible apply Node.each_kept
                  | with_reducible apply Node.putWord_kept | with_reducible apply Node.wr_kept | with_reducible apply Node.setFlow_kept | intro _)

theorem Node.ratesApplied_kept (n before : Node) (h0 : n.Kept rs vk) (_h1 : before.Kept rs vk) :
    (Node.ratesApplied n before).Kept rs vk := by
  unfold Node.ratesApplied
  repeat' (first | with_reducible assumption | with_reducible rfl | intro _ | dsimp -proj only | exact @rfl (List Record) _
                  | exact @rfl (SMap (Option (BitVec 256))) _ | split | with_reducible apply mk_kept)

theorem Node.groupApplied_kept (n before : Node) (g : Nat) (h0 : n.Kept rs vk) (h1 : before.Kept rs vk) :
    (Node.groupApplied n before g).Kept rs vk := by
  unfold Node.groupApplied
  repeat' (first | with_reducible assumption | with_reducible rfl | with_reducible apply Node.when_kept
                  | with_reducible apply Node.outputsApplied_kept | with_reducible apply Node.loadStatic_kept
                  | with_reducible apply Node.scheduleApplied_kept | with_reducible apply Node.portsApplied_kept
                  | with_reducible apply Node.timeApplied_kept | with_reducible apply Node.reactivate_kept
                  | with_reducible apply Node.canApplied_kept | with_reducible apply Node.pressesApplied_kept
                  | with_reducible apply Node.blendApplied_kept | with_reducible apply Node.renumber_kept
                  | with_reducible apply Node.opApplied_kept | with_reducible apply Node.ratesApplied_kept | intro _ | dsimp -proj only
                  | exact @rfl (List Record) _ | exact @rfl (SMap (Option (BitVec 256))) _ | split)

theorem Node.takeGroups_kept (n : Node) (gs : List Nat) (h0 : n.Kept rs vk) :
    (Node.takeGroups n gs).Kept rs vk := by
  unfold Node.takeGroups
  repeat' (first | with_reducible assumption | with_reducible rfl | with_reducible apply Node.each_kept
                  | with_reducible apply Node.setPhase_kept | with_reducible apply Node.applyGroup_kept
                  | with_reducible apply Node.groupTaken_kept | with_reducible apply Node.odOutcome_kept
                  | with_reducible apply Node.groupApplied_kept | intro _)

theorem Node.takeOne_kept (n : Node) (g : Nat) (h0 : n.Kept rs vk) :
    (Node.takeOne n g).Kept rs vk := by
  unfold Node.takeOne
  repeat' (first | with_reducible assumption | with_reducible rfl | with_reducible apply Node.fire_kept
                  | with_reducible apply Node.takeGroups_kept)

theorem Node.turnAway_kept (n : Node) (g code : Nat) (h0 : n.Kept rs vk) :
    (Node.turnAway n g code).Kept rs vk := by
  unfold Node.turnAway
  repeat' (first | with_reducible assumption | with_reducible rfl | with_reducible apply Node.setCode_kept
                  | with_reducible apply Node.setInfo_kept | with_reducible apply Node.refused_kept)

theorem Node.refuseCommit_kept (n : Node) (g code : Nat) (info : Word) (h0 : n.Kept rs vk) :
    (Node.refuseCommit n g code info).Kept rs vk := by
  unfold Node.refuseCommit
  repeat' (first | with_reducible assumption | with_reducible rfl | with_reducible apply Node.setInfo_kept
                  | with_reducible apply Node.refuseGroup_kept | with_reducible apply Node.odOutcome_kept)

theorem Node.groupGo_kept (n : Node) (g : Nat) (h0 : n.Kept rs vk) :
    (Node.groupGo n g).Kept rs vk := by
  unfold Node.groupGo
  repeat' (first | with_reducible assumption | with_reducible rfl | with_reducible apply Node.when_kept
                  | with_reducible apply Node.setPhase_kept | with_reducible apply Node.turnAway_kept | intro _ | dsimp -proj only
                  | exact @rfl (List Record) _ | exact @rfl (SMap (Option (BitVec 256))) _ | split)

theorem execCommitGo_kept (by_ : Initiator) (group : Nat) (s : State) (hs : s.node.Kept rs vk) (s' : State)
    (ht : execCommitGo by_ group s = .next s') :
    s'.node.Kept rs vk := by
  unfold execCommitGo at ht
  refine State.upd_kept hs ?_ ht
  repeat' (first | with_reducible assumption | with_reducible rfl | with_reducible apply Node.access_kept
                  | with_reducible apply Node.groupGo_kept | intro _)

theorem Node.sendSet_kept (n : Node) (gs : List Nat) (h0 : n.Kept rs vk) :
    (Node.sendSet n gs).Kept rs vk := by
  unfold Node.sendSet
  repeat' (first | with_reducible assumption | with_reducible rfl | with_reducible apply Node.when_kept
                  | with_reducible apply Node.emit_kept | intro _ | dsimp -proj only | exact @rfl (List Record) _
                  | exact @rfl (SMap (Option (BitVec 256))) _ | split | with_reducible apply mk_kept)

theorem Node.appliedAlone_kept (n : Node) (gs : List Nat) (h0 : n.Kept rs vk) :
    (Node.appliedAlone n gs).Kept rs vk := by
  unfold Node.appliedAlone
  repeat' (first | with_reducible assumption | with_reducible rfl | with_reducible apply Node.when_kept
                  | with_reducible apply Node.wrBit_kept | intro _ | dsimp -proj only | exact @rfl (List Record) _
                  | exact @rfl (SMap (Option (BitVec 256))) _ | split | with_reducible apply mk_kept)

theorem execCommitValidated_kept (group leadNs : Nat) (s : State) (hs : s.node.Kept rs vk) (s' : State)
    (ht : execCommitValidated group leadNs s = .next s') :
    s'.node.Kept rs vk := by
  unfold execCommitValidated at ht
  refine State.upd_kept hs ?_ ht
  repeat' (first | with_reducible assumption | with_reducible rfl | with_reducible apply Node.when_kept
                  | with_reducible apply Node.setPhase_kept | with_reducible apply Node.refuseCommit_kept | with_reducible apply Node.sendSet_kept
                  | intro _ | dsimp -proj only | exact @rfl (List Record) _ | exact @rfl (SMap (Option (BitVec 256))) _ | split)

theorem execIdleCommitTakeEffect_kept (group : Nat) (s : State) (hs : s.node.Kept rs vk) (s' : State)
    (ht : execIdleCommitTakeEffect group s = .next s') :
    s'.node.Kept rs vk := by
  unfold execIdleCommitTakeEffect at ht
  refine State.upd_kept hs ?_ ht
  repeat' (first | with_reducible assumption | with_reducible rfl | with_reducible apply Node.when_kept
                  | with_reducible apply Node.takeOne_kept | intro _)

theorem execIdleCommitTimeout_kept (group : Nat) (s : State) (hs : s.node.Kept rs vk) (s' : State) (ht : execIdleCommitTimeout group s = .next s') :
    s'.node.Kept rs vk := by
  unfold execIdleCommitTimeout at ht
  refine State.upd_kept hs ?_ ht
  repeat' (first | with_reducible assumption | with_reducible rfl | with_reducible apply Node.when_kept
                  | with_reducible apply Node.refuseCommit_kept | intro _)

theorem Node.mcResult_kept (n : Node) (code : Nat) (info : Word) (h0 : n.Kept rs vk) :
    (Node.mcResult n code info).Kept rs vk := by
  unfold Node.mcResult
  repeat' (first | with_reducible assumption | with_reducible rfl | with_reducible apply Node.putWord_kept
                  | with_reducible apply Node.wr_kept)

theorem Node.mcRefused_kept (n : Node) (g code : Nat) (info : Word) (h0 : n.Kept rs vk) :
    (Node.mcRefused n g code info).Kept rs vk := by
  unfold Node.mcRefused
  repeat' (first | with_reducible assumption | with_reducible rfl | with_reducible apply Node.refused_kept
                  | with_reducible apply Node.mcResult_kept)

theorem Node.mcGo_kept (n : Node) (leadNs : Nat) (h0 : n.Kept rs vk) :
    (Node.mcGo n leadNs).Kept rs vk := by
  unfold Node.mcGo
  repeat' (first | with_reducible assumption | with_reducible rfl | with_reducible apply Node.sendSet_kept
                  | with_reducible apply Node.mcResult_kept | with_reducible apply Node.mcRefused_kept | intro _ | dsimp -proj only
                  | exact @rfl (List Record) _ | exact @rfl (SMap (Option (BitVec 256))) _ | split | with_reducible apply mk_kept)

theorem execMcCommitGo_kept (by_ : Initiator) (leadNs : Nat) (s : State) (hs : s.node.Kept rs vk) (s' : State)
    (ht : execMcCommitGo by_ leadNs s = .next s') :
    s'.node.Kept rs vk := by
  unfold execMcCommitGo at ht
  refine State.upd_kept hs ?_ ht
  repeat' (first | with_reducible assumption | with_reducible rfl | with_reducible apply Node.access_kept
                  | with_reducible apply Node.mcGo_kept | intro _)

theorem Node.mcEnd_kept (n : Node) (code : Nat) (h0 : n.Kept rs vk) :
    (Node.mcEnd n code).Kept rs vk := by
  unfold Node.mcEnd
  repeat' (first | with_reducible assumption | with_reducible rfl | with_reducible apply Node.mcResult_kept
                  | with_reducible apply Node.mcRefused_kept | intro _ | dsimp -proj only | exact @rfl (List Record) _
                  | exact @rfl (SMap (Option (BitVec 256))) _ | split | with_reducible apply mk_kept)

theorem Node.mcAbort_kept (n : Node) (h0 : n.Kept rs vk) :
    (Node.mcAbort n).Kept rs vk := by
  unfold Node.mcAbort
  repeat' (first | with_reducible assumption | with_reducible rfl | with_reducible apply Node.each_kept
                  | with_reducible apply Node.reloadGroup_kept | with_reducible apply Node.mcEnd_kept | intro _)

theorem execMcCommitAbort_kept (s : State) (hs : s.node.Kept rs vk) (s' : State) (ht : execMcCommitAbort s = .next s') :
    s'.node.Kept rs vk := by
  unfold execMcCommitAbort at ht
  refine State.upd_kept hs ?_ ht
  repeat' (first | with_reducible assumption | with_reducible rfl | with_reducible apply Node.when_kept
                  | with_reducible apply Node.cross_kept | with_reducible apply Node.mcAbort_kept | intro _)

theorem execMcCommitTimeout_kept (s : State) (hs : s.node.Kept rs vk) (s' : State) (ht : execMcCommitTimeout s = .next s') :
    s'.node.Kept rs vk := by
  unfold execMcCommitTimeout at ht
  refine State.upd_kept hs ?_ ht
  repeat' (first | with_reducible assumption | with_reducible rfl | with_reducible apply Node.when_kept
                  | with_reducible apply Node.mcEnd_kept | intro _)

theorem Node.groupAbort_kept (n : Node) (g : Nat) (h0 : n.Kept rs vk) :
    (Node.groupAbort n g).Kept rs vk := by
  unfold Node.groupAbort
  repeat' (first | with_reducible assumption | with_reducible rfl | with_reducible apply Node.when_kept
                  | with_reducible apply Node.setPhase_kept | with_reducible apply Node.reloadGroup_kept | with_reducible apply Node.setCode_kept
                  | with_reducible apply Node.setInfo_kept | with_reducible apply Node.refused_kept | with_reducible apply Node.odOutcome_kept
                  | with_reducible apply Node.mcEnd_kept | intro _)

theorem execCommitAbort_kept (group : Nat) (s : State) (hs : s.node.Kept rs vk) (s' : State) (ht : execCommitAbort group s = .next s') :
    s'.node.Kept rs vk := by
  unfold execCommitAbort at ht
  refine State.upd_kept hs ?_ ht
  repeat' (first | with_reducible assumption | with_reducible rfl | with_reducible apply Node.when_kept
                  | with_reducible apply Node.xabort_kept | with_reducible apply Node.groupAbort_kept | intro _ | dsimp -proj only
                  | exact @rfl (List Record) _ | exact @rfl (SMap (Option (BitVec 256))) _ | split)

theorem Node.mcStart_kept (n : Node) (h0 : n.Kept rs vk) :
    (Node.mcStart n).Kept rs vk := by
  unfold Node.mcStart
  repeat' (first | with_reducible assumption | with_reducible rfl | with_reducible apply Node.when_kept
                  | with_reducible apply Node.setPhase_kept | with_reducible apply Node.fire_kept | with_reducible apply Node.takeGroups_kept
                  | with_reducible apply Node.appliedAlone_kept | with_reducible apply Node.mcResult_kept | intro _ | dsimp -proj only
                  | exact @rfl (List Record) _ | exact @rfl (SMap (Option (BitVec 256))) _ | split | with_reducible apply mk_kept)

theorem Node.commitsStart_kept (n : Node) (h0 : n.Kept rs vk) :
    (Node.commitsStart n).Kept rs vk := by
  unfold Node.commitsStart
  repeat' (first | with_reducible assumption | with_reducible rfl | with_reducible apply Node.each_kept
                  | with_reducible apply Node.setPhase_kept | with_reducible apply Node.takeOne_kept | with_reducible apply Node.appliedAlone_kept
                  | with_reducible apply Node.mcStart_kept | intro _ | dsimp -proj only | exact @rfl (List Record) _
                  | exact @rfl (SMap (Option (BitVec 256))) _ | split | with_reducible apply mk_kept)

theorem Node.wheelStart_kept (n : Node) (h0 : n.Kept rs vk) :
    (Node.wheelStart n).Kept rs vk := by
  unfold Node.wheelStart
  repeat' (first | with_reducible assumption | with_reducible rfl | with_reducible apply Node.when_kept
                  | with_reducible apply Node.takeOne_kept | with_reducible apply Node.appliedAlone_kept | intro _ | dsimp -proj only
                  | exact @rfl (List Record) _ | exact @rfl (SMap (Option (BitVec 256))) _ | split)

theorem Node.refuseAll_kept (n : Node) (code : Nat) (h0 : n.Kept rs vk) :
    (Node.refuseAll n code).Kept rs vk := by
  unfold Node.refuseAll
  repeat' (first | with_reducible assumption | with_reducible rfl | with_reducible apply Node.when_kept
                  | with_reducible apply Node.each_kept | with_reducible apply Node.refuseCommit_kept | with_reducible apply Node.mcEnd_kept
                  | intro _)

theorem Node.rackCell_kept (n : Node) (c : Nat × Word) (h0 : n.Kept rs vk) :
    (Node.rackCell n c).Kept rs vk := by
  unfold Node.rackCell
  repeat' (first | with_reducible assumption | with_reducible rfl | with_reducible apply Node.putWord_kept
                  | with_reducible apply Node.putShadow_kept | with_reducible apply Node.putForce_kept | with_reducible apply Node.wr_kept
                  | intro _ | dsimp -proj only | exact @rfl (List Record) _ | exact @rfl (SMap (Option (BitVec 256))) _ | split
                  | with_reducible apply mk_kept)

theorem Node.copyRacked_kept (n : Node) (h0 : n.Kept rs vk) :
    (Node.copyRacked n).Kept rs vk := by
  unfold Node.copyRacked
  repeat' (first | with_reducible assumption | with_reducible rfl | with_reducible apply Node.each_kept
                  | with_reducible apply Node.putWords_kept | with_reducible apply Node.resetWords_kept | with_reducible apply Node.keepBytes_kept
                  | with_reducible apply Node.putRamWord_kept | with_reducible apply Node.setFlow_kept | intro _)

theorem Node.sendDelta_kept (n : Node) (idx : Nat) (h0 : n.Kept rs vk) :
    (Node.sendDelta n idx).Kept rs vk := by
  unfold Node.sendDelta
  repeat' (first | with_reducible assumption | with_reducible rfl | with_reducible apply Node.emit_kept | intro _
                  | dsimp -proj only | exact @rfl (List Record) _ | exact @rfl (SMap (Option (BitVec 256))) _ | split
                  | with_reducible apply mk_kept)

theorem Node.sendBulk_kept (n : Node) (h0 : n.Kept rs vk) :
    (Node.sendBulk n).Kept rs vk := by
  unfold Node.sendBulk
  repeat' (first | with_reducible assumption | with_reducible rfl | with_reducible apply Node.emit_kept | intro _
                  | dsimp -proj only | exact @rfl (List Record) _ | exact @rfl (SMap (Option (BitVec 256))) _ | split
                  | with_reducible apply mk_kept)

theorem Node.sendAgain_kept (n : Node) (h0 : n.Kept rs vk) :
    (Node.sendAgain n).Kept rs vk := by
  unfold Node.sendAgain
  repeat' (first | with_reducible assumption | with_reducible rfl | with_reducible apply Node.emit_kept | intro _
                  | dsimp -proj only | exact @rfl (List Record) _ | exact @rfl (SMap (Option (BitVec 256))) _ | split)

theorem Node.reseed_kept (n : Node) (h0 : n.Kept rs vk) :
    (Node.reseed n).Kept rs vk := by
  unfold Node.reseed
  repeat' (first | with_reducible assumption | with_reducible rfl | with_reducible apply Node.count_kept
                  | with_reducible apply Node.raise_kept | with_reducible apply Node.copyRacked_kept | intro _ | dsimp -proj only
                  | exact @rfl (List Record) _ | exact @rfl (SMap (Option (BitVec 256))) _ | split | with_reducible apply mk_kept)

theorem Node.startBulk_kept (n : Node) (h0 : n.Kept rs vk) :
    (Node.startBulk n).Kept rs vk := by
  unfold Node.startBulk
  repeat' (first | with_reducible assumption | with_reducible rfl | with_reducible apply Node.emit_kept | intro _
                  | dsimp -proj only | exact @rfl (List Record) _ | exact @rfl (SMap (Option (BitVec 256))) _ | split
                  | with_reducible apply mk_kept)

theorem Node.sayState_kept (n : Node) (h0 : n.Kept rs vk) :
    (Node.sayState n).Kept rs vk := by
  unfold Node.sayState
  repeat' (first | with_reducible assumption | with_reducible rfl | with_reducible apply Node.when_kept
                  | with_reducible apply Node.emit_kept | intro _)

theorem Node.setHold_kept (n : Node) (on : Bool) (h0 : n.Kept rs vk) :
    (Node.setHold n on).Kept rs vk := by
  unfold Node.setHold
  repeat' (first | with_reducible assumption | with_reducible rfl | with_reducible apply Node.wrBit_kept | intro _
                  | dsimp -proj only | exact @rfl (List Record) _ | exact @rfl (SMap (Option (BitVec 256))) _ | split
                  | with_reducible apply mk_kept)

theorem Node.setRole_kept (n : Node) (st : Nat) (h0 : n.Kept rs vk) :
    (Node.setRole n st).Kept rs vk := by
  unfold Node.setRole
  repeat' (first | with_reducible assumption | with_reducible rfl | with_reducible apply Node.wr_kept
                  | with_reducible apply Node.sayState_kept)

theorem Node.silence_kept (n : Node) (h0 : n.Kept rs vk) :
    (Node.silence n).Kept rs vk := by
  unfold Node.silence
  repeat' (first | with_reducible assumption | with_reducible rfl | with_reducible apply Node.when_kept
                  | with_reducible apply Node.each_kept | with_reducible apply Node.released_kept | with_reducible apply Node.dropCopies_kept
                  | with_reducible apply Node.setSending_kept | intro _ | dsimp -proj only | exact @rfl (List Record) _
                  | exact @rfl (SMap (Option (BitVec 256))) _ | split)

theorem Node.becomeStandby_kept (n : Node) (h0 : n.Kept rs vk) :
    (Node.becomeStandby n).Kept rs vk := by
  unfold Node.becomeStandby
  repeat' (first | with_reducible assumption | with_reducible rfl | with_reducible apply Node.wr_kept
                  | with_reducible apply Node.wrBit_kept | with_reducible apply Node.setSpec_kept | with_reducible apply Node.loseTopology_kept
                  | with_reducible apply Node.startBulk_kept | with_reducible apply Node.setHold_kept | with_reducible apply Node.setRole_kept
                  | with_reducible apply Node.silence_kept | intro _ | dsimp -proj only | exact @rfl (List Record) _
                  | exact @rfl (SMap (Option (BitVec 256))) _ | split | with_reducible apply mk_kept)

theorem Node.becomeActive_kept (n : Node) (cause kind : Nat) (h0 : n.Kept rs vk) :
    (Node.becomeActive n cause kind).Kept rs vk := by
  unfold Node.becomeActive
  repeat' (first | with_reducible assumption | with_reducible rfl | with_reducible apply Node.when_kept
                  | with_reducible apply Node.emit_kept | with_reducible apply Node.raise_kept | with_reducible apply Node.setSpec_kept
                  | with_reducible apply Node.turnOns_kept | with_reducible apply Node.startInaug_kept
                  | with_reducible apply Node.adoptDirectory_kept | with_reducible apply Node.setHold_kept
                  | with_reducible apply Node.setRole_kept | intro _ | dsimp -proj only | exact @rfl (List Record) _
                  | exact @rfl (SMap (Option (BitVec 256))) _ | split | with_reducible apply mk_kept)

theorem Node.startCold_kept (n : Node) (h0 : n.Kept rs vk) :
    (Node.startCold n).Kept rs vk := by
  unfold Node.startCold
  repeat' (first | with_reducible assumption | with_reducible rfl | with_reducible apply Node.resetWords_kept
                  | with_reducible apply Node.keepBytes_kept | with_reducible apply Node.clearStaging_kept
                  | with_reducible apply Node.initSignals_kept | intro _ | dsimp -proj only | exact @rfl (List Record) _
                  | exact @rfl (SMap (Option (BitVec 256))) _ | split | with_reducible apply mk_kept)

theorem Node.chooseState_kept (n : Node) (kind : Nat) (h0 : n.Kept rs vk) :
    (Node.chooseState n kind).Kept rs vk := by
  unfold Node.chooseState
  repeat' (first | with_reducible assumption | with_reducible rfl | with_reducible apply Node.when_kept
                  | with_reducible apply Node.reactivate_kept | with_reducible apply Node.showAllDirections_kept
                  | with_reducible apply Node.copyRacked_kept | with_reducible apply Node.startCold_kept | intro _ | dsimp -proj only
                  | exact @rfl (List Record) _ | exact @rfl (SMap (Option (BitVec 256))) _ | split | with_reducible apply mk_kept)

theorem Node.resumeFlows_kept (n : Node) (h0 : n.Kept rs vk) :
    (Node.resumeFlows n).Kept rs vk := by
  unfold Node.resumeFlows
  repeat' (first | with_reducible assumption | with_reducible rfl | with_reducible apply Node.when_kept
                  | with_reducible apply Node.each_kept | with_reducible apply Node.wr_kept | with_reducible apply Node.setFlow_kept | intro _)

theorem Node.resumeDomains_kept (n : Node) (h0 : n.Kept rs vk) :
    (Node.resumeDomains n).Kept rs vk := by
  unfold Node.resumeDomains
  repeat' (first | with_reducible assumption | with_reducible rfl | with_reducible apply Node.when_kept
                  | with_reducible apply Node.each_kept | with_reducible apply Node.putWords_kept | with_reducible apply Node.wr_kept | intro _)

theorem Node.announce_kept (n : Node) (h0 : n.Kept rs vk) :
    (Node.announce n).Kept rs vk := by
  unfold Node.announce
  repeat' (first | with_reducible assumption | with_reducible rfl | with_reducible apply Node.each_kept
                  | with_reducible apply Node.emit_kept | intro _)

theorem Node.takeOver_kept (n : Node) (cause kind : Nat) (h0 : n.Kept rs vk) :
    (Node.takeOver n cause kind).Kept rs vk := by
  unfold Node.takeOver
  repeat' (first | with_reducible assumption | with_reducible rfl | with_reducible apply Node.becomeActive_kept
                  | with_reducible apply Node.chooseState_kept | with_reducible apply Node.resumeFlows_kept
                  | with_reducible apply Node.resumeDomains_kept | with_reducible apply Node.announce_kept)

theorem execTakeover_kept (s : State) (hs : s.node.Kept rs vk) (s' : State) (ht : execTakeover s = .next s') :
    s'.node.Kept rs vk := by
  unfold execTakeover at ht
  refine State.upd_kept hs ?_ ht
  repeat' (first | with_reducible assumption | with_reducible rfl | with_reducible apply Node.when_kept
                  | with_reducible apply Node.count_kept | with_reducible apply Node.takeOver_kept | intro _)

theorem Node.stepDown_kept (n : Node) (h0 : n.Kept rs vk) :
    (Node.stepDown n).Kept rs vk := by
  unfold Node.stepDown
  repeat' (first | with_reducible assumption | with_reducible rfl | with_reducible apply Node.becomeStandby_kept | intro _
                  | dsimp -proj only | exact @rfl (List Record) _ | exact @rfl (SMap (Option (BitVec 256))) _ | split
                  | with_reducible apply mk_kept)

theorem Node.resign_kept (n : Node) (cause : Nat) (h0 : n.Kept rs vk) :
    (Node.resign n cause).Kept rs vk := by
  unfold Node.resign
  repeat' (first | with_reducible assumption | with_reducible rfl | with_reducible apply Node.when_kept
                  | with_reducible apply Node.count_kept | with_reducible apply Node.emit_kept | with_reducible apply Node.raise_kept
                  | with_reducible apply Node.stepDown_kept | intro _)

theorem execResignationReceived_kept (s : State) (hs : s.node.Kept rs vk) (s' : State) (ht : execResignationReceived s = .next s') :
    s'.node.Kept rs vk := by
  unfold execResignationReceived at ht
  refine State.upd_kept hs ?_ ht
  repeat' (first | with_reducible assumption | with_reducible rfl | with_reducible apply Node.when_kept | intro _
                  | dsimp -proj only | exact @rfl (List Record) _ | exact @rfl (SMap (Option (BitVec 256))) _ | split
                  | with_reducible apply mk_kept)

theorem Node.startRole_kept (n : Node) (h0 : n.Kept rs vk) :
    (Node.startRole n).Kept rs vk := by
  unfold Node.startRole
  repeat' (first | with_reducible assumption | with_reducible rfl | with_reducible apply Node.setRole_kept
                  | with_reducible apply Node.becomeStandby_kept | intro _ | dsimp -proj only | exact @rfl (List Record) _
                  | exact @rfl (SMap (Option (BitVec 256))) _ | split)

theorem Node.meetStarting_kept (n : Node) (h0 : n.Kept rs vk) :
    (Node.meetStarting n).Kept rs vk := by
  unfold Node.meetStarting
  repeat' (first | with_reducible assumption | with_reducible rfl | with_reducible apply Node.when_kept
                  | with_reducible apply Node.setRole_kept | with_reducible apply Node.becomeStandby_kept | intro _ | dsimp -proj only
                  | exact @rfl (List Record) _ | exact @rfl (SMap (Option (BitVec 256))) _ | split)

theorem Node.compareKeys_kept (n : Node) (h0 : n.Kept rs vk) :
    (Node.compareKeys n).Kept rs vk := by
  unfold Node.compareKeys
  repeat' (first | with_reducible assumption | with_reducible rfl | with_reducible apply Node.when_kept | intro _
                  | dsimp -proj only | exact @rfl (List Record) _ | exact @rfl (SMap (Option (BitVec 256))) _ | split
                  | with_reducible apply mk_kept)

theorem Node.foundSame_kept (n : Node) (h0 : n.Kept rs vk) :
    (Node.foundSame n).Kept rs vk := by
  unfold Node.foundSame
  repeat' (first | with_reducible assumption | with_reducible rfl | with_reducible apply Node.when_kept
                  | with_reducible apply Node.emit_kept | with_reducible apply Node.raise_kept | with_reducible apply Node.compareKeys_kept
                  | intro _ | dsimp -proj only | exact @rfl (List Record) _ | exact @rfl (SMap (Option (BitVec 256))) _ | split
                  | with_reducible apply mk_kept)

theorem Node.yields_kept (n : Node) (h0 : n.Kept rs vk) :
    (Node.yields n).Kept rs vk := by
  unfold Node.yields
  repeat' (first | with_reducible assumption | with_reducible rfl | with_reducible apply Node.when_kept
                  | with_reducible apply Node.becomeStandby_kept)

theorem execClaimTimeout_kept (s : State) (hs : s.node.Kept rs vk) (s' : State) (ht : execClaimTimeout s = .next s') :
    s'.node.Kept rs vk := by
  unfold execClaimTimeout at ht
  refine State.upd_kept hs ?_ ht
  repeat' (first | with_reducible assumption | with_reducible rfl | with_reducible apply Node.when_kept
                  | with_reducible apply Node.setRole_kept | intro _)

theorem execClaimRetryDelay_kept (s : State) (hs : s.node.Kept rs vk) (s' : State) (ht : execClaimRetryDelay s = .next s') :
    s'.node.Kept rs vk := by
  unfold execClaimRetryDelay at ht
  refine State.upd_kept hs ?_ ht
  repeat' (first | with_reducible assumption | with_reducible rfl | with_reducible apply Node.when_kept | intro _
                  | dsimp -proj only | exact @rfl (List Record) _ | exact @rfl (SMap (Option (BitVec 256))) _ | split
                  | with_reducible apply mk_kept)

theorem execClaimWatchEnd_kept (partnerHoldSeen sameUnit : Bool) (s : State) (hs : s.node.Kept rs vk) (s' : State)
    (ht : execClaimWatchEnd partnerHoldSeen sameUnit s = .next s') :
    s'.node.Kept rs vk := by
  unfold execClaimWatchEnd at ht
  refine State.upd_kept hs ?_ ht
  repeat' (first | with_reducible assumption | with_reducible rfl | with_reducible apply Node.when_kept
                  | with_reducible apply Node.count_kept | with_reducible apply Node.raise_kept | with_reducible apply Node.setHold_kept
                  | with_reducible apply Node.becomeStandby_kept | with_reducible apply Node.foundSame_kept | intro _ | dsimp -proj only
                  | exact @rfl (List Record) _ | exact @rfl (SMap (Option (BitVec 256))) _ | split | with_reducible apply mk_kept)

theorem Node.secondActive_kept (n : Node) (h0 : n.Kept rs vk) :
    (Node.secondActive n).Kept rs vk := by
  unfold Node.secondActive
  repeat' (first | with_reducible assumption | with_reducible rfl | with_reducible apply Node.when_kept
                  | with_reducible apply Node.resign_kept | intro _)

theorem execCorkRenewalTx_kept (s : State) (hs : s.node.Kept rs vk) (s' : State) (ht : execCorkRenewalTx s = .next s') :
    s'.node.Kept rs vk := by
  unfold execCorkRenewalTx at ht
  refine State.upd_kept hs ?_ ht
  repeat' (first | with_reducible assumption | with_reducible rfl | with_reducible apply Node.when_kept
                  | with_reducible apply Node.emit_kept | with_reducible apply Node.setHold_kept | with_reducible apply Node.secondActive_kept
                  | intro _)

theorem execRenewalReceived_kept (s : State) (hs : s.node.Kept rs vk) (s' : State) (ht : execRenewalReceived s = .next s') :
    s'.node.Kept rs vk := by
  unfold execRenewalReceived at ht
  refine State.upd_kept hs ?_ ht
  repeat' (first | with_reducible assumption | with_reducible rfl | with_reducible apply Node.when_kept
                  | with_reducible apply Node.yields_kept | intro _ | dsimp -proj only | exact @rfl (List Record) _
                  | exact @rfl (SMap (Option (BitVec 256))) _ | split | with_reducible apply mk_kept)

theorem execHoldOutRelease_kept (s : State) (hs : s.node.Kept rs vk) (s' : State) (ht : execHoldOutRelease s = .next s') :
    s'.node.Kept rs vk := by
  unfold execHoldOutRelease at ht
  refine State.upd_kept hs ?_ ht
  repeat' (first | with_reducible assumption | with_reducible rfl | with_reducible apply Node.when_kept
                  | with_reducible apply Node.setHold_kept | intro _)

theorem execLeaseExpiry_kept (s : State) (hs : s.node.Kept rs vk) (s' : State) (ht : execLeaseExpiry s = .next s') :
    s'.node.Kept rs vk := by
  unfold execLeaseExpiry at ht
  refine State.upd_kept hs ?_ ht
  repeat' (first | with_reducible assumption | with_reducible rfl | with_reducible apply Node.when_kept
                  | with_reducible apply Node.wrBit_kept | with_reducible apply Node.raise_kept | intro _ | dsimp -proj only
                  | exact @rfl (List Record) _ | exact @rfl (SMap (Option (BitVec 256))) _ | split | with_reducible apply mk_kept)

theorem execHoldInChange_kept (lineB low : Bool) (s : State) (hs : s.node.Kept rs vk) (s' : State) (ht : execHoldInChange lineB low s = .next s') :
    s'.node.Kept rs vk := by
  unfold execHoldInChange at ht
  refine State.upd_kept hs ?_ ht
  repeat' (first | with_reducible assumption | with_reducible rfl | with_reducible apply Node.when_kept
                  | with_reducible apply Node.wrBit_kept | with_reducible apply Node.endRun_kept | with_reducible apply Node.yields_kept
                  | with_reducible apply Node.secondActive_kept | intro _)

theorem execHoldDisagree_kept (s : State) (hs : s.node.Kept rs vk) (s' : State) (ht : execHoldDisagree s = .next s') :
    s'.node.Kept rs vk := by
  unfold execHoldDisagree at ht
  refine State.upd_kept hs ?_ ht
  repeat' (first | with_reducible assumption | with_reducible rfl | with_reducible apply Node.when_kept
                  | with_reducible apply Node.count_kept | with_reducible apply Node.raiseFirst_kept | intro _)

theorem execBreakInstant_kept (energies : List (Fin 24 × Nat)) (s : State) (hs : s.node.Kept rs vk) (s' : State)
    (ht : execBreakInstant energies s = .next s') :
    s'.node.Kept rs vk := by
  unfold execBreakInstant at ht
  refine State.upd_kept hs ?_ ht
  repeat' (first | with_reducible assumption | with_reducible rfl | with_reducible apply Node.when_kept
                  | with_reducible apply Node.channelsOff_kept | with_reducible apply Node.turnedOff_kept | intro _ | dsimp -proj only
                  | exact @rfl (List Record) _ | exact @rfl (SMap (Option (BitVec 256))) _ | split | with_reducible apply mk_kept)

theorem execRackLinkDown_kept (s : State) (hs : s.node.Kept rs vk) (s' : State) (ht : execRackLinkDown s = .next s') :
    s'.node.Kept rs vk := by
  unfold execRackLinkDown at ht
  refine State.upd_kept hs ?_ ht
  repeat' (first | with_reducible assumption | with_reducible rfl | with_reducible apply Node.when_kept
                  | with_reducible apply Node.wrBit_kept | with_reducible apply Node.count_kept | with_reducible apply Node.raise_kept | intro _
                  | dsimp -proj only | exact @rfl (List Record) _ | exact @rfl (SMap (Option (BitVec 256))) _ | split
                  | with_reducible apply mk_kept)

theorem Node.checkCompat_kept (n : Node) (h0 : n.Kept rs vk) :
    (Node.checkCompat n).Kept rs vk := by
  unfold Node.checkCompat
  repeat' (first | with_reducible assumption | with_reducible rfl | with_reducible apply Node.wrBit_kept
                  | with_reducible apply Node.raise_kept | intro _ | dsimp -proj only | exact @rfl (List Record) _
                  | exact @rfl (SMap (Option (BitVec 256))) _ | split)

theorem execRackLinkUp_kept (partnerCompat : Word) (s : State) (hs : s.node.Kept rs vk) (s' : State)
    (ht : execRackLinkUp partnerCompat s = .next s') :
    s'.node.Kept rs vk := by
  unfold execRackLinkUp at ht
  refine State.upd_kept hs ?_ ht
  repeat' (first | with_reducible assumption | with_reducible rfl | with_reducible apply Node.when_kept
                  | with_reducible apply Node.each_kept | with_reducible apply Node.wrBit_kept | with_reducible apply Node.raise_kept
                  | with_reducible apply Node.tellPartner_kept | with_reducible apply Node.sayState_kept
                  | with_reducible apply Node.checkCompat_kept | intro _ | dsimp -proj only | exact @rfl (List Record) _
                  | exact @rfl (SMap (Option (BitVec 256))) _ | split | with_reducible apply mk_kept)

theorem Node.takeSet_kept (n : Node) (set : List Nat) (skip : Nat) (cells : List (Nat × Word)) (h0 : n.Kept rs vk) :
    (Node.takeSet n set skip cells).Kept rs vk := by
  unfold Node.takeSet
  repeat' (first | with_reducible assumption | with_reducible rfl | with_reducible apply Node.when_kept
                  | with_reducible apply Node.each_kept | with_reducible apply Node.putShadows_kept | with_reducible apply Node.setPhase_kept
                  | with_reducible apply Node.emit_kept | intro _ | dsimp -proj only | exact @rfl (List Record) _
                  | exact @rfl (SMap (Option (BitVec 256))) _ | split | with_reducible apply mk_kept)

theorem execRackFrameReceived_kept (seq : Nat) (last crcOk : Bool) (cells : List (Nat × Word)) (set : Option (List Nat × Nat)) (s : State)
    (hs : s.node.Kept rs vk) (s' : State) (ht : execRackFrameReceived seq last crcOk cells set s = .next s') :
    s'.node.Kept rs vk := by
  unfold execRackFrameReceived at ht
  refine State.upd_kept hs ?_ ht
  repeat' (first | with_reducible assumption | with_reducible rfl | with_reducible apply Node.when_kept
                  | with_reducible apply Node.count_kept | with_reducible apply Node.emit_kept | with_reducible apply Node.takeSet_kept | intro _
                  | dsimp -proj only | exact @rfl (List Record) _ | exact @rfl (SMap (Option (BitVec 256))) _ | split
                  | with_reducible apply mk_kept)

theorem execDeltaApplied_kept (s : State) (hs : s.node.Kept rs vk) (s' : State) (ht : execDeltaApplied s = .next s') :
    s'.node.Kept rs vk := by
  unfold execDeltaApplied at ht
  refine State.upd_kept hs ?_ ht
  repeat' (first | with_reducible assumption | with_reducible rfl | with_reducible apply Node.when_kept
                  | with_reducible apply Node.each_kept | with_reducible apply Node.reactivate_kept | with_reducible apply Node.rackCell_kept
                  | intro _ | dsimp -proj only | exact @rfl (List Record) _ | exact @rfl (SMap (Option (BitVec 256))) _ | split
                  | with_reducible apply mk_kept)

theorem Node.takeBulk_kept (n : Node) (cells : List (Nat × Word)) (h0 : n.Kept rs vk) :
    (Node.takeBulk n cells).Kept rs vk := by
  unfold Node.takeBulk
  repeat' (first | with_reducible assumption | with_reducible rfl | with_reducible apply Node.each_kept
                  | with_reducible apply Node.reactivate_kept | with_reducible apply Node.rackCell_kept | intro _ | dsimp -proj only
                  | exact @rfl (List Record) _ | exact @rfl (SMap (Option (BitVec 256))) _ | split | with_reducible apply mk_kept)

theorem execBulkRackingDone_kept (unit0Mac : Mac) (cells : List (Nat × Word)) (s : State) (hs : s.node.Kept rs vk) (s' : State)
    (ht : execBulkRackingDone unit0Mac cells s = .next s') :
    s'.node.Kept rs vk := by
  unfold execBulkRackingDone at ht
  refine State.upd_kept hs ?_ ht
  repeat' (first | with_reducible assumption | with_reducible rfl | with_reducible apply Node.when_kept
                  | with_reducible apply Node.wrBit_kept | with_reducible apply Node.raise_kept | with_reducible apply Node.reseed_kept
                  | with_reducible apply Node.takeBulk_kept | intro _ | dsimp -proj only | exact @rfl (List Record) _
                  | exact @rfl (SMap (Option (BitVec 256))) _ | split | with_reducible apply mk_kept)

theorem Node.controlWord_kept (n : Node) (w : RackControl) (h0 : n.Kept rs vk) :
    (Node.controlWord n w).Kept rs vk := by
  unfold Node.controlWord
  repeat' (first | with_reducible assumption | with_reducible rfl | with_reducible apply Node.when_kept
                  | with_reducible apply Node.wr_kept | with_reducible apply Node.reportUp_kept | with_reducible apply Node.reportDown_kept
                  | with_reducible apply Node.sendBulk_kept | with_reducible apply Node.sendAgain_kept
                  | with_reducible apply Node.meetStarting_kept | with_reducible apply Node.compareKeys_kept
                  | with_reducible apply Node.foundSame_kept | intro _ | dsimp -proj only | exact @rfl (List Record) _
                  | exact @rfl (SMap (Option (BitVec 256))) _ | split | with_reducible apply mk_kept)

theorem execDigestCompare_kept (cycle : BitVec 13) (partner : DWord) (s : State) (hs : s.node.Kept rs vk) (s' : State)
    (ht : execDigestCompare cycle partner s = .next s') :
    s'.node.Kept rs vk := by
  unfold execDigestCompare at ht
  refine State.upd_kept hs ?_ ht
  repeat' (first | with_reducible assumption | with_reducible rfl | with_reducible apply Node.when_kept
                  | with_reducible apply Node.wr_kept | with_reducible apply Node.wrBit_kept | with_reducible apply Node.count_kept
                  | with_reducible apply Node.putWord64_kept | with_reducible apply Node.raiseFirst_kept | with_reducible apply Node.endRun_kept
                  | intro _ | dsimp -proj only | exact @rfl (List Record) _ | exact @rfl (SMap (Option (BitVec 256))) _ | split
                  | with_reducible apply mk_kept)

theorem Node.redCommand_kept (n : Node) (op : Nat) (h0 : n.Kept rs vk) :
    (Node.redCommand n op).Kept rs vk := by
  unfold Node.redCommand
  repeat' (first | with_reducible assumption | with_reducible rfl | with_reducible apply Node.when_kept
                  | with_reducible apply Node.startBulk_kept | with_reducible apply Node.resign_kept | intro _ | dsimp -proj only
                  | exact @rfl (List Record) _ | exact @rfl (SMap (Option (BitVec 256))) _ | split | with_reducible apply mk_kept)

theorem Node.redCmd_kept (n : Node) (by_ : Initiator) (key : Half) (op : Nat) (h0 : n.Kept rs vk) :
    (Node.redCmd n by_ key op).Kept rs vk := by
  unfold Node.redCmd
  repeat' (first | with_reducible assumption | with_reducible rfl | with_reducible apply Node.when_kept
                  | with_reducible apply Node.access_kept | with_reducible apply Node.redCommand_kept | intro _)

theorem execRedCmdResign_kept (by_ : Initiator) (key : Half) (s : State) (hs : s.node.Kept rs vk) (s' : State)
    (ht : execRedCmdResign by_ key s = .next s') :
    s'.node.Kept rs vk := by
  unfold execRedCmdResign at ht
  refine State.upd_kept hs ?_ ht
  repeat' (first | with_reducible assumption | with_reducible rfl | with_reducible apply Node.redCmd_kept | intro _)

theorem execRedCmdSwap_kept (by_ : Initiator) (key : Half) (s : State) (hs : s.node.Kept rs vk) (s' : State)
    (ht : execRedCmdSwap by_ key s = .next s') :
    s'.node.Kept rs vk := by
  unfold execRedCmdSwap at ht
  refine State.upd_kept hs ?_ ht
  repeat' (first | with_reducible assumption | with_reducible rfl | with_reducible apply Node.redCmd_kept | intro _)

theorem execRedCmdBulkRacking_kept (by_ : Initiator) (key : Half) (s : State) (hs : s.node.Kept rs vk) (s' : State)
    (ht : execRedCmdBulkRacking by_ key s = .next s') :
    s'.node.Kept rs vk := by
  unfold execRedCmdBulkRacking at ht
  refine State.upd_kept hs ?_ ht
  repeat' (first | with_reducible assumption | with_reducible rfl | with_reducible apply Node.redCmd_kept | intro _)

theorem execSwapIntervalExpiry_kept (s : State) (hs : s.node.Kept rs vk) (s' : State) (ht : execSwapIntervalExpiry s = .next s') :
    s'.node.Kept rs vk := by
  unfold execSwapIntervalExpiry at ht
  refine State.upd_kept hs ?_ ht
  repeat' (first | with_reducible assumption | with_reducible rfl | with_reducible apply Node.when_kept | intro _
                  | dsimp -proj only | exact @rfl (List Record) _ | exact @rfl (SMap (Option (BitVec 256))) _ | split
                  | with_reducible apply mk_kept)

theorem Node.proposeSwap_kept (n : Node) (h0 : n.Kept rs vk) :
    (Node.proposeSwap n).Kept rs vk := by
  unfold Node.proposeSwap
  repeat' (first | with_reducible assumption | with_reducible rfl | with_reducible apply Node.when_kept
                  | with_reducible apply Node.count_kept | with_reducible apply Node.emit_kept | with_reducible apply Node.raise_kept | intro _
                  | dsimp -proj only | exact @rfl (List Record) _ | exact @rfl (SMap (Option (BitVec 256))) _ | split
                  | with_reducible apply mk_kept)

theorem Node.swapNow_kept (n : Node) (h0 : n.Kept rs vk) :
    (Node.swapNow n).Kept rs vk := by
  unfold Node.swapNow
  repeat' (first | with_reducible assumption | with_reducible rfl | with_reducible apply Node.count_kept
                  | with_reducible apply Node.raise_kept | with_reducible apply Node.takeOver_kept | with_reducible apply Node.stepDown_kept
                  | intro _ | dsimp -proj only | exact @rfl (List Record) _ | exact @rfl (SMap (Option (BitVec 256))) _ | split)

theorem Node.sayBusy_kept (n : Node) (h0 : n.Kept rs vk) :
    (Node.sayBusy n).Kept rs vk := by
  unfold Node.sayBusy
  repeat' (first | with_reducible assumption | with_reducible rfl | with_reducible apply Node.when_kept
                  | with_reducible apply Node.emit_kept | intro _)

theorem Node.closeDigest_kept (n : Node) (idx : Nat) (h0 : n.Kept rs vk) :
    (Node.closeDigest n idx).Kept rs vk := by
  unfold Node.closeDigest
  repeat' (first | with_reducible assumption | with_reducible rfl | with_reducible apply Node.when_kept
                  | with_reducible apply Node.emit_kept | intro _ | dsimp -proj only | exact @rfl (List Record) _
                  | exact @rfl (SMap (Option (BitVec 256))) _ | split | with_reducible apply mk_kept)

theorem Node.checkDelta_kept (n : Node) (h0 : n.Kept rs vk) :
    (Node.checkDelta n).Kept rs vk := by
  unfold Node.checkDelta
  repeat' (first | with_reducible assumption | with_reducible rfl | with_reducible apply Node.when_kept
                  | with_reducible apply Node.wrBit_kept | with_reducible apply Node.count_kept | with_reducible apply Node.raise_kept
                  | with_reducible apply Node.startBulk_kept | intro _ | dsimp -proj only | exact @rfl (List Record) _
                  | exact @rfl (SMap (Option (BitVec 256))) _ | split | with_reducible apply mk_kept)

theorem Node.rackingPoint_kept (n : Node) (idx : Nat) (h0 : n.Kept rs vk) :
    (Node.rackingPoint n idx).Kept rs vk := by
  unfold Node.rackingPoint
  repeat' (first | with_reducible assumption | with_reducible rfl | with_reducible apply Node.when_kept
                  | with_reducible apply Node.sendDelta_kept | with_reducible apply Node.reseed_kept | with_reducible apply Node.proposeSwap_kept
                  | with_reducible apply Node.closeDigest_kept | with_reducible apply Node.checkDelta_kept | intro _ | dsimp -proj only
                  | exact @rfl (List Record) _ | exact @rfl (SMap (Option (BitVec 256))) _ | split)

theorem Node.swapStart_kept (n : Node) (h0 : n.Kept rs vk) :
    (Node.swapStart n).Kept rs vk := by
  unfold Node.swapStart
  repeat' (first | with_reducible assumption | with_reducible rfl | with_reducible apply Node.swapNow_kept | intro _
                  | dsimp -proj only | exact @rfl (List Record) _ | exact @rfl (SMap (Option (BitVec 256))) _ | split
                  | with_reducible apply mk_kept)

theorem Node.claimStart_kept (n : Node) (h0 : n.Kept rs vk) :
    (Node.claimStart n).Kept rs vk := by
  unfold Node.claimStart
  repeat' (first | with_reducible assumption | with_reducible rfl | with_reducible apply Node.when_kept
                  | with_reducible apply Node.setHold_kept | with_reducible apply Node.becomeActive_kept | with_reducible apply Node.yields_kept
                  | with_reducible apply Node.secondActive_kept | intro _ | dsimp -proj only | exact @rfl (List Record) _
                  | exact @rfl (SMap (Option (BitVec 256))) _ | split | with_reducible apply mk_kept)

theorem Node.pairStart_kept (n : Node) (idx : Nat) (h0 : n.Kept rs vk) :
    (Node.pairStart n idx).Kept rs vk := by
  unfold Node.pairStart
  repeat' (first | with_reducible assumption | with_reducible rfl | with_reducible apply Node.sayState_kept
                  | with_reducible apply Node.sayBusy_kept | with_reducible apply Node.rackingPoint_kept
                  | with_reducible apply Node.swapStart_kept | with_reducible apply Node.claimStart_kept)

theorem Node.newCycle_kept (n : Node) (idx : Nat) (h0 : n.Kept rs vk) :
    (Node.newCycle n idx).Kept rs vk := by
  unfold Node.newCycle
  repeat' (first | with_reducible assumption | with_reducible rfl | with_reducible apply Node.when_kept
                  | with_reducible apply Node.wr_kept | with_reducible apply Node.incr_kept | intro _)

theorem Node.holdEntries_kept (n : Node) (h0 : n.Kept rs vk) :
    (Node.holdEntries n).Kept rs vk := by
  unfold Node.holdEntries
  repeat' (first | with_reducible assumption | with_reducible rfl | with_reducible apply Node.wrBit_kept | intro _
                  | dsimp -proj only | exact @rfl (List Record) _ | exact @rfl (SMap (Option (BitVec 256))) _ | split
                  | with_reducible apply mk_kept)

theorem Node.restoreEntries_kept (n : Node) (h0 : n.Kept rs vk) :
    (Node.restoreEntries n).Kept rs vk := by
  unfold Node.restoreEntries
  repeat' (first | with_reducible assumption | with_reducible rfl | with_reducible apply Node.when_kept
                  | with_reducible apply Node.holdEntries_kept | intro _ | dsimp -proj only | exact @rfl (List Record) _
                  | exact @rfl (SMap (Option (BitVec 256))) _ | split | with_reducible apply mk_kept)

theorem Node.topologyStart_kept (n : Node) (waits : Bool) (h0 : n.Kept rs vk) :
    (Node.topologyStart n waits).Kept rs vk := by
  unfold Node.topologyStart
  repeat' (first | with_reducible assumption | with_reducible rfl | intro _ | dsimp -proj only | exact @rfl (List Record) _
                  | exact @rfl (SMap (Option (BitVec 256))) _ | split | with_reducible apply mk_kept)

theorem Node.graceStart_kept (n : Node) (h0 : n.Kept rs vk) :
    (Node.graceStart n).Kept rs vk := by
  unfold Node.graceStart
  repeat' (first | with_reducible assumption | with_reducible rfl | with_reducible apply Node.wr_kept | intro _ | dsimp -proj only
                  | exact @rfl (List Record) _ | exact @rfl (SMap (Option (BitVec 256))) _ | split | with_reducible apply mk_kept)

theorem Node.rebase_kept (n : Node) (ns : Nat) (h0 : n.Kept rs vk) :
    (Node.rebase n ns).Kept rs vk := by
  unfold Node.rebase
  repeat' (first | with_reducible assumption | with_reducible rfl | intro _ | dsimp -proj only | exact @rfl (List Record) _
                  | exact @rfl (SMap (Option (BitVec 256))) _ | split | with_reducible apply mk_kept)

theorem Node.cycleStart_kept (n : Node) (idx : Nat) (h0 : n.Kept rs vk) :
    (Node.cycleStart n idx).Kept rs vk := by
  unfold Node.cycleStart
  repeat' (first | with_reducible assumption | with_reducible rfl | with_reducible apply Node.wr_kept
                  | with_reducible apply Node.commitsStart_kept | with_reducible apply Node.newCycle_kept
                  | with_reducible apply Node.restoreEntries_kept | with_reducible apply Node.topologyStart_kept | intro _ | dsimp -proj only
                  | exact @rfl (List Record) _ | exact @rfl (SMap (Option (BitVec 256))) _ | split)

theorem Node.stopTrellis_kept (n : Node) (h0 : n.Kept rs vk) :
    (Node.stopTrellis n).Kept rs vk := by
  unfold Node.stopTrellis
  repeat' (first | with_reducible assumption | with_reducible rfl | with_reducible apply Node.wrBit_kept | intro _
                  | dsimp -proj only | exact @rfl (List Record) _ | exact @rfl (SMap (Option (BitVec 256))) _ | split
                  | with_reducible apply mk_kept)

theorem Node.backToRun_kept (n : Node) (h0 : n.Kept rs vk) :
    (Node.backToRun n).Kept rs vk := by
  unfold Node.backToRun
  repeat' (first | with_reducible assumption | with_reducible rfl | with_reducible apply Node.wr_kept | intro _ | dsimp -proj only
                  | exact @rfl (List Record) _ | exact @rfl (SMap (Option (BitVec 256))) _ | split | with_reducible apply mk_kept)

theorem Node.resumeRun_kept (n : Node) (h0 : n.Kept rs vk) :
    (Node.resumeRun n).Kept rs vk := by
  unfold Node.resumeRun
  repeat' (first | with_reducible assumption | with_reducible rfl | with_reducible apply Node.when_kept
                  | with_reducible apply Node.wrBit_kept | with_reducible apply Node.updateBypass_kept | with_reducible apply Node.cycleStart_kept
                  | with_reducible apply Node.backToRun_kept | intro _)

theorem Node.beginGap_kept (n : Node) (idx : Nat) (h0 : n.Kept rs vk) :
    (Node.beginGap n idx).Kept rs vk := by
  unfold Node.beginGap
  repeat' (first | with_reducible assumption | with_reducible rfl | with_reducible apply Node.wr_kept | intro _ | dsimp -proj only
                  | exact @rfl (List Record) _ | exact @rfl (SMap (Option (BitVec 256))) _ | split | with_reducible apply mk_kept)

theorem Node.seeBuses_kept (n : Node) (bus : BusView) (h0 : n.Kept rs vk) :
    (Node.seeBuses n bus).Kept rs vk := by
  unfold Node.seeBuses
  repeat' (first | with_reducible assumption | with_reducible rfl | with_reducible apply Node.each_kept
                  | with_reducible apply Node.seeRecovery_kept | intro _ | dsimp -proj only | exact @rfl (List Record) _
                  | exact @rfl (SMap (Option (BitVec 256))) _ | split | with_reducible apply mk_kept)

theorem execBaseCycleStart_kept (bus : BusView) (s : State) (hs : s.node.Kept rs vk) (s' : State) (ht : execBaseCycleStart bus s = .next s') :
    s'.node.Kept rs vk := by
  unfold execBaseCycleStart at ht
  refine State.upd_kept hs ?_ ht
  repeat' (first | with_reducible assumption | with_reducible rfl | with_reducible apply Node.when_kept
                  | with_reducible apply Node.pairStart_kept | with_reducible apply Node.graceStart_kept | with_reducible apply Node.rebase_kept
                  | with_reducible apply Node.cycleStart_kept | with_reducible apply Node.backToRun_kept
                  | with_reducible apply Node.resumeRun_kept | with_reducible apply Node.beginGap_kept | with_reducible apply Node.seeBuses_kept
                  | intro _ | dsimp -proj only | exact @rfl (List Record) _ | exact @rfl (SMap (Option (BitVec 256))) _ | split)

theorem execTrellisSlewEnd_kept (s : State) (hs : s.node.Kept rs vk) (s' : State) (ht : execTrellisSlewEnd s = .next s') :
    s'.node.Kept rs vk := by
  unfold execTrellisSlewEnd at ht
  refine State.upd_kept hs ?_ ht
  repeat' (first | with_reducible assumption | with_reducible rfl | with_reducible apply Node.when_kept
                  | with_reducible apply Node.wr_kept | intro _)

theorem execRephaseGapEnd_kept (startNs gapNs : Nat) (bus : BusView) (s : State) (hs : s.node.Kept rs vk) (s' : State)
    (ht : execRephaseGapEnd startNs gapNs bus s = .next s') :
    s'.node.Kept rs vk := by
  unfold execRephaseGapEnd at ht
  refine State.upd_kept hs ?_ ht
  repeat' (first | with_reducible assumption | with_reducible rfl | with_reducible apply Node.when_kept
                  | with_reducible apply Node.wr_kept | with_reducible apply Node.count_kept | with_reducible apply Node.raise_kept
                  | with_reducible apply Node.rebase_kept | with_reducible apply Node.cycleStart_kept | with_reducible apply Node.backToRun_kept
                  | with_reducible apply Node.seeBuses_kept | intro _ | dsimp -proj only | exact @rfl (List Record) _
                  | exact @rfl (SMap (Option (BitVec 256))) _ | split | with_reducible apply mk_kept)

theorem execGridOriginStart_kept (startNs waitNs : Nat) (bus : BusView) (s : State) (hs : s.node.Kept rs vk) (s' : State)
    (ht : execGridOriginStart startNs waitNs bus s = .next s') :
    s'.node.Kept rs vk := by
  unfold execGridOriginStart at ht
  refine State.upd_kept hs ?_ ht
  repeat' (first | with_reducible assumption | with_reducible rfl | with_reducible apply Node.when_kept
                  | with_reducible apply Node.raise_kept | with_reducible apply Node.newCycle_kept | with_reducible apply Node.rebase_kept
                  | with_reducible apply Node.cycleStart_kept | with_reducible apply Node.backToRun_kept | with_reducible apply Node.seeBuses_kept
                  | intro _ | dsimp -proj only | exact @rfl (List Record) _ | exact @rfl (SMap (Option (BitVec 256))) _ | split
                  | with_reducible apply mk_kept)

theorem execScheduleBankCopyDone_kept (s : State) (hs : s.node.Kept rs vk) (s' : State) (ht : execScheduleBankCopyDone s = .next s') :
    s'.node.Kept rs vk := by
  unfold execScheduleBankCopyDone at ht
  refine State.upd_kept hs ?_ ht
  repeat' (first | with_reducible assumption | with_reducible rfl | with_reducible apply Node.wrBit_kept | intro _)

theorem Node.scheduleFinding_kept (n : Node) (f : ScrubFinding) (h0 : n.Kept rs vk) :
    (Node.scheduleFinding n f).Kept rs vk := by
  unfold Node.scheduleFinding
  repeat' (first | with_reducible assumption | with_reducible rfl | with_reducible apply Node.when_kept
                  | with_reducible apply Node.count_kept | with_reducible apply Node.raise_kept | with_reducible apply Node.holdEntries_kept
                  | intro _ | dsimp -proj only | exact @rfl (List Record) _ | exact @rfl (SMap (Option (BitVec 256))) _ | split
                  | with_reducible apply mk_kept)

theorem execScheduleScrubPass_kept (findings : List ScrubFinding) (s : State) (hs : s.node.Kept rs vk) (s' : State)
    (ht : execScheduleScrubPass findings s = .next s') :
    s'.node.Kept rs vk := by
  unfold execScheduleScrubPass at ht
  refine State.upd_kept hs ?_ ht
  repeat' (first | with_reducible assumption | with_reducible rfl | with_reducible apply Node.when_kept
                  | with_reducible apply Node.each_kept | with_reducible apply Node.scheduleFinding_kept | intro _)

theorem execActionComplete_kept (entry lateNs : Nat) (s : State) (hs : s.node.Kept rs vk) (s' : State)
    (ht : execActionComplete entry lateNs s = .next s') :
    s'.node.Kept rs vk := by
  unfold execActionComplete at ht
  refine State.upd_kept hs ?_ ht
  repeat' (first | with_reducible assumption | with_reducible rfl | with_reducible apply Node.actionDone_kept | intro _)

theorem execOutUpdate_kept (entry : Nat) (samples : List (Fin 24 × ChannelSample)) (vloadA vloadB : Half) (s : State) (hs : s.node.Kept rs vk)
    (s' : State) (ht : execOutUpdate entry samples vloadA vloadB s = .next s') :
    s'.node.Kept rs vk := by
  unfold execOutUpdate at ht
  refine State.upd_kept hs ?_ ht
  repeat' (first | with_reducible assumption | with_reducible rfl | with_reducible apply Node.when_kept
                  | with_reducible apply Node.xabort_kept | with_reducible apply Node.outUpdate_kept | intro _ | dsimp -proj only
                  | exact @rfl (List Record) _ | exact @rfl (SMap (Option (BitVec 256))) _ | split | with_reducible apply mk_kept)

theorem execHostIrq_kept (entry : Nat) (s : State) (hs : s.node.Kept rs vk) (s' : State) (ht : execHostIrq entry s = .next s') :
    s'.node.Kept rs vk := by
  unfold execHostIrq at ht
  refine State.upd_kept hs ?_ ht
  repeat' (first | with_reducible assumption | with_reducible rfl | with_reducible apply Node.when_kept
                  | with_reducible apply Node.wr_kept | with_reducible apply Node.fire_kept | intro _ | dsimp -proj only
                  | exact @rfl (List Record) _ | exact @rfl (SMap (Option (BitVec 256))) _ | split | with_reducible apply mk_kept)

theorem Node.testResult_kept (n : Node) (id outcome detail : Nat) (h0 : n.Kept rs vk) :
    (Node.testResult n id outcome detail).Kept rs vk := by
  unfold Node.testResult
  repeat' (first | with_reducible assumption | with_reducible rfl | with_reducible apply Node.when_kept
                  | with_reducible apply Node.putWord_kept | with_reducible apply Node.count_kept | with_reducible apply Node.raise_kept
                  | intro _)

theorem Node.finishTest_kept (n : Node) (id : Nat) (measured : List Nat) (h0 : n.Kept rs vk) :
    (Node.finishTest n id measured).Kept rs vk := by
  unfold Node.finishTest
  repeat' (first | with_reducible assumption | with_reducible rfl | with_reducible apply Node.addEnergy_kept
                  | with_reducible apply Node.testResult_kept | intro _ | dsimp -proj only | exact @rfl (List Record) _
                  | exact @rfl (SMap (Option (BitVec 256))) _ | split)

theorem execTestSlot_kept (entry : Nat) (measured : List Nat) (finished : Bool) (s : State) (hs : s.node.Kept rs vk) (s' : State)
    (ht : execTestSlot entry measured finished s = .next s') :
    s'.node.Kept rs vk := by
  unfold execTestSlot at ht
  refine State.upd_kept hs ?_ ht
  repeat' (first | with_reducible assumption | with_reducible rfl | with_reducible apply Node.when_kept
                  | with_reducible apply Node.testResult_kept | with_reducible apply Node.finishTest_kept | intro _ | dsimp -proj only
                  | exact @rfl (List Record) _ | exact @rfl (SMap (Option (BitVec 256))) _ | split | with_reducible apply mk_kept)

theorem execTestSuspended_kept (id : Byte) (s : State) (hs : s.node.Kept rs vk) (s' : State) (ht : execTestSuspended id s = .next s') :
    s'.node.Kept rs vk := by
  unfold execTestSuspended at ht
  refine State.upd_kept hs ?_ ht
  repeat' (first | with_reducible assumption | with_reducible rfl | with_reducible apply Node.when_kept
                  | with_reducible apply Node.testResult_kept | intro _)

theorem Node.unitCfg_kept (n : Node) (h0 : n.Kept rs vk) :
    (Node.unitCfg n).Kept rs vk := by
  unfold Node.unitCfg
  repeat' (first | with_reducible assumption | with_reducible rfl | with_reducible apply Node.wrBit_kept)

theorem Store.cold_wf (m : Store) (h : m.wf = true) : m.cold.wf = true := by
  simp only [Store.wf, Bool.and_eq_true, Store.cold] at h ⊢
  exact ⟨⟨⟨SMap.wf_only h.1.1.1, rfl⟩, rfl⟩, SMap.wf_only h.2⟩

theorem Node.cold_kept (n : Node) (h : n.Kept rs vk) : n.cold.Kept rs vk := by
  unfold Node.cold
  exact Node.unitCfg_kept _ (Node.putWord_kept _ _ _ (Node.setIslands_kept _ _ ⟨Store.cold_wf _ h.1, h.2⟩))

theorem Node.releaseIslands_kept (n : Node) (h0 : n.Kept rs vk) :
    (Node.releaseIslands n).Kept rs vk := by
  unfold Node.releaseIslands
  repeat' (first | with_reducible assumption | with_reducible rfl | with_reducible apply Node.setIslands_kept)

theorem Node.releaseBridge_kept (n : Node) (h0 : n.Kept rs vk) :
    (Node.releaseBridge n).Kept rs vk := by
  unfold Node.releaseBridge
  repeat' (first | with_reducible assumption | with_reducible rfl | with_reducible apply Node.wrBit_kept
                  | with_reducible apply Node.setIslands_kept | intro _ | dsimp -proj only | exact @rfl (List Record) _
                  | exact @rfl (SMap (Option (BitVec 256))) _ | split | with_reducible apply mk_kept)

theorem Node.warmWords_kept (old n : Node) (_h0 : old.Kept rs vk) (h1 : n.Kept rs vk) :
    (Node.warmWords old n).Kept rs vk := by
  unfold Node.warmWords
  repeat' (first | with_reducible assumption | with_reducible rfl | with_reducible apply Node.each_kept
                  | with_reducible apply Node.putWord_kept | with_reducible apply Node.wr_kept | with_reducible apply Node.wrBit_kept
                  | with_reducible apply Node.unitCfg_kept | intro _)

theorem Node.lostBoxes_kept (old n : Node) (_h0 : old.Kept rs vk) (h1 : n.Kept rs vk) :
    (Node.lostBoxes old n).Kept rs vk := by
  unfold Node.lostBoxes
  repeat' (first | with_reducible assumption | with_reducible rfl | with_reducible apply Node.when_kept
                  | with_reducible apply Node.each_kept | with_reducible apply Node.wrBit_kept | intro _)

theorem Store.warm_wf (m : Store) (h : m.wf = true) : m.warm.wf = true := by
  simp only [Store.wf, Bool.and_eq_true, Store.warm] at h ⊢
  exact ⟨⟨⟨SMap.wf_only h.1.1.1, SMap.wf_only h.1.2⟩, SMap.wf_only h.1.2⟩, SMap.wf_only h.2⟩

theorem Node.restartWarm_kept (n : Node) (cause : Nat) (h : n.Kept rs vk) : (n.restartWarm cause).Kept rs vk := by
  unfold Node.restartWarm
  have hw := Store.warm_wf _ h.1
  repeat' (first | with_reducible assumption | with_reducible apply Node.updateBypass_kept
                  | with_reducible apply Node.startMeasures_kept | with_reducible apply Node.wrBit_kept | with_reducible apply Node.wr_kept
                  | with_reducible apply Node.startDomain_kept | with_reducible apply Node.lostBoxes_kept
                  | with_reducible apply Node.setIslands_kept | with_reducible apply Node.warmWords_kept
                  | with_reducible apply Node.standPhase_kept | exact ⟨hw, h.2⟩)

theorem Node.restartDropsUpdate_kept (old n : Node) (_h0 : old.Kept rs vk) (h1 : n.Kept rs vk) :
    (Node.restartDropsUpdate old n).Kept rs vk := by
  unfold Node.restartDropsUpdate
  repeat' (first | with_reducible assumption | with_reducible rfl | with_reducible apply Node.count_kept
                  | with_reducible apply Node.raise_kept | with_reducible apply Node.setSlot_kept | intro _ | dsimp -proj only
                  | exact @rfl (List Record) _ | exact @rfl (SMap (Option (BitVec 256))) _ | split)

theorem Node.failTrial_kept (n : Node) (cause : Nat) (h0 : n.Kept rs vk) :
    (Node.failTrial n cause).Kept rs vk := by
  unfold Node.failTrial
  repeat' (first | with_reducible assumption | with_reducible rfl | with_reducible apply Node.wr_kept
                  | with_reducible apply Node.count_kept | with_reducible apply Node.raise_kept | with_reducible apply Node.setSlot_kept | intro _
                  | dsimp -proj only | exact @rfl (List Record) _ | exact @rfl (SMap (Option (BitVec 256))) _ | split
                  | with_reducible apply mk_kept)

theorem Node.flushReady_kept (n : Node) (h0 : n.Kept rs vk) :
    (Node.flushReady n).Kept rs vk := by
  unfold Node.flushReady
  repeat' (first | with_reducible assumption | with_reducible rfl | with_reducible apply Node.when_kept
                  | with_reducible apply Node.flushBook_kept)

theorem Node.warmReset_kept (n : Node) (cause : Nat) (h0 : n.Kept rs vk) :
    (Node.warmReset n cause).Kept rs vk := by
  unfold Node.warmReset
  repeat' (first | with_reducible assumption | with_reducible rfl | with_reducible apply Node.when_kept
                  | with_reducible apply Node.resign_kept | with_reducible apply Node.restartWarm_kept
                  | with_reducible apply Node.restartDropsUpdate_kept | with_reducible apply Node.failTrial_kept
                  | with_reducible apply Node.flushReady_kept | intro _)

theorem Node.fallBack_kept (n : Node) (cause : Nat) (h0 : n.Kept rs vk) :
    (Node.fallBack n cause).Kept rs vk := by
  unfold Node.fallBack
  repeat' (first | with_reducible assumption | with_reducible rfl | with_reducible apply Node.when_kept
                  | with_reducible apply Node.resign_kept | with_reducible apply Node.restartWarm_kept
                  | with_reducible apply Node.restartDropsUpdate_kept | with_reducible apply Node.failTrial_kept
                  | with_reducible apply Node.flushReady_kept | intro _ | dsimp -proj only | exact @rfl (List Record) _
                  | exact @rfl (SMap (Option (BitVec 256))) _ | split | with_reducible apply mk_kept)

theorem execRstCmdWarm_kept (by_ : Initiator) (key : Half) (s : State) (hs : s.node.Kept rs vk) (s' : State)
    (ht : execRstCmdWarm by_ key s = .next s') :
    s'.node.Kept rs vk := by
  unfold execRstCmdWarm at ht
  refine State.upd_kept hs ?_ ht
  repeat' (first | with_reducible assumption | with_reducible rfl | with_reducible apply Node.when_kept
                  | with_reducible apply Node.access_kept | with_reducible apply Node.warmReset_kept | intro _)

theorem execVintnerWatchdogExpiry_kept (s : State) (hs : s.node.Kept rs vk) (s' : State) (ht : execVintnerWatchdogExpiry s = .next s') :
    s'.node.Kept rs vk := by
  unfold execVintnerWatchdogExpiry at ht
  refine State.upd_kept hs ?_ ht
  repeat' (first | with_reducible assumption | with_reducible rfl | with_reducible apply Node.warmReset_kept | intro _)

theorem execLockstepMismatch_kept (s : State) (hs : s.node.Kept rs vk) (s' : State) (ht : execLockstepMismatch s = .next s') :
    s'.node.Kept rs vk := by
  unfold execLockstepMismatch at ht
  refine State.upd_kept hs ?_ ht
  repeat' (first | with_reducible assumption | with_reducible rfl | with_reducible apply Node.warmReset_kept | intro _)

theorem execVintnerSramError_kept (correctable : Bool) (s : State) (hs : s.node.Kept rs vk) (s' : State)
    (ht : execVintnerSramError correctable s = .next s') :
    s'.node.Kept rs vk := by
  unfold execVintnerSramError at ht
  refine State.upd_kept hs ?_ ht
  repeat' (first | with_reducible assumption | with_reducible rfl | with_reducible apply Node.when_kept
                  | with_reducible apply Node.count_kept | intro _ | dsimp -proj only | exact @rfl (List Record) _
                  | exact @rfl (SMap (Option (BitVec 256))) _ | split | with_reducible apply mk_kept)

theorem Node.beginLoad_kept (n : Node) (slot : Nat) (h0 : n.Kept rs vk) :
    (Node.beginLoad n slot).Kept rs vk := by
  unfold Node.beginLoad
  repeat' (first | with_reducible assumption | with_reducible rfl | with_reducible apply Node.clearShadows_kept
                  | with_reducible apply Node.wr_kept | with_reducible apply Node.setSpec_kept | intro _ | dsimp -proj only
                  | exact @rfl (List Record) _ | exact @rfl (SMap (Option (BitVec 256))) _ | split | with_reducible apply mk_kept)

theorem Node.firstLoad_kept (n : Node) (h0 : n.Kept rs vk) :
    (Node.firstLoad n).Kept rs vk := by
  unfold Node.firstLoad
  repeat' (first | with_reducible assumption | with_reducible rfl | with_reducible apply Node.releaseIslands_kept
                  | with_reducible apply Node.beginLoad_kept)

theorem Node.dropLoad_kept (n : Node) (h0 : n.Kept rs vk) :
    (Node.dropLoad n).Kept rs vk := by
  unfold Node.dropLoad
  repeat' (first | with_reducible assumption | with_reducible rfl | with_reducible apply Node.each_kept
                  | with_reducible apply Node.reloadShadows_kept | with_reducible apply Node.setSpec_kept | with_reducible apply Node.phyLost_kept
                  | intro _ | dsimp -proj only | exact @rfl (List Record) _ | exact @rfl (SMap (Option (BitVec 256))) _ | split
                  | with_reducible apply mk_kept)

theorem Node.countStart_kept (n : Node) (r : StartRecord) (h0 : n.Kept rs vk) :
    (Node.countStart n r).Kept rs vk := by
  unfold Node.countStart
  repeat' (first | with_reducible assumption | with_reducible rfl | with_reducible apply Node.count_kept
                  | with_reducible apply Node.raise_kept | intro _ | dsimp -proj only | exact @rfl (List Record) _
                  | exact @rfl (SMap (Option (BitVec 256))) _ | split)

theorem Node.countStarts_kept (n : Node) (h0 : n.Kept rs vk) :
    (Node.countStarts n).Kept rs vk := by
  unfold Node.countStarts
  repeat' (first | with_reducible assumption | with_reducible rfl | with_reducible apply Node.each_kept
                  | with_reducible apply Node.countStart_kept | intro _ | dsimp -proj only | exact @rfl (List Record) _
                  | exact @rfl (SMap (Option (BitVec 256))) _ | split | with_reducible apply mk_kept)

theorem Node.enterRecovery_kept (n : Node) (h0 : n.Kept rs vk) :
    (Node.enterRecovery n).Kept rs vk := by
  unfold Node.enterRecovery
  repeat' (first | with_reducible assumption | with_reducible rfl | with_reducible apply Node.wr_kept
                  | with_reducible apply Node.addFault_kept | with_reducible apply Node.raise_kept | with_reducible apply Node.channelsCut_kept
                  | with_reducible apply Node.updateBypass_kept | with_reducible apply Node.countStarts_kept | intro _ | dsimp -proj only
                  | exact @rfl (List Record) _ | exact @rfl (SMap (Option (BitVec 256))) _ | split | with_reducible apply mk_kept)

theorem Node.loadFails_kept (n : Node) (reason : Nat) (h0 : n.Kept rs vk) :
    (Node.loadFails n reason).Kept rs vk := by
  unfold Node.loadFails
  repeat' (first | with_reducible assumption | with_reducible rfl | with_reducible apply Node.wrBit_kept
                  | with_reducible apply Node.count_kept | with_reducible apply Node.raise_kept | with_reducible apply Node.setSlot_kept
                  | with_reducible apply Node.lastErr_kept | with_reducible apply Node.slotRefused_kept | with_reducible apply Node.fallBack_kept
                  | with_reducible apply Node.beginLoad_kept | with_reducible apply Node.dropLoad_kept
                  | with_reducible apply Node.enterRecovery_kept | intro _ | dsimp -proj only | exact @rfl (List Record) _
                  | exact @rfl (SMap (Option (BitVec 256))) _ | split | with_reducible apply mk_kept)

theorem Node.takeStore_kept (n : Node) (aOk bOk : Bool) (h0 : n.Kept rs vk) :
    (Node.takeStore n aOk bOk).Kept rs vk := by
  unfold Node.takeStore
  repeat' (first | with_reducible assumption | with_reducible rfl | with_reducible apply Node.addFault_kept
                  | with_reducible apply Node.raise_kept | with_reducible apply Node.unitCfg_kept | intro _ | dsimp -proj only
                  | exact @rfl (List Record) _ | exact @rfl (SMap (Option (BitVec 256))) _ | split | with_reducible apply mk_kept)

theorem Node.releaseFabric_kept (n : Node) (h0 : n.Kept rs vk) :
    (Node.releaseFabric n).Kept rs vk := by
  unfold Node.releaseFabric
  repeat' (first | with_reducible assumption | with_reducible rfl | with_reducible apply Node.setIslands_kept)

theorem Node.startFirmware_kept (n : Node) (copy svn : Nat) (digest : BitVec 256) (aOk bOk : Bool) (h0 : n.Kept rs vk) :
    (Node.startFirmware n copy svn digest aOk bOk).Kept rs vk := by
  unfold Node.startFirmware
  repeat' (first | with_reducible assumption | with_reducible rfl | with_reducible apply Node.when_kept
                  | with_reducible apply Node.wr_kept | with_reducible apply Node.extendMeas_kept | with_reducible apply Node.takeStore_kept
                  | with_reducible apply Node.releaseFabric_kept | intro _ | dsimp -proj only | exact @rfl (List Record) _
                  | exact @rfl (SMap (Option (BitVec 256))) _ | split | with_reducible apply mk_kept)

theorem execFirmwareVerified_kept (copy : Fin 2) (edOk mldsaOk : Bool) (svn : Word) (digest : BitVec 256) (storeAOk storeBOk : Bool) (s : State)
    (hs : s.node.Kept rs vk) (s' : State) (ht : execFirmwareVerified copy edOk mldsaOk svn digest storeAOk storeBOk s = .next s') :
    s'.node.Kept rs vk := by
  unfold execFirmwareVerified at ht
  refine State.upd_kept hs ?_ ht
  repeat' (first | with_reducible assumption | with_reducible rfl | with_reducible apply Node.when_kept
                  | with_reducible apply Node.wr_kept | with_reducible apply Node.firstLoad_kept | with_reducible apply Node.startFirmware_kept
                  | intro _ | dsimp -proj only | exact @rfl (List Record) _ | exact @rfl (SMap (Option (BitVec 256))) _ | split
                  | with_reducible apply mk_kept)

theorem execMemoryTestDone_kept (failed : List (Fin 16 × Nat)) (s : State) (hs : s.node.Kept rs vk) (s' : State)
    (ht : execMemoryTestDone failed s = .next s') :
    s'.node.Kept rs vk := by
  unfold execMemoryTestDone at ht
  refine State.upd_kept hs ?_ ht
  repeat' (first | with_reducible assumption | with_reducible rfl | with_reducible apply Node.when_kept
                  | with_reducible apply Node.each_kept | with_reducible apply Node.addFault_kept | with_reducible apply Node.raise_kept
                  | with_reducible apply Node.firstLoad_kept | intro _ | dsimp -proj only | exact @rfl (List Record) _
                  | exact @rfl (SMap (Option (BitVec 256))) _ | split | with_reducible apply mk_kept)

theorem Node.takeSection_kept (n : Node) (sec : VintageSection) (h0 : n.Kept rs vk) :
    (Node.takeSection n sec).Kept rs vk := by
  unfold Node.takeSection
  repeat' (first | with_reducible assumption | with_reducible rfl | with_reducible apply Node.putShadows_kept
                  | with_reducible apply Node.setSpec_kept | intro _ | dsimp -proj only | exact @rfl (List Record) _
                  | exact @rfl (SMap (Option (BitVec 256))) _ | split | with_reducible apply mk_kept)

theorem execVintageSectionArrived_kept (sec : VintageSection) (digestOk : Bool) (s : State) (hs : s.node.Kept rs vk) (s' : State)
    (ht : execVintageSectionArrived sec digestOk s = .next s') :
    s'.node.Kept rs vk := by
  unfold execVintageSectionArrived at ht
  refine State.upd_kept hs ?_ ht
  repeat' (first | with_reducible assumption | with_reducible rfl | with_reducible apply Node.when_kept
                  | with_reducible apply Node.loadFails_kept | with_reducible apply Node.takeSection_kept | intro _ | dsimp -proj only
                  | exact @rfl (List Record) _ | exact @rfl (SMap (Option (BitVec 256))) _ | split)

theorem execVintageSignaturesDone_kept (why : Option VintageFault) (header : VintageHeader) (s : State) (hs : s.node.Kept rs vk) (s' : State)
    (ht : execVintageSignaturesDone why header s = .next s') :
    s'.node.Kept rs vk := by
  unfold execVintageSignaturesDone at ht
  refine State.upd_kept hs ?_ ht
  repeat' (first | with_reducible assumption | with_reducible rfl | with_reducible apply Node.when_kept
                  | with_reducible apply Node.extendMeas_kept | with_reducible apply Node.setSlotHeader_kept
                  | with_reducible apply Node.loadFails_kept | intro _ | dsimp -proj only | exact @rfl (List Record) _
                  | exact @rfl (SMap (Option (BitVec 256))) _ | split | with_reducible apply mk_kept)

theorem Node.loadSection_kept (n : Node) (sec : VintageSection) (h0 : n.Kept rs vk) :
    (Node.loadSection n sec).Kept rs vk := by
  unfold Node.loadSection
  repeat' (first | with_reducible assumption | with_reducible rfl | with_reducible apply Node.each_kept
                  | with_reducible apply Node.loadWord_kept | intro _ | dsimp -proj only | exact @rfl (List Record) _
                  | exact @rfl (SMap (Option (BitVec 256))) _ | split | with_reducible apply mk_kept)

theorem Node.startTopology_kept (n : Node) (h0 : n.Kept rs vk) :
    (Node.startTopology n).Kept rs vk := by
  unfold Node.startTopology
  repeat' (first | with_reducible assumption | with_reducible rfl | with_reducible apply Node.putShadows_kept
                  | with_reducible apply Node.putForces_kept | with_reducible apply Node.resetConfig_kept | with_reducible apply Node.wr_kept
                  | with_reducible apply Node.wrBit_kept | with_reducible apply Node.writeDirectory_kept | intro _ | dsimp -proj only
                  | exact @rfl (List Record) _ | exact @rfl (SMap (Option (BitVec 256))) _ | split | with_reducible apply mk_kept)

theorem Node.reachSlot_kept (n : Node) (h0 : n.Kept rs vk) :
    (Node.reachSlot n).Kept rs vk := by
  unfold Node.reachSlot
  repeat' (first | with_reducible assumption | with_reducible rfl | with_reducible apply Node.wr_kept
                  | with_reducible apply Node.setSlot_kept | intro _ | dsimp -proj only | exact @rfl (List Record) _
                  | exact @rfl (SMap (Option (BitVec 256))) _ | split | with_reducible apply mk_kept)

theorem Node.applyLoad_kept (n : Node) (h0 : n.Kept rs vk) :
    (Node.applyLoad n).Kept rs vk := by
  unfold Node.applyLoad
  repeat' (first | with_reducible assumption | with_reducible rfl | with_reducible apply Node.each_kept
                  | with_reducible apply Node.forceShadows_kept | with_reducible apply Node.copying_kept
                  | with_reducible apply Node.groupTaken_kept | with_reducible apply Node.loadSection_kept | intro _ | dsimp -proj only
                  | exact @rfl (List Record) _ | exact @rfl (SMap (Option (BitVec 256))) _ | split | with_reducible apply mk_kept)

theorem Node.startBlocks_kept (n : Node) (h0 : n.Kept rs vk) :
    (Node.startBlocks n).Kept rs vk := by
  unfold Node.startBlocks
  repeat' (first | with_reducible assumption | with_reducible rfl | with_reducible apply Node.loadStatic_kept
                  | with_reducible apply Node.followModes_kept | with_reducible apply Node.chooseSource_kept
                  | with_reducible apply Node.startDomain_kept | with_reducible apply Node.clockApplied_kept
                  | with_reducible apply Node.reactivate_kept | with_reducible apply Node.showAllDirections_kept
                  | with_reducible apply Node.loadWaiting_kept | with_reducible apply Node.initSignals_kept
                  | with_reducible apply Node.startTopology_kept)

theorem Node.startTrellis_kept (n : Node) (h0 : n.Kept rs vk) :
    (Node.startTrellis n).Kept rs vk := by
  unfold Node.startTrellis
  repeat' (first | with_reducible assumption | with_reducible rfl | with_reducible apply Node.when_kept
                  | with_reducible apply Node.wr_kept | with_reducible apply Node.wrBit_kept | with_reducible apply Node.raise_kept
                  | with_reducible apply Node.newCycle_kept | intro _)

theorem Node.commitVintage_kept (n : Node) (h0 : n.Kept rs vk) :
    (Node.commitVintage n).Kept rs vk := by
  unfold Node.commitVintage
  repeat' (first | with_reducible assumption | with_reducible rfl | with_reducible apply Node.when_kept
                  | with_reducible apply Node.each_kept | with_reducible apply Node.wr_kept | with_reducible apply Node.wrBit_kept
                  | with_reducible apply Node.raise_kept | with_reducible apply Node.setSpec_kept | with_reducible apply Node.outputsApplied_kept
                  | with_reducible apply Node.startInaug_kept | with_reducible apply Node.phyLost_kept
                  | with_reducible apply Node.updateBypass_kept | with_reducible apply Node.startRole_kept
                  | with_reducible apply Node.checkCompat_kept | with_reducible apply Node.reachSlot_kept
                  | with_reducible apply Node.applyLoad_kept | with_reducible apply Node.startBlocks_kept
                  | with_reducible apply Node.startTrellis_kept | intro _ | dsimp -proj only | exact @rfl (List Record) _
                  | exact @rfl (SMap (Option (BitVec 256))) _ | split | with_reducible apply mk_kept)

theorem execStartUpCommit_kept (s : State) (hs : s.node.Kept rs vk) (s' : State) (ht : execStartUpCommit s = .next s') :
    s'.node.Kept rs vk := by
  unfold execStartUpCommit at ht
  refine State.upd_kept hs ?_ ht
  repeat' (first | with_reducible assumption | with_reducible rfl | with_reducible apply Node.when_kept
                  | with_reducible apply Node.commitVintage_kept | intro _)

theorem execWarmResetCommit_kept (s : State) (hs : s.node.Kept rs vk) (s' : State) (ht : execWarmResetCommit s = .next s') :
    s'.node.Kept rs vk := by
  unfold execWarmResetCommit at ht
  refine State.upd_kept hs ?_ ht
  repeat' (first | with_reducible assumption | with_reducible rfl | with_reducible apply Node.when_kept
                  | with_reducible apply Node.countStarts_kept | with_reducible apply Node.commitVintage_kept | intro _ | dsimp -proj only
                  | exact @rfl (List Record) _ | exact @rfl (SMap (Option (BitVec 256))) _ | split | with_reducible apply mk_kept)

theorem execWakeRunStart_kept (s : State) (hs : s.node.Kept rs vk) (s' : State) (ht : execWakeRunStart s = .next s') :
    s'.node.Kept rs vk := by
  unfold execWakeRunStart at ht
  refine State.upd_kept hs ?_ ht
  repeat' (first | with_reducible assumption | with_reducible rfl | with_reducible apply Node.when_kept
                  | with_reducible apply Node.countStarts_kept | with_reducible apply Node.commitVintage_kept | intro _ | dsimp -proj only
                  | exact @rfl (List Record) _ | exact @rfl (SMap (Option (BitVec 256))) _ | split | with_reducible apply mk_kept)

theorem Node.beginShutdown_kept (n : Node) (cause : ShutdownCause) (h0 : n.Kept rs vk) :
    (Node.beginShutdown n cause).Kept rs vk := by
  unfold Node.beginShutdown
  repeat' (first | with_reducible assumption | with_reducible rfl | with_reducible apply Node.when_kept
                  | with_reducible apply Node.wr_kept | with_reducible apply Node.count_kept | with_reducible apply Node.raise_kept
                  | with_reducible apply Node.dropSession_kept | with_reducible apply Node.channelsCut_kept
                  | with_reducible apply Node.updateBypass_kept | with_reducible apply Node.resign_kept
                  | with_reducible apply Node.stopTrellis_kept | with_reducible apply Node.flushReady_kept
                  | with_reducible apply Node.countStarts_kept | intro _ | dsimp -proj only | exact @rfl (List Record) _
                  | exact @rfl (SMap (Option (BitVec 256))) _ | split | with_reducible apply mk_kept)

theorem Node.freeHeat_kept (n : Node) (h0 : n.Kept rs vk) :
    (Node.freeHeat n).Kept rs vk := by
  unfold Node.freeHeat
  repeat' (first | with_reducible assumption | with_reducible rfl | intro _ | dsimp -proj only | exact @rfl (List Record) _
                  | exact @rfl (SMap (Option (BitVec 256))) _ | split | with_reducible apply mk_kept)

theorem execShutdownPowerDown_kept (s : State) (hs : s.node.Kept rs vk) (s' : State) (ht : execShutdownPowerDown s = .next s') :
    s'.node.Kept rs vk := by
  unfold execShutdownPowerDown at ht
  refine State.upd_kept hs ?_ ht
  repeat' (first | with_reducible assumption | with_reducible rfl | with_reducible apply Node.when_kept
                  | with_reducible apply Node.cold_kept | intro _)

theorem Node.seeBatt_kept (n : Node) (mv : Half) (h0 : n.Kept rs vk) :
    (Node.seeBatt n mv).Kept rs vk := by
  unfold Node.seeBatt
  repeat' (first | with_reducible assumption | with_reducible rfl | with_reducible apply Node.when_kept
                  | with_reducible apply Node.wr_kept | intro _)

theorem Node.seeHoldup_kept (n : Node) (mv : Half) (h0 : n.Kept rs vk) :
    (Node.seeHoldup n mv).Kept rs vk := by
  unfold Node.seeHoldup
  repeat' (first | with_reducible assumption | with_reducible rfl | with_reducible apply Node.when_kept
                  | with_reducible apply Node.wr_kept | intro _)

theorem Node.seeBase_kept (n : Node) (t : Half) (h0 : n.Kept rs vk) :
    (Node.seeBase n t).Kept rs vk := by
  unfold Node.seeBase
  repeat' (first | with_reducible assumption | with_reducible rfl | with_reducible apply Node.wr_kept)

theorem execVbattOvervoltage_kept (mv : Half) (s : State) (hs : s.node.Kept rs vk) (s' : State) (ht : execVbattOvervoltage mv s = .next s') :
    s'.node.Kept rs vk := by
  unfold execVbattOvervoltage at ht
  refine State.upd_kept hs ?_ ht
  repeat' (first | with_reducible assumption | with_reducible rfl | with_reducible apply Node.beginShutdown_kept
                  | with_reducible apply Node.seeBatt_kept | intro _)

theorem execOvervoltageTimeout_kept (mv : Half) (s : State) (hs : s.node.Kept rs vk) (s' : State) (ht : execOvervoltageTimeout mv s = .next s') :
    s'.node.Kept rs vk := by
  unfold execOvervoltageTimeout at ht
  refine State.upd_kept hs ?_ ht
  repeat' (first | with_reducible assumption | with_reducible rfl | with_reducible apply Node.beginShutdown_kept
                  | with_reducible apply Node.seeBatt_kept | intro _)

theorem Node.holdupCheck_kept (n : Node) (h0 : n.Kept rs vk) :
    (Node.holdupCheck n).Kept rs vk := by
  unfold Node.holdupCheck
  repeat' (first | with_reducible assumption | with_reducible rfl | with_reducible apply Node.when_kept
                  | with_reducible apply Node.count_kept | with_reducible apply Node.raise_kept | intro _)

theorem execDipStart_kept (mv : Half) (s : State) (hs : s.node.Kept rs vk) (s' : State) (ht : execDipStart mv s = .next s') :
    s'.node.Kept rs vk := by
  unfold execDipStart at ht
  refine State.upd_kept hs ?_ ht
  repeat' (first | with_reducible assumption | with_reducible rfl | with_reducible apply Node.when_kept
                  | with_reducible apply Node.raise_kept | with_reducible apply Node.seeBatt_kept | with_reducible apply Node.holdupCheck_kept
                  | intro _ | dsimp -proj only | exact @rfl (List Record) _ | exact @rfl (SMap (Option (BitVec 256))) _ | split
                  | with_reducible apply mk_kept)

theorem Node.endDip_kept (n : Node) (h0 : n.Kept rs vk) :
    (Node.endDip n).Kept rs vk := by
  unfold Node.endDip
  repeat' (first | with_reducible assumption | with_reducible rfl | intro _ | dsimp -proj only | exact @rfl (List Record) _
                  | exact @rfl (SMap (Option (BitVec 256))) _ | split | with_reducible apply mk_kept)

theorem execDipEnd_kept (ms lowestMv : Nat) (mv : Half) (s : State) (hs : s.node.Kept rs vk) (s' : State)
    (ht : execDipEnd ms lowestMv mv s = .next s') :
    s'.node.Kept rs vk := by
  unfold execDipEnd at ht
  refine State.upd_kept hs ?_ ht
  repeat' (first | with_reducible assumption | with_reducible rfl | with_reducible apply Node.when_kept
                  | with_reducible apply Node.count_kept | with_reducible apply Node.raise_kept | with_reducible apply Node.seeBatt_kept
                  | with_reducible apply Node.endDip_kept | intro _)

theorem execDipTimeout_kept (s : State) (hs : s.node.Kept rs vk) (s' : State) (ht : execDipTimeout s = .next s') :
    s'.node.Kept rs vk := by
  unfold execDipTimeout at ht
  refine State.upd_kept hs ?_ ht
  repeat' (first | with_reducible assumption | with_reducible rfl | with_reducible apply Node.when_kept
                  | with_reducible apply Node.beginShutdown_kept | with_reducible apply Node.endDip_kept | intro _)

theorem Node.interrupted_kept (n : Node) (b : Bool) (h0 : n.Kept rs vk) :
    (Node.interrupted n b).Kept rs vk := by
  unfold Node.interrupted
  repeat' (first | with_reducible assumption | with_reducible rfl | intro _ | dsimp -proj only | exact @rfl (List Record) _
                  | exact @rfl (SMap (Option (BitVec 256))) _ | split | with_reducible apply mk_kept)

theorem execInterruptionStart_kept (mv : Half) (s : State) (hs : s.node.Kept rs vk) (s' : State) (ht : execInterruptionStart mv s = .next s') :
    s'.node.Kept rs vk := by
  unfold execInterruptionStart at ht
  refine State.upd_kept hs ?_ ht
  repeat' (first | with_reducible assumption | with_reducible rfl | with_reducible apply Node.when_kept
                  | with_reducible apply Node.freeHeat_kept | with_reducible apply Node.seeBatt_kept | with_reducible apply Node.holdupCheck_kept
                  | with_reducible apply Node.interrupted_kept | intro _)

theorem execInterruptionRiddenThrough_kept (mv : Half) (s : State) (hs : s.node.Kept rs vk) (s' : State)
    (ht : execInterruptionRiddenThrough mv s = .next s') :
    s'.node.Kept rs vk := by
  unfold execInterruptionRiddenThrough at ht
  refine State.upd_kept hs ?_ ht
  repeat' (first | with_reducible assumption | with_reducible rfl | with_reducible apply Node.when_kept
                  | with_reducible apply Node.count_kept | with_reducible apply Node.raise_kept | with_reducible apply Node.seeBatt_kept
                  | with_reducible apply Node.interrupted_kept | intro _)

theorem execInterruptionWindowExpiry_kept (s : State) (hs : s.node.Kept rs vk) (s' : State) (ht : execInterruptionWindowExpiry s = .next s') :
    s'.node.Kept rs vk := by
  unfold execInterruptionWindowExpiry at ht
  refine State.upd_kept hs ?_ ht
  repeat' (first | with_reducible assumption | with_reducible rfl | with_reducible apply Node.when_kept
                  | with_reducible apply Node.beginShutdown_kept | with_reducible apply Node.interrupted_kept | intro _)

theorem execHoldupReady_kept (mv : Half) (s : State) (hs : s.node.Kept rs vk) (s' : State) (ht : execHoldupReady mv s = .next s') :
    s'.node.Kept rs vk := by
  unfold execHoldupReady at ht
  refine State.upd_kept hs ?_ ht
  repeat' (first | with_reducible assumption | with_reducible rfl | with_reducible apply Node.when_kept
                  | with_reducible apply Node.wrBit_kept | with_reducible apply Node.seeHoldup_kept | intro _)

theorem execHoldupNotReady_kept (mv : Half) (s : State) (hs : s.node.Kept rs vk) (s' : State) (ht : execHoldupNotReady mv s = .next s') :
    s'.node.Kept rs vk := by
  unfold execHoldupNotReady at ht
  refine State.upd_kept hs ?_ ht
  repeat' (first | with_reducible assumption | with_reducible rfl | with_reducible apply Node.when_kept
                  | with_reducible apply Node.wrBit_kept | with_reducible apply Node.seeHoldup_kept | intro _)

theorem execHoldupReserve_kept (mv : Half) (s : State) (hs : s.node.Kept rs vk) (s' : State) (ht : execHoldupReserve mv s = .next s') :
    s'.node.Kept rs vk := by
  unfold execHoldupReserve at ht
  refine State.upd_kept hs ?_ ht
  repeat' (first | with_reducible assumption | with_reducible rfl | with_reducible apply Node.when_kept
                  | with_reducible apply Node.beginShutdown_kept | with_reducible apply Node.seeHoldup_kept | intro _)

theorem Node.checkHeat_kept (n : Node) (h0 : n.Kept rs vk) :
    (Node.checkHeat n).Kept rs vk := by
  unfold Node.checkHeat
  repeat' (first | with_reducible assumption | with_reducible rfl | with_reducible apply Node.when_kept
                  | with_reducible apply Node.raise_kept | with_reducible apply Node.beginShutdown_kept | intro _)

theorem execBaseplate88c_kept (t : Half) (s : State) (hs : s.node.Kept rs vk) (s' : State) (ht : execBaseplate88c t s = .next s') :
    s'.node.Kept rs vk := by
  unfold execBaseplate88c at ht
  refine State.upd_kept hs ?_ ht
  repeat' (first | with_reducible assumption | with_reducible rfl | with_reducible apply Node.when_kept
                  | with_reducible apply Node.raise_kept | with_reducible apply Node.seeBase_kept | with_reducible apply Node.checkHeat_kept
                  | intro _)

theorem execBaseplate95c_kept (t : Half) (s : State) (hs : s.node.Kept rs vk) (s' : State) (ht : execBaseplate95c t s = .next s') :
    s'.node.Kept rs vk := by
  unfold execBaseplate95c at ht
  refine State.upd_kept hs ?_ ht
  repeat' (first | with_reducible assumption | with_reducible rfl | with_reducible apply Node.when_kept
                  | with_reducible apply Node.beginShutdown_kept | with_reducible apply Node.seeBase_kept
                  | with_reducible apply Node.checkHeat_kept | intro _)

theorem Node.seeDie_kept (n : Node) (sensor : Fin 8) (t : Half) (h0 : n.Kept rs vk) :
    (Node.seeDie n sensor t).Kept rs vk := by
  unfold Node.seeDie
  repeat' (first | with_reducible assumption | with_reducible rfl | with_reducible apply Node.when_kept
                  | with_reducible apply Node.wr_kept | with_reducible apply Node.dropFault_kept | intro _)

theorem execDieTempHigh_kept (sensor : Fin 8) (t : Half) (from115 : Bool) (s : State) (hs : s.node.Kept rs vk) (s' : State)
    (ht : execDieTempHigh sensor t from115 s = .next s') :
    s'.node.Kept rs vk := by
  unfold execDieTempHigh at ht
  refine State.upd_kept hs ?_ ht
  repeat' (first | with_reducible assumption | with_reducible rfl | with_reducible apply Node.when_kept
                  | with_reducible apply Node.addFault_kept | with_reducible apply Node.raise_kept | with_reducible apply Node.seeDie_kept
                  | intro _)

theorem execDieTempNormal_kept (sensor : Fin 8) (t : Half) (s : State) (hs : s.node.Kept rs vk) (s' : State)
    (ht : execDieTempNormal sensor t s = .next s') :
    s'.node.Kept rs vk := by
  unfold execDieTempNormal at ht
  refine State.upd_kept hs ?_ ht
  repeat' (first | with_reducible assumption | with_reducible rfl | with_reducible apply Node.when_kept
                  | with_reducible apply Node.wr_kept | with_reducible apply Node.dropFault_kept | intro _)

theorem execRailExcursion_kept (rail : Fin 12) (mv : Half) (high : Bool) (s : State) (hs : s.node.Kept rs vk) (s' : State)
    (ht : execRailExcursion rail mv high s = .next s') :
    s'.node.Kept rs vk := by
  unfold execRailExcursion at ht
  refine State.upd_kept hs ?_ ht
  repeat' (first | with_reducible assumption | with_reducible rfl | with_reducible apply Node.when_kept
                  | with_reducible apply Node.wr_kept | with_reducible apply Node.wrBit_kept | with_reducible apply Node.count_kept
                  | with_reducible apply Node.addFault_kept | with_reducible apply Node.raise_kept | intro _)

theorem execRailRecovered_kept (rail : Fin 12) (mv : Half) (s : State) (hs : s.node.Kept rs vk) (s' : State)
    (ht : execRailRecovered rail mv s = .next s') :
    s'.node.Kept rs vk := by
  unfold execRailRecovered at ht
  refine State.upd_kept hs ?_ ht
  repeat' (first | with_reducible assumption | with_reducible rfl | with_reducible apply Node.when_kept
                  | with_reducible apply Node.wr_kept | with_reducible apply Node.wrBit_kept | with_reducible apply Node.dropFault_kept | intro _)

theorem Node.trialLost_kept (n : Node) (h0 : n.Kept rs vk) :
    (Node.trialLost n).Kept rs vk := by
  unfold Node.trialLost
  repeat' (first | with_reducible assumption | with_reducible rfl | with_reducible apply Node.wr_kept
                  | with_reducible apply Node.count_kept | with_reducible apply Node.raise_kept | with_reducible apply Node.setSlot_kept | intro _
                  | dsimp -proj only | exact @rfl (List Record) _ | exact @rfl (SMap (Option (BitVec 256))) _ | split
                  | with_reducible apply mk_kept)

theorem Node.startIslands_kept (n : Node) (pcie : Bool) (h0 : n.Kept rs vk) :
    (Node.startIslands n pcie).Kept rs vk := by
  unfold Node.startIslands
  repeat' (first | with_reducible assumption | with_reducible rfl | with_reducible apply Node.setIslands_kept
                  | with_reducible apply Node.startMeasures_kept | with_reducible apply Node.updateBypass_kept
                  | with_reducible apply Node.timeRestart_kept | with_reducible apply Node.cold_kept | intro _ | dsimp -proj only
                  | exact @rfl (List Record) _ | exact @rfl (SMap (Option (BitVec 256))) _ | split | with_reducible apply mk_kept)

theorem execPowerGood_kept (hostSelHigh : Bool) (baseplate : Half) (s : State) (hs : s.node.Kept rs vk) (s' : State)
    (ht : execPowerGood hostSelHigh baseplate s = .next s') :
    s'.node.Kept rs vk := by
  unfold execPowerGood at ht
  refine State.upd_kept hs ?_ ht
  repeat' (first | with_reducible assumption | with_reducible rfl | with_reducible apply Node.when_kept
                  | with_reducible apply Node.raise_kept | with_reducible apply Node.seeBase_kept | with_reducible apply Node.checkHeat_kept
                  | with_reducible apply Node.trialLost_kept | with_reducible apply Node.startIslands_kept | intro _)

theorem execHostBridgeRelease_kept (s : State) (hs : s.node.Kept rs vk) (s' : State) (ht : execHostBridgeRelease s = .next s') :
    s'.node.Kept rs vk := by
  unfold execHostBridgeRelease at ht
  refine State.upd_kept hs ?_ ht
  repeat' (first | with_reducible assumption | with_reducible rfl | with_reducible apply Node.when_kept
                  | with_reducible apply Node.wr_kept | with_reducible apply Node.releaseBridge_kept | intro _)

theorem Node.writeCopy_kept (n : Node) (toA ok : Bool) (p : Persist) (h0 : n.Kept rs vk) :
    (Node.writeCopy n toA ok p).Kept rs vk := by
  unfold Node.writeCopy
  repeat' (first | with_reducible assumption | with_reducible rfl | with_reducible apply Node.when_kept
                  | with_reducible apply Node.raise_kept | intro _ | dsimp -proj only | exact @rfl (List Record) _
                  | exact @rfl (SMap (Option (BitVec 256))) _ | split | with_reducible apply mk_kept)

theorem Node.storeKept_kept (n : Node) (p : Persist) (h0 : n.Kept rs vk) :
    (Node.storeKept n p).Kept rs vk := by
  unfold Node.storeKept
  repeat' (first | with_reducible assumption | with_reducible rfl | with_reducible apply Node.each_kept
                  | with_reducible apply Node.wrBit_kept | with_reducible apply Node.setAsk_kept | with_reducible apply Node.odEnd_kept | intro _
                  | dsimp -proj only | exact @rfl (List Record) _ | exact @rfl (SMap (Option (BitVec 256))) _ | split
                  | with_reducible apply mk_kept)

theorem Node.storeLost_kept (n : Node) (h0 : n.Kept rs vk) :
    (Node.storeLost n).Kept rs vk := by
  unfold Node.storeLost
  repeat' (first | with_reducible assumption | with_reducible rfl | with_reducible apply Node.each_kept
                  | with_reducible apply Node.setAsk_kept | with_reducible apply Node.odEnd_kept | intro _ | dsimp -proj only
                  | exact @rfl (List Record) _ | exact @rfl (SMap (Option (BitVec 256))) _ | split | with_reducible apply mk_kept)

theorem execPersistentStoreWrite_kept (copyAOk copyBOk : Bool) (s : State) (hs : s.node.Kept rs vk) (s' : State)
    (ht : execPersistentStoreWrite copyAOk copyBOk s = .next s') :
    s'.node.Kept rs vk := by
  unfold execPersistentStoreWrite at ht
  refine State.upd_kept hs ?_ ht
  repeat' (first | with_reducible assumption | with_reducible rfl | with_reducible apply Node.when_kept
                  | with_reducible apply Node.writeCopy_kept | with_reducible apply Node.storeKept_kept | with_reducible apply Node.storeLost_kept
                  | intro _ | dsimp -proj only | exact @rfl (List Record) _ | exact @rfl (SMap (Option (BitVec 256))) _ | split)

theorem Node.dormAccept_kept (n : Node) (h0 : n.Kept rs vk) :
    (Node.dormAccept n).Kept rs vk := by
  unfold Node.dormAccept
  repeat' (first | with_reducible assumption | with_reducible rfl | with_reducible apply Node.wr_kept | intro _ | dsimp -proj only
                  | exact @rfl (List Record) _ | exact @rfl (SMap (Option (BitVec 256))) _ | split | with_reducible apply mk_kept)

theorem Node.dormRequest_kept (n : Node) (h0 : n.Kept rs vk) :
    (Node.dormRequest n).Kept rs vk := by
  unfold Node.dormRequest
  repeat' (first | with_reducible assumption | with_reducible rfl | with_reducible apply Node.when_kept
                  | with_reducible apply Node.wr_kept | with_reducible apply Node.count_kept | with_reducible apply Node.emit_kept
                  | with_reducible apply Node.raise_kept | with_reducible apply Node.dormAccept_kept | intro _ | dsimp -proj only
                  | exact @rfl (List Record) _ | exact @rfl (SMap (Option (BitVec 256))) _ | split)

theorem execDormCtrlEnter_kept (s : State) (hs : s.node.Kept rs vk) (s' : State) (ht : execDormCtrlEnter s = .next s') :
    s'.node.Kept rs vk := by
  unfold execDormCtrlEnter at ht
  refine State.upd_kept hs ?_ ht
  repeat' (first | with_reducible assumption | with_reducible rfl | with_reducible apply Node.when_kept
                  | with_reducible apply Node.dormRequest_kept | intro _)

theorem Node.dormGo_kept (n : Node) (k : Nat) (h0 : n.Kept rs vk) :
    (Node.dormGo n k).Kept rs vk := by
  unfold Node.dormGo
  repeat' (first | with_reducible assumption | with_reducible rfl | intro _ | dsimp -proj only | exact @rfl (List Record) _
                  | exact @rfl (SMap (Option (BitVec 256))) _ | split | with_reducible apply mk_kept)

theorem execDormancyEntryStart_kept (s : State) (hs : s.node.Kept rs vk) (s' : State) (ht : execDormancyEntryStart s = .next s') :
    s'.node.Kept rs vk := by
  unfold execDormancyEntryStart at ht
  refine State.upd_kept hs ?_ ht
  repeat' (first | with_reducible assumption | with_reducible rfl | with_reducible apply Node.when_kept
                  | with_reducible apply Node.channelsCut_kept | with_reducible apply Node.stopTrellis_kept
                  | with_reducible apply Node.dormGo_kept | intro _)

theorem execDormancyRecordFlush_kept (s : State) (hs : s.node.Kept rs vk) (s' : State) (ht : execDormancyRecordFlush s = .next s') :
    s'.node.Kept rs vk := by
  unfold execDormancyRecordFlush at ht
  refine State.upd_kept hs ?_ ht
  repeat' (first | with_reducible assumption | with_reducible rfl | with_reducible apply Node.when_kept
                  | with_reducible apply Node.raise_kept | with_reducible apply Node.dropSession_kept | with_reducible apply Node.flushReady_kept
                  | with_reducible apply Node.dormGo_kept | intro _)

theorem execDormancyBypassRelease_kept (s : State) (hs : s.node.Kept rs vk) (s' : State) (ht : execDormancyBypassRelease s = .next s') :
    s'.node.Kept rs vk := by
  unfold execDormancyBypassRelease at ht
  refine State.upd_kept hs ?_ ht
  repeat' (first | with_reducible assumption | with_reducible rfl | with_reducible apply Node.when_kept
                  | with_reducible apply Node.updateBypass_kept | with_reducible apply Node.dormGo_kept | intro _)

theorem execDormancyPointOfNoReturn_kept (s : State) (hs : s.node.Kept rs vk) (s' : State) (ht : execDormancyPointOfNoReturn s = .next s') :
    s'.node.Kept rs vk := by
  unfold execDormancyPointOfNoReturn at ht
  refine State.upd_kept hs ?_ ht
  repeat' (first | with_reducible assumption | with_reducible rfl | with_reducible apply Node.when_kept
                  | with_reducible apply Node.setHold_kept | with_reducible apply Node.dormGo_kept | intro _ | dsimp -proj only
                  | exact @rfl (List Record) _ | exact @rfl (SMap (Option (BitVec 256))) _ | split | with_reducible apply mk_kept)

theorem Node.startWake_kept (n : Node) (source : Nat) (h0 : n.Kept rs vk) :
    (Node.startWake n source).Kept rs vk := by
  unfold Node.startWake
  repeat' (first | with_reducible assumption | with_reducible rfl | with_reducible apply Node.each_kept
                  | with_reducible apply Node.putWord_kept | with_reducible apply Node.wr_kept | with_reducible apply Node.wrBit_kept
                  | with_reducible apply Node.startIslands_kept | intro _ | dsimp -proj only | exact @rfl (List Record) _
                  | exact @rfl (SMap (Option (BitVec 256))) _ | split | with_reducible apply mk_kept)

theorem Node.abortEntry_kept (n : Node) (h0 : n.Kept rs vk) :
    (Node.abortEntry n).Kept rs vk := by
  unfold Node.abortEntry
  repeat' (first | with_reducible assumption | with_reducible rfl | with_reducible apply Node.wr_kept
                  | with_reducible apply Node.raise_kept | intro _ | dsimp -proj only | exact @rfl (List Record) _
                  | exact @rfl (SMap (Option (BitVec 256))) _ | split | with_reducible apply mk_kept)

theorem Node.wakeInEntry_kept (n : Node) (source mv : Nat) (h0 : n.Kept rs vk) :
    (Node.wakeInEntry n source mv).Kept rs vk := by
  unfold Node.wakeInEntry
  repeat' (first | with_reducible assumption | with_reducible rfl | with_reducible apply Node.when_kept
                  | with_reducible apply Node.emit_kept | with_reducible apply Node.abortEntry_kept | intro _ | dsimp -proj only
                  | exact @rfl (List Record) _ | exact @rfl (SMap (Option (BitVec 256))) _ | split | with_reducible apply mk_kept)

theorem Node.wakeInDormancy_kept (n : Node) (source mv : Nat) (h0 : n.Kept rs vk) :
    (Node.wakeInDormancy n source mv).Kept rs vk := by
  unfold Node.wakeInDormancy
  repeat' (first | with_reducible assumption | with_reducible rfl | with_reducible apply Node.when_kept
                  | with_reducible apply Node.startWake_kept | intro _ | dsimp -proj only | exact @rfl (List Record) _
                  | exact @rfl (SMap (Option (BitVec 256))) _ | split | with_reducible apply mk_kept)

theorem execWakeInAssert_kept (vbattMv : Nat) (s : State) (hs : s.node.Kept rs vk) (s' : State) (ht : execWakeInAssert vbattMv s = .next s') :
    s'.node.Kept rs vk := by
  unfold execWakeInAssert at ht
  refine State.upd_kept hs ?_ ht
  repeat' (first | with_reducible assumption | with_reducible rfl | with_reducible apply Node.when_kept
                  | with_reducible apply Node.freeHeat_kept | with_reducible apply Node.wakeInEntry_kept
                  | with_reducible apply Node.wakeInDormancy_kept | intro _ | dsimp -proj only | exact @rfl (List Record) _
                  | exact @rfl (SMap (Option (BitVec 256))) _ | split)

theorem execWakePatternMatch_kept (port : Fin 4) (samples : List Bool) (vbattMv : Nat) (s : State) (hs : s.node.Kept rs vk) (s' : State)
    (ht : execWakePatternMatch port samples vbattMv s = .next s') :
    s'.node.Kept rs vk := by
  unfold execWakePatternMatch at ht
  refine State.upd_kept hs ?_ ht
  repeat' (first | with_reducible assumption | with_reducible rfl | with_reducible apply Node.when_kept
                  | with_reducible apply Node.wakeInEntry_kept | with_reducible apply Node.wakeInDormancy_kept | intro _ | dsimp -proj only
                  | exact @rfl (List Record) _ | exact @rfl (SMap (Option (BitVec 256))) _ | split)

theorem Node.wakeNow_kept (n : Node) (h0 : n.Kept rs vk) :
    (Node.wakeNow n).Kept rs vk := by
  unfold Node.wakeNow
  repeat' (first | with_reducible assumption | with_reducible rfl | with_reducible apply Node.when_kept
                  | with_reducible apply Node.startWake_kept | intro _ | dsimp -proj only | exact @rfl (List Record) _
                  | exact @rfl (SMap (Option (BitVec 256))) _ | split)

theorem execDormancyReached_kept (s : State) (hs : s.node.Kept rs vk) (s' : State) (ht : execDormancyReached s = .next s') :
    s'.node.Kept rs vk := by
  unfold execDormancyReached at ht
  refine State.upd_kept hs ?_ ht
  repeat' (first | with_reducible assumption | with_reducible rfl | with_reducible apply Node.when_kept
                  | with_reducible apply Node.cold_kept | with_reducible apply Node.wakeNow_kept | intro _ | dsimp -proj only
                  | exact @rfl (List Record) _ | exact @rfl (SMap (Option (BitVec 256))) _ | split | with_reducible apply mk_kept)

theorem execWakeSupplyGood_kept (s : State) (hs : s.node.Kept rs vk) (s' : State) (ht : execWakeSupplyGood s = .next s') :
    s'.node.Kept rs vk := by
  unfold execWakeSupplyGood at ht
  refine State.upd_kept hs ?_ ht
  repeat' (first | with_reducible assumption | with_reducible rfl | with_reducible apply Node.when_kept
                  | with_reducible apply Node.wakeNow_kept | intro _ | dsimp -proj only | exact @rfl (List Record) _
                  | exact @rfl (SMap (Option (BitVec 256))) _ | split | with_reducible apply mk_kept)

theorem execDormancyLost_kept (s : State) (hs : s.node.Kept rs vk) (s' : State) (ht : execDormancyLost s = .next s') :
    s'.node.Kept rs vk := by
  unfold execDormancyLost at ht
  refine State.upd_kept hs ?_ ht
  repeat' (first | with_reducible assumption | with_reducible rfl | with_reducible apply Node.when_kept
                  | with_reducible apply Node.cold_kept | intro _)

theorem execRackControlWord_kept (word : RackControl) (s : State) (hs : s.node.Kept rs vk) (s' : State) (ht : execRackControlWord word s = .next
    s') :
    s'.node.Kept rs vk := by
  unfold execRackControlWord at ht
  refine State.upd_kept hs ?_ ht
  repeat' (first | with_reducible assumption | with_reducible rfl | with_reducible apply Node.when_kept
                  | with_reducible apply Node.controlWord_kept | with_reducible apply Node.dormAccept_kept
                  | with_reducible apply Node.abortEntry_kept | intro _ | dsimp -proj only | exact @rfl (List Record) _
                  | exact @rfl (SMap (Option (BitVec 256))) _ | split)

theorem Node.trialFirmware_kept (n : Node) (k : Nat) (h0 : n.Kept rs vk) :
    (Node.trialFirmware n k).Kept rs vk := by
  unfold Node.trialFirmware
  repeat' (first | with_reducible assumption | with_reducible rfl | with_reducible apply Node.when_kept
                  | with_reducible apply Node.putBytes_kept | intro _ | dsimp -proj only | exact @rfl (List Record) _
                  | exact @rfl (SMap (Option (BitVec 256))) _ | split | with_reducible apply mk_kept)

theorem Node.activateSlot_kept (n : Node) (k : Nat) (h0 : n.Kept rs vk) :
    (Node.activateSlot n k).Kept rs vk := by
  unfold Node.activateSlot
  repeat' (first | with_reducible assumption | with_reducible rfl | with_reducible apply Node.when_kept
                  | with_reducible apply Node.raise_kept | with_reducible apply Node.setSlot_kept | with_reducible apply Node.lastErr_kept
                  | with_reducible apply Node.warmReset_kept | with_reducible apply Node.trialFirmware_kept | intro _ | dsimp -proj only
                  | exact @rfl (List Record) _ | exact @rfl (SMap (Option (BitVec 256))) _ | split)

theorem execUpdActivate_kept (path : Path) (key : Half) (slotB : Bool) (s : State) (hs : s.node.Kept rs vk) (s' : State)
    (ht : execUpdActivate path key slotB s = .next s') : s'.node.Kept rs vk := by
  unfold execUpdActivate at ht
  refine State.upd_kept hs (fun x hx => ?_) ht
  refine Node.when_kept _ _ _ hx fun y hy => ?_
  exact Node.when_kept _ _ _ (Node.updStep_kept _ _ _ _ hy fun z hz => hz) fun z hz => Node.activateSlot_kept _ _ hz

theorem Node.checkOld_kept (n : Node) (k : Nat) (h0 : n.Kept rs vk) :
    (Node.checkOld n k).Kept rs vk := by
  unfold Node.checkOld
  repeat' (first | with_reducible assumption | with_reducible rfl | with_reducible apply Node.when_kept
                  | with_reducible apply Node.setSlot_kept | with_reducible apply Node.lastErr_kept | intro _)

theorem Node.confirmTrial_kept (n : Node) (h0 : n.Kept rs vk) :
    (Node.confirmTrial n).Kept rs vk := by
  unfold Node.confirmTrial
  repeat' (first | with_reducible assumption | with_reducible rfl | with_reducible apply Node.when_kept
                  | with_reducible apply Node.each_kept | with_reducible apply Node.wr_kept | with_reducible apply Node.raise_kept
                  | with_reducible apply Node.raiseCounter_kept | with_reducible apply Node.setSlot_kept | with_reducible apply Node.checkOld_kept
                  | intro _ | dsimp -proj only | exact @rfl (List Record) _ | exact @rfl (SMap (Option (BitVec 256))) _ | split
                  | with_reducible apply mk_kept)

theorem execUpdConfirm_kept (path : Path) (key : Half) (_slotB : Bool) (s : State) (hs : s.node.Kept rs vk) (s' : State)
    (ht : execUpdConfirm path key _slotB s = .next s') :
    s'.node.Kept rs vk := by
  unfold execUpdConfirm at ht
  refine State.upd_kept hs ?_ ht
  repeat' (first | with_reducible assumption | with_reducible rfl | with_reducible apply Node.when_kept
                  | with_reducible apply Node.updStep_kept | with_reducible apply Node.confirmTrial_kept | intro _)

theorem execTrialTimerExpiry_kept (s : State) (hs : s.node.Kept rs vk) (s' : State) (ht : execTrialTimerExpiry s = .next s') :
    s'.node.Kept rs vk := by
  unfold execTrialTimerExpiry at ht
  refine State.upd_kept hs ?_ ht
  repeat' (first | with_reducible assumption | with_reducible rfl | with_reducible apply Node.when_kept
                  | with_reducible apply Node.fallBack_kept | intro _)

theorem Node.trialPress_kept (n : Node) (p : Nat) (h0 : n.Kept rs vk) :
    (Node.trialPress n p).Kept rs vk := by
  unfold Node.trialPress
  repeat' (first | with_reducible assumption | with_reducible rfl | with_reducible apply Node.when_kept
                  | with_reducible apply Node.fallBack_kept | intro _)

theorem execPressFault_kept (press : Fin 16) (cause : PressFaultCause) (lateNs : Nat) (s : State) (hs : s.node.Kept rs vk) (s' : State)
    (ht : execPressFault press cause lateNs s = .next s') :
    s'.node.Kept rs vk := by
  unfold execPressFault at ht
  refine State.upd_kept hs ?_ ht
  repeat' (first | with_reducible assumption | with_reducible rfl | with_reducible apply Node.when_kept
                  | with_reducible apply Node.count_kept | with_reducible apply Node.took_kept | with_reducible apply Node.loadWaiting_kept
                  | with_reducible apply Node.selfTestFails_kept | with_reducible apply Node.verifyFails_kept
                  | with_reducible apply Node.pressFault_kept | with_reducible apply Node.trialPress_kept | intro _ | dsimp -proj only
                  | exact @rfl (List Record) _ | exact @rfl (SMap (Option (BitVec 256))) _ | split)

theorem execPressCycleWatchdog_kept (press : Fin 16) (lateNs : Nat) (s : State) (hs : s.node.Kept rs vk) (s' : State)
    (ht : execPressCycleWatchdog press lateNs s = .next s') :
    s'.node.Kept rs vk := by
  unfold execPressCycleWatchdog at ht
  refine State.upd_kept hs ?_ ht
  repeat' (first | with_reducible assumption | with_reducible rfl | with_reducible apply Node.when_kept
                  | with_reducible apply Node.pressFault_kept | with_reducible apply Node.trialPress_kept | intro _)

theorem Node.mstopEnter_kept (n : Node) (h0 : n.Kept rs vk) :
    (Node.mstopEnter n).Kept rs vk := by
  unfold Node.mstopEnter
  repeat' (first | with_reducible assumption | with_reducible rfl | with_reducible apply Node.when_kept
                  | with_reducible apply Node.wr_kept | with_reducible apply Node.raise_kept | intro _ | dsimp -proj only
                  | exact @rfl (List Record) _ | exact @rfl (SMap (Option (BitVec 256))) _ | split | with_reducible apply mk_kept)

theorem execMstopCmdEnter_kept (by_ : Initiator) (key : Half) (s : State) (hs : s.node.Kept rs vk) (s' : State)
    (ht : execMstopCmdEnter by_ key s = .next s') :
    s'.node.Kept rs vk := by
  unfold execMstopCmdEnter at ht
  refine State.upd_kept hs ?_ ht
  repeat' (first | with_reducible assumption | with_reducible rfl | with_reducible apply Node.when_kept
                  | with_reducible apply Node.access_kept | with_reducible apply Node.mstopEnter_kept | intro _)

theorem Node.stopTopology_kept (n : Node) (h0 : n.Kept rs vk) :
    (Node.stopTopology n).Kept rs vk := by
  unfold Node.stopTopology
  repeat' (first | with_reducible assumption | with_reducible rfl | with_reducible apply Node.when_kept
                  | with_reducible apply Node.raise_kept | with_reducible apply Node.setCode_kept | with_reducible apply Node.refused_kept
                  | with_reducible apply Node.freeLees_kept | with_reducible apply Node.endSpec_kept | intro _ | dsimp -proj only
                  | exact @rfl (List Record) _ | exact @rfl (SMap (Option (BitVec 256))) _ | split | with_reducible apply mk_kept)

theorem execMstopEntry_kept (s : State) (hs : s.node.Kept rs vk) (s' : State) (ht : execMstopEntry s = .next s') :
    s'.node.Kept rs vk := by
  unfold execMstopEntry at ht
  refine State.upd_kept hs ?_ ht
  repeat' (first | with_reducible assumption | with_reducible rfl | with_reducible apply Node.when_kept
                  | with_reducible apply Node.each_kept | with_reducible apply Node.wr_kept | with_reducible apply Node.wrBit_kept
                  | with_reducible apply Node.raise_kept | with_reducible apply Node.updateBypass_kept | with_reducible apply Node.stopPress_kept
                  | with_reducible apply Node.refuseAll_kept | with_reducible apply Node.stopTrellis_kept
                  | with_reducible apply Node.stopTopology_kept | intro _ | dsimp -proj only | exact @rfl (List Record) _
                  | exact @rfl (SMap (Option (BitVec 256))) _ | split | with_reducible apply mk_kept)

theorem Node.wipe_kept (n : Node) (h0 : n.Kept rs vk) :
    (Node.wipe n).Kept rs vk := by
  unfold Node.wipe
  repeat' (first | with_reducible assumption | with_reducible rfl | with_reducible apply Node.each_kept
                  | with_reducible apply Node.resetWords_kept | with_reducible apply Node.resetConfig_kept
                  | with_reducible apply Node.keepBytes_kept | with_reducible apply Node.setPress_kept | intro _ | dsimp -proj only
                  | exact @rfl (List Record) _ | exact @rfl (SMap (Option (BitVec 256))) _ | split | with_reducible apply mk_kept)

theorem Node.cellarResult_kept (n : Node) (ok : Bool) (bad : List Nat) (h0 : n.Kept rs vk) :
    (Node.cellarResult n ok bad).Kept rs vk := by
  unfold Node.cellarResult
  repeat' (first | with_reducible assumption | with_reducible rfl | with_reducible apply Node.when_kept
                  | with_reducible apply Node.wr_kept | with_reducible apply Node.addFault_kept | with_reducible apply Node.dropFault_kept
                  | with_reducible apply Node.raise_kept | intro _ | dsimp -proj only | exact @rfl (List Record) _
                  | exact @rfl (SMap (Option (BitVec 256))) _ | split | with_reducible apply mk_kept)

theorem execMstopMemtestDone_kept (failed : List (Fin 16 × Nat)) (badCasks : List Nat) (s : State) (hs : s.node.Kept rs vk) (s' : State)
    (ht : execMstopMemtestDone failed badCasks s = .next s') :
    s'.node.Kept rs vk := by
  unfold execMstopMemtestDone at ht
  refine State.upd_kept hs ?_ ht
  repeat' (first | with_reducible assumption | with_reducible rfl | with_reducible apply Node.when_kept
                  | with_reducible apply Node.each_kept | with_reducible apply Node.wr_kept | with_reducible apply Node.raise_kept
                  | with_reducible apply Node.wipe_kept | with_reducible apply Node.cellarResult_kept | with_reducible apply foldl_kept
                  | with_reducible apply foldlPair_kept | intro _)

theorem Node.mstopExit_kept (n : Node) (h0 : n.Kept rs vk) :
    (Node.mstopExit n).Kept rs vk := by
  unfold Node.mstopExit
  repeat' (first | with_reducible assumption | with_reducible rfl | with_reducible apply Node.when_kept
                  | with_reducible apply Node.warmReset_kept | intro _)

theorem execMstopCmdExit_kept (by_ : Initiator) (key : Half) (s : State) (hs : s.node.Kept rs vk) (s' : State)
    (ht : execMstopCmdExit by_ key s = .next s') :
    s'.node.Kept rs vk := by
  unfold execMstopCmdExit at ht
  refine State.upd_kept hs ?_ ht
  repeat' (first | with_reducible assumption | with_reducible rfl | with_reducible apply Node.when_kept
                  | with_reducible apply Node.access_kept | with_reducible apply Node.mstopExit_kept | intro _)

theorem Node.loopGo_kept (n : Node) (p : Nat) (v : Word) (h0 : n.Kept rs vk) :
    (Node.loopGo n p v).Kept rs vk := by
  unfold Node.loopGo
  repeat' (first | with_reducible assumption | with_reducible rfl | with_reducible apply Node.when_kept
                  | with_reducible apply Node.putWord_kept | with_reducible apply Node.setPort_kept | with_reducible apply Node.emit_kept
                  | with_reducible apply Node.raise_kept | with_reducible apply Node.linkGone_kept | intro _ | dsimp -proj only
                  | exact @rfl (List Record) _ | exact @rfl (SMap (Option (BitVec 256))) _ | split)

theorem Node.loopEnd_kept (n : Node) (p ok bad : Nat) (aborted : Bool) (h0 : n.Kept rs vk) :
    (Node.loopEnd n p ok bad aborted).Kept rs vk := by
  unfold Node.loopEnd
  repeat' (first | with_reducible assumption | with_reducible rfl | with_reducible apply Node.when_kept
                  | with_reducible apply Node.wr_kept | with_reducible apply Node.wrBit_kept | with_reducible apply Node.setPort_kept
                  | with_reducible apply Node.raise_kept | with_reducible apply Node.followMode_kept | intro _)

theorem Node.loopStop_kept (n : Node) (p : Nat) (h0 : n.Kept rs vk) :
    (Node.loopStop n p).Kept rs vk := by
  unfold Node.loopStop
  repeat' (first | with_reducible assumption | with_reducible rfl | with_reducible apply Node.when_kept
                  | with_reducible apply Node.took_kept | with_reducible apply Node.loopEnd_kept | intro _)

theorem execLoopCmdGo_kept (by_ : Initiator) (port : Fin 16) (v : Word) (s : State) (hs : s.node.Kept rs vk) (s' : State)
    (ht : execLoopCmdGo by_ port v s = .next s') :
    s'.node.Kept rs vk := by
  unfold execLoopCmdGo at ht
  refine State.upd_kept hs ?_ ht
  repeat' (first | with_reducible assumption | with_reducible rfl | with_reducible apply Node.access_kept
                  | with_reducible apply Node.loopGo_kept | intro _)

theorem execLoopCmdStop_kept (by_ : Initiator) (port : Fin 16) (s : State) (hs : s.node.Kept rs vk) (s' : State)
    (ht : execLoopCmdStop by_ port s = .next s') :
    s'.node.Kept rs vk := by
  unfold execLoopCmdStop at ht
  refine State.upd_kept hs ?_ ht
  repeat' (first | with_reducible assumption | with_reducible rfl | with_reducible apply Node.access_kept
                  | with_reducible apply Node.loopStop_kept | intro _)

theorem execLoopbackDone_kept (port : Fin 16) (ok bad : Nat) (s : State) (hs : s.node.Kept rs vk) (s' : State)
    (ht : execLoopbackDone port ok bad s = .next s') :
    s'.node.Kept rs vk := by
  unfold execLoopbackDone at ht
  refine State.upd_kept hs ?_ ht
  repeat' (first | with_reducible assumption | with_reducible rfl | with_reducible apply Node.when_kept
                  | with_reducible apply Node.loopEnd_kept | intro _)

theorem execTapInstruction_kept (code : TapCode) (s : State) (hs : s.node.Kept rs vk) (s' : State) (ht : execTapInstruction code s = .next s') :
    s'.node.Kept rs vk := by
  unfold execTapInstruction at ht
  refine State.upd_kept hs ?_ ht
  repeat' (first | with_reducible assumption | with_reducible rfl | with_reducible apply Node.when_kept
                  | with_reducible apply Node.emit_kept | with_reducible apply Node.raise_kept | intro _ | dsimp -proj only
                  | exact @rfl (List Record) _ | exact @rfl (SMap (Option (BitVec 256))) _ | split | with_reducible apply mk_kept)

theorem Node.setLatch_kept (n : Node) (by_ : Initiator) (window : Nat) (l : Option WindowLatch) (h0 : n.Kept rs vk) :
    (Node.setLatch n by_ window l).Kept rs vk := by
  unfold Node.setLatch
  repeat' (first | with_reducible assumption | with_reducible rfl | intro _ | dsimp -proj only | exact @rfl (List Record) _
                  | exact @rfl (SMap (Option (BitVec 256))) _ | split | with_reducible apply mk_kept)

theorem Node.endLatch_kept (n : Node) (by_ : Initiator) (a : Nat) (h0 : n.Kept rs vk) :
    (Node.endLatch n by_ a).Kept rs vk := by
  unfold Node.endLatch
  repeat' (first | with_reducible assumption | with_reducible rfl | with_reducible apply Node.when_kept
                  | with_reducible apply Node.setLatch_kept | intro _ | dsimp -proj only | exact @rfl (List Record) _
                  | exact @rfl (SMap (Option (BitVec 256))) _ | split)

theorem Node.readWindow_kept (n : Node) (by_ : Initiator) (a window e w : Nat) (h0 : n.Kept rs vk) :
    (Node.readWindow n by_ a window e w).1.Kept rs vk := by
  unfold Node.readWindow
  repeat' (first | with_reducible assumption | with_reducible rfl | with_reducible apply Node.setLatch_kept | intro _
                  | dsimp -proj only | exact @rfl (List Record) _ | exact @rfl (SMap (Option (BitVec 256))) _ | split)

theorem Node.latchHigh_kept (n : Node) (by_ : Initiator) (v : Word) (h0 : n.Kept rs vk) :
    (Node.latchHigh n by_ v).Kept rs vk := by
  unfold Node.latchHigh
  repeat' (first | with_reducible assumption | with_reducible rfl | intro _ | dsimp -proj only | exact @rfl (List Record) _
                  | exact @rfl (SMap (Option (BitVec 256))) _ | split | with_reducible apply mk_kept)

theorem Node.readView_kept (n : Node) (by_ : Initiator) (a v o : Nat) (h0 : n.Kept rs vk) :
    (Node.readView n by_ a v o).1.Kept rs vk := by
  unfold Node.readView
  repeat' (first | with_reducible assumption | with_reducible rfl | with_reducible apply Node.latchHigh_kept | intro _
                  | dsimp -proj only | exact @rfl (List Record) _ | exact @rfl (SMap (Option (BitVec 256))) _ | split
                  | with_reducible apply mk_kept)

theorem Node.tookIfFree_kept (n : Node) (a : Nat) (h0 : n.Kept rs vk) :
    (Node.tookIfFree n a).Kept rs vk := by
  unfold Node.tookIfFree
  repeat' (first | with_reducible assumption | with_reducible rfl | with_reducible apply Node.when_kept
                  | with_reducible apply Node.took_kept)

theorem Node.readReg_kept (n : Node) (by_ : Initiator) (a : Nat) (p : Place) (sameClock : Bool) (h0 : n.Kept rs vk) :
    (Node.readReg n by_ a p sameClock).1.Kept rs vk := by
  unfold Node.readReg
  repeat' (first | with_reducible assumption | with_reducible rfl | with_reducible apply Node.putWord_kept
                  | with_reducible apply Node.eqPop_kept | with_reducible apply Node.latchHigh_kept | intro _ | dsimp -proj only
                  | exact @rfl (List Record) _ | exact @rfl (SMap (Option (BitVec 256))) _ | split)

theorem Node.readWord_kept (n : Node) (by_ : Initiator) (a : Nat) (sameClock : Bool) (h0 : n.Kept rs vk) :
    (Node.readWord n by_ a sameClock).1.Kept rs vk := by
  unfold Node.readWord
  repeat' (first | with_reducible assumption | with_reducible rfl | with_reducible apply Node.readWindow_kept
                  | with_reducible apply Node.readView_kept | with_reducible apply Node.tookIfFree_kept | with_reducible apply Node.readReg_kept
                  | intro _ | dsimp -proj only | exact @rfl (List Record) _ | exact @rfl (SMap (Option (BitVec 256))) _ | split)

theorem Node.fetch_kept (n : Node) (by_ : Initiator) (a : Nat) (sameClock : Bool) (h0 : n.Kept rs vk) :
    (Node.fetch n by_ a sameClock).1.Kept rs vk := by
  unfold Node.fetch
  repeat' (first | with_reducible assumption | with_reducible rfl | with_reducible apply Node.xabort_kept
                  | with_reducible apply Node.readWord_kept | intro _ | dsimp -proj only | exact @rfl (List Record) _
                  | exact @rfl (SMap (Option (BitVec 256))) _ | split)

theorem Node.readReply_kept (n : Node) (by_ : Initiator) (a : Nat) (sameClock : Bool) (h0 : n.Kept rs vk) :
    (Node.readReply n by_ a sameClock).Kept rs vk := by
  unfold Node.readReply
  repeat' (first | with_reducible assumption | with_reducible rfl | with_reducible apply Node.emit_kept
                  | with_reducible apply Node.fetch_kept | intro _ | dsimp -proj only | exact @rfl (List Record) _
                  | exact @rfl (SMap (Option (BitVec 256))) _ | split)

theorem execRcCounterRead_kept (by_ : Initiator) (addr : Nat) (sameClock : Bool) (s : State) (hs : s.node.Kept rs vk) (s' : State)
    (ht : execRcCounterRead by_ addr sameClock s = .next s') :
    s'.node.Kept rs vk := by
  unfold execRcCounterRead at ht
  refine State.upd_kept hs ?_ ht
  repeat' (first | with_reducible assumption | with_reducible rfl | with_reducible apply Node.readReply_kept | intro _)

theorem execLowWordRead_kept (by_ : Initiator) (addr : Nat) (s : State) (hs : s.node.Kept rs vk) (s' : State)
    (ht : execLowWordRead by_ addr s = .next s') :
    s'.node.Kept rs vk := by
  unfold execLowWordRead at ht
  refine State.upd_kept hs ?_ ht
  repeat' (first | with_reducible assumption | with_reducible rfl | with_reducible apply Node.readReply_kept | intro _)

theorem execTableWord0Read_kept (by_ : Initiator) (addr : Nat) (s : State) (hs : s.node.Kept rs vk) (s' : State)
    (ht : execTableWord0Read by_ addr s = .next s') :
    s'.node.Kept rs vk := by
  unfold execTableWord0Read at ht
  refine State.upd_kept hs ?_ ht
  repeat' (first | with_reducible assumption | with_reducible rfl | with_reducible apply Node.readReply_kept | intro _)

theorem execTimeLoRead_kept (by_ : Initiator) (view : Fin 3) (s : State) (hs : s.node.Kept rs vk) (s' : State)
    (ht : execTimeLoRead by_ view s = .next s') :
    s'.node.Kept rs vk := by
  unfold execTimeLoRead at ht
  refine State.upd_kept hs ?_ ht
  repeat' (first | with_reducible assumption | with_reducible rfl | with_reducible apply Node.readReply_kept | intro _)

theorem execEqPop0Read_kept (by_ : Initiator) (s : State) (hs : s.node.Kept rs vk) (s' : State) (ht : execEqPop0Read by_ s = .next s') :
    s'.node.Kept rs vk := by
  unfold execEqPop0Read at ht
  refine State.upd_kept hs ?_ ht
  repeat' (first | with_reducible assumption | with_reducible rfl | with_reducible apply Node.readReply_kept | intro _)

theorem Node.mendShadow_kept (n : Node) (a : Nat) (h0 : n.Kept rs vk) :
    (Node.mendShadow n a).Kept rs vk := by
  unfold Node.mendShadow
  repeat' (first | with_reducible assumption | with_reducible rfl | intro _ | dsimp -proj only | exact @rfl (List Record) _
                  | exact @rfl (SMap (Option (BitVec 256))) _ | split | with_reducible apply mk_kept)

theorem Node.storeReg_kept (n : Node) (a : Nat) (v : Word) (h0 : n.Kept rs vk) :
    (Node.storeReg n a v).Kept rs vk := by
  unfold Node.storeReg
  repeat' (first | with_reducible assumption | with_reducible rfl | with_reducible apply Node.when_kept
                  | with_reducible apply Node.putWord_kept | with_reducible apply Node.putShadow_kept | with_reducible apply Node.count_kept
                  | with_reducible apply Node.mendShadow_kept | intro _ | dsimp -proj only | exact @rfl (List Record) _
                  | exact @rfl (SMap (Option (BitVec 256))) _ | split)

theorem Node.storeImmediate_kept (n : Node) (a : Nat) (v : Word) (h0 : n.Kept rs vk) :
    (Node.storeImmediate n a v).Kept rs vk := by
  unfold Node.storeImmediate
  repeat' (first | with_reducible assumption | with_reducible rfl | with_reducible apply Node.updateBypass_kept
                  | with_reducible apply Node.storeReg_kept | intro _ | dsimp -proj only | exact @rfl (List Record) _
                  | exact @rfl (SMap (Option (BitVec 256))) _ | split | with_reducible apply mk_kept)

theorem Node.commitWrite_kept (n : Node) (g : Nat) (v : Word) (h0 : n.Kept rs vk) :
    (Node.commitWrite n g v).Kept rs vk := by
  unfold Node.commitWrite
  repeat' (first | with_reducible assumption | with_reducible rfl | with_reducible apply Node.when_kept
                  | with_reducible apply Node.groupGo_kept | with_reducible apply Node.groupAbort_kept | intro _ | dsimp -proj only
                  | exact @rfl (List Record) _ | exact @rfl (SMap (Option (BitVec 256))) _ | split)

theorem Node.mcWrite_kept (n : Node) (v : Word) (h0 : n.Kept rs vk) :
    (Node.mcWrite n v).Kept rs vk := by
  unfold Node.mcWrite
  repeat' (first | with_reducible assumption | with_reducible rfl | with_reducible apply Node.when_kept
                  | with_reducible apply Node.mcGo_kept | with_reducible apply Node.mcAbort_kept | intro _ | dsimp -proj only
                  | exact @rfl (List Record) _ | exact @rfl (SMap (Option (BitVec 256))) _ | split)

theorem Node.updOperate_kept (n : Node) (p : Path) (op slot : Nat) (h0 : n.Kept rs vk) :
    (Node.updOperate n p op slot).Kept rs vk := by
  unfold Node.updOperate
  repeat' (first | with_reducible assumption | with_reducible rfl | with_reducible apply Node.updOpen_kept
                  | with_reducible apply Node.updFinish_kept | with_reducible apply Node.updAbort_kept
                  | with_reducible apply Node.activateSlot_kept | with_reducible apply Node.confirmTrial_kept | intro _ | dsimp -proj only
                  | exact @rfl (List Record) _ | exact @rfl (SMap (Option (BitVec 256))) _ | split)

theorem Node.outOperate_kept (n : Node) (c op : Nat) (h0 : n.Kept rs vk) :
    (Node.outOperate n c op).Kept rs vk := by
  unfold Node.outOperate
  repeat' (first | with_reducible assumption | with_reducible rfl | with_reducible apply Node.when_kept
                  | with_reducible apply Node.clearLock_kept | intro _)

theorem Node.canOperate_kept (n : Node) (c op : Nat) (h0 : n.Kept rs vk) :
    (Node.canOperate n c op).Kept rs vk := by
  unfold Node.canOperate
  repeat' (first | with_reducible assumption | with_reducible rfl | with_reducible apply Node.wrBit_kept
                  | with_reducible apply Node.canRecover_kept | intro _ | dsimp -proj only | exact @rfl (List Record) _
                  | exact @rfl (SMap (Option (BitVec 256))) _ | split)

theorem Node.commandLow_kept (n : Node) (a : Nat) (v : Word) (h0 : n.Kept rs vk) :
    (Node.commandLow n a v).Kept rs vk := by
  unfold Node.commandLow
  repeat' (first | with_reducible assumption | with_reducible rfl | with_reducible apply Node.when_kept
                  | with_reducible apply Node.wakeEmit_kept | with_reducible apply Node.snapGo_kept | with_reducible apply Node.msgPull_kept
                  | with_reducible apply Node.msgGo_kept | with_reducible apply Node.pressCommand_kept | with_reducible apply Node.mstopEnter_kept
                  | with_reducible apply Node.mstopExit_kept | with_reducible apply Node.loopGo_kept | with_reducible apply Node.loopStop_kept
                  | with_reducible apply Node.mcWrite_kept | with_reducible apply Node.canOperate_kept | intro _ | dsimp -proj only
                  | exact @rfl (List Record) _ | exact @rfl (SMap (Option (BitVec 256))) _ | split)

theorem Node.commandHigh_kept (n : Node) (a : Nat) (v : Word) (h0 : n.Kept rs vk) :
    (Node.commandHigh n a v).Kept rs vk := by
  unfold Node.commandHigh
  repeat' (first | with_reducible assumption | with_reducible rfl | with_reducible apply Node.when_kept
                  | with_reducible apply Node.cbkCommand_kept | with_reducible apply Node.chunkGo_kept | with_reducible apply Node.hbrReset_kept
                  | with_reducible apply Node.redCommand_kept | with_reducible apply Node.warmReset_kept
                  | with_reducible apply Node.dormRequest_kept | with_reducible apply Node.storeReg_kept
                  | with_reducible apply Node.updOperate_kept | with_reducible apply Node.outOperate_kept | intro _ | dsimp -proj only
                  | exact @rfl (List Record) _ | exact @rfl (SMap (Option (BitVec 256))) _ | split)

theorem Node.guardDrop_kept (n : Node) (h0 : n.Kept rs vk) :
    (Node.guardDrop n).Kept rs vk := by
  unfold Node.guardDrop
  repeat' (first | with_reducible assumption | with_reducible rfl | with_reducible apply Node.count_kept)

theorem Node.ringWrite_kept (n : Node) (k o a : Nat) (v : Word) (h0 : n.Kept rs vk) :
    (Node.ringWrite n k o a v).Kept rs vk := by
  unfold Node.ringWrite
  repeat' (first | with_reducible assumption | with_reducible rfl | with_reducible apply Node.wr_kept
                  | with_reducible apply Node.count_kept | with_reducible apply Node.raise_kept | with_reducible apply Node.ringTail_kept
                  | with_reducible apply Node.ringCfg_kept | with_reducible apply Node.storeReg_kept | with_reducible apply Node.guardDrop_kept
                  | intro _ | dsimp -proj only | exact @rfl (List Record) _ | exact @rfl (SMap (Option (BitVec 256))) _ | split)

theorem Node.eqRegWrite_kept (n : Node) (a : Nat) (v : Word) (h0 : n.Kept rs vk) :
    (Node.eqRegWrite n a v).Kept rs vk := by
  unfold Node.eqRegWrite
  repeat' (first | with_reducible assumption | with_reducible rfl | with_reducible apply Node.wr_kept
                  | with_reducible apply Node.eqSpace_kept | with_reducible apply Node.storeReg_kept | with_reducible apply Node.guardDrop_kept
                  | intro _ | dsimp -proj only | exact @rfl (List Record) _ | exact @rfl (SMap (Option (BitVec 256))) _ | split
                  | with_reducible apply mk_kept)

theorem Node.bufferBytes_kept (n : Node) (may : Bool) (a : Nat) (bytes : List Byte) (h0 : n.Kept rs vk) :
    (Node.bufferBytes n may a bytes).Kept rs vk := by
  unfold Node.bufferBytes
  repeat' (first | with_reducible assumption | with_reducible rfl | with_reducible apply Node.when_kept
                  | with_reducible apply Node.each_kept | with_reducible apply Node.count_kept | with_reducible apply Node.mbStore_kept
                  | with_reducible apply Node.mbAck_kept | intro _ | dsimp -proj only | exact @rfl (List Record) _
                  | exact @rfl (SMap (Option (BitVec 256))) _ | split)

theorem Node.imageWrite_kept (n : Node) (a : Nat) (v : Word) (h0 : n.Kept rs vk) :
    (Node.imageWrite n a v).Kept rs vk := by
  unfold Node.imageWrite
  repeat' (first | with_reducible assumption | with_reducible rfl | with_reducible apply Node.when_kept
                  | with_reducible apply Node.count_kept | with_reducible apply Node.putRamWord_kept | with_reducible apply Node.outExchange_kept
                  | intro _ | dsimp -proj only | exact @rfl (List Record) _ | exact @rfl (SMap (Option (BitVec 256))) _ | split)

theorem Node.writeReg_kept (n : Node) (by_ : Initiator) (a : Nat) (v : Word) (h0 : n.Kept rs vk) :
    (Node.writeReg n by_ a v).Kept rs vk := by
  unfold Node.writeReg
  repeat' (first | with_reducible assumption | with_reducible rfl | with_reducible apply Node.setHeld_kept
                  | with_reducible apply Node.signalHigh_kept | with_reducible apply Node.hostCommand_kept
                  | with_reducible apply Node.storeImmediate_kept | with_reducible apply Node.commitWrite_kept
                  | with_reducible apply Node.commandLow_kept | with_reducible apply Node.commandHigh_kept
                  | with_reducible apply Node.ringWrite_kept | with_reducible apply Node.eqRegWrite_kept
                  | with_reducible apply Node.bufferBytes_kept | intro _ | dsimp -proj only | exact @rfl (List Record) _
                  | exact @rfl (SMap (Option (BitVec 256))) _ | split)

theorem Node.writeWord_kept (n : Node) (by_ : Initiator) (a : Nat) (v : Word) (h0 : n.Kept rs vk) :
    (Node.writeWord n by_ a v).Kept rs vk := by
  unfold Node.writeWord
  repeat' (first | with_reducible assumption | with_reducible rfl | with_reducible apply Node.putRamWord_kept
                  | with_reducible apply Node.endLatch_kept | with_reducible apply Node.imageWrite_kept | with_reducible apply Node.writeReg_kept
                  | intro _ | dsimp -proj only | exact @rfl (List Record) _ | exact @rfl (SMap (Option (BitVec 256))) _ | split)

theorem Node.assign_kept (n : Node) (by_ : Initiator) (a : Nat) (v : Word) (h0 : n.Kept rs vk) :
    (Node.assign n by_ a v).1.Kept rs vk := by
  unfold Node.assign
  repeat' (first | with_reducible assumption | with_reducible rfl | with_reducible apply Node.when_kept
                  | with_reducible apply Node.xabort_kept | with_reducible apply Node.dropHeld_kept | with_reducible apply Node.writeWord_kept
                  | intro _ | dsimp -proj only | exact @rfl (List Record) _ | exact @rfl (SMap (Option (BitVec 256))) _ | split)

theorem Node.assignAt_kept (n : Node) (by_ : Initiator) (a : Nat) (v : Word) (h0 : n.Kept rs vk) :
    (Node.assignAt n by_ a v).Kept rs vk := by
  unfold Node.assignAt
  repeat' (first | with_reducible assumption | with_reducible rfl | with_reducible apply Node.assign_kept | intro _
                  | dsimp -proj only | exact @rfl (List Record) _ | exact @rfl (SMap (Option (BitVec 256))) _ | split)

theorem execSignalLowWordWrite_kept (by_ : Initiator) (signal : Fin 262144) (v : Word) (s : State) (hs : s.node.Kept rs vk) (s' : State)
    (ht : execSignalLowWordWrite by_ signal v s = .next s') :
    s'.node.Kept rs vk := by
  unfold execSignalLowWordWrite at ht
  refine State.upd_kept hs ?_ ht
  repeat' (first | with_reducible assumption | with_reducible rfl | with_reducible apply Node.assignAt_kept | intro _)

theorem execSignalHighWordWrite_kept (by_ : Initiator) (signal : Fin 262144) (v : Word) (s : State) (hs : s.node.Kept rs vk) (s' : State)
    (ht : execSignalHighWordWrite by_ signal v s = .next s') :
    s'.node.Kept rs vk := by
  unfold execSignalHighWordWrite at ht
  refine State.upd_kept hs ?_ ht
  repeat' (first | with_reducible assumption | with_reducible rfl | with_reducible apply Node.assignAt_kept | intro _)

theorem execCommandWordWrite_kept (by_ : Initiator) (ch : Fin 24) (v : Word) (s : State) (hs : s.node.Kept rs vk) (s' : State)
    (ht : execCommandWordWrite by_ ch v s = .next s') :
    s'.node.Kept rs vk := by
  unfold execCommandWordWrite at ht
  refine State.upd_kept hs ?_ ht
  repeat' (first | with_reducible assumption | with_reducible rfl | with_reducible apply Node.assignAt_kept | intro _)

theorem execOutXchg_kept (by_ : Initiator) (press : Fin 16) (s : State) (hs : s.node.Kept rs vk) (s' : State)
    (ht : execOutXchg by_ press s = .next s') :
    s'.node.Kept rs vk := by
  unfold execOutXchg at ht
  refine State.upd_kept hs ?_ ht
  repeat' (first | with_reducible assumption | with_reducible rfl | with_reducible apply Node.assignAt_kept | intro _)

theorem Node.narrow_kept (n : Node) (by_ : Initiator) (addr : Nat) (h0 : n.Kept rs vk) :
    (Node.narrow n by_ addr).1.Kept rs vk := by
  unfold Node.narrow
  repeat' (first | with_reducible assumption | with_reducible rfl | with_reducible apply Node.count_kept
                  | with_reducible apply Node.raise_kept | with_reducible apply Node.xabort_kept | with_reducible apply Node.dropHeld_kept
                  | intro _ | dsimp -proj only | exact @rfl (List Record) _ | exact @rfl (SMap (Option (BitVec 256))) _ | split)

theorem execPartialWrite_kept (by_ : Initiator) (addr _size : Nat) (_v : Half) (s : State) (hs : s.node.Kept rs vk) (s' : State)
    (ht : execPartialWrite by_ addr _size _v s = .next s') :
    s'.node.Kept rs vk := by
  unfold execPartialWrite at ht
  refine State.upd_kept hs ?_ ht
  repeat' (first | with_reducible assumption | with_reducible rfl | with_reducible apply Node.narrow_kept | intro _
                  | dsimp -proj only | exact @rfl (List Record) _ | exact @rfl (SMap (Option (BitVec 256))) _ | split)

theorem Node.odBusy_kept (n : Node) (p : Path) (irq : Bool) (h0 : n.Kept rs vk) :
    (Node.odBusy n p irq).Kept rs vk := by
  unfold Node.odBusy
  repeat' (first | with_reducible assumption | with_reducible rfl | with_reducible apply Node.count_kept
                  | with_reducible apply Node.odAbort_kept)

theorem Node.goBox_kept (n : Node) (m : Nat) (f : Node → Node) (h0 : n.Kept rs vk) (h1 : ∀ (x0 : Node), Node.Kept rs vk x0 → (f x0).Kept rs vk) :
    (Node.goBox n m f).Kept rs vk := by
  unfold Node.goBox
  repeat' (first | with_reducible assumption | with_reducible rfl | with_reducible apply h1 | with_reducible apply Node.when_kept
                  | with_reducible apply Node.wrBit_kept | intro _)

theorem Node.serveAt_kept (n : Node) (a : OdAsk) (irq full : Bool) (f : Node → Node) (h0 : n.Kept rs vk) (h1 : ∀ (x0 : Node), Node.Kept rs vk x0 →
    (f x0).Kept rs vk) :
    (Node.serveAt n a irq full f).Kept rs vk := by
  unfold Node.serveAt
  repeat' (first | with_reducible assumption | with_reducible rfl | with_reducible apply h1 | with_reducible apply Node.when_kept
                  | with_reducible apply Node.setAsk_kept | with_reducible apply Node.odBusy_kept | with_reducible apply Node.goBox_kept | intro _
                  | dsimp -proj only | exact @rfl (List Record) _ | exact @rfl (SMap (Option (BitVec 256))) _ | split)

theorem Node.atBox_kept (n : Node) (by_ : Initiator) (m : Nat) (f : Node → Node) (h0 : n.Kept rs vk) (h1 : ∀ (x0 : Node), Node.Kept rs vk x0 →
    (f x0).Kept rs vk) :
    (Node.atBox n by_ m f).Kept rs vk := by
  unfold Node.atBox
  repeat' (first | with_reducible assumption | with_reducible rfl | with_reducible apply h1
                  | with_reducible apply Node.xabort_kept | with_reducible apply Node.dropHeld_kept | intro _ | dsimp -proj only
                  | exact @rfl (List Record) _ | exact @rfl (SMap (Option (BitVec 256))) _ | split)

theorem Node.fromPress_kept (n : Node) (f : Node → Node) (h0 : n.Kept rs vk) (h1 : ∀ (x0 : Node), Node.Kept rs vk x0 → (f x0).Kept rs vk) :
    (Node.fromPress n f).Kept rs vk := by
  unfold Node.fromPress
  repeat' (first | with_reducible assumption | with_reducible rfl | with_reducible apply h1
                  | with_reducible apply Node.xabort_kept | intro _ | dsimp -proj only | exact @rfl (List Record) _
                  | exact @rfl (SMap (Option (BitVec 256))) _ | split)

theorem Node.takeSdoRequest_kept (n : Node) (p : Nat) (h0 : n.Kept rs vk) :
    (Node.takeSdoRequest n p).Kept rs vk := by
  unfold Node.takeSdoRequest
  repeat' (first | with_reducible assumption | with_reducible rfl | with_reducible apply Node.each_kept
                  | with_reducible apply Node.setCan_kept | intro _)

theorem Node.onPath_kept (n : Node) (p : Path) (index : Nat) (f : Node → Node) (h0 : n.Kept rs vk) (h1 : ∀ (x0 : Node), Node.Kept rs vk x0 →
    (f x0).Kept rs vk) :
    (Node.onPath n p index f).Kept rs vk := by
  unfold Node.onPath
  repeat' (first | with_reducible assumption | with_reducible rfl | with_reducible apply h1 | with_reducible apply Node.when_kept
                  | with_reducible apply Node.atBox_kept | with_reducible apply Node.fromPress_kept
                  | with_reducible apply Node.takeSdoRequest_kept | intro _ | dsimp -proj only | exact @rfl (List Record) _
                  | exact @rfl (SMap (Option (BitVec 256))) _ | split)

theorem Node.fillBox_kept (n : Node) (p : Path) (seg : List Byte) (h0 : n.Kept rs vk) :
    (Node.fillBox n p seg).Kept rs vk := by
  unfold Node.fillBox
  repeat' (first | with_reducible assumption | with_reducible rfl | with_reducible apply Node.wr_kept
                  | with_reducible apply Node.putBytes_kept | intro _ | dsimp -proj only | exact @rfl (List Record) _
                  | exact @rfl (SMap (Option (BitVec 256))) _ | split)

theorem Node.fillTotal_kept (n : Node) (p : Path) (total : Nat) (h0 : n.Kept rs vk) :
    (Node.fillTotal n p total).Kept rs vk := by
  unfold Node.fillTotal
  repeat' (first | with_reducible assumption | with_reducible rfl | with_reducible apply Node.wr_kept | intro _ | dsimp -proj only
                  | exact @rfl (List Record) _ | exact @rfl (SMap (Option (BitVec 256))) _ | split)

theorem Node.lapse_kept (n : Node) (p : Path) (h0 : n.Kept rs vk) :
    (Node.lapse n p).Kept rs vk := by
  unfold Node.lapse
  repeat' (first | with_reducible assumption | with_reducible rfl | with_reducible apply Node.when_kept
                  | with_reducible apply Node.publicSession_kept | with_reducible apply Node.dropSession_kept)

theorem Node.giveChallenge_kept (n : Node) (p : Path) (irq : Bool) (h0 : n.Kept rs vk) :
    (Node.giveChallenge n p irq).Kept rs vk := by
  unfold Node.giveChallenge
  repeat' (first | with_reducible assumption | with_reducible rfl | with_reducible apply Node.took_kept
                  | with_reducible apply Node.setSession_kept | with_reducible apply Node.odReply_kept)

theorem Node.askRole_kept (n : Node) (p : Path) (role : Nat) (h0 : n.Kept rs vk) :
    (Node.askRole n p role).Kept rs vk := by
  unfold Node.askRole
  repeat' (first | with_reducible assumption | with_reducible rfl | with_reducible apply Node.setSession_kept
                  | with_reducible apply Node.lapse_kept | intro _ | dsimp -proj only | exact @rfl (List Record) _
                  | exact @rfl (SMap (Option (BitVec 256))) _ | split)

theorem Node.authFailed_kept (n : Node) (p : Path) (h0 : n.Kept rs vk) :
    (Node.authFailed n p).Kept rs vk := by
  unfold Node.authFailed
  repeat' (first | with_reducible assumption | with_reducible rfl | with_reducible apply Node.when_kept
                  | with_reducible apply Node.count_kept | with_reducible apply Node.raise_kept | intro _ | dsimp -proj only
                  | exact @rfl (List Record) _ | exact @rfl (SMap (Option (BitVec 256))) _ | split | with_reducible apply mk_kept)

theorem Node.roleRaised_kept (n : Node) (p : Path) (key : BitVec 256) (h0 : n.Kept rs vk) :
    (Node.roleRaised n p key).Kept rs vk := by
  unfold Node.roleRaised
  repeat' (first | with_reducible assumption | with_reducible rfl | with_reducible apply Node.raise_kept
                  | with_reducible apply Node.setSession_kept)

theorem Node.authRespond_kept (n : Node) (p : Path) (irq : Bool) (response : List Byte) (h0 : n.Kept rs vk) :
    (Node.authRespond n p irq response).Kept rs vk := by
  unfold Node.authRespond
  repeat' (first | with_reducible assumption | with_reducible rfl | with_reducible apply Node.odEnd_kept
                  | with_reducible apply Node.odAbort_kept | with_reducible apply Node.authFailed_kept | with_reducible apply Node.roleRaised_kept
                  | intro _ | dsimp -proj only | exact @rfl (List Record) _ | exact @rfl (SMap (Option (BitVec 256))) _ | split)

theorem Node.sendEntry_kept (n : Node) (p : Path) (irq : Bool) (index sub : Nat) (e : OdEntry) (h0 : n.Kept rs vk) :
    (Node.sendEntry n p irq index sub e).Kept rs vk := by
  unfold Node.sendEntry
  repeat' (first | with_reducible assumption | with_reducible rfl | with_reducible apply Node.when_kept
                  | with_reducible apply Node.took_kept | with_reducible apply Node.xabort_kept | with_reducible apply Node.reportBad_kept
                  | with_reducible apply Node.odSend_kept | intro _ | dsimp -proj only | exact @rfl (List Record) _
                  | exact @rfl (SMap (Option (BitVec 256))) _ | split)

theorem Node.readEntry_kept (n : Node) (p : Path) (irq : Bool) (index sub : Nat) (e : OdEntry) (h0 : n.Kept rs vk) :
    (Node.readEntry n p irq index sub e).Kept rs vk := by
  unfold Node.readEntry
  repeat' (first | with_reducible assumption | with_reducible rfl | with_reducible apply Node.odAbort_kept
                  | with_reducible apply Node.odReply_kept | with_reducible apply Node.odSend_kept | with_reducible apply Node.giveChallenge_kept
                  | with_reducible apply Node.sendEntry_kept | intro _ | dsimp -proj only | exact @rfl (List Record) _
                  | exact @rfl (SMap (Option (BitVec 256))) _ | split)

theorem Node.odStartRead_kept (n : Node) (q : OdAsk) (irq full : Bool) (h0 : n.Kept rs vk) :
    (Node.odStartRead n q irq full).Kept rs vk := by
  unfold Node.odStartRead
  repeat' (first | with_reducible assumption | with_reducible rfl | with_reducible apply Node.dropTransfer_kept
                  | with_reducible apply Node.odAbort_kept | with_reducible apply Node.serveAt_kept | with_reducible apply Node.readEntry_kept
                  | intro _ | dsimp -proj only | exact @rfl (List Record) _ | exact @rfl (SMap (Option (BitVec 256))) _ | split)

theorem Node.odUpdate_kept (n : Node) (p : Path) (irq : Bool) (op slot : Nat) (h0 : n.Kept rs vk) :
    (Node.odUpdate n p irq op slot).Kept rs vk := by
  unfold Node.odUpdate
  repeat' (first | with_reducible assumption | with_reducible rfl | with_reducible apply Node.odEnd_kept
                  | with_reducible apply Node.updOperate_kept | intro _ | dsimp -proj only | exact @rfl (List Record) _
                  | exact @rfl (SMap (Option (BitVec 256))) _ | split)

theorem Node.odChunk_kept (n : Node) (p : Path) (irq : Bool) (value : List Byte) (h0 : n.Kept rs vk) :
    (Node.odChunk n p irq value).Kept rs vk := by
  unfold Node.odChunk
  repeat' (first | with_reducible assumption | with_reducible rfl | with_reducible apply Node.updWrite_kept
                  | with_reducible apply Node.odEnd_kept)

theorem Node.setUuid_kept (n : Node) (value : List Byte) (h0 : n.Kept rs vk) :
    (Node.setUuid n value).Kept rs vk := by
  unfold Node.setUuid
  repeat' (first | with_reducible assumption | with_reducible rfl | intro _ | dsimp -proj only | exact @rfl (List Record) _
                  | exact @rfl (SMap (Option (BitVec 256))) _ | split | with_reducible apply mk_kept)

theorem Node.askRestore_kept (n : Node) (p : Path) (irq : Bool) (h0 : n.Kept rs vk) :
    (Node.askRestore n p irq).Kept rs vk := by
  unfold Node.askRestore
  repeat' (first | with_reducible assumption | with_reducible rfl | intro _ | dsimp -proj only | exact @rfl (List Record) _
                  | exact @rfl (SMap (Option (BitVec 256))) _ | split | with_reducible apply mk_kept)

theorem Node.setPeer_kept (n : Node) (k v : Nat) (h0 : n.Kept rs vk) :
    (Node.setPeer n k v).Kept rs vk := by
  unfold Node.setPeer
  repeat' (first | with_reducible assumption | with_reducible rfl | intro _ | dsimp -proj only | exact @rfl (List Record) _
                  | exact @rfl (SMap (Option (BitVec 256))) _ | split | with_reducible apply mk_kept)

theorem Node.odActLow_kept (n : Node) (p : Path) (irq : Bool) (index sub v : Nat) (value : List Byte) (h0 : n.Kept rs vk) :
    (Node.odActLow n p irq index sub v value).Kept rs vk := by
  unfold Node.odActLow
  repeat' (first | with_reducible assumption | with_reducible rfl | with_reducible apply Node.when_kept
                  | with_reducible apply Node.enter_kept | with_reducible apply Node.odEnd_kept | with_reducible apply Node.redCommand_kept
                  | with_reducible apply Node.dormRequest_kept | with_reducible apply Node.mstopEnter_kept
                  | with_reducible apply Node.mstopExit_kept | with_reducible apply Node.askRole_kept | with_reducible apply Node.authRespond_kept
                  | with_reducible apply Node.setUuid_kept | with_reducible apply Node.askRestore_kept | with_reducible apply Node.setPeer_kept
                  | intro _ | dsimp -proj only | exact @rfl (List Record) _ | exact @rfl (SMap (Option (BitVec 256))) _ | split
                  | with_reducible apply mk_kept)

theorem Node.odActHigh_kept (n : Node) (p : Path) (irq : Bool) (index sub v : Nat) (value : List Byte) (h0 : n.Kept rs vk) :
    (Node.odActHigh n p irq index sub v value).Kept rs vk := by
  unfold Node.odActHigh
  repeat' (first | with_reducible assumption | with_reducible rfl | with_reducible apply Node.enter_kept
                  | with_reducible apply Node.setFreeze_kept | with_reducible apply Node.ownerChange_kept
                  | with_reducible apply Node.setRoleKey_kept | with_reducible apply Node.startQuote_kept | with_reducible apply Node.odEnd_kept
                  | with_reducible apply Node.odAbort_kept | with_reducible apply Node.canRecover_kept
                  | with_reducible apply Node.pressCommand_kept | with_reducible apply Node.outOperate_kept
                  | with_reducible apply Node.odUpdate_kept | with_reducible apply Node.odChunk_kept | omega | intro _ | dsimp -proj only
                  | exact @rfl (List Record) _ | exact @rfl (SMap (Option (BitVec 256))) _ | split | with_reducible apply mk_kept)

theorem Node.odAct_kept (n : Node) (p : Path) (irq : Bool) (index sub : Nat) (value : List Byte) (h0 : n.Kept rs vk) :
    (Node.odAct n p irq index sub value).Kept rs vk := by
  unfold Node.odAct
  repeat' (first | with_reducible assumption | with_reducible rfl | with_reducible apply Node.odActLow_kept
                  | with_reducible apply Node.odActHigh_kept | intro _ | dsimp -proj only | exact @rfl (List Record) _
                  | exact @rfl (SMap (Option (BitVec 256))) _ | split)

theorem Node.writeShadow_kept (n : Node) (p : Path) (irq : Bool) (ws : List (Nat × Word)) (h0 : n.Kept rs vk) :
    (Node.writeShadow n p irq ws).Kept rs vk := by
  unfold Node.writeShadow
  repeat' (first | with_reducible assumption | with_reducible rfl | with_reducible apply Node.putShadows_kept
                  | with_reducible apply Node.setPhase_kept | with_reducible apply Node.odEnd_kept | with_reducible apply Node.odAbort_kept
                  | with_reducible apply Node.turnAway_kept | intro _ | dsimp -proj only | exact @rfl (List Record) _
                  | exact @rfl (SMap (Option (BitVec 256))) _ | split | with_reducible apply mk_kept)

theorem Node.writeSignal_kept (n : Node) (p : Path) (irq : Bool) (k : Nat) (v : Nat) (h0 : n.Kept rs vk) :
    (Node.writeSignal n p irq k v).Kept rs vk := by
  unfold Node.writeSignal
  repeat' (first | with_reducible assumption | with_reducible rfl | with_reducible apply Node.odEnd_kept
                  | with_reducible apply Node.odAbort_kept | with_reducible apply Node.hostSignal_kept | intro _ | dsimp -proj only
                  | exact @rfl (List Record) _ | exact @rfl (SMap (Option (BitVec 256))) _ | split)

theorem Node.storeEntry_kept (n : Node) (p : Path) (irq : Bool) (index sub : Nat) (e : OdEntry) (value : List Byte) (h0 : n.Kept rs vk) :
    (Node.storeEntry n p irq index sub e value).Kept rs vk := by
  unfold Node.storeEntry
  repeat' (first | with_reducible assumption | with_reducible rfl | with_reducible apply Node.xabort_kept
                  | with_reducible apply Node.odEnd_kept | with_reducible apply Node.storeImmediate_kept | with_reducible apply Node.odAct_kept
                  | with_reducible apply Node.writeShadow_kept | with_reducible apply Node.writeSignal_kept | intro _ | dsimp -proj only
                  | exact @rfl (List Record) _ | exact @rfl (SMap (Option (BitVec 256))) _ | split)

theorem Node.applyWrite_kept (n : Node) (p : Path) (irq : Bool) (index sub : Nat) (value : List Byte) (h0 : n.Kept rs vk) :
    (Node.applyWrite n p irq index sub value).Kept rs vk := by
  unfold Node.applyWrite
  repeat' (first | with_reducible assumption | with_reducible rfl | with_reducible apply Node.odAbort_kept
                  | with_reducible apply Node.authRespond_kept | with_reducible apply Node.storeEntry_kept | intro _ | dsimp -proj only
                  | exact @rfl (List Record) _ | exact @rfl (SMap (Option (BitVec 256))) _ | split)

theorem Node.startTransfer_kept (n : Node) (p : Path) (irq : Bool) (index sub total : Nat) (seg : List Byte) (h0 : n.Kept rs vk) :
    (Node.startTransfer n p irq index sub total seg).Kept rs vk := by
  unfold Node.startTransfer
  repeat' (first | with_reducible assumption | with_reducible rfl | with_reducible apply Node.putTransfer_kept
                  | with_reducible apply Node.odEnd_kept | with_reducible apply Node.odAbort_kept | with_reducible apply Node.authRespond_kept
                  | intro _ | dsimp -proj only | exact @rfl (List Record) _ | exact @rfl (SMap (Option (BitVec 256))) _ | split)

theorem Node.odStartWrite_kept (n : Node) (q : OdAsk) (seg : List Byte) (irq full : Bool) (h0 : n.Kept rs vk) :
    (Node.odStartWrite n q seg irq full).Kept rs vk := by
  unfold Node.odStartWrite
  repeat' (first | with_reducible assumption | with_reducible rfl | with_reducible apply Node.dropTransfer_kept
                  | with_reducible apply Node.serveAt_kept | with_reducible apply Node.applyWrite_kept
                  | with_reducible apply Node.startTransfer_kept | intro _ | dsimp -proj only | exact @rfl (List Record) _
                  | exact @rfl (SMap (Option (BitVec 256))) _ | split)

theorem Node.sendMore_kept (n : Node) (t : Transfer) (irq : Bool) (h0 : n.Kept rs vk) :
    (Node.sendMore n t irq).Kept rs vk := by
  unfold Node.sendMore
  repeat' (first | with_reducible assumption | with_reducible rfl | with_reducible apply Node.dropTransfer_kept
                  | with_reducible apply Node.putTransfer_kept | with_reducible apply Node.odReply_kept | intro _ | dsimp -proj only
                  | exact @rfl (List Record) _ | exact @rfl (SMap (Option (BitVec 256))) _ | split)

theorem Node.takeMore_kept (n : Node) (t : Transfer) (seg : List Byte) (irq : Bool) (h0 : n.Kept rs vk) :
    (Node.takeMore n t seg irq).Kept rs vk := by
  unfold Node.takeMore
  repeat' (first | with_reducible assumption | with_reducible rfl | with_reducible apply Node.dropTransfer_kept
                  | with_reducible apply Node.putTransfer_kept | with_reducible apply Node.odEnd_kept | with_reducible apply Node.odAbort_kept
                  | with_reducible apply Node.applyWrite_kept | intro _ | dsimp -proj only | exact @rfl (List Record) _
                  | exact @rfl (SMap (Option (BitVec 256))) _ | split)

theorem Node.odNext_kept (n : Node) (q : OdAsk) (seg : List Byte) (irq full : Bool) (h0 : n.Kept rs vk) :
    (Node.odNext n q seg irq full).Kept rs vk := by
  unfold Node.odNext
  repeat' (first | with_reducible assumption | with_reducible rfl | with_reducible apply Node.dropTransfer_kept
                  | with_reducible apply Node.odAbort_kept | with_reducible apply Node.serveAt_kept | with_reducible apply Node.sendMore_kept
                  | with_reducible apply Node.takeMore_kept | intro _ | dsimp -proj only | exact @rfl (List Record) _
                  | exact @rfl (SMap (Option (BitVec 256))) _ | split)

theorem Node.odAbandon_kept (n : Node) (q : OdAsk) (irq full : Bool) (h0 : n.Kept rs vk) :
    (Node.odAbandon n q irq full).Kept rs vk := by
  unfold Node.odAbandon
  repeat' (first | with_reducible assumption | with_reducible rfl | with_reducible apply Node.dropTransfer_kept
                  | with_reducible apply Node.odEnd_kept | with_reducible apply Node.serveAt_kept | intro _)

theorem Node.odDescribe_kept (n : Node) (q : OdAsk) (irq full : Bool) (h0 : n.Kept rs vk) :
    (Node.odDescribe n q irq full).Kept rs vk := by
  unfold Node.odDescribe
  repeat' (first | with_reducible assumption | with_reducible rfl | with_reducible apply Node.putWords_kept
                  | with_reducible apply Node.odEnd_kept | with_reducible apply Node.odAbort_kept | with_reducible apply Node.odReply_kept
                  | with_reducible apply Node.serveAt_kept | intro _ | dsimp -proj only | exact @rfl (List Record) _
                  | exact @rfl (SMap (Option (BitVec 256))) _ | split)

theorem Node.serve_kept (n : Node) (q : OdAsk) (data : List Byte) (irq full : Bool) (h0 : n.Kept rs vk) :
    (Node.serve n q data irq full).Kept rs vk := by
  unfold Node.serve
  repeat' (first | with_reducible assumption | with_reducible rfl | with_reducible apply Node.when_kept
                  | with_reducible apply Node.odStartRead_kept | with_reducible apply Node.odStartWrite_kept
                  | with_reducible apply Node.odNext_kept | with_reducible apply Node.odAbandon_kept | with_reducible apply Node.odDescribe_kept
                  | intro _ | dsimp -proj only | exact @rfl (List Record) _ | exact @rfl (SMap (Option (BitVec 256))) _ | split)

theorem Node.countHeld_kept (n : Node) (k : Nat) (h0 : n.Kept rs vk) :
    (Node.countHeld n k).Kept rs vk := by
  unfold Node.countHeld
  repeat' (first | with_reducible assumption | with_reducible rfl | with_reducible apply Node.when_kept
                  | with_reducible apply Node.xabort_kept | intro _ | dsimp -proj only | exact @rfl (List Record) _
                  | exact @rfl (SMap (Option (BitVec 256))) _ | split)

theorem Node.readMap_kept (n : Node) (p : Path) (start count : Nat) (h0 : n.Kept rs vk) :
    (Node.readMap n p start count).Kept rs vk := by
  unfold Node.readMap
  repeat' (first | with_reducible assumption | with_reducible rfl | with_reducible apply Node.each_kept
                  | with_reducible apply Node.count_kept | with_reducible apply Node.odAbort_kept | with_reducible apply Node.odReply_kept
                  | with_reducible apply Node.countHeld_kept | intro _ | dsimp -proj only | exact @rfl (List Record) _
                  | exact @rfl (SMap (Option (BitVec 256))) _ | split)

theorem Node.writeMap_kept (n : Node) (p : Path) (start : Nat) (seg : List Byte) (h0 : n.Kept rs vk) :
    (Node.writeMap n p start seg).Kept rs vk := by
  unfold Node.writeMap
  repeat' (first | with_reducible assumption | with_reducible rfl | with_reducible apply Node.odAbort_kept
                  | with_reducible apply Node.applyWrite_kept | intro _ | dsimp -proj only | exact @rfl (List Record) _
                  | exact @rfl (SMap (Option (BitVec 256))) _ | split)

theorem Node.writeBox_kept (n : Node) (p : Path) (q start : Nat) (seg : List Byte) (full : Bool) (h0 : n.Kept rs vk) :
    (Node.writeBox n p q start seg full).Kept rs vk := by
  unfold Node.writeBox
  repeat' (first | with_reducible assumption | with_reducible rfl | with_reducible apply Node.setT15Box_kept
                  | with_reducible apply Node.odEnd_kept | with_reducible apply Node.odAbort_kept | with_reducible apply Node.odBusy_kept
                  | with_reducible apply Node.serve_kept | intro _ | dsimp -proj only | exact @rfl (List Record) _
                  | exact @rfl (SMap (Option (BitVec 256))) _ | split)

theorem Node.readRegs_kept (n : Node) (p : Path) (q start count : Nat) (full : Bool) (h0 : n.Kept rs vk) :
    (Node.readRegs n p q start count full).Kept rs vk := by
  unfold Node.readRegs
  repeat' (first | with_reducible assumption | with_reducible rfl | with_reducible apply Node.when_kept
                  | with_reducible apply Node.count_kept | with_reducible apply Node.setAsk_kept | with_reducible apply Node.odReply_kept
                  | with_reducible apply Node.serveAt_kept | with_reducible apply Node.readMap_kept | intro _ | dsimp -proj only
                  | exact @rfl (List Record) _ | exact @rfl (SMap (Option (BitVec 256))) _ | split)

theorem Node.writeRegs_kept (n : Node) (p : Path) (q start : Nat) (seg : List Byte) (full : Bool) (h0 : n.Kept rs vk) :
    (Node.writeRegs n p q start seg full).Kept rs vk := by
  unfold Node.writeRegs
  repeat' (first | with_reducible assumption | with_reducible rfl | with_reducible apply Node.when_kept
                  | with_reducible apply Node.count_kept | with_reducible apply Node.setAsk_kept | with_reducible apply Node.serveAt_kept
                  | with_reducible apply Node.writeMap_kept | with_reducible apply Node.writeBox_kept | intro _ | dsimp -proj only
                  | exact @rfl (List Record) _ | exact @rfl (SMap (Option (BitVec 256))) _ | split)

theorem execOdRead_kept (path : Path) (index : Half) (sub : Byte) (irq full : Bool) (regs : Option (Half × Half)) (s : State)
    (hs : s.node.Kept rs vk) (s' : State) (ht : execOdRead path index sub irq full regs s = .next s') :
    s'.node.Kept rs vk := by
  unfold execOdRead at ht
  refine State.upd_kept hs ?_ ht
  repeat' (first | with_reducible assumption | with_reducible rfl | with_reducible apply Node.onPath_kept
                  | with_reducible apply Node.serve_kept | with_reducible apply Node.readRegs_kept | intro _ | dsimp -proj only
                  | exact @rfl (List Record) _ | exact @rfl (SMap (Option (BitVec 256))) _ | split)

theorem execOdWrite_kept (path : Path) (index : Half) (sub : Byte) (total : Nat) (seg : List Byte) (irq full : Bool) (regs : Option Half)
    (s : State) (hs : s.node.Kept rs vk) (s' : State) (ht : execOdWrite path index sub total seg irq full regs s = .next s') :
    s'.node.Kept rs vk := by
  unfold execOdWrite at ht
  refine State.upd_kept hs ?_ ht
  repeat' (first | with_reducible assumption | with_reducible rfl | with_reducible apply Node.onPath_kept
                  | with_reducible apply Node.fillBox_kept | with_reducible apply Node.fillTotal_kept | with_reducible apply Node.serve_kept
                  | with_reducible apply Node.writeRegs_kept | intro _ | dsimp -proj only | exact @rfl (List Record) _
                  | exact @rfl (SMap (Option (BitVec 256))) _ | split)

theorem execOdNextSegment_kept (path : Path) (toggle : Bool) (seg : List Byte) (irq full : Bool) (s : State) (hs : s.node.Kept rs vk) (s' : State)
    (ht : execOdNextSegment path toggle seg irq full s = .next s') :
    s'.node.Kept rs vk := by
  unfold execOdNextSegment at ht
  refine State.upd_kept hs ?_ ht
  repeat' (first | with_reducible assumption | with_reducible rfl | with_reducible apply Node.when_kept
                  | with_reducible apply Node.onPath_kept | with_reducible apply Node.fillBox_kept | with_reducible apply Node.serve_kept
                  | intro _)

theorem execOdAbortTransfer_kept (path : Path) (s : State) (hs : s.node.Kept rs vk) (s' : State) (ht : execOdAbortTransfer path s = .next s') :
    s'.node.Kept rs vk := by
  unfold execOdAbortTransfer at ht
  refine State.upd_kept hs ?_ ht
  repeat' (first | with_reducible assumption | with_reducible rfl | with_reducible apply Node.onPath_kept
                  | with_reducible apply Node.serve_kept | intro _)

theorem execOdDescribe_kept (path : Path) (index : Half) (sub : Byte) (irq full : Bool) (s : State) (hs : s.node.Kept rs vk) (s' : State)
    (ht : execOdDescribe path index sub irq full s = .next s') :
    s'.node.Kept rs vk := by
  unfold execOdDescribe at ht
  refine State.upd_kept hs ?_ ht
  repeat' (first | with_reducible assumption | with_reducible rfl | with_reducible apply Node.onPath_kept
                  | with_reducible apply Node.serve_kept | intro _)

theorem execSegmentTimeout_kept (path : Path) (s : State) (hs : s.node.Kept rs vk) (s' : State) (ht : execSegmentTimeout path s = .next s') :
    s'.node.Kept rs vk := by
  unfold execSegmentTimeout at ht
  refine State.upd_kept hs ?_ ht
  repeat' (first | with_reducible assumption | with_reducible rfl | with_reducible apply Node.when_kept
                  | with_reducible apply Node.count_kept | with_reducible apply Node.raise_kept | with_reducible apply Node.dropTransfer_kept
                  | with_reducible apply Node.odAbort_kept | intro _ | dsimp -proj only | exact @rfl (List Record) _
                  | exact @rfl (SMap (Option (BitVec 256))) _ | split)

theorem execAuthChallengeRead_kept (path : Path) (s : State) (hs : s.node.Kept rs vk) (s' : State) (ht : execAuthChallengeRead path s = .next s') :
    s'.node.Kept rs vk := by
  unfold execAuthChallengeRead at ht
  refine State.upd_kept hs ?_ ht
  repeat' (first | with_reducible assumption | with_reducible rfl | with_reducible apply Node.onPath_kept
                  | with_reducible apply Node.serve_kept | intro _)

theorem execAuthRoleRequest_kept (path : Path) (role : Byte) (s : State) (hs : s.node.Kept rs vk) (s' : State)
    (ht : execAuthRoleRequest path role s = .next s') :
    s'.node.Kept rs vk := by
  unfold execAuthRoleRequest at ht
  refine State.upd_kept hs ?_ ht
  repeat' (first | with_reducible assumption | with_reducible rfl | with_reducible apply Node.onPath_kept
                  | with_reducible apply Node.serve_kept | intro _)

theorem execAuthResponse_kept (path : Path) (response : BitVec 256) (s : State) (hs : s.node.Kept rs vk) (s' : State)
    (ht : execAuthResponse path response s = .next s') :
    s'.node.Kept rs vk := by
  unfold execAuthResponse at ht
  refine State.upd_kept hs ?_ ht
  repeat' (first | with_reducible assumption | with_reducible rfl | with_reducible apply Node.onPath_kept
                  | with_reducible apply Node.serve_kept | intro _)

theorem execRestoreDefaults_kept (path : Path) (v : Half) (s : State) (hs : s.node.Kept rs vk) (s' : State)
    (ht : execRestoreDefaults path v s = .next s') :
    s'.node.Kept rs vk := by
  unfold execRestoreDefaults at ht
  refine State.upd_kept hs ?_ ht
  repeat' (first | with_reducible assumption | with_reducible rfl | with_reducible apply Node.onPath_kept
                  | with_reducible apply Node.serve_kept | intro _)

theorem execAuthLockExpiry_kept (path : Path) (s : State) (hs : s.node.Kept rs vk) (s' : State) (ht : execAuthLockExpiry path s = .next s') :
    s'.node.Kept rs vk := by
  unfold execAuthLockExpiry at ht
  refine State.upd_kept hs ?_ ht
  repeat' (first | with_reducible assumption | with_reducible rfl | intro _ | dsimp -proj only | exact @rfl (List Record) _
                  | exact @rfl (SMap (Option (BitVec 256))) _ | split | with_reducible apply mk_kept)

theorem execSessionIdleLapse_kept (path : Path) (s : State) (hs : s.node.Kept rs vk) (s' : State) (ht : execSessionIdleLapse path s = .next s') :
    s'.node.Kept rs vk := by
  unfold execSessionIdleLapse at ht
  refine State.upd_kept hs ?_ ht
  repeat' (first | with_reducible assumption | with_reducible rfl | with_reducible apply Node.when_kept
                  | with_reducible apply Node.lapse_kept | intro _)

theorem Node.closePath_kept (n : Node) (p : Path) (h0 : n.Kept rs vk) :
    (Node.closePath n p).Kept rs vk := by
  unfold Node.closePath
  repeat' (first | with_reducible assumption | with_reducible rfl | with_reducible apply Node.endSession_kept
                  | with_reducible apply Node.dropWaits_kept | with_reducible apply Node.dropTransfer_kept | with_reducible apply Node.lapse_kept)

theorem execConnectionClosed_kept (path : Path) (s : State) (hs : s.node.Kept rs vk) (s' : State) (ht : execConnectionClosed path s = .next s') :
    s'.node.Kept rs vk := by
  unfold execConnectionClosed at ht
  refine State.upd_kept hs ?_ ht
  repeat' (first | with_reducible assumption | with_reducible rfl | with_reducible apply Node.when_kept
                  | with_reducible apply Node.closePath_kept | intro _)

theorem execMaintMessage_kept (conn : Nat) (counter : DWord) (tagOk : Bool) (op : Byte) (toggle : Bool) (index : Half) (sub : Byte) (total : Nat)
    (data : List Byte) (s : State) (hs : s.node.Kept rs vk) (s' : State)
    (ht : execMaintMessage conn counter tagOk op toggle index sub total data s = .next s') :
    s'.node.Kept rs vk := by
  unfold execMaintMessage at ht
  refine State.upd_kept hs ?_ ht
  repeat' (first | with_reducible assumption | with_reducible rfl | with_reducible apply Node.when_kept
                  | with_reducible apply Node.count_kept | with_reducible apply Node.raise_kept | with_reducible apply Node.setSession_kept
                  | with_reducible apply Node.serve_kept | with_reducible apply Node.closePath_kept | intro _ | dsimp -proj only
                  | exact @rfl (List Record) _ | exact @rfl (SMap (Option (BitVec 256))) _ | split)

theorem Node.trdpServe_kept (n : Node) (t : Telegram) (h0 : n.Kept rs vk) :
    (Node.trdpServe n t).Kept rs vk := by
  unfold Node.trdpServe
  repeat' (first | with_reducible assumption | with_reducible rfl | with_reducible apply Node.when_kept
                  | with_reducible apply Node.serve_kept | intro _)

theorem execMdRequestReceived_kept (t : Telegram) (s : State) (hs : s.node.Kept rs vk) (s' : State) (ht : execMdRequestReceived t s = .next s') :
    s'.node.Kept rs vk := by
  unfold execMdRequestReceived at ht
  refine State.upd_kept hs ?_ ht
  repeat' (first | with_reducible assumption | with_reducible rfl | with_reducible apply Node.when_kept
                  | with_reducible apply Node.arriveMd_kept | with_reducible apply Node.forVintner_kept | with_reducible apply Node.request_kept
                  | with_reducible apply Node.trdpServe_kept | intro _)

theorem Node.mailCommand_kept (n : Node) (m : Nat) (v : Word) (h0 : n.Kept rs vk) :
    (Node.mailCommand n m v).Kept rs vk := by
  unfold Node.mailCommand
  repeat' (first | with_reducible assumption | with_reducible rfl | with_reducible apply Node.when_kept
                  | with_reducible apply Node.serve_kept | intro _)

theorem Node.putWhole_kept (n : Node) (by_ : Initiator) (a : Nat) (v : Word) (h0 : n.Kept rs vk) :
    (Node.putWhole n by_ a v).1.Kept rs vk := by
  unfold Node.putWhole
  repeat' (first | with_reducible assumption | with_reducible rfl | with_reducible apply Node.xabort_kept
                  | with_reducible apply Node.dropHeld_kept | with_reducible apply Node.assign_kept | with_reducible apply Node.mailCommand_kept
                  | intro _ | dsimp -proj only | exact @rfl (List Record) _ | exact @rfl (SMap (Option (BitVec 256))) _ | split)

theorem Node.putPart_kept (n : Node) (by_ : Initiator) (a k : Nat) (data : List Byte) (h0 : n.Kept rs vk) :
    (Node.putPart n by_ a k data).1.Kept rs vk := by
  unfold Node.putPart
  repeat' (first | with_reducible assumption | with_reducible rfl | with_reducible apply Node.assign_kept
                  | with_reducible apply Node.narrow_kept | with_reducible apply Node.putWhole_kept | intro _ | dsimp -proj only
                  | exact @rfl (List Record) _ | exact @rfl (SMap (Option (BitVec 256))) _ | split)

theorem Node.putBlock_kept (n : Node) (by_ : Initiator) (a : Nat) (data : List Byte) (h0 : n.Kept rs vk) :
    (Node.putBlock n by_ a data).1.Kept rs vk := by
  unfold Node.putBlock
  repeat' (first | with_reducible assumption | with_reducible rfl | with_reducible apply Node.xabort_kept
                  | with_reducible apply Node.dropHeld_kept | with_reducible apply Node.bufferBytes_kept | with_reducible apply Node.putPart_kept
                  | with_reducible apply foldl_kept | with_reducible apply foldlPair_kept | intro _ | dsimp -proj only
                  | exact @rfl (List Record) _ | exact @rfl (SMap (Option (BitVec 256))) _ | split)

theorem Node.putSpan_kept (n : Node) (by_ : Initiator) (a : Nat) (data : List Byte) (h0 : n.Kept rs vk) :
    (Node.putSpan n by_ a data).1.Kept rs vk := by
  unfold Node.putSpan
  repeat' (first | with_reducible assumption | with_reducible rfl | with_reducible apply Node.putBlock_kept
                  | with_reducible apply foldl_kept | with_reducible apply foldlPair_kept | intro _ | dsimp -proj only
                  | exact @rfl (List Record) _ | exact @rfl (SMap (Option (BitVec 256))) _ | split)

theorem Node.getSpan_kept (n : Node) (by_ : Initiator) (a len : Nat) (h0 : n.Kept rs vk) :
    (Node.getSpan n by_ a len).1.Kept rs vk := by
  unfold Node.getSpan
  repeat' (first | with_reducible assumption | with_reducible rfl | with_reducible apply Node.fetch_kept
                  | with_reducible apply foldl_kept | with_reducible apply foldlPair_kept | intro _ | dsimp -proj only
                  | exact @rfl (List Record) _ | exact @rfl (SMap (Option (BitVec 256))) _ | split)

theorem execRegisterWrite_kept (by_ : Initiator) (addr : Nat) (v : Word) (s : State) (hs : s.node.Kept rs vk) (s' : State)
    (ht : execRegisterWrite by_ addr v s = .next s') :
    s'.node.Kept rs vk := by
  unfold execRegisterWrite at ht
  refine State.upd_kept hs ?_ ht
  repeat' (first | with_reducible assumption | with_reducible rfl | with_reducible apply Node.putWhole_kept | intro _
                  | dsimp -proj only | exact @rfl (List Record) _ | exact @rfl (SMap (Option (BitVec 256))) _ | split)

theorem Node.imageBytes_kept (n : Node) (a : Nat) (bytes : List Byte) (h0 : n.Kept rs vk) :
    (Node.imageBytes n a bytes).Kept rs vk := by
  unfold Node.imageBytes
  repeat' (first | with_reducible assumption | with_reducible rfl | with_reducible apply Node.when_kept
                  | with_reducible apply Node.each_kept | with_reducible apply Node.count_kept | with_reducible apply Node.putBytes_kept
                  | with_reducible apply Node.outExchange_kept | intro _ | dsimp -proj only | exact @rfl (List Record) _
                  | exact @rfl (SMap (Option (BitVec 256))) _ | split)

theorem Node.boxBytes_kept (n : Node) (a : Nat) (bytes : List Byte) (h0 : n.Kept rs vk) :
    (Node.boxBytes n a bytes).Kept rs vk := by
  unfold Node.boxBytes
  repeat' (first | with_reducible assumption | with_reducible rfl | with_reducible apply Node.each_kept
                  | with_reducible apply Node.count_kept | with_reducible apply Node.putBytes_kept | with_reducible apply Node.raise_kept
                  | with_reducible apply Node.storeReg_kept | with_reducible apply Node.mailCommand_kept | intro _ | dsimp -proj only
                  | exact @rfl (List Record) _ | exact @rfl (SMap (Option (BitVec 256))) _ | split)

theorem Node.storeBytes_kept (n : Node) (a : Nat) (bytes : List Byte) (h0 : n.Kept rs vk) :
    (Node.storeBytes n a bytes).Kept rs vk := by
  unfold Node.storeBytes
  repeat' (first | with_reducible assumption | with_reducible rfl | with_reducible apply Node.each_kept
                  | with_reducible apply Node.hostSignal_kept | intro _)

theorem Node.stagingBytes_kept (n : Node) (owner : FabricOwner) (a : Nat) (bytes : List Byte) (h0 : n.Kept rs vk) :
    (Node.stagingBytes n owner a bytes).Kept rs vk := by
  unfold Node.stagingBytes
  repeat' (first | with_reducible assumption | with_reducible rfl | with_reducible apply Node.each_kept
                  | with_reducible apply Node.putCommand_kept | with_reducible apply Node.hostCommand_kept | intro _ | dsimp -proj only
                  | exact @rfl (List Record) _ | exact @rfl (SMap (Option (BitVec 256))) _ | split)

theorem Node.engineWrite_kept (n : Node) (owner : FabricOwner) (target : FabricTarget) (ofs : Nat) (bytes : List Byte) (h0 : n.Kept rs vk) :
    (Node.engineWrite n owner target ofs bytes).Kept rs vk := by
  unfold Node.engineWrite
  repeat' (first | with_reducible assumption | with_reducible rfl | with_reducible apply Node.putBytes_kept
                  | with_reducible apply Node.bufferBytes_kept | with_reducible apply Node.imageBytes_kept
                  | with_reducible apply Node.boxBytes_kept | with_reducible apply Node.storeBytes_kept
                  | with_reducible apply Node.stagingBytes_kept | intro _ | dsimp -proj only | exact @rfl (List Record) _
                  | exact @rfl (SMap (Option (BitVec 256))) _ | split)

theorem Node.fabricMove_kept (n : Node) (owner : FabricOwner) (target : FabricTarget) (write : Bool) (ofs : Nat) (bytes : List Byte) (len : Nat)
    (h0 : n.Kept rs vk) :
    (Node.fabricMove n owner target write ofs bytes len).Kept rs vk := by
  unfold Node.fabricMove
  repeat' (first | with_reducible assumption | with_reducible rfl | with_reducible apply Node.emit_kept
                  | with_reducible apply Node.putSpan_kept | with_reducible apply Node.getSpan_kept | with_reducible apply Node.engineWrite_kept
                  | intro _ | dsimp -proj only | exact @rfl (List Record) _ | exact @rfl (SMap (Option (BitVec 256))) _ | split)

theorem Node.fabricFails_kept (n : Node) (owner : FabricOwner) (target : FabricTarget) (write : Bool) (ofs len : Nat) (h0 : n.Kept rs vk) :
    (Node.fabricFails n owner target write ofs len).Kept rs vk := by
  unfold Node.fabricFails
  repeat' (first | with_reducible assumption | with_reducible rfl | with_reducible apply Node.when_kept
                  | with_reducible apply Node.each_kept | with_reducible apply Node.emit_kept | with_reducible apply Node.xabort_kept | intro _)

theorem Node.fabricTurn_kept (n : Node) (owner : FabricOwner) (h0 : n.Kept rs vk) :
    (Node.fabricTurn n owner).Kept rs vk := by
  unfold Node.fabricTurn
  repeat' (first | with_reducible assumption | with_reducible rfl | intro _ | dsimp -proj only | exact @rfl (List Record) _
                  | exact @rfl (SMap (Option (BitVec 256))) _ | split | with_reducible apply mk_kept)

theorem execFabricTransaction_kept (owner : FabricOwner) (slot : Fin 16) (target : FabricTarget) (write : Bool) (ofs : Nat) (bytes : List Byte)
    (len : Nat) (s : State) (hs : s.node.Kept rs vk) (s' : State) (ht : execFabricTransaction owner slot target write ofs bytes len s = .next s') :
    s'.node.Kept rs vk := by
  unfold execFabricTransaction at ht
  refine State.upd_kept hs ?_ ht
  repeat' (first | with_reducible assumption | with_reducible rfl | with_reducible apply Node.when_kept
                  | with_reducible apply Node.each_kept | with_reducible apply Node.emit_kept | with_reducible apply Node.fabricMove_kept
                  | with_reducible apply Node.fabricFails_kept | with_reducible apply Node.fabricTurn_kept | intro _ | dsimp -proj only
                  | exact @rfl (List Record) _ | exact @rfl (SMap (Option (BitVec 256))) _ | split)

theorem Node.sendOnVp_kept (n : Node) (e : Emission) (h0 : n.Kept rs vk) :
    (Node.sendOnVp n e).Kept rs vk := by
  unfold Node.sendOnVp
  repeat' (first | with_reducible assumption | with_reducible rfl | with_reducible apply Node.when_kept
                  | with_reducible apply Node.emit_kept | intro _)

theorem execRemoteRequest_kept (src : Ip) (write : Bool) (ofs len : Nat) (data : List Byte) (s : State) (hs : s.node.Kept rs vk) (s' : State)
    (ht : execRemoteRequest src write ofs len data s = .next s') :
    s'.node.Kept rs vk := by
  unfold execRemoteRequest at ht
  refine State.upd_kept hs ?_ ht
  repeat' (first | with_reducible assumption | with_reducible rfl | with_reducible apply Node.when_kept
                  | with_reducible apply Node.count_kept | with_reducible apply Node.raise_kept | with_reducible apply Node.putSpan_kept
                  | with_reducible apply Node.getSpan_kept | with_reducible apply Node.sendOnVp_kept | intro _ | dsimp -proj only
                  | exact @rfl (List Record) _ | exact @rfl (SMap (Option (BitVec 256))) _ | split)

theorem Node.addLine_kept (n : Node) (l : PrefetchLine) (h0 : n.Kept rs vk) :
    (Node.addLine n l).Kept rs vk := by
  unfold Node.addLine
  repeat' (first | with_reducible assumption | with_reducible rfl | with_reducible apply Node.when_kept
                  | with_reducible apply Node.dropLines_kept | intro _ | dsimp -proj only | exact @rfl (List Record) _
                  | exact @rfl (SMap (Option (BitVec 256))) _ | split | with_reducible apply mk_kept)

theorem Node.lineRead_kept (n : Node) (l : PrefetchLine) (h0 : n.Kept rs vk) :
    (Node.lineRead n l).Kept rs vk := by
  unfold Node.lineRead
  repeat' (first | with_reducible assumption | with_reducible rfl | intro _ | dsimp -proj only | exact @rfl (List Record) _
                  | exact @rfl (SMap (Option (BitVec 256))) _ | split | with_reducible apply mk_kept)

theorem Node.prefetchBar0_kept (n : Node) (ofs len : Nat) (h0 : n.Kept rs vk) :
    (Node.prefetchBar0 n ofs len).Kept rs vk := by
  unfold Node.prefetchBar0
  repeat' (first | with_reducible assumption | with_reducible rfl | with_reducible apply Node.when_kept
                  | with_reducible apply Node.count_kept | with_reducible apply Node.getSpan_kept | with_reducible apply Node.addLine_kept
                  | intro _ | dsimp -proj only | exact @rfl (List Record) _ | exact @rfl (SMap (Option (BitVec 256))) _ | split)

theorem Node.prefetchBar2_kept (n : Node) (ofs len : Nat) (extra : List Byte) (effect : Bool) (h0 : n.Kept rs vk) :
    (Node.prefetchBar2 n ofs len extra effect).Kept rs vk := by
  unfold Node.prefetchBar2
  repeat' (first | with_reducible assumption | with_reducible rfl | with_reducible apply Node.when_kept
                  | with_reducible apply Node.addLine_kept | intro _)

theorem Node.remoteFailed_kept (n : Node) (ofs : Nat) (h0 : n.Kept rs vk) :
    (Node.remoteFailed n ofs).Kept rs vk := by
  unfold Node.remoteFailed
  repeat' (first | with_reducible assumption | with_reducible rfl | with_reducible apply Node.count_kept
                  | with_reducible apply Node.raise_kept)

theorem Node.toField_kept (n : Node) (ofs len : Nat) (write : Bool) (far : FarReply) (h0 : n.Kept rs vk) :
    (Node.toField n ofs len write far).Kept rs vk := by
  unfold Node.toField
  repeat' (first | with_reducible assumption | with_reducible rfl | with_reducible apply Node.xabort_kept
                  | with_reducible apply Node.fieldParts_kept | intro _ | dsimp -proj only | exact @rfl (List Record) _
                  | exact @rfl (SMap (Option (BitVec 256))) _ | split)

theorem Node.sendRemote_kept (n : Node) (a ofs len : Nat) (write : Bool) (data : List Byte) (h0 : n.Kept rs vk) :
    (Node.sendRemote n a ofs len write data).Kept rs vk := by
  unfold Node.sendRemote
  repeat' (first | with_reducible assumption | with_reducible rfl | with_reducible apply Node.when_kept
                  | with_reducible apply Node.took_kept | with_reducible apply Node.emit_kept | with_reducible apply Node.inject_kept | intro _)

theorem Node.toRemote_kept (n : Node) (ofs len : Nat) (write : Bool) (data : List Byte) (far : FarReply) (h0 : n.Kept rs vk) :
    (Node.toRemote n ofs len write data far).Kept rs vk := by
  unfold Node.toRemote
  repeat' (first | with_reducible assumption | with_reducible rfl | with_reducible apply Node.each_kept
                  | with_reducible apply Node.remoteFailed_kept | with_reducible apply Node.sendRemote_kept | intro _ | dsimp -proj only
                  | exact @rfl (List Record) _ | exact @rfl (SMap (Option (BitVec 256))) _ | split)

theorem Node.toFar_kept (n : Node) (ofs len : Nat) (write : Bool) (data : List Byte) (far : FarReply) (h0 : n.Kept rs vk) :
    (Node.toFar n ofs len write data far).Kept rs vk := by
  unfold Node.toFar
  repeat' (first | with_reducible assumption | with_reducible rfl | with_reducible apply Node.toField_kept
                  | with_reducible apply Node.toRemote_kept | intro _ | dsimp -proj only | exact @rfl (List Record) _
                  | exact @rfl (SMap (Option (BitVec 256))) _ | split)

theorem Node.bar0Error_kept (n : Node) (ofs len done : Nat) (h0 : n.Kept rs vk) :
    (Node.bar0Error n ofs len done).1.Kept rs vk := by
  unfold Node.bar0Error
  repeat' (first | with_reducible assumption | with_reducible rfl | with_reducible apply Node.getSpan_kept)

theorem Node.hostFetch_kept (n : Node) (bar : Bar) (ofs len : Nat) (far : FarReply) (h0 : n.Kept rs vk) :
    (Node.hostFetch n bar ofs len far).1.Kept rs vk := by
  unfold Node.hostFetch
  repeat' (first | with_reducible assumption | with_reducible rfl | with_reducible apply Node.getSpan_kept
                  | with_reducible apply Node.lineRead_kept | with_reducible apply Node.prefetchBar0_kept
                  | with_reducible apply Node.prefetchBar2_kept | with_reducible apply Node.toFar_kept | with_reducible apply Node.bar0Error_kept
                  | intro _ | dsimp -proj only | exact @rfl (List Record) _ | exact @rfl (SMap (Option (BitVec 256))) _ | split)

theorem Node.outstanding_kept (n : Node) (bar : Bar) (ofs len : Nat) (data : Option (List Byte)) (h0 : n.Kept rs vk) :
    (Node.outstanding n bar ofs len data).Kept rs vk := by
  unfold Node.outstanding
  repeat' (first | with_reducible assumption | with_reducible rfl | intro _ | dsimp -proj only | exact @rfl (List Record) _
                  | exact @rfl (SMap (Option (BitVec 256))) _ | split | with_reducible apply mk_kept)

theorem Node.remoteDone_kept (n : Node) (bar : Bar) (ofs : Nat) (h0 : n.Kept rs vk) :
    (Node.remoteDone n bar ofs).Kept rs vk := by
  unfold Node.remoteDone
  repeat' (first | with_reducible assumption | with_reducible rfl | with_reducible apply Node.when_kept | intro _
                  | dsimp -proj only | exact @rfl (List Record) _ | exact @rfl (SMap (Option (BitVec 256))) _ | split
                  | with_reducible apply mk_kept)

theorem execHostRead_kept (bar : Bar) (ofs len : Nat) (far : FarReply) (s : State) (hs : s.node.Kept rs vk) (s' : State)
    (ht : execHostRead bar ofs len far s = .next s') :
    s'.node.Kept rs vk := by
  unfold execHostRead at ht
  refine State.upd_kept hs ?_ ht
  repeat' (first | with_reducible assumption | with_reducible rfl | with_reducible apply Node.when_kept
                  | with_reducible apply Node.emit_kept | with_reducible apply Node.endRun_kept | with_reducible apply Node.hostFetch_kept
                  | with_reducible apply Node.outstanding_kept | with_reducible apply Node.remoteDone_kept | intro _ | dsimp -proj only
                  | exact @rfl (List Record) _ | exact @rfl (SMap (Option (BitVec 256))) _ | split)

theorem execLateRead_kept (ofs : Nat) (s : State) (hs : s.node.Kept rs vk) (s' : State) (ht : execLateRead ofs s = .next s') :
    s'.node.Kept rs vk := by
  unfold execLateRead at ht
  refine State.upd_kept hs ?_ ht
  repeat' (first | with_reducible assumption | with_reducible rfl | with_reducible apply Node.when_kept
                  | with_reducible apply Node.putWord_kept | with_reducible apply Node.count_kept | with_reducible apply Node.emit_kept
                  | with_reducible apply Node.raiseFirst_kept | with_reducible apply Node.remoteFailed_kept
                  | with_reducible apply Node.remoteDone_kept | intro _ | dsimp -proj only | exact @rfl (List Record) _
                  | exact @rfl (SMap (Option (BitVec 256))) _ | split | with_reducible apply mk_kept)

theorem Node.bar4Write_kept (n : Node) (o : Nat) (data : List Byte) (h0 : n.Kept rs vk) :
    (Node.bar4Write n o data).Kept rs vk := by
  unfold Node.bar4Write
  repeat' (first | with_reducible assumption | with_reducible rfl | with_reducible apply Node.when_kept
                  | with_reducible apply Node.each_kept | with_reducible apply Node.sendPending_kept | intro _ | dsimp -proj only
                  | exact @rfl (List Record) _ | exact @rfl (SMap (Option (BitVec 256))) _ | split | with_reducible apply mk_kept)

theorem Node.hostPut_kept (n : Node) (bar : Bar) (ofs : Nat) (data : List Byte) (far : FarReply) (h0 : n.Kept rs vk) :
    (Node.hostPut n bar ofs data far).1.Kept rs vk := by
  unfold Node.hostPut
  repeat' (first | with_reducible assumption | with_reducible rfl | with_reducible apply Node.dropHeld_kept
                  | with_reducible apply Node.putSpan_kept | with_reducible apply Node.toFar_kept | with_reducible apply Node.remoteDone_kept
                  | with_reducible apply Node.bar4Write_kept | intro _ | dsimp -proj only | exact @rfl (List Record) _
                  | exact @rfl (SMap (Option (BitVec 256))) _ | split)

theorem Node.npFailed_kept (n : Node) (a : Nat) (h0 : n.Kept rs vk) :
    (Node.npFailed n a).Kept rs vk := by
  unfold Node.npFailed
  repeat' (first | with_reducible assumption | with_reducible rfl | with_reducible apply Node.putWord_kept
                  | with_reducible apply Node.count_kept | with_reducible apply Node.raise_kept)

theorem Node.hostStore_kept (n : Node) (bar : Bar) (ofs : Nat) (data : List Byte) (far : FarReply) (h0 : n.Kept rs vk) :
    (Node.hostStore n bar ofs data far).Kept rs vk := by
  unfold Node.hostStore
  repeat' (first | with_reducible assumption | with_reducible rfl | with_reducible apply Node.when_kept
                  | with_reducible apply Node.count_kept | with_reducible apply Node.raiseFirst_kept | with_reducible apply Node.endRun_kept
                  | with_reducible apply Node.dropLines_kept | with_reducible apply Node.hostPut_kept | with_reducible apply Node.npFailed_kept
                  | intro _ | dsimp -proj only | exact @rfl (List Record) _ | exact @rfl (SMap (Option (BitVec 256))) _ | split)

theorem execHostWrite_kept (bar : Bar) (ofs : Nat) (data : List Byte) (far : FarReply) (s : State) (hs : s.node.Kept rs vk) (s' : State)
    (ht : execHostWrite bar ofs data far s = .next s') :
    s'.node.Kept rs vk := by
  unfold execHostWrite at ht
  refine State.upd_kept hs ?_ ht
  repeat' (first | with_reducible assumption | with_reducible rfl | with_reducible apply Node.when_kept
                  | with_reducible apply Node.hostStore_kept | intro _)

theorem Node.qspiAnswer_kept (n : Node) (status : Byte) (data : List Byte) (h0 : n.Kept rs vk) :
    (Node.qspiAnswer n status data).Kept rs vk := by
  unfold Node.qspiAnswer
  repeat' (first | with_reducible assumption | with_reducible rfl | with_reducible apply Node.emit_kept | intro _
                  | dsimp -proj only | exact @rfl (List Record) _ | exact @rfl (SMap (Option (BitVec 256))) _ | split
                  | with_reducible apply mk_kept)

theorem Node.qspiProgress_kept (n : Node) (d : DelayedRead) (far : FarReply) (h0 : n.Kept rs vk) :
    (Node.qspiProgress n d far).Kept rs vk := by
  unfold Node.qspiProgress
  repeat' (first | with_reducible assumption | with_reducible rfl | with_reducible apply Node.prefetchBar2_kept | intro _
                  | dsimp -proj only | exact @rfl (List Record) _ | exact @rfl (SMap (Option (BitVec 256))) _ | split
                  | with_reducible apply mk_kept)

theorem Node.qspiFence_kept (n : Node) (bar : Bar) (ofs : Nat) (far : FarReply) (h0 : n.Kept rs vk) :
    (Node.qspiFence n bar ofs far).Kept rs vk := by
  unfold Node.qspiFence
  repeat' (first | with_reducible assumption | with_reducible rfl | with_reducible apply Node.npFailed_kept
                  | with_reducible apply Node.qspiAnswer_kept | intro _ | dsimp -proj only | exact @rfl (List Record) _
                  | exact @rfl (SMap (Option (BitVec 256))) _ | split | with_reducible apply mk_kept)

theorem execQspiRead_kept (command : Byte) (addr : Word) (cut : Bool) (far : FarReply) (s : State) (hs : s.node.Kept rs vk) (s' : State)
    (ht : execQspiRead command addr cut far s = .next s') :
    s'.node.Kept rs vk := by
  unfold execQspiRead at ht
  refine State.upd_kept hs ?_ ht
  repeat' (first | with_reducible assumption | with_reducible rfl | with_reducible apply Node.when_kept
                  | with_reducible apply Node.count_kept | with_reducible apply Node.hostFetch_kept | with_reducible apply Node.outstanding_kept
                  | with_reducible apply Node.qspiAnswer_kept | with_reducible apply Node.qspiProgress_kept
                  | with_reducible apply Node.qspiFence_kept | intro _ | dsimp -proj only | exact @rfl (List Record) _
                  | exact @rfl (SMap (Option (BitVec 256))) _ | split | with_reducible apply mk_kept)

theorem execQspiWrite_kept (addr : Word) (data : List Byte) (cut room : Bool) (far : FarReply) (s : State) (hs : s.node.Kept rs vk) (s' : State)
    (ht : execQspiWrite addr data cut room far s = .next s') :
    s'.node.Kept rs vk := by
  unfold execQspiWrite at ht
  refine State.upd_kept hs ?_ ht
  repeat' (first | with_reducible assumption | with_reducible rfl | with_reducible apply Node.when_kept
                  | with_reducible apply Node.hostStore_kept | with_reducible apply Node.qspiAnswer_kept
                  | with_reducible apply Node.qspiFence_kept | intro _ | dsimp -proj only | exact @rfl (List Record) _
                  | exact @rfl (SMap (Option (BitVec 256))) _ | split | with_reducible apply mk_kept)

theorem execQspiDiscardExpiry_kept (slot : Nat) (s : State) (hs : s.node.Kept rs vk) (s' : State) (ht : execQspiDiscardExpiry slot s = .next s') :
    s'.node.Kept rs vk := by
  unfold execQspiDiscardExpiry at ht
  refine State.upd_kept hs ?_ ht
  repeat' (first | with_reducible assumption | with_reducible rfl | with_reducible apply Node.when_kept
                  | with_reducible apply Node.count_kept | with_reducible apply Node.raise_kept | intro _ | dsimp -proj only
                  | exact @rfl (List Record) _ | exact @rfl (SMap (Option (BitVec 256))) _ | split | with_reducible apply mk_kept)

theorem tick_kept (n : Node) (h0 : n.Kept rs vk) :
    (tick n).Kept rs vk := by
  unfold tick
  repeat' (first | with_reducible assumption | with_reducible rfl | with_reducible apply Node.when_kept
                  | with_reducible apply Node.wheelStart_kept | intro _ | dsimp -proj only | exact @rfl (List Record) _
                  | exact @rfl (SMap (Option (BitVec 256))) _ | split | with_reducible apply mk_kept)

end Sys2Proof.Machine
end

