-- ==== Sys2Proof/Laws/State.lean ====
section
/-! SUPPORT. What each named operation leaves alone: one lemma for each field of the node that an operation does not change. -/

namespace Sys2Proof.Machine

variable (n : Node)

/-! `putWord` -/

@[simp] theorem Node.putWord_power (a : Nat) (v : Word) : (n.putWord a v).power = n.power := rfl
@[simp] theorem Node.putWord_supply (a : Nat) (v : Word) : (n.putWord a v).supply = n.supply := rfl
@[simp] theorem Node.putWord_pins (a : Nat) (v : Word) : (n.putWord a v).pins = n.pins := rfl
@[simp] theorem Node.putWord_commits (a : Nat) (v : Word) : (n.putWord a v).commits = n.commits := rfl
@[simp] theorem Node.putWord_mc (a : Nat) (v : Word) : (n.putWord a v).mc = n.mc := rfl
@[simp] theorem Node.putWord_faults (a : Nat) (v : Word) : (n.putWord a v).faults = n.faults := rfl
@[simp] theorem Node.putWord_runs (a : Nat) (v : Word) : (n.putWord a v).runs = n.runs := rfl
@[simp] theorem Node.putWord_hiLatch (a : Nat) (v : Word) : (n.putWord a v).hiLatch = n.hiLatch := rfl
@[simp] theorem Node.putWord_winLatch (a : Nat) (v : Word) : (n.putWord a v).winLatch = n.winLatch := rfl
@[simp] theorem Node.putWord_timeLatch (a : Nat) (v : Word) : (n.putWord a v).timeLatch = n.timeLatch := rfl
@[simp] theorem Node.putWord_book (a : Nat) (v : Word) : (n.putWord a v).book = n.book := rfl
@[simp] theorem Node.putWord_trellis (a : Nat) (v : Word) : (n.putWord a v).trellis = n.trellis := rfl
@[simp] theorem Node.putWord_cellar (a : Nat) (v : Word) : (n.putWord a v).cellar = n.cellar := rfl
@[simp] theorem Node.putWord_ports (a : Nat) (v : Word) : (n.putWord a v).ports = n.ports := rfl
@[simp] theorem Node.putWord_ina (a : Nat) (v : Word) : (n.putWord a v).ina = n.ina := rfl
@[simp] theorem Node.putWord_flows (a : Nat) (v : Word) : (n.putWord a v).flows = n.flows := rfl
@[simp] theorem Node.putWord_sessions (a : Nat) (v : Word) : (n.putWord a v).sessions = n.sessions := rfl
@[simp] theorem Node.putWord_mdStarted (a : Nat) (v : Word) : (n.putWord a v).mdStarted = n.mdStarted := rfl
@[simp] theorem Node.putWord_presses (a : Nat) (v : Word) : (n.putWord a v).presses = n.presses := rfl
@[simp] theorem Node.putWord_images (a : Nat) (v : Word) : (n.putWord a v).images = n.images := rfl
@[simp] theorem Node.putWord_cans (a : Nat) (v : Word) : (n.putWord a v).cans = n.cans := rfl
@[simp] theorem Node.putWord_lineUnits (a : Nat) (v : Word) : (n.putWord a v).lineUnits = n.lineUnits := rfl
@[simp] theorem Node.putWord_blend (a : Nat) (v : Word) : (n.putWord a v).blend = n.blend := rfl
@[simp] theorem Node.putWord_time (a : Nat) (v : Word) : (n.putWord a v).time = n.time := rfl
@[simp] theorem Node.putWord_host (a : Nat) (v : Word) : (n.putWord a v).host = n.host := rfl
@[simp] theorem Node.putWord_outs (a : Nat) (v : Word) : (n.putWord a v).outs = n.outs := rfl
@[simp] theorem Node.putWord_pair (a : Nat) (v : Word) : (n.putWord a v).pair = n.pair := rfl
@[simp] theorem Node.putWord_vnt (a : Nat) (v : Word) : (n.putWord a v).vnt = n.vnt := rfl
@[simp] theorem Node.putWord_vault (a : Nat) (v : Word) : (n.putWord a v).vault = n.vault := rfl
@[simp] theorem Node.putWord_maint (a : Nat) (v : Word) : (n.putWord a v).maint = n.maint := rfl
@[simp] theorem Node.putWord_out (a : Nat) (v : Word) : (n.putWord a v).out = n.out := rfl
@[simp] theorem Node.putWord_fresh (a : Nat) (v : Word) : (n.putWord a v).fresh = n.fresh := rfl

/-! `putShadow` -/

@[simp] theorem Node.putShadow_power (a : Nat) (v : Word) : (n.putShadow a v).power = n.power := rfl
@[simp] theorem Node.putShadow_supply (a : Nat) (v : Word) : (n.putShadow a v).supply = n.supply := rfl
@[simp] theorem Node.putShadow_pins (a : Nat) (v : Word) : (n.putShadow a v).pins = n.pins := rfl
@[simp] theorem Node.putShadow_commits (a : Nat) (v : Word) : (n.putShadow a v).commits = n.commits := rfl
@[simp] theorem Node.putShadow_mc (a : Nat) (v : Word) : (n.putShadow a v).mc = n.mc := rfl
@[simp] theorem Node.putShadow_faults (a : Nat) (v : Word) : (n.putShadow a v).faults = n.faults := rfl
@[simp] theorem Node.putShadow_runs (a : Nat) (v : Word) : (n.putShadow a v).runs = n.runs := rfl
@[simp] theorem Node.putShadow_hiLatch (a : Nat) (v : Word) : (n.putShadow a v).hiLatch = n.hiLatch := rfl
@[simp] theorem Node.putShadow_winLatch (a : Nat) (v : Word) : (n.putShadow a v).winLatch = n.winLatch := rfl
@[simp] theorem Node.putShadow_timeLatch (a : Nat) (v : Word) : (n.putShadow a v).timeLatch = n.timeLatch := rfl
@[simp] theorem Node.putShadow_book (a : Nat) (v : Word) : (n.putShadow a v).book = n.book := rfl
@[simp] theorem Node.putShadow_trellis (a : Nat) (v : Word) : (n.putShadow a v).trellis = n.trellis := rfl
@[simp] theorem Node.putShadow_cellar (a : Nat) (v : Word) : (n.putShadow a v).cellar = n.cellar := rfl
@[simp] theorem Node.putShadow_ports (a : Nat) (v : Word) : (n.putShadow a v).ports = n.ports := rfl
@[simp] theorem Node.putShadow_ina (a : Nat) (v : Word) : (n.putShadow a v).ina = n.ina := rfl
@[simp] theorem Node.putShadow_flows (a : Nat) (v : Word) : (n.putShadow a v).flows = n.flows := rfl
@[simp] theorem Node.putShadow_sessions (a : Nat) (v : Word) : (n.putShadow a v).sessions = n.sessions := rfl
@[simp] theorem Node.putShadow_mdStarted (a : Nat) (v : Word) : (n.putShadow a v).mdStarted = n.mdStarted := rfl
@[simp] theorem Node.putShadow_presses (a : Nat) (v : Word) : (n.putShadow a v).presses = n.presses := rfl
@[simp] theorem Node.putShadow_images (a : Nat) (v : Word) : (n.putShadow a v).images = n.images := rfl
@[simp] theorem Node.putShadow_cans (a : Nat) (v : Word) : (n.putShadow a v).cans = n.cans := rfl
@[simp] theorem Node.putShadow_lineUnits (a : Nat) (v : Word) : (n.putShadow a v).lineUnits = n.lineUnits := rfl
@[simp] theorem Node.putShadow_blend (a : Nat) (v : Word) : (n.putShadow a v).blend = n.blend := rfl
@[simp] theorem Node.putShadow_time (a : Nat) (v : Word) : (n.putShadow a v).time = n.time := rfl
@[simp] theorem Node.putShadow_host (a : Nat) (v : Word) : (n.putShadow a v).host = n.host := rfl
@[simp] theorem Node.putShadow_outs (a : Nat) (v : Word) : (n.putShadow a v).outs = n.outs := rfl
@[simp] theorem Node.putShadow_pair (a : Nat) (v : Word) : (n.putShadow a v).pair = n.pair := rfl
@[simp] theorem Node.putShadow_vnt (a : Nat) (v : Word) : (n.putShadow a v).vnt = n.vnt := rfl
@[simp] theorem Node.putShadow_vault (a : Nat) (v : Word) : (n.putShadow a v).vault = n.vault := rfl
@[simp] theorem Node.putShadow_maint (a : Nat) (v : Word) : (n.putShadow a v).maint = n.maint := rfl
@[simp] theorem Node.putShadow_out (a : Nat) (v : Word) : (n.putShadow a v).out = n.out := rfl
@[simp] theorem Node.putShadow_fresh (a : Nat) (v : Word) : (n.putShadow a v).fresh = n.fresh := rfl

/-! `putForce` -/

@[simp] theorem Node.putForce_power (a : Nat) (v : Word) : (n.putForce a v).power = n.power := rfl
@[simp] theorem Node.putForce_supply (a : Nat) (v : Word) : (n.putForce a v).supply = n.supply := rfl
@[simp] theorem Node.putForce_pins (a : Nat) (v : Word) : (n.putForce a v).pins = n.pins := rfl
@[simp] theorem Node.putForce_commits (a : Nat) (v : Word) : (n.putForce a v).commits = n.commits := rfl
@[simp] theorem Node.putForce_mc (a : Nat) (v : Word) : (n.putForce a v).mc = n.mc := rfl
@[simp] theorem Node.putForce_faults (a : Nat) (v : Word) : (n.putForce a v).faults = n.faults := rfl
@[simp] theorem Node.putForce_runs (a : Nat) (v : Word) : (n.putForce a v).runs = n.runs := rfl
@[simp] theorem Node.putForce_hiLatch (a : Nat) (v : Word) : (n.putForce a v).hiLatch = n.hiLatch := rfl
@[simp] theorem Node.putForce_winLatch (a : Nat) (v : Word) : (n.putForce a v).winLatch = n.winLatch := rfl
@[simp] theorem Node.putForce_timeLatch (a : Nat) (v : Word) : (n.putForce a v).timeLatch = n.timeLatch := rfl
@[simp] theorem Node.putForce_book (a : Nat) (v : Word) : (n.putForce a v).book = n.book := rfl
@[simp] theorem Node.putForce_trellis (a : Nat) (v : Word) : (n.putForce a v).trellis = n.trellis := rfl
@[simp] theorem Node.putForce_cellar (a : Nat) (v : Word) : (n.putForce a v).cellar = n.cellar := rfl
@[simp] theorem Node.putForce_ports (a : Nat) (v : Word) : (n.putForce a v).ports = n.ports := rfl
@[simp] theorem Node.putForce_ina (a : Nat) (v : Word) : (n.putForce a v).ina = n.ina := rfl
@[simp] theorem Node.putForce_flows (a : Nat) (v : Word) : (n.putForce a v).flows = n.flows := rfl
@[simp] theorem Node.putForce_sessions (a : Nat) (v : Word) : (n.putForce a v).sessions = n.sessions := rfl
@[simp] theorem Node.putForce_mdStarted (a : Nat) (v : Word) : (n.putForce a v).mdStarted = n.mdStarted := rfl
@[simp] theorem Node.putForce_presses (a : Nat) (v : Word) : (n.putForce a v).presses = n.presses := rfl
@[simp] theorem Node.putForce_images (a : Nat) (v : Word) : (n.putForce a v).images = n.images := rfl
@[simp] theorem Node.putForce_cans (a : Nat) (v : Word) : (n.putForce a v).cans = n.cans := rfl
@[simp] theorem Node.putForce_lineUnits (a : Nat) (v : Word) : (n.putForce a v).lineUnits = n.lineUnits := rfl
@[simp] theorem Node.putForce_blend (a : Nat) (v : Word) : (n.putForce a v).blend = n.blend := rfl
@[simp] theorem Node.putForce_time (a : Nat) (v : Word) : (n.putForce a v).time = n.time := rfl
@[simp] theorem Node.putForce_host (a : Nat) (v : Word) : (n.putForce a v).host = n.host := rfl
@[simp] theorem Node.putForce_outs (a : Nat) (v : Word) : (n.putForce a v).outs = n.outs := rfl
@[simp] theorem Node.putForce_pair (a : Nat) (v : Word) : (n.putForce a v).pair = n.pair := rfl
@[simp] theorem Node.putForce_vnt (a : Nat) (v : Word) : (n.putForce a v).vnt = n.vnt := rfl
@[simp] theorem Node.putForce_vault (a : Nat) (v : Word) : (n.putForce a v).vault = n.vault := rfl
@[simp] theorem Node.putForce_maint (a : Nat) (v : Word) : (n.putForce a v).maint = n.maint := rfl
@[simp] theorem Node.putForce_out (a : Nat) (v : Word) : (n.putForce a v).out = n.out := rfl
@[simp] theorem Node.putForce_fresh (a : Nat) (v : Word) : (n.putForce a v).fresh = n.fresh := rfl

/-! `putWords` -/

@[simp] theorem Node.putWords_power (ws : List (Nat × Word)) : (n.putWords ws).power = n.power := rfl
@[simp] theorem Node.putWords_supply (ws : List (Nat × Word)) : (n.putWords ws).supply = n.supply := rfl
@[simp] theorem Node.putWords_pins (ws : List (Nat × Word)) : (n.putWords ws).pins = n.pins := rfl
@[simp] theorem Node.putWords_commits (ws : List (Nat × Word)) : (n.putWords ws).commits = n.commits := rfl
@[simp] theorem Node.putWords_mc (ws : List (Nat × Word)) : (n.putWords ws).mc = n.mc := rfl
@[simp] theorem Node.putWords_faults (ws : List (Nat × Word)) : (n.putWords ws).faults = n.faults := rfl
@[simp] theorem Node.putWords_runs (ws : List (Nat × Word)) : (n.putWords ws).runs = n.runs := rfl
@[simp] theorem Node.putWords_hiLatch (ws : List (Nat × Word)) : (n.putWords ws).hiLatch = n.hiLatch := rfl
@[simp] theorem Node.putWords_winLatch (ws : List (Nat × Word)) : (n.putWords ws).winLatch = n.winLatch := rfl
@[simp] theorem Node.putWords_timeLatch (ws : List (Nat × Word)) : (n.putWords ws).timeLatch = n.timeLatch := rfl
@[simp] theorem Node.putWords_book (ws : List (Nat × Word)) : (n.putWords ws).book = n.book := rfl
@[simp] theorem Node.putWords_trellis (ws : List (Nat × Word)) : (n.putWords ws).trellis = n.trellis := rfl
@[simp] theorem Node.putWords_cellar (ws : List (Nat × Word)) : (n.putWords ws).cellar = n.cellar := rfl
@[simp] theorem Node.putWords_ports (ws : List (Nat × Word)) : (n.putWords ws).ports = n.ports := rfl
@[simp] theorem Node.putWords_ina (ws : List (Nat × Word)) : (n.putWords ws).ina = n.ina := rfl
@[simp] theorem Node.putWords_flows (ws : List (Nat × Word)) : (n.putWords ws).flows = n.flows := rfl
@[simp] theorem Node.putWords_sessions (ws : List (Nat × Word)) : (n.putWords ws).sessions = n.sessions := rfl
@[simp] theorem Node.putWords_mdStarted (ws : List (Nat × Word)) : (n.putWords ws).mdStarted = n.mdStarted := rfl
@[simp] theorem Node.putWords_presses (ws : List (Nat × Word)) : (n.putWords ws).presses = n.presses := rfl
@[simp] theorem Node.putWords_images (ws : List (Nat × Word)) : (n.putWords ws).images = n.images := rfl
@[simp] theorem Node.putWords_cans (ws : List (Nat × Word)) : (n.putWords ws).cans = n.cans := rfl
@[simp] theorem Node.putWords_lineUnits (ws : List (Nat × Word)) : (n.putWords ws).lineUnits = n.lineUnits := rfl
@[simp] theorem Node.putWords_blend (ws : List (Nat × Word)) : (n.putWords ws).blend = n.blend := rfl
@[simp] theorem Node.putWords_time (ws : List (Nat × Word)) : (n.putWords ws).time = n.time := rfl
@[simp] theorem Node.putWords_host (ws : List (Nat × Word)) : (n.putWords ws).host = n.host := rfl
@[simp] theorem Node.putWords_outs (ws : List (Nat × Word)) : (n.putWords ws).outs = n.outs := rfl
@[simp] theorem Node.putWords_pair (ws : List (Nat × Word)) : (n.putWords ws).pair = n.pair := rfl
@[simp] theorem Node.putWords_vnt (ws : List (Nat × Word)) : (n.putWords ws).vnt = n.vnt := rfl
@[simp] theorem Node.putWords_vault (ws : List (Nat × Word)) : (n.putWords ws).vault = n.vault := rfl
@[simp] theorem Node.putWords_maint (ws : List (Nat × Word)) : (n.putWords ws).maint = n.maint := rfl
@[simp] theorem Node.putWords_out (ws : List (Nat × Word)) : (n.putWords ws).out = n.out := rfl
@[simp] theorem Node.putWords_fresh (ws : List (Nat × Word)) : (n.putWords ws).fresh = n.fresh := rfl

/-! `putShadows` -/

@[simp] theorem Node.putShadows_power (ws : List (Nat × Word)) : (n.putShadows ws).power = n.power := rfl
@[simp] theorem Node.putShadows_supply (ws : List (Nat × Word)) : (n.putShadows ws).supply = n.supply := rfl
@[simp] theorem Node.putShadows_pins (ws : List (Nat × Word)) : (n.putShadows ws).pins = n.pins := rfl
@[simp] theorem Node.putShadows_commits (ws : List (Nat × Word)) : (n.putShadows ws).commits = n.commits := rfl
@[simp] theorem Node.putShadows_mc (ws : List (Nat × Word)) : (n.putShadows ws).mc = n.mc := rfl
@[simp] theorem Node.putShadows_faults (ws : List (Nat × Word)) : (n.putShadows ws).faults = n.faults := rfl
@[simp] theorem Node.putShadows_runs (ws : List (Nat × Word)) : (n.putShadows ws).runs = n.runs := rfl
@[simp] theorem Node.putShadows_hiLatch (ws : List (Nat × Word)) : (n.putShadows ws).hiLatch = n.hiLatch := rfl
@[simp] theorem Node.putShadows_winLatch (ws : List (Nat × Word)) : (n.putShadows ws).winLatch = n.winLatch := rfl
@[simp] theorem Node.putShadows_timeLatch (ws : List (Nat × Word)) : (n.putShadows ws).timeLatch = n.timeLatch := rfl
@[simp] theorem Node.putShadows_book (ws : List (Nat × Word)) : (n.putShadows ws).book = n.book := rfl
@[simp] theorem Node.putShadows_trellis (ws : List (Nat × Word)) : (n.putShadows ws).trellis = n.trellis := rfl
@[simp] theorem Node.putShadows_cellar (ws : List (Nat × Word)) : (n.putShadows ws).cellar = n.cellar := rfl
@[simp] theorem Node.putShadows_ports (ws : List (Nat × Word)) : (n.putShadows ws).ports = n.ports := rfl
@[simp] theorem Node.putShadows_ina (ws : List (Nat × Word)) : (n.putShadows ws).ina = n.ina := rfl
@[simp] theorem Node.putShadows_flows (ws : List (Nat × Word)) : (n.putShadows ws).flows = n.flows := rfl
@[simp] theorem Node.putShadows_sessions (ws : List (Nat × Word)) : (n.putShadows ws).sessions = n.sessions := rfl
@[simp] theorem Node.putShadows_mdStarted (ws : List (Nat × Word)) : (n.putShadows ws).mdStarted = n.mdStarted := rfl
@[simp] theorem Node.putShadows_presses (ws : List (Nat × Word)) : (n.putShadows ws).presses = n.presses := rfl
@[simp] theorem Node.putShadows_images (ws : List (Nat × Word)) : (n.putShadows ws).images = n.images := rfl
@[simp] theorem Node.putShadows_cans (ws : List (Nat × Word)) : (n.putShadows ws).cans = n.cans := rfl
@[simp] theorem Node.putShadows_lineUnits (ws : List (Nat × Word)) : (n.putShadows ws).lineUnits = n.lineUnits := rfl
@[simp] theorem Node.putShadows_blend (ws : List (Nat × Word)) : (n.putShadows ws).blend = n.blend := rfl
@[simp] theorem Node.putShadows_time (ws : List (Nat × Word)) : (n.putShadows ws).time = n.time := rfl
@[simp] theorem Node.putShadows_host (ws : List (Nat × Word)) : (n.putShadows ws).host = n.host := rfl
@[simp] theorem Node.putShadows_outs (ws : List (Nat × Word)) : (n.putShadows ws).outs = n.outs := rfl
@[simp] theorem Node.putShadows_pair (ws : List (Nat × Word)) : (n.putShadows ws).pair = n.pair := rfl
@[simp] theorem Node.putShadows_vnt (ws : List (Nat × Word)) : (n.putShadows ws).vnt = n.vnt := rfl
@[simp] theorem Node.putShadows_vault (ws : List (Nat × Word)) : (n.putShadows ws).vault = n.vault := rfl
@[simp] theorem Node.putShadows_maint (ws : List (Nat × Word)) : (n.putShadows ws).maint = n.maint := rfl
@[simp] theorem Node.putShadows_out (ws : List (Nat × Word)) : (n.putShadows ws).out = n.out := rfl
@[simp] theorem Node.putShadows_fresh (ws : List (Nat × Word)) : (n.putShadows ws).fresh = n.fresh := rfl

/-! `putForces` -/

@[simp] theorem Node.putForces_power (ws : List (Nat × Word)) : (n.putForces ws).power = n.power := rfl
@[simp] theorem Node.putForces_supply (ws : List (Nat × Word)) : (n.putForces ws).supply = n.supply := rfl
@[simp] theorem Node.putForces_pins (ws : List (Nat × Word)) : (n.putForces ws).pins = n.pins := rfl
@[simp] theorem Node.putForces_commits (ws : List (Nat × Word)) : (n.putForces ws).commits = n.commits := rfl
@[simp] theorem Node.putForces_mc (ws : List (Nat × Word)) : (n.putForces ws).mc = n.mc := rfl
@[simp] theorem Node.putForces_faults (ws : List (Nat × Word)) : (n.putForces ws).faults = n.faults := rfl
@[simp] theorem Node.putForces_runs (ws : List (Nat × Word)) : (n.putForces ws).runs = n.runs := rfl
@[simp] theorem Node.putForces_hiLatch (ws : List (Nat × Word)) : (n.putForces ws).hiLatch = n.hiLatch := rfl
@[simp] theorem Node.putForces_winLatch (ws : List (Nat × Word)) : (n.putForces ws).winLatch = n.winLatch := rfl
@[simp] theorem Node.putForces_timeLatch (ws : List (Nat × Word)) : (n.putForces ws).timeLatch = n.timeLatch := rfl
@[simp] theorem Node.putForces_book (ws : List (Nat × Word)) : (n.putForces ws).book = n.book := rfl
@[simp] theorem Node.putForces_trellis (ws : List (Nat × Word)) : (n.putForces ws).trellis = n.trellis := rfl
@[simp] theorem Node.putForces_cellar (ws : List (Nat × Word)) : (n.putForces ws).cellar = n.cellar := rfl
@[simp] theorem Node.putForces_ports (ws : List (Nat × Word)) : (n.putForces ws).ports = n.ports := rfl
@[simp] theorem Node.putForces_ina (ws : List (Nat × Word)) : (n.putForces ws).ina = n.ina := rfl
@[simp] theorem Node.putForces_flows (ws : List (Nat × Word)) : (n.putForces ws).flows = n.flows := rfl
@[simp] theorem Node.putForces_sessions (ws : List (Nat × Word)) : (n.putForces ws).sessions = n.sessions := rfl
@[simp] theorem Node.putForces_mdStarted (ws : List (Nat × Word)) : (n.putForces ws).mdStarted = n.mdStarted := rfl
@[simp] theorem Node.putForces_presses (ws : List (Nat × Word)) : (n.putForces ws).presses = n.presses := rfl
@[simp] theorem Node.putForces_images (ws : List (Nat × Word)) : (n.putForces ws).images = n.images := rfl
@[simp] theorem Node.putForces_cans (ws : List (Nat × Word)) : (n.putForces ws).cans = n.cans := rfl
@[simp] theorem Node.putForces_lineUnits (ws : List (Nat × Word)) : (n.putForces ws).lineUnits = n.lineUnits := rfl
@[simp] theorem Node.putForces_blend (ws : List (Nat × Word)) : (n.putForces ws).blend = n.blend := rfl
@[simp] theorem Node.putForces_time (ws : List (Nat × Word)) : (n.putForces ws).time = n.time := rfl
@[simp] theorem Node.putForces_host (ws : List (Nat × Word)) : (n.putForces ws).host = n.host := rfl
@[simp] theorem Node.putForces_outs (ws : List (Nat × Word)) : (n.putForces ws).outs = n.outs := rfl
@[simp] theorem Node.putForces_pair (ws : List (Nat × Word)) : (n.putForces ws).pair = n.pair := rfl
@[simp] theorem Node.putForces_vnt (ws : List (Nat × Word)) : (n.putForces ws).vnt = n.vnt := rfl
@[simp] theorem Node.putForces_vault (ws : List (Nat × Word)) : (n.putForces ws).vault = n.vault := rfl
@[simp] theorem Node.putForces_maint (ws : List (Nat × Word)) : (n.putForces ws).maint = n.maint := rfl
@[simp] theorem Node.putForces_out (ws : List (Nat × Word)) : (n.putForces ws).out = n.out := rfl
@[simp] theorem Node.putForces_fresh (ws : List (Nat × Word)) : (n.putForces ws).fresh = n.fresh := rfl

/-! `resetWords` -/

@[simp] theorem Node.resetWords_power (p : Nat → Bool) : (n.resetWords p).power = n.power := rfl
@[simp] theorem Node.resetWords_supply (p : Nat → Bool) : (n.resetWords p).supply = n.supply := rfl
@[simp] theorem Node.resetWords_pins (p : Nat → Bool) : (n.resetWords p).pins = n.pins := rfl
@[simp] theorem Node.resetWords_commits (p : Nat → Bool) : (n.resetWords p).commits = n.commits := rfl
@[simp] theorem Node.resetWords_mc (p : Nat → Bool) : (n.resetWords p).mc = n.mc := rfl
@[simp] theorem Node.resetWords_faults (p : Nat → Bool) : (n.resetWords p).faults = n.faults := rfl
@[simp] theorem Node.resetWords_runs (p : Nat → Bool) : (n.resetWords p).runs = n.runs := rfl
@[simp] theorem Node.resetWords_hiLatch (p : Nat → Bool) : (n.resetWords p).hiLatch = n.hiLatch := rfl
@[simp] theorem Node.resetWords_winLatch (p : Nat → Bool) : (n.resetWords p).winLatch = n.winLatch := rfl
@[simp] theorem Node.resetWords_timeLatch (p : Nat → Bool) : (n.resetWords p).timeLatch = n.timeLatch := rfl
@[simp] theorem Node.resetWords_book (p : Nat → Bool) : (n.resetWords p).book = n.book := rfl
@[simp] theorem Node.resetWords_trellis (p : Nat → Bool) : (n.resetWords p).trellis = n.trellis := rfl
@[simp] theorem Node.resetWords_cellar (p : Nat → Bool) : (n.resetWords p).cellar = n.cellar := rfl
@[simp] theorem Node.resetWords_ports (p : Nat → Bool) : (n.resetWords p).ports = n.ports := rfl
@[simp] theorem Node.resetWords_ina (p : Nat → Bool) : (n.resetWords p).ina = n.ina := rfl
@[simp] theorem Node.resetWords_flows (p : Nat → Bool) : (n.resetWords p).flows = n.flows := rfl
@[simp] theorem Node.resetWords_sessions (p : Nat → Bool) : (n.resetWords p).sessions = n.sessions := rfl
@[simp] theorem Node.resetWords_mdStarted (p : Nat → Bool) : (n.resetWords p).mdStarted = n.mdStarted := rfl
@[simp] theorem Node.resetWords_presses (p : Nat → Bool) : (n.resetWords p).presses = n.presses := rfl
@[simp] theorem Node.resetWords_images (p : Nat → Bool) : (n.resetWords p).images = n.images := rfl
@[simp] theorem Node.resetWords_cans (p : Nat → Bool) : (n.resetWords p).cans = n.cans := rfl
@[simp] theorem Node.resetWords_lineUnits (p : Nat → Bool) : (n.resetWords p).lineUnits = n.lineUnits := rfl
@[simp] theorem Node.resetWords_blend (p : Nat → Bool) : (n.resetWords p).blend = n.blend := rfl
@[simp] theorem Node.resetWords_time (p : Nat → Bool) : (n.resetWords p).time = n.time := rfl
@[simp] theorem Node.resetWords_host (p : Nat → Bool) : (n.resetWords p).host = n.host := rfl
@[simp] theorem Node.resetWords_outs (p : Nat → Bool) : (n.resetWords p).outs = n.outs := rfl
@[simp] theorem Node.resetWords_pair (p : Nat → Bool) : (n.resetWords p).pair = n.pair := rfl
@[simp] theorem Node.resetWords_vnt (p : Nat → Bool) : (n.resetWords p).vnt = n.vnt := rfl
@[simp] theorem Node.resetWords_vault (p : Nat → Bool) : (n.resetWords p).vault = n.vault := rfl
@[simp] theorem Node.resetWords_maint (p : Nat → Bool) : (n.resetWords p).maint = n.maint := rfl
@[simp] theorem Node.resetWords_out (p : Nat → Bool) : (n.resetWords p).out = n.out := rfl
@[simp] theorem Node.resetWords_fresh (p : Nat → Bool) : (n.resetWords p).fresh = n.fresh := rfl

/-! `putBytes` -/

@[simp] theorem Node.putBytes_power (a : Nat) (bs : List Byte) : (n.putBytes a bs).power = n.power := rfl
@[simp] theorem Node.putBytes_supply (a : Nat) (bs : List Byte) : (n.putBytes a bs).supply = n.supply := rfl
@[simp] theorem Node.putBytes_pins (a : Nat) (bs : List Byte) : (n.putBytes a bs).pins = n.pins := rfl
@[simp] theorem Node.putBytes_commits (a : Nat) (bs : List Byte) : (n.putBytes a bs).commits = n.commits := rfl
@[simp] theorem Node.putBytes_mc (a : Nat) (bs : List Byte) : (n.putBytes a bs).mc = n.mc := rfl
@[simp] theorem Node.putBytes_faults (a : Nat) (bs : List Byte) : (n.putBytes a bs).faults = n.faults := rfl
@[simp] theorem Node.putBytes_runs (a : Nat) (bs : List Byte) : (n.putBytes a bs).runs = n.runs := rfl
@[simp] theorem Node.putBytes_hiLatch (a : Nat) (bs : List Byte) : (n.putBytes a bs).hiLatch = n.hiLatch := rfl
@[simp] theorem Node.putBytes_winLatch (a : Nat) (bs : List Byte) : (n.putBytes a bs).winLatch = n.winLatch := rfl
@[simp] theorem Node.putBytes_timeLatch (a : Nat) (bs : List Byte) : (n.putBytes a bs).timeLatch = n.timeLatch := rfl
@[simp] theorem Node.putBytes_book (a : Nat) (bs : List Byte) : (n.putBytes a bs).book = n.book := rfl
@[simp] theorem Node.putBytes_trellis (a : Nat) (bs : List Byte) : (n.putBytes a bs).trellis = n.trellis := rfl
@[simp] theorem Node.putBytes_cellar (a : Nat) (bs : List Byte) : (n.putBytes a bs).cellar = n.cellar := rfl
@[simp] theorem Node.putBytes_ports (a : Nat) (bs : List Byte) : (n.putBytes a bs).ports = n.ports := rfl
@[simp] theorem Node.putBytes_ina (a : Nat) (bs : List Byte) : (n.putBytes a bs).ina = n.ina := rfl
@[simp] theorem Node.putBytes_flows (a : Nat) (bs : List Byte) : (n.putBytes a bs).flows = n.flows := rfl
@[simp] theorem Node.putBytes_sessions (a : Nat) (bs : List Byte) : (n.putBytes a bs).sessions = n.sessions := rfl
@[simp] theorem Node.putBytes_mdStarted (a : Nat) (bs : List Byte) : (n.putBytes a bs).mdStarted = n.mdStarted := rfl
@[simp] theorem Node.putBytes_presses (a : Nat) (bs : List Byte) : (n.putBytes a bs).presses = n.presses := rfl
@[simp] theorem Node.putBytes_images (a : Nat) (bs : List Byte) : (n.putBytes a bs).images = n.images := rfl
@[simp] theorem Node.putBytes_cans (a : Nat) (bs : List Byte) : (n.putBytes a bs).cans = n.cans := rfl
@[simp] theorem Node.putBytes_lineUnits (a : Nat) (bs : List Byte) : (n.putBytes a bs).lineUnits = n.lineUnits := rfl
@[simp] theorem Node.putBytes_blend (a : Nat) (bs : List Byte) : (n.putBytes a bs).blend = n.blend := rfl
@[simp] theorem Node.putBytes_time (a : Nat) (bs : List Byte) : (n.putBytes a bs).time = n.time := rfl
@[simp] theorem Node.putBytes_host (a : Nat) (bs : List Byte) : (n.putBytes a bs).host = n.host := rfl
@[simp] theorem Node.putBytes_outs (a : Nat) (bs : List Byte) : (n.putBytes a bs).outs = n.outs := rfl
@[simp] theorem Node.putBytes_pair (a : Nat) (bs : List Byte) : (n.putBytes a bs).pair = n.pair := rfl
@[simp] theorem Node.putBytes_vnt (a : Nat) (bs : List Byte) : (n.putBytes a bs).vnt = n.vnt := rfl
@[simp] theorem Node.putBytes_vault (a : Nat) (bs : List Byte) : (n.putBytes a bs).vault = n.vault := rfl
@[simp] theorem Node.putBytes_maint (a : Nat) (bs : List Byte) : (n.putBytes a bs).maint = n.maint := rfl
@[simp] theorem Node.putBytes_out (a : Nat) (bs : List Byte) : (n.putBytes a bs).out = n.out := rfl
@[simp] theorem Node.putBytes_fresh (a : Nat) (bs : List Byte) : (n.putBytes a bs).fresh = n.fresh := rfl

/-! `wr` -/

@[simp] theorem Node.wr_power (f : Field) (v : Nat) : (n.wr f v).power = n.power := rfl
@[simp] theorem Node.wr_supply (f : Field) (v : Nat) : (n.wr f v).supply = n.supply := rfl
@[simp] theorem Node.wr_pins (f : Field) (v : Nat) : (n.wr f v).pins = n.pins := rfl
@[simp] theorem Node.wr_commits (f : Field) (v : Nat) : (n.wr f v).commits = n.commits := rfl
@[simp] theorem Node.wr_mc (f : Field) (v : Nat) : (n.wr f v).mc = n.mc := rfl
@[simp] theorem Node.wr_faults (f : Field) (v : Nat) : (n.wr f v).faults = n.faults := rfl
@[simp] theorem Node.wr_runs (f : Field) (v : Nat) : (n.wr f v).runs = n.runs := rfl
@[simp] theorem Node.wr_hiLatch (f : Field) (v : Nat) : (n.wr f v).hiLatch = n.hiLatch := rfl
@[simp] theorem Node.wr_winLatch (f : Field) (v : Nat) : (n.wr f v).winLatch = n.winLatch := rfl
@[simp] theorem Node.wr_timeLatch (f : Field) (v : Nat) : (n.wr f v).timeLatch = n.timeLatch := rfl
@[simp] theorem Node.wr_book (f : Field) (v : Nat) : (n.wr f v).book = n.book := rfl
@[simp] theorem Node.wr_trellis (f : Field) (v : Nat) : (n.wr f v).trellis = n.trellis := rfl
@[simp] theorem Node.wr_cellar (f : Field) (v : Nat) : (n.wr f v).cellar = n.cellar := rfl
@[simp] theorem Node.wr_ports (f : Field) (v : Nat) : (n.wr f v).ports = n.ports := rfl
@[simp] theorem Node.wr_ina (f : Field) (v : Nat) : (n.wr f v).ina = n.ina := rfl
@[simp] theorem Node.wr_flows (f : Field) (v : Nat) : (n.wr f v).flows = n.flows := rfl
@[simp] theorem Node.wr_sessions (f : Field) (v : Nat) : (n.wr f v).sessions = n.sessions := rfl
@[simp] theorem Node.wr_mdStarted (f : Field) (v : Nat) : (n.wr f v).mdStarted = n.mdStarted := rfl
@[simp] theorem Node.wr_presses (f : Field) (v : Nat) : (n.wr f v).presses = n.presses := rfl
@[simp] theorem Node.wr_images (f : Field) (v : Nat) : (n.wr f v).images = n.images := rfl
@[simp] theorem Node.wr_cans (f : Field) (v : Nat) : (n.wr f v).cans = n.cans := rfl
@[simp] theorem Node.wr_lineUnits (f : Field) (v : Nat) : (n.wr f v).lineUnits = n.lineUnits := rfl
@[simp] theorem Node.wr_blend (f : Field) (v : Nat) : (n.wr f v).blend = n.blend := rfl
@[simp] theorem Node.wr_time (f : Field) (v : Nat) : (n.wr f v).time = n.time := rfl
@[simp] theorem Node.wr_host (f : Field) (v : Nat) : (n.wr f v).host = n.host := rfl
@[simp] theorem Node.wr_outs (f : Field) (v : Nat) : (n.wr f v).outs = n.outs := rfl
@[simp] theorem Node.wr_pair (f : Field) (v : Nat) : (n.wr f v).pair = n.pair := rfl
@[simp] theorem Node.wr_vnt (f : Field) (v : Nat) : (n.wr f v).vnt = n.vnt := rfl
@[simp] theorem Node.wr_vault (f : Field) (v : Nat) : (n.wr f v).vault = n.vault := rfl
@[simp] theorem Node.wr_maint (f : Field) (v : Nat) : (n.wr f v).maint = n.maint := rfl
@[simp] theorem Node.wr_out (f : Field) (v : Nat) : (n.wr f v).out = n.out := rfl
@[simp] theorem Node.wr_fresh (f : Field) (v : Nat) : (n.wr f v).fresh = n.fresh := rfl

/-! `wrBit` -/

@[simp] theorem Node.wrBit_power (f : Field) (b : Bool) : (n.wrBit f b).power = n.power := rfl
@[simp] theorem Node.wrBit_supply (f : Field) (b : Bool) : (n.wrBit f b).supply = n.supply := rfl
@[simp] theorem Node.wrBit_pins (f : Field) (b : Bool) : (n.wrBit f b).pins = n.pins := rfl
@[simp] theorem Node.wrBit_commits (f : Field) (b : Bool) : (n.wrBit f b).commits = n.commits := rfl
@[simp] theorem Node.wrBit_mc (f : Field) (b : Bool) : (n.wrBit f b).mc = n.mc := rfl
@[simp] theorem Node.wrBit_faults (f : Field) (b : Bool) : (n.wrBit f b).faults = n.faults := rfl
@[simp] theorem Node.wrBit_runs (f : Field) (b : Bool) : (n.wrBit f b).runs = n.runs := rfl
@[simp] theorem Node.wrBit_hiLatch (f : Field) (b : Bool) : (n.wrBit f b).hiLatch = n.hiLatch := rfl
@[simp] theorem Node.wrBit_winLatch (f : Field) (b : Bool) : (n.wrBit f b).winLatch = n.winLatch := rfl
@[simp] theorem Node.wrBit_timeLatch (f : Field) (b : Bool) : (n.wrBit f b).timeLatch = n.timeLatch := rfl
@[simp] theorem Node.wrBit_book (f : Field) (b : Bool) : (n.wrBit f b).book = n.book := rfl
@[simp] theorem Node.wrBit_trellis (f : Field) (b : Bool) : (n.wrBit f b).trellis = n.trellis := rfl
@[simp] theorem Node.wrBit_cellar (f : Field) (b : Bool) : (n.wrBit f b).cellar = n.cellar := rfl
@[simp] theorem Node.wrBit_ports (f : Field) (b : Bool) : (n.wrBit f b).ports = n.ports := rfl
@[simp] theorem Node.wrBit_ina (f : Field) (b : Bool) : (n.wrBit f b).ina = n.ina := rfl
@[simp] theorem Node.wrBit_flows (f : Field) (b : Bool) : (n.wrBit f b).flows = n.flows := rfl
@[simp] theorem Node.wrBit_sessions (f : Field) (b : Bool) : (n.wrBit f b).sessions = n.sessions := rfl
@[simp] theorem Node.wrBit_mdStarted (f : Field) (b : Bool) : (n.wrBit f b).mdStarted = n.mdStarted := rfl
@[simp] theorem Node.wrBit_presses (f : Field) (b : Bool) : (n.wrBit f b).presses = n.presses := rfl
@[simp] theorem Node.wrBit_images (f : Field) (b : Bool) : (n.wrBit f b).images = n.images := rfl
@[simp] theorem Node.wrBit_cans (f : Field) (b : Bool) : (n.wrBit f b).cans = n.cans := rfl
@[simp] theorem Node.wrBit_lineUnits (f : Field) (b : Bool) : (n.wrBit f b).lineUnits = n.lineUnits := rfl
@[simp] theorem Node.wrBit_blend (f : Field) (b : Bool) : (n.wrBit f b).blend = n.blend := rfl
@[simp] theorem Node.wrBit_time (f : Field) (b : Bool) : (n.wrBit f b).time = n.time := rfl
@[simp] theorem Node.wrBit_host (f : Field) (b : Bool) : (n.wrBit f b).host = n.host := rfl
@[simp] theorem Node.wrBit_outs (f : Field) (b : Bool) : (n.wrBit f b).outs = n.outs := rfl
@[simp] theorem Node.wrBit_pair (f : Field) (b : Bool) : (n.wrBit f b).pair = n.pair := rfl
@[simp] theorem Node.wrBit_vnt (f : Field) (b : Bool) : (n.wrBit f b).vnt = n.vnt := rfl
@[simp] theorem Node.wrBit_vault (f : Field) (b : Bool) : (n.wrBit f b).vault = n.vault := rfl
@[simp] theorem Node.wrBit_maint (f : Field) (b : Bool) : (n.wrBit f b).maint = n.maint := rfl
@[simp] theorem Node.wrBit_out (f : Field) (b : Bool) : (n.wrBit f b).out = n.out := rfl
@[simp] theorem Node.wrBit_fresh (f : Field) (b : Bool) : (n.wrBit f b).fresh = n.fresh := rfl

/-! `countBy` -/

@[simp] theorem Node.countBy_power (a k : Nat) : (n.countBy a k).power = n.power := rfl
@[simp] theorem Node.countBy_supply (a k : Nat) : (n.countBy a k).supply = n.supply := rfl
@[simp] theorem Node.countBy_pins (a k : Nat) : (n.countBy a k).pins = n.pins := rfl
@[simp] theorem Node.countBy_commits (a k : Nat) : (n.countBy a k).commits = n.commits := rfl
@[simp] theorem Node.countBy_mc (a k : Nat) : (n.countBy a k).mc = n.mc := rfl
@[simp] theorem Node.countBy_faults (a k : Nat) : (n.countBy a k).faults = n.faults := rfl
@[simp] theorem Node.countBy_runs (a k : Nat) : (n.countBy a k).runs = n.runs := rfl
@[simp] theorem Node.countBy_hiLatch (a k : Nat) : (n.countBy a k).hiLatch = n.hiLatch := rfl
@[simp] theorem Node.countBy_winLatch (a k : Nat) : (n.countBy a k).winLatch = n.winLatch := rfl
@[simp] theorem Node.countBy_timeLatch (a k : Nat) : (n.countBy a k).timeLatch = n.timeLatch := rfl
@[simp] theorem Node.countBy_book (a k : Nat) : (n.countBy a k).book = n.book := rfl
@[simp] theorem Node.countBy_trellis (a k : Nat) : (n.countBy a k).trellis = n.trellis := rfl
@[simp] theorem Node.countBy_cellar (a k : Nat) : (n.countBy a k).cellar = n.cellar := rfl
@[simp] theorem Node.countBy_ports (a k : Nat) : (n.countBy a k).ports = n.ports := rfl
@[simp] theorem Node.countBy_ina (a k : Nat) : (n.countBy a k).ina = n.ina := rfl
@[simp] theorem Node.countBy_flows (a k : Nat) : (n.countBy a k).flows = n.flows := rfl
@[simp] theorem Node.countBy_sessions (a k : Nat) : (n.countBy a k).sessions = n.sessions := rfl
@[simp] theorem Node.countBy_mdStarted (a k : Nat) : (n.countBy a k).mdStarted = n.mdStarted := rfl
@[simp] theorem Node.countBy_presses (a k : Nat) : (n.countBy a k).presses = n.presses := rfl
@[simp] theorem Node.countBy_images (a k : Nat) : (n.countBy a k).images = n.images := rfl
@[simp] theorem Node.countBy_cans (a k : Nat) : (n.countBy a k).cans = n.cans := rfl
@[simp] theorem Node.countBy_lineUnits (a k : Nat) : (n.countBy a k).lineUnits = n.lineUnits := rfl
@[simp] theorem Node.countBy_blend (a k : Nat) : (n.countBy a k).blend = n.blend := rfl
@[simp] theorem Node.countBy_time (a k : Nat) : (n.countBy a k).time = n.time := rfl
@[simp] theorem Node.countBy_host (a k : Nat) : (n.countBy a k).host = n.host := rfl
@[simp] theorem Node.countBy_outs (a k : Nat) : (n.countBy a k).outs = n.outs := rfl
@[simp] theorem Node.countBy_pair (a k : Nat) : (n.countBy a k).pair = n.pair := rfl
@[simp] theorem Node.countBy_vnt (a k : Nat) : (n.countBy a k).vnt = n.vnt := rfl
@[simp] theorem Node.countBy_vault (a k : Nat) : (n.countBy a k).vault = n.vault := rfl
@[simp] theorem Node.countBy_maint (a k : Nat) : (n.countBy a k).maint = n.maint := rfl
@[simp] theorem Node.countBy_out (a k : Nat) : (n.countBy a k).out = n.out := rfl
@[simp] theorem Node.countBy_fresh (a k : Nat) : (n.countBy a k).fresh = n.fresh := rfl

/-! `count` -/

@[simp] theorem Node.count_power (a : Nat) : (n.count a).power = n.power := rfl
@[simp] theorem Node.count_supply (a : Nat) : (n.count a).supply = n.supply := rfl
@[simp] theorem Node.count_pins (a : Nat) : (n.count a).pins = n.pins := rfl
@[simp] theorem Node.count_commits (a : Nat) : (n.count a).commits = n.commits := rfl
@[simp] theorem Node.count_mc (a : Nat) : (n.count a).mc = n.mc := rfl
@[simp] theorem Node.count_faults (a : Nat) : (n.count a).faults = n.faults := rfl
@[simp] theorem Node.count_runs (a : Nat) : (n.count a).runs = n.runs := rfl
@[simp] theorem Node.count_hiLatch (a : Nat) : (n.count a).hiLatch = n.hiLatch := rfl
@[simp] theorem Node.count_winLatch (a : Nat) : (n.count a).winLatch = n.winLatch := rfl
@[simp] theorem Node.count_timeLatch (a : Nat) : (n.count a).timeLatch = n.timeLatch := rfl
@[simp] theorem Node.count_book (a : Nat) : (n.count a).book = n.book := rfl
@[simp] theorem Node.count_trellis (a : Nat) : (n.count a).trellis = n.trellis := rfl
@[simp] theorem Node.count_cellar (a : Nat) : (n.count a).cellar = n.cellar := rfl
@[simp] theorem Node.count_ports (a : Nat) : (n.count a).ports = n.ports := rfl
@[simp] theorem Node.count_ina (a : Nat) : (n.count a).ina = n.ina := rfl
@[simp] theorem Node.count_flows (a : Nat) : (n.count a).flows = n.flows := rfl
@[simp] theorem Node.count_sessions (a : Nat) : (n.count a).sessions = n.sessions := rfl
@[simp] theorem Node.count_mdStarted (a : Nat) : (n.count a).mdStarted = n.mdStarted := rfl
@[simp] theorem Node.count_presses (a : Nat) : (n.count a).presses = n.presses := rfl
@[simp] theorem Node.count_images (a : Nat) : (n.count a).images = n.images := rfl
@[simp] theorem Node.count_cans (a : Nat) : (n.count a).cans = n.cans := rfl
@[simp] theorem Node.count_lineUnits (a : Nat) : (n.count a).lineUnits = n.lineUnits := rfl
@[simp] theorem Node.count_blend (a : Nat) : (n.count a).blend = n.blend := rfl
@[simp] theorem Node.count_time (a : Nat) : (n.count a).time = n.time := rfl
@[simp] theorem Node.count_host (a : Nat) : (n.count a).host = n.host := rfl
@[simp] theorem Node.count_outs (a : Nat) : (n.count a).outs = n.outs := rfl
@[simp] theorem Node.count_pair (a : Nat) : (n.count a).pair = n.pair := rfl
@[simp] theorem Node.count_vnt (a : Nat) : (n.count a).vnt = n.vnt := rfl
@[simp] theorem Node.count_vault (a : Nat) : (n.count a).vault = n.vault := rfl
@[simp] theorem Node.count_maint (a : Nat) : (n.count a).maint = n.maint := rfl
@[simp] theorem Node.count_out (a : Nat) : (n.count a).out = n.out := rfl
@[simp] theorem Node.count_fresh (a : Nat) : (n.count a).fresh = n.fresh := rfl

/-! `incr` -/

@[simp] theorem Node.incr_power (f : Field) : (n.incr f).power = n.power := rfl
@[simp] theorem Node.incr_supply (f : Field) : (n.incr f).supply = n.supply := rfl
@[simp] theorem Node.incr_pins (f : Field) : (n.incr f).pins = n.pins := rfl
@[simp] theorem Node.incr_commits (f : Field) : (n.incr f).commits = n.commits := rfl
@[simp] theorem Node.incr_mc (f : Field) : (n.incr f).mc = n.mc := rfl
@[simp] theorem Node.incr_faults (f : Field) : (n.incr f).faults = n.faults := rfl
@[simp] theorem Node.incr_runs (f : Field) : (n.incr f).runs = n.runs := rfl
@[simp] theorem Node.incr_hiLatch (f : Field) : (n.incr f).hiLatch = n.hiLatch := rfl
@[simp] theorem Node.incr_winLatch (f : Field) : (n.incr f).winLatch = n.winLatch := rfl
@[simp] theorem Node.incr_timeLatch (f : Field) : (n.incr f).timeLatch = n.timeLatch := rfl
@[simp] theorem Node.incr_book (f : Field) : (n.incr f).book = n.book := rfl
@[simp] theorem Node.incr_trellis (f : Field) : (n.incr f).trellis = n.trellis := rfl
@[simp] theorem Node.incr_cellar (f : Field) : (n.incr f).cellar = n.cellar := rfl
@[simp] theorem Node.incr_ports (f : Field) : (n.incr f).ports = n.ports := rfl
@[simp] theorem Node.incr_ina (f : Field) : (n.incr f).ina = n.ina := rfl
@[simp] theorem Node.incr_flows (f : Field) : (n.incr f).flows = n.flows := rfl
@[simp] theorem Node.incr_sessions (f : Field) : (n.incr f).sessions = n.sessions := rfl
@[simp] theorem Node.incr_mdStarted (f : Field) : (n.incr f).mdStarted = n.mdStarted := rfl
@[simp] theorem Node.incr_presses (f : Field) : (n.incr f).presses = n.presses := rfl
@[simp] theorem Node.incr_images (f : Field) : (n.incr f).images = n.images := rfl
@[simp] theorem Node.incr_cans (f : Field) : (n.incr f).cans = n.cans := rfl
@[simp] theorem Node.incr_lineUnits (f : Field) : (n.incr f).lineUnits = n.lineUnits := rfl
@[simp] theorem Node.incr_blend (f : Field) : (n.incr f).blend = n.blend := rfl
@[simp] theorem Node.incr_time (f : Field) : (n.incr f).time = n.time := rfl
@[simp] theorem Node.incr_host (f : Field) : (n.incr f).host = n.host := rfl
@[simp] theorem Node.incr_outs (f : Field) : (n.incr f).outs = n.outs := rfl
@[simp] theorem Node.incr_pair (f : Field) : (n.incr f).pair = n.pair := rfl
@[simp] theorem Node.incr_vnt (f : Field) : (n.incr f).vnt = n.vnt := rfl
@[simp] theorem Node.incr_vault (f : Field) : (n.incr f).vault = n.vault := rfl
@[simp] theorem Node.incr_maint (f : Field) : (n.incr f).maint = n.maint := rfl
@[simp] theorem Node.incr_out (f : Field) : (n.incr f).out = n.out := rfl
@[simp] theorem Node.incr_fresh (f : Field) : (n.incr f).fresh = n.fresh := rfl

/-! `putWord64` -/

@[simp] theorem Node.putWord64_power (a : Nat) (v : DWord) : (n.putWord64 a v).power = n.power := rfl
@[simp] theorem Node.putWord64_supply (a : Nat) (v : DWord) : (n.putWord64 a v).supply = n.supply := rfl
@[simp] theorem Node.putWord64_pins (a : Nat) (v : DWord) : (n.putWord64 a v).pins = n.pins := rfl
@[simp] theorem Node.putWord64_commits (a : Nat) (v : DWord) : (n.putWord64 a v).commits = n.commits := rfl
@[simp] theorem Node.putWord64_mc (a : Nat) (v : DWord) : (n.putWord64 a v).mc = n.mc := rfl
@[simp] theorem Node.putWord64_faults (a : Nat) (v : DWord) : (n.putWord64 a v).faults = n.faults := rfl
@[simp] theorem Node.putWord64_runs (a : Nat) (v : DWord) : (n.putWord64 a v).runs = n.runs := rfl
@[simp] theorem Node.putWord64_hiLatch (a : Nat) (v : DWord) : (n.putWord64 a v).hiLatch = n.hiLatch := rfl
@[simp] theorem Node.putWord64_winLatch (a : Nat) (v : DWord) : (n.putWord64 a v).winLatch = n.winLatch := rfl
@[simp] theorem Node.putWord64_timeLatch (a : Nat) (v : DWord) : (n.putWord64 a v).timeLatch = n.timeLatch := rfl
@[simp] theorem Node.putWord64_book (a : Nat) (v : DWord) : (n.putWord64 a v).book = n.book := rfl
@[simp] theorem Node.putWord64_trellis (a : Nat) (v : DWord) : (n.putWord64 a v).trellis = n.trellis := rfl
@[simp] theorem Node.putWord64_cellar (a : Nat) (v : DWord) : (n.putWord64 a v).cellar = n.cellar := rfl
@[simp] theorem Node.putWord64_ports (a : Nat) (v : DWord) : (n.putWord64 a v).ports = n.ports := rfl
@[simp] theorem Node.putWord64_ina (a : Nat) (v : DWord) : (n.putWord64 a v).ina = n.ina := rfl
@[simp] theorem Node.putWord64_flows (a : Nat) (v : DWord) : (n.putWord64 a v).flows = n.flows := rfl
@[simp] theorem Node.putWord64_sessions (a : Nat) (v : DWord) : (n.putWord64 a v).sessions = n.sessions := rfl
@[simp] theorem Node.putWord64_mdStarted (a : Nat) (v : DWord) : (n.putWord64 a v).mdStarted = n.mdStarted := rfl
@[simp] theorem Node.putWord64_presses (a : Nat) (v : DWord) : (n.putWord64 a v).presses = n.presses := rfl
@[simp] theorem Node.putWord64_images (a : Nat) (v : DWord) : (n.putWord64 a v).images = n.images := rfl
@[simp] theorem Node.putWord64_cans (a : Nat) (v : DWord) : (n.putWord64 a v).cans = n.cans := rfl
@[simp] theorem Node.putWord64_lineUnits (a : Nat) (v : DWord) : (n.putWord64 a v).lineUnits = n.lineUnits := rfl
@[simp] theorem Node.putWord64_blend (a : Nat) (v : DWord) : (n.putWord64 a v).blend = n.blend := rfl
@[simp] theorem Node.putWord64_time (a : Nat) (v : DWord) : (n.putWord64 a v).time = n.time := rfl
@[simp] theorem Node.putWord64_host (a : Nat) (v : DWord) : (n.putWord64 a v).host = n.host := rfl
@[simp] theorem Node.putWord64_outs (a : Nat) (v : DWord) : (n.putWord64 a v).outs = n.outs := rfl
@[simp] theorem Node.putWord64_pair (a : Nat) (v : DWord) : (n.putWord64 a v).pair = n.pair := rfl
@[simp] theorem Node.putWord64_vnt (a : Nat) (v : DWord) : (n.putWord64 a v).vnt = n.vnt := rfl
@[simp] theorem Node.putWord64_vault (a : Nat) (v : DWord) : (n.putWord64 a v).vault = n.vault := rfl
@[simp] theorem Node.putWord64_maint (a : Nat) (v : DWord) : (n.putWord64 a v).maint = n.maint := rfl
@[simp] theorem Node.putWord64_out (a : Nat) (v : DWord) : (n.putWord64 a v).out = n.out := rfl
@[simp] theorem Node.putWord64_fresh (a : Nat) (v : DWord) : (n.putWord64 a v).fresh = n.fresh := rfl

/-! `setPort` -/

@[simp] theorem Node.setPort_power (p : Nat) (f : PortState → PortState) : (n.setPort p f).power = n.power := rfl
@[simp] theorem Node.setPort_store (p : Nat) (f : PortState → PortState) : (n.setPort p f).store = n.store := rfl
@[simp] theorem Node.setPort_supply (p : Nat) (f : PortState → PortState) : (n.setPort p f).supply = n.supply := rfl
@[simp] theorem Node.setPort_pins (p : Nat) (f : PortState → PortState) : (n.setPort p f).pins = n.pins := rfl
@[simp] theorem Node.setPort_commits (p : Nat) (f : PortState → PortState) : (n.setPort p f).commits = n.commits := rfl
@[simp] theorem Node.setPort_mc (p : Nat) (f : PortState → PortState) : (n.setPort p f).mc = n.mc := rfl
@[simp] theorem Node.setPort_faults (p : Nat) (f : PortState → PortState) : (n.setPort p f).faults = n.faults := rfl
@[simp] theorem Node.setPort_runs (p : Nat) (f : PortState → PortState) : (n.setPort p f).runs = n.runs := rfl
@[simp] theorem Node.setPort_hiLatch (p : Nat) (f : PortState → PortState) : (n.setPort p f).hiLatch = n.hiLatch := rfl
@[simp] theorem Node.setPort_winLatch (p : Nat) (f : PortState → PortState) : (n.setPort p f).winLatch = n.winLatch := rfl
@[simp] theorem Node.setPort_timeLatch (p : Nat) (f : PortState → PortState) : (n.setPort p f).timeLatch = n.timeLatch := rfl
@[simp] theorem Node.setPort_book (p : Nat) (f : PortState → PortState) : (n.setPort p f).book = n.book := rfl
@[simp] theorem Node.setPort_trellis (p : Nat) (f : PortState → PortState) : (n.setPort p f).trellis = n.trellis := rfl
@[simp] theorem Node.setPort_cellar (p : Nat) (f : PortState → PortState) : (n.setPort p f).cellar = n.cellar := rfl
@[simp] theorem Node.setPort_ina (p : Nat) (f : PortState → PortState) : (n.setPort p f).ina = n.ina := rfl
@[simp] theorem Node.setPort_flows (p : Nat) (f : PortState → PortState) : (n.setPort p f).flows = n.flows := rfl
@[simp] theorem Node.setPort_sessions (p : Nat) (f : PortState → PortState) : (n.setPort p f).sessions = n.sessions := rfl
@[simp] theorem Node.setPort_mdStarted (p : Nat) (f : PortState → PortState) : (n.setPort p f).mdStarted = n.mdStarted := rfl
@[simp] theorem Node.setPort_presses (p : Nat) (f : PortState → PortState) : (n.setPort p f).presses = n.presses := rfl
@[simp] theorem Node.setPort_images (p : Nat) (f : PortState → PortState) : (n.setPort p f).images = n.images := rfl
@[simp] theorem Node.setPort_cans (p : Nat) (f : PortState → PortState) : (n.setPort p f).cans = n.cans := rfl
@[simp] theorem Node.setPort_lineUnits (p : Nat) (f : PortState → PortState) : (n.setPort p f).lineUnits = n.lineUnits := rfl
@[simp] theorem Node.setPort_blend (p : Nat) (f : PortState → PortState) : (n.setPort p f).blend = n.blend := rfl
@[simp] theorem Node.setPort_time (p : Nat) (f : PortState → PortState) : (n.setPort p f).time = n.time := rfl
@[simp] theorem Node.setPort_host (p : Nat) (f : PortState → PortState) : (n.setPort p f).host = n.host := rfl
@[simp] theorem Node.setPort_outs (p : Nat) (f : PortState → PortState) : (n.setPort p f).outs = n.outs := rfl
@[simp] theorem Node.setPort_pair (p : Nat) (f : PortState → PortState) : (n.setPort p f).pair = n.pair := rfl
@[simp] theorem Node.setPort_vnt (p : Nat) (f : PortState → PortState) : (n.setPort p f).vnt = n.vnt := rfl
@[simp] theorem Node.setPort_vault (p : Nat) (f : PortState → PortState) : (n.setPort p f).vault = n.vault := rfl
@[simp] theorem Node.setPort_maint (p : Nat) (f : PortState → PortState) : (n.setPort p f).maint = n.maint := rfl
@[simp] theorem Node.setPort_out (p : Nat) (f : PortState → PortState) : (n.setPort p f).out = n.out := rfl
@[simp] theorem Node.setPort_fresh (p : Nat) (f : PortState → PortState) : (n.setPort p f).fresh = n.fresh := rfl

/-! `setFlow` -/

@[simp] theorem Node.setFlow_power (p : Nat) (f : FlowState → FlowState) : (n.setFlow p f).power = n.power := rfl
@[simp] theorem Node.setFlow_store (p : Nat) (f : FlowState → FlowState) : (n.setFlow p f).store = n.store := rfl
@[simp] theorem Node.setFlow_supply (p : Nat) (f : FlowState → FlowState) : (n.setFlow p f).supply = n.supply := rfl
@[simp] theorem Node.setFlow_pins (p : Nat) (f : FlowState → FlowState) : (n.setFlow p f).pins = n.pins := rfl
@[simp] theorem Node.setFlow_commits (p : Nat) (f : FlowState → FlowState) : (n.setFlow p f).commits = n.commits := rfl
@[simp] theorem Node.setFlow_mc (p : Nat) (f : FlowState → FlowState) : (n.setFlow p f).mc = n.mc := rfl
@[simp] theorem Node.setFlow_faults (p : Nat) (f : FlowState → FlowState) : (n.setFlow p f).faults = n.faults := rfl
@[simp] theorem Node.setFlow_runs (p : Nat) (f : FlowState → FlowState) : (n.setFlow p f).runs = n.runs := rfl
@[simp] theorem Node.setFlow_hiLatch (p : Nat) (f : FlowState → FlowState) : (n.setFlow p f).hiLatch = n.hiLatch := rfl
@[simp] theorem Node.setFlow_winLatch (p : Nat) (f : FlowState → FlowState) : (n.setFlow p f).winLatch = n.winLatch := rfl
@[simp] theorem Node.setFlow_timeLatch (p : Nat) (f : FlowState → FlowState) : (n.setFlow p f).timeLatch = n.timeLatch := rfl
@[simp] theorem Node.setFlow_book (p : Nat) (f : FlowState → FlowState) : (n.setFlow p f).book = n.book := rfl
@[simp] theorem Node.setFlow_trellis (p : Nat) (f : FlowState → FlowState) : (n.setFlow p f).trellis = n.trellis := rfl
@[simp] theorem Node.setFlow_cellar (p : Nat) (f : FlowState → FlowState) : (n.setFlow p f).cellar = n.cellar := rfl
@[simp] theorem Node.setFlow_ports (p : Nat) (f : FlowState → FlowState) : (n.setFlow p f).ports = n.ports := rfl
@[simp] theorem Node.setFlow_ina (p : Nat) (f : FlowState → FlowState) : (n.setFlow p f).ina = n.ina := rfl
@[simp] theorem Node.setFlow_sessions (p : Nat) (f : FlowState → FlowState) : (n.setFlow p f).sessions = n.sessions := rfl
@[simp] theorem Node.setFlow_mdStarted (p : Nat) (f : FlowState → FlowState) : (n.setFlow p f).mdStarted = n.mdStarted := rfl
@[simp] theorem Node.setFlow_presses (p : Nat) (f : FlowState → FlowState) : (n.setFlow p f).presses = n.presses := rfl
@[simp] theorem Node.setFlow_images (p : Nat) (f : FlowState → FlowState) : (n.setFlow p f).images = n.images := rfl
@[simp] theorem Node.setFlow_cans (p : Nat) (f : FlowState → FlowState) : (n.setFlow p f).cans = n.cans := rfl
@[simp] theorem Node.setFlow_lineUnits (p : Nat) (f : FlowState → FlowState) : (n.setFlow p f).lineUnits = n.lineUnits := rfl
@[simp] theorem Node.setFlow_blend (p : Nat) (f : FlowState → FlowState) : (n.setFlow p f).blend = n.blend := rfl
@[simp] theorem Node.setFlow_time (p : Nat) (f : FlowState → FlowState) : (n.setFlow p f).time = n.time := rfl
@[simp] theorem Node.setFlow_host (p : Nat) (f : FlowState → FlowState) : (n.setFlow p f).host = n.host := rfl
@[simp] theorem Node.setFlow_outs (p : Nat) (f : FlowState → FlowState) : (n.setFlow p f).outs = n.outs := rfl
@[simp] theorem Node.setFlow_pair (p : Nat) (f : FlowState → FlowState) : (n.setFlow p f).pair = n.pair := rfl
@[simp] theorem Node.setFlow_vnt (p : Nat) (f : FlowState → FlowState) : (n.setFlow p f).vnt = n.vnt := rfl
@[simp] theorem Node.setFlow_vault (p : Nat) (f : FlowState → FlowState) : (n.setFlow p f).vault = n.vault := rfl
@[simp] theorem Node.setFlow_maint (p : Nat) (f : FlowState → FlowState) : (n.setFlow p f).maint = n.maint := rfl
@[simp] theorem Node.setFlow_out (p : Nat) (f : FlowState → FlowState) : (n.setFlow p f).out = n.out := rfl
@[simp] theorem Node.setFlow_fresh (p : Nat) (f : FlowState → FlowState) : (n.setFlow p f).fresh = n.fresh := rfl

/-! `setSes` -/

@[simp] theorem Node.setSes_power (p : Nat) (f : SessionState → SessionState) : (n.setSes p f).power = n.power := rfl
@[simp] theorem Node.setSes_store (p : Nat) (f : SessionState → SessionState) : (n.setSes p f).store = n.store := rfl
@[simp] theorem Node.setSes_supply (p : Nat) (f : SessionState → SessionState) : (n.setSes p f).supply = n.supply := rfl
@[simp] theorem Node.setSes_pins (p : Nat) (f : SessionState → SessionState) : (n.setSes p f).pins = n.pins := rfl
@[simp] theorem Node.setSes_commits (p : Nat) (f : SessionState → SessionState) : (n.setSes p f).commits = n.commits := rfl
@[simp] theorem Node.setSes_mc (p : Nat) (f : SessionState → SessionState) : (n.setSes p f).mc = n.mc := rfl
@[simp] theorem Node.setSes_faults (p : Nat) (f : SessionState → SessionState) : (n.setSes p f).faults = n.faults := rfl
@[simp] theorem Node.setSes_runs (p : Nat) (f : SessionState → SessionState) : (n.setSes p f).runs = n.runs := rfl
@[simp] theorem Node.setSes_hiLatch (p : Nat) (f : SessionState → SessionState) : (n.setSes p f).hiLatch = n.hiLatch := rfl
@[simp] theorem Node.setSes_winLatch (p : Nat) (f : SessionState → SessionState) : (n.setSes p f).winLatch = n.winLatch := rfl
@[simp] theorem Node.setSes_timeLatch (p : Nat) (f : SessionState → SessionState) : (n.setSes p f).timeLatch = n.timeLatch := rfl
@[simp] theorem Node.setSes_book (p : Nat) (f : SessionState → SessionState) : (n.setSes p f).book = n.book := rfl
@[simp] theorem Node.setSes_trellis (p : Nat) (f : SessionState → SessionState) : (n.setSes p f).trellis = n.trellis := rfl
@[simp] theorem Node.setSes_cellar (p : Nat) (f : SessionState → SessionState) : (n.setSes p f).cellar = n.cellar := rfl
@[simp] theorem Node.setSes_ports (p : Nat) (f : SessionState → SessionState) : (n.setSes p f).ports = n.ports := rfl
@[simp] theorem Node.setSes_ina (p : Nat) (f : SessionState → SessionState) : (n.setSes p f).ina = n.ina := rfl
@[simp] theorem Node.setSes_flows (p : Nat) (f : SessionState → SessionState) : (n.setSes p f).flows = n.flows := rfl
@[simp] theorem Node.setSes_mdStarted (p : Nat) (f : SessionState → SessionState) : (n.setSes p f).mdStarted = n.mdStarted := rfl
@[simp] theorem Node.setSes_presses (p : Nat) (f : SessionState → SessionState) : (n.setSes p f).presses = n.presses := rfl
@[simp] theorem Node.setSes_images (p : Nat) (f : SessionState → SessionState) : (n.setSes p f).images = n.images := rfl
@[simp] theorem Node.setSes_cans (p : Nat) (f : SessionState → SessionState) : (n.setSes p f).cans = n.cans := rfl
@[simp] theorem Node.setSes_lineUnits (p : Nat) (f : SessionState → SessionState) : (n.setSes p f).lineUnits = n.lineUnits := rfl
@[simp] theorem Node.setSes_blend (p : Nat) (f : SessionState → SessionState) : (n.setSes p f).blend = n.blend := rfl
@[simp] theorem Node.setSes_time (p : Nat) (f : SessionState → SessionState) : (n.setSes p f).time = n.time := rfl
@[simp] theorem Node.setSes_host (p : Nat) (f : SessionState → SessionState) : (n.setSes p f).host = n.host := rfl
@[simp] theorem Node.setSes_outs (p : Nat) (f : SessionState → SessionState) : (n.setSes p f).outs = n.outs := rfl
@[simp] theorem Node.setSes_pair (p : Nat) (f : SessionState → SessionState) : (n.setSes p f).pair = n.pair := rfl
@[simp] theorem Node.setSes_vnt (p : Nat) (f : SessionState → SessionState) : (n.setSes p f).vnt = n.vnt := rfl
@[simp] theorem Node.setSes_vault (p : Nat) (f : SessionState → SessionState) : (n.setSes p f).vault = n.vault := rfl
@[simp] theorem Node.setSes_maint (p : Nat) (f : SessionState → SessionState) : (n.setSes p f).maint = n.maint := rfl
@[simp] theorem Node.setSes_out (p : Nat) (f : SessionState → SessionState) : (n.setSes p f).out = n.out := rfl
@[simp] theorem Node.setSes_fresh (p : Nat) (f : SessionState → SessionState) : (n.setSes p f).fresh = n.fresh := rfl

/-! `setPress` -/

@[simp] theorem Node.setPress_power (p : Nat) (f : Press → Press) : (n.setPress p f).power = n.power := rfl
@[simp] theorem Node.setPress_store (p : Nat) (f : Press → Press) : (n.setPress p f).store = n.store := rfl
@[simp] theorem Node.setPress_supply (p : Nat) (f : Press → Press) : (n.setPress p f).supply = n.supply := rfl
@[simp] theorem Node.setPress_pins (p : Nat) (f : Press → Press) : (n.setPress p f).pins = n.pins := rfl
@[simp] theorem Node.setPress_commits (p : Nat) (f : Press → Press) : (n.setPress p f).commits = n.commits := rfl
@[simp] theorem Node.setPress_mc (p : Nat) (f : Press → Press) : (n.setPress p f).mc = n.mc := rfl
@[simp] theorem Node.setPress_faults (p : Nat) (f : Press → Press) : (n.setPress p f).faults = n.faults := rfl
@[simp] theorem Node.setPress_runs (p : Nat) (f : Press → Press) : (n.setPress p f).runs = n.runs := rfl
@[simp] theorem Node.setPress_hiLatch (p : Nat) (f : Press → Press) : (n.setPress p f).hiLatch = n.hiLatch := rfl
@[simp] theorem Node.setPress_winLatch (p : Nat) (f : Press → Press) : (n.setPress p f).winLatch = n.winLatch := rfl
@[simp] theorem Node.setPress_timeLatch (p : Nat) (f : Press → Press) : (n.setPress p f).timeLatch = n.timeLatch := rfl
@[simp] theorem Node.setPress_book (p : Nat) (f : Press → Press) : (n.setPress p f).book = n.book := rfl
@[simp] theorem Node.setPress_trellis (p : Nat) (f : Press → Press) : (n.setPress p f).trellis = n.trellis := rfl
@[simp] theorem Node.setPress_cellar (p : Nat) (f : Press → Press) : (n.setPress p f).cellar = n.cellar := rfl
@[simp] theorem Node.setPress_ports (p : Nat) (f : Press → Press) : (n.setPress p f).ports = n.ports := rfl
@[simp] theorem Node.setPress_ina (p : Nat) (f : Press → Press) : (n.setPress p f).ina = n.ina := rfl
@[simp] theorem Node.setPress_flows (p : Nat) (f : Press → Press) : (n.setPress p f).flows = n.flows := rfl
@[simp] theorem Node.setPress_sessions (p : Nat) (f : Press → Press) : (n.setPress p f).sessions = n.sessions := rfl
@[simp] theorem Node.setPress_mdStarted (p : Nat) (f : Press → Press) : (n.setPress p f).mdStarted = n.mdStarted := rfl
@[simp] theorem Node.setPress_images (p : Nat) (f : Press → Press) : (n.setPress p f).images = n.images := rfl
@[simp] theorem Node.setPress_cans (p : Nat) (f : Press → Press) : (n.setPress p f).cans = n.cans := rfl
@[simp] theorem Node.setPress_lineUnits (p : Nat) (f : Press → Press) : (n.setPress p f).lineUnits = n.lineUnits := rfl
@[simp] theorem Node.setPress_blend (p : Nat) (f : Press → Press) : (n.setPress p f).blend = n.blend := rfl
@[simp] theorem Node.setPress_time (p : Nat) (f : Press → Press) : (n.setPress p f).time = n.time := rfl
@[simp] theorem Node.setPress_host (p : Nat) (f : Press → Press) : (n.setPress p f).host = n.host := rfl
@[simp] theorem Node.setPress_outs (p : Nat) (f : Press → Press) : (n.setPress p f).outs = n.outs := rfl
@[simp] theorem Node.setPress_pair (p : Nat) (f : Press → Press) : (n.setPress p f).pair = n.pair := rfl
@[simp] theorem Node.setPress_vnt (p : Nat) (f : Press → Press) : (n.setPress p f).vnt = n.vnt := rfl
@[simp] theorem Node.setPress_vault (p : Nat) (f : Press → Press) : (n.setPress p f).vault = n.vault := rfl
@[simp] theorem Node.setPress_maint (p : Nat) (f : Press → Press) : (n.setPress p f).maint = n.maint := rfl
@[simp] theorem Node.setPress_out (p : Nat) (f : Press → Press) : (n.setPress p f).out = n.out := rfl
@[simp] theorem Node.setPress_fresh (p : Nat) (f : Press → Press) : (n.setPress p f).fresh = n.fresh := rfl

/-! `setLineUnit` -/

@[simp] theorem Node.setLineUnit_power (u : Nat) (f : LineUnit → LineUnit) : (n.setLineUnit u f).power = n.power := rfl
@[simp] theorem Node.setLineUnit_store (u : Nat) (f : LineUnit → LineUnit) : (n.setLineUnit u f).store = n.store := rfl
@[simp] theorem Node.setLineUnit_supply (u : Nat) (f : LineUnit → LineUnit) : (n.setLineUnit u f).supply = n.supply := rfl
@[simp] theorem Node.setLineUnit_pins (u : Nat) (f : LineUnit → LineUnit) : (n.setLineUnit u f).pins = n.pins := rfl
@[simp] theorem Node.setLineUnit_commits (u : Nat) (f : LineUnit → LineUnit) : (n.setLineUnit u f).commits = n.commits := rfl
@[simp] theorem Node.setLineUnit_mc (u : Nat) (f : LineUnit → LineUnit) : (n.setLineUnit u f).mc = n.mc := rfl
@[simp] theorem Node.setLineUnit_faults (u : Nat) (f : LineUnit → LineUnit) : (n.setLineUnit u f).faults = n.faults := rfl
@[simp] theorem Node.setLineUnit_runs (u : Nat) (f : LineUnit → LineUnit) : (n.setLineUnit u f).runs = n.runs := rfl
@[simp] theorem Node.setLineUnit_hiLatch (u : Nat) (f : LineUnit → LineUnit) : (n.setLineUnit u f).hiLatch = n.hiLatch := rfl
@[simp] theorem Node.setLineUnit_winLatch (u : Nat) (f : LineUnit → LineUnit) : (n.setLineUnit u f).winLatch = n.winLatch := rfl
@[simp] theorem Node.setLineUnit_timeLatch (u : Nat) (f : LineUnit → LineUnit) : (n.setLineUnit u f).timeLatch = n.timeLatch := rfl
@[simp] theorem Node.setLineUnit_book (u : Nat) (f : LineUnit → LineUnit) : (n.setLineUnit u f).book = n.book := rfl
@[simp] theorem Node.setLineUnit_trellis (u : Nat) (f : LineUnit → LineUnit) : (n.setLineUnit u f).trellis = n.trellis := rfl
@[simp] theorem Node.setLineUnit_cellar (u : Nat) (f : LineUnit → LineUnit) : (n.setLineUnit u f).cellar = n.cellar := rfl
@[simp] theorem Node.setLineUnit_ports (u : Nat) (f : LineUnit → LineUnit) : (n.setLineUnit u f).ports = n.ports := rfl
@[simp] theorem Node.setLineUnit_ina (u : Nat) (f : LineUnit → LineUnit) : (n.setLineUnit u f).ina = n.ina := rfl
@[simp] theorem Node.setLineUnit_flows (u : Nat) (f : LineUnit → LineUnit) : (n.setLineUnit u f).flows = n.flows := rfl
@[simp] theorem Node.setLineUnit_sessions (u : Nat) (f : LineUnit → LineUnit) : (n.setLineUnit u f).sessions = n.sessions := rfl
@[simp] theorem Node.setLineUnit_mdStarted (u : Nat) (f : LineUnit → LineUnit) : (n.setLineUnit u f).mdStarted = n.mdStarted := rfl
@[simp] theorem Node.setLineUnit_presses (u : Nat) (f : LineUnit → LineUnit) : (n.setLineUnit u f).presses = n.presses := rfl
@[simp] theorem Node.setLineUnit_images (u : Nat) (f : LineUnit → LineUnit) : (n.setLineUnit u f).images = n.images := rfl
@[simp] theorem Node.setLineUnit_cans (u : Nat) (f : LineUnit → LineUnit) : (n.setLineUnit u f).cans = n.cans := rfl
@[simp] theorem Node.setLineUnit_blend (u : Nat) (f : LineUnit → LineUnit) : (n.setLineUnit u f).blend = n.blend := rfl
@[simp] theorem Node.setLineUnit_time (u : Nat) (f : LineUnit → LineUnit) : (n.setLineUnit u f).time = n.time := rfl
@[simp] theorem Node.setLineUnit_host (u : Nat) (f : LineUnit → LineUnit) : (n.setLineUnit u f).host = n.host := rfl
@[simp] theorem Node.setLineUnit_outs (u : Nat) (f : LineUnit → LineUnit) : (n.setLineUnit u f).outs = n.outs := rfl
@[simp] theorem Node.setLineUnit_pair (u : Nat) (f : LineUnit → LineUnit) : (n.setLineUnit u f).pair = n.pair := rfl
@[simp] theorem Node.setLineUnit_vnt (u : Nat) (f : LineUnit → LineUnit) : (n.setLineUnit u f).vnt = n.vnt := rfl
@[simp] theorem Node.setLineUnit_vault (u : Nat) (f : LineUnit → LineUnit) : (n.setLineUnit u f).vault = n.vault := rfl
@[simp] theorem Node.setLineUnit_maint (u : Nat) (f : LineUnit → LineUnit) : (n.setLineUnit u f).maint = n.maint := rfl
@[simp] theorem Node.setLineUnit_out (u : Nat) (f : LineUnit → LineUnit) : (n.setLineUnit u f).out = n.out := rfl
@[simp] theorem Node.setLineUnit_fresh (u : Nat) (f : LineUnit → LineUnit) : (n.setLineUnit u f).fresh = n.fresh := rfl

/-! `setCan` -/

@[simp] theorem Node.setCan_power (p : Nat) (f : CanCtrl → CanCtrl) : (n.setCan p f).power = n.power := rfl
@[simp] theorem Node.setCan_store (p : Nat) (f : CanCtrl → CanCtrl) : (n.setCan p f).store = n.store := rfl
@[simp] theorem Node.setCan_supply (p : Nat) (f : CanCtrl → CanCtrl) : (n.setCan p f).supply = n.supply := rfl
@[simp] theorem Node.setCan_pins (p : Nat) (f : CanCtrl → CanCtrl) : (n.setCan p f).pins = n.pins := rfl
@[simp] theorem Node.setCan_commits (p : Nat) (f : CanCtrl → CanCtrl) : (n.setCan p f).commits = n.commits := rfl
@[simp] theorem Node.setCan_mc (p : Nat) (f : CanCtrl → CanCtrl) : (n.setCan p f).mc = n.mc := rfl
@[simp] theorem Node.setCan_faults (p : Nat) (f : CanCtrl → CanCtrl) : (n.setCan p f).faults = n.faults := rfl
@[simp] theorem Node.setCan_runs (p : Nat) (f : CanCtrl → CanCtrl) : (n.setCan p f).runs = n.runs := rfl
@[simp] theorem Node.setCan_hiLatch (p : Nat) (f : CanCtrl → CanCtrl) : (n.setCan p f).hiLatch = n.hiLatch := rfl
@[simp] theorem Node.setCan_winLatch (p : Nat) (f : CanCtrl → CanCtrl) : (n.setCan p f).winLatch = n.winLatch := rfl
@[simp] theorem Node.setCan_timeLatch (p : Nat) (f : CanCtrl → CanCtrl) : (n.setCan p f).timeLatch = n.timeLatch := rfl
@[simp] theorem Node.setCan_book (p : Nat) (f : CanCtrl → CanCtrl) : (n.setCan p f).book = n.book := rfl
@[simp] theorem Node.setCan_trellis (p : Nat) (f : CanCtrl → CanCtrl) : (n.setCan p f).trellis = n.trellis := rfl
@[simp] theorem Node.setCan_cellar (p : Nat) (f : CanCtrl → CanCtrl) : (n.setCan p f).cellar = n.cellar := rfl
@[simp] theorem Node.setCan_ports (p : Nat) (f : CanCtrl → CanCtrl) : (n.setCan p f).ports = n.ports := rfl
@[simp] theorem Node.setCan_ina (p : Nat) (f : CanCtrl → CanCtrl) : (n.setCan p f).ina = n.ina := rfl
@[simp] theorem Node.setCan_flows (p : Nat) (f : CanCtrl → CanCtrl) : (n.setCan p f).flows = n.flows := rfl
@[simp] theorem Node.setCan_sessions (p : Nat) (f : CanCtrl → CanCtrl) : (n.setCan p f).sessions = n.sessions := rfl
@[simp] theorem Node.setCan_mdStarted (p : Nat) (f : CanCtrl → CanCtrl) : (n.setCan p f).mdStarted = n.mdStarted := rfl
@[simp] theorem Node.setCan_presses (p : Nat) (f : CanCtrl → CanCtrl) : (n.setCan p f).presses = n.presses := rfl
@[simp] theorem Node.setCan_images (p : Nat) (f : CanCtrl → CanCtrl) : (n.setCan p f).images = n.images := rfl
@[simp] theorem Node.setCan_lineUnits (p : Nat) (f : CanCtrl → CanCtrl) : (n.setCan p f).lineUnits = n.lineUnits := rfl
@[simp] theorem Node.setCan_blend (p : Nat) (f : CanCtrl → CanCtrl) : (n.setCan p f).blend = n.blend := rfl
@[simp] theorem Node.setCan_time (p : Nat) (f : CanCtrl → CanCtrl) : (n.setCan p f).time = n.time := rfl
@[simp] theorem Node.setCan_host (p : Nat) (f : CanCtrl → CanCtrl) : (n.setCan p f).host = n.host := rfl
@[simp] theorem Node.setCan_outs (p : Nat) (f : CanCtrl → CanCtrl) : (n.setCan p f).outs = n.outs := rfl
@[simp] theorem Node.setCan_pair (p : Nat) (f : CanCtrl → CanCtrl) : (n.setCan p f).pair = n.pair := rfl
@[simp] theorem Node.setCan_vnt (p : Nat) (f : CanCtrl → CanCtrl) : (n.setCan p f).vnt = n.vnt := rfl
@[simp] theorem Node.setCan_vault (p : Nat) (f : CanCtrl → CanCtrl) : (n.setCan p f).vault = n.vault := rfl
@[simp] theorem Node.setCan_maint (p : Nat) (f : CanCtrl → CanCtrl) : (n.setCan p f).maint = n.maint := rfl
@[simp] theorem Node.setCan_out (p : Nat) (f : CanCtrl → CanCtrl) : (n.setCan p f).out = n.out := rfl
@[simp] theorem Node.setCan_fresh (p : Nat) (f : CanCtrl → CanCtrl) : (n.setCan p f).fresh = n.fresh := rfl

/-! `setChan` -/

@[simp] theorem Node.setChan_power (p : Nat) (f : Channel → Channel) : (n.setChan p f).power = n.power := rfl
@[simp] theorem Node.setChan_store (p : Nat) (f : Channel → Channel) : (n.setChan p f).store = n.store := rfl
@[simp] theorem Node.setChan_supply (p : Nat) (f : Channel → Channel) : (n.setChan p f).supply = n.supply := rfl
@[simp] theorem Node.setChan_pins (p : Nat) (f : Channel → Channel) : (n.setChan p f).pins = n.pins := rfl
@[simp] theorem Node.setChan_commits (p : Nat) (f : Channel → Channel) : (n.setChan p f).commits = n.commits := rfl
@[simp] theorem Node.setChan_mc (p : Nat) (f : Channel → Channel) : (n.setChan p f).mc = n.mc := rfl
@[simp] theorem Node.setChan_faults (p : Nat) (f : Channel → Channel) : (n.setChan p f).faults = n.faults := rfl
@[simp] theorem Node.setChan_runs (p : Nat) (f : Channel → Channel) : (n.setChan p f).runs = n.runs := rfl
@[simp] theorem Node.setChan_hiLatch (p : Nat) (f : Channel → Channel) : (n.setChan p f).hiLatch = n.hiLatch := rfl
@[simp] theorem Node.setChan_winLatch (p : Nat) (f : Channel → Channel) : (n.setChan p f).winLatch = n.winLatch := rfl
@[simp] theorem Node.setChan_timeLatch (p : Nat) (f : Channel → Channel) : (n.setChan p f).timeLatch = n.timeLatch := rfl
@[simp] theorem Node.setChan_book (p : Nat) (f : Channel → Channel) : (n.setChan p f).book = n.book := rfl
@[simp] theorem Node.setChan_trellis (p : Nat) (f : Channel → Channel) : (n.setChan p f).trellis = n.trellis := rfl
@[simp] theorem Node.setChan_cellar (p : Nat) (f : Channel → Channel) : (n.setChan p f).cellar = n.cellar := rfl
@[simp] theorem Node.setChan_ports (p : Nat) (f : Channel → Channel) : (n.setChan p f).ports = n.ports := rfl
@[simp] theorem Node.setChan_ina (p : Nat) (f : Channel → Channel) : (n.setChan p f).ina = n.ina := rfl
@[simp] theorem Node.setChan_flows (p : Nat) (f : Channel → Channel) : (n.setChan p f).flows = n.flows := rfl
@[simp] theorem Node.setChan_sessions (p : Nat) (f : Channel → Channel) : (n.setChan p f).sessions = n.sessions := rfl
@[simp] theorem Node.setChan_mdStarted (p : Nat) (f : Channel → Channel) : (n.setChan p f).mdStarted = n.mdStarted := rfl
@[simp] theorem Node.setChan_presses (p : Nat) (f : Channel → Channel) : (n.setChan p f).presses = n.presses := rfl
@[simp] theorem Node.setChan_images (p : Nat) (f : Channel → Channel) : (n.setChan p f).images = n.images := rfl
@[simp] theorem Node.setChan_cans (p : Nat) (f : Channel → Channel) : (n.setChan p f).cans = n.cans := rfl
@[simp] theorem Node.setChan_lineUnits (p : Nat) (f : Channel → Channel) : (n.setChan p f).lineUnits = n.lineUnits := rfl
@[simp] theorem Node.setChan_blend (p : Nat) (f : Channel → Channel) : (n.setChan p f).blend = n.blend := rfl
@[simp] theorem Node.setChan_time (p : Nat) (f : Channel → Channel) : (n.setChan p f).time = n.time := rfl
@[simp] theorem Node.setChan_host (p : Nat) (f : Channel → Channel) : (n.setChan p f).host = n.host := rfl
@[simp] theorem Node.setChan_pair (p : Nat) (f : Channel → Channel) : (n.setChan p f).pair = n.pair := rfl
@[simp] theorem Node.setChan_vnt (p : Nat) (f : Channel → Channel) : (n.setChan p f).vnt = n.vnt := rfl
@[simp] theorem Node.setChan_vault (p : Nat) (f : Channel → Channel) : (n.setChan p f).vault = n.vault := rfl
@[simp] theorem Node.setChan_maint (p : Nat) (f : Channel → Channel) : (n.setChan p f).maint = n.maint := rfl
@[simp] theorem Node.setChan_out (p : Nat) (f : Channel → Channel) : (n.setChan p f).out = n.out := rfl
@[simp] theorem Node.setChan_fresh (p : Nat) (f : Channel → Channel) : (n.setChan p f).fresh = n.fresh := rfl

/-! `setInput` -/

@[simp] theorem Node.setInput_power (p : Nat) (f : DigIn → DigIn) : (n.setInput p f).power = n.power := rfl
@[simp] theorem Node.setInput_store (p : Nat) (f : DigIn → DigIn) : (n.setInput p f).store = n.store := rfl
@[simp] theorem Node.setInput_supply (p : Nat) (f : DigIn → DigIn) : (n.setInput p f).supply = n.supply := rfl
@[simp] theorem Node.setInput_pins (p : Nat) (f : DigIn → DigIn) : (n.setInput p f).pins = n.pins := rfl
@[simp] theorem Node.setInput_commits (p : Nat) (f : DigIn → DigIn) : (n.setInput p f).commits = n.commits := rfl
@[simp] theorem Node.setInput_mc (p : Nat) (f : DigIn → DigIn) : (n.setInput p f).mc = n.mc := rfl
@[simp] theorem Node.setInput_faults (p : Nat) (f : DigIn → DigIn) : (n.setInput p f).faults = n.faults := rfl
@[simp] theorem Node.setInput_runs (p : Nat) (f : DigIn → DigIn) : (n.setInput p f).runs = n.runs := rfl
@[simp] theorem Node.setInput_hiLatch (p : Nat) (f : DigIn → DigIn) : (n.setInput p f).hiLatch = n.hiLatch := rfl
@[simp] theorem Node.setInput_winLatch (p : Nat) (f : DigIn → DigIn) : (n.setInput p f).winLatch = n.winLatch := rfl
@[simp] theorem Node.setInput_timeLatch (p : Nat) (f : DigIn → DigIn) : (n.setInput p f).timeLatch = n.timeLatch := rfl
@[simp] theorem Node.setInput_book (p : Nat) (f : DigIn → DigIn) : (n.setInput p f).book = n.book := rfl
@[simp] theorem Node.setInput_trellis (p : Nat) (f : DigIn → DigIn) : (n.setInput p f).trellis = n.trellis := rfl
@[simp] theorem Node.setInput_cellar (p : Nat) (f : DigIn → DigIn) : (n.setInput p f).cellar = n.cellar := rfl
@[simp] theorem Node.setInput_ports (p : Nat) (f : DigIn → DigIn) : (n.setInput p f).ports = n.ports := rfl
@[simp] theorem Node.setInput_ina (p : Nat) (f : DigIn → DigIn) : (n.setInput p f).ina = n.ina := rfl
@[simp] theorem Node.setInput_flows (p : Nat) (f : DigIn → DigIn) : (n.setInput p f).flows = n.flows := rfl
@[simp] theorem Node.setInput_sessions (p : Nat) (f : DigIn → DigIn) : (n.setInput p f).sessions = n.sessions := rfl
@[simp] theorem Node.setInput_mdStarted (p : Nat) (f : DigIn → DigIn) : (n.setInput p f).mdStarted = n.mdStarted := rfl
@[simp] theorem Node.setInput_presses (p : Nat) (f : DigIn → DigIn) : (n.setInput p f).presses = n.presses := rfl
@[simp] theorem Node.setInput_images (p : Nat) (f : DigIn → DigIn) : (n.setInput p f).images = n.images := rfl
@[simp] theorem Node.setInput_cans (p : Nat) (f : DigIn → DigIn) : (n.setInput p f).cans = n.cans := rfl
@[simp] theorem Node.setInput_lineUnits (p : Nat) (f : DigIn → DigIn) : (n.setInput p f).lineUnits = n.lineUnits := rfl
@[simp] theorem Node.setInput_blend (p : Nat) (f : DigIn → DigIn) : (n.setInput p f).blend = n.blend := rfl
@[simp] theorem Node.setInput_time (p : Nat) (f : DigIn → DigIn) : (n.setInput p f).time = n.time := rfl
@[simp] theorem Node.setInput_host (p : Nat) (f : DigIn → DigIn) : (n.setInput p f).host = n.host := rfl
@[simp] theorem Node.setInput_pair (p : Nat) (f : DigIn → DigIn) : (n.setInput p f).pair = n.pair := rfl
@[simp] theorem Node.setInput_vnt (p : Nat) (f : DigIn → DigIn) : (n.setInput p f).vnt = n.vnt := rfl
@[simp] theorem Node.setInput_vault (p : Nat) (f : DigIn → DigIn) : (n.setInput p f).vault = n.vault := rfl
@[simp] theorem Node.setInput_maint (p : Nat) (f : DigIn → DigIn) : (n.setInput p f).maint = n.maint := rfl
@[simp] theorem Node.setInput_out (p : Nat) (f : DigIn → DigIn) : (n.setInput p f).out = n.out := rfl
@[simp] theorem Node.setInput_fresh (p : Nat) (f : DigIn → DigIn) : (n.setInput p f).fresh = n.fresh := rfl

/-! `setLine` -/

@[simp] theorem Node.setLine_power (p : Nat) (f : LineState → LineState) : (n.setLine p f).power = n.power := rfl
@[simp] theorem Node.setLine_store (p : Nat) (f : LineState → LineState) : (n.setLine p f).store = n.store := rfl
@[simp] theorem Node.setLine_supply (p : Nat) (f : LineState → LineState) : (n.setLine p f).supply = n.supply := rfl
@[simp] theorem Node.setLine_pins (p : Nat) (f : LineState → LineState) : (n.setLine p f).pins = n.pins := rfl
@[simp] theorem Node.setLine_commits (p : Nat) (f : LineState → LineState) : (n.setLine p f).commits = n.commits := rfl
@[simp] theorem Node.setLine_mc (p : Nat) (f : LineState → LineState) : (n.setLine p f).mc = n.mc := rfl
@[simp] theorem Node.setLine_faults (p : Nat) (f : LineState → LineState) : (n.setLine p f).faults = n.faults := rfl
@[simp] theorem Node.setLine_runs (p : Nat) (f : LineState → LineState) : (n.setLine p f).runs = n.runs := rfl
@[simp] theorem Node.setLine_hiLatch (p : Nat) (f : LineState → LineState) : (n.setLine p f).hiLatch = n.hiLatch := rfl
@[simp] theorem Node.setLine_winLatch (p : Nat) (f : LineState → LineState) : (n.setLine p f).winLatch = n.winLatch := rfl
@[simp] theorem Node.setLine_timeLatch (p : Nat) (f : LineState → LineState) : (n.setLine p f).timeLatch = n.timeLatch := rfl
@[simp] theorem Node.setLine_book (p : Nat) (f : LineState → LineState) : (n.setLine p f).book = n.book := rfl
@[simp] theorem Node.setLine_trellis (p : Nat) (f : LineState → LineState) : (n.setLine p f).trellis = n.trellis := rfl
@[simp] theorem Node.setLine_cellar (p : Nat) (f : LineState → LineState) : (n.setLine p f).cellar = n.cellar := rfl
@[simp] theorem Node.setLine_ports (p : Nat) (f : LineState → LineState) : (n.setLine p f).ports = n.ports := rfl
@[simp] theorem Node.setLine_flows (p : Nat) (f : LineState → LineState) : (n.setLine p f).flows = n.flows := rfl
@[simp] theorem Node.setLine_sessions (p : Nat) (f : LineState → LineState) : (n.setLine p f).sessions = n.sessions := rfl
@[simp] theorem Node.setLine_mdStarted (p : Nat) (f : LineState → LineState) : (n.setLine p f).mdStarted = n.mdStarted := rfl
@[simp] theorem Node.setLine_presses (p : Nat) (f : LineState → LineState) : (n.setLine p f).presses = n.presses := rfl
@[simp] theorem Node.setLine_images (p : Nat) (f : LineState → LineState) : (n.setLine p f).images = n.images := rfl
@[simp] theorem Node.setLine_cans (p : Nat) (f : LineState → LineState) : (n.setLine p f).cans = n.cans := rfl
@[simp] theorem Node.setLine_lineUnits (p : Nat) (f : LineState → LineState) : (n.setLine p f).lineUnits = n.lineUnits := rfl
@[simp] theorem Node.setLine_blend (p : Nat) (f : LineState → LineState) : (n.setLine p f).blend = n.blend := rfl
@[simp] theorem Node.setLine_time (p : Nat) (f : LineState → LineState) : (n.setLine p f).time = n.time := rfl
@[simp] theorem Node.setLine_host (p : Nat) (f : LineState → LineState) : (n.setLine p f).host = n.host := rfl
@[simp] theorem Node.setLine_outs (p : Nat) (f : LineState → LineState) : (n.setLine p f).outs = n.outs := rfl
@[simp] theorem Node.setLine_pair (p : Nat) (f : LineState → LineState) : (n.setLine p f).pair = n.pair := rfl
@[simp] theorem Node.setLine_vnt (p : Nat) (f : LineState → LineState) : (n.setLine p f).vnt = n.vnt := rfl
@[simp] theorem Node.setLine_vault (p : Nat) (f : LineState → LineState) : (n.setLine p f).vault = n.vault := rfl
@[simp] theorem Node.setLine_maint (p : Nat) (f : LineState → LineState) : (n.setLine p f).maint = n.maint := rfl
@[simp] theorem Node.setLine_out (p : Nat) (f : LineState → LineState) : (n.setLine p f).out = n.out := rfl
@[simp] theorem Node.setLine_fresh (p : Nat) (f : LineState → LineState) : (n.setLine p f).fresh = n.fresh := rfl

/-! `setRing` -/

@[simp] theorem Node.setRing_power (p : Nat) (f : Ring → Ring) : (n.setRing p f).power = n.power := rfl
@[simp] theorem Node.setRing_store (p : Nat) (f : Ring → Ring) : (n.setRing p f).store = n.store := rfl
@[simp] theorem Node.setRing_supply (p : Nat) (f : Ring → Ring) : (n.setRing p f).supply = n.supply := rfl
@[simp] theorem Node.setRing_pins (p : Nat) (f : Ring → Ring) : (n.setRing p f).pins = n.pins := rfl
@[simp] theorem Node.setRing_commits (p : Nat) (f : Ring → Ring) : (n.setRing p f).commits = n.commits := rfl
@[simp] theorem Node.setRing_mc (p : Nat) (f : Ring → Ring) : (n.setRing p f).mc = n.mc := rfl
@[simp] theorem Node.setRing_faults (p : Nat) (f : Ring → Ring) : (n.setRing p f).faults = n.faults := rfl
@[simp] theorem Node.setRing_runs (p : Nat) (f : Ring → Ring) : (n.setRing p f).runs = n.runs := rfl
@[simp] theorem Node.setRing_hiLatch (p : Nat) (f : Ring → Ring) : (n.setRing p f).hiLatch = n.hiLatch := rfl
@[simp] theorem Node.setRing_winLatch (p : Nat) (f : Ring → Ring) : (n.setRing p f).winLatch = n.winLatch := rfl
@[simp] theorem Node.setRing_timeLatch (p : Nat) (f : Ring → Ring) : (n.setRing p f).timeLatch = n.timeLatch := rfl
@[simp] theorem Node.setRing_book (p : Nat) (f : Ring → Ring) : (n.setRing p f).book = n.book := rfl
@[simp] theorem Node.setRing_trellis (p : Nat) (f : Ring → Ring) : (n.setRing p f).trellis = n.trellis := rfl
@[simp] theorem Node.setRing_cellar (p : Nat) (f : Ring → Ring) : (n.setRing p f).cellar = n.cellar := rfl
@[simp] theorem Node.setRing_ports (p : Nat) (f : Ring → Ring) : (n.setRing p f).ports = n.ports := rfl
@[simp] theorem Node.setRing_ina (p : Nat) (f : Ring → Ring) : (n.setRing p f).ina = n.ina := rfl
@[simp] theorem Node.setRing_flows (p : Nat) (f : Ring → Ring) : (n.setRing p f).flows = n.flows := rfl
@[simp] theorem Node.setRing_sessions (p : Nat) (f : Ring → Ring) : (n.setRing p f).sessions = n.sessions := rfl
@[simp] theorem Node.setRing_mdStarted (p : Nat) (f : Ring → Ring) : (n.setRing p f).mdStarted = n.mdStarted := rfl
@[simp] theorem Node.setRing_presses (p : Nat) (f : Ring → Ring) : (n.setRing p f).presses = n.presses := rfl
@[simp] theorem Node.setRing_images (p : Nat) (f : Ring → Ring) : (n.setRing p f).images = n.images := rfl
@[simp] theorem Node.setRing_cans (p : Nat) (f : Ring → Ring) : (n.setRing p f).cans = n.cans := rfl
@[simp] theorem Node.setRing_lineUnits (p : Nat) (f : Ring → Ring) : (n.setRing p f).lineUnits = n.lineUnits := rfl
@[simp] theorem Node.setRing_blend (p : Nat) (f : Ring → Ring) : (n.setRing p f).blend = n.blend := rfl
@[simp] theorem Node.setRing_time (p : Nat) (f : Ring → Ring) : (n.setRing p f).time = n.time := rfl
@[simp] theorem Node.setRing_outs (p : Nat) (f : Ring → Ring) : (n.setRing p f).outs = n.outs := rfl
@[simp] theorem Node.setRing_pair (p : Nat) (f : Ring → Ring) : (n.setRing p f).pair = n.pair := rfl
@[simp] theorem Node.setRing_vnt (p : Nat) (f : Ring → Ring) : (n.setRing p f).vnt = n.vnt := rfl
@[simp] theorem Node.setRing_vault (p : Nat) (f : Ring → Ring) : (n.setRing p f).vault = n.vault := rfl
@[simp] theorem Node.setRing_maint (p : Nat) (f : Ring → Ring) : (n.setRing p f).maint = n.maint := rfl
@[simp] theorem Node.setRing_out (p : Nat) (f : Ring → Ring) : (n.setRing p f).out = n.out := rfl
@[simp] theorem Node.setRing_fresh (p : Nat) (f : Ring → Ring) : (n.setRing p f).fresh = n.fresh := rfl

/-! `setPhase` -/

@[simp] theorem Node.setPhase_power (g : Nat) (p : CommitPhase) : (n.setPhase g p).power = n.power := rfl
@[simp] theorem Node.setPhase_store (g : Nat) (p : CommitPhase) : (n.setPhase g p).store = n.store := rfl
@[simp] theorem Node.setPhase_supply (g : Nat) (p : CommitPhase) : (n.setPhase g p).supply = n.supply := rfl
@[simp] theorem Node.setPhase_pins (g : Nat) (p : CommitPhase) : (n.setPhase g p).pins = n.pins := rfl
@[simp] theorem Node.setPhase_mc (g : Nat) (p : CommitPhase) : (n.setPhase g p).mc = n.mc := rfl
@[simp] theorem Node.setPhase_faults (g : Nat) (p : CommitPhase) : (n.setPhase g p).faults = n.faults := rfl
@[simp] theorem Node.setPhase_runs (g : Nat) (p : CommitPhase) : (n.setPhase g p).runs = n.runs := rfl
@[simp] theorem Node.setPhase_hiLatch (g : Nat) (p : CommitPhase) : (n.setPhase g p).hiLatch = n.hiLatch := rfl
@[simp] theorem Node.setPhase_winLatch (g : Nat) (p : CommitPhase) : (n.setPhase g p).winLatch = n.winLatch := rfl
@[simp] theorem Node.setPhase_timeLatch (g : Nat) (p : CommitPhase) : (n.setPhase g p).timeLatch = n.timeLatch := rfl
@[simp] theorem Node.setPhase_book (g : Nat) (p : CommitPhase) : (n.setPhase g p).book = n.book := rfl
@[simp] theorem Node.setPhase_trellis (g : Nat) (p : CommitPhase) : (n.setPhase g p).trellis = n.trellis := rfl
@[simp] theorem Node.setPhase_cellar (g : Nat) (p : CommitPhase) : (n.setPhase g p).cellar = n.cellar := rfl
@[simp] theorem Node.setPhase_ports (g : Nat) (p : CommitPhase) : (n.setPhase g p).ports = n.ports := rfl
@[simp] theorem Node.setPhase_ina (g : Nat) (p : CommitPhase) : (n.setPhase g p).ina = n.ina := rfl
@[simp] theorem Node.setPhase_flows (g : Nat) (p : CommitPhase) : (n.setPhase g p).flows = n.flows := rfl
@[simp] theorem Node.setPhase_sessions (g : Nat) (p : CommitPhase) : (n.setPhase g p).sessions = n.sessions := rfl
@[simp] theorem Node.setPhase_mdStarted (g : Nat) (p : CommitPhase) : (n.setPhase g p).mdStarted = n.mdStarted := rfl
@[simp] theorem Node.setPhase_presses (g : Nat) (p : CommitPhase) : (n.setPhase g p).presses = n.presses := rfl
@[simp] theorem Node.setPhase_images (g : Nat) (p : CommitPhase) : (n.setPhase g p).images = n.images := rfl
@[simp] theorem Node.setPhase_cans (g : Nat) (p : CommitPhase) : (n.setPhase g p).cans = n.cans := rfl
@[simp] theorem Node.setPhase_lineUnits (g : Nat) (p : CommitPhase) : (n.setPhase g p).lineUnits = n.lineUnits := rfl
@[simp] theorem Node.setPhase_blend (g : Nat) (p : CommitPhase) : (n.setPhase g p).blend = n.blend := rfl
@[simp] theorem Node.setPhase_time (g : Nat) (p : CommitPhase) : (n.setPhase g p).time = n.time := rfl
@[simp] theorem Node.setPhase_host (g : Nat) (p : CommitPhase) : (n.setPhase g p).host = n.host := rfl
@[simp] theorem Node.setPhase_outs (g : Nat) (p : CommitPhase) : (n.setPhase g p).outs = n.outs := rfl
@[simp] theorem Node.setPhase_pair (g : Nat) (p : CommitPhase) : (n.setPhase g p).pair = n.pair := rfl
@[simp] theorem Node.setPhase_vnt (g : Nat) (p : CommitPhase) : (n.setPhase g p).vnt = n.vnt := rfl
@[simp] theorem Node.setPhase_vault (g : Nat) (p : CommitPhase) : (n.setPhase g p).vault = n.vault := rfl
@[simp] theorem Node.setPhase_maint (g : Nat) (p : CommitPhase) : (n.setPhase g p).maint = n.maint := rfl
@[simp] theorem Node.setPhase_out (g : Nat) (p : CommitPhase) : (n.setPhase g p).out = n.out := rfl
@[simp] theorem Node.setPhase_fresh (g : Nat) (p : CommitPhase) : (n.setPhase g p).fresh = n.fresh := rfl

/-! `took` -/

@[simp] theorem Node.took_power : (n.took).power = n.power := rfl
@[simp] theorem Node.took_store : (n.took).store = n.store := rfl
@[simp] theorem Node.took_supply : (n.took).supply = n.supply := rfl
@[simp] theorem Node.took_pins : (n.took).pins = n.pins := rfl
@[simp] theorem Node.took_commits : (n.took).commits = n.commits := rfl
@[simp] theorem Node.took_mc : (n.took).mc = n.mc := rfl
@[simp] theorem Node.took_faults : (n.took).faults = n.faults := rfl
@[simp] theorem Node.took_runs : (n.took).runs = n.runs := rfl
@[simp] theorem Node.took_hiLatch : (n.took).hiLatch = n.hiLatch := rfl
@[simp] theorem Node.took_winLatch : (n.took).winLatch = n.winLatch := rfl
@[simp] theorem Node.took_timeLatch : (n.took).timeLatch = n.timeLatch := rfl
@[simp] theorem Node.took_book : (n.took).book = n.book := rfl
@[simp] theorem Node.took_trellis : (n.took).trellis = n.trellis := rfl
@[simp] theorem Node.took_cellar : (n.took).cellar = n.cellar := rfl
@[simp] theorem Node.took_ports : (n.took).ports = n.ports := rfl
@[simp] theorem Node.took_ina : (n.took).ina = n.ina := rfl
@[simp] theorem Node.took_flows : (n.took).flows = n.flows := rfl
@[simp] theorem Node.took_sessions : (n.took).sessions = n.sessions := rfl
@[simp] theorem Node.took_mdStarted : (n.took).mdStarted = n.mdStarted := rfl
@[simp] theorem Node.took_presses : (n.took).presses = n.presses := rfl
@[simp] theorem Node.took_images : (n.took).images = n.images := rfl
@[simp] theorem Node.took_cans : (n.took).cans = n.cans := rfl
@[simp] theorem Node.took_lineUnits : (n.took).lineUnits = n.lineUnits := rfl
@[simp] theorem Node.took_blend : (n.took).blend = n.blend := rfl
@[simp] theorem Node.took_time : (n.took).time = n.time := rfl
@[simp] theorem Node.took_host : (n.took).host = n.host := rfl
@[simp] theorem Node.took_outs : (n.took).outs = n.outs := rfl
@[simp] theorem Node.took_pair : (n.took).pair = n.pair := rfl
@[simp] theorem Node.took_vnt : (n.took).vnt = n.vnt := rfl
@[simp] theorem Node.took_vault : (n.took).vault = n.vault := rfl
@[simp] theorem Node.took_maint : (n.took).maint = n.maint := rfl
@[simp] theorem Node.took_out : (n.took).out = n.out := rfl

/-! `emit` -/

@[simp] theorem Node.emit_power (e : Emission) : (n.emit e).power = n.power := rfl
@[simp] theorem Node.emit_store (e : Emission) : (n.emit e).store = n.store := rfl
@[simp] theorem Node.emit_supply (e : Emission) : (n.emit e).supply = n.supply := rfl
@[simp] theorem Node.emit_pins (e : Emission) : (n.emit e).pins = n.pins := rfl
@[simp] theorem Node.emit_commits (e : Emission) : (n.emit e).commits = n.commits := rfl
@[simp] theorem Node.emit_mc (e : Emission) : (n.emit e).mc = n.mc := rfl
@[simp] theorem Node.emit_faults (e : Emission) : (n.emit e).faults = n.faults := rfl
@[simp] theorem Node.emit_runs (e : Emission) : (n.emit e).runs = n.runs := rfl
@[simp] theorem Node.emit_hiLatch (e : Emission) : (n.emit e).hiLatch = n.hiLatch := rfl
@[simp] theorem Node.emit_winLatch (e : Emission) : (n.emit e).winLatch = n.winLatch := rfl
@[simp] theorem Node.emit_timeLatch (e : Emission) : (n.emit e).timeLatch = n.timeLatch := rfl
@[simp] theorem Node.emit_book (e : Emission) : (n.emit e).book = n.book := rfl
@[simp] theorem Node.emit_trellis (e : Emission) : (n.emit e).trellis = n.trellis := rfl
@[simp] theorem Node.emit_cellar (e : Emission) : (n.emit e).cellar = n.cellar := rfl
@[simp] theorem Node.emit_ports (e : Emission) : (n.emit e).ports = n.ports := rfl
@[simp] theorem Node.emit_ina (e : Emission) : (n.emit e).ina = n.ina := rfl
@[simp] theorem Node.emit_flows (e : Emission) : (n.emit e).flows = n.flows := rfl
@[simp] theorem Node.emit_sessions (e : Emission) : (n.emit e).sessions = n.sessions := rfl
@[simp] theorem Node.emit_mdStarted (e : Emission) : (n.emit e).mdStarted = n.mdStarted := rfl
@[simp] theorem Node.emit_presses (e : Emission) : (n.emit e).presses = n.presses := rfl
@[simp] theorem Node.emit_images (e : Emission) : (n.emit e).images = n.images := rfl
@[simp] theorem Node.emit_cans (e : Emission) : (n.emit e).cans = n.cans := rfl
@[simp] theorem Node.emit_lineUnits (e : Emission) : (n.emit e).lineUnits = n.lineUnits := rfl
@[simp] theorem Node.emit_blend (e : Emission) : (n.emit e).blend = n.blend := rfl
@[simp] theorem Node.emit_time (e : Emission) : (n.emit e).time = n.time := rfl
@[simp] theorem Node.emit_host (e : Emission) : (n.emit e).host = n.host := rfl
@[simp] theorem Node.emit_outs (e : Emission) : (n.emit e).outs = n.outs := rfl
@[simp] theorem Node.emit_pair (e : Emission) : (n.emit e).pair = n.pair := rfl
@[simp] theorem Node.emit_vnt (e : Emission) : (n.emit e).vnt = n.vnt := rfl
@[simp] theorem Node.emit_vault (e : Emission) : (n.emit e).vault = n.vault := rfl
@[simp] theorem Node.emit_maint (e : Emission) : (n.emit e).maint = n.maint := rfl
@[simp] theorem Node.emit_fresh (e : Emission) : (n.emit e).fresh = n.fresh := rfl

/-! `addFault` -/

@[simp] theorem Node.addFault_power (c : FaultCause) : (n.addFault c).power = n.power := by unfold Node.addFault; split <;> rfl
@[simp] theorem Node.addFault_store (c : FaultCause) : (n.addFault c).store = n.store := by unfold Node.addFault; split <;> rfl
@[simp] theorem Node.addFault_supply (c : FaultCause) : (n.addFault c).supply = n.supply := by unfold Node.addFault; split <;> rfl
@[simp] theorem Node.addFault_pins (c : FaultCause) : (n.addFault c).pins = n.pins := by unfold Node.addFault; split <;> rfl
@[simp] theorem Node.addFault_commits (c : FaultCause) : (n.addFault c).commits = n.commits := by unfold Node.addFault; split <;> rfl
@[simp] theorem Node.addFault_mc (c : FaultCause) : (n.addFault c).mc = n.mc := by unfold Node.addFault; split <;> rfl
@[simp] theorem Node.addFault_runs (c : FaultCause) : (n.addFault c).runs = n.runs := by unfold Node.addFault; split <;> rfl
@[simp] theorem Node.addFault_hiLatch (c : FaultCause) : (n.addFault c).hiLatch = n.hiLatch := by unfold Node.addFault; split <;> rfl
@[simp] theorem Node.addFault_winLatch (c : FaultCause) : (n.addFault c).winLatch = n.winLatch := by unfold Node.addFault; split <;> rfl
@[simp] theorem Node.addFault_timeLatch (c : FaultCause) : (n.addFault c).timeLatch = n.timeLatch := by unfold Node.addFault; split <;> rfl
@[simp] theorem Node.addFault_book (c : FaultCause) : (n.addFault c).book = n.book := by unfold Node.addFault; split <;> rfl
@[simp] theorem Node.addFault_trellis (c : FaultCause) : (n.addFault c).trellis = n.trellis := by unfold Node.addFault; split <;> rfl
@[simp] theorem Node.addFault_cellar (c : FaultCause) : (n.addFault c).cellar = n.cellar := by unfold Node.addFault; split <;> rfl
@[simp] theorem Node.addFault_ports (c : FaultCause) : (n.addFault c).ports = n.ports := by unfold Node.addFault; split <;> rfl
@[simp] theorem Node.addFault_ina (c : FaultCause) : (n.addFault c).ina = n.ina := by unfold Node.addFault; split <;> rfl
@[simp] theorem Node.addFault_flows (c : FaultCause) : (n.addFault c).flows = n.flows := by unfold Node.addFault; split <;> rfl
@[simp] theorem Node.addFault_sessions (c : FaultCause) : (n.addFault c).sessions = n.sessions := by unfold Node.addFault; split <;> rfl
@[simp] theorem Node.addFault_mdStarted (c : FaultCause) : (n.addFault c).mdStarted = n.mdStarted := by unfold Node.addFault; split <;> rfl
@[simp] theorem Node.addFault_presses (c : FaultCause) : (n.addFault c).presses = n.presses := by unfold Node.addFault; split <;> rfl
@[simp] theorem Node.addFault_images (c : FaultCause) : (n.addFault c).images = n.images := by unfold Node.addFault; split <;> rfl
@[simp] theorem Node.addFault_cans (c : FaultCause) : (n.addFault c).cans = n.cans := by unfold Node.addFault; split <;> rfl
@[simp] theorem Node.addFault_lineUnits (c : FaultCause) : (n.addFault c).lineUnits = n.lineUnits := by unfold Node.addFault; split <;> rfl
@[simp] theorem Node.addFault_blend (c : FaultCause) : (n.addFault c).blend = n.blend := by unfold Node.addFault; split <;> rfl
@[simp] theorem Node.addFault_time (c : FaultCause) : (n.addFault c).time = n.time := by unfold Node.addFault; split <;> rfl
@[simp] theorem Node.addFault_host (c : FaultCause) : (n.addFault c).host = n.host := by unfold Node.addFault; split <;> rfl
@[simp] theorem Node.addFault_outs (c : FaultCause) : (n.addFault c).outs = n.outs := by unfold Node.addFault; split <;> rfl
@[simp] theorem Node.addFault_pair (c : FaultCause) : (n.addFault c).pair = n.pair := by unfold Node.addFault; split <;> rfl
@[simp] theorem Node.addFault_vnt (c : FaultCause) : (n.addFault c).vnt = n.vnt := by unfold Node.addFault; split <;> rfl
@[simp] theorem Node.addFault_vault (c : FaultCause) : (n.addFault c).vault = n.vault := by unfold Node.addFault; split <;> rfl
@[simp] theorem Node.addFault_maint (c : FaultCause) : (n.addFault c).maint = n.maint := by unfold Node.addFault; split <;> rfl
@[simp] theorem Node.addFault_out (c : FaultCause) : (n.addFault c).out = n.out := by unfold Node.addFault; split <;> rfl
@[simp] theorem Node.addFault_fresh (c : FaultCause) : (n.addFault c).fresh = n.fresh := by unfold Node.addFault; split <;> rfl

/-! `dropFault` -/

@[simp] theorem Node.dropFault_power (c : FaultCause) : (n.dropFault c).power = n.power := rfl
@[simp] theorem Node.dropFault_store (c : FaultCause) : (n.dropFault c).store = n.store := rfl
@[simp] theorem Node.dropFault_supply (c : FaultCause) : (n.dropFault c).supply = n.supply := rfl
@[simp] theorem Node.dropFault_pins (c : FaultCause) : (n.dropFault c).pins = n.pins := rfl
@[simp] theorem Node.dropFault_commits (c : FaultCause) : (n.dropFault c).commits = n.commits := rfl
@[simp] theorem Node.dropFault_mc (c : FaultCause) : (n.dropFault c).mc = n.mc := rfl
@[simp] theorem Node.dropFault_runs (c : FaultCause) : (n.dropFault c).runs = n.runs := rfl
@[simp] theorem Node.dropFault_hiLatch (c : FaultCause) : (n.dropFault c).hiLatch = n.hiLatch := rfl
@[simp] theorem Node.dropFault_winLatch (c : FaultCause) : (n.dropFault c).winLatch = n.winLatch := rfl
@[simp] theorem Node.dropFault_timeLatch (c : FaultCause) : (n.dropFault c).timeLatch = n.timeLatch := rfl
@[simp] theorem Node.dropFault_book (c : FaultCause) : (n.dropFault c).book = n.book := rfl
@[simp] theorem Node.dropFault_trellis (c : FaultCause) : (n.dropFault c).trellis = n.trellis := rfl
@[simp] theorem Node.dropFault_cellar (c : FaultCause) : (n.dropFault c).cellar = n.cellar := rfl
@[simp] theorem Node.dropFault_ports (c : FaultCause) : (n.dropFault c).ports = n.ports := rfl
@[simp] theorem Node.dropFault_ina (c : FaultCause) : (n.dropFault c).ina = n.ina := rfl
@[simp] theorem Node.dropFault_flows (c : FaultCause) : (n.dropFault c).flows = n.flows := rfl
@[simp] theorem Node.dropFault_sessions (c : FaultCause) : (n.dropFault c).sessions = n.sessions := rfl
@[simp] theorem Node.dropFault_mdStarted (c : FaultCause) : (n.dropFault c).mdStarted = n.mdStarted := rfl
@[simp] theorem Node.dropFault_presses (c : FaultCause) : (n.dropFault c).presses = n.presses := rfl
@[simp] theorem Node.dropFault_images (c : FaultCause) : (n.dropFault c).images = n.images := rfl
@[simp] theorem Node.dropFault_cans (c : FaultCause) : (n.dropFault c).cans = n.cans := rfl
@[simp] theorem Node.dropFault_lineUnits (c : FaultCause) : (n.dropFault c).lineUnits = n.lineUnits := rfl
@[simp] theorem Node.dropFault_blend (c : FaultCause) : (n.dropFault c).blend = n.blend := rfl
@[simp] theorem Node.dropFault_time (c : FaultCause) : (n.dropFault c).time = n.time := rfl
@[simp] theorem Node.dropFault_host (c : FaultCause) : (n.dropFault c).host = n.host := rfl
@[simp] theorem Node.dropFault_outs (c : FaultCause) : (n.dropFault c).outs = n.outs := rfl
@[simp] theorem Node.dropFault_pair (c : FaultCause) : (n.dropFault c).pair = n.pair := rfl
@[simp] theorem Node.dropFault_vnt (c : FaultCause) : (n.dropFault c).vnt = n.vnt := rfl
@[simp] theorem Node.dropFault_vault (c : FaultCause) : (n.dropFault c).vault = n.vault := rfl
@[simp] theorem Node.dropFault_maint (c : FaultCause) : (n.dropFault c).maint = n.maint := rfl
@[simp] theorem Node.dropFault_out (c : FaultCause) : (n.dropFault c).out = n.out := rfl
@[simp] theorem Node.dropFault_fresh (c : FaultCause) : (n.dropFault c).fresh = n.fresh := rfl

/-! `fire` -/

@[simp] theorem Node.fire_power (v c g : Nat) : (n.fire v c g).power = n.power := by unfold Node.fire; split <;> rfl
@[simp] theorem Node.fire_store (v c g : Nat) : (n.fire v c g).store = n.store := by unfold Node.fire; split <;> rfl
@[simp] theorem Node.fire_supply (v c g : Nat) : (n.fire v c g).supply = n.supply := by unfold Node.fire; split <;> rfl
@[simp] theorem Node.fire_pins (v c g : Nat) : (n.fire v c g).pins = n.pins := by unfold Node.fire; split <;> rfl
@[simp] theorem Node.fire_commits (v c g : Nat) : (n.fire v c g).commits = n.commits := by unfold Node.fire; split <;> rfl
@[simp] theorem Node.fire_mc (v c g : Nat) : (n.fire v c g).mc = n.mc := by unfold Node.fire; split <;> rfl
@[simp] theorem Node.fire_faults (v c g : Nat) : (n.fire v c g).faults = n.faults := by unfold Node.fire; split <;> rfl
@[simp] theorem Node.fire_runs (v c g : Nat) : (n.fire v c g).runs = n.runs := by unfold Node.fire; split <;> rfl
@[simp] theorem Node.fire_hiLatch (v c g : Nat) : (n.fire v c g).hiLatch = n.hiLatch := by unfold Node.fire; split <;> rfl
@[simp] theorem Node.fire_winLatch (v c g : Nat) : (n.fire v c g).winLatch = n.winLatch := by unfold Node.fire; split <;> rfl
@[simp] theorem Node.fire_timeLatch (v c g : Nat) : (n.fire v c g).timeLatch = n.timeLatch := by unfold Node.fire; split <;> rfl
@[simp] theorem Node.fire_book (v c g : Nat) : (n.fire v c g).book = n.book := by unfold Node.fire; split <;> rfl
@[simp] theorem Node.fire_trellis (v c g : Nat) : (n.fire v c g).trellis = n.trellis := by unfold Node.fire; split <;> rfl
@[simp] theorem Node.fire_cellar (v c g : Nat) : (n.fire v c g).cellar = n.cellar := by unfold Node.fire; split <;> rfl
@[simp] theorem Node.fire_ports (v c g : Nat) : (n.fire v c g).ports = n.ports := by unfold Node.fire; split <;> rfl
@[simp] theorem Node.fire_ina (v c g : Nat) : (n.fire v c g).ina = n.ina := by unfold Node.fire; split <;> rfl
@[simp] theorem Node.fire_flows (v c g : Nat) : (n.fire v c g).flows = n.flows := by unfold Node.fire; split <;> rfl
@[simp] theorem Node.fire_sessions (v c g : Nat) : (n.fire v c g).sessions = n.sessions := by unfold Node.fire; split <;> rfl
@[simp] theorem Node.fire_mdStarted (v c g : Nat) : (n.fire v c g).mdStarted = n.mdStarted := by unfold Node.fire; split <;> rfl
@[simp] theorem Node.fire_presses (v c g : Nat) : (n.fire v c g).presses = n.presses := by unfold Node.fire; split <;> rfl
@[simp] theorem Node.fire_images (v c g : Nat) : (n.fire v c g).images = n.images := by unfold Node.fire; split <;> rfl
@[simp] theorem Node.fire_cans (v c g : Nat) : (n.fire v c g).cans = n.cans := by unfold Node.fire; split <;> rfl
@[simp] theorem Node.fire_lineUnits (v c g : Nat) : (n.fire v c g).lineUnits = n.lineUnits := by unfold Node.fire; split <;> rfl
@[simp] theorem Node.fire_blend (v c g : Nat) : (n.fire v c g).blend = n.blend := by unfold Node.fire; split <;> rfl
@[simp] theorem Node.fire_time (v c g : Nat) : (n.fire v c g).time = n.time := by unfold Node.fire; split <;> rfl
@[simp] theorem Node.fire_outs (v c g : Nat) : (n.fire v c g).outs = n.outs := by unfold Node.fire; split <;> rfl
@[simp] theorem Node.fire_pair (v c g : Nat) : (n.fire v c g).pair = n.pair := by unfold Node.fire; split <;> rfl
@[simp] theorem Node.fire_vnt (v c g : Nat) : (n.fire v c g).vnt = n.vnt := by unfold Node.fire; split <;> rfl
@[simp] theorem Node.fire_vault (v c g : Nat) : (n.fire v c g).vault = n.vault := by unfold Node.fire; split <;> rfl
@[simp] theorem Node.fire_maint (v c g : Nat) : (n.fire v c g).maint = n.maint := by unfold Node.fire; split <;> rfl
@[simp] theorem Node.fire_out (v c g : Nat) : (n.fire v c g).out = n.out := by unfold Node.fire; split <;> rfl
@[simp] theorem Node.fire_fresh (v c g : Nat) : (n.fire v c g).fresh = n.fresh := by unfold Node.fire; split <;> rfl

/-! `enqueue` -/

@[simp] theorem Node.enqueue_power (r : Record) : (n.enqueue r).power = n.power := by unfold Node.enqueue; split <;> rfl
@[simp] theorem Node.enqueue_supply (r : Record) : (n.enqueue r).supply = n.supply := by unfold Node.enqueue; split <;> rfl
@[simp] theorem Node.enqueue_pins (r : Record) : (n.enqueue r).pins = n.pins := by unfold Node.enqueue; split <;> rfl
@[simp] theorem Node.enqueue_commits (r : Record) : (n.enqueue r).commits = n.commits := by unfold Node.enqueue; split <;> rfl
@[simp] theorem Node.enqueue_mc (r : Record) : (n.enqueue r).mc = n.mc := by unfold Node.enqueue; split <;> rfl
@[simp] theorem Node.enqueue_faults (r : Record) : (n.enqueue r).faults = n.faults := by unfold Node.enqueue; split <;> rfl
@[simp] theorem Node.enqueue_runs (r : Record) : (n.enqueue r).runs = n.runs := by unfold Node.enqueue; split <;> rfl
@[simp] theorem Node.enqueue_hiLatch (r : Record) : (n.enqueue r).hiLatch = n.hiLatch := by unfold Node.enqueue; split <;> rfl
@[simp] theorem Node.enqueue_winLatch (r : Record) : (n.enqueue r).winLatch = n.winLatch := by unfold Node.enqueue; split <;> rfl
@[simp] theorem Node.enqueue_timeLatch (r : Record) : (n.enqueue r).timeLatch = n.timeLatch := by unfold Node.enqueue; split <;> rfl
@[simp] theorem Node.enqueue_trellis (r : Record) : (n.enqueue r).trellis = n.trellis := by unfold Node.enqueue; split <;> rfl
@[simp] theorem Node.enqueue_cellar (r : Record) : (n.enqueue r).cellar = n.cellar := by unfold Node.enqueue; split <;> rfl
@[simp] theorem Node.enqueue_ports (r : Record) : (n.enqueue r).ports = n.ports := by unfold Node.enqueue; split <;> rfl
@[simp] theorem Node.enqueue_ina (r : Record) : (n.enqueue r).ina = n.ina := by unfold Node.enqueue; split <;> rfl
@[simp] theorem Node.enqueue_flows (r : Record) : (n.enqueue r).flows = n.flows := by unfold Node.enqueue; split <;> rfl
@[simp] theorem Node.enqueue_sessions (r : Record) : (n.enqueue r).sessions = n.sessions := by unfold Node.enqueue; split <;> rfl
@[simp] theorem Node.enqueue_mdStarted (r : Record) : (n.enqueue r).mdStarted = n.mdStarted := by unfold Node.enqueue; split <;> rfl
@[simp] theorem Node.enqueue_presses (r : Record) : (n.enqueue r).presses = n.presses := by unfold Node.enqueue; split <;> rfl
@[simp] theorem Node.enqueue_images (r : Record) : (n.enqueue r).images = n.images := by unfold Node.enqueue; split <;> rfl
@[simp] theorem Node.enqueue_cans (r : Record) : (n.enqueue r).cans = n.cans := by unfold Node.enqueue; split <;> rfl
@[simp] theorem Node.enqueue_lineUnits (r : Record) : (n.enqueue r).lineUnits = n.lineUnits := by unfold Node.enqueue; split <;> rfl
@[simp] theorem Node.enqueue_blend (r : Record) : (n.enqueue r).blend = n.blend := by unfold Node.enqueue; split <;> rfl
@[simp] theorem Node.enqueue_time (r : Record) : (n.enqueue r).time = n.time := by unfold Node.enqueue; split <;> rfl
@[simp] theorem Node.enqueue_host (r : Record) : (n.enqueue r).host = n.host := by unfold Node.enqueue; split <;> rfl
@[simp] theorem Node.enqueue_outs (r : Record) : (n.enqueue r).outs = n.outs := by unfold Node.enqueue; split <;> rfl
@[simp] theorem Node.enqueue_pair (r : Record) : (n.enqueue r).pair = n.pair := by unfold Node.enqueue; split <;> rfl
@[simp] theorem Node.enqueue_vnt (r : Record) : (n.enqueue r).vnt = n.vnt := by unfold Node.enqueue; split <;> rfl
@[simp] theorem Node.enqueue_vault (r : Record) : (n.enqueue r).vault = n.vault := by unfold Node.enqueue; split <;> rfl
@[simp] theorem Node.enqueue_maint (r : Record) : (n.enqueue r).maint = n.maint := by unfold Node.enqueue; split <;> rfl
@[simp] theorem Node.enqueue_out (r : Record) : (n.enqueue r).out = n.out := by unfold Node.enqueue; split <;> rfl
@[simp] theorem Node.enqueue_fresh (r : Record) : (n.enqueue r).fresh = n.fresh := by unfold Node.enqueue; split <;> rfl

/-! `logEvent` -/

@[simp] theorem Node.logEvent_power (c : Nat) (sp : Bool) (p : List Nat) : (n.logEvent c sp p).power = n.power := by simp only [Node.logEvent]; split <;> simp
@[simp] theorem Node.logEvent_supply (c : Nat) (sp : Bool) (p : List Nat) : (n.logEvent c sp p).supply = n.supply := by simp only [Node.logEvent]; split <;> simp
@[simp] theorem Node.logEvent_pins (c : Nat) (sp : Bool) (p : List Nat) : (n.logEvent c sp p).pins = n.pins := by simp only [Node.logEvent]; split <;> simp
@[simp] theorem Node.logEvent_commits (c : Nat) (sp : Bool) (p : List Nat) : (n.logEvent c sp p).commits = n.commits := by simp only [Node.logEvent]; split <;> simp
@[simp] theorem Node.logEvent_mc (c : Nat) (sp : Bool) (p : List Nat) : (n.logEvent c sp p).mc = n.mc := by simp only [Node.logEvent]; split <;> simp
@[simp] theorem Node.logEvent_faults (c : Nat) (sp : Bool) (p : List Nat) : (n.logEvent c sp p).faults = n.faults := by simp only [Node.logEvent]; split <;> simp
@[simp] theorem Node.logEvent_runs (c : Nat) (sp : Bool) (p : List Nat) : (n.logEvent c sp p).runs = n.runs := by simp only [Node.logEvent]; split <;> simp
@[simp] theorem Node.logEvent_hiLatch (c : Nat) (sp : Bool) (p : List Nat) : (n.logEvent c sp p).hiLatch = n.hiLatch := by simp only [Node.logEvent]; split <;> simp
@[simp] theorem Node.logEvent_winLatch (c : Nat) (sp : Bool) (p : List Nat) : (n.logEvent c sp p).winLatch = n.winLatch := by simp only [Node.logEvent]; split <;> simp
@[simp] theorem Node.logEvent_timeLatch (c : Nat) (sp : Bool) (p : List Nat) : (n.logEvent c sp p).timeLatch = n.timeLatch := by simp only [Node.logEvent]; split <;> simp
@[simp] theorem Node.logEvent_trellis (c : Nat) (sp : Bool) (p : List Nat) : (n.logEvent c sp p).trellis = n.trellis := by simp only [Node.logEvent]; split <;> simp
@[simp] theorem Node.logEvent_cellar (c : Nat) (sp : Bool) (p : List Nat) : (n.logEvent c sp p).cellar = n.cellar := by simp only [Node.logEvent]; split <;> simp
@[simp] theorem Node.logEvent_ports (c : Nat) (sp : Bool) (p : List Nat) : (n.logEvent c sp p).ports = n.ports := by simp only [Node.logEvent]; split <;> simp
@[simp] theorem Node.logEvent_ina (c : Nat) (sp : Bool) (p : List Nat) : (n.logEvent c sp p).ina = n.ina := by simp only [Node.logEvent]; split <;> simp
@[simp] theorem Node.logEvent_flows (c : Nat) (sp : Bool) (p : List Nat) : (n.logEvent c sp p).flows = n.flows := by simp only [Node.logEvent]; split <;> simp
@[simp] theorem Node.logEvent_sessions (c : Nat) (sp : Bool) (p : List Nat) : (n.logEvent c sp p).sessions = n.sessions := by simp only [Node.logEvent]; split <;> simp
@[simp] theorem Node.logEvent_mdStarted (c : Nat) (sp : Bool) (p : List Nat) : (n.logEvent c sp p).mdStarted = n.mdStarted := by simp only [Node.logEvent]; split <;> simp
@[simp] theorem Node.logEvent_presses (c : Nat) (sp : Bool) (p : List Nat) : (n.logEvent c sp p).presses = n.presses := by simp only [Node.logEvent]; split <;> simp
@[simp] theorem Node.logEvent_images (c : Nat) (sp : Bool) (p : List Nat) : (n.logEvent c sp p).images = n.images := by simp only [Node.logEvent]; split <;> simp
@[simp] theorem Node.logEvent_cans (c : Nat) (sp : Bool) (p : List Nat) : (n.logEvent c sp p).cans = n.cans := by simp only [Node.logEvent]; split <;> simp
@[simp] theorem Node.logEvent_lineUnits (c : Nat) (sp : Bool) (p : List Nat) : (n.logEvent c sp p).lineUnits = n.lineUnits := by simp only [Node.logEvent]; split <;> simp
@[simp] theorem Node.logEvent_blend (c : Nat) (sp : Bool) (p : List Nat) : (n.logEvent c sp p).blend = n.blend := by simp only [Node.logEvent]; split <;> simp
@[simp] theorem Node.logEvent_time (c : Nat) (sp : Bool) (p : List Nat) : (n.logEvent c sp p).time = n.time := by simp only [Node.logEvent]; split <;> simp
@[simp] theorem Node.logEvent_host (c : Nat) (sp : Bool) (p : List Nat) : (n.logEvent c sp p).host = n.host := by simp only [Node.logEvent]; split <;> simp
@[simp] theorem Node.logEvent_outs (c : Nat) (sp : Bool) (p : List Nat) : (n.logEvent c sp p).outs = n.outs := by simp only [Node.logEvent]; split <;> simp
@[simp] theorem Node.logEvent_pair (c : Nat) (sp : Bool) (p : List Nat) : (n.logEvent c sp p).pair = n.pair := by simp only [Node.logEvent]; split <;> simp
@[simp] theorem Node.logEvent_vnt (c : Nat) (sp : Bool) (p : List Nat) : (n.logEvent c sp p).vnt = n.vnt := by simp only [Node.logEvent]; split <;> simp
@[simp] theorem Node.logEvent_vault (c : Nat) (sp : Bool) (p : List Nat) : (n.logEvent c sp p).vault = n.vault := by simp only [Node.logEvent]; split <;> simp
@[simp] theorem Node.logEvent_maint (c : Nat) (sp : Bool) (p : List Nat) : (n.logEvent c sp p).maint = n.maint := by simp only [Node.logEvent]; split <;> simp
@[simp] theorem Node.logEvent_out (c : Nat) (sp : Bool) (p : List Nat) : (n.logEvent c sp p).out = n.out := by simp only [Node.logEvent]; split <;> simp
@[simp] theorem Node.logEvent_fresh (c : Nat) (sp : Bool) (p : List Nat) : (n.logEvent c sp p).fresh = n.fresh := by simp only [Node.logEvent]; split <;> simp

/-! `raiseAs` -/

@[simp] theorem Node.raiseAs_power (sp : Bool) (c : Nat) (p : List Nat) : (n.raiseAs sp c p).power = n.power := by simp only [Node.raiseAs]; split <;> simp
@[simp] theorem Node.raiseAs_supply (sp : Bool) (c : Nat) (p : List Nat) : (n.raiseAs sp c p).supply = n.supply := by simp only [Node.raiseAs]; split <;> simp
@[simp] theorem Node.raiseAs_pins (sp : Bool) (c : Nat) (p : List Nat) : (n.raiseAs sp c p).pins = n.pins := by simp only [Node.raiseAs]; split <;> simp
@[simp] theorem Node.raiseAs_commits (sp : Bool) (c : Nat) (p : List Nat) : (n.raiseAs sp c p).commits = n.commits := by simp only [Node.raiseAs]; split <;> simp
@[simp] theorem Node.raiseAs_mc (sp : Bool) (c : Nat) (p : List Nat) : (n.raiseAs sp c p).mc = n.mc := by simp only [Node.raiseAs]; split <;> simp
@[simp] theorem Node.raiseAs_faults (sp : Bool) (c : Nat) (p : List Nat) : (n.raiseAs sp c p).faults = n.faults := by simp only [Node.raiseAs]; split <;> simp
@[simp] theorem Node.raiseAs_runs (sp : Bool) (c : Nat) (p : List Nat) : (n.raiseAs sp c p).runs = n.runs := by simp only [Node.raiseAs]; split <;> simp
@[simp] theorem Node.raiseAs_hiLatch (sp : Bool) (c : Nat) (p : List Nat) : (n.raiseAs sp c p).hiLatch = n.hiLatch := by simp only [Node.raiseAs]; split <;> simp
@[simp] theorem Node.raiseAs_winLatch (sp : Bool) (c : Nat) (p : List Nat) : (n.raiseAs sp c p).winLatch = n.winLatch := by simp only [Node.raiseAs]; split <;> simp
@[simp] theorem Node.raiseAs_timeLatch (sp : Bool) (c : Nat) (p : List Nat) : (n.raiseAs sp c p).timeLatch = n.timeLatch := by simp only [Node.raiseAs]; split <;> simp
@[simp] theorem Node.raiseAs_trellis (sp : Bool) (c : Nat) (p : List Nat) : (n.raiseAs sp c p).trellis = n.trellis := by simp only [Node.raiseAs]; split <;> simp
@[simp] theorem Node.raiseAs_cellar (sp : Bool) (c : Nat) (p : List Nat) : (n.raiseAs sp c p).cellar = n.cellar := by simp only [Node.raiseAs]; split <;> simp
@[simp] theorem Node.raiseAs_ports (sp : Bool) (c : Nat) (p : List Nat) : (n.raiseAs sp c p).ports = n.ports := by simp only [Node.raiseAs]; split <;> simp
@[simp] theorem Node.raiseAs_ina (sp : Bool) (c : Nat) (p : List Nat) : (n.raiseAs sp c p).ina = n.ina := by simp only [Node.raiseAs]; split <;> simp
@[simp] theorem Node.raiseAs_flows (sp : Bool) (c : Nat) (p : List Nat) : (n.raiseAs sp c p).flows = n.flows := by simp only [Node.raiseAs]; split <;> simp
@[simp] theorem Node.raiseAs_sessions (sp : Bool) (c : Nat) (p : List Nat) : (n.raiseAs sp c p).sessions = n.sessions := by simp only [Node.raiseAs]; split <;> simp
@[simp] theorem Node.raiseAs_mdStarted (sp : Bool) (c : Nat) (p : List Nat) : (n.raiseAs sp c p).mdStarted = n.mdStarted := by simp only [Node.raiseAs]; split <;> simp
@[simp] theorem Node.raiseAs_presses (sp : Bool) (c : Nat) (p : List Nat) : (n.raiseAs sp c p).presses = n.presses := by simp only [Node.raiseAs]; split <;> simp
@[simp] theorem Node.raiseAs_images (sp : Bool) (c : Nat) (p : List Nat) : (n.raiseAs sp c p).images = n.images := by simp only [Node.raiseAs]; split <;> simp
@[simp] theorem Node.raiseAs_cans (sp : Bool) (c : Nat) (p : List Nat) : (n.raiseAs sp c p).cans = n.cans := by simp only [Node.raiseAs]; split <;> simp
@[simp] theorem Node.raiseAs_lineUnits (sp : Bool) (c : Nat) (p : List Nat) : (n.raiseAs sp c p).lineUnits = n.lineUnits := by simp only [Node.raiseAs]; split <;> simp
@[simp] theorem Node.raiseAs_blend (sp : Bool) (c : Nat) (p : List Nat) : (n.raiseAs sp c p).blend = n.blend := by simp only [Node.raiseAs]; split <;> simp
@[simp] theorem Node.raiseAs_time (sp : Bool) (c : Nat) (p : List Nat) : (n.raiseAs sp c p).time = n.time := by simp only [Node.raiseAs]; split <;> simp
@[simp] theorem Node.raiseAs_outs (sp : Bool) (c : Nat) (p : List Nat) : (n.raiseAs sp c p).outs = n.outs := by simp only [Node.raiseAs]; split <;> simp
@[simp] theorem Node.raiseAs_pair (sp : Bool) (c : Nat) (p : List Nat) : (n.raiseAs sp c p).pair = n.pair := by simp only [Node.raiseAs]; split <;> simp
@[simp] theorem Node.raiseAs_vnt (sp : Bool) (c : Nat) (p : List Nat) : (n.raiseAs sp c p).vnt = n.vnt := by simp only [Node.raiseAs]; split <;> simp
@[simp] theorem Node.raiseAs_vault (sp : Bool) (c : Nat) (p : List Nat) : (n.raiseAs sp c p).vault = n.vault := by simp only [Node.raiseAs]; split <;> simp
@[simp] theorem Node.raiseAs_maint (sp : Bool) (c : Nat) (p : List Nat) : (n.raiseAs sp c p).maint = n.maint := by simp only [Node.raiseAs]; split <;> simp
@[simp] theorem Node.raiseAs_out (sp : Bool) (c : Nat) (p : List Nat) : (n.raiseAs sp c p).out = n.out := by simp only [Node.raiseAs]; split <;> simp
@[simp] theorem Node.raiseAs_fresh (sp : Bool) (c : Nat) (p : List Nat) : (n.raiseAs sp c p).fresh = n.fresh := by simp only [Node.raiseAs]; split <;> simp

/-! `raise` -/

@[simp] theorem Node.raise_power (c : Nat) (p : List Nat) : (n.raise c p).power = n.power := by simp [Node.raise]
@[simp] theorem Node.raise_supply (c : Nat) (p : List Nat) : (n.raise c p).supply = n.supply := by simp [Node.raise]
@[simp] theorem Node.raise_pins (c : Nat) (p : List Nat) : (n.raise c p).pins = n.pins := by simp [Node.raise]
@[simp] theorem Node.raise_commits (c : Nat) (p : List Nat) : (n.raise c p).commits = n.commits := by simp [Node.raise]
@[simp] theorem Node.raise_mc (c : Nat) (p : List Nat) : (n.raise c p).mc = n.mc := by simp [Node.raise]
@[simp] theorem Node.raise_faults (c : Nat) (p : List Nat) : (n.raise c p).faults = n.faults := by simp [Node.raise]
@[simp] theorem Node.raise_runs (c : Nat) (p : List Nat) : (n.raise c p).runs = n.runs := by simp [Node.raise]
@[simp] theorem Node.raise_hiLatch (c : Nat) (p : List Nat) : (n.raise c p).hiLatch = n.hiLatch := by simp [Node.raise]
@[simp] theorem Node.raise_winLatch (c : Nat) (p : List Nat) : (n.raise c p).winLatch = n.winLatch := by simp [Node.raise]
@[simp] theorem Node.raise_timeLatch (c : Nat) (p : List Nat) : (n.raise c p).timeLatch = n.timeLatch := by simp [Node.raise]
@[simp] theorem Node.raise_trellis (c : Nat) (p : List Nat) : (n.raise c p).trellis = n.trellis := by simp [Node.raise]
@[simp] theorem Node.raise_cellar (c : Nat) (p : List Nat) : (n.raise c p).cellar = n.cellar := by simp [Node.raise]
@[simp] theorem Node.raise_ports (c : Nat) (p : List Nat) : (n.raise c p).ports = n.ports := by simp [Node.raise]
@[simp] theorem Node.raise_ina (c : Nat) (p : List Nat) : (n.raise c p).ina = n.ina := by simp [Node.raise]
@[simp] theorem Node.raise_flows (c : Nat) (p : List Nat) : (n.raise c p).flows = n.flows := by simp [Node.raise]
@[simp] theorem Node.raise_sessions (c : Nat) (p : List Nat) : (n.raise c p).sessions = n.sessions := by simp [Node.raise]
@[simp] theorem Node.raise_mdStarted (c : Nat) (p : List Nat) : (n.raise c p).mdStarted = n.mdStarted := by simp [Node.raise]
@[simp] theorem Node.raise_presses (c : Nat) (p : List Nat) : (n.raise c p).presses = n.presses := by simp [Node.raise]
@[simp] theorem Node.raise_images (c : Nat) (p : List Nat) : (n.raise c p).images = n.images := by simp [Node.raise]
@[simp] theorem Node.raise_cans (c : Nat) (p : List Nat) : (n.raise c p).cans = n.cans := by simp [Node.raise]
@[simp] theorem Node.raise_lineUnits (c : Nat) (p : List Nat) : (n.raise c p).lineUnits = n.lineUnits := by simp [Node.raise]
@[simp] theorem Node.raise_blend (c : Nat) (p : List Nat) : (n.raise c p).blend = n.blend := by simp [Node.raise]
@[simp] theorem Node.raise_time (c : Nat) (p : List Nat) : (n.raise c p).time = n.time := by simp [Node.raise]
@[simp] theorem Node.raise_outs (c : Nat) (p : List Nat) : (n.raise c p).outs = n.outs := by simp [Node.raise]
@[simp] theorem Node.raise_pair (c : Nat) (p : List Nat) : (n.raise c p).pair = n.pair := by simp [Node.raise]
@[simp] theorem Node.raise_vnt (c : Nat) (p : List Nat) : (n.raise c p).vnt = n.vnt := by simp [Node.raise]
@[simp] theorem Node.raise_vault (c : Nat) (p : List Nat) : (n.raise c p).vault = n.vault := by simp [Node.raise]
@[simp] theorem Node.raise_maint (c : Nat) (p : List Nat) : (n.raise c p).maint = n.maint := by simp [Node.raise]
@[simp] theorem Node.raise_out (c : Nat) (p : List Nat) : (n.raise c p).out = n.out := by simp [Node.raise]
@[simp] theorem Node.raise_fresh (c : Nat) (p : List Nat) : (n.raise c p).fresh = n.fresh := by simp [Node.raise]

/-! `raiseFirst` -/

@[simp] theorem Node.raiseFirst_power (c i : Nat) (p : List Nat) : (n.raiseFirst c i p).power = n.power := by unfold Node.raiseFirst; split <;> simp
@[simp] theorem Node.raiseFirst_supply (c i : Nat) (p : List Nat) : (n.raiseFirst c i p).supply = n.supply := by unfold Node.raiseFirst; split <;> simp
@[simp] theorem Node.raiseFirst_pins (c i : Nat) (p : List Nat) : (n.raiseFirst c i p).pins = n.pins := by unfold Node.raiseFirst; split <;> simp
@[simp] theorem Node.raiseFirst_commits (c i : Nat) (p : List Nat) : (n.raiseFirst c i p).commits = n.commits := by unfold Node.raiseFirst; split <;> simp
@[simp] theorem Node.raiseFirst_mc (c i : Nat) (p : List Nat) : (n.raiseFirst c i p).mc = n.mc := by unfold Node.raiseFirst; split <;> simp
@[simp] theorem Node.raiseFirst_faults (c i : Nat) (p : List Nat) : (n.raiseFirst c i p).faults = n.faults := by unfold Node.raiseFirst; split <;> simp
@[simp] theorem Node.raiseFirst_hiLatch (c i : Nat) (p : List Nat) : (n.raiseFirst c i p).hiLatch = n.hiLatch := by unfold Node.raiseFirst; split <;> simp
@[simp] theorem Node.raiseFirst_winLatch (c i : Nat) (p : List Nat) : (n.raiseFirst c i p).winLatch = n.winLatch := by unfold Node.raiseFirst; split <;> simp
@[simp] theorem Node.raiseFirst_timeLatch (c i : Nat) (p : List Nat) : (n.raiseFirst c i p).timeLatch = n.timeLatch := by unfold Node.raiseFirst; split <;> simp
@[simp] theorem Node.raiseFirst_trellis (c i : Nat) (p : List Nat) : (n.raiseFirst c i p).trellis = n.trellis := by unfold Node.raiseFirst; split <;> simp
@[simp] theorem Node.raiseFirst_cellar (c i : Nat) (p : List Nat) : (n.raiseFirst c i p).cellar = n.cellar := by unfold Node.raiseFirst; split <;> simp
@[simp] theorem Node.raiseFirst_ports (c i : Nat) (p : List Nat) : (n.raiseFirst c i p).ports = n.ports := by unfold Node.raiseFirst; split <;> simp
@[simp] theorem Node.raiseFirst_ina (c i : Nat) (p : List Nat) : (n.raiseFirst c i p).ina = n.ina := by unfold Node.raiseFirst; split <;> simp
@[simp] theorem Node.raiseFirst_flows (c i : Nat) (p : List Nat) : (n.raiseFirst c i p).flows = n.flows := by unfold Node.raiseFirst; split <;> simp
@[simp] theorem Node.raiseFirst_sessions (c i : Nat) (p : List Nat) : (n.raiseFirst c i p).sessions = n.sessions := by unfold Node.raiseFirst; split <;> simp
@[simp] theorem Node.raiseFirst_mdStarted (c i : Nat) (p : List Nat) : (n.raiseFirst c i p).mdStarted = n.mdStarted := by unfold Node.raiseFirst; split <;> simp
@[simp] theorem Node.raiseFirst_presses (c i : Nat) (p : List Nat) : (n.raiseFirst c i p).presses = n.presses := by unfold Node.raiseFirst; split <;> simp
@[simp] theorem Node.raiseFirst_images (c i : Nat) (p : List Nat) : (n.raiseFirst c i p).images = n.images := by unfold Node.raiseFirst; split <;> simp
@[simp] theorem Node.raiseFirst_cans (c i : Nat) (p : List Nat) : (n.raiseFirst c i p).cans = n.cans := by unfold Node.raiseFirst; split <;> simp
@[simp] theorem Node.raiseFirst_lineUnits (c i : Nat) (p : List Nat) : (n.raiseFirst c i p).lineUnits = n.lineUnits := by unfold Node.raiseFirst; split <;> simp
@[simp] theorem Node.raiseFirst_blend (c i : Nat) (p : List Nat) : (n.raiseFirst c i p).blend = n.blend := by unfold Node.raiseFirst; split <;> simp
@[simp] theorem Node.raiseFirst_time (c i : Nat) (p : List Nat) : (n.raiseFirst c i p).time = n.time := by unfold Node.raiseFirst; split <;> simp
@[simp] theorem Node.raiseFirst_outs (c i : Nat) (p : List Nat) : (n.raiseFirst c i p).outs = n.outs := by unfold Node.raiseFirst; split <;> simp
@[simp] theorem Node.raiseFirst_pair (c i : Nat) (p : List Nat) : (n.raiseFirst c i p).pair = n.pair := by unfold Node.raiseFirst; split <;> simp
@[simp] theorem Node.raiseFirst_vnt (c i : Nat) (p : List Nat) : (n.raiseFirst c i p).vnt = n.vnt := by unfold Node.raiseFirst; split <;> simp
@[simp] theorem Node.raiseFirst_vault (c i : Nat) (p : List Nat) : (n.raiseFirst c i p).vault = n.vault := by unfold Node.raiseFirst; split <;> simp
@[simp] theorem Node.raiseFirst_maint (c i : Nat) (p : List Nat) : (n.raiseFirst c i p).maint = n.maint := by unfold Node.raiseFirst; split <;> simp
@[simp] theorem Node.raiseFirst_out (c i : Nat) (p : List Nat) : (n.raiseFirst c i p).out = n.out := by unfold Node.raiseFirst; split <;> simp
@[simp] theorem Node.raiseFirst_fresh (c i : Nat) (p : List Nat) : (n.raiseFirst c i p).fresh = n.fresh := by unfold Node.raiseFirst; split <;> simp

/-! `endRun` -/

@[simp] theorem Node.endRun_power (c i : Nat) : (n.endRun c i).power = n.power := rfl
@[simp] theorem Node.endRun_store (c i : Nat) : (n.endRun c i).store = n.store := rfl
@[simp] theorem Node.endRun_supply (c i : Nat) : (n.endRun c i).supply = n.supply := rfl
@[simp] theorem Node.endRun_pins (c i : Nat) : (n.endRun c i).pins = n.pins := rfl
@[simp] theorem Node.endRun_commits (c i : Nat) : (n.endRun c i).commits = n.commits := rfl
@[simp] theorem Node.endRun_mc (c i : Nat) : (n.endRun c i).mc = n.mc := rfl
@[simp] theorem Node.endRun_faults (c i : Nat) : (n.endRun c i).faults = n.faults := rfl
@[simp] theorem Node.endRun_hiLatch (c i : Nat) : (n.endRun c i).hiLatch = n.hiLatch := rfl
@[simp] theorem Node.endRun_winLatch (c i : Nat) : (n.endRun c i).winLatch = n.winLatch := rfl
@[simp] theorem Node.endRun_timeLatch (c i : Nat) : (n.endRun c i).timeLatch = n.timeLatch := rfl
@[simp] theorem Node.endRun_book (c i : Nat) : (n.endRun c i).book = n.book := rfl
@[simp] theorem Node.endRun_trellis (c i : Nat) : (n.endRun c i).trellis = n.trellis := rfl
@[simp] theorem Node.endRun_cellar (c i : Nat) : (n.endRun c i).cellar = n.cellar := rfl
@[simp] theorem Node.endRun_ports (c i : Nat) : (n.endRun c i).ports = n.ports := rfl
@[simp] theorem Node.endRun_ina (c i : Nat) : (n.endRun c i).ina = n.ina := rfl
@[simp] theorem Node.endRun_flows (c i : Nat) : (n.endRun c i).flows = n.flows := rfl
@[simp] theorem Node.endRun_sessions (c i : Nat) : (n.endRun c i).sessions = n.sessions := rfl
@[simp] theorem Node.endRun_mdStarted (c i : Nat) : (n.endRun c i).mdStarted = n.mdStarted := rfl
@[simp] theorem Node.endRun_presses (c i : Nat) : (n.endRun c i).presses = n.presses := rfl
@[simp] theorem Node.endRun_images (c i : Nat) : (n.endRun c i).images = n.images := rfl
@[simp] theorem Node.endRun_cans (c i : Nat) : (n.endRun c i).cans = n.cans := rfl
@[simp] theorem Node.endRun_lineUnits (c i : Nat) : (n.endRun c i).lineUnits = n.lineUnits := rfl
@[simp] theorem Node.endRun_blend (c i : Nat) : (n.endRun c i).blend = n.blend := rfl
@[simp] theorem Node.endRun_time (c i : Nat) : (n.endRun c i).time = n.time := rfl
@[simp] theorem Node.endRun_host (c i : Nat) : (n.endRun c i).host = n.host := rfl
@[simp] theorem Node.endRun_outs (c i : Nat) : (n.endRun c i).outs = n.outs := rfl
@[simp] theorem Node.endRun_pair (c i : Nat) : (n.endRun c i).pair = n.pair := rfl
@[simp] theorem Node.endRun_vnt (c i : Nat) : (n.endRun c i).vnt = n.vnt := rfl
@[simp] theorem Node.endRun_vault (c i : Nat) : (n.endRun c i).vault = n.vault := rfl
@[simp] theorem Node.endRun_maint (c i : Nat) : (n.endRun c i).maint = n.maint := rfl
@[simp] theorem Node.endRun_out (c i : Nat) : (n.endRun c i).out = n.out := rfl
@[simp] theorem Node.endRun_fresh (c i : Nat) : (n.endRun c i).fresh = n.fresh := rfl

/-! `setHeld` -/

@[simp] theorem Node.setHeld_power (i : Initiator) (v : Option (Nat × Word)) : (n.setHeld i v).power = n.power := rfl
@[simp] theorem Node.setHeld_store (i : Initiator) (v : Option (Nat × Word)) : (n.setHeld i v).store = n.store := rfl
@[simp] theorem Node.setHeld_supply (i : Initiator) (v : Option (Nat × Word)) : (n.setHeld i v).supply = n.supply := rfl
@[simp] theorem Node.setHeld_pins (i : Initiator) (v : Option (Nat × Word)) : (n.setHeld i v).pins = n.pins := rfl
@[simp] theorem Node.setHeld_commits (i : Initiator) (v : Option (Nat × Word)) : (n.setHeld i v).commits = n.commits := rfl
@[simp] theorem Node.setHeld_mc (i : Initiator) (v : Option (Nat × Word)) : (n.setHeld i v).mc = n.mc := rfl
@[simp] theorem Node.setHeld_faults (i : Initiator) (v : Option (Nat × Word)) : (n.setHeld i v).faults = n.faults := rfl
@[simp] theorem Node.setHeld_runs (i : Initiator) (v : Option (Nat × Word)) : (n.setHeld i v).runs = n.runs := rfl
@[simp] theorem Node.setHeld_hiLatch (i : Initiator) (v : Option (Nat × Word)) : (n.setHeld i v).hiLatch = n.hiLatch := rfl
@[simp] theorem Node.setHeld_winLatch (i : Initiator) (v : Option (Nat × Word)) : (n.setHeld i v).winLatch = n.winLatch := rfl
@[simp] theorem Node.setHeld_timeLatch (i : Initiator) (v : Option (Nat × Word)) : (n.setHeld i v).timeLatch = n.timeLatch := rfl
@[simp] theorem Node.setHeld_book (i : Initiator) (v : Option (Nat × Word)) : (n.setHeld i v).book = n.book := rfl
@[simp] theorem Node.setHeld_trellis (i : Initiator) (v : Option (Nat × Word)) : (n.setHeld i v).trellis = n.trellis := rfl
@[simp] theorem Node.setHeld_cellar (i : Initiator) (v : Option (Nat × Word)) : (n.setHeld i v).cellar = n.cellar := rfl
@[simp] theorem Node.setHeld_ports (i : Initiator) (v : Option (Nat × Word)) : (n.setHeld i v).ports = n.ports := rfl
@[simp] theorem Node.setHeld_ina (i : Initiator) (v : Option (Nat × Word)) : (n.setHeld i v).ina = n.ina := rfl
@[simp] theorem Node.setHeld_flows (i : Initiator) (v : Option (Nat × Word)) : (n.setHeld i v).flows = n.flows := rfl
@[simp] theorem Node.setHeld_sessions (i : Initiator) (v : Option (Nat × Word)) : (n.setHeld i v).sessions = n.sessions := rfl
@[simp] theorem Node.setHeld_mdStarted (i : Initiator) (v : Option (Nat × Word)) : (n.setHeld i v).mdStarted = n.mdStarted := rfl
@[simp] theorem Node.setHeld_presses (i : Initiator) (v : Option (Nat × Word)) : (n.setHeld i v).presses = n.presses := rfl
@[simp] theorem Node.setHeld_images (i : Initiator) (v : Option (Nat × Word)) : (n.setHeld i v).images = n.images := rfl
@[simp] theorem Node.setHeld_cans (i : Initiator) (v : Option (Nat × Word)) : (n.setHeld i v).cans = n.cans := rfl
@[simp] theorem Node.setHeld_lineUnits (i : Initiator) (v : Option (Nat × Word)) : (n.setHeld i v).lineUnits = n.lineUnits := rfl
@[simp] theorem Node.setHeld_time (i : Initiator) (v : Option (Nat × Word)) : (n.setHeld i v).time = n.time := rfl
@[simp] theorem Node.setHeld_host (i : Initiator) (v : Option (Nat × Word)) : (n.setHeld i v).host = n.host := rfl
@[simp] theorem Node.setHeld_outs (i : Initiator) (v : Option (Nat × Word)) : (n.setHeld i v).outs = n.outs := rfl
@[simp] theorem Node.setHeld_pair (i : Initiator) (v : Option (Nat × Word)) : (n.setHeld i v).pair = n.pair := rfl
@[simp] theorem Node.setHeld_vnt (i : Initiator) (v : Option (Nat × Word)) : (n.setHeld i v).vnt = n.vnt := rfl
@[simp] theorem Node.setHeld_vault (i : Initiator) (v : Option (Nat × Word)) : (n.setHeld i v).vault = n.vault := rfl
@[simp] theorem Node.setHeld_maint (i : Initiator) (v : Option (Nat × Word)) : (n.setHeld i v).maint = n.maint := rfl
@[simp] theorem Node.setHeld_out (i : Initiator) (v : Option (Nat × Word)) : (n.setHeld i v).out = n.out := rfl
@[simp] theorem Node.setHeld_fresh (i : Initiator) (v : Option (Nat × Word)) : (n.setHeld i v).fresh = n.fresh := rfl

/-! `dropHeld` -/

@[simp] theorem Node.dropHeld_power (i : Initiator) : (n.dropHeld i).power = n.power := by unfold Node.dropHeld Node.when; split <;> simp
@[simp] theorem Node.dropHeld_supply (i : Initiator) : (n.dropHeld i).supply = n.supply := by unfold Node.dropHeld Node.when; split <;> simp
@[simp] theorem Node.dropHeld_pins (i : Initiator) : (n.dropHeld i).pins = n.pins := by unfold Node.dropHeld Node.when; split <;> simp
@[simp] theorem Node.dropHeld_commits (i : Initiator) : (n.dropHeld i).commits = n.commits := by unfold Node.dropHeld Node.when; split <;> simp
@[simp] theorem Node.dropHeld_mc (i : Initiator) : (n.dropHeld i).mc = n.mc := by unfold Node.dropHeld Node.when; split <;> simp
@[simp] theorem Node.dropHeld_faults (i : Initiator) : (n.dropHeld i).faults = n.faults := by unfold Node.dropHeld Node.when; split <;> simp
@[simp] theorem Node.dropHeld_runs (i : Initiator) : (n.dropHeld i).runs = n.runs := by unfold Node.dropHeld Node.when; split <;> simp
@[simp] theorem Node.dropHeld_hiLatch (i : Initiator) : (n.dropHeld i).hiLatch = n.hiLatch := by unfold Node.dropHeld Node.when; split <;> simp
@[simp] theorem Node.dropHeld_winLatch (i : Initiator) : (n.dropHeld i).winLatch = n.winLatch := by unfold Node.dropHeld Node.when; split <;> simp
@[simp] theorem Node.dropHeld_timeLatch (i : Initiator) : (n.dropHeld i).timeLatch = n.timeLatch := by unfold Node.dropHeld Node.when; split <;> simp
@[simp] theorem Node.dropHeld_book (i : Initiator) : (n.dropHeld i).book = n.book := by unfold Node.dropHeld Node.when; split <;> simp
@[simp] theorem Node.dropHeld_trellis (i : Initiator) : (n.dropHeld i).trellis = n.trellis := by unfold Node.dropHeld Node.when; split <;> simp
@[simp] theorem Node.dropHeld_cellar (i : Initiator) : (n.dropHeld i).cellar = n.cellar := by unfold Node.dropHeld Node.when; split <;> simp
@[simp] theorem Node.dropHeld_ports (i : Initiator) : (n.dropHeld i).ports = n.ports := by unfold Node.dropHeld Node.when; split <;> simp
@[simp] theorem Node.dropHeld_ina (i : Initiator) : (n.dropHeld i).ina = n.ina := by unfold Node.dropHeld Node.when; split <;> simp
@[simp] theorem Node.dropHeld_flows (i : Initiator) : (n.dropHeld i).flows = n.flows := by unfold Node.dropHeld Node.when; split <;> simp
@[simp] theorem Node.dropHeld_sessions (i : Initiator) : (n.dropHeld i).sessions = n.sessions := by unfold Node.dropHeld Node.when; split <;> simp
@[simp] theorem Node.dropHeld_mdStarted (i : Initiator) : (n.dropHeld i).mdStarted = n.mdStarted := by unfold Node.dropHeld Node.when; split <;> simp
@[simp] theorem Node.dropHeld_presses (i : Initiator) : (n.dropHeld i).presses = n.presses := by unfold Node.dropHeld Node.when; split <;> simp
@[simp] theorem Node.dropHeld_images (i : Initiator) : (n.dropHeld i).images = n.images := by unfold Node.dropHeld Node.when; split <;> simp
@[simp] theorem Node.dropHeld_cans (i : Initiator) : (n.dropHeld i).cans = n.cans := by unfold Node.dropHeld Node.when; split <;> simp
@[simp] theorem Node.dropHeld_lineUnits (i : Initiator) : (n.dropHeld i).lineUnits = n.lineUnits := by unfold Node.dropHeld Node.when; split <;> simp
@[simp] theorem Node.dropHeld_time (i : Initiator) : (n.dropHeld i).time = n.time := by unfold Node.dropHeld Node.when; split <;> simp
@[simp] theorem Node.dropHeld_host (i : Initiator) : (n.dropHeld i).host = n.host := by unfold Node.dropHeld Node.when; split <;> simp
@[simp] theorem Node.dropHeld_outs (i : Initiator) : (n.dropHeld i).outs = n.outs := by unfold Node.dropHeld Node.when; split <;> simp
@[simp] theorem Node.dropHeld_pair (i : Initiator) : (n.dropHeld i).pair = n.pair := by unfold Node.dropHeld Node.when; split <;> simp
@[simp] theorem Node.dropHeld_vnt (i : Initiator) : (n.dropHeld i).vnt = n.vnt := by unfold Node.dropHeld Node.when; split <;> simp
@[simp] theorem Node.dropHeld_vault (i : Initiator) : (n.dropHeld i).vault = n.vault := by unfold Node.dropHeld Node.when; split <;> simp
@[simp] theorem Node.dropHeld_maint (i : Initiator) : (n.dropHeld i).maint = n.maint := by unfold Node.dropHeld Node.when; split <;> simp
@[simp] theorem Node.dropHeld_out (i : Initiator) : (n.dropHeld i).out = n.out := by unfold Node.dropHeld Node.when; split <;> simp
@[simp] theorem Node.dropHeld_fresh (i : Initiator) : (n.dropHeld i).fresh = n.fresh := by unfold Node.dropHeld Node.when; split <;> simp

/-! `xabort` -/

@[simp] theorem Node.xabort_power : (n.xabort).power = n.power := by unfold Node.xabort Node.when; split <;> simp
@[simp] theorem Node.xabort_supply : (n.xabort).supply = n.supply := by unfold Node.xabort Node.when; split <;> simp
@[simp] theorem Node.xabort_pins : (n.xabort).pins = n.pins := by unfold Node.xabort Node.when; split <;> simp
@[simp] theorem Node.xabort_commits : (n.xabort).commits = n.commits := by unfold Node.xabort Node.when; split <;> simp
@[simp] theorem Node.xabort_mc : (n.xabort).mc = n.mc := by unfold Node.xabort Node.when; split <;> simp
@[simp] theorem Node.xabort_faults : (n.xabort).faults = n.faults := by unfold Node.xabort Node.when; split <;> simp
@[simp] theorem Node.xabort_runs : (n.xabort).runs = n.runs := by unfold Node.xabort Node.when; split <;> simp
@[simp] theorem Node.xabort_hiLatch : (n.xabort).hiLatch = n.hiLatch := by unfold Node.xabort Node.when; split <;> simp
@[simp] theorem Node.xabort_winLatch : (n.xabort).winLatch = n.winLatch := by unfold Node.xabort Node.when; split <;> simp
@[simp] theorem Node.xabort_timeLatch : (n.xabort).timeLatch = n.timeLatch := by unfold Node.xabort Node.when; split <;> simp
@[simp] theorem Node.xabort_book : (n.xabort).book = n.book := by unfold Node.xabort Node.when; split <;> simp
@[simp] theorem Node.xabort_trellis : (n.xabort).trellis = n.trellis := by unfold Node.xabort Node.when; split <;> simp
@[simp] theorem Node.xabort_cellar : (n.xabort).cellar = n.cellar := by unfold Node.xabort Node.when; split <;> simp
@[simp] theorem Node.xabort_ports : (n.xabort).ports = n.ports := by unfold Node.xabort Node.when; split <;> simp
@[simp] theorem Node.xabort_ina : (n.xabort).ina = n.ina := by unfold Node.xabort Node.when; split <;> simp
@[simp] theorem Node.xabort_flows : (n.xabort).flows = n.flows := by unfold Node.xabort Node.when; split <;> simp
@[simp] theorem Node.xabort_sessions : (n.xabort).sessions = n.sessions := by unfold Node.xabort Node.when; split <;> simp
@[simp] theorem Node.xabort_mdStarted : (n.xabort).mdStarted = n.mdStarted := by unfold Node.xabort Node.when; split <;> simp
@[simp] theorem Node.xabort_presses : (n.xabort).presses = n.presses := by unfold Node.xabort Node.when; split <;> simp
@[simp] theorem Node.xabort_images : (n.xabort).images = n.images := by unfold Node.xabort Node.when; split <;> simp
@[simp] theorem Node.xabort_cans : (n.xabort).cans = n.cans := by unfold Node.xabort Node.when; split <;> simp
@[simp] theorem Node.xabort_lineUnits : (n.xabort).lineUnits = n.lineUnits := by unfold Node.xabort Node.when; split <;> simp
@[simp] theorem Node.xabort_blend : (n.xabort).blend = n.blend := by unfold Node.xabort Node.when; split <;> simp
@[simp] theorem Node.xabort_time : (n.xabort).time = n.time := by unfold Node.xabort Node.when; split <;> simp
@[simp] theorem Node.xabort_outs : (n.xabort).outs = n.outs := by unfold Node.xabort Node.when; split <;> simp
@[simp] theorem Node.xabort_pair : (n.xabort).pair = n.pair := by unfold Node.xabort Node.when; split <;> simp
@[simp] theorem Node.xabort_vnt : (n.xabort).vnt = n.vnt := by unfold Node.xabort Node.when; split <;> simp
@[simp] theorem Node.xabort_vault : (n.xabort).vault = n.vault := by unfold Node.xabort Node.when; split <;> simp
@[simp] theorem Node.xabort_maint : (n.xabort).maint = n.maint := by unfold Node.xabort Node.when; split <;> simp
@[simp] theorem Node.xabort_out : (n.xabort).out = n.out := by unfold Node.xabort Node.when; split <;> simp
@[simp] theorem Node.xabort_fresh : (n.xabort).fresh = n.fresh := by unfold Node.xabort Node.when; split <;> simp

end Sys2Proof.Machine
end

