-- ==== Sys2Proof/Laws/Ops.lean ====
section
/-! SUPPORT. What the named operations do to the register map: reading a word or a field after a write, a count, an event. -/

namespace Sys2Proof.Machine

/-! ### Fields of a word -/

theorem Field.get_lt (f : Field) (w : Word) : f.get w < 2 ^ f.width := Nat.mod_lt _ (Nat.two_pow_pos _)

/-- What is left of `x` when its bits `l` to `l + w - 1` are cleared. -/
theorem split_field (x l w : Nat) :
    x = x % 2 ^ l + x / 2 ^ l % 2 ^ w * 2 ^ l + x / 2 ^ (l + w) * 2 ^ (l + w) := by
  have h1 := Nat.div_add_mod x (2 ^ l)
  have h2 := Nat.div_add_mod (x / 2 ^ l) (2 ^ w)
  rw [Nat.div_div_eq_div_mul, ← Nat.pow_add] at h2
  have h3 : (2 ^ w * (x / 2 ^ (l + w)) + x / 2 ^ l % 2 ^ w) * 2 ^ l = x / 2 ^ l * 2 ^ l := by rw [h2]
  rw [Nat.add_mul, Nat.mul_right_comm, ← Nat.pow_add, Nat.add_comm w l] at h3
  rw [Nat.mul_comm] at h1
  rw [Nat.mul_comm (x / 2 ^ (l + w))]
  omega

theorem gather (a v q l w : Nat) : a + v * 2 ^ l + q * 2 ^ (l + w) = a + (v + q * 2 ^ w) * 2 ^ l := by
  rw [Nat.add_mul, Nat.mul_assoc, ← Nat.pow_add, Nat.add_comm w l, Nat.add_assoc]

/-- The number a field write leaves in the word. -/
theorem Field.put_toNat (f : Field) (w : Word) (v : Nat) (h : f.lsb + f.width ≤ 32) :
    (f.put w v).toNat = w.toNat % 2 ^ f.lsb + v % 2 ^ f.width * 2 ^ f.lsb + w.toNat / 2 ^ (f.lsb + f.width) * 2 ^ (f.lsb + f.width) := by
  have hs := split_field w.toNat f.lsb f.width
  have hv : v % 2 ^ f.width < 2 ^ f.width := Nat.mod_lt _ (Nat.two_pow_pos _)
  have hl : w.toNat % 2 ^ f.lsb < 2 ^ f.lsb := Nat.mod_lt _ (Nat.two_pow_pos _)
  have hlow : w.toNat % 2 ^ f.lsb + v % 2 ^ f.width * 2 ^ f.lsb < 2 ^ (f.lsb + f.width) := by
    have : (v % 2 ^ f.width + 1) * 2 ^ f.lsb ≤ 2 ^ f.width * 2 ^ f.lsb := Nat.mul_le_mul_right _ hv
    rw [Nat.add_mul, ← Nat.pow_add, Nat.add_comm f.width] at this
    omega
  have hhi : w.toNat / 2 ^ (f.lsb + f.width) * 2 ^ (f.lsb + f.width) + 2 ^ (f.lsb + f.width) ≤ 2 ^ 32 := by
    have hd : w.toNat / 2 ^ (f.lsb + f.width) < 2 ^ (32 - (f.lsb + f.width)) := by
      apply Nat.div_lt_of_lt_mul
      rw [← Nat.pow_add, Nat.add_sub_cancel' h]
      exact w.isLt
    have := Nat.mul_le_mul_right (2 ^ (f.lsb + f.width)) hd
    rw [Nat.succ_mul, ← Nat.pow_add, Nat.sub_add_cancel h] at this
    exact this
  have hg : f.get w = w.toNat / 2 ^ f.lsb % 2 ^ f.width := by simp [Field.get, Nat.shiftRight_eq_div_pow]
  rw [Field.put, BitVec.toNat_ofNat, hg, Nat.mod_eq_of_lt] <;> omega

/-- A field reads as it was written. -/
theorem Field.get_put (f : Field) (w : Word) (v : Nat) (h : f.lsb + f.width ≤ 32) : f.get (f.put w v) = v % 2 ^ f.width := by
  have hl : w.toNat % 2 ^ f.lsb < 2 ^ f.lsb := Nat.mod_lt _ (Nat.two_pow_pos _)
  rw [Field.get, Field.put_toNat f w v h, Nat.shiftRight_eq_div_pow]
  have : w.toNat % 2 ^ f.lsb + v % 2 ^ f.width * 2 ^ f.lsb + w.toNat / 2 ^ (f.lsb + f.width) * 2 ^ (f.lsb + f.width)
      = w.toNat % 2 ^ f.lsb + (v % 2 ^ f.width + w.toNat / 2 ^ (f.lsb + f.width) * 2 ^ f.width) * 2 ^ f.lsb := by
    exact gather _ _ _ _ _
  rw [this, Nat.add_mul_div_right _ _ (Nat.two_pow_pos _), Nat.div_eq_of_lt hl, Nat.zero_add, Nat.add_mul_mod_self_right, Nat.mod_mod]

theorem mod_field (x l w k : Nat) (h : k ≤ l) : (x % 2 ^ l + w * 2 ^ l) % 2 ^ k = x % 2 ^ k := by
  have : w * 2 ^ l = w * 2 ^ (l - k) * 2 ^ k := by rw [Nat.mul_assoc, ← Nat.pow_add, Nat.sub_add_cancel h]
  rw [this, Nat.add_mul_mod_self_right, Nat.mod_mod_of_dvd _ (Nat.pow_dvd_pow 2 h)]

/-- A field beside the one written reads as before. -/
theorem Field.get_put_beside (f g : Field) (w : Word) (v : Nat) (h : f.lsb + f.width ≤ 32)
    (hd : g.lsb + g.width ≤ f.lsb ∨ f.lsb + f.width ≤ g.lsb) : g.get (f.put w v) = g.get w := by
  have key : ∀ x : Nat, x >>> g.lsb % 2 ^ g.width = x % 2 ^ (g.lsb + g.width) / 2 ^ g.lsb := by
    intro x
    rw [Nat.shiftRight_eq_div_pow, Nat.pow_add, Nat.mod_mul_right_div_self]
  rcases hd with hd | hd
  · simp only [Field.get, key, Field.put_toNat f w v h]
    have : w.toNat % 2 ^ f.lsb + v % 2 ^ f.width * 2 ^ f.lsb + w.toNat / 2 ^ (f.lsb + f.width) * 2 ^ (f.lsb + f.width)
        = w.toNat % 2 ^ f.lsb + (v % 2 ^ f.width + w.toNat / 2 ^ (f.lsb + f.width) * 2 ^ f.width) * 2 ^ f.lsb := by
      exact gather _ _ _ _ _
    rw [this, mod_field _ _ _ _ hd]
  · have hv : v % 2 ^ f.width < 2 ^ f.width := Nat.mod_lt _ (Nat.two_pow_pos _)
    have hl : w.toNat % 2 ^ f.lsb < 2 ^ f.lsb := Nat.mod_lt _ (Nat.two_pow_pos _)
    have hlow : w.toNat % 2 ^ f.lsb + v % 2 ^ f.width * 2 ^ f.lsb < 2 ^ (f.lsb + f.width) := by
      have : (v % 2 ^ f.width + 1) * 2 ^ f.lsb ≤ 2 ^ f.width * 2 ^ f.lsb := Nat.mul_le_mul_right _ hv
      rw [Nat.add_mul, ← Nat.pow_add, Nat.add_comm f.width] at this
      omega
    have hq : ∀ q : Nat, (f.put w v).toNat / 2 ^ (f.lsb + f.width) / 2 ^ q = w.toNat / 2 ^ (f.lsb + f.width) / 2 ^ q := by
      intro q
      rw [Field.put_toNat f w v h, Nat.add_mul_div_right _ _ (Nat.two_pow_pos _), Nat.div_eq_of_lt hlow, Nat.zero_add]
    have e : g.lsb = f.lsb + f.width + (g.lsb - (f.lsb + f.width)) := by omega
    simp only [Field.get, Nat.shiftRight_eq_div_pow]
    rw [e, Nat.pow_add, ← Nat.div_div_eq_div_mul, hq, Nat.div_div_eq_div_mul]

/-! ### Words of the register map -/

variable (n : Node)

theorem Node.word_putWord (a b : Nat) (v : Word) : (n.putWord a v).word b = if b = a then v else n.word b :=
  SMap.get_set _ _ _ _ _

theorem Node.word_wr (f : Field) (v b : Nat) : (n.wr f v).word b = if b = f.addr then f.put (n.word f.addr) v else n.word b :=
  n.word_putWord _ _ _

theorem Node.word_wr_ne (f : Field) (v : Nat) {b : Nat} (h : b ≠ f.addr) : (n.wr f v).word b = n.word b := by
  rw [Node.word_wr, if_neg h]

theorem Node.word_wrBit_ne (f : Field) (v : Bool) {b : Nat} (h : b ≠ f.addr) : (n.wrBit f v).word b = n.word b :=
  n.word_wr_ne f _ h

theorem Node.word_incr_ne (f : Field) {b : Nat} (h : b ≠ f.addr) : (n.incr f).word b = n.word b := n.word_wr_ne f _ h

theorem Node.word_count_ne (a : Nat) {b : Nat} (h : b ≠ a) : (n.count a).word b = n.word b := by
  rw [Node.count, Node.countBy, Node.word_putWord, if_neg h]

theorem Node.word_countBy_ne (a k : Nat) {b : Nat} (h : b ≠ a) : (n.countBy a k).word b = n.word b := by
  rw [Node.countBy, Node.word_putWord, if_neg h]

/-- One occurrence counts one, up to saturation (R92). -/
theorem Node.word_count (a : Nat) : (n.count a).word a = BitVec.ofNat 32 (min ((n.word a).toNat + 1) 0xFFFFFFFF) := by
  rw [Node.count, Node.countBy, Node.word_putWord, if_pos rfl]

/-- A field reads as written. -/
theorem Node.rd_wr (f : Field) (v : Nat) (h : f.lsb + f.width ≤ 32) : (n.wr f v).rd f = v % 2 ^ f.width := by
  rw [Node.rd, Node.word_wr, if_pos rfl, Field.get_put f _ _ h]

theorem Node.rd_wr_ne (f g : Field) (v : Nat) (h : g.addr ≠ f.addr) : (n.wr f v).rd g = n.rd g := by
  rw [Node.rd, Node.word_wr_ne n f v h]; rfl

theorem Node.rd_wr_beside (f g : Field) (v : Nat) (h : f.lsb + f.width ≤ 32) (ha : g.addr = f.addr)
    (hd : g.lsb + g.width ≤ f.lsb ∨ f.lsb + f.width ≤ g.lsb) : (n.wr f v).rd g = n.rd g := by
  rw [Node.rd, Node.word_wr, if_pos ha, Field.get_put_beside f g _ _ h hd, ← ha]; rfl

theorem Node.bit_wrBit (f : Field) (b : Bool) (h : f.lsb + f.width ≤ 32) (hw : 1 ≤ f.width) : (n.wrBit f b).bit f = b := by
  have : 1 < 2 ^ f.width := Nat.one_lt_two_pow (by omega)
  rw [Node.bit, Node.wrBit, Node.rd_wr n f _ h]
  cases b
  · simp
  · simp [Nat.mod_eq_of_lt this]

theorem Node.rd_wrBit_ne (f g : Field) (b : Bool) (h : g.addr ≠ f.addr) : (n.wrBit f b).rd g = n.rd g := n.rd_wr_ne f g _ h

theorem Node.rd_wrBit_beside (f g : Field) (b : Bool) (h : f.lsb + f.width ≤ 32) (ha : g.addr = f.addr)
    (hd : g.lsb + g.width ≤ f.lsb ∨ f.lsb + f.width ≤ g.lsb) : (n.wrBit f b).rd g = n.rd g := n.rd_wr_beside f g _ h ha hd

theorem Node.bit_wr_ne (f g : Field) (v : Nat) (h : g.addr ≠ f.addr) : (n.wr f v).bit g = n.bit g := by
  rw [Node.bit, Node.rd_wr_ne n f g v h]; rfl

theorem Node.bit_wrBit_ne (f g : Field) (v : Bool) (h : g.addr ≠ f.addr) : (n.wrBit f v).bit g = n.bit g := n.bit_wr_ne f g _ h

theorem Node.bit_wr_beside (f g : Field) (v : Nat) (h : f.lsb + f.width ≤ 32) (ha : g.addr = f.addr)
    (hd : g.lsb + g.width ≤ f.lsb ∨ f.lsb + f.width ≤ g.lsb) : (n.wr f v).bit g = n.bit g := by
  rw [Node.bit, Node.rd_wr_beside n f g v h ha hd]; rfl

theorem Node.bit_wrBit_beside (f g : Field) (v : Bool) (h : f.lsb + f.width ≤ 32) (ha : g.addr = f.addr)
    (hd : g.lsb + g.width ≤ f.lsb ∨ f.lsb + f.width ≤ g.lsb) : (n.wrBit f v).bit g = n.bit g := n.bit_wr_beside f g _ h ha hd

/-! ### The book's queue -/

theorem mem_placeRecord (r x : Record) (q : List Record) : x ∈ placeRecord r q ↔ x = r ∨ x ∈ q := by
  induction q with
  | nil => simp [placeRecord]
  | cons y t ih =>
    simp only [placeRecord]
    split
    · simp
    · simp only [List.mem_cons, ih]
      constructor
      · rintro (h | h | h) <;> simp [h]
      · rintro (h | h | h) <;> simp [h]

theorem length_placeRecord (r : Record) (q : List Record) : (placeRecord r q).length = q.length + 1 := by
  induction q with
  | nil => rfl
  | cons y t ih =>
    simp only [placeRecord]
    split
    · rfl
    · simp [ih]

/-- Where no waiting record of the same clock has a greater code, a record goes behind all (R504). -/
theorem placeRecord_last (r : Record) (q : List Record) (h : ∀ x ∈ q, x.raw = r.raw → x.code ≤ r.code) : placeRecord r q = q ++ [r] := by
  induction q with
  | nil => rfl
  | cons y t ih =>
    rw [placeRecord, if_neg (fun hy => absurd (h y (.head _) hy.1) (by omega)), ih fun x hx => h x (.tail _ hx)]; rfl

/-! ### Events write two counters and nothing else of the register map -/

theorem Node.word_enqueue (r : Record) {b : Nat} (h : b ≠ CNT_CBK_QOVF) : (n.enqueue r).word b = n.word b := by
  unfold Node.enqueue
  split
  · rfl
  · exact n.word_count_ne _ h

theorem Node.word_logEvent (c : Nat) (sp : Bool) (p : List Nat) {b : Nat} (h : b ≠ CNT_CBK_SUPPR) (h2 : b ≠ CNT_CBK_QOVF) :
    (n.logEvent c sp p).word b = n.word b := by
  simp only [Node.logEvent]
  split
  · exact n.word_count_ne _ h
  · rw [Node.word_enqueue _ _ h2]; rfl

theorem Node.word_fire (v c g b : Nat) : (n.fire v c g).word b = n.word b := by rw [Node.word, Node.fire_store]; rfl

theorem Node.word_raiseAs (c : Nat) (sp : Bool) (p : List Nat) {b : Nat} (h : b ≠ CNT_CBK_SUPPR) (h2 : b ≠ CNT_CBK_QOVF) :
    (n.raiseAs sp c p).word b = n.word b := by
  simp only [Node.raiseAs]
  split
  · rw [Node.word_fire, Node.word_logEvent _ _ _ _ h h2]
  · rw [Node.word_logEvent _ _ _ _ h h2]

theorem Node.word_raise (c : Nat) (p : List Nat) {b : Nat} (h : b ≠ CNT_CBK_SUPPR) (h2 : b ≠ CNT_CBK_QOVF) :
    (n.raise c p).word b = n.word b := n.word_raiseAs c _ p h h2

theorem Node.rd_raise (c : Nat) (p : List Nat) {f : Field} (h : f.addr ≠ CNT_CBK_SUPPR) (h2 : f.addr ≠ CNT_CBK_QOVF) :
    (n.raise c p).rd f = n.rd f := by rw [Node.rd, Node.word_raise _ _ _ h h2]; rfl

theorem Node.bit_raise (c : Nat) (p : List Nat) {f : Field} (h : f.addr ≠ CNT_CBK_SUPPR) (h2 : f.addr ≠ CNT_CBK_QOVF) :
    (n.raise c p).bit f = n.bit f := by rw [Node.bit, Node.rd_raise _ _ _ h h2]; rfl

theorem Node.word_of_store {m : Node} (h : m.store = n.store) (b : Nat) : m.word b = n.word b := by rw [Node.word, h]; rfl

/-! ### Accesses -/

theorem Node.word_dropHeld (by_ : Initiator) {b : Nat} (h : b ≠ CNT_PARTIAL_WR) : (n.dropHeld by_).word b = n.word b := by
  unfold Node.dropHeld Node.when
  split
  · exact (n.setHeld by_ none).word_count_ne _ h
  · rfl

theorem Node.rd_dropHeld (by_ : Initiator) {f : Field} (h : f.addr ≠ CNT_PARTIAL_WR) : (n.dropHeld by_).rd f = n.rd f := by
  rw [Node.rd, Node.word_dropHeld _ _ h]; rfl

theorem Node.bit_dropHeld (by_ : Initiator) {f : Field} (h : f.addr ≠ CNT_PARTIAL_WR) : (n.dropHeld by_).bit f = n.bit f := by
  rw [Node.bit, Node.rd_dropHeld _ _ h]; rfl

theorem Node.blockHeld_dropHeld (by_ : Initiator) (b : Nat) : (n.dropHeld by_).blockHeld b = n.blockHeld b := by
  simp only [Node.blockHeld, Node.islandDown, Node.dropHeld_faults, Node.rd_dropHeld n by_ (f := F.ISLAND_STATUS_IN_RESET) (by decide)]

/-- An access that reaches its block discards the initiator's held low word and acts. -/
theorem Node.access_of_reaches {by_ : Initiator} {b : Nat} (f : Node → Node) (h : n.Reaches by_ b) :
    n.access by_ b f = f (n.dropHeld by_) := by
  simp [Node.access, Node.enter, h.1, Node.blockHeld_dropHeld, h.2]

end Sys2Proof.Machine
end

