-- ==== Sys2Proof/Laws/Only.lean ====
section
/-! SUPPORT. What each function over the node, and each command, leaves alone: one lemma for each says which parts it may change, every other
part being as before. The lists are upper bounds. -/

namespace Sys2Proof.Machine

theorem Part.off_sub {pt : Part} {l l' : List Part} (h : pt.off l = true) (s : l'.all l.contains = true) : pt.off l' = true := by
  simp only [Part.off, Bool.not_eq_true', List.contains_eq_mem, decide_eq_false_iff_not, List.all_eq_true, decide_eq_true_eq] at *
  exact fun h' => h (s pt h')

theorem Node.Same.refl (pt : Part) (n : Node) : n.Same pt n := by cases pt <;> rfl

theorem foldl_only {pt : Part} {n0 : Node} {α : Type} (f : Node → α → Node) (l : List α) (n : Node) (h : n0.Same pt n)
    (hf : ∀ x a, n0.Same pt x → n0.Same pt (f x a)) : n0.Same pt (l.foldl f n) :=
  List.foldlRecOn (motive := fun m => n0.Same pt m) l f h fun m hm a _ => hf m a hm

theorem foldlPair_only {pt : Part} {n0 : Node} {α β : Type} (f : Node × β → α → Node × β) (l : List α) (n : Node × β) (h : n0.Same pt n.1)
    (hf : ∀ x a, n0.Same pt x.1 → n0.Same pt (f x a).1) : n0.Same pt (l.foldl f n).1 :=
  List.foldlRecOn (motive := fun r => n0.Same pt r.1) l f h fun r hr a _ => hf r a hr

theorem with_power_only {pt : Part} {n0 : Node} (m : Node) (v : Power) (hp : pt.off [.power] = true) (h : n0.Same pt m) :
    n0.Same pt { m with power := v } := by cases pt <;> first | exact h | exact absurd hp (by decide)
theorem with_supply_only {pt : Part} {n0 : Node} (m : Node) (v : Supply) (hp : pt.off [.supply] = true) (h : n0.Same pt m) :
    n0.Same pt { m with supply := v } := by cases pt <;> first | exact h | exact absurd hp (by decide)
theorem with_pins_only {pt : Part} {n0 : Node} (m : Node) (v : Pins) (hp : pt.off [.pins] = true) (h : n0.Same pt m) :
    n0.Same pt { m with pins := v } := by cases pt <;> first | exact h | exact absurd hp (by decide)
theorem with_commits_only {pt : Part} {n0 : Node} (m : Node) (v : SMap CommitPhase) (hp : pt.off [.commits] = true) (h : n0.Same pt m) :
    n0.Same pt { m with commits := v } := by cases pt <;> first | exact h | exact absurd hp (by decide)
theorem with_mc_only {pt : Part} {n0 : Node} (m : Node) (v : Option McSet) (hp : pt.off [.mc] = true) (h : n0.Same pt m) :
    n0.Same pt { m with mc := v } := by cases pt <;> first | exact h | exact absurd hp (by decide)
theorem with_faults_only {pt : Part} {n0 : Node} (m : Node) (v : List FaultCause) (hp : pt.off [.faults] = true) (h : n0.Same pt m) :
    n0.Same pt { m with faults := v } := by cases pt <;> first | exact h | exact absurd hp (by decide)
theorem with_runs_only {pt : Part} {n0 : Node} (m : Node) (v : List (Nat × Nat)) (hp : pt.off [.runs] = true) (h : n0.Same pt m) :
    n0.Same pt { m with runs := v } := by cases pt <;> first | exact h | exact absurd hp (by decide)
theorem with_hiLatch_only {pt : Part} {n0 : Node} (m : Node) (v : SMap Word) (hp : pt.off [.hiLatch] = true) (h : n0.Same pt m) :
    n0.Same pt { m with hiLatch := v } := by cases pt <;> first | exact h | exact absurd hp (by decide)
theorem with_winLatch_only {pt : Part} {n0 : Node} (m : Node) (v : List (Nat × WindowLatch)) (hp : pt.off [.winLatch] = true) (h : n0.Same pt m) :
    n0.Same pt { m with winLatch := v } := by cases pt <;> first | exact h | exact absurd hp (by decide)
theorem with_timeLatch_only {pt : Part} {n0 : Node} (m : Node) (v : SMap (Option TimeLatch)) (hp : pt.off [.timeLatch] = true) (h : n0.Same pt m) :
    n0.Same pt { m with timeLatch := v } := by cases pt <;> first | exact h | exact absurd hp (by decide)
theorem with_book_only {pt : Part} {n0 : Node} (m : Node) (v : Book) (hp : pt.off [.book] = true) (h : n0.Same pt m) :
    n0.Same pt { m with book := v } := by cases pt <;> first | exact h | exact absurd hp (by decide)
theorem with_trellis_only {pt : Part} {n0 : Node} (m : Node) (v : Trellis) (hp : pt.off [.trellis] = true) (h : n0.Same pt m) :
    n0.Same pt { m with trellis := v } := by cases pt <;> first | exact h | exact absurd hp (by decide)
theorem with_cellar_only {pt : Part} {n0 : Node} (m : Node) (v : Cellar) (hp : pt.off [.cellar] = true) (h : n0.Same pt m) :
    n0.Same pt { m with cellar := v } := by cases pt <;> first | exact h | exact absurd hp (by decide)
theorem with_ports_only {pt : Part} {n0 : Node} (m : Node) (v : SMap PortState) (hp : pt.off [.ports] = true) (h : n0.Same pt m) :
    n0.Same pt { m with ports := v } := by cases pt <;> first | exact h | exact absurd hp (by decide)
theorem with_ina_only {pt : Part} {n0 : Node} (m : Node) (v : Inauguration) (hp : pt.off [.ina] = true) (h : n0.Same pt m) :
    n0.Same pt { m with ina := v } := by cases pt <;> first | exact h | exact absurd hp (by decide)
theorem with_flows_only {pt : Part} {n0 : Node} (m : Node) (v : SMap FlowState) (hp : pt.off [.flows] = true) (h : n0.Same pt m) :
    n0.Same pt { m with flows := v } := by cases pt <;> first | exact h | exact absurd hp (by decide)
theorem with_sessions_only {pt : Part} {n0 : Node} (m : Node) (v : SMap SessionState) (hp : pt.off [.sessions] = true) (h : n0.Same pt m) :
    n0.Same pt { m with sessions := v } := by cases pt <;> first | exact h | exact absurd hp (by decide)
theorem with_mdStarted_only {pt : Part} {n0 : Node} (m : Node) (v : DWord) (hp : pt.off [.mdStarted] = true) (h : n0.Same pt m) :
    n0.Same pt { m with mdStarted := v } := by cases pt <;> first | exact h | exact absurd hp (by decide)
theorem with_presses_only {pt : Part} {n0 : Node} (m : Node) (v : SMap Press) (hp : pt.off [.presses] = true) (h : n0.Same pt m) :
    n0.Same pt { m with presses := v } := by cases pt <;> first | exact h | exact absurd hp (by decide)
theorem with_images_only {pt : Part} {n0 : Node} (m : Node) (v : List ImageInfo) (hp : pt.off [.images] = true) (h : n0.Same pt m) :
    n0.Same pt { m with images := v } := by cases pt <;> first | exact h | exact absurd hp (by decide)
theorem with_cans_only {pt : Part} {n0 : Node} (m : Node) (v : SMap CanCtrl) (hp : pt.off [.cans] = true) (h : n0.Same pt m) :
    n0.Same pt { m with cans := v } := by cases pt <;> first | exact h | exact absurd hp (by decide)
theorem with_lineUnits_only {pt : Part} {n0 : Node} (m : Node) (v : SMap LineUnit) (hp : pt.off [.lineUnits] = true) (h : n0.Same pt m) :
    n0.Same pt { m with lineUnits := v } := by cases pt <;> first | exact h | exact absurd hp (by decide)
theorem with_blend_only {pt : Part} {n0 : Node} (m : Node) (v : Blend) (hp : pt.off [.blend] = true) (h : n0.Same pt m) :
    n0.Same pt { m with blend := v } := by cases pt <;> first | exact h | exact absurd hp (by decide)
theorem with_time_only {pt : Part} {n0 : Node} (m : Node) (v : TimeBase) (hp : pt.off [.time] = true) (h : n0.Same pt m) :
    n0.Same pt { m with time := v } := by cases pt <;> first | exact h | exact absurd hp (by decide)
theorem with_host_only {pt : Part} {n0 : Node} (m : Node) (v : HostBridge) (hp : pt.off [.host] = true) (h : n0.Same pt m) :
    n0.Same pt { m with host := v } := by cases pt <;> first | exact h | exact absurd hp (by decide)
theorem with_outs_only {pt : Part} {n0 : Node} (m : Node) (v : Outputs) (hp : pt.off [.outs] = true) (h : n0.Same pt m) :
    n0.Same pt { m with outs := v } := by cases pt <;> first | exact h | exact absurd hp (by decide)
theorem with_pair_only {pt : Part} {n0 : Node} (m : Node) (v : Pair) (hp : pt.off [.pair] = true) (h : n0.Same pt m) :
    n0.Same pt { m with pair := v } := by cases pt <;> first | exact h | exact absurd hp (by decide)
theorem with_vnt_only {pt : Part} {n0 : Node} (m : Node) (v : Vintner) (hp : pt.off [.vnt] = true) (h : n0.Same pt m) :
    n0.Same pt { m with vnt := v } := by cases pt <;> first | exact h | exact absurd hp (by decide)
theorem with_vault_only {pt : Part} {n0 : Node} (m : Node) (v : Vault) (hp : pt.off [.vault] = true) (h : n0.Same pt m) :
    n0.Same pt { m with vault := v } := by cases pt <;> first | exact h | exact absurd hp (by decide)
theorem with_maint_only {pt : Part} {n0 : Node} (m : Node) (v : Maint) (hp : pt.off [.maint] = true) (h : n0.Same pt m) :
    n0.Same pt { m with maint := v } := by cases pt <;> first | exact h | exact absurd hp (by decide)
theorem with_out_only {pt : Part} {n0 : Node} (m : Node) (v : List Emission) (hp : pt.off [.out] = true) (h : n0.Same pt m) :
    n0.Same pt { m with out := v } := by cases pt <;> first | exact h | exact absurd hp (by decide)
theorem with_fresh_only {pt : Part} {n0 : Node} (m : Node) (v : Nat) (hp : pt.off [.fresh] = true) (h : n0.Same pt m) :
    n0.Same pt { m with fresh := v } := by cases pt <;> first | exact h | exact absurd hp (by decide)

theorem with_cellar_ina_only {pt : Part} {n0 : Node} (m : Node) (v0 : Cellar) (v1 : Inauguration) (hp : pt.off [.cellar, .ina] = true)
    (h : n0.Same pt m) : n0.Same pt { m with cellar := v0, ina := v1 } := by
  cases pt <;> first | exact h | exact absurd hp (by decide)
theorem with_cellar_maint_only {pt : Part} {n0 : Node} (m : Node) (v0 : Cellar) (v1 : Maint) (hp : pt.off [.cellar, .maint] = true)
    (h : n0.Same pt m) : n0.Same pt { m with cellar := v0, maint := v1 } := by
  cases pt <;> first | exact h | exact absurd hp (by decide)
theorem with_flows_sessions_blend_only {pt : Part} {n0 : Node} (m : Node) (v0 : SMap FlowState) (v1 : SMap SessionState) (v2 : Blend)
    (hp : pt.off [.flows, .sessions, .blend] = true)
    (h : n0.Same pt m) : n0.Same pt { m with flows := v0, sessions := v1, blend := v2 } := by
  cases pt <;> first | exact h | exact absurd hp (by decide)
theorem with_pins_host_only {pt : Part} {n0 : Node} (m : Node) (v0 : Pins) (v1 : HostBridge) (hp : pt.off [.pins, .host] = true)
    (h : n0.Same pt m) : n0.Same pt { m with pins := v0, host := v1 } := by
  cases pt <;> first | exact h | exact absurd hp (by decide)
theorem with_pins_time_only {pt : Part} {n0 : Node} (m : Node) (v0 : Pins) (v1 : TimeBase) (hp : pt.off [.pins, .time] = true)
    (h : n0.Same pt m) : n0.Same pt { m with pins := v0, time := v1 } := by
  cases pt <;> first | exact h | exact absurd hp (by decide)
theorem with_power_supply_only {pt : Part} {n0 : Node} (m : Node) (v0 : Power) (v1 : Supply) (hp : pt.off [.power, .supply] = true)
    (h : n0.Same pt m) : n0.Same pt { m with power := v0, supply := v1 } := by
  cases pt <;> first | exact h | exact absurd hp (by decide)
theorem with_power_supply_faults_only {pt : Part} {n0 : Node} (m : Node) (v0 : Power) (v1 : Supply) (v2 : List FaultCause)
    (hp : pt.off [.power, .supply, .faults] = true)
    (h : n0.Same pt m) : n0.Same pt { m with power := v0, supply := v1, faults := v2 } := by
  cases pt <;> first | exact h | exact absurd hp (by decide)
theorem with_power_supply_pins_faults_book_cellar_time_host_outs_pair_vnt_vault_maint_out_fresh_only {pt : Part} {n0 : Node} (m : Node) (v0 : Power)
    (v1 : Supply) (v2 : Pins) (v3 : List FaultCause) (v4 : Book) (v5 : Cellar) (v6 : TimeBase) (v7 : HostBridge) (v8 : Outputs) (v9 : Pair)
    (v10 : Vintner) (v11 : Vault) (v12 : Maint) (v13 : List Emission) (v14 : Nat)
    (hp : pt.off [.power, .supply, .pins, .faults, .book, .cellar, .time, .host, .outs, .pair, .vnt, .vault, .maint, .out, .fresh] = true)
    (h : n0.Same pt m) : n0.Same pt
        { m with power := v0, supply := v1, pins := v2, faults := v3, book := v4, cellar := v5, time := v6, host := v7, outs := v8, pair := v9, vnt := v10, vault := v11, maint := v12, out := v13, fresh := v14 }
        := by
  cases pt <;> first | exact h | exact absurd hp (by decide)
theorem with_runs_blend_only {pt : Part} {n0 : Node} (m : Node) (v0 : List (Nat × Nat)) (v1 : Blend) (hp : pt.off [.runs, .blend] = true)
    (h : n0.Same pt m) : n0.Same pt { m with runs := v0, blend := v1 } := by
  cases pt <;> first | exact h | exact absurd hp (by decide)
theorem with_runs_ina_blend_only {pt : Part} {n0 : Node} (m : Node) (v0 : List (Nat × Nat)) (v1 : Inauguration) (v2 : Blend)
    (hp : pt.off [.runs, .ina, .blend] = true)
    (h : n0.Same pt m) : n0.Same pt { m with runs := v0, ina := v1, blend := v2 } := by
  cases pt <;> first | exact h | exact absurd hp (by decide)
theorem with_supply_book_vnt_vault_maint_out_fresh_only {pt : Part} {n0 : Node} (m : Node) (v0 : Supply) (v1 : Book) (v2 : Vintner) (v3 : Vault)
    (v4 : Maint) (v5 : List Emission) (v6 : Nat) (hp : pt.off [.supply, .book, .vnt, .vault, .maint, .out, .fresh] = true)
    (h : n0.Same pt m) : n0.Same pt { m with supply := v0, book := v1, vnt := v2, vault := v3, maint := v4, out := v5, fresh := v6 } := by
  cases pt <;> first | exact h | exact absurd hp (by decide)
theorem with_supply_faults_only {pt : Part} {n0 : Node} (m : Node) (v0 : Supply) (v1 : List FaultCause) (hp : pt.off [.supply, .faults] = true)
    (h : n0.Same pt m) : n0.Same pt { m with supply := v0, faults := v1 } := by
  cases pt <;> first | exact h | exact absurd hp (by decide)
theorem with_supply_vnt_vault_only {pt : Part} {n0 : Node} (m : Node) (v0 : Supply) (v1 : Vintner) (v2 : Vault)
    (hp : pt.off [.supply, .vnt, .vault] = true)
    (h : n0.Same pt m) : n0.Same pt { m with supply := v0, vnt := v1, vault := v2 } := by
  cases pt <;> first | exact h | exact absurd hp (by decide)

theorem Node.when_only {pt : Part} {n0 : Node} (n : Node) (b : Bool) (f : Node → Node) (h : n0.Same pt n)
    (hf : ∀ x : Node, n0.Same pt x → n0.Same pt (f x)) : n0.Same pt (n.when b f) := by
  unfold Node.when; split
  · exact hf n h
  · exact h

theorem Node.each_only {pt : Part} {n0 : Node} {α : Type} (n : Node) (l : List α) (f : α → Node → Node) (h : n0.Same pt n)
    (hf : ∀ a (x : Node), n0.Same pt x → n0.Same pt (f a x)) : n0.Same pt (n.each l f) := by
  exact List.foldlRecOn (motive := n0.Same pt) l (fun m a => f a m) h fun m hm a _ => hf a m hm

theorem State.upd_only {pt : Part} {s : State} {f : Node → Node} {t : State} (hf : s.node.Same pt (f s.node)) (ht : s.upd f = .next t) :
    s.node.Same pt t.node := by
  cases ht; exact hf

theorem Node.putWord_only {pt : Part} {n0 : Node} (hp : pt.off [.regs] = true) (n : Node) (a : Nat) (v : Word) (h : n0.Same pt n) : n0.Same pt
    (n.putWord a v) := by
  cases pt <;> first | exact h | exact absurd hp (by decide)

theorem Node.putShadow_only {pt : Part} {n0 : Node} (hp : pt.off [.shadow] = true) (n : Node) (a : Nat) (v : Word) (h : n0.Same pt n) : n0.Same pt
    (n.putShadow a v) := by
  cases pt <;> first | exact h | exact absurd hp (by decide)

theorem Node.putForce_only {pt : Part} {n0 : Node} (hp : pt.off [.force] = true) (n : Node) (a : Nat) (v : Word) (h : n0.Same pt n) : n0.Same pt
    (n.putForce a v) := by
  cases pt <;> first | exact h | exact absurd hp (by decide)

theorem Node.putWords_only {pt : Part} {n0 : Node} (hp : pt.off [.regs] = true) (n : Node) (ws : List (Nat × Word)) (h : n0.Same pt n) : n0.Same pt
    (n.putWords ws) := by
  cases pt <;> first | exact h | exact absurd hp (by decide)

theorem Node.putShadows_only {pt : Part} {n0 : Node} (hp : pt.off [.shadow] = true) (n : Node) (ws : List (Nat × Word))
    (h : n0.Same pt n) : n0.Same pt (n.putShadows ws) := by
  cases pt <;> first | exact h | exact absurd hp (by decide)

theorem Node.putForces_only {pt : Part} {n0 : Node} (hp : pt.off [.force] = true) (n : Node) (ws : List (Nat × Word))
    (h : n0.Same pt n) : n0.Same pt (n.putForces ws) := by
  cases pt <;> first | exact h | exact absurd hp (by decide)

theorem Node.resetWords_only {pt : Part} {n0 : Node} (hp : pt.off [.regs] = true) (n : Node) (q : Nat → Bool) (h : n0.Same pt n) : n0.Same pt
    (n.resetWords q) := by
  cases pt <;> first | exact h | exact absurd hp (by decide)

theorem Node.resetConfig_only {pt : Part} {n0 : Node} (hp : pt.off [.shadow, .force] = true) (n : Node) (q : Nat → Bool)
    (h : n0.Same pt n) : n0.Same pt (n.resetConfig q) := by
  cases pt <;> first | exact h | exact absurd hp (by decide)

theorem Node.clearShadows_only {pt : Part} {n0 : Node} (hp : pt.off [.shadow] = true) (n : Node)  (h : n0.Same pt n) : n0.Same pt
    (n.clearShadows ) := by
  cases pt <;> first | exact h | exact absurd hp (by decide)

theorem Node.reloadShadows_only {pt : Part} {n0 : Node} (hp : pt.off [.shadow] = true) (n : Node)  (h : n0.Same pt n) : n0.Same pt
    (n.reloadShadows ) := by
  cases pt <;> first | exact h | exact absurd hp (by decide)

theorem Node.forceShadows_only {pt : Part} {n0 : Node} (hp : pt.off [.force] = true) (n : Node)  (h : n0.Same pt n) : n0.Same pt
    (n.forceShadows ) := by
  cases pt <;> first | exact h | exact absurd hp (by decide)

theorem Node.setStore_only {pt : Part} {n0 : Node} (hp : pt.off [.regs, .shadow, .force, .ram] = true) (n : Node) (m : Store)
    (h : n0.Same pt n) : n0.Same pt (n.setStore m) := by
  cases pt <;> first | exact h | exact absurd hp (by decide)

theorem Node.wr_only {pt : Part} {n0 : Node} (hp : pt.off [.regs] = true) (n : Node) (f : Field) (v : Nat) (h0 : n0.Same pt n) :
    n0.Same pt (Node.wr n f v) := by
  unfold Node.wr
  repeat' (first | with_reducible assumption | exact Part.off_sub hp rfl | with_reducible apply Node.putWord_only)

theorem Node.wrBit_only {pt : Part} {n0 : Node} (hp : pt.off [.regs] = true) (n : Node) (f : Field) (b : Bool) (h0 : n0.Same pt n) :
    n0.Same pt (Node.wrBit n f b) := by
  unfold Node.wrBit
  repeat' (first | with_reducible assumption | exact Part.off_sub hp rfl | with_reducible apply Node.wr_only)

theorem Node.countBy_only {pt : Part} {n0 : Node} (hp : pt.off [.regs] = true) (n : Node) (a k : Nat) (h0 : n0.Same pt n) :
    n0.Same pt (Node.countBy n a k) := by
  unfold Node.countBy
  repeat' (first | with_reducible assumption | exact Part.off_sub hp rfl | with_reducible apply Node.putWord_only)

theorem Node.count_only {pt : Part} {n0 : Node} (hp : pt.off [.regs] = true) (n : Node) (a : Nat) (h0 : n0.Same pt n) :
    n0.Same pt (Node.count n a) := by
  unfold Node.count
  repeat' (first | with_reducible assumption | exact Part.off_sub hp rfl | with_reducible apply Node.countBy_only)

theorem Node.incr_only {pt : Part} {n0 : Node} (hp : pt.off [.regs] = true) (n : Node) (f : Field) (h0 : n0.Same pt n) :
    n0.Same pt (Node.incr n f) := by
  unfold Node.incr
  repeat' (first | with_reducible assumption | exact Part.off_sub hp rfl | with_reducible apply Node.wr_only)

theorem Node.putWord64_only {pt : Part} {n0 : Node} (hp : pt.off [.regs] = true) (n : Node) (a : Nat) (v : DWord) (h0 : n0.Same pt n) :
    n0.Same pt (Node.putWord64 n a v) := by
  unfold Node.putWord64
  repeat' (first | with_reducible assumption | exact Part.off_sub hp rfl | with_reducible apply Node.putWord_only)

theorem Node.loadWord_only {pt : Part} {n0 : Node} (hp : pt.off [.regs] = true) (n : Node) (a : Nat) (v : Word) (h0 : n0.Same pt n) :
    n0.Same pt (Node.loadWord n a v) := by
  unfold Node.loadWord
  repeat' (first | with_reducible assumption | exact Part.off_sub hp rfl | with_reducible apply Node.putWord_only)

theorem Node.putBytes_only {pt : Part} {n0 : Node} (hp : pt.off [.ram] = true) (n : Node) (a : Nat) (bs : List Byte) (h : n0.Same pt n) : n0.Same pt
    (n.putBytes a bs) := by
  cases pt <;> first | exact h | exact absurd hp (by decide)

theorem Node.clearBytes_only {pt : Part} {n0 : Node} (hp : pt.off [.ram] = true) (n : Node) (a len : Nat) (h : n0.Same pt n) : n0.Same pt
    (n.clearBytes a len) := by
  cases pt <;> first | exact h | exact absurd hp (by decide)

theorem Node.keepBytes_only {pt : Part} {n0 : Node} (hp : pt.off [.ram] = true) (n : Node) (q : Nat → Bool) (h : n0.Same pt n) : n0.Same pt
    (n.keepBytes q) := by
  cases pt <;> first | exact h | exact absurd hp (by decide)

theorem Node.putRamWord_only {pt : Part} {n0 : Node} (hp : pt.off [.ram] = true) (n : Node) (a : Nat) (v : Word) (h0 : n0.Same pt n) :
    n0.Same pt (Node.putRamWord n a v) := by
  unfold Node.putRamWord
  repeat' (first | with_reducible assumption | exact Part.off_sub hp rfl | with_reducible apply Node.putBytes_only)

theorem Node.onOuts_only {pt : Part} {n0 : Node} (hp : pt.off [.outs] = true) (n : Node) (f : Outputs → Outputs) (h0 : n0.Same pt n) :
    n0.Same pt (Node.onOuts n f) := by
  unfold Node.onOuts
  repeat' (first | with_reducible assumption | exact Part.off_sub hp rfl | intro _ | split | dsimp -proj only
                  | with_reducible apply with_outs_only)

theorem Node.setPort_only {pt : Part} {n0 : Node} (hp : pt.off [.ports] = true) (n : Node) (p : Nat) (f : PortState → PortState) (h0 : n0.Same
    pt n) :
    n0.Same pt (Node.setPort n p f) := by
  unfold Node.setPort
  repeat' (first | with_reducible assumption | exact Part.off_sub hp rfl | intro _ | split | dsimp -proj only
                  | with_reducible apply with_ports_only)

theorem Node.setFlow_only {pt : Part} {n0 : Node} (hp : pt.off [.flows] = true) (n : Node) (c : Nat) (f : FlowState → FlowState) (h0 : n0.Same
    pt n) :
    n0.Same pt (Node.setFlow n c f) := by
  unfold Node.setFlow
  repeat' (first | with_reducible assumption | exact Part.off_sub hp rfl | intro _ | split | dsimp -proj only
                  | with_reducible apply with_flows_only)

theorem Node.setSes_only {pt : Part} {n0 : Node} (hp : pt.off [.sessions] = true) (n : Node) (c : Nat) (f : SessionState → SessionState)
    (h0 : n0.Same pt n) :
    n0.Same pt (Node.setSes n c f) := by
  unfold Node.setSes
  repeat' (first | with_reducible assumption | exact Part.off_sub hp rfl | intro _ | split | dsimp -proj only
                  | with_reducible apply with_sessions_only)

theorem Node.setPress_only {pt : Part} {n0 : Node} (hp : pt.off [.presses] = true) (n : Node) (p : Nat) (f : Press → Press) (h0 : n0.Same pt n) :
    n0.Same pt (Node.setPress n p f) := by
  unfold Node.setPress
  repeat' (first | with_reducible assumption | exact Part.off_sub hp rfl | intro _ | split | dsimp -proj only
                  | with_reducible apply with_presses_only)

theorem Node.setLineUnit_only {pt : Part} {n0 : Node} (hp : pt.off [.lineUnits] = true) (n : Node) (u : Nat) (f : LineUnit → LineUnit)
    (h0 : n0.Same pt n) :
    n0.Same pt (Node.setLineUnit n u f) := by
  unfold Node.setLineUnit
  repeat' (first | with_reducible assumption | exact Part.off_sub hp rfl | intro _ | split | dsimp -proj only
                  | with_reducible apply with_lineUnits_only)

theorem Node.setCan_only {pt : Part} {n0 : Node} (hp : pt.off [.cans] = true) (n : Node) (c : Nat) (f : CanCtrl → CanCtrl) (h0 : n0.Same pt n) :
    n0.Same pt (Node.setCan n c f) := by
  unfold Node.setCan
  repeat' (first | with_reducible assumption | exact Part.off_sub hp rfl | intro _ | split | dsimp -proj only
                  | with_reducible apply with_cans_only)

theorem Node.setChan_only {pt : Part} {n0 : Node} (hp : pt.off [.outs] = true) (n : Node) (c : Nat) (f : Channel → Channel) (h0 : n0.Same pt n) :
    n0.Same pt (Node.setChan n c f) := by
  unfold Node.setChan
  repeat' (first | with_reducible assumption | exact Part.off_sub hp rfl | intro _ | split | dsimp -proj only
                  | with_reducible apply with_outs_only)

theorem Node.setInput_only {pt : Part} {n0 : Node} (hp : pt.off [.outs] = true) (n : Node) (k : Nat) (f : DigIn → DigIn) (h0 : n0.Same pt n) :
    n0.Same pt (Node.setInput n k f) := by
  unfold Node.setInput
  repeat' (first | with_reducible assumption | exact Part.off_sub hp rfl | intro _ | split | dsimp -proj only
                  | with_reducible apply with_outs_only)

theorem Node.setLine_only {pt : Part} {n0 : Node} (hp : pt.off [.ina] = true) (n : Node) (k : Nat) (f : LineState → LineState) (h0 : n0.Same pt n) :
    n0.Same pt (Node.setLine n k f) := by
  unfold Node.setLine
  repeat' (first | with_reducible assumption | exact Part.off_sub hp rfl | intro _ | split | dsimp -proj only
                  | with_reducible apply with_ina_only)

theorem Node.setRing_only {pt : Part} {n0 : Node} (hp : pt.off [.host] = true) (n : Node) (k : Nat) (f : Ring → Ring) (h0 : n0.Same pt n) :
    n0.Same pt (Node.setRing n k f) := by
  unfold Node.setRing
  repeat' (first | with_reducible assumption | exact Part.off_sub hp rfl | intro _ | split | dsimp -proj only
                  | with_reducible apply with_host_only)

theorem Node.setPhase_only {pt : Part} {n0 : Node} (hp : pt.off [.commits] = true) (n : Node) (g : Nat) (p : CommitPhase) (h0 : n0.Same pt n) :
    n0.Same pt (Node.setPhase n g p) := by
  unfold Node.setPhase
  repeat' (first | with_reducible assumption | exact Part.off_sub hp rfl | intro _ | split | dsimp -proj only
                  | with_reducible apply with_commits_only)

theorem Node.took_only {pt : Part} {n0 : Node} (hp : pt.off [.fresh] = true) (n : Node) (h0 : n0.Same pt n) :
    n0.Same pt (Node.took n) := by
  unfold Node.took
  repeat' (first | with_reducible assumption | exact Part.off_sub hp rfl | intro _ | split | dsimp -proj only
                  | with_reducible apply with_fresh_only)

theorem Node.emit_only {pt : Part} {n0 : Node} (hp : pt.off [.out] = true) (n : Node) (e : Emission) (h0 : n0.Same pt n) :
    n0.Same pt (Node.emit n e) := by
  unfold Node.emit
  repeat' (first | with_reducible assumption | exact Part.off_sub hp rfl | intro _ | split | dsimp -proj only
                  | with_reducible apply with_out_only)

theorem Node.addFault_only {pt : Part} {n0 : Node} (hp : pt.off [.faults] = true) (n : Node) (c : FaultCause) (h0 : n0.Same pt n) :
    n0.Same pt (Node.addFault n c) := by
  unfold Node.addFault
  repeat' (first | with_reducible assumption | exact Part.off_sub hp rfl | intro _ | split | dsimp -proj only
                  | with_reducible apply with_faults_only)

theorem Node.dropFault_only {pt : Part} {n0 : Node} (hp : pt.off [.faults] = true) (n : Node) (c : FaultCause) (h0 : n0.Same pt n) :
    n0.Same pt (Node.dropFault n c) := by
  unfold Node.dropFault
  repeat' (first | with_reducible assumption | exact Part.off_sub hp rfl | intro _ | split | dsimp -proj only
                  | with_reducible apply with_faults_only)

theorem Node.setView_only {pt : Part} {n0 : Node} (hp : pt.off [.time] = true) (n : Node) (v : Nat) (w : View) (h0 : n0.Same pt n) :
    n0.Same pt (Node.setView n v w) := by
  unfold Node.setView
  repeat' (first | with_reducible assumption | exact Part.off_sub hp rfl | intro _ | split | dsimp -proj only
                  | with_reducible apply with_time_only)

theorem Node.fire_only {pt : Part} {n0 : Node} (hp : pt.off [.host] = true) (n : Node) (vector code arg : Nat) (h0 : n0.Same pt n) :
    n0.Same pt (Node.fire n vector code arg) := by
  unfold Node.fire
  repeat' (first | with_reducible assumption | exact Part.off_sub hp rfl | intro _ | split | dsimp -proj only
                  | with_reducible apply with_host_only)

theorem Node.enqueue_only {pt : Part} {n0 : Node} (hp : pt.off [.book, .regs] = true) (n : Node) (r : Record) (h0 : n0.Same pt n) :
    n0.Same pt (Node.enqueue n r) := by
  unfold Node.enqueue
  repeat' (first | with_reducible assumption | exact Part.off_sub hp rfl | with_reducible apply Node.count_only | intro _ | split
                  | dsimp -proj only | with_reducible apply with_book_only)

theorem Node.logEvent_only {pt : Part} {n0 : Node} (hp : pt.off [.book, .regs] = true) (n : Node) (code : Nat) (spec : Bool) (payload : List Nat)
    (h0 : n0.Same pt n) :
    n0.Same pt (Node.logEvent n code spec payload) := by
  unfold Node.logEvent
  repeat' (first | with_reducible assumption | exact Part.off_sub hp rfl | with_reducible apply Node.count_only
                  | with_reducible apply Node.enqueue_only | intro _ | split | dsimp -proj only | with_reducible apply with_book_only)

theorem Node.raiseAs_only {pt : Part} {n0 : Node} (hp : pt.off [.book, .host, .regs] = true) (n : Node) (spec : Bool) (code : Nat)
    (payload : List Nat) (h0 : n0.Same pt n) :
    n0.Same pt (Node.raiseAs n spec code payload) := by
  unfold Node.raiseAs
  repeat' (first | with_reducible assumption | exact Part.off_sub hp rfl | with_reducible apply Node.fire_only
                  | with_reducible apply Node.logEvent_only | intro _ | split)

theorem Node.raise_only {pt : Part} {n0 : Node} (hp : pt.off [.book, .host, .regs] = true) (n : Node) (code : Nat) (payload : List Nat)
    (h0 : n0.Same pt n) :
    n0.Same pt (Node.raise n code payload) := by
  unfold Node.raise
  repeat' (first | with_reducible assumption | exact Part.off_sub hp rfl | with_reducible apply Node.raiseAs_only)

theorem Node.raiseFirst_only {pt : Part} {n0 : Node} (hp : pt.off [.runs, .book, .host, .regs] = true) (n : Node) (code idx : Nat)
    (payload : List Nat) (h0 : n0.Same pt n) :
    n0.Same pt (Node.raiseFirst n code idx payload) := by
  unfold Node.raiseFirst
  repeat' (first | with_reducible assumption | exact Part.off_sub hp rfl | with_reducible apply Node.raise_only | intro _ | split
                  | dsimp -proj only | with_reducible apply with_runs_only)

theorem Node.endRun_only {pt : Part} {n0 : Node} (hp : pt.off [.runs] = true) (n : Node) (code idx : Nat) (h0 : n0.Same pt n) :
    n0.Same pt (Node.endRun n code idx) := by
  unfold Node.endRun
  repeat' (first | with_reducible assumption | exact Part.off_sub hp rfl | intro _ | split | dsimp -proj only
                  | with_reducible apply with_runs_only)

theorem Node.setSpec_only {pt : Part} {n0 : Node} (hp : pt.off [.regs] = true) (n : Node) (source blocks : Nat) (h0 : n0.Same pt n) :
    n0.Same pt (Node.setSpec n source blocks) := by
  unfold Node.setSpec
  repeat' (first | with_reducible assumption | exact Part.off_sub hp rfl | with_reducible apply Node.wr_only
                  | with_reducible apply Node.wrBit_only)

theorem Node.xabort_only {pt : Part} {n0 : Node} (hp : pt.off [.host, .regs] = true) (n : Node) (h0 : n0.Same pt n) :
    n0.Same pt (Node.xabort n) := by
  unfold Node.xabort
  repeat' (first | with_reducible assumption | exact Part.off_sub hp rfl | with_reducible apply Node.when_only
                  | with_reducible apply Node.count_only | with_reducible apply Node.fire_only | intro _)

theorem Node.setHeld_only {pt : Part} {n0 : Node} (hp : pt.off [.blend] = true) (n : Node) (by_ : Initiator) (v : Option (Nat × Word))
    (h0 : n0.Same pt n) :
    n0.Same pt (Node.setHeld n by_ v) := by
  unfold Node.setHeld
  repeat' (first | with_reducible assumption | exact Part.off_sub hp rfl | intro _ | split | dsimp -proj only
                  | with_reducible apply with_blend_only)

theorem Node.dropHeld_only {pt : Part} {n0 : Node} (hp : pt.off [.blend, .regs] = true) (n : Node) (by_ : Initiator) (h0 : n0.Same pt n) :
    n0.Same pt (Node.dropHeld n by_) := by
  unfold Node.dropHeld
  repeat' (first | with_reducible assumption | exact Part.off_sub hp rfl | with_reducible apply Node.when_only
                  | with_reducible apply Node.count_only | with_reducible apply Node.setHeld_only | intro _)

theorem Node.cross_only {pt : Part} {n0 : Node} (hp : pt.off [.host, .regs] = true) (n : Node) (island : Nat) (f : Node → Node) (h0 : n0.Same pt n)
    (h1 : ∀ (x0 : Node), n0.Same pt x0 → n0.Same pt (f x0)) :
    n0.Same pt (Node.cross n island f) := by
  unfold Node.cross
  repeat' (first | with_reducible assumption | exact Part.off_sub hp rfl | with_reducible apply h1
                  | with_reducible apply Node.xabort_only | intro _ | split)

theorem Node.enter_only {pt : Part} {n0 : Node} (hp : pt.off [.host, .regs] = true) (n : Node) (block : Nat) (f : Node → Node) (h0 : n0.Same pt n)
    (h1 : ∀ (x0 : Node), n0.Same pt x0 → n0.Same pt (f x0)) :
    n0.Same pt (Node.enter n block f) := by
  unfold Node.enter
  repeat' (first | with_reducible assumption | exact Part.off_sub hp rfl | with_reducible apply h1
                  | with_reducible apply Node.xabort_only | intro _ | split)

theorem Node.access_only {pt : Part} {n0 : Node} (hp : pt.off [.blend, .host, .regs] = true) (n : Node) (by_ : Initiator) (block : Nat)
    (f : Node → Node) (h0 : n0.Same pt n) (h1 : ∀ (x0 : Node), n0.Same pt x0 → n0.Same pt (f x0)) :
    n0.Same pt (Node.access n by_ block f) := by
  unfold Node.access
  repeat' (first | with_reducible assumption | exact Part.off_sub hp rfl | with_reducible apply h1
                  | with_reducible apply Node.dropHeld_only | with_reducible apply Node.enter_only | intro _ | split)

theorem Node.setIslands_only {pt : Part} {n0 : Node} (hp : pt.off [.trellis, .regs] = true) (n : Node) (mask : Nat) (h0 : n0.Same pt n) :
    n0.Same pt (Node.setIslands n mask) := by
  unfold Node.setIslands
  repeat' (first | with_reducible assumption | exact Part.off_sub hp rfl | with_reducible apply Node.when_only
                  | with_reducible apply Node.wr_only | intro _ | split | dsimp -proj only | with_reducible apply with_trellis_only)

theorem Node.copying_only {pt : Part} {n0 : Node} (hp : pt.off [.trellis, .regs] = true) (n : Node) (g : Nat) (h0 : n0.Same pt n) :
    n0.Same pt (Node.copying n g) := by
  unfold Node.copying
  repeat' (first | with_reducible assumption | exact Part.off_sub hp rfl | with_reducible apply Node.wrBit_only | intro _ | split
                  | dsimp -proj only | with_reducible apply with_trellis_only)

theorem Node.applyGroup_only {pt : Part} {n0 : Node} (hp : pt.off [.trellis, .regs, .force] = true) (n : Node) (g : Nat) (h0 : n0.Same pt n) :
    n0.Same pt (Node.applyGroup n g) := by
  unfold Node.applyGroup
  repeat' (first | with_reducible assumption | exact Part.off_sub hp rfl | with_reducible apply Node.putForces_only
                  | with_reducible apply Node.copying_only)

theorem Node.reloadGroup_only {pt : Part} {n0 : Node} (hp : pt.off [.trellis, .regs, .shadow] = true) (n : Node) (g : Nat) (h0 : n0.Same pt n) :
    n0.Same pt (Node.reloadGroup n g) := by
  unfold Node.reloadGroup
  repeat' (first | with_reducible assumption | exact Part.off_sub hp rfl | with_reducible apply Node.putShadows_only
                  | with_reducible apply Node.copying_only)

theorem Node.setCode_only {pt : Part} {n0 : Node} (hp : pt.off [.regs] = true) (n : Node) (g code : Nat) (h0 : n0.Same pt n) :
    n0.Same pt (Node.setCode n g code) := by
  unfold Node.setCode
  repeat' (first | with_reducible assumption | exact Part.off_sub hp rfl | with_reducible apply Node.wr_only)

theorem Node.setInfo_only {pt : Part} {n0 : Node} (hp : pt.off [.regs] = true) (n : Node) (g : Nat) (info : Word) (h0 : n0.Same pt n) :
    n0.Same pt (Node.setInfo n g info) := by
  unfold Node.setInfo
  repeat' (first | with_reducible assumption | exact Part.off_sub hp rfl | with_reducible apply Node.putWord_only)

theorem Node.bumpSeq_only {pt : Part} {n0 : Node} (hp : pt.off [.regs] = true) (n : Node) (g : Nat) (h0 : n0.Same pt n) :
    n0.Same pt (Node.bumpSeq n g) := by
  unfold Node.bumpSeq
  repeat' (first | with_reducible assumption | exact Part.off_sub hp rfl | with_reducible apply Node.incr_only)

theorem Node.groupTaken_only {pt : Part} {n0 : Node} (hp : pt.off [.regs] = true) (n : Node) (g : Nat) (h0 : n0.Same pt n) :
    n0.Same pt (Node.groupTaken n g) := by
  unfold Node.groupTaken
  repeat' (first | with_reducible assumption | exact Part.off_sub hp rfl | with_reducible apply Node.setCode_only
                  | with_reducible apply Node.setInfo_only | with_reducible apply Node.bumpSeq_only)

theorem Node.refused_only {pt : Part} {n0 : Node} (hp : pt.off [.book, .host, .regs] = true) (n : Node) (g code : Nat) (h0 : n0.Same pt n) :
    n0.Same pt (Node.refused n g code) := by
  unfold Node.refused
  repeat' (first | with_reducible assumption | exact Part.off_sub hp rfl | with_reducible apply Node.count_only
                  | with_reducible apply Node.raise_only)

theorem Node.refuseGroup_only {pt : Part} {n0 : Node} (hp : pt.off [.commits, .book, .host, .regs] = true) (n : Node) (g code : Nat)
    (h0 : n0.Same pt n) :
    n0.Same pt (Node.refuseGroup n g code) := by
  unfold Node.refuseGroup
  repeat' (first | with_reducible assumption | exact Part.off_sub hp rfl | with_reducible apply Node.setPhase_only
                  | with_reducible apply Node.setCode_only | with_reducible apply Node.refused_only)

theorem Node.rewritePointer_only {pt : Part} {n0 : Node} (hp : pt.off [.book, .regs] = true) (n : Node) (fp head wraps : Nat) (h0 : n0.Same pt n) :
    n0.Same pt (Node.rewritePointer n fp head wraps) := by
  unfold Node.rewritePointer
  repeat' (first | with_reducible assumption | exact Part.off_sub hp rfl | with_reducible apply Node.wr_only | intro _ | split
                  | dsimp -proj only | with_reducible apply with_book_only)

theorem Node.writeRecord_only {pt : Part} {n0 : Node} (hp : pt.off [.book, .host, .regs] = true) (n : Node) (r : Record) (h0 : n0.Same pt n) :
    n0.Same pt (Node.writeRecord n r) := by
  unfold Node.writeRecord
  repeat' (first | with_reducible assumption | exact Part.off_sub hp rfl | with_reducible apply Node.when_only
                  | with_reducible apply Node.raise_only | with_reducible apply Node.rewritePointer_only | intro _ | split | dsimp -proj only
                  | with_reducible apply with_book_only)

theorem Node.writeNext_only {pt : Part} {n0 : Node} (hp : pt.off [.book, .host, .regs] = true) (n : Node) (h0 : n0.Same pt n) :
    n0.Same pt (Node.writeNext n) := by
  unfold Node.writeNext
  repeat' (first | with_reducible assumption | exact Part.off_sub hp rfl | with_reducible apply Node.fire_only
                  | with_reducible apply Node.writeRecord_only | intro _ | split | dsimp -proj only | with_reducible apply with_book_only)

theorem Node.writeMany_only {pt : Part} {n0 : Node} (hp : pt.off [.book, .host, .regs] = true) (n : Node) (k : Nat) (h : n0.Same pt n) : n0.Same pt
    (n.writeMany k) := by
  induction k generalizing n with
  | zero => exact h
  | succ k ih => exact ih _ (Node.writeNext_only (Part.off_sub hp rfl) n h)

theorem Node.flushBook_only {pt : Part} {n0 : Node} (hp : pt.off [.book, .host, .regs] = true) (n : Node) (h0 : n0.Same pt n) :
    n0.Same pt (Node.flushBook n) := by
  unfold Node.flushBook
  repeat' (first | with_reducible assumption | exact Part.off_sub hp rfl | with_reducible apply Node.writeMany_only | intro _
                  | split | dsimp -proj only | with_reducible apply with_book_only)

theorem Node.foundRecord_only {pt : Part} {n0 : Node} (hp : pt.off [.book, .host, .regs] = true) (n : Node) (p : PointerBlock)
    (found : Option Record) (h0 : n0.Same pt n) :
    n0.Same pt (Node.foundRecord n p found) := by
  unfold Node.foundRecord
  repeat' (first | with_reducible assumption | exact Part.off_sub hp rfl | with_reducible apply Node.when_only
                  | with_reducible apply Node.raise_only | intro _ | split | dsimp -proj only | with_reducible apply with_book_only)

theorem execBookRecovery_only {pt : Part} (hp : pt.off [.book, .host, .regs] = true) (goodA goodB torn lostUpdate : Bool) (s : State) (s' : State)
    (ht : execBookRecovery goodA goodB torn lostUpdate s = .next s') :
    s.node.Same pt s'.node := by
  have h0 := Node.Same.refl pt s.node
  unfold execBookRecovery at ht
  refine State.upd_only ?_ ht
  repeat' (first | with_reducible assumption | exact Part.off_sub hp rfl | with_reducible apply Node.when_only
                  | with_reducible apply Node.wrBit_only | with_reducible apply Node.countBy_only | with_reducible apply Node.count_only
                  | with_reducible apply Node.raise_only | with_reducible apply Node.rewritePointer_only
                  | with_reducible apply Node.flushBook_only | with_reducible apply Node.foundRecord_only | intro _ | split | dsimp -proj only
                  | with_reducible apply with_book_only)

theorem execRecordWrite_only {pt : Part} (hp : pt.off [.book, .host, .regs] = true) (s : State) (s' : State) (ht : execRecordWrite s = .next s') :
    s.node.Same pt s'.node := by
  have h0 := Node.Same.refl pt s.node
  unfold execRecordWrite at ht
  refine State.upd_only ?_ ht
  repeat' (first | with_reducible assumption | exact Part.off_sub hp rfl | with_reducible apply Node.when_only
                  | with_reducible apply Node.writeNext_only)

theorem execPointerBlockTick_only {pt : Part} (hp : pt.off [.book, .regs] = true) (s : State) (s' : State) (ht : execPointerBlockTick s = .next
    s') :
    s.node.Same pt s'.node := by
  have h0 := Node.Same.refl pt s.node
  unfold execPointerBlockTick at ht
  refine State.upd_only ?_ ht
  repeat' (first | with_reducible assumption | exact Part.off_sub hp rfl | with_reducible apply Node.when_only
                  | with_reducible apply Node.rewritePointer_only | intro _)

theorem execTokenRefill_only {pt : Part} (hp : pt.off [.book] = true) (code : Half) (s : State) (s' : State)
    (ht : execTokenRefill code s = .next s') :
    s.node.Same pt s'.node := by
  have h0 := Node.Same.refl pt s.node
  unfold execTokenRefill at ht
  refine State.upd_only ?_ ht
  repeat' (first | with_reducible assumption | exact Part.off_sub hp rfl | with_reducible apply Node.when_only | intro _ | split
                  | dsimp -proj only | with_reducible apply with_book_only)

theorem Node.reportBad_only {pt : Part} {n0 : Node} (hp : pt.off [.book, .host, .regs] = true) (n : Node) (lastArea : Bool) (is : List Nat)
    (h0 : n0.Same pt n) :
    n0.Same pt (Node.reportBad n lastArea is) := by
  unfold Node.reportBad
  repeat' (first | with_reducible assumption | exact Part.off_sub hp rfl | with_reducible apply Node.each_only
                  | with_reducible apply Node.count_only | with_reducible apply Node.raise_only | intro _)

theorem Node.startReadout_only {pt : Part} {n0 : Node} (hp : pt.off [.book, .host, .regs] = true) (n : Node) (bad : List (Fin 256))
    (h0 : n0.Same pt n) :
    n0.Same pt (Node.startReadout n bad) := by
  unfold Node.startReadout
  repeat' (first | with_reducible assumption | exact Part.off_sub hp rfl | with_reducible apply Node.when_only
                  | with_reducible apply Node.putWords_only | with_reducible apply Node.wrBit_only | with_reducible apply Node.count_only
                  | with_reducible apply Node.reportBad_only | intro _ | split | dsimp -proj only | with_reducible apply with_book_only)

theorem Node.setFreeze_only {pt : Part} {n0 : Node} (hp : pt.off [.book] = true) (n : Node) (on : Bool) (h0 : n0.Same pt n) :
    n0.Same pt (Node.setFreeze n on) := by
  unfold Node.setFreeze
  repeat' (first | with_reducible assumption | exact Part.off_sub hp rfl | intro _ | split | dsimp -proj only
                  | with_reducible apply with_book_only)

theorem Node.cbkCommand_only {pt : Part} {n0 : Node} (hp : pt.off [.book, .host, .regs] = true) (n : Node) (freeze unfreeze read : Bool) (bad : List
    (Fin 256)) (h0 : n0.Same pt n) :
    n0.Same pt (Node.cbkCommand n freeze unfreeze read bad) := by
  unfold Node.cbkCommand
  repeat' (first | with_reducible assumption | exact Part.off_sub hp rfl | with_reducible apply Node.when_only
                  | with_reducible apply Node.startReadout_only | with_reducible apply Node.setFreeze_only | intro _)

theorem execCbkCmdFreeze_only {pt : Part} (hp : pt.off [.book, .blend, .host, .regs] = true) (by_ : Initiator) (key : Half)
    (alsoUnfreeze alsoRead : Bool) (s : State) (s' : State) (ht : execCbkCmdFreeze by_ key alsoUnfreeze alsoRead s = .next s') :
    s.node.Same pt s'.node := by
  have h0 := Node.Same.refl pt s.node
  unfold execCbkCmdFreeze at ht
  refine State.upd_only ?_ ht
  repeat' (first | with_reducible assumption | exact Part.off_sub hp rfl | with_reducible apply Node.when_only
                  | with_reducible apply Node.access_only | with_reducible apply Node.cbkCommand_only | intro _)

theorem execCbkCmdUnfreeze_only {pt : Part} (hp : pt.off [.book, .blend, .host, .regs] = true) (by_ : Initiator) (key : Half) (alsoRead : Bool)
    (s : State) (s' : State) (ht : execCbkCmdUnfreeze by_ key alsoRead s = .next s') :
    s.node.Same pt s'.node := by
  have h0 := Node.Same.refl pt s.node
  unfold execCbkCmdUnfreeze at ht
  refine State.upd_only ?_ ht
  repeat' (first | with_reducible assumption | exact Part.off_sub hp rfl | with_reducible apply Node.when_only
                  | with_reducible apply Node.access_only | with_reducible apply Node.cbkCommand_only | intro _)

theorem execCbkCmdRead_only {pt : Part} (hp : pt.off [.book, .blend, .host, .regs] = true) (by_ : Initiator) (key : Half) (unreadable : List
    (Fin 256)) (s : State) (s' : State) (ht : execCbkCmdRead by_ key unreadable s = .next s') :
    s.node.Same pt s'.node := by
  have h0 := Node.Same.refl pt s.node
  unfold execCbkCmdRead at ht
  refine State.upd_only ?_ ht
  repeat' (first | with_reducible assumption | exact Part.off_sub hp rfl | with_reducible apply Node.when_only
                  | with_reducible apply Node.access_only | with_reducible apply Node.cbkCommand_only | intro _)

theorem execReadoutComplete_only {pt : Part} (hp : pt.off [.book, .host, .regs] = true) (s : State) (s' : State)
    (ht : execReadoutComplete s = .next s') :
    s.node.Same pt s'.node := by
  have h0 := Node.Same.refl pt s.node
  unfold execReadoutComplete at ht
  refine State.upd_only ?_ ht
  repeat' (first | with_reducible assumption | exact Part.off_sub hp rfl | with_reducible apply Node.when_only
                  | with_reducible apply Node.wrBit_only | with_reducible apply Node.fire_only | intro _ | split | dsimp -proj only
                  | with_reducible apply with_book_only)

theorem execFreezeLimitExpiry_only {pt : Part} (hp : pt.off [.book, .host, .regs] = true) (s : State) (s' : State)
    (ht : execFreezeLimitExpiry s = .next s') :
    s.node.Same pt s'.node := by
  have h0 := Node.Same.refl pt s.node
  unfold execFreezeLimitExpiry at ht
  refine State.upd_only ?_ ht
  repeat' (first | with_reducible assumption | exact Part.off_sub hp rfl | with_reducible apply Node.when_only
                  | with_reducible apply Node.raise_only | intro _ | split | dsimp -proj only | with_reducible apply with_book_only)

theorem Node.setSession_only {pt : Part} {n0 : Node} (hp : pt.off [.sessions, .vnt] = true) (n : Node) (s : Session) (h0 : n0.Same pt n) :
    n0.Same pt (Node.setSession n s) := by
  unfold Node.setSession
  repeat' (first | with_reducible assumption | exact Part.off_sub hp rfl | intro _ | split | dsimp -proj only
                  | with_reducible apply with_sessions_only | with_reducible apply with_vnt_only)

theorem Node.endSession_only {pt : Part} {n0 : Node} (hp : pt.off [.sessions, .vnt] = true) (n : Node) (p : Path) (h0 : n0.Same pt n) :
    n0.Same pt (Node.endSession n p) := by
  unfold Node.endSession
  repeat' (first | with_reducible assumption | exact Part.off_sub hp rfl | intro _ | split | dsimp -proj only
                  | with_reducible apply with_sessions_only | with_reducible apply with_vnt_only)

theorem Node.publicSession_only {pt : Part} {n0 : Node} (hp : pt.off [.sessions, .vnt] = true) (n : Node) (p : Path) (h0 : n0.Same pt n) :
    n0.Same pt (Node.publicSession n p) := by
  unfold Node.publicSession
  repeat' (first | with_reducible assumption | exact Part.off_sub hp rfl | with_reducible apply Node.setSession_only
                  | with_reducible apply Node.endSession_only | intro _ | split)

theorem Node.dropWaits_only {pt : Part} {n0 : Node} (hp : pt.off [.vnt] = true) (n : Node) (p : Path) (h0 : n0.Same pt n) :
    n0.Same pt (Node.dropWaits n p) := by
  unfold Node.dropWaits
  repeat' (first | with_reducible assumption | exact Part.off_sub hp rfl | intro _ | split | dsimp -proj only
                  | with_reducible apply with_vnt_only)

theorem Node.dropTransfer_only {pt : Part} {n0 : Node} (hp : pt.off [.book, .vnt] = true) (n : Node) (p : Path) (h0 : n0.Same pt n) :
    n0.Same pt (Node.dropTransfer n p) := by
  unfold Node.dropTransfer
  repeat' (first | with_reducible assumption | exact Part.off_sub hp rfl | intro _ | split | dsimp -proj only
                  | with_reducible apply with_book_only | with_reducible apply with_vnt_only)

theorem Node.putTransfer_only {pt : Part} {n0 : Node} (hp : pt.off [.book, .vnt] = true) (n : Node) (t : Transfer) (h0 : n0.Same pt n) :
    n0.Same pt (Node.putTransfer n t) := by
  unfold Node.putTransfer
  repeat' (first | with_reducible assumption | exact Part.off_sub hp rfl | intro _ | split | dsimp -proj only
                  | with_reducible apply with_book_only | with_reducible apply with_vnt_only)

theorem Node.freezeReadout_only {pt : Part} {n0 : Node} (hp : pt.off [.book] = true) (n : Node) (h0 : n0.Same pt n) :
    n0.Same pt (Node.freezeReadout n) := by
  unfold Node.freezeReadout
  repeat' (first | with_reducible assumption | exact Part.off_sub hp rfl | intro _ | split | dsimp -proj only
                  | with_reducible apply with_book_only)

theorem Node.putMeas_only {pt : Part} {n0 : Node} (hp : pt.off [.regs] = true) (n : Node) (m : Nat) (d : BitVec 256) (h0 : n0.Same pt n) :
    n0.Same pt (Node.putMeas n m d) := by
  unfold Node.putMeas
  repeat' (first | with_reducible assumption | exact Part.off_sub hp rfl | with_reducible apply Node.putWords_only)

theorem Node.extendMeas_only {pt : Part} {n0 : Node} (hp : pt.off [.regs] = true) (n : Node) (m : Nat) (d : BitVec 256) (h0 : n0.Same pt n) :
    n0.Same pt (Node.extendMeas n m d) := by
  unfold Node.extendMeas
  repeat' (first | with_reducible assumption | exact Part.off_sub hp rfl | with_reducible apply Node.putMeas_only)

theorem Node.measureOwners_only {pt : Part} {n0 : Node} (hp : pt.off [.regs] = true) (n : Node) (h0 : n0.Same pt n) :
    n0.Same pt (Node.measureOwners n) := by
  unfold Node.measureOwners
  repeat' (first | with_reducible assumption | exact Part.off_sub hp rfl | with_reducible apply Node.each_only
                  | with_reducible apply Node.extendMeas_only | intro _)

theorem Node.startMeasures_only {pt : Part} {n0 : Node} (hp : pt.off [.regs] = true) (n : Node) (h0 : n0.Same pt n) :
    n0.Same pt (Node.startMeasures n) := by
  unfold Node.startMeasures
  repeat' (first | with_reducible assumption | exact Part.off_sub hp rfl | with_reducible apply Node.resetWords_only
                  | with_reducible apply Node.extendMeas_only | with_reducible apply Node.measureOwners_only)

theorem Node.raiseCounter_only {pt : Part} {n0 : Node} (hp : pt.off [.book, .host, .regs] = true) (n : Node) (k v : Nat) (h0 : n0.Same pt n) :
    n0.Same pt (Node.raiseCounter n k v) := by
  unfold Node.raiseCounter
  repeat' (first | with_reducible assumption | exact Part.off_sub hp rfl | with_reducible apply Node.when_only
                  | with_reducible apply Node.putWord_only | with_reducible apply Node.raise_only | intro _)

theorem Node.setSlot_only {pt : Part} {n0 : Node} (hp : pt.off [.regs] = true) (n : Node) (k v : Nat) (h0 : n0.Same pt n) :
    n0.Same pt (Node.setSlot n k v) := by
  unfold Node.setSlot
  repeat' (first | with_reducible assumption | exact Part.off_sub hp rfl | with_reducible apply Node.wr_only)

theorem Node.setSlotHeader_only {pt : Part} {n0 : Node} (hp : pt.off [.vault] = true) (n : Node) (k : Nat) (h : VintageHeader) (h0 : n0.Same pt n) :
    n0.Same pt (Node.setSlotHeader n k h) := by
  unfold Node.setSlotHeader
  repeat' (first | with_reducible assumption | exact Part.off_sub hp rfl | intro _ | split | dsimp -proj only
                  | with_reducible apply with_vault_only)

theorem Node.lastErr_only {pt : Part} {n0 : Node} (hp : pt.off [.regs] = true) (n : Node) (r : Nat) (h0 : n0.Same pt n) :
    n0.Same pt (Node.lastErr n r) := by
  unfold Node.lastErr
  repeat' (first | with_reducible assumption | exact Part.off_sub hp rfl | with_reducible apply Node.wr_only)

theorem Node.slotRefused_only {pt : Part} {n0 : Node} (hp : pt.off [.book, .host, .regs] = true) (n : Node) (slot reason : Nat) (h0 : n0.Same pt
    n) :
    n0.Same pt (Node.slotRefused n slot reason) := by
  unfold Node.slotRefused
  repeat' (first | with_reducible assumption | exact Part.off_sub hp rfl | with_reducible apply Node.count_only
                  | with_reducible apply Node.raise_only | intro _ | split)

theorem Node.closeSession_only {pt : Part} {n0 : Node} (hp : pt.off [.vault, .regs] = true) (n : Node) (slot v : Nat) (h0 : n0.Same pt n) :
    n0.Same pt (Node.closeSession n slot v) := by
  unfold Node.closeSession
  repeat' (first | with_reducible assumption | exact Part.off_sub hp rfl | with_reducible apply Node.wr_only
                  | with_reducible apply Node.wrBit_only | with_reducible apply Node.setSlot_only | intro _ | split | dsimp -proj only
                  | with_reducible apply with_vault_only)

theorem Node.dropSession_only {pt : Part} {n0 : Node} (hp : pt.off [.book, .host, .vault, .regs] = true) (n : Node) (h0 : n0.Same pt n) :
    n0.Same pt (Node.dropSession n) := by
  unfold Node.dropSession
  repeat' (first | with_reducible assumption | exact Part.off_sub hp rfl | with_reducible apply Node.count_only
                  | with_reducible apply Node.raise_only | with_reducible apply Node.closeSession_only | intro _ | split)

theorem Node.updOpen_only {pt : Part} {n0 : Node} (hp : pt.off [.book, .host, .vault, .regs] = true) (n : Node) (p : Path) (slot : Nat)
    (h0 : n0.Same pt n) :
    n0.Same pt (Node.updOpen n p slot) := by
  unfold Node.updOpen
  repeat' (first | with_reducible assumption | exact Part.off_sub hp rfl | with_reducible apply Node.wr_only
                  | with_reducible apply Node.raise_only | with_reducible apply Node.setSlot_only | with_reducible apply Node.lastErr_only
                  | intro _ | split | dsimp -proj only | with_reducible apply with_vault_only)

theorem Node.updWrite_only {pt : Part} {n0 : Node} (hp : pt.off [.regs, .ram] = true) (n : Node) (p : Path) (ofs : Nat) (bytes : List Byte)
    (h0 : n0.Same pt n) :
    n0.Same pt (Node.updWrite n p ofs bytes) := by
  unfold Node.updWrite
  repeat' (first | with_reducible assumption | exact Part.off_sub hp rfl | with_reducible apply Node.when_only
                  | with_reducible apply Node.wr_only | with_reducible apply Node.putBytes_only | intro _ | split)

theorem Node.chunkGo_only {pt : Part} {n0 : Node} (hp : pt.off [.regs, .ram] = true) (n : Node) (len : Nat) (h0 : n0.Same pt n) :
    n0.Same pt (Node.chunkGo n len) := by
  unfold Node.chunkGo
  repeat' (first | with_reducible assumption | exact Part.off_sub hp rfl | with_reducible apply Node.updWrite_only)

theorem Node.updFinish_only {pt : Part} {n0 : Node} (hp : pt.off [.vault, .regs] = true) (n : Node) (p : Path) (h0 : n0.Same pt n) :
    n0.Same pt (Node.updFinish n p) := by
  unfold Node.updFinish
  repeat' (first | with_reducible assumption | exact Part.off_sub hp rfl | with_reducible apply Node.when_only
                  | with_reducible apply Node.wrBit_only | intro _ | split | dsimp -proj only | with_reducible apply with_vault_only)

theorem Node.updAbort_only {pt : Part} {n0 : Node} (hp : pt.off [.book, .host, .vault, .regs] = true) (n : Node) (p : Path) (h0 : n0.Same pt n) :
    n0.Same pt (Node.updAbort n p) := by
  unfold Node.updAbort
  repeat' (first | with_reducible assumption | exact Part.off_sub hp rfl | with_reducible apply Node.when_only
                  | with_reducible apply Node.dropSession_only)

theorem execUpdSessionTimeout_only {pt : Part} (hp : pt.off [.book, .host, .vault, .regs] = true) (s : State) (s' : State)
    (ht : execUpdSessionTimeout s = .next s') :
    s.node.Same pt s'.node := by
  have h0 := Node.Same.refl pt s.node
  unfold execUpdSessionTimeout at ht
  refine State.upd_only ?_ ht
  repeat' (first | with_reducible assumption | exact Part.off_sub hp rfl | with_reducible apply Node.when_only
                  | with_reducible apply Node.dropSession_only)

theorem execSlotVerifyDone_only {pt : Part} (hp : pt.off [.book, .host, .vault, .regs] = true) (why : Option VintageFault) (s : State) (s' : State)
    (ht : execSlotVerifyDone why s = .next s') :
    s.node.Same pt s'.node := by
  have h0 := Node.Same.refl pt s.node
  unfold execSlotVerifyDone at ht
  refine State.upd_only ?_ ht
  repeat' (first | with_reducible assumption | exact Part.off_sub hp rfl | with_reducible apply Node.raise_only
                  | with_reducible apply Node.setSlotHeader_only | with_reducible apply Node.lastErr_only
                  | with_reducible apply Node.slotRefused_only | with_reducible apply Node.closeSession_only | intro _ | split | dsimp -proj only)

theorem Node.ownerRefused_only {pt : Part} {n0 : Node} (hp : pt.off [.book, .host, .regs] = true) (n : Node) (slot r : Nat) (h0 : n0.Same pt n) :
    n0.Same pt (Node.ownerRefused n slot r) := by
  unfold Node.ownerRefused
  repeat' (first | with_reducible assumption | exact Part.off_sub hp rfl | with_reducible apply Node.count_only
                  | with_reducible apply Node.raise_only | intro _ | split)

theorem Node.ownerChange_only {pt : Part} {n0 : Node} (hp : pt.off [.book, .host, .vault, .regs] = true) (n : Node) (o : OwnerRecord)
    (h0 : n0.Same pt n) :
    n0.Same pt (Node.ownerChange n o) := by
  unfold Node.ownerChange
  repeat' (first | with_reducible assumption | exact Part.off_sub hp rfl | with_reducible apply Node.raise_only
                  | with_reducible apply Node.extendMeas_only | with_reducible apply Node.measureOwners_only
                  | with_reducible apply Node.raiseCounter_only | with_reducible apply Node.ownerRefused_only | intro _ | split | dsimp -proj only
                  | with_reducible apply with_vault_only)

theorem Node.setRoleKey_only {pt : Part} {n0 : Node} (hp : pt.off [.book, .host, .vault, .regs] = true) (n : Node) (role : Nat) (key : BitVec 256)
    (h0 : n0.Same pt n) :
    n0.Same pt (Node.setRoleKey n role key) := by
  unfold Node.setRoleKey
  repeat' (first | with_reducible assumption | exact Part.off_sub hp rfl | with_reducible apply Node.raise_only
                  | with_reducible apply Node.extendMeas_only | intro _ | split | dsimp -proj only | with_reducible apply with_vault_only)

theorem Node.startQuote_only {pt : Part} {n0 : Node} (hp : pt.off [.vault] = true) (n : Node) (nonce : BitVec 256) (h0 : n0.Same pt n) :
    n0.Same pt (Node.startQuote n nonce) := by
  unfold Node.startQuote
  repeat' (first | with_reducible assumption | exact Part.off_sub hp rfl | intro _ | split | dsimp -proj only
                  | with_reducible apply with_vault_only)

theorem execAttestQuoteReady_only {pt : Part} (hp : pt.off [.book, .host, .vault, .regs] = true) (s : State) (s' : State)
    (ht : execAttestQuoteReady s = .next s') :
    s.node.Same pt s'.node := by
  have h0 := Node.Same.refl pt s.node
  unfold execAttestQuoteReady at ht
  refine State.upd_only ?_ ht
  repeat' (first | with_reducible assumption | exact Part.off_sub hp rfl | with_reducible apply Node.when_only
                  | with_reducible apply Node.raise_only | intro _ | split | dsimp -proj only | with_reducible apply with_vault_only)

theorem Node.turnOn_only {pt : Part} {n0 : Node} (hp : pt.off [.outs] = true) (n : Node) (c : Nat) (h0 : n0.Same pt n) :
    n0.Same pt (Node.turnOn n c) := by
  unfold Node.turnOn
  repeat' (first | with_reducible assumption | exact Part.off_sub hp rfl | with_reducible apply Node.setChan_only)

theorem Node.changeChan_only {pt : Part} {n0 : Node} (hp : pt.off [.outs] = true) (n : Node) (c : Nat) (f : Channel → Channel) (h0 : n0.Same pt n) :
    n0.Same pt (Node.changeChan n c f) := by
  unfold Node.changeChan
  repeat' (first | with_reducible assumption | exact Part.off_sub hp rfl | with_reducible apply Node.when_only
                  | with_reducible apply Node.setChan_only | with_reducible apply Node.turnOn_only | intro _)

theorem Node.turnOns_only {pt : Part} {n0 : Node} (hp : pt.off [.outs] = true) (n before : Node) (h0 : n0.Same pt n) (_h1 : n0.Same pt before) :
    n0.Same pt (Node.turnOns n before) := by
  unfold Node.turnOns
  repeat' (first | with_reducible assumption | exact Part.off_sub hp rfl | with_reducible apply Node.when_only
                  | with_reducible apply Node.each_only | with_reducible apply Node.turnOn_only | intro _)

theorem Node.addEnergy_only {pt : Part} {n0 : Node} (hp : pt.off [.book, .host, .outs, .regs] = true) (n : Node) (c uj : Nat) (h0 : n0.Same pt n) :
    n0.Same pt (Node.addEnergy n c uj) := by
  unfold Node.addEnergy
  repeat' (first | with_reducible assumption | exact Part.off_sub hp rfl | with_reducible apply Node.when_only
                  | with_reducible apply Node.count_only | with_reducible apply Node.setChan_only | with_reducible apply Node.raise_only
                  | intro _)

theorem Node.inrushLock_only {pt : Part} {n0 : Node} (hp : pt.off [.book, .host, .outs, .regs] = true) (n : Node) (c : Nat) (h0 : n0.Same pt n) :
    n0.Same pt (Node.inrushLock n c) := by
  unfold Node.inrushLock
  repeat' (first | with_reducible assumption | exact Part.off_sub hp rfl | with_reducible apply Node.count_only
                  | with_reducible apply Node.setChan_only | with_reducible apply Node.raise_only)

theorem Node.attemptFailed_only {pt : Part} {n0 : Node} (hp : pt.off [.book, .host, .outs, .regs] = true) (n : Node) (c : Nat) (h0 : n0.Same pt n) :
    n0.Same pt (Node.attemptFailed n c) := by
  unfold Node.attemptFailed
  repeat' (first | with_reducible assumption | exact Part.off_sub hp rfl | with_reducible apply Node.when_only
                  | with_reducible apply Node.setChan_only | with_reducible apply Node.inrushLock_only | intro _ | split | dsimp -proj only)

theorem Node.channelsOff_only {pt : Part} {n0 : Node} (hp : pt.off [.outs] = true) (n : Node) (h0 : n0.Same pt n) :
    n0.Same pt (Node.channelsOff n) := by
  unfold Node.channelsOff
  repeat' (first | with_reducible assumption | exact Part.off_sub hp rfl | with_reducible apply Node.each_only
                  | with_reducible apply Node.onOuts_only | with_reducible apply Node.setChan_only | intro _)

theorem Node.freeEnergy_only {pt : Part} {n0 : Node} (hp : pt.off [.book, .host, .outs, .fresh, .regs] = true) (n : Node) (c : Nat)
    (h0 : n0.Same pt n) :
    n0.Same pt (Node.freeEnergy n c) := by
  unfold Node.freeEnergy
  repeat' (first | with_reducible assumption | exact Part.off_sub hp rfl | with_reducible apply Node.took_only
                  | with_reducible apply Node.addEnergy_only)

theorem Node.channelsCut_only {pt : Part} {n0 : Node} (hp : pt.off [.book, .host, .outs, .fresh, .regs] = true) (n : Node) (h0 : n0.Same pt n) :
    n0.Same pt (Node.channelsCut n) := by
  unfold Node.channelsCut
  repeat' (first | with_reducible assumption | exact Part.off_sub hp rfl | with_reducible apply Node.each_only
                  | with_reducible apply Node.channelsOff_only | with_reducible apply Node.freeEnergy_only | intro _)

theorem Node.clearStaging_only {pt : Part} {n0 : Node} (hp : pt.off [.outs, .regs] = true) (n : Node) (h0 : n0.Same pt n) :
    n0.Same pt (Node.clearStaging n) := by
  unfold Node.clearStaging
  repeat' (first | with_reducible assumption | exact Part.off_sub hp rfl | with_reducible apply Node.resetWords_only | intro _
                  | split | dsimp -proj only | with_reducible apply with_outs_only)

theorem Node.holdChannels_only {pt : Part} {n0 : Node} (hp : pt.off [.outs, .regs] = true) (n : Node) (h0 : n0.Same pt n) :
    n0.Same pt (Node.holdChannels n) := by
  unfold Node.holdChannels
  repeat' (first | with_reducible assumption | exact Part.off_sub hp rfl | with_reducible apply Node.each_only
                  | with_reducible apply Node.setChan_only | with_reducible apply Node.clearStaging_only | intro _ | split | dsimp -proj only
                  | with_reducible apply with_outs_only)

theorem Node.freshOutputs_only {pt : Part} {n0 : Node} (hp : pt.off [.outs, .regs] = true) (n : Node) (h0 : n0.Same pt n) :
    n0.Same pt (Node.freshOutputs n) := by
  unfold Node.freshOutputs
  repeat' (first | with_reducible assumption | exact Part.off_sub hp rfl | with_reducible apply Node.clearStaging_only | intro _
                  | split | dsimp -proj only | with_reducible apply with_outs_only)

theorem Node.turnedOff_only {pt : Part} {n0 : Node} (hp : pt.off [.book, .host, .outs, .regs] = true) (n : Node) (was : List Nat) (energies : List
    (Fin 24 × Nat)) (h0 : n0.Same pt n) :
    n0.Same pt (Node.turnedOff n was energies) := by
  unfold Node.turnedOff
  repeat' (first | with_reducible assumption | exact Part.off_sub hp rfl | with_reducible apply Node.when_only
                  | with_reducible apply Node.each_only | with_reducible apply Node.addEnergy_only | intro _)

theorem Node.latchChannel_only {pt : Part} {n0 : Node} (hp : pt.off [.outs, .regs] = true) (n : Node) (c : Nat) (m : ChannelSample)
    (h0 : n0.Same pt n) :
    n0.Same pt (Node.latchChannel n c m) := by
  unfold Node.latchChannel
  repeat' (first | with_reducible assumption | exact Part.off_sub hp rfl | with_reducible apply Node.wr_only
                  | with_reducible apply Node.wrBit_only | with_reducible apply Node.setChan_only | with_reducible apply foldl_only
                  | with_reducible apply foldlPair_only | intro _)

theorem Node.latchInputs_only {pt : Part} {n0 : Node} (hp : pt.off [.outs, .regs] = true) (n : Node) (h0 : n0.Same pt n) :
    n0.Same pt (Node.latchInputs n) := by
  unfold Node.latchInputs
  repeat' (first | with_reducible assumption | exact Part.off_sub hp rfl | with_reducible apply Node.each_only
                  | with_reducible apply Node.putWords_only | with_reducible apply Node.wr_only | with_reducible apply Node.setInput_only
                  | with_reducible apply foldl_only | with_reducible apply foldlPair_only | intro _)

theorem Node.applyWord_only {pt : Part} {n0 : Node} (hp : pt.off [.book, .host, .outs, .regs] = true) (n : Node) (c energy : Nat)
    (h0 : n0.Same pt n) :
    n0.Same pt (Node.applyWord n c energy) := by
  unfold Node.applyWord
  repeat' (first | with_reducible assumption | exact Part.off_sub hp rfl | with_reducible apply Node.when_only
                  | with_reducible apply Node.changeChan_only | with_reducible apply Node.addEnergy_only | intro _)

theorem Node.outUpdate_only {pt : Part} {n0 : Node} (hp : pt.off [.book, .host, .outs, .regs] = true) (n : Node) (samples : List
    (Fin 24 × ChannelSample)) (vA vB : Nat) (h0 : n0.Same pt n) :
    n0.Same pt (Node.outUpdate n samples vA vB) := by
  unfold Node.outUpdate
  repeat' (first | with_reducible assumption | exact Part.off_sub hp rfl | with_reducible apply Node.when_only
                  | with_reducible apply Node.each_only | with_reducible apply Node.wr_only | with_reducible apply Node.incr_only
                  | with_reducible apply Node.onOuts_only | with_reducible apply Node.changeChan_only | with_reducible apply Node.turnOns_only
                  | with_reducible apply Node.latchChannel_only | with_reducible apply Node.latchInputs_only
                  | with_reducible apply Node.applyWord_only | intro _ | split | dsimp -proj only)

theorem execInrushWindowClose_only {pt : Part} (hp : pt.off [.book, .host, .outs, .regs] = true) (ch : Fin 24) (limiting : Bool) (energy : Nat)
    (s : State) (s' : State) (ht : execInrushWindowClose ch limiting energy s = .next s') :
    s.node.Same pt s'.node := by
  have h0 := Node.Same.refl pt s.node
  unfold execInrushWindowClose at ht
  refine State.upd_only ?_ ht
  repeat' (first | with_reducible assumption | exact Part.off_sub hp rfl | with_reducible apply Node.when_only
                  | with_reducible apply Node.setChan_only | with_reducible apply Node.addEnergy_only | with_reducible apply Node.inrushLock_only
                  | intro _ | split)

theorem execRetryAttemptFail_only {pt : Part} (hp : pt.off [.book, .host, .outs, .regs] = true) (ch : Fin 24) (energy : Nat) (s : State)
    (s' : State) (ht : execRetryAttemptFail ch energy s = .next s') :
    s.node.Same pt s'.node := by
  have h0 := Node.Same.refl pt s.node
  unfold execRetryAttemptFail at ht
  refine State.upd_only ?_ ht
  repeat' (first | with_reducible assumption | exact Part.off_sub hp rfl | with_reducible apply Node.when_only
                  | with_reducible apply Node.addEnergy_only | with_reducible apply Node.attemptFailed_only | intro _)

theorem execRetryStart_only {pt : Part} (hp : pt.off [.outs, .regs] = true) (ch : Fin 24) (s : State) (s' : State)
    (ht : execRetryStart ch s = .next s') :
    s.node.Same pt s'.node := by
  have h0 := Node.Same.refl pt s.node
  unfold execRetryStart at ht
  refine State.upd_only ?_ ht
  repeat' (first | with_reducible assumption | exact Part.off_sub hp rfl | with_reducible apply Node.when_only
                  | with_reducible apply Node.count_only | with_reducible apply Node.setChan_only | intro _)

theorem execRetryWindowClose_only {pt : Part} (hp : pt.off [.book, .host, .outs, .regs] = true) (ch : Fin 24) (s : State) (s' : State)
    (ht : execRetryWindowClose ch s = .next s') :
    s.node.Same pt s'.node := by
  have h0 := Node.Same.refl pt s.node
  unfold execRetryWindowClose at ht
  refine State.upd_only ?_ ht
  repeat' (first | with_reducible assumption | exact Part.off_sub hp rfl | with_reducible apply Node.setChan_only
                  | with_reducible apply Node.inrushLock_only | intro _ | split)

theorem execThermalLatchSet_only {pt : Part} (hp : pt.off [.book, .host, .outs, .regs] = true) (ch : Fin 24) (dt tj : Int) (energy : Nat)
    (s : State) (s' : State) (ht : execThermalLatchSet ch dt tj energy s = .next s') :
    s.node.Same pt s'.node := by
  have h0 := Node.Same.refl pt s.node
  unfold execThermalLatchSet at ht
  refine State.upd_only ?_ ht
  repeat' (first | with_reducible assumption | exact Part.off_sub hp rfl | with_reducible apply Node.when_only
                  | with_reducible apply Node.count_only | with_reducible apply Node.setChan_only | with_reducible apply Node.raise_only
                  | with_reducible apply Node.addEnergy_only | with_reducible apply Node.attemptFailed_only | intro _)

theorem execThermalLatchRelease_only {pt : Part} (hp : pt.off [.book, .host, .outs, .regs] = true) (ch : Fin 24) (dt tj : Int) (s : State)
    (s' : State) (ht : execThermalLatchRelease ch dt tj s = .next s') :
    s.node.Same pt s'.node := by
  have h0 := Node.Same.refl pt s.node
  unfold execThermalLatchRelease at ht
  refine State.upd_only ?_ ht
  repeat' (first | with_reducible assumption | exact Part.off_sub hp rfl | with_reducible apply Node.when_only
                  | with_reducible apply Node.raise_only | with_reducible apply Node.changeChan_only | intro _)

theorem Node.clearDone_only {pt : Part} {n0 : Node} (hp : pt.off [.book, .host, .outs, .regs] = true) (n : Node) (ch op : Nat)
    (f : Channel → Channel) (h0 : n0.Same pt n) :
    n0.Same pt (Node.clearDone n ch op f) := by
  unfold Node.clearDone
  repeat' (first | with_reducible assumption | exact Part.off_sub hp rfl | with_reducible apply Node.setChan_only
                  | with_reducible apply Node.raise_only)

theorem Node.clearRefused_only {pt : Part} {n0 : Node} (hp : pt.off [.book, .host, .regs] = true) (n : Node) (ch : Nat) (h0 : n0.Same pt n) :
    n0.Same pt (Node.clearRefused n ch) := by
  unfold Node.clearRefused
  repeat' (first | with_reducible assumption | exact Part.off_sub hp rfl | with_reducible apply Node.count_only
                  | with_reducible apply Node.raise_only)

theorem Node.clearLock_only {pt : Part} {n0 : Node} (hp : pt.off [.book, .host, .outs, .regs] = true) (n : Node) (ch op : Nat) (h0 : n0.Same pt n) :
    n0.Same pt (Node.clearLock n ch op) := by
  unfold Node.clearLock
  repeat' (first | with_reducible assumption | exact Part.off_sub hp rfl | with_reducible apply Node.when_only
                  | with_reducible apply Node.clearDone_only | with_reducible apply Node.clearRefused_only | intro _ | split)

theorem execOutCmdClearClamp_only {pt : Part} (hp : pt.off [.book, .blend, .host, .outs, .regs] = true) (by_ : Initiator) (key : Half) (ch : Fin 24)
    (s : State) (s' : State) (ht : execOutCmdClearClamp by_ key ch s = .next s') :
    s.node.Same pt s'.node := by
  have h0 := Node.Same.refl pt s.node
  unfold execOutCmdClearClamp at ht
  refine State.upd_only ?_ ht
  repeat' (first | with_reducible assumption | exact Part.off_sub hp rfl | with_reducible apply Node.when_only
                  | with_reducible apply Node.access_only | with_reducible apply Node.clearLock_only | intro _)

theorem execOutCmdClearInrush_only {pt : Part} (hp : pt.off [.book, .blend, .host, .outs, .regs] = true) (by_ : Initiator) (key : Half)
    (ch : Fin 24) (s : State) (s' : State) (ht : execOutCmdClearInrush by_ key ch s = .next s') :
    s.node.Same pt s'.node := by
  have h0 := Node.Same.refl pt s.node
  unfold execOutCmdClearInrush at ht
  refine State.upd_only ?_ ht
  repeat' (first | with_reducible assumption | exact Part.off_sub hp rfl | with_reducible apply Node.when_only
                  | with_reducible apply Node.access_only | with_reducible apply Node.clearLock_only | intro _)

theorem execOutCmdClearShed_only {pt : Part} (hp : pt.off [.book, .blend, .host, .outs, .regs] = true) (by_ : Initiator) (key : Half) (ch : Fin 24)
    (s : State) (s' : State) (ht : execOutCmdClearShed by_ key ch s = .next s') :
    s.node.Same pt s'.node := by
  have h0 := Node.Same.refl pt s.node
  unfold execOutCmdClearShed at ht
  refine State.upd_only ?_ ht
  repeat' (first | with_reducible assumption | exact Part.off_sub hp rfl | with_reducible apply Node.when_only
                  | with_reducible apply Node.access_only | with_reducible apply Node.clearLock_only | intro _)

theorem execOpenLoadDetect_only {pt : Part} (hp : pt.off [.book, .host, .outs, .regs] = true) (ch : Fin 24) (s : State) (s' : State)
    (ht : execOpenLoadDetect ch s = .next s') :
    s.node.Same pt s'.node := by
  have h0 := Node.Same.refl pt s.node
  unfold execOpenLoadDetect at ht
  refine State.upd_only ?_ ht
  repeat' (first | with_reducible assumption | exact Part.off_sub hp rfl | with_reducible apply Node.when_only
                  | with_reducible apply Node.count_only | with_reducible apply Node.setChan_only | with_reducible apply Node.raise_only
                  | intro _)

theorem execOpenLoadClear_only {pt : Part} (hp : pt.off [.outs] = true) (ch : Fin 24) (s : State) (s' : State)
    (ht : execOpenLoadClear ch s = .next s') :
    s.node.Same pt s'.node := by
  have h0 := Node.Same.refl pt s.node
  unfold execOpenLoadClear at ht
  refine State.upd_only ?_ ht
  repeat' (first | with_reducible assumption | exact Part.off_sub hp rfl | with_reducible apply Node.when_only
                  | with_reducible apply Node.setChan_only | intro _)

theorem execStbDetect_only {pt : Part} (hp : pt.off [.book, .host, .outs, .regs] = true) (ch : Fin 24) (s : State) (s' : State)
    (ht : execStbDetect ch s = .next s') :
    s.node.Same pt s'.node := by
  have h0 := Node.Same.refl pt s.node
  unfold execStbDetect at ht
  refine State.upd_only ?_ ht
  repeat' (first | with_reducible assumption | exact Part.off_sub hp rfl | with_reducible apply Node.when_only
                  | with_reducible apply Node.count_only | with_reducible apply Node.setChan_only | with_reducible apply Node.raise_only
                  | intro _)

theorem execStbClear_only {pt : Part} (hp : pt.off [.outs] = true) (ch : Fin 24) (s : State) (s' : State) (ht : execStbClear ch s = .next s') :
    s.node.Same pt s'.node := by
  have h0 := Node.Same.refl pt s.node
  unfold execStbClear at ht
  refine State.upd_only ?_ ht
  repeat' (first | with_reducible assumption | exact Part.off_sub hp rfl | with_reducible apply Node.setChan_only)

theorem execVloadLow_only {pt : Part} (hp : pt.off [.book, .host, .regs] = true) (supplyA : Bool) (lowestMv : Nat) (s : State) (s' : State)
    (ht : execVloadLow supplyA lowestMv s = .next s') :
    s.node.Same pt s'.node := by
  have h0 := Node.Same.refl pt s.node
  unfold execVloadLow at ht
  refine State.upd_only ?_ ht
  repeat' (first | with_reducible assumption | exact Part.off_sub hp rfl | with_reducible apply Node.when_only
                  | with_reducible apply Node.wrBit_only | with_reducible apply Node.count_only | with_reducible apply Node.raise_only | intro _)

theorem execVloadRecover_only {pt : Part} (hp : pt.off [.regs] = true) (supplyA : Bool) (s : State) (s' : State)
    (ht : execVloadRecover supplyA s = .next s') :
    s.node.Same pt s'.node := by
  have h0 := Node.Same.refl pt s.node
  unfold execVloadRecover at ht
  refine State.upd_only ?_ ht
  repeat' (first | with_reducible assumption | exact Part.off_sub hp rfl | with_reducible apply Node.wrBit_only)

theorem execVloadNoSupply_only {pt : Part} (hp : pt.off [.regs] = true) (supplyA below : Bool) (s : State) (s' : State)
    (ht : execVloadNoSupply supplyA below s = .next s') :
    s.node.Same pt s'.node := by
  have h0 := Node.Same.refl pt s.node
  unfold execVloadNoSupply at ht
  refine State.upd_only ?_ ht
  repeat' (first | with_reducible assumption | exact Part.off_sub hp rfl | with_reducible apply Node.when_only
                  | with_reducible apply Node.wrBit_only | intro _)

theorem execLoadShed_only {pt : Part} (hp : pt.off [.book, .host, .outs, .regs] = true) (condition : Fin 4) (interval : List LoadSample)
    (energies : List (Fin 24 × Nat)) (s : State) (s' : State) (ht : execLoadShed condition interval energies s = .next s') :
    s.node.Same pt s'.node := by
  have h0 := Node.Same.refl pt s.node
  unfold execLoadShed at ht
  refine State.upd_only ?_ ht
  repeat' (first | with_reducible assumption | exact Part.off_sub hp rfl | with_reducible apply Node.each_only
                  | with_reducible apply Node.count_only | with_reducible apply Node.onOuts_only | with_reducible apply Node.setChan_only
                  | with_reducible apply Node.raise_only | with_reducible apply Node.turnedOff_only | intro _ | split | dsimp -proj only)

theorem execOutHoldExpiry_only {pt : Part} (hp : pt.off [.book, .host, .outs, .regs] = true) (energies : List (Fin 24 × Nat)) (s : State)
    (s' : State) (ht : execOutHoldExpiry energies s = .next s') :
    s.node.Same pt s'.node := by
  have h0 := Node.Same.refl pt s.node
  unfold execOutHoldExpiry at ht
  refine State.upd_only ?_ ht
  repeat' (first | with_reducible assumption | exact Part.off_sub hp rfl | with_reducible apply Node.when_only
                  | with_reducible apply Node.each_only | with_reducible apply Node.count_only | with_reducible apply Node.raise_only
                  | with_reducible apply Node.changeChan_only | with_reducible apply Node.turnedOff_only | intro _ | split | dsimp -proj only
                  | with_reducible apply with_outs_only)

theorem Node.outputsApplied_only {pt : Part} {n0 : Node} (hp : pt.off [.book, .host, .outs, .fresh, .regs] = true) (n before : Node)
    (h0 : n0.Same pt n) (h1 : n0.Same pt before) :
    n0.Same pt (Node.outputsApplied n before) := by
  unfold Node.outputsApplied
  repeat' (first | with_reducible assumption | exact Part.off_sub hp rfl | with_reducible apply Node.when_only
                  | with_reducible apply Node.each_only | with_reducible apply Node.setChan_only | with_reducible apply Node.turnOns_only
                  | with_reducible apply Node.freeEnergy_only | intro _)

theorem execDimPinEdge_only {pt : Part} (hp : pt.off [.book, .host, .outs, .regs] = true) (pin : Fin 4) (level : Bool) (energies : List
    (Fin 24 × Nat)) (s : State) (s' : State) (ht : execDimPinEdge pin level energies s = .next s') :
    s.node.Same pt s'.node := by
  have h0 := Node.Same.refl pt s.node
  unfold execDimPinEdge at ht
  refine State.upd_only ?_ ht
  repeat' (first | with_reducible assumption | exact Part.off_sub hp rfl | with_reducible apply Node.turnedOff_only | intro _
                  | split | dsimp -proj only | with_reducible apply with_outs_only)

theorem execLampPwmPeriod_only {pt : Part} (hp : pt.off [.book, .host, .outs, .regs] = true) (ch : Fin 4) (vloadMv energy : Nat) (s : State)
    (s' : State) (ht : execLampPwmPeriod ch vloadMv energy s = .next s') :
    s.node.Same pt s'.node := by
  have h0 := Node.Same.refl pt s.node
  unfold execLampPwmPeriod at ht
  refine State.upd_only ?_ ht
  repeat' (first | with_reducible assumption | exact Part.off_sub hp rfl | with_reducible apply Node.when_only
                  | with_reducible apply Node.setChan_only | with_reducible apply Node.addEnergy_only | intro _)

theorem execInputSample_only {pt : Part} (hp : pt.off [.outs] = true) (mv : List Int) (s : State) (s' : State)
    (ht : execInputSample mv s = .next s') :
    s.node.Same pt s'.node := by
  have h0 := Node.Same.refl pt s.node
  unfold execInputSample at ht
  refine State.upd_only ?_ ht
  repeat' (first | with_reducible assumption | exact Part.off_sub hp rfl | with_reducible apply Node.when_only
                  | with_reducible apply Node.each_only | with_reducible apply Node.setInput_only | intro _)

theorem Node.setWay_only {pt : Part} {n0 : Node} (hp : pt.off [.cellar] = true) (n : Node) (key : Nat) (w : Option Way) (h0 : n0.Same pt n) :
    n0.Same pt (Node.setWay n key w) := by
  unfold Node.setWay
  repeat' (first | with_reducible assumption | exact Part.off_sub hp rfl | intro _ | split | dsimp -proj only
                  | with_reducible apply with_cellar_only)

theorem Node.learn_only {pt : Part} {n0 : Node} (hp : pt.off [.book, .cellar, .host, .regs] = true) (n : Node) (mac : Mac) (fid p : Nat)
    (h0 : n0.Same pt n) :
    n0.Same pt (Node.learn n mac fid p) := by
  unfold Node.learn
  repeat' (first | with_reducible assumption | exact Part.off_sub hp rfl | with_reducible apply Node.count_only
                  | with_reducible apply Node.raise_only | with_reducible apply Node.setWay_only | intro _ | split | dsimp -proj only)

theorem Node.loadStatic_only {pt : Part} {n0 : Node} (hp : pt.off [.cellar] = true) (n : Node) (h0 : n0.Same pt n) :
    n0.Same pt (Node.loadStatic n) := by
  unfold Node.loadStatic
  repeat' (first | with_reducible assumption | exact Part.off_sub hp rfl | with_reducible apply Node.each_only
                  | with_reducible apply Node.setWay_only | intro _ | split | dsimp -proj only | with_reducible apply with_cellar_only)

theorem Node.stampEntry_only {pt : Part} {n0 : Node} (hp : pt.off [.host] = true) (n : Node) (r : Nat × Nat) (stamp : Nat) (h0 : n0.Same pt n) :
    n0.Same pt (Node.stampEntry n r stamp) := by
  unfold Node.stampEntry
  repeat' (first | with_reducible assumption | exact Part.off_sub hp rfl | intro _ | split | dsimp -proj only
                  | with_reducible apply with_host_only)

theorem Node.unsent_only {pt : Part} {n0 : Node} (hp : pt.off [.host] = true) (n : Node) (tsReq : Option (Nat × Nat)) (h0 : n0.Same pt n) :
    n0.Same pt (Node.unsent n tsReq) := by
  unfold Node.unsent
  repeat' (first | with_reducible assumption | exact Part.off_sub hp rfl | with_reducible apply Node.stampEntry_only | intro _
                  | split)

theorem Node.admitTo_only {pt : Part} {n0 : Node} (hp : pt.off [.book, .cellar, .host, .out, .regs] = true) (n : Node) (h : HeldFrame) (f : Frame)
    (vid : Nat) (dests : List Nat) (h0 : n0.Same pt n) :
    n0.Same pt (Node.admitTo n h f vid dests) := by
  unfold Node.admitTo
  repeat' (first | with_reducible assumption | exact Part.off_sub hp rfl | with_reducible apply Node.when_only
                  | with_reducible apply Node.each_only | with_reducible apply Node.count_only | with_reducible apply Node.raise_only
                  | with_reducible apply Node.refused_only | with_reducible apply Node.unsent_only | intro _ | split | dsimp -proj only
                  | with_reducible apply with_cellar_only)

theorem Node.bridge_only {pt : Part} {n0 : Node} (hp : pt.off [.book, .cellar, .host, .out, .regs] = true) (n : Node) (h : HeldFrame) (f : Frame)
    (vid : Nat) (routed : Bool) (h0 : n0.Same pt n) :
    n0.Same pt (Node.bridge n h f vid routed) := by
  unfold Node.bridge
  repeat' (first | with_reducible assumption | exact Part.off_sub hp rfl | with_reducible apply Node.count_only
                  | with_reducible apply Node.unsent_only | with_reducible apply Node.admitTo_only | intro _ | split | dsimp -proj only)

theorem Node.toVintner_only {pt : Part} {n0 : Node} (hp : pt.off [.book, .cellar, .host, .out, .regs] = true) (n : Node) (h : HeldFrame)
    (h0 : n0.Same pt n) :
    n0.Same pt (Node.toVintner n h) := by
  unfold Node.toVintner
  repeat' (first | with_reducible assumption | exact Part.off_sub hp rfl | with_reducible apply Node.admitTo_only)

theorem Node.holdInLees_only {pt : Part} {n0 : Node} (hp : pt.off [.book, .cellar, .ina, .host, .regs] = true) (n : Node) (h : HeldFrame)
    (h0 : n0.Same pt n) :
    n0.Same pt (Node.holdInLees n h) := by
  unfold Node.holdInLees
  repeat' (first | with_reducible assumption | exact Part.off_sub hp rfl | with_reducible apply Node.count_only
                  | with_reducible apply Node.raise_only | with_reducible apply Node.unsent_only | with_reducible apply foldl_only
                  | with_reducible apply foldlPair_only | intro _ | split | dsimp -proj only | with_reducible apply with_cellar_only
                  | with_reducible apply with_ina_only)

theorem Node.forwardRouted_only {pt : Part} {n0 : Node} (hp : pt.off [.book, .cellar, .host, .out, .regs] = true) (n : Node) (h : HeldFrame)
    (ip : Ipv4) (src : Ip) (hop : NextHop) (h0 : n0.Same pt n) :
    n0.Same pt (Node.forwardRouted n h ip src hop) := by
  unfold Node.forwardRouted
  repeat' (first | with_reducible assumption | exact Part.off_sub hp rfl | with_reducible apply Node.bridge_only)

theorem Node.routeOn_only {pt : Part} {n0 : Node} (hp : pt.off [.book, .cellar, .ina, .host, .out, .regs] = true) (n : Node) (h : HeldFrame)
    (ip : Ipv4) (consist checked : Bool) (h0 : n0.Same pt n) :
    n0.Same pt (Node.routeOn n h ip consist checked) := by
  unfold Node.routeOn
  repeat' (first | with_reducible assumption | exact Part.off_sub hp rfl | with_reducible apply Node.count_only
                  | with_reducible apply Node.raise_only | with_reducible apply Node.unsent_only | with_reducible apply Node.toVintner_only
                  | with_reducible apply Node.holdInLees_only | with_reducible apply Node.forwardRouted_only | intro _ | split | dsimp -proj only)

theorem Node.route_only {pt : Part} {n0 : Node} (hp : pt.off [.book, .cellar, .ina, .host, .out, .regs] = true) (n : Node) (h : HeldFrame)
    (ip : Ipv4) (consist : Bool) (h0 : n0.Same pt n) :
    n0.Same pt (Node.route n h ip consist) := by
  unfold Node.route
  repeat' (first | with_reducible assumption | exact Part.off_sub hp rfl | with_reducible apply Node.count_only
                  | with_reducible apply Node.unsent_only | with_reducible apply Node.toVintner_only | with_reducible apply Node.routeOn_only
                  | intro _ | split)

theorem Node.countRx_only {pt : Part} {n0 : Node} (hp : pt.off [.regs] = true) (n : Node) (p : Nat) (f : Frame) (h0 : n0.Same pt n) :
    n0.Same pt (Node.countRx n p f) := by
  unfold Node.countRx
  repeat' (first | with_reducible assumption | exact Part.off_sub hp rfl | with_reducible apply Node.when_only
                  | with_reducible apply Node.countBy_only | with_reducible apply Node.count_only | intro _)

theorem Node.lookup_only {pt : Part} {n0 : Node} (hp : pt.off [.book, .cellar, .ina, .host, .out, .regs] = true) (n : Node) (h : HeldFrame)
    (released : Bool) (h0 : n0.Same pt n) :
    n0.Same pt (Node.lookup n h released) := by
  unfold Node.lookup
  repeat' (first | with_reducible assumption | exact Part.off_sub hp rfl | with_reducible apply Node.bridge_only
                  | with_reducible apply Node.toVintner_only | with_reducible apply Node.routeOn_only | with_reducible apply Node.route_only
                  | intro _ | split | dsimp -proj only)

theorem Node.classify_only {pt : Part} {n0 : Node} (hp : pt.off [.book, .cellar, .ina, .host, .out, .regs] = true) (n : Node) (p : Nat) (f : Frame)
    (tsReq : Option (Nat × Nat)) (h0 : n0.Same pt n) :
    n0.Same pt (Node.classify n p f tsReq) := by
  unfold Node.classify
  repeat' (first | with_reducible assumption | exact Part.off_sub hp rfl | with_reducible apply Node.when_only
                  | with_reducible apply Node.count_only | with_reducible apply Node.learn_only | with_reducible apply Node.unsent_only
                  | with_reducible apply Node.admitTo_only | with_reducible apply Node.bridge_only | with_reducible apply Node.lookup_only
                  | intro _ | split | dsimp -proj only | with_reducible apply with_cellar_only)

theorem Node.queueAt_only {pt : Part} {n0 : Node} (hp : pt.off [.book, .cellar, .host, .regs] = true) (n : Node) (p q : Nat) (ingress pcp : Nat)
    (f : Frame) (h0 : n0.Same pt n) :
    n0.Same pt (Node.queueAt n p q ingress pcp f) := by
  unfold Node.queueAt
  repeat' (first | with_reducible assumption | exact Part.off_sub hp rfl | with_reducible apply Node.count_only
                  | with_reducible apply Node.raise_only | with_reducible apply Node.refused_only | intro _ | split | dsimp -proj only
                  | with_reducible apply with_cellar_only)

theorem Node.pressQueue_only {pt : Part} {n0 : Node} (hp : pt.off [.presses, .out] = true) (n : Node) (k : Nat) (f : Frame) (stamp : Nat)
    (h0 : n0.Same pt n) :
    n0.Same pt (Node.pressQueue n k f stamp) := by
  unfold Node.pressQueue
  repeat' (first | with_reducible assumption | exact Part.off_sub hp rfl | with_reducible apply Node.setPress_only
                  | with_reducible apply Node.emit_only)

theorem Node.sendToPress_only {pt : Part} {n0 : Node} (hp : pt.off [.runs, .book, .presses, .host, .out, .regs] = true) (n : Node) (p : Nat)
    (f : Frame) (stamp : Nat) (h0 : n0.Same pt n) :
    n0.Same pt (Node.sendToPress n p f stamp) := by
  unfold Node.sendToPress
  repeat' (first | with_reducible assumption | exact Part.off_sub hp rfl | with_reducible apply Node.count_only
                  | with_reducible apply Node.raiseFirst_only | with_reducible apply Node.endRun_only | with_reducible apply Node.pressQueue_only
                  | intro _ | split)

theorem Node.accept_only {pt : Part} {n0 : Node} (hp : pt.off [.runs, .book, .cellar, .ina, .presses, .host, .out, .regs] = true) (n : Node)
    (p : Nat) (f : Frame) (tsReq : Option (Nat × Nat)) (h0 : n0.Same pt n) :
    n0.Same pt (Node.accept n p f tsReq) := by
  unfold Node.accept
  repeat' (first | with_reducible assumption | exact Part.off_sub hp rfl | with_reducible apply Node.when_only
                  | with_reducible apply Node.count_only | with_reducible apply Node.classify_only | with_reducible apply Node.queueAt_only
                  | with_reducible apply Node.sendToPress_only | intro _ | split | dsimp -proj only)

theorem Node.receive_only {pt : Part} {n0 : Node} (hp : pt.off [.runs, .book, .cellar, .ina, .presses, .host, .out, .regs] = true) (n : Node)
    (p : Nat) (f : Frame) (rx : RxFlags) (tsReq : Option (Nat × Nat)) (h0 : n0.Same pt n) :
    n0.Same pt (Node.receive n p f rx tsReq) := by
  unfold Node.receive
  repeat' (first | with_reducible assumption | exact Part.off_sub hp rfl | with_reducible apply Node.count_only
                  | with_reducible apply Node.unsent_only | with_reducible apply Node.countRx_only | with_reducible apply Node.accept_only
                  | intro _ | split | dsimp -proj only)

theorem Node.inject_only {pt : Part} {n0 : Node} (hp : pt.off [.runs, .book, .cellar, .ina, .presses, .host, .out, .regs] = true) (n : Node)
    (p : Nat) (f : Frame) (h0 : n0.Same pt n) :
    n0.Same pt (Node.inject n p f) := by
  unfold Node.inject
  repeat' (first | with_reducible assumption | exact Part.off_sub hp rfl | with_reducible apply Node.receive_only)

theorem execFrameReceived_only {pt : Part} (hp : pt.off [.runs, .book, .cellar, .ina, .presses, .host, .out, .regs] = true) (port : Fin 19)
    (frame : Frame) (rx : RxFlags) (press : Option (Fin 16)) (s : State) (s' : State) (ht : execFrameReceived port frame rx press s = .next s') :
    s.node.Same pt s'.node := by
  have h0 := Node.Same.refl pt s.node
  unfold execFrameReceived at ht
  refine State.upd_only ?_ ht
  repeat' (first | with_reducible assumption | exact Part.off_sub hp rfl | with_reducible apply Node.when_only
                  | with_reducible apply Node.receive_only | intro _ | split)

theorem execLearnedEntryAged_only {pt : Part} (hp : pt.off [.cellar] = true) (bucket : Fin 2048) (way : Fin 8) (s : State) (s' : State)
    (ht : execLearnedEntryAged bucket way s = .next s') :
    s.node.Same pt s'.node := by
  have h0 := Node.Same.refl pt s.node
  unfold execLearnedEntryAged at ht
  refine State.upd_only ?_ ht
  repeat' (first | with_reducible assumption | exact Part.off_sub hp rfl | with_reducible apply Node.when_only
                  | with_reducible apply Node.setWay_only | intro _ | split | dsimp -proj only)

theorem Node.released_only {pt : Part} {n0 : Node} (hp : pt.off [.host] = true) (n : Node) (gone : List Copy) (h0 : n0.Same pt n) :
    n0.Same pt (Node.released n gone) := by
  unfold Node.released
  repeat' (first | with_reducible assumption | exact Part.off_sub hp rfl | with_reducible apply Node.when_only
                  | with_reducible apply Node.each_only | with_reducible apply Node.stampEntry_only | intro _ | split)

theorem Node.dropCopies_only {pt : Part} {n0 : Node} (hp : pt.off [.cellar, .host] = true) (n : Node) (p : Copy → Bool) (f : Copy → Node → Node)
    (h0 : n0.Same pt n) (h1 : ∀ (x0 : Copy) (x1 : Node), n0.Same pt x1 → n0.Same pt (f x0 x1)) :
    n0.Same pt (Node.dropCopies n p f) := by
  unfold Node.dropCopies
  repeat' (first | with_reducible assumption | exact Part.off_sub hp rfl | with_reducible apply h1
                  | with_reducible apply Node.each_only | with_reducible apply Node.released_only | intro _ | split | dsimp -proj only
                  | with_reducible apply with_cellar_only)

theorem Node.flushPort_only {pt : Part} {n0 : Node} (hp : pt.off [.cellar, .host, .regs] = true) (n : Node) (p : Nat) (h0 : n0.Same pt n) :
    n0.Same pt (Node.flushPort n p) := by
  unfold Node.flushPort
  repeat' (first | with_reducible assumption | exact Part.off_sub hp rfl | with_reducible apply Node.count_only
                  | with_reducible apply Node.dropCopies_only | intro _)

theorem Node.cutShort_only {pt : Part} {n0 : Node} (hp : pt.off [.cellar, .host, .regs] = true) (n : Node) (p : Nat) (h0 : n0.Same pt n) :
    n0.Same pt (Node.cutShort n p) := by
  unfold Node.cutShort
  repeat' (first | with_reducible assumption | exact Part.off_sub hp rfl | with_reducible apply Node.count_only
                  | with_reducible apply Node.released_only | intro _ | split | dsimp -proj only | with_reducible apply with_cellar_only)

theorem Node.countAged_only {pt : Part} {n0 : Node} (hp : pt.off [.book, .host, .regs] = true) (c : Copy) (n : Node) (h0 : n0.Same pt n) :
    n0.Same pt (Node.countAged c n) := by
  unfold Node.countAged
  repeat' (first | with_reducible assumption | exact Part.off_sub hp rfl | with_reducible apply Node.count_only
                  | with_reducible apply Node.raise_only)

theorem Node.trimHead_only {pt : Part} {n0 : Node} (hp : pt.off [.book, .cellar, .host, .regs] = true) (n : Node) (p q fuel : Nat)
    (h : n0.Same pt n) :
    n0.Same pt (n.trimHead p q fuel) := by
  induction fuel generalizing n with
  | zero => exact h
  | succ k ih =>
    unfold Node.trimHead
    split
    · exact h
    · split
      · exact ih _ (Node.dropCopies_only (Part.off_sub hp rfl) _ _ _ h fun c x hx => Node.countAged_only (Part.off_sub hp rfl) _ _ hx)
      · split
        · exact ih _ (Node.dropCopies_only (Part.off_sub hp rfl) _ _ _ h fun c x hx => Node.count_only (Part.off_sub hp rfl) _ _ hx)
        · exact h

theorem Node.headCopy_only {pt : Part} {n0 : Node} (hp : pt.off [.book, .cellar, .host, .regs] = true) (n : Node) (p q : Nat) (h0 : n0.Same pt n) :
    n0.Same pt (Node.headCopy n p q).1 := by
  unfold Node.headCopy
  repeat' (first | with_reducible assumption | exact Part.off_sub hp rfl | with_reducible apply Node.trimHead_only)

theorem Node.copyLeft_only {pt : Part} {n0 : Node} (hp : pt.off [.cellar, .host, .out, .regs] = true) (n : Node) (c : Copy) (h0 : n0.Same pt n) :
    n0.Same pt (Node.copyLeft n c) := by
  unfold Node.copyLeft
  repeat' (first | with_reducible assumption | exact Part.off_sub hp rfl | with_reducible apply Node.when_only
                  | with_reducible apply Node.wr_only | with_reducible apply Node.countBy_only | with_reducible apply Node.count_only
                  | with_reducible apply Node.emit_only | with_reducible apply Node.stampEntry_only | intro _ | split | dsimp -proj only
                  | with_reducible apply with_cellar_only | with_reducible apply with_host_only)

theorem Node.ringAdvance_only {pt : Part} {n0 : Node} (hp : pt.off [.host, .regs] = true) (n : Node) (k d wrap : Nat) (detached : Bool)
    (h0 : n0.Same pt n) :
    n0.Same pt (Node.ringAdvance n k d wrap detached) := by
  unfold Node.ringAdvance
  repeat' (first | with_reducible assumption | exact Part.off_sub hp rfl | with_reducible apply Node.when_only
                  | with_reducible apply Node.wr_only | with_reducible apply Node.setRing_only | intro _)

theorem Node.ringReport_only {pt : Part} {n0 : Node} (hp : pt.off [.host, .regs] = true) (n : Node) (k : Nat) (h0 : n0.Same pt n) :
    n0.Same pt (Node.ringReport n k) := by
  unfold Node.ringReport
  repeat' (first | with_reducible assumption | exact Part.off_sub hp rfl | with_reducible apply Node.when_only
                  | with_reducible apply Node.wr_only | with_reducible apply Node.setRing_only | with_reducible apply Node.fire_only | intro _)

theorem Node.ringDone_only {pt : Part} {n0 : Node} (hp : pt.off [.host, .regs] = true) (n : Node) (k : Nat) (h0 : n0.Same pt n) :
    n0.Same pt (Node.ringDone n k) := by
  unfold Node.ringDone
  repeat' (first | with_reducible assumption | exact Part.off_sub hp rfl | with_reducible apply Node.when_only
                  | with_reducible apply Node.setRing_only | with_reducible apply Node.ringReport_only | intro _)

theorem Node.setRxWait_only {pt : Part} {n0 : Node} (hp : pt.off [.host] = true) (n : Node) (q : Nat) (c : Option Copy) (h0 : n0.Same pt n) :
    n0.Same pt (Node.setRxWait n q c) := by
  unfold Node.setRxWait
  repeat' (first | with_reducible assumption | exact Part.off_sub hp rfl | intro _ | split | dsimp -proj only
                  | with_reducible apply with_host_only)

theorem Node.rxWaitDrop_only {pt : Part} {n0 : Node} (hp : pt.off [.runs, .book, .cellar, .host, .regs] = true) (n : Node) (c : Copy)
    (h0 : n0.Same pt n) :
    n0.Same pt (Node.rxWaitDrop n c) := by
  unfold Node.rxWaitDrop
  repeat' (first | with_reducible assumption | exact Part.off_sub hp rfl | with_reducible apply Node.count_only
                  | with_reducible apply Node.raiseFirst_only | with_reducible apply Node.dropCopies_only
                  | with_reducible apply Node.setRxWait_only | intro _)

theorem Node.hpTake_only {pt : Part} {n0 : Node} (hp : pt.off [.runs, .book, .cellar, .host, .regs] = true) (n : Node) (q : Nat)
    (h : n0.Same pt n) : n0.Same pt (n.hpTake q) := by
  have hc := Node.headCopy_only (Part.off_sub hp rfl) n 16 q h
  unfold Node.hpTake
  split
  · rename_i heq; rw [heq] at hc; dsimp only at hc; exact Node.setRxWait_only (Part.off_sub hp rfl) _ _ _ hc
  · rename_i heq; rw [heq] at hc; dsimp only at hc
    repeat' (first | with_reducible assumption | exact hc | exact Part.off_sub hp rfl | with_reducible apply Node.count_only
                    | with_reducible apply Node.setRing_only | with_reducible apply Node.endRun_only | with_reducible apply Node.dropCopies_only
                    | with_reducible apply Node.setRxWait_only | with_reducible apply Node.rxWaitDrop_only | intro _ | split | dsimp -proj only
                    | with_reducible apply with_cellar_only | with_reducible apply with_host_only)

theorem Node.rxRetry_only {pt : Part} {n0 : Node} (hp : pt.off [.runs, .book, .cellar, .host, .regs] = true) (n : Node) (r : Nat)
    (h0 : n0.Same pt n) :
    n0.Same pt (Node.rxRetry n r) := by
  unfold Node.rxRetry
  repeat' (first | with_reducible assumption | exact Part.off_sub hp rfl | with_reducible apply Node.when_only
                  | with_reducible apply Node.each_only | with_reducible apply Node.hpTake_only | intro _)

theorem execRxCopyAtHead_only {pt : Part} (hp : pt.off [.runs, .book, .cellar, .host, .regs] = true) (queue : Fin 8) (s : State) (s' : State)
    (ht : execRxCopyAtHead queue s = .next s') :
    s.node.Same pt s'.node := by
  have h0 := Node.Same.refl pt s.node
  unfold execRxCopyAtHead at ht
  refine State.upd_only ?_ ht
  repeat' (first | with_reducible assumption | exact Part.off_sub hp rfl | with_reducible apply Node.when_only
                  | with_reducible apply Node.hpTake_only | intro _)

theorem execRxWaitExpiry_only {pt : Part} (hp : pt.off [.runs, .book, .cellar, .host, .regs] = true) (queue : Fin 8) (s : State) (s' : State)
    (ht : execRxWaitExpiry queue s = .next s') :
    s.node.Same pt s'.node := by
  have h0 := Node.Same.refl pt s.node
  unfold execRxWaitExpiry at ht
  refine State.upd_only ?_ ht
  repeat' (first | with_reducible assumption | exact Part.off_sub hp rfl | with_reducible apply Node.setRxWait_only
                  | with_reducible apply Node.rxWaitDrop_only | intro _ | split)

theorem execRxFrameWritten_only {pt : Part} (hp : pt.off [.cellar, .host, .out, .regs] = true) (ring : Fin 4) (owned : Bool) (s : State)
    (s' : State) (ht : execRxFrameWritten ring owned s = .next s') :
    s.node.Same pt s'.node := by
  have h0 := Node.Same.refl pt s.node
  unfold execRxFrameWritten at ht
  refine State.upd_only ?_ ht
  repeat' (first | with_reducible assumption | exact Part.off_sub hp rfl | with_reducible apply Node.each_only
                  | with_reducible apply Node.count_only | with_reducible apply Node.emit_only | with_reducible apply Node.copyLeft_only
                  | with_reducible apply Node.ringAdvance_only | with_reducible apply Node.ringDone_only | intro _ | split | dsimp -proj only
                  | with_reducible apply with_host_only)

theorem execRingIrqDelayExpiry_only {pt : Part} (hp : pt.off [.host, .regs] = true) (tx : Bool) (ring : Fin 4) (s : State) (s' : State)
    (ht : execRingIrqDelayExpiry tx ring s = .next s') :
    s.node.Same pt s'.node := by
  have h0 := Node.Same.refl pt s.node
  unfold execRingIrqDelayExpiry at ht
  refine State.upd_only ?_ ht
  repeat' (first | with_reducible assumption | exact Part.off_sub hp rfl | with_reducible apply Node.ringReport_only)

theorem Node.txStop_only {pt : Part} {n0 : Node} (hp : pt.off [.book, .host, .regs] = true) (n : Node) (t ix : Nat) (h0 : n0.Same pt n) :
    n0.Same pt (Node.txStop n t ix) := by
  unfold Node.txStop
  repeat' (first | with_reducible assumption | exact Part.off_sub hp rfl | with_reducible apply Node.wr_only
                  | with_reducible apply Node.count_only | with_reducible apply Node.raise_only)

theorem Node.deviceReadFails_only {pt : Part} {n0 : Node} (hp : pt.off [.book, .host, .regs] = true) (n : Node) (addr : DWord) (h0 : n0.Same pt n) :
    n0.Same pt (Node.deviceReadFails n addr) := by
  unfold Node.deviceReadFails
  repeat' (first | with_reducible assumption | exact Part.off_sub hp rfl | with_reducible apply Node.count_only
                  | with_reducible apply Node.raise_only)

theorem Node.txHold_only {pt : Part} {n0 : Node} (hp : pt.off [.host] = true) (n : Node) (t : Nat) (l : List TxDesc) (status : Nat)
    (h0 : n0.Same pt n) :
    n0.Same pt (Node.txHold n t l status) := by
  unfold Node.txHold
  repeat' (first | with_reducible assumption | exact Part.off_sub hp rfl | with_reducible apply Node.setRing_only | intro _
                  | split | dsimp -proj only | with_reducible apply with_host_only)

theorem Node.txFetchFails_only {pt : Part} {n0 : Node} (hp : pt.off [.book, .host, .regs] = true) (n : Node) (t : Nat) (l : List TxDesc)
    (addr : DWord) (h0 : n0.Same pt n) :
    n0.Same pt (Node.txFetchFails n t l addr) := by
  unfold Node.txFetchFails
  repeat' (first | with_reducible assumption | exact Part.off_sub hp rfl | with_reducible apply Node.when_only
                  | with_reducible apply Node.txStop_only | with_reducible apply Node.deviceReadFails_only | with_reducible apply Node.txHold_only
                  | intro _)

theorem execTxRingFetch_only {pt : Part} (hp : pt.off [.runs, .book, .cellar, .ina, .presses, .host, .out, .fresh, .regs] = true)
    (descs : List TxDesc) (frame : Frame) (s : State) (s' : State) (ht : execTxRingFetch descs frame s = .next s') :
    s.node.Same pt s'.node := by
  have h0 := Node.Same.refl pt s.node
  unfold execTxRingFetch at ht
  refine State.upd_only ?_ ht
  repeat' (first | with_reducible assumption | exact Part.off_sub hp rfl | with_reducible apply Node.when_only
                  | with_reducible apply Node.took_only | with_reducible apply Node.receive_only | with_reducible apply Node.txStop_only
                  | with_reducible apply Node.txHold_only | with_reducible apply Node.txFetchFails_only | with_reducible apply foldl_only
                  | with_reducible apply foldlPair_only | intro _ | split | dsimp -proj only)

theorem execTxWriteback_only {pt : Part} (hp : pt.off [.host, .out, .regs] = true) (s : State) (s' : State) (ht : execTxWriteback s = .next s') :
    s.node.Same pt s'.node := by
  have h0 := Node.Same.refl pt s.node
  unfold execTxWriteback at ht
  refine State.upd_only ?_ ht
  repeat' (first | with_reducible assumption | exact Part.off_sub hp rfl | with_reducible apply Node.when_only
                  | with_reducible apply Node.each_only | with_reducible apply Node.emit_only | with_reducible apply Node.ringAdvance_only
                  | with_reducible apply Node.ringDone_only | intro _ | split | dsimp -proj only | with_reducible apply with_host_only)

theorem Node.ringTail_only {pt : Part} {n0 : Node} (hp : pt.off [.runs, .book, .cellar, .host, .regs] = true) (n : Node) (k v : Nat)
    (h0 : n0.Same pt n) :
    n0.Same pt (Node.ringTail n k v) := by
  unfold Node.ringTail
  repeat' (first | with_reducible assumption | exact Part.off_sub hp rfl | with_reducible apply Node.when_only
                  | with_reducible apply Node.wr_only | with_reducible apply Node.count_only | with_reducible apply Node.rxRetry_only | intro _
                  | split | dsimp -proj only)

theorem execTailWrite_only {pt : Part} (hp : pt.off [.runs, .book, .cellar, .blend, .host, .regs] = true) (by_ : Initiator) (tx : Bool)
    (ring : Fin 4) (v : Half) (s : State) (s' : State) (ht : execTailWrite by_ tx ring v s = .next s') :
    s.node.Same pt s'.node := by
  have h0 := Node.Same.refl pt s.node
  unfold execTailWrite at ht
  refine State.upd_only ?_ ht
  repeat' (first | with_reducible assumption | exact Part.off_sub hp rfl | with_reducible apply Node.access_only
                  | with_reducible apply Node.ringTail_only | intro _)

theorem Node.detachRing_only {pt : Part} {n0 : Node} (hp : pt.off [.host] = true) (n : Node) (k : Nat) (h0 : n0.Same pt n) :
    n0.Same pt (Node.detachRing n k) := by
  unfold Node.detachRing
  repeat' (first | with_reducible assumption | exact Part.off_sub hp rfl | with_reducible apply Node.setRing_only | intro _
                  | split | dsimp -proj only | with_reducible apply with_host_only)

theorem Node.ringCfg_only {pt : Part} {n0 : Node} (hp : pt.off [.runs, .book, .cellar, .host, .regs] = true) (n : Node) (k size : Nat)
    (irqEn : Bool) (h0 : n0.Same pt n) :
    n0.Same pt (Node.ringCfg n k size irqEn) := by
  unfold Node.ringCfg
  repeat' (first | with_reducible assumption | exact Part.off_sub hp rfl | with_reducible apply Node.when_only
                  | with_reducible apply Node.wr_only | with_reducible apply Node.wrBit_only | with_reducible apply Node.count_only
                  | with_reducible apply Node.rxRetry_only | with_reducible apply Node.detachRing_only | intro _ | split)

theorem execRingSizeWrite_only {pt : Part} (hp : pt.off [.runs, .book, .cellar, .blend, .host, .regs] = true) (by_ : Initiator) (tx : Bool)
    (ring : Fin 4) (size : Half) (irqEn : Bool) (s : State) (s' : State) (ht : execRingSizeWrite by_ tx ring size irqEn s = .next s') :
    s.node.Same pt s'.node := by
  have h0 := Node.Same.refl pt s.node
  unfold execRingSizeWrite at ht
  refine State.upd_only ?_ ht
  repeat' (first | with_reducible assumption | exact Part.off_sub hp rfl | with_reducible apply Node.access_only
                  | with_reducible apply Node.ringCfg_only | intro _)

theorem Node.setOrigin_only {pt : Part} {n0 : Node} (hp : pt.off [.shadow, .force] = true) (n : Node) (ns : Int) (h0 : n0.Same pt n) :
    n0.Same pt (Node.setOrigin n ns) := by
  unfold Node.setOrigin
  repeat' (first | with_reducible assumption | exact Part.off_sub hp rfl | with_reducible apply Node.putShadows_only
                  | with_reducible apply Node.putForces_only)

theorem Node.startAction_only {pt : Part} {n0 : Node} (hp : pt.off [.book, .host, .regs] = true) (n : Node) (i a : Nat) (f : Node → Node)
    (h0 : n0.Same pt n) (h1 : ∀ (x0 : Node), n0.Same pt x0 → n0.Same pt (f x0)) :
    n0.Same pt (Node.startAction n i a f) := by
  unfold Node.startAction
  repeat' (first | with_reducible assumption | exact Part.off_sub hp rfl | with_reducible apply h1
                  | with_reducible apply Node.when_only | with_reducible apply Node.count_only | with_reducible apply Node.raise_only
                  | with_reducible apply Node.xabort_only | intro _ | split)

theorem Node.occupy_only {pt : Part} {n0 : Node} (hp : pt.off [.trellis] = true) (n : Node) (i a : Nat) (h0 : n0.Same pt n) :
    n0.Same pt (Node.occupy n i a) := by
  unfold Node.occupy
  repeat' (first | with_reducible assumption | exact Part.off_sub hp rfl | intro _ | split | dsimp -proj only
                  | with_reducible apply with_trellis_only)

theorem Node.actionDone_only {pt : Part} {n0 : Node} (hp : pt.off [.book, .trellis, .host, .regs] = true) (n : Node) (i lateNs : Nat)
    (h0 : n0.Same pt n) :
    n0.Same pt (Node.actionDone n i lateNs) := by
  unfold Node.actionDone
  repeat' (first | with_reducible assumption | exact Part.off_sub hp rfl | with_reducible apply Node.when_only
                  | with_reducible apply Node.wr_only | with_reducible apply Node.count_only | with_reducible apply Node.raise_only | intro _
                  | split | dsimp -proj only | with_reducible apply with_trellis_only)

theorem execGateWindowOpen_only {pt : Part} (hp : pt.off [.trellis] = true) (entry : Nat) (s : State) (s' : State)
    (ht : execGateWindowOpen entry s = .next s') :
    s.node.Same pt s'.node := by
  have h0 := Node.Same.refl pt s.node
  unfold execGateWindowOpen at ht
  refine State.upd_only ?_ ht
  repeat' (first | with_reducible assumption | exact Part.off_sub hp rfl | with_reducible apply Node.when_only | intro _ | split
                  | dsimp -proj only | with_reducible apply with_trellis_only)

theorem execGateWindowClose_only {pt : Part} (hp : pt.off [.trellis] = true) (entry : Nat) (s : State) (s' : State)
    (ht : execGateWindowClose entry s = .next s') :
    s.node.Same pt s'.node := by
  have h0 := Node.Same.refl pt s.node
  unfold execGateWindowClose at ht
  refine State.upd_only ?_ ht
  repeat' (first | with_reducible assumption | exact Part.off_sub hp rfl | intro _ | split | dsimp -proj only
                  | with_reducible apply with_trellis_only)

theorem Node.setSending_only {pt : Part} {n0 : Node} (hp : pt.off [.cellar] = true) (n : Node) (p : Nat) (c : Option Copy) (h0 : n0.Same pt n) :
    n0.Same pt (Node.setSending n p c) := by
  unfold Node.setSending
  repeat' (first | with_reducible assumption | exact Part.off_sub hp rfl | intro _ | split | dsimp -proj only
                  | with_reducible apply with_cellar_only)

theorem Node.selectFrom_only {pt : Part} {n0 : Node} (hp : pt.off [.runs, .book, .cellar, .host, .regs] = true) (n : Node) (p ns q : Nat)
    (h : n0.Same pt n) :
    n0.Same pt (n.selectFrom p ns q) := by
  induction q generalizing n with
  | zero => exact h
  | succ q ih =>
    have hc := Node.headCopy_only (Part.off_sub hp rfl) n p q h
    unfold Node.selectFrom
    split
    · rename_i heq; rw [heq] at hc; dsimp only at hc; exact ih _ hc
    · rename_i heq; rw [heq] at hc; dsimp only at hc
      repeat' (first | with_reducible assumption | exact hc | exact Part.off_sub hp rfl | with_reducible apply ih
                      | with_reducible apply Node.hpTake_only | with_reducible apply Node.setSending_only | intro _ | split | dsimp -proj only
                      | with_reducible apply with_cellar_only)

theorem execCopySelected_only {pt : Part} (hp : pt.off [.runs, .book, .cellar, .host, .regs] = true) (port : Fin 19) (ns : Nat) (s : State)
    (s' : State) (ht : execCopySelected port ns s = .next s') :
    s.node.Same pt s'.node := by
  have h0 := Node.Same.refl pt s.node
  unfold execCopySelected at ht
  refine State.upd_only ?_ ht
  repeat' (first | with_reducible assumption | exact Part.off_sub hp rfl | with_reducible apply Node.when_only
                  | with_reducible apply Node.selectFrom_only | intro _)

theorem Node.gateSpill_only {pt : Part} {n0 : Node} (hp : pt.off [.regs] = true) (n : Node) (h0 : n0.Same pt n) :
    n0.Same pt (Node.gateSpill n) := by
  unfold Node.gateSpill
  repeat' (first | with_reducible assumption | exact Part.off_sub hp rfl | with_reducible apply Node.when_only
                  | with_reducible apply Node.each_only | with_reducible apply Node.count_only | intro _ | split | dsimp -proj only)

theorem Node.awaitOrigin_only {pt : Part} {n0 : Node} (hp : pt.off [.trellis] = true) (n : Node) (h0 : n0.Same pt n) :
    n0.Same pt (Node.awaitOrigin n) := by
  unfold Node.awaitOrigin
  repeat' (first | with_reducible assumption | exact Part.off_sub hp rfl | intro _ | split | dsimp -proj only
                  | with_reducible apply with_trellis_only)

theorem Node.endHolds_only {pt : Part} {n0 : Node} (hp : pt.off [.trellis, .regs] = true) (n : Node) (h0 : n0.Same pt n) :
    n0.Same pt (Node.endHolds n) := by
  unfold Node.endHolds
  repeat' (first | with_reducible assumption | exact Part.off_sub hp rfl | with_reducible apply Node.wrBit_only | intro _ | split
                  | dsimp -proj only | with_reducible apply with_trellis_only)

theorem Node.scheduleApplied_only {pt : Part} {n0 : Node} (hp : pt.off [.trellis, .regs, .shadow, .force] = true) (n before : Node)
    (h0 : n0.Same pt n) (_h1 : n0.Same pt before) :
    n0.Same pt (Node.scheduleApplied n before) := by
  unfold Node.scheduleApplied
  repeat' (first | with_reducible assumption | exact Part.off_sub hp rfl | with_reducible apply Node.when_only
                  | with_reducible apply Node.wr_only | with_reducible apply Node.setOrigin_only | with_reducible apply Node.gateSpill_only
                  | with_reducible apply Node.awaitOrigin_only | with_reducible apply Node.endHolds_only | intro _ | split | dsimp -proj only
                  | with_reducible apply with_trellis_only)

theorem Node.bufferError_only {pt : Part} {n0 : Node} (hp : pt.off [.faults, .book, .cellar, .host, .regs] = true) (n : Node) (cask port : Nat)
    (h0 : n0.Same pt n) :
    n0.Same pt (Node.bufferError n cask port) := by
  unfold Node.bufferError
  repeat' (first | with_reducible assumption | exact Part.off_sub hp rfl | with_reducible apply Node.when_only
                  | with_reducible apply Node.wr_only | with_reducible apply Node.count_only | with_reducible apply Node.addFault_only
                  | with_reducible apply Node.raise_only | intro _ | split | dsimp -proj only | with_reducible apply with_cellar_only)

theorem Node.correct_only {pt : Part} {n0 : Node} (hp : pt.off [.runs, .book, .host, .regs] = true) (n : Node) (c : Copy) (h0 : n0.Same pt n) :
    n0.Same pt (Node.correct n c).1 := by
  unfold Node.correct
  repeat' (first | with_reducible assumption | exact Part.off_sub hp rfl | with_reducible apply Node.when_only
                  | with_reducible apply Node.count_only | with_reducible apply Node.raiseFirst_only | with_reducible apply Node.endRun_only
                  | intro _ | split | dsimp -proj only)

theorem Node.vintnerTakes_only {pt : Part} {n0 : Node} (hp : pt.off [.out] = true) (n : Node) (c : Copy) (h0 : n0.Same pt n) :
    n0.Same pt (Node.vintnerTakes n c) := by
  unfold Node.vintnerTakes
  repeat' (first | with_reducible assumption | exact Part.off_sub hp rfl | with_reducible apply Node.when_only
                  | with_reducible apply Node.emit_only | intro _ | split | dsimp -proj only)

theorem execCopySent_only {pt : Part} (hp : pt.off [.faults, .runs, .book, .cellar, .host, .out, .regs] = true) (port : Fin 19) (ecc : EccResult)
    (cask : Nat) (s : State) (s' : State) (ht : execCopySent port ecc cask s = .next s') :
    s.node.Same pt s'.node := by
  have h0 := Node.Same.refl pt s.node
  unfold execCopySent at ht
  refine State.upd_only ?_ ht
  repeat' (first | with_reducible assumption | exact Part.off_sub hp rfl | with_reducible apply Node.when_only
                  | with_reducible apply Node.count_only | with_reducible apply Node.emit_only | with_reducible apply Node.copyLeft_only
                  | with_reducible apply Node.setSending_only | with_reducible apply Node.bufferError_only
                  | with_reducible apply Node.correct_only | with_reducible apply Node.vintnerTakes_only | intro _ | split)

theorem execAgeingSweep_only {pt : Part} (hp : pt.off [.book, .cellar, .host, .regs] = true) (s : State) (s' : State)
    (ht : execAgeingSweep s = .next s') :
    s.node.Same pt s'.node := by
  have h0 := Node.Same.refl pt s.node
  unfold execAgeingSweep at ht
  refine State.upd_only ?_ ht
  repeat' (first | with_reducible assumption | exact Part.off_sub hp rfl | with_reducible apply Node.when_only
                  | with_reducible apply Node.each_only | with_reducible apply Node.count_only | with_reducible apply Node.raise_only
                  | with_reducible apply Node.dropCopies_only | with_reducible apply Node.countAged_only | intro _ | split | dsimp -proj only
                  | with_reducible apply with_cellar_only)

theorem execBufferScrubLine_only {pt : Part} (hp : pt.off [.faults, .book, .cellar, .host, .regs] = true) (line : Nat) (holder : Option Nat)
    (result : EccResult) (s : State) (s' : State) (ht : execBufferScrubLine line holder result s = .next s') :
    s.node.Same pt s'.node := by
  have h0 := Node.Same.refl pt s.node
  unfold execBufferScrubLine at ht
  refine State.upd_only ?_ ht
  repeat' (first | with_reducible assumption | exact Part.off_sub hp rfl | with_reducible apply Node.when_only
                  | with_reducible apply Node.count_only | with_reducible apply Node.incr_only | with_reducible apply Node.dropCopies_only
                  | with_reducible apply Node.bufferError_only | intro _ | split | dsimp -proj only | with_reducible apply with_cellar_only)

theorem execLeesReleaseFrame_only {pt : Part} (hp : pt.off [.book, .cellar, .ina, .host, .out, .regs] = true) (s : State) (s' : State)
    (ht : execLeesReleaseFrame s = .next s') :
    s.node.Same pt s'.node := by
  have h0 := Node.Same.refl pt s.node
  unfold execLeesReleaseFrame at ht
  refine State.upd_only ?_ ht
  repeat' (first | with_reducible assumption | exact Part.off_sub hp rfl | with_reducible apply Node.when_only
                  | with_reducible apply Node.lookup_only | intro _ | split | dsimp -proj only | with_reducible apply with_cellar_only)

theorem execMdCollision_only {pt : Part} (hp : pt.off [.book, .cellar, .ports, .host, .fresh, .regs] = true) (md : Fin 2) (s : State) (s' : State)
    (ht : execMdCollision md s = .next s') :
    s.node.Same pt s'.node := by
  have h0 := Node.Same.refl pt s.node
  unfold execMdCollision at ht
  refine State.upd_only ?_ ht
  repeat' (first | with_reducible assumption | exact Part.off_sub hp rfl | with_reducible apply Node.count_only
                  | with_reducible apply Node.setPort_only | with_reducible apply Node.took_only | with_reducible apply Node.raise_only
                  | with_reducible apply Node.released_only | with_reducible apply Node.setSending_only | intro _ | split | dsimp -proj only
                  | with_reducible apply with_cellar_only)

theorem execMdBackoffEnd_only {pt : Part} (hp : pt.off [.ports] = true) (md : Fin 2) (s : State) (s' : State)
    (ht : execMdBackoffEnd md s = .next s') :
    s.node.Same pt s'.node := by
  have h0 := Node.Same.refl pt s.node
  unfold execMdBackoffEnd at ht
  refine State.upd_only ?_ ht
  repeat' (first | with_reducible assumption | exact Part.off_sub hp rfl | with_reducible apply Node.setPort_only)

theorem execLateCollision_only {pt : Part} (hp : pt.off [.book, .cellar, .host, .regs] = true) (md : Fin 2) (s : State) (s' : State)
    (ht : execLateCollision md s = .next s') :
    s.node.Same pt s'.node := by
  have h0 := Node.Same.refl pt s.node
  unfold execLateCollision at ht
  refine State.upd_only ?_ ht
  repeat' (first | with_reducible assumption | exact Part.off_sub hp rfl | with_reducible apply Node.count_only
                  | with_reducible apply Node.raise_only | with_reducible apply Node.released_only | with_reducible apply Node.setSending_only
                  | intro _ | split | dsimp -proj only)

theorem Node.inaState_only {pt : Part} {n0 : Node} (hp : pt.off [.regs] = true) (n : Node) (v : Nat) (h0 : n0.Same pt n) :
    n0.Same pt (Node.inaState n v) := by
  unfold Node.inaState
  repeat' (first | with_reducible assumption | exact Part.off_sub hp rfl | with_reducible apply Node.wr_only)

theorem Node.ownLines_only {pt : Part} {n0 : Node} (hp : pt.off [.regs] = true) (n : Node) (h0 : n0.Same pt n) :
    n0.Same pt (Node.ownLines n) := by
  unfold Node.ownLines
  repeat' (first | with_reducible assumption | exact Part.off_sub hp rfl | with_reducible apply Node.when_only
                  | with_reducible apply Node.wr_only | intro _)

theorem Node.otherLines_only {pt : Part} {n0 : Node} (hp : pt.off [.ina, .regs] = true) (n : Node) (info : ConsistInfo) (h0 : n0.Same pt n) :
    n0.Same pt (Node.otherLines n info) := by
  unfold Node.otherLines
  repeat' (first | with_reducible assumption | exact Part.off_sub hp rfl | with_reducible apply Node.when_only
                  | with_reducible apply Node.wr_only | intro _ | split | dsimp -proj only | with_reducible apply with_ina_only)

theorem Node.showSpec_only {pt : Part} {n0 : Node} (hp : pt.off [.regs] = true) (n : Node) (target kind : Nat) (counter : Word) (h0 : n0.Same pt
    n) :
    n0.Same pt (Node.showSpec n target kind counter) := by
  unfold Node.showSpec
  repeat' (first | with_reducible assumption | exact Part.off_sub hp rfl | with_reducible apply Node.wr_only
                  | with_reducible apply Node.wrBit_only | with_reducible apply Node.setSpec_only)

theorem Node.freeLees_only {pt : Part} {n0 : Node} (hp : pt.off [.cellar, .host, .regs] = true) (n : Node) (h0 : n0.Same pt n) :
    n0.Same pt (Node.freeLees n) := by
  unfold Node.freeLees
  repeat' (first | with_reducible assumption | exact Part.off_sub hp rfl | with_reducible apply Node.each_only
                  | with_reducible apply Node.countBy_only | with_reducible apply Node.stampEntry_only | intro _ | split | dsimp -proj only
                  | with_reducible apply with_cellar_only)

theorem Node.endSpec_only {pt : Part} {n0 : Node} (hp : pt.off [.cellar, .ina, .regs] = true) (n : Node) (h0 : n0.Same pt n) :
    n0.Same pt (Node.endSpec n) := by
  unfold Node.endSpec
  repeat' (first | with_reducible assumption | exact Part.off_sub hp rfl | with_reducible apply Node.showSpec_only | intro _
                  | split | dsimp -proj only | with_reducible apply with_cellar_only | with_reducible apply with_ina_only
                  | with_reducible apply with_cellar_ina_only)

theorem Node.dropSpec_only {pt : Part} {n0 : Node} (hp : pt.off [.book, .cellar, .ina, .host, .regs] = true) (n : Node) (reason : Nat)
    (h0 : n0.Same pt n) :
    n0.Same pt (Node.dropSpec n reason) := by
  unfold Node.dropSpec
  repeat' (first | with_reducible assumption | exact Part.off_sub hp rfl | with_reducible apply Node.when_only
                  | with_reducible apply Node.raise_only | with_reducible apply Node.inaState_only | with_reducible apply Node.freeLees_only
                  | with_reducible apply Node.endSpec_only | intro _ | split | dsimp -proj only | with_reducible apply with_ina_only)

theorem Node.startSpec_only {pt : Part} {n0 : Node} (hp : pt.off [.book, .cellar, .ina, .host, .regs] = true) (n : Node) (index : Nat)
    (v : GraftVariant) (t : List ConsistInfo) (trigger leadNs : Nat) (h0 : n0.Same pt n) :
    n0.Same pt (Node.startSpec n index v t trigger leadNs) := by
  unfold Node.startSpec
  repeat' (first | with_reducible assumption | exact Part.off_sub hp rfl | with_reducible apply Node.raiseAs_only
                  | with_reducible apply Node.inaState_only | with_reducible apply Node.showSpec_only | intro _ | split | dsimp -proj only
                  | with_reducible apply with_cellar_only | with_reducible apply with_ina_only | with_reducible apply with_cellar_ina_only)

theorem Node.refineSpec_only {pt : Part} {n0 : Node} (hp : pt.off [.cellar, .ina, .regs] = true) (n : Node) (t : List ConsistInfo)
    (h0 : n0.Same pt n) :
    n0.Same pt (Node.refineSpec n t) := by
  unfold Node.refineSpec
  repeat' (first | with_reducible assumption | exact Part.off_sub hp rfl | with_reducible apply Node.wr_only | intro _ | split
                  | dsimp -proj only | with_reducible apply with_cellar_only | with_reducible apply with_ina_only
                  | with_reducible apply with_cellar_ina_only)

theorem Node.decideCommit_only {pt : Part} {n0 : Node} (hp : pt.off [.ina, .regs] = true) (n : Node) (c : TopoCommit) (h0 : n0.Same pt n) :
    n0.Same pt (Node.decideCommit n c) := by
  unfold Node.decideCommit
  repeat' (first | with_reducible assumption | exact Part.off_sub hp rfl | with_reducible apply Node.inaState_only | intro _
                  | split | dsimp -proj only | with_reducible apply with_ina_only)

theorem Node.startRecompute_only {pt : Part} {n0 : Node} (hp : pt.off [.book, .trellis, .cellar, .ina, .host, .regs, .shadow] = true) (n : Node)
    (h0 : n0.Same pt n) :
    n0.Same pt (Node.startRecompute n) := by
  unfold Node.startRecompute
  repeat' (first | with_reducible assumption | exact Part.off_sub hp rfl | with_reducible apply Node.when_only
                  | with_reducible apply Node.count_only | with_reducible apply Node.raise_only | with_reducible apply Node.reloadGroup_only
                  | with_reducible apply Node.setCode_only | with_reducible apply Node.inaState_only | intro _ | split | dsimp -proj only
                  | with_reducible apply with_cellar_only | with_reducible apply with_ina_only)

theorem Node.settle_only {pt : Part} {n0 : Node} (hp : pt.off [.book, .trellis, .cellar, .ina, .host, .regs, .shadow] = true) (n : Node)
    (h0 : n0.Same pt n) :
    n0.Same pt (Node.settle n) := by
  unfold Node.settle
  repeat' (first | with_reducible assumption | exact Part.off_sub hp rfl | with_reducible apply Node.when_only
                  | with_reducible apply Node.dropSpec_only | with_reducible apply Node.decideCommit_only
                  | with_reducible apply Node.startRecompute_only | intro _ | split | dsimp -proj only)

theorem Node.tableChange_only {pt : Part} {n0 : Node} (hp : pt.off [.book, .cellar, .ina, .host, .regs] = true) (n : Node) (t : List ConsistInfo)
    (trigger leadNs : Nat) (h0 : n0.Same pt n) :
    n0.Same pt (Node.tableChange n t trigger leadNs) := by
  unfold Node.tableChange
  repeat' (first | with_reducible assumption | exact Part.off_sub hp rfl | with_reducible apply Node.inaState_only
                  | with_reducible apply Node.dropSpec_only | with_reducible apply Node.startSpec_only | with_reducible apply Node.refineSpec_only
                  | intro _ | split | dsimp -proj only | with_reducible apply with_ina_only)

theorem Node.learnTable_only {pt : Part} {n0 : Node} (hp : pt.off [.cellar, .ina, .regs] = true) (n : Node) (t : List ConsistInfo)
    (h0 : n0.Same pt n) :
    n0.Same pt (Node.learnTable n t) := by
  unfold Node.learnTable
  repeat' (first | with_reducible assumption | exact Part.off_sub hp rfl | with_reducible apply Node.refineSpec_only | intro _
                  | split | dsimp -proj only | with_reducible apply with_ina_only)

theorem Node.direction_only {pt : Part} {n0 : Node} (hp : pt.off [.book, .cellar, .ina, .host, .regs] = true) (n : Node) (d : Nat) (up : Bool)
    (leadNs : Nat) (h0 : n0.Same pt n) :
    n0.Same pt (Node.direction n d up leadNs) := by
  unfold Node.direction
  repeat' (first | with_reducible assumption | exact Part.off_sub hp rfl | with_reducible apply Node.when_only
                  | with_reducible apply Node.tableChange_only | intro _ | split | dsimp -proj only)

theorem Node.refreshLines_only {pt : Part} {n0 : Node} (hp : pt.off [.book, .trellis, .cellar, .ina, .host, .regs, .shadow] = true) (n : Node)
    (leadNs : Nat) (h0 : n0.Same pt n) :
    n0.Same pt (Node.refreshLines n leadNs) := by
  unfold Node.refreshLines
  repeat' (first | with_reducible assumption | exact Part.off_sub hp rfl | with_reducible apply Node.when_only
                  | with_reducible apply Node.each_only | with_reducible apply Node.wrBit_only | with_reducible apply Node.setLine_only
                  | with_reducible apply Node.raise_only | with_reducible apply Node.ownLines_only | with_reducible apply Node.settle_only
                  | with_reducible apply Node.direction_only | intro _)

theorem Node.startInaug_only {pt : Part} {n0 : Node} (hp : pt.off [.book, .trellis, .cellar, .ina, .host, .regs, .shadow] = true) (n : Node)
    (h0 : n0.Same pt n) :
    n0.Same pt (Node.startInaug n) := by
  unfold Node.startInaug
  repeat' (first | with_reducible assumption | exact Part.off_sub hp rfl | with_reducible apply Node.when_only
                  | with_reducible apply Node.each_only | with_reducible apply Node.settle_only | with_reducible apply Node.direction_only
                  | with_reducible apply Node.refreshLines_only | intro _ | split | dsimp -proj only | with_reducible apply with_ina_only)

theorem Node.hearNew_only {pt : Part} {n0 : Node} (hp : pt.off [.cellar, .ina, .regs] = true) (n : Node) (k : Nat) (c : ConsistInfo)
    (h0 : n0.Same pt n) :
    n0.Same pt (Node.hearNew n k c) := by
  unfold Node.hearNew
  repeat' (first | with_reducible assumption | exact Part.off_sub hp rfl | with_reducible apply Node.when_only
                  | with_reducible apply Node.learnTable_only | intro _ | split | dsimp -proj only)

theorem Node.hello_only {pt : Part} {n0 : Node} (hp : pt.off [.book, .trellis, .cellar, .ina, .host, .regs, .shadow] = true) (n : Node) (k : Nat)
    (mac : Mac) (info : Option ConsistInfo) (leadNs : Nat) (h0 : n0.Same pt n) :
    n0.Same pt (Node.hello n k mac info leadNs) := by
  unfold Node.hello
  repeat' (first | with_reducible assumption | exact Part.off_sub hp rfl | with_reducible apply Node.when_only
                  | with_reducible apply Node.setLine_only | with_reducible apply Node.otherLines_only | with_reducible apply Node.settle_only
                  | with_reducible apply Node.refreshLines_only | with_reducible apply Node.hearNew_only | intro _ | split)

theorem Node.topology_only {pt : Part} {n0 : Node} (hp : pt.off [.book, .trellis, .cellar, .ina, .host, .regs, .shadow] = true) (n : Node) (k : Nat)
    (mac : Mac) (t : List ConsistInfo) (counter : Word) (leadNs : Nat) (h0 : n0.Same pt n) :
    n0.Same pt (Node.topology n k mac t counter leadNs) := by
  unfold Node.topology
  repeat' (first | with_reducible assumption | exact Part.off_sub hp rfl | with_reducible apply Node.when_only
                  | with_reducible apply Node.count_only | with_reducible apply Node.raise_only | with_reducible apply Node.otherLines_only
                  | with_reducible apply Node.settle_only | with_reducible apply Node.tableChange_only | with_reducible apply Node.learnTable_only
                  | with_reducible apply Node.hearNew_only | intro _ | split | dsimp -proj only | with_reducible apply with_ina_only)

theorem execTtdpFrameReceived_only {pt : Part} (hp : pt.off [.book, .trellis, .cellar, .ina, .host, .regs, .shadow] = true) (line : Fin 4)
    (msg : TtdpMsg) (leadNs : Nat) (s : State) (s' : State) (ht : execTtdpFrameReceived line msg leadNs s = .next s') :
    s.node.Same pt s'.node := by
  have h0 := Node.Same.refl pt s.node
  unfold execTtdpFrameReceived at ht
  refine State.upd_only ?_ ht
  repeat' (first | with_reducible assumption | exact Part.off_sub hp rfl | with_reducible apply Node.when_only
                  | with_reducible apply Node.count_only | with_reducible apply Node.hello_only | with_reducible apply Node.topology_only
                  | intro _ | split)

theorem execLineTimeout_only {pt : Part} (hp : pt.off [.book, .trellis, .cellar, .ina, .host, .regs, .shadow] = true) (line : Fin 4) (leadNs : Nat)
    (s : State) (s' : State) (ht : execLineTimeout line leadNs s = .next s') :
    s.node.Same pt s'.node := by
  have h0 := Node.Same.refl pt s.node
  unfold execLineTimeout at ht
  refine State.upd_only ?_ ht
  repeat' (first | with_reducible assumption | exact Part.off_sub hp rfl | with_reducible apply Node.setLine_only
                  | with_reducible apply Node.refreshLines_only)

theorem Node.sendTtdp_only {pt : Part} {n0 : Node} (hp : pt.off [.book, .trellis, .cellar, .ina, .host, .regs, .shadow] = true) (n : Node) (k : Nat)
    (hello : Bool) (h0 : n0.Same pt n) :
    n0.Same pt (Node.sendTtdp n k hello) := by
  unfold Node.sendTtdp
  repeat' (first | with_reducible assumption | exact Part.off_sub hp rfl | with_reducible apply Node.queueAt_only)

theorem execTtdpHelloTx_only {pt : Part} (hp : pt.off [.book, .trellis, .cellar, .ina, .host, .regs, .shadow] = true) (line : Fin 4) (s : State)
    (s' : State) (ht : execTtdpHelloTx line s = .next s') :
    s.node.Same pt s'.node := by
  have h0 := Node.Same.refl pt s.node
  unfold execTtdpHelloTx at ht
  refine State.upd_only ?_ ht
  repeat' (first | with_reducible assumption | exact Part.off_sub hp rfl | with_reducible apply Node.when_only
                  | with_reducible apply Node.setLine_only | with_reducible apply Node.sendTtdp_only | intro _)

theorem execTtdpTopologyTx_only {pt : Part} (hp : pt.off [.book, .trellis, .cellar, .ina, .host, .regs, .shadow] = true) (line : Fin 4) (s : State)
    (s' : State) (ht : execTtdpTopologyTx line s = .next s') :
    s.node.Same pt s'.node := by
  have h0 := Node.Same.refl pt s.node
  unfold execTtdpTopologyTx at ht
  refine State.upd_only ?_ ht
  repeat' (first | with_reducible assumption | exact Part.off_sub hp rfl | with_reducible apply Node.when_only
                  | with_reducible apply Node.sendTtdp_only | intro _)

theorem execSpeculationTimeout_only {pt : Part} (hp : pt.off [.book, .trellis, .cellar, .ina, .host, .regs, .shadow] = true) (s : State)
    (s' : State) (ht : execSpeculationTimeout s = .next s') :
    s.node.Same pt s'.node := by
  have h0 := Node.Same.refl pt s.node
  unfold execSpeculationTimeout at ht
  refine State.upd_only ?_ ht
  repeat' (first | with_reducible assumption | exact Part.off_sub hp rfl | with_reducible apply Node.when_only
                  | with_reducible apply Node.dropSpec_only | with_reducible apply Node.settle_only | intro _)

theorem Node.putSchedule_only {pt : Part} {n0 : Node} (hp : pt.off [.shadow] = true) (n : Node) (words : List (Nat × Word)) (h0 : n0.Same pt n) :
    n0.Same pt (Node.putSchedule n words) := by
  unfold Node.putSchedule
  repeat' (first | with_reducible assumption | exact Part.off_sub hp rfl | with_reducible apply Node.when_only
                  | with_reducible apply Node.putShadows_only | intro _)

theorem execRecomputeValidated_only {pt : Part} (hp : pt.off [.ina, .regs, .shadow] = true) (leadNs : Nat) (entries : List (Nat × Word)) (s : State)
    (s' : State) (ht : execRecomputeValidated leadNs entries s = .next s') :
    s.node.Same pt s'.node := by
  have h0 := Node.Same.refl pt s.node
  unfold execRecomputeValidated at ht
  refine State.upd_only ?_ ht
  repeat' (first | with_reducible assumption | exact Part.off_sub hp rfl | with_reducible apply Node.when_only
                  | with_reducible apply Node.decideCommit_only | with_reducible apply Node.putSchedule_only | intro _ | split)

theorem execRecomputeFail_only {pt : Part} (hp : pt.off [.faults, .book, .ina, .host, .regs] = true) (capacity : Bool) (s : State) (s' : State)
    (ht : execRecomputeFail capacity s = .next s') :
    s.node.Same pt s'.node := by
  have h0 := Node.Same.refl pt s.node
  unfold execRecomputeFail at ht
  refine State.upd_only ?_ ht
  repeat' (first | with_reducible assumption | exact Part.off_sub hp rfl | with_reducible apply Node.when_only
                  | with_reducible apply Node.addFault_only | with_reducible apply Node.raise_only | with_reducible apply Node.inaState_only
                  | intro _ | split | dsimp -proj only | with_reducible apply with_ina_only)

theorem Node.loseTopology_only {pt : Part} {n0 : Node} (hp : pt.off [.cellar, .ina, .host, .regs] = true) (n : Node) (h0 : n0.Same pt n) :
    n0.Same pt (Node.loseTopology n) := by
  unfold Node.loseTopology
  repeat' (first | with_reducible assumption | exact Part.off_sub hp rfl | with_reducible apply Node.when_only
                  | with_reducible apply Node.freeLees_only | with_reducible apply Node.endSpec_only | intro _ | split | dsimp -proj only
                  | with_reducible apply with_ina_only)

theorem Node.writeDirectory_only {pt : Part} {n0 : Node} (hp : pt.off [.regs] = true) (n : Node) (t : List ConsistInfo) (h0 : n0.Same pt n) :
    n0.Same pt (Node.writeDirectory n t) := by
  unfold Node.writeDirectory
  repeat' (first | with_reducible assumption | exact Part.off_sub hp rfl | with_reducible apply Node.putWords_only
                  | with_reducible apply Node.resetWords_only | with_reducible apply Node.ownLines_only)

theorem Node.consistHeard_only {pt : Part} {n0 : Node} (hp : pt.off [.ina, .regs] = true) (n : Node) (t : Telegram) (h0 : n0.Same pt n) :
    n0.Same pt (Node.consistHeard n t) := by
  unfold Node.consistHeard
  repeat' (first | with_reducible assumption | exact Part.off_sub hp rfl | with_reducible apply Node.when_only
                  | with_reducible apply Node.writeDirectory_only | intro _ | split | dsimp -proj only | with_reducible apply with_ina_only)

theorem Node.showPhy_only {pt : Part} {n0 : Node} (hp : pt.off [.regs] = true) (n : Node) (p : Nat) (i : PhyInfo) (h0 : n0.Same pt n) :
    n0.Same pt (Node.showPhy n p i) := by
  unfold Node.showPhy
  repeat' (first | with_reducible assumption | exact Part.off_sub hp rfl | with_reducible apply Node.wr_only
                  | with_reducible apply Node.wrBit_only | with_reducible apply foldl_only | with_reducible apply foldlPair_only | intro _)

theorem Node.setUp_only {pt : Part} {n0 : Node} (hp : pt.off [.regs] = true) (n : Node) (p : Nat) (up : Bool) (h0 : n0.Same pt n) :
    n0.Same pt (Node.setUp n p up) := by
  unfold Node.setUp
  repeat' (first | with_reducible assumption | exact Part.off_sub hp rfl | with_reducible apply Node.wrBit_only)

theorem Node.tellPartner_only {pt : Part} {n0 : Node} (hp : pt.off [.out] = true) (n : Node) (p : Nat) (up : Bool) (h0 : n0.Same pt n) :
    n0.Same pt (Node.tellPartner n p up) := by
  unfold Node.tellPartner
  repeat' (first | with_reducible assumption | exact Part.off_sub hp rfl | with_reducible apply Node.when_only
                  | with_reducible apply Node.emit_only | intro _)

theorem Node.reportUp_only {pt : Part} {n0 : Node} (hp : pt.off [.book, .trellis, .cellar, .ports, .ina, .host, .out, .regs, .shadow] = true)
    (n : Node) (p leadNs : Nat) (h0 : n0.Same pt n) :
    n0.Same pt (Node.reportUp n p leadNs) := by
  unfold Node.reportUp
  repeat' (first | with_reducible assumption | exact Part.off_sub hp rfl | with_reducible apply Node.when_only
                  | with_reducible apply Node.setPort_only | with_reducible apply Node.raise_only | with_reducible apply Node.refreshLines_only
                  | with_reducible apply Node.setUp_only | with_reducible apply Node.tellPartner_only | intro _)

theorem Node.reportDown_only {pt : Part} {n0 : Node} (hp : pt.off [.book, .trellis, .cellar, .ports, .ina, .host, .out, .regs, .shadow] = true)
    (n : Node) (p leadNs : Nat) (h0 : n0.Same pt n) :
    n0.Same pt (Node.reportDown n p leadNs) := by
  unfold Node.reportDown
  repeat' (first | with_reducible assumption | exact Part.off_sub hp rfl | with_reducible apply Node.when_only
                  | with_reducible apply Node.wr_only | with_reducible apply Node.count_only | with_reducible apply Node.setPort_only
                  | with_reducible apply Node.raise_only | with_reducible apply Node.flushPort_only | with_reducible apply Node.cutShort_only
                  | with_reducible apply Node.refreshLines_only | with_reducible apply Node.setUp_only
                  | with_reducible apply Node.tellPartner_only | intro _)

theorem Node.phyLost_only {pt : Part} {n0 : Node} (hp : pt.off [.cellar, .ports, .host, .regs] = true) (n : Node) (p : Nat) (h0 : n0.Same pt n) :
    n0.Same pt (Node.phyLost n p) := by
  unfold Node.phyLost
  repeat' (first | with_reducible assumption | exact Part.off_sub hp rfl | with_reducible apply Node.when_only
                  | with_reducible apply Node.wr_only | with_reducible apply Node.setPort_only | with_reducible apply Node.cutShort_only
                  | with_reducible apply Node.showPhy_only | intro _)

theorem Node.linkGone_only {pt : Part} {n0 : Node} (hp : pt.off [.book, .trellis, .cellar, .ports, .ina, .host, .out, .regs, .shadow] = true)
    (n : Node) (p leadNs : Nat) (h0 : n0.Same pt n) :
    n0.Same pt (Node.linkGone n p leadNs) := by
  unfold Node.linkGone
  repeat' (first | with_reducible assumption | exact Part.off_sub hp rfl | with_reducible apply Node.when_only
                  | with_reducible apply Node.reportDown_only | with_reducible apply Node.phyLost_only | intro _)

theorem Node.attemptFails_only {pt : Part} {n0 : Node} (hp : pt.off [.book, .host, .regs] = true) (n : Node) (p : Nat) (why : LinkFailure)
    (h0 : n0.Same pt n) :
    n0.Same pt (Node.attemptFails n p why) := by
  unfold Node.attemptFails
  repeat' (first | with_reducible assumption | exact Part.off_sub hp rfl | with_reducible apply Node.when_only
                  | with_reducible apply Node.wrBit_only | with_reducible apply Node.count_only | with_reducible apply Node.raise_only | intro _
                  | split)

theorem Node.phyUsable_only {pt : Part} {n0 : Node} (hp : pt.off [.ports, .regs] = true) (n : Node) (p : Nat) (info : PhyInfo) (h0 : n0.Same pt n) :
    n0.Same pt (Node.phyUsable n p info) := by
  unfold Node.phyUsable
  repeat' (first | with_reducible assumption | exact Part.off_sub hp rfl | with_reducible apply Node.when_only
                  | with_reducible apply Node.wr_only | with_reducible apply Node.count_only | with_reducible apply Node.setPort_only
                  | with_reducible apply Node.showPhy_only | intro _ | split)

theorem execPhyLinkOk_only {pt : Part} (hp : pt.off [.book, .ports, .host, .regs] = true) (port : Fin 16) (info : PhyInfo) (s : State) (s' : State)
    (ht : execPhyLinkOk port info s = .next s') :
    s.node.Same pt s'.node := by
  have h0 := Node.Same.refl pt s.node
  unfold execPhyLinkOk at ht
  refine State.upd_only ?_ ht
  repeat' (first | with_reducible assumption | exact Part.off_sub hp rfl | with_reducible apply Node.when_only
                  | with_reducible apply Node.attemptFails_only | with_reducible apply Node.phyUsable_only | intro _ | split)

theorem execLinkUpReport_only {pt : Part} (hp : pt.off [.book, .trellis, .cellar, .ports, .ina, .host, .out, .regs, .shadow] = true) (port : Fin 16)
    (leadNs : Nat) (s : State) (s' : State) (ht : execLinkUpReport port leadNs s = .next s') :
    s.node.Same pt s'.node := by
  have h0 := Node.Same.refl pt s.node
  unfold execLinkUpReport at ht
  refine State.upd_only ?_ ht
  repeat' (first | with_reducible assumption | exact Part.off_sub hp rfl | with_reducible apply Node.when_only
                  | with_reducible apply Node.reportUp_only | intro _)

theorem execPhyLinkLoss_only {pt : Part} (hp : pt.off [.cellar, .ports, .host, .regs] = true) (port : Fin 16) (s : State) (s' : State)
    (ht : execPhyLinkLoss port s = .next s') :
    s.node.Same pt s'.node := by
  have h0 := Node.Same.refl pt s.node
  unfold execPhyLinkLoss at ht
  refine State.upd_only ?_ ht
  repeat' (first | with_reducible assumption | exact Part.off_sub hp rfl | with_reducible apply Node.when_only
                  | with_reducible apply Node.phyLost_only | intro _)

theorem execLinkDownReport_only {pt : Part} (hp : pt.off [.book, .trellis, .cellar, .ports, .ina, .host, .out, .regs, .shadow] = true)
    (port : Fin 16) (leadNs : Nat) (s : State) (s' : State) (ht : execLinkDownReport port leadNs s = .next s') :
    s.node.Same pt s'.node := by
  have h0 := Node.Same.refl pt s.node
  unfold execLinkDownReport at ht
  refine State.upd_only ?_ ht
  repeat' (first | with_reducible assumption | exact Part.off_sub hp rfl | with_reducible apply Node.when_only
                  | with_reducible apply Node.reportDown_only | intro _)

theorem execLinkAttemptFailed_only {pt : Part} (hp : pt.off [.book, .host, .regs] = true) (port : Fin 16) (why : LinkFailure) (s : State)
    (s' : State) (ht : execLinkAttemptFailed port why s = .next s') :
    s.node.Same pt s'.node := by
  have h0 := Node.Same.refl pt s.node
  unfold execLinkAttemptFailed at ht
  refine State.upd_only ?_ ht
  repeat' (first | with_reducible assumption | exact Part.off_sub hp rfl | with_reducible apply Node.when_only
                  | with_reducible apply Node.attemptFails_only | intro _)

theorem Node.followMode_only {pt : Part} {n0 : Node} (hp : pt.off [.book, .trellis, .cellar, .ports, .ina, .host, .out, .regs, .shadow] = true)
    (n : Node) (p : Nat) (h0 : n0.Same pt n) :
    n0.Same pt (Node.followMode n p) := by
  unfold Node.followMode
  repeat' (first | with_reducible assumption | exact Part.off_sub hp rfl | with_reducible apply Node.when_only
                  | with_reducible apply Node.reportUp_only | with_reducible apply Node.linkGone_only | with_reducible apply Node.phyUsable_only
                  | intro _ | split)

theorem Node.followModes_only {pt : Part} {n0 : Node} (hp : pt.off [.book, .trellis, .cellar, .ports, .ina, .host, .out, .regs, .shadow] = true)
    (n : Node) (h0 : n0.Same pt n) :
    n0.Same pt (Node.followModes n) := by
  unfold Node.followModes
  repeat' (first | with_reducible assumption | exact Part.off_sub hp rfl | with_reducible apply Node.followMode_only)

theorem Node.portsApplied_only {pt : Part} {n0 : Node} (hp : pt.off [.book, .trellis, .cellar, .ports, .ina, .host, .out, .regs, .shadow] = true)
    (n before : Node) (h0 : n0.Same pt n) (_h1 : n0.Same pt before) :
    n0.Same pt (Node.portsApplied n before) := by
  unfold Node.portsApplied
  repeat' (first | with_reducible assumption | exact Part.off_sub hp rfl | with_reducible apply Node.when_only
                  | with_reducible apply Node.each_only | with_reducible apply Node.setPort_only | with_reducible apply Node.linkGone_only
                  | with_reducible apply Node.followModes_only | intro _)

theorem Node.updateLine_only {pt : Part} {n0 : Node} (hp : pt.off [.book, .cellar, .ports, .host, .regs] = true) (n : Node) (k : Nat)
    (h0 : n0.Same pt n) :
    n0.Same pt (Node.updateLine n k) := by
  unfold Node.updateLine
  repeat' (first | with_reducible assumption | exact Part.off_sub hp rfl | with_reducible apply Node.when_only
                  | with_reducible apply Node.each_only | with_reducible apply Node.wr_only | with_reducible apply Node.wrBit_only
                  | with_reducible apply Node.raise_only | with_reducible apply Node.phyLost_only | intro _ | split)

theorem Node.updateBypass_only {pt : Part} {n0 : Node} (hp : pt.off [.book, .cellar, .ports, .host, .regs] = true) (n : Node) (h0 : n0.Same pt n) :
    n0.Same pt (Node.updateBypass n) := by
  unfold Node.updateBypass
  repeat' (first | with_reducible assumption | exact Part.off_sub hp rfl | with_reducible apply Node.updateLine_only)

theorem execSettleMaskEnd_only {pt : Part} (hp : pt.off [.book, .trellis, .cellar, .ports, .ina, .host, .out, .regs, .shadow] = true) (lineB : Bool)
    (leadNs : Nat) (s : State) (s' : State) (ht : execSettleMaskEnd lineB leadNs s = .next s') :
    s.node.Same pt s'.node := by
  have h0 := Node.Same.refl pt s.node
  unfold execSettleMaskEnd at ht
  refine State.upd_only ?_ ht
  repeat' (first | with_reducible assumption | exact Part.off_sub hp rfl | with_reducible apply Node.when_only
                  | with_reducible apply Node.each_only | with_reducible apply Node.wrBit_only | with_reducible apply Node.reportUp_only
                  | with_reducible apply Node.reportDown_only | intro _ | split)

theorem Node.wakeEmit_only {pt : Part} {n0 : Node} (hp : pt.off [.book, .cellar, .ports, .host, .out, .regs] = true) (n : Node) (mask : BitVec 4)
    (h0 : n0.Same pt n) :
    n0.Same pt (Node.wakeEmit n mask) := by
  unfold Node.wakeEmit
  repeat' (first | with_reducible assumption | exact Part.off_sub hp rfl | with_reducible apply Node.when_only
                  | with_reducible apply Node.each_only | with_reducible apply Node.wrBit_only | with_reducible apply Node.count_only
                  | with_reducible apply Node.emit_only | with_reducible apply Node.raise_only | with_reducible apply Node.phyLost_only | intro _
                  | split)

theorem execWakeEmit_only {pt : Part} (hp : pt.off [.book, .cellar, .ports, .blend, .host, .out, .regs] = true) (by_ : Initiator) (mask : BitVec 4)
    (s : State) (s' : State) (ht : execWakeEmit by_ mask s = .next s') :
    s.node.Same pt s'.node := by
  have h0 := Node.Same.refl pt s.node
  unfold execWakeEmit at ht
  refine State.upd_only ?_ ht
  repeat' (first | with_reducible assumption | exact Part.off_sub hp rfl | with_reducible apply Node.access_only
                  | with_reducible apply Node.wakeEmit_only | intro _)

theorem execWakeEmissionEnd_only {pt : Part} (hp : pt.off [.regs] = true) (port : Fin 4) (s : State) (s' : State)
    (ht : execWakeEmissionEnd port s = .next s') :
    s.node.Same pt s'.node := by
  have h0 := Node.Same.refl pt s.node
  unfold execWakeEmissionEnd at ht
  refine State.upd_only ?_ ht
  repeat' (first | with_reducible assumption | exact Part.off_sub hp rfl | with_reducible apply Node.wrBit_only)

theorem Node.snapshot_only {pt : Part} {n0 : Node} (hp : pt.off [.regs] = true) (n : Node) (p : Nat) (h0 : n0.Same pt n) :
    n0.Same pt (Node.snapshot n p) := by
  unfold Node.snapshot
  repeat' (first | with_reducible assumption | exact Part.off_sub hp rfl | with_reducible apply Node.putWords_only)

theorem Node.snapGo_only {pt : Part} {n0 : Node} (hp : pt.off [.regs] = true) (n : Node) (v : Word) (h0 : n0.Same pt n) :
    n0.Same pt (Node.snapGo n v) := by
  unfold Node.snapGo
  repeat' (first | with_reducible assumption | exact Part.off_sub hp rfl | with_reducible apply Node.when_only
                  | with_reducible apply Node.each_only | with_reducible apply Node.putWord_only | with_reducible apply Node.wrBit_only
                  | with_reducible apply Node.snapshot_only | intro _)

theorem execSnapCmdGo_only {pt : Part} (hp : pt.off [.blend, .host, .regs] = true) (by_ : Initiator) (v : Word) (s : State) (s' : State)
    (ht : execSnapCmdGo by_ v s = .next s') :
    s.node.Same pt s'.node := by
  have h0 := Node.Same.refl pt s.node
  unfold execSnapCmdGo at ht
  refine State.upd_only ?_ ht
  repeat' (first | with_reducible assumption | exact Part.off_sub hp rfl | with_reducible apply Node.access_only
                  | with_reducible apply Node.snapGo_only | intro _)

theorem execSnapshotComplete_only {pt : Part} (hp : pt.off [.host, .regs] = true) (s : State) (s' : State) (ht : execSnapshotComplete s = .next
    s') :
    s.node.Same pt s'.node := by
  have h0 := Node.Same.refl pt s.node
  unfold execSnapshotComplete at ht
  refine State.upd_only ?_ ht
  repeat' (first | with_reducible assumption | exact Part.off_sub hp rfl | with_reducible apply Node.when_only
                  | with_reducible apply Node.putWord_only | with_reducible apply Node.wr_only | with_reducible apply Node.wrBit_only
                  | with_reducible apply Node.incr_only | with_reducible apply Node.fire_only | intro _)

theorem Node.standPhase_only {pt : Part} {n0 : Node} (hp : pt.off [.trellis, .regs] = true) (n : Node) (err : Int) (h0 : n0.Same pt n) :
    n0.Same pt (Node.standPhase n err) := by
  unfold Node.standPhase
  repeat' (first | with_reducible assumption | exact Part.off_sub hp rfl | with_reducible apply Node.wr_only | intro _ | split
                  | dsimp -proj only | with_reducible apply with_trellis_only)

theorem Node.followStep_only {pt : Part} {n0 : Node} (hp : pt.off [.book, .trellis, .host, .regs] = true) (n : Node) (phase d : Int) (first : Bool)
    (h0 : n0.Same pt n) :
    n0.Same pt (Node.followStep n phase d first) := by
  unfold Node.followStep
  repeat' (first | with_reducible assumption | exact Part.off_sub hp rfl | with_reducible apply Node.when_only
                  | with_reducible apply Node.wr_only | with_reducible apply Node.raise_only | with_reducible apply Node.standPhase_only | intro _
                  | split | dsimp -proj only | with_reducible apply with_trellis_only)

theorem Node.countStep_only {pt : Part} {n0 : Node} (hp : pt.off [.regs] = true) (n : Node) (v : Nat) (h0 : n0.Same pt n) :
    n0.Same pt (Node.countStep n v) := by
  unfold Node.countStep
  repeat' (first | with_reducible assumption | exact Part.off_sub hp rfl | with_reducible apply Node.wr_only)

theorem Node.stepPps_only {pt : Part} {n0 : Node} (hp : pt.off [.pins, .time] = true) (n : Node) (old : Nat) (h0 : n0.Same pt n) :
    n0.Same pt (Node.stepPps n old) := by
  unfold Node.stepPps
  repeat' (first | with_reducible assumption | exact Part.off_sub hp rfl | with_reducible apply Node.when_only | intro _ | split
                  | dsimp -proj only | with_reducible apply with_pins_only | with_reducible apply with_time_only)

theorem Node.stepView_only {pt : Part} {n0 : Node} (hp : pt.off [.pins, .time, .regs] = true) (n : Node) (v : Nat) (d : Int) (h0 : n0.Same pt n) :
    n0.Same pt (Node.stepView n v d) := by
  unfold Node.stepView
  repeat' (first | with_reducible assumption | exact Part.off_sub hp rfl | with_reducible apply Node.when_only
                  | with_reducible apply Node.setView_only | with_reducible apply Node.countStep_only | with_reducible apply Node.stepPps_only
                  | intro _)

theorem Node.rateView_only {pt : Part} {n0 : Node} (hp : pt.off [.time] = true) (n : Node) (v : Nat) (r : Word) (h0 : n0.Same pt n) :
    n0.Same pt (Node.rateView n v r) := by
  unfold Node.rateView
  repeat' (first | with_reducible assumption | exact Part.off_sub hp rfl | with_reducible apply Node.when_only
                  | with_reducible apply Node.setView_only | intro _)

theorem Node.followSource_only {pt : Part} {n0 : Node} (hp : pt.off [.pins, .book, .trellis, .time, .host, .regs] = true) (n : Node) (d : Nat)
    (first : Bool) (h0 : n0.Same pt n) :
    n0.Same pt (Node.followSource n d first) := by
  unfold Node.followSource
  repeat' (first | with_reducible assumption | exact Part.off_sub hp rfl | with_reducible apply Node.when_only
                  | with_reducible apply Node.wrBit_only | with_reducible apply Node.count_only | with_reducible apply Node.raise_only
                  | with_reducible apply Node.followStep_only | with_reducible apply Node.stepView_only | with_reducible apply Node.rateView_only
                  | intro _ | split | dsimp -proj only | with_reducible apply with_time_only)

theorem Node.takeSource_only {pt : Part} {n0 : Node} (hp : pt.off [.pins, .book, .trellis, .time, .host, .regs] = true) (n : Node) (d : Nat)
    (h0 : n0.Same pt n) :
    n0.Same pt (Node.takeSource n d) := by
  unfold Node.takeSource
  repeat' (first | with_reducible assumption | exact Part.off_sub hp rfl | with_reducible apply Node.wr_only
                  | with_reducible apply Node.raise_only | with_reducible apply Node.followSource_only | intro _ | split)

theorem Node.chooseSource_only {pt : Part} {n0 : Node} (hp : pt.off [.pins, .book, .trellis, .time, .host, .regs] = true) (n : Node)
    (h0 : n0.Same pt n) :
    n0.Same pt (Node.chooseSource n) := by
  unfold Node.chooseSource
  repeat' (first | with_reducible assumption | exact Part.off_sub hp rfl | with_reducible apply Node.wr_only
                  | with_reducible apply Node.wrBit_only | with_reducible apply Node.raise_only | with_reducible apply Node.takeSource_only
                  | intro _ | split | dsimp -proj only)

theorem Node.setGoodSyncs_only {pt : Part} {n0 : Node} (hp : pt.off [.time] = true) (n : Node) (d k : Nat) (h0 : n0.Same pt n) :
    n0.Same pt (Node.setGoodSyncs n d k) := by
  unfold Node.setGoodSyncs
  repeat' (first | with_reducible assumption | exact Part.off_sub hp rfl | intro _ | split | dsimp -proj only
                  | with_reducible apply with_time_only)

theorem Node.startDomain_only {pt : Part} {n0 : Node} (hp : pt.off [.time, .regs] = true) (n : Node) (d : Nat) (h0 : n0.Same pt n) :
    n0.Same pt (Node.startDomain n d) := by
  unfold Node.startDomain
  repeat' (first | with_reducible assumption | exact Part.off_sub hp rfl | with_reducible apply Node.putWord_only
                  | with_reducible apply Node.wr_only | with_reducible apply Node.setGoodSyncs_only)

theorem Node.clockApplied_only {pt : Part} {n0 : Node} (hp : pt.off [.pins, .regs] = true) (n : Node) (h0 : n0.Same pt n) :
    n0.Same pt (Node.clockApplied n) := by
  unfold Node.clockApplied
  repeat' (first | with_reducible assumption | exact Part.off_sub hp rfl | with_reducible apply Node.when_only
                  | with_reducible apply Node.wrBit_only | intro _ | split | dsimp -proj only | with_reducible apply with_pins_only)

theorem Node.timeApplied_only {pt : Part} {n0 : Node} (hp : pt.off [.pins, .book, .trellis, .time, .host, .regs] = true) (n before : Node)
    (h0 : n0.Same pt n) (_h1 : n0.Same pt before) :
    n0.Same pt (Node.timeApplied n before) := by
  unfold Node.timeApplied
  repeat' (first | with_reducible assumption | exact Part.off_sub hp rfl | with_reducible apply Node.when_only
                  | with_reducible apply Node.each_only | with_reducible apply Node.chooseSource_only | with_reducible apply Node.startDomain_only
                  | with_reducible apply Node.clockApplied_only | intro _)

theorem Node.timeRestart_only {pt : Part} {n0 : Node} (hp : pt.off [.time] = true) (n : Node) (h0 : n0.Same pt n) :
    n0.Same pt (Node.timeRestart n) := by
  unfold Node.timeRestart
  repeat' (first | with_reducible assumption | exact Part.off_sub hp rfl | intro _ | split | dsimp -proj only
                  | with_reducible apply with_time_only)

theorem execPtpSyncReceived_only {pt : Part} (hp : pt.off [.pins, .book, .trellis, .time, .host, .regs] = true) (d : Fin 2) (offsetNs : Int)
    (rate : Word) (port : Fin 16) (tx : BitVec 16) (s : State) (s' : State) (ht : execPtpSyncReceived d offsetNs rate port tx s = .next s') :
    s.node.Same pt s'.node := by
  have h0 := Node.Same.refl pt s.node
  unfold execPtpSyncReceived at ht
  refine State.upd_only ?_ ht
  repeat' (first | with_reducible assumption | exact Part.off_sub hp rfl | with_reducible apply Node.when_only
                  | with_reducible apply Node.putWord_only | with_reducible apply Node.wr_only | with_reducible apply Node.count_only
                  | with_reducible apply Node.raise_only | with_reducible apply Node.stepView_only | with_reducible apply Node.rateView_only
                  | with_reducible apply Node.followSource_only | with_reducible apply Node.chooseSource_only
                  | with_reducible apply Node.setGoodSyncs_only | intro _)

theorem execDomainLossTimeout_only {pt : Part} (hp : pt.off [.pins, .book, .trellis, .time, .host, .regs] = true) (d : Fin 2) (s : State)
    (s' : State) (ht : execDomainLossTimeout d s = .next s') :
    s.node.Same pt s'.node := by
  have h0 := Node.Same.refl pt s.node
  unfold execDomainLossTimeout at ht
  refine State.upd_only ?_ ht
  repeat' (first | with_reducible assumption | exact Part.off_sub hp rfl | with_reducible apply Node.when_only
                  | with_reducible apply Node.putWord_only | with_reducible apply Node.wr_only | with_reducible apply Node.count_only
                  | with_reducible apply Node.raise_only | with_reducible apply Node.chooseSource_only
                  | with_reducible apply Node.setGoodSyncs_only | intro _)

theorem execRevertTimerExpiry_only {pt : Part} (hp : pt.off [.pins, .book, .trellis, .time, .host, .regs] = true) (s : State) (s' : State)
    (ht : execRevertTimerExpiry s = .next s') :
    s.node.Same pt s'.node := by
  have h0 := Node.Same.refl pt s.node
  unfold execRevertTimerExpiry at ht
  refine State.upd_only ?_ ht
  repeat' (first | with_reducible assumption | exact Part.off_sub hp rfl | with_reducible apply Node.when_only
                  | with_reducible apply Node.takeSource_only | intro _)

theorem execActiveTimeSlewEnd_only {pt : Part} (hp : pt.off [.time, .regs] = true) (s : State) (s' : State)
    (ht : execActiveTimeSlewEnd s = .next s') :
    s.node.Same pt s'.node := by
  have h0 := Node.Same.refl pt s.node
  unfold execActiveTimeSlewEnd at ht
  refine State.upd_only ?_ ht
  repeat' (first | with_reducible assumption | exact Part.off_sub hp rfl | with_reducible apply Node.when_only
                  | with_reducible apply Node.wrBit_only | with_reducible apply Node.rateView_only | intro _ | split | dsimp -proj only
                  | with_reducible apply with_time_only)

theorem execClk10Loss_only {pt : Part} (hp : pt.off [.book, .host, .regs] = true) (s : State) (s' : State) (ht : execClk10Loss s = .next s') :
    s.node.Same pt s'.node := by
  have h0 := Node.Same.refl pt s.node
  unfold execClk10Loss at ht
  refine State.upd_only ?_ ht
  repeat' (first | with_reducible assumption | exact Part.off_sub hp rfl | with_reducible apply Node.when_only
                  | with_reducible apply Node.wrBit_only | with_reducible apply Node.count_only | with_reducible apply Node.raise_only | intro _)

theorem execClk10Return_only {pt : Part} (hp : pt.off [.regs] = true) (s : State) (s' : State) (ht : execClk10Return s = .next s') :
    s.node.Same pt s'.node := by
  have h0 := Node.Same.refl pt s.node
  unfold execClk10Return at ht
  refine State.upd_only ?_ ht
  repeat' (first | with_reducible assumption | exact Part.off_sub hp rfl | with_reducible apply Node.when_only
                  | with_reducible apply Node.wrBit_only | intro _)

theorem execPpsInEdge_only {pt : Part} (hp : pt.off [.pins, .time, .host, .regs] = true) (fraction : Fin 8) (s : State) (s' : State)
    (ht : execPpsInEdge fraction s = .next s') :
    s.node.Same pt s'.node := by
  have h0 := Node.Same.refl pt s.node
  unfold execPpsInEdge at ht
  refine State.upd_only ?_ ht
  repeat' (first | with_reducible assumption | exact Part.off_sub hp rfl | with_reducible apply Node.when_only
                  | with_reducible apply Node.each_only | with_reducible apply Node.wrBit_only | with_reducible apply Node.incr_only
                  | with_reducible apply Node.putWord64_only | with_reducible apply Node.fire_only | with_reducible apply Node.stepView_only
                  | intro _ | split | dsimp -proj only | with_reducible apply with_time_only)

theorem execPpsInMissing_only {pt : Part} (hp : pt.off [.book, .host, .regs] = true) (s : State) (s' : State) (ht : execPpsInMissing s = .next s') :
    s.node.Same pt s'.node := by
  have h0 := Node.Same.refl pt s.node
  unfold execPpsInMissing at ht
  refine State.upd_only ?_ ht
  repeat' (first | with_reducible assumption | exact Part.off_sub hp rfl | with_reducible apply Node.when_only
                  | with_reducible apply Node.wrBit_only | with_reducible apply Node.count_only | with_reducible apply Node.raise_only | intro _)

theorem execPpsOutPulse_only {pt : Part} (hp : pt.off [.pins, .time] = true) (s : State) (s' : State) (ht : execPpsOutPulse s = .next s') :
    s.node.Same pt s'.node := by
  have h0 := Node.Same.refl pt s.node
  unfold execPpsOutPulse at ht
  refine State.upd_only ?_ ht
  repeat' (first | with_reducible assumption | exact Part.off_sub hp rfl | with_reducible apply Node.when_only | intro _ | split
                  | dsimp -proj only | with_reducible apply with_pins_only | with_reducible apply with_time_only
                  | with_reducible apply with_pins_time_only)

theorem execPpsOutPulseEnd_only {pt : Part} (hp : pt.off [.pins] = true) (s : State) (s' : State) (ht : execPpsOutPulseEnd s = .next s') :
    s.node.Same pt s'.node := by
  have h0 := Node.Same.refl pt s.node
  unfold execPpsOutPulseEnd at ht
  refine State.upd_only ?_ ht
  repeat' (first | with_reducible assumption | exact Part.off_sub hp rfl | intro _ | split | dsimp -proj only
                  | with_reducible apply with_pins_only)

theorem Node.putLink_only {pt : Part} {n0 : Node} (hp : pt.off [.regs] = true) (n : Node) (d : Nat) (l : LinkDelay) (h0 : n0.Same pt n) :
    n0.Same pt (Node.putLink n d l) := by
  unfold Node.putLink
  repeat' (first | with_reducible assumption | exact Part.off_sub hp rfl | with_reducible apply Node.putWord_only
                  | with_reducible apply Node.putWord64_only)

theorem execPtpMessageInterval_only {pt : Part} (hp : pt.off [.time, .out, .regs] = true) (d : Fin 2) (msgType : BitVec 4) (delays : List LinkDelay)
    (s : State) (s' : State) (ht : execPtpMessageInterval d msgType delays s = .next s') :
    s.node.Same pt s'.node := by
  have h0 := Node.Same.refl pt s.node
  unfold execPtpMessageInterval at ht
  refine State.upd_only ?_ ht
  repeat' (first | with_reducible assumption | exact Part.off_sub hp rfl | with_reducible apply Node.when_only
                  | with_reducible apply Node.each_only | with_reducible apply Node.emit_only | with_reducible apply Node.putLink_only | intro _
                  | split)

theorem Node.setPending_only {pt : Part} {n0 : Node} (hp : pt.off [.host] = true) (n : Node) (v : Nat) (b : Bool) (h0 : n0.Same pt n) :
    n0.Same pt (Node.setPending n v b) := by
  unfold Node.setPending
  repeat' (first | with_reducible assumption | exact Part.off_sub hp rfl | intro _ | split | dsimp -proj only
                  | with_reducible apply with_host_only)

theorem Node.sendPending_only {pt : Part} {n0 : Node} (hp : pt.off [.host, .out] = true) (n : Node) (h0 : n0.Same pt n) :
    n0.Same pt (Node.sendPending n) := by
  unfold Node.sendPending
  repeat' (first | with_reducible assumption | exact Part.off_sub hp rfl | with_reducible apply Node.when_only
                  | with_reducible apply Node.each_only | with_reducible apply Node.emit_only | with_reducible apply Node.setPending_only
                  | intro _)

theorem Node.msix_only {pt : Part} {n0 : Node} (hp : pt.off [.host, .out] = true) (n : Node) (v : Nat) (h0 : n0.Same pt n) :
    n0.Same pt (Node.msix n v) := by
  unfold Node.msix
  repeat' (first | with_reducible assumption | exact Part.off_sub hp rfl | with_reducible apply Node.setPending_only
                  | with_reducible apply Node.sendPending_only)

theorem Node.eqWrite_only {pt : Part} {n0 : Node} (hp : pt.off [.pins, .host, .out, .regs] = true) (n : Node) (f : Fire) (h0 : n0.Same pt n) :
    n0.Same pt (Node.eqWrite n f) := by
  unfold Node.eqWrite
  repeat' (first | with_reducible assumption | exact Part.off_sub hp rfl | with_reducible apply Node.wr_only
                  | with_reducible apply Node.emit_only | with_reducible apply Node.msix_only | intro _ | split | dsimp -proj only
                  | with_reducible apply with_pins_only | with_reducible apply with_host_only | with_reducible apply with_pins_host_only)

theorem Node.eqSpace_only {pt : Part} {n0 : Node} (hp : pt.off [.pins, .runs, .host, .out, .regs] = true) (n : Node) (h0 : n0.Same pt n) :
    n0.Same pt (Node.eqSpace n) := by
  unfold Node.eqSpace
  repeat' (first | with_reducible assumption | exact Part.off_sub hp rfl | with_reducible apply Node.when_only
                  | with_reducible apply Node.endRun_only | with_reducible apply Node.eqWrite_only | intro _ | split | dsimp -proj only
                  | with_reducible apply with_host_only)

theorem Node.eqPut_only {pt : Part} {n0 : Node} (hp : pt.off [.pins, .runs, .book, .host, .out, .regs] = true) (n : Node) (f : Fire)
    (h0 : n0.Same pt n) :
    n0.Same pt (Node.eqPut n f) := by
  unfold Node.eqPut
  repeat' (first | with_reducible assumption | exact Part.off_sub hp rfl | with_reducible apply Node.count_only
                  | with_reducible apply Node.raiseFirst_only | with_reducible apply Node.eqWrite_only | with_reducible apply Node.eqSpace_only
                  | intro _ | split | dsimp -proj only | with_reducible apply with_host_only)

theorem execInterruptFire_only {pt : Part} (hp : pt.off [.pins, .runs, .book, .host, .out, .regs] = true) (s : State) (s' : State)
    (ht : execInterruptFire s = .next s') :
    s.node.Same pt s'.node := by
  have h0 := Node.Same.refl pt s.node
  unfold execInterruptFire at ht
  refine State.upd_only ?_ ht
  repeat' (first | with_reducible assumption | exact Part.off_sub hp rfl | with_reducible apply Node.when_only
                  | with_reducible apply Node.msix_only | with_reducible apply Node.eqPut_only | intro _ | split | dsimp -proj only
                  | with_reducible apply with_host_only)

theorem Node.eqPop_only {pt : Part} {n0 : Node} (hp : pt.off [.pins, .runs, .host, .out, .regs] = true) (n : Node) (by_ : Initiator)
    (h0 : n0.Same pt n) :
    n0.Same pt (Node.eqPop n by_).1 := by
  unfold Node.eqPop
  repeat' (first | with_reducible assumption | exact Part.off_sub hp rfl | with_reducible apply Node.eqSpace_only | intro _
                  | split | dsimp -proj only | with_reducible apply with_pins_only | with_reducible apply with_host_only
                  | with_reducible apply with_pins_host_only)

theorem Node.lineLost_only {pt : Part} {n0 : Node} (hp : pt.off [.book, .host, .regs] = true) (n : Node) (l : PrefetchLine) (h0 : n0.Same pt n) :
    n0.Same pt (Node.lineLost n l) := by
  unfold Node.lineLost
  repeat' (first | with_reducible assumption | exact Part.off_sub hp rfl | with_reducible apply Node.when_only
                  | with_reducible apply Node.putWord_only | with_reducible apply Node.count_only | with_reducible apply Node.raise_only
                  | intro _)

theorem Node.dropLines_only {pt : Part} {n0 : Node} (hp : pt.off [.book, .host, .regs] = true) (n : Node) (p : PrefetchLine → Bool)
    (h0 : n0.Same pt n) :
    n0.Same pt (Node.dropLines n p) := by
  unfold Node.dropLines
  repeat' (first | with_reducible assumption | exact Part.off_sub hp rfl | with_reducible apply Node.each_only
                  | with_reducible apply Node.lineLost_only | intro _ | split | dsimp -proj only | with_reducible apply with_host_only)

theorem execPrefetchLineExpiry_only {pt : Part} (hp : pt.off [.book, .host, .regs] = true) (line : Nat) (s : State) (s' : State)
    (ht : execPrefetchLineExpiry line s = .next s') :
    s.node.Same pt s'.node := by
  have h0 := Node.Same.refl pt s.node
  unfold execPrefetchLineExpiry at ht
  refine State.upd_only ?_ ht
  repeat' (first | with_reducible assumption | exact Part.off_sub hp rfl | with_reducible apply Node.dropLines_only | intro _
                  | split)

theorem Node.hpDown_only {pt : Part} {n0 : Node} (hp : pt.off [.cellar, .host, .regs] = true) (n : Node) (h0 : n0.Same pt n) :
    n0.Same pt (Node.hpDown n) := by
  unfold Node.hpDown
  repeat' (first | with_reducible assumption | exact Part.off_sub hp rfl | with_reducible apply Node.each_only
                  | with_reducible apply Node.count_only | with_reducible apply Node.setRing_only | with_reducible apply Node.released_only
                  | with_reducible apply Node.flushPort_only | intro _ | split | dsimp -proj only | with_reducible apply with_host_only)

theorem Node.hostPathEnds_only {pt : Part} {n0 : Node} (hp : pt.off [.book, .sessions, .host, .vnt, .vault, .regs] = true) (n : Node)
    (h0 : n0.Same pt n) :
    n0.Same pt (Node.hostPathEnds n) := by
  unfold Node.hostPathEnds
  repeat' (first | with_reducible assumption | exact Part.off_sub hp rfl | with_reducible apply Node.when_only
                  | with_reducible apply Node.each_only | with_reducible apply Node.wrBit_only | with_reducible apply Node.endSession_only
                  | with_reducible apply Node.dropWaits_only | with_reducible apply Node.dropTransfer_only
                  | with_reducible apply Node.dropSession_only | intro _)

theorem Node.resetBridge_only {pt : Part} {n0 : Node} (hp : pt.off [.pins, .book, .cellar, .sessions, .host, .vnt, .vault, .regs] = true) (n : Node)
    (linkDown : Bool) (h0 : n0.Same pt n) :
    n0.Same pt (Node.resetBridge n linkDown) := by
  unfold Node.resetBridge
  repeat' (first | with_reducible assumption | exact Part.off_sub hp rfl | with_reducible apply Node.when_only
                  | with_reducible apply Node.resetWords_only | with_reducible apply Node.wr_only | with_reducible apply Node.wrBit_only
                  | with_reducible apply Node.count_only | with_reducible apply Node.raise_only | with_reducible apply Node.dropLines_only
                  | with_reducible apply Node.hpDown_only | with_reducible apply Node.hostPathEnds_only | intro _ | split | dsimp -proj only
                  | with_reducible apply with_pins_only | with_reducible apply with_host_only)

theorem Node.pcieReset_only {pt : Part} {n0 : Node} (hp : pt.off [.pins, .book, .cellar, .sessions, .host, .vnt, .vault, .regs] = true) (n : Node)
    (linkDown : Bool) (h0 : n0.Same pt n) :
    n0.Same pt (Node.pcieReset n linkDown) := by
  unfold Node.pcieReset
  repeat' (first | with_reducible assumption | exact Part.off_sub hp rfl | with_reducible apply Node.when_only
                  | with_reducible apply Node.resetBridge_only | intro _)

theorem execPciePerst_only {pt : Part} (hp : pt.off [.pins, .book, .cellar, .sessions, .host, .vnt, .vault, .regs] = true) (s : State) (s' : State)
    (ht : execPciePerst s = .next s') :
    s.node.Same pt s'.node := by
  have h0 := Node.Same.refl pt s.node
  unfold execPciePerst at ht
  refine State.upd_only ?_ ht
  repeat' (first | with_reducible assumption | exact Part.off_sub hp rfl | with_reducible apply Node.pcieReset_only)

theorem execPcieHotReset_only {pt : Part} (hp : pt.off [.pins, .book, .cellar, .sessions, .host, .vnt, .vault, .regs] = true) (s : State)
    (s' : State) (ht : execPcieHotReset s = .next s') :
    s.node.Same pt s'.node := by
  have h0 := Node.Same.refl pt s.node
  unfold execPcieHotReset at ht
  refine State.upd_only ?_ ht
  repeat' (first | with_reducible assumption | exact Part.off_sub hp rfl | with_reducible apply Node.pcieReset_only)

theorem execFunctionLevelReset_only {pt : Part} (hp : pt.off [.pins, .book, .cellar, .sessions, .host, .vnt, .vault, .regs] = true) (s : State)
    (s' : State) (ht : execFunctionLevelReset s = .next s') :
    s.node.Same pt s'.node := by
  have h0 := Node.Same.refl pt s.node
  unfold execFunctionLevelReset at ht
  refine State.upd_only ?_ ht
  repeat' (first | with_reducible assumption | exact Part.off_sub hp rfl | with_reducible apply Node.pcieReset_only)

theorem execPcieLinkLoss_only {pt : Part} (hp : pt.off [.pins, .book, .cellar, .sessions, .host, .vnt, .vault, .regs] = true) (s : State)
    (s' : State) (ht : execPcieLinkLoss s = .next s') :
    s.node.Same pt s'.node := by
  have h0 := Node.Same.refl pt s.node
  unfold execPcieLinkLoss at ht
  refine State.upd_only ?_ ht
  repeat' (first | with_reducible assumption | exact Part.off_sub hp rfl | with_reducible apply Node.when_only
                  | with_reducible apply Node.pcieReset_only | intro _)

theorem Node.hbrReset_only {pt : Part} {n0 : Node} (hp : pt.off [.pins, .book, .cellar, .sessions, .host, .vnt, .vault, .regs] = true) (n : Node)
    (h0 : n0.Same pt n) :
    n0.Same pt (Node.hbrReset n) := by
  unfold Node.hbrReset
  repeat' (first | with_reducible assumption | exact Part.off_sub hp rfl | with_reducible apply Node.when_only
                  | with_reducible apply Node.resetBridge_only | intro _)

theorem execHbrCmdReset_only {pt : Part} (hp : pt.off [.pins, .book, .cellar, .sessions, .blend, .host, .vnt, .vault, .regs] = true)
    (by_ : Initiator) (key : Half) (s : State) (s' : State) (ht : execHbrCmdReset by_ key s = .next s') :
    s.node.Same pt s'.node := by
  have h0 := Node.Same.refl pt s.node
  unfold execHbrCmdReset at ht
  refine State.upd_only ?_ ht
  repeat' (first | with_reducible assumption | exact Part.off_sub hp rfl | with_reducible apply Node.when_only
                  | with_reducible apply Node.access_only | with_reducible apply Node.hbrReset_only | intro _)

theorem execPcieLinkUp_only {pt : Part} (hp : pt.off [.host, .out, .regs] = true) (speed width : Fin 4) (s : State) (s' : State)
    (ht : execPcieLinkUp speed width s = .next s') :
    s.node.Same pt s'.node := by
  have h0 := Node.Same.refl pt s.node
  unfold execPcieLinkUp at ht
  refine State.upd_only ?_ ht
  repeat' (first | with_reducible assumption | exact Part.off_sub hp rfl | with_reducible apply Node.when_only
                  | with_reducible apply Node.wr_only | with_reducible apply Node.wrBit_only | with_reducible apply Node.sendPending_only
                  | intro _)

theorem execPcieConfigWrite_only {pt : Part} (hp : pt.off [.pins, .runs, .cellar, .host, .out, .regs] = true) (bme d0 : Bool) (config : PcieConfig)
    (s : State) (s' : State) (ht : execPcieConfigWrite bme d0 config s = .next s') :
    s.node.Same pt s'.node := by
  have h0 := Node.Same.refl pt s.node
  unfold execPcieConfigWrite at ht
  refine State.upd_only ?_ ht
  repeat' (first | with_reducible assumption | exact Part.off_sub hp rfl | with_reducible apply Node.when_only
                  | with_reducible apply Node.sendPending_only | with_reducible apply Node.eqSpace_only | with_reducible apply Node.hpDown_only
                  | intro _ | split | dsimp -proj only | with_reducible apply with_host_only)

theorem execDeviceReadTimeout_only {pt : Part} (hp : pt.off [.book, .host, .regs] = true) (addr : DWord) (read : DeviceRead) (s : State)
    (s' : State) (ht : execDeviceReadTimeout addr read s = .next s') :
    s.node.Same pt s'.node := by
  have h0 := Node.Same.refl pt s.node
  unfold execDeviceReadTimeout at ht
  refine State.upd_only ?_ ht
  repeat' (first | with_reducible assumption | exact Part.off_sub hp rfl | with_reducible apply Node.when_only
                  | with_reducible apply Node.deviceReadFails_only | with_reducible apply Node.txFetchFails_only | intro _ | split)

theorem execNpYield_only {pt : Part} (hp : pt.off [.host, .regs] = true) (s : State) (s' : State) (ht : execNpYield s = .next s') :
    s.node.Same pt s'.node := by
  have h0 := Node.Same.refl pt s.node
  unfold execNpYield at ht
  refine State.upd_only ?_ ht
  repeat' (first | with_reducible assumption | exact Part.off_sub hp rfl | with_reducible apply Node.when_only
                  | with_reducible apply Node.count_only | intro _ | split | dsimp -proj only | with_reducible apply with_host_only)

theorem Node.activate_only {pt : Part} {n0 : Node} (hp : pt.off [.flows, .regs] = true) (n before : Node) (used : List Nat) (i : Nat)
    (h0 : n0.Same pt n) (_h1 : n0.Same pt before) :
    n0.Same pt (Node.activate n before used i) := by
  unfold Node.activate
  repeat' (first | with_reducible assumption | exact Part.off_sub hp rfl | with_reducible apply Node.putWord_only
                  | with_reducible apply Node.wr_only | with_reducible apply Node.wrBit_only | with_reducible apply Node.setFlow_only
                  | with_reducible apply foldl_only | with_reducible apply foldlPair_only | intro _ | split | dsimp -proj only)

theorem Node.reactivate_only {pt : Part} {n0 : Node} (hp : pt.off [.book, .flows, .host, .regs] = true) (n : Node) (h0 : n0.Same pt n) :
    n0.Same pt (Node.reactivate n) := by
  unfold Node.reactivate
  repeat' (first | with_reducible assumption | exact Part.off_sub hp rfl | with_reducible apply Node.when_only
                  | with_reducible apply Node.each_only | with_reducible apply Node.wr_only | with_reducible apply Node.wrBit_only
                  | with_reducible apply Node.setFlow_only | with_reducible apply Node.raise_only | with_reducible apply Node.activate_only
                  | intro _ | split | dsimp -proj only)

theorem Node.dsAsk_only {pt : Part} {n0 : Node} (hp : pt.off [.host, .regs] = true) (n : Node) (len : Nat) (h0 : n0.Same pt n) :
    n0.Same pt (Node.dsAsk n len) := by
  unfold Node.dsAsk
  repeat' (first | with_reducible assumption | exact Part.off_sub hp rfl | with_reducible apply Node.when_only
                  | with_reducible apply Node.xabort_only)

theorem Node.dsPut_only {pt : Part} {n0 : Node} (hp : pt.off [.host, .regs, .ram] = true) (n : Node) (a : Nat) (bs : List Byte) (h0 : n0.Same pt
    n) :
    n0.Same pt (Node.dsPut n a bs) := by
  unfold Node.dsPut
  repeat' (first | with_reducible assumption | exact Part.off_sub hp rfl | with_reducible apply Node.putBytes_only
                  | with_reducible apply Node.dsAsk_only | intro _ | split)

theorem Node.exchange_only {pt : Part} {n0 : Node} (hp : pt.off [.flows, .regs] = true) (n : Node) (i : Nat) (h0 : n0.Same pt n) :
    n0.Same pt (Node.exchange n i) := by
  unfold Node.exchange
  repeat' (first | with_reducible assumption | exact Part.off_sub hp rfl | with_reducible apply Node.wr_only
                  | with_reducible apply Node.wrBit_only | with_reducible apply Node.setFlow_only)

theorem Node.noMac_only {pt : Part} {n0 : Node} (hp : pt.off [.book, .flows, .host, .regs] = true) (n : Node) (i : Nat) (h0 : n0.Same pt n) :
    n0.Same pt (Node.noMac n i) := by
  unfold Node.noMac
  repeat' (first | with_reducible assumption | exact Part.off_sub hp rfl | with_reducible apply Node.when_only
                  | with_reducible apply Node.count_only | with_reducible apply Node.setFlow_only | with_reducible apply Node.raise_only
                  | intro _)

theorem Node.handOver_only {pt : Part} {n0 : Node} (hp : pt.off [.runs, .book, .cellar, .ina, .presses, .host, .out, .regs] = true) (n : Node)
    (i : Nat) (t : Telegram) (mac : Mac) (h0 : n0.Same pt n) :
    n0.Same pt (Node.handOver n i t mac) := by
  unfold Node.handOver
  repeat' (first | with_reducible assumption | exact Part.off_sub hp rfl | with_reducible apply Node.when_only
                  | with_reducible apply Node.count_only | with_reducible apply Node.inject_only | intro _)

theorem Node.fillTrailer_only {pt : Part} {n0 : Node} (hp : pt.off [.flows, .host, .regs, .ram] = true) (n : Node) (i : Nat) (h0 : n0.Same pt n) :
    n0.Same pt (Node.fillTrailer n i) := by
  unfold Node.fillTrailer
  repeat' (first | with_reducible assumption | exact Part.off_sub hp rfl | with_reducible apply Node.when_only
                  | with_reducible apply Node.setFlow_only | with_reducible apply Node.dsPut_only | intro _)

theorem Node.digestSet_only {pt : Part} {n0 : Node} (hp : pt.off [.pair] = true) (n : Node) (i : Nat) (data : List Byte) (h0 : n0.Same pt n) :
    n0.Same pt (Node.digestSet n i data) := by
  unfold Node.digestSet
  repeat' (first | with_reducible assumption | exact Part.off_sub hp rfl | with_reducible apply Node.when_only | intro _ | split
                  | dsimp -proj only | with_reducible apply with_pair_only)

theorem Node.publish_only {pt : Part} {n0 : Node}
    (hp : pt.off [.runs, .book, .trellis, .cellar, .ina, .flows, .presses, .host, .pair, .out, .regs, .ram] = true) (n : Node) (entry i : Nat)
    (h0 : n0.Same pt n) :
    n0.Same pt (Node.publish n entry i) := by
  unfold Node.publish
  repeat' (first | with_reducible assumption | exact Part.off_sub hp rfl | with_reducible apply Node.count_only
                  | with_reducible apply Node.incr_only | with_reducible apply Node.occupy_only | with_reducible apply Node.dsAsk_only
                  | with_reducible apply Node.noMac_only | with_reducible apply Node.handOver_only | with_reducible apply Node.fillTrailer_only
                  | with_reducible apply Node.digestSet_only | intro _ | split)

theorem Node.pull_only {pt : Part} {n0 : Node} (hp : pt.off [.runs, .book, .cellar, .ina, .flows, .presses, .host, .out, .fresh, .regs] = true)
    (n : Node) (i : Nat) (h0 : n0.Same pt n) :
    n0.Same pt (Node.pull n i) := by
  unfold Node.pull
  repeat' (first | with_reducible assumption | exact Part.off_sub hp rfl | with_reducible apply Node.incr_only
                  | with_reducible apply Node.took_only | with_reducible apply Node.noMac_only | with_reducible apply Node.handOver_only | intro _
                  | split)

theorem execPdTx_only {pt : Part}
    (hp : pt.off [.runs, .book, .trellis, .cellar, .ina, .flows, .presses, .host, .pair, .out, .fresh, .regs, .ram] = true) (entry : Nat)
    (s : State) (s' : State) (ht : execPdTx entry s = .next s') :
    s.node.Same pt s'.node := by
  have h0 := Node.Same.refl pt s.node
  unfold execPdTx at ht
  refine State.upd_only ?_ ht
  repeat' (first | with_reducible assumption | exact Part.off_sub hp rfl | with_reducible apply Node.count_only
                  | with_reducible apply Node.startAction_only | with_reducible apply Node.occupy_only | with_reducible apply Node.publish_only
                  | with_reducible apply Node.pull_only | intro _ | split | dsimp -proj only)

theorem Node.msgPull_only {pt : Part} {n0 : Node} (hp : pt.off [.runs, .book, .cellar, .ina, .flows, .presses, .host, .out, .fresh, .regs] = true)
    (n : Node) (i : Nat) (h0 : n0.Same pt n) :
    n0.Same pt (Node.msgPull n i) := by
  unfold Node.msgPull
  repeat' (first | with_reducible assumption | exact Part.off_sub hp rfl | with_reducible apply Node.when_only
                  | with_reducible apply Node.pull_only | intro _)

theorem execMsgCmdPull_only {pt : Part} (hp : pt.off [.runs, .book, .cellar, .ina, .flows, .presses, .blend, .host, .out, .fresh, .regs] = true)
    (by_ : Initiator) (ctx : Fin 1024) (s : State) (s' : State) (ht : execMsgCmdPull by_ ctx s = .next s') :
    s.node.Same pt s'.node := by
  have h0 := Node.Same.refl pt s.node
  unfold execMsgCmdPull at ht
  refine State.upd_only ?_ ht
  repeat' (first | with_reducible assumption | exact Part.off_sub hp rfl | with_reducible apply Node.access_only
                  | with_reducible apply Node.msgPull_only | intro _)

theorem Node.stale_only {pt : Part} {n0 : Node} (hp : pt.off [.book, .flows, .host, .regs] = true) (n : Node) (i : Nat) (h0 : n0.Same pt n) :
    n0.Same pt (Node.stale n i) := by
  unfold Node.stale
  repeat' (first | with_reducible assumption | exact Part.off_sub hp rfl | with_reducible apply Node.when_only
                  | with_reducible apply Node.count_only | with_reducible apply Node.setFlow_only | with_reducible apply Node.raise_only
                  | intro _)

theorem Node.sdtFailed_only {pt : Part} {n0 : Node} (hp : pt.off [.book, .flows, .host, .regs] = true) (n : Node) (i why : Nat) (h0 : n0.Same pt
    n) :
    n0.Same pt (Node.sdtFailed n i why) := by
  unfold Node.sdtFailed
  repeat' (first | with_reducible assumption | exact Part.off_sub hp rfl | with_reducible apply Node.when_only
                  | with_reducible apply Node.wrBit_only | with_reducible apply Node.count_only | with_reducible apply Node.setFlow_only
                  | with_reducible apply Node.raise_only | intro _)

theorem Node.sdtPassed_only {pt : Part} {n0 : Node} (hp : pt.off [.flows, .regs] = true) (n : Node) (i : Nat) (data : List Byte) (h0 : n0.Same
    pt n) :
    n0.Same pt (Node.sdtPassed n i data) := by
  unfold Node.sdtPassed
  repeat' (first | with_reducible assumption | exact Part.off_sub hp rfl | with_reducible apply Node.when_only
                  | with_reducible apply Node.wrBit_only | with_reducible apply Node.setFlow_only | intro _)

theorem Node.acceptPd_only {pt : Part} {n0 : Node} (hp : pt.off [.book, .flows, .host, .regs, .ram] = true) (n : Node) (i : Nat) (t : Telegram)
    (h0 : n0.Same pt n) :
    n0.Same pt (Node.acceptPd n i t) := by
  unfold Node.acceptPd
  repeat' (first | with_reducible assumption | exact Part.off_sub hp rfl | with_reducible apply Node.when_only
                  | with_reducible apply Node.putWord_only | with_reducible apply Node.wrBit_only | with_reducible apply Node.count_only
                  | with_reducible apply Node.raise_only | with_reducible apply Node.dsPut_only | with_reducible apply Node.exchange_only
                  | intro _)

theorem execPdReceived_only {pt : Part} (hp : pt.off [.book, .flows, .host, .regs, .ram] = true) (t : Telegram) (s : State) (s' : State)
    (ht : execPdReceived t s = .next s') :
    s.node.Same pt s'.node := by
  have h0 := Node.Same.refl pt s.node
  unfold execPdReceived at ht
  refine State.upd_only ?_ ht
  repeat' (first | with_reducible assumption | exact Part.off_sub hp rfl | with_reducible apply Node.when_only
                  | with_reducible apply Node.count_only | with_reducible apply Node.stale_only | with_reducible apply Node.sdtFailed_only
                  | with_reducible apply Node.sdtPassed_only | with_reducible apply Node.acceptPd_only | intro _ | split)

theorem Node.answerPull_only {pt : Part} {n0 : Node} (hp : pt.off [.runs, .book, .cellar, .ina, .flows, .presses, .host, .out, .regs] = true)
    (n : Node) (i : Nat) (t : Telegram) (h0 : n0.Same pt n) :
    n0.Same pt (Node.answerPull n i t) := by
  unfold Node.answerPull
  repeat' (first | with_reducible assumption | exact Part.off_sub hp rfl | with_reducible apply Node.incr_only
                  | with_reducible apply Node.dsAsk_only | with_reducible apply Node.noMac_only | with_reducible apply Node.handOver_only
                  | with_reducible apply Node.stale_only | intro _ | split | dsimp -proj only)

theorem execPullRequestReceived_only {pt : Part} (hp : pt.off [.runs, .book, .cellar, .ina, .flows, .presses, .host, .out, .regs] = true)
    (t : Telegram) (s : State) (s' : State) (ht : execPullRequestReceived t s = .next s') :
    s.node.Same pt s'.node := by
  have h0 := Node.Same.refl pt s.node
  unfold execPullRequestReceived at ht
  refine State.upd_only ?_ ht
  repeat' (first | with_reducible assumption | exact Part.off_sub hp rfl | with_reducible apply Node.when_only
                  | with_reducible apply Node.each_only | with_reducible apply Node.count_only | with_reducible apply Node.answerPull_only
                  | intro _ | split | dsimp -proj only)

theorem execSubscriberTimeout_only {pt : Part} (hp : pt.off [.book, .host, .regs, .ram] = true) (ctx : Fin 1024) (s : State) (s' : State)
    (ht : execSubscriberTimeout ctx s = .next s') :
    s.node.Same pt s'.node := by
  have h0 := Node.Same.refl pt s.node
  unfold execSubscriberTimeout at ht
  refine State.upd_only ?_ ht
  repeat' (first | with_reducible assumption | exact Part.off_sub hp rfl | with_reducible apply Node.when_only
                  | with_reducible apply Node.wrBit_only | with_reducible apply Node.count_only | with_reducible apply Node.clearBytes_only
                  | with_reducible apply Node.raise_only | intro _)

theorem Node.setSesState_only {pt : Part} {n0 : Node} (hp : pt.off [.regs] = true) (n : Node) (k v : Nat) (h0 : n0.Same pt n) :
    n0.Same pt (Node.setSesState n k v) := by
  unfold Node.setSesState
  repeat' (first | with_reducible assumption | exact Part.off_sub hp rfl | with_reducible apply Node.wr_only)

theorem Node.sendMd_only {pt : Part} {n0 : Node} (hp : pt.off [.runs, .book, .cellar, .ina, .presses, .host, .out, .regs] = true) (n : Node)
    (k : Nat) (t : Telegram) (c : Option Nat) (h0 : n0.Same pt n) :
    n0.Same pt (Node.sendMd n k t c) := by
  unfold Node.sendMd
  repeat' (first | with_reducible assumption | exact Part.off_sub hp rfl | with_reducible apply Node.when_only
                  | with_reducible apply Node.count_only | with_reducible apply Node.raise_only | with_reducible apply Node.inject_only | intro _
                  | split)

theorem Node.callerGo_only {pt : Part} {n0 : Node}
    (hp : pt.off [.runs, .book, .cellar, .ina, .sessions, .mdStarted, .presses, .host, .out, .regs] = true) (n : Node) (k : Nat) (h0 : n0.Same
        pt n) :
    n0.Same pt (Node.callerGo n k) := by
  unfold Node.callerGo
  repeat' (first | with_reducible assumption | exact Part.off_sub hp rfl | with_reducible apply Node.when_only
                  | with_reducible apply Node.incr_only | with_reducible apply Node.setSes_only | with_reducible apply Node.setSesState_only
                  | with_reducible apply Node.sendMd_only | intro _ | split | dsimp -proj only | with_reducible apply with_mdStarted_only)

theorem Node.replierSend_only {pt : Part} {n0 : Node} (hp : pt.off [.runs, .book, .cellar, .ina, .sessions, .presses, .host, .out, .regs] = true)
    (n : Node) (k : Nat) (com : Word) (h0 : n0.Same pt n) :
    n0.Same pt (Node.replierSend n k com) := by
  unfold Node.replierSend
  repeat' (first | with_reducible assumption | exact Part.off_sub hp rfl | with_reducible apply Node.when_only
                  | with_reducible apply Node.incr_only | with_reducible apply Node.setSes_only | with_reducible apply Node.raise_only
                  | with_reducible apply Node.setSesState_only | with_reducible apply Node.sendMd_only | intro _ | split)

theorem Node.replierGo_only {pt : Part} {n0 : Node} (hp : pt.off [.runs, .book, .cellar, .ina, .sessions, .presses, .host, .out, .regs] = true)
    (n : Node) (k : Nat) (h0 : n0.Same pt n) :
    n0.Same pt (Node.replierGo n k) := by
  unfold Node.replierGo
  repeat' (first | with_reducible assumption | exact Part.off_sub hp rfl | with_reducible apply Node.replierSend_only)

theorem Node.msgGo_only {pt : Part} {n0 : Node}
    (hp : pt.off [.runs, .book, .cellar, .ina, .sessions, .mdStarted, .presses, .host, .out, .regs] = true) (n : Node) (k : Nat) (h0 : n0.Same
        pt n) :
    n0.Same pt (Node.msgGo n k) := by
  unfold Node.msgGo
  repeat' (first | with_reducible assumption | exact Part.off_sub hp rfl | with_reducible apply Node.when_only
                  | with_reducible apply Node.count_only | with_reducible apply Node.dsAsk_only | with_reducible apply Node.callerGo_only
                  | with_reducible apply Node.replierGo_only | intro _ | split | dsimp -proj only)

theorem execMsgCmdGo_only {pt : Part}
    (hp : pt.off [.runs, .book, .cellar, .ina, .sessions, .mdStarted, .presses, .blend, .host, .out, .regs] = true) (by_ : Initiator)
    (session : Fin 256) (s : State) (s' : State) (ht : execMsgCmdGo by_ session s = .next s') :
    s.node.Same pt s'.node := by
  have h0 := Node.Same.refl pt s.node
  unfold execMsgCmdGo at ht
  refine State.upd_only ?_ ht
  repeat' (first | with_reducible assumption | exact Part.off_sub hp rfl | with_reducible apply Node.access_only
                  | with_reducible apply Node.msgGo_only | intro _)

theorem Node.sesTimedOut_only {pt : Part} {n0 : Node} (hp : pt.off [.book, .host, .regs] = true) (n : Node) (k state : Nat) (h0 : n0.Same pt n) :
    n0.Same pt (Node.sesTimedOut n k state) := by
  unfold Node.sesTimedOut
  repeat' (first | with_reducible assumption | exact Part.off_sub hp rfl | with_reducible apply Node.count_only
                  | with_reducible apply Node.raise_only | with_reducible apply Node.setSesState_only)

theorem execMdReplyTimeout_only {pt : Part} (hp : pt.off [.runs, .book, .cellar, .ina, .sessions, .presses, .host, .out, .regs] = true)
    (session : Fin 256) (s : State) (s' : State) (ht : execMdReplyTimeout session s = .next s') :
    s.node.Same pt s'.node := by
  have h0 := Node.Same.refl pt s.node
  unfold execMdReplyTimeout at ht
  refine State.upd_only ?_ ht
  repeat' (first | with_reducible assumption | exact Part.off_sub hp rfl | with_reducible apply Node.when_only
                  | with_reducible apply Node.setSes_only | with_reducible apply Node.sendMd_only | with_reducible apply Node.sesTimedOut_only
                  | intro _ | split | dsimp -proj only)

theorem Node.storeMd_only {pt : Part} {n0 : Node} (hp : pt.off [.host, .regs, .ram] = true) (n : Node) (k : Nat) (t : Telegram) (h0 : n0.Same pt
    n) :
    n0.Same pt (Node.storeMd n k t) := by
  unfold Node.storeMd
  repeat' (first | with_reducible assumption | exact Part.off_sub hp rfl | with_reducible apply Node.putWord_only
                  | with_reducible apply Node.dsPut_only)

theorem Node.arriveMd_only {pt : Part} {n0 : Node} (hp : pt.off [.regs] = true) (n : Node) (t : Telegram) (kinds : List TrdpType)
    (find : Node → Option Nat) (f : Nat → Node → Node) (h0 : n0.Same pt n) (h1 : ∀ (x0 : Nat) (x1 : Node), n0.Same pt x1 → n0.Same pt (f x0 x1)) :
    n0.Same pt (Node.arriveMd n t kinds find f) := by
  unfold Node.arriveMd
  repeat' (first | with_reducible assumption | exact Part.off_sub hp rfl | with_reducible apply h1
                  | with_reducible apply Node.when_only | with_reducible apply Node.count_only | intro _ | split)

theorem Node.forVintner_only {pt : Part} {n0 : Node} (hp : pt.off [.ina, .regs] = true) (n : Node) (k : Nat) (t : Telegram) (h0 : n0.Same pt n) :
    n0.Same pt (Node.forVintner n k t) := by
  unfold Node.forVintner
  repeat' (first | with_reducible assumption | exact Part.off_sub hp rfl | with_reducible apply Node.when_only
                  | with_reducible apply Node.consistHeard_only | intro _)

theorem execMdReplyReceived_only {pt : Part} (hp : pt.off [.runs, .book, .cellar, .ina, .presses, .host, .out, .regs, .ram] = true) (t : Telegram)
    (s : State) (s' : State) (ht : execMdReplyReceived t s = .next s') :
    s.node.Same pt s'.node := by
  have h0 := Node.Same.refl pt s.node
  unfold execMdReplyReceived at ht
  refine State.upd_only ?_ ht
  repeat' (first | with_reducible assumption | exact Part.off_sub hp rfl | with_reducible apply Node.when_only
                  | with_reducible apply Node.raise_only | with_reducible apply Node.setSesState_only | with_reducible apply Node.sendMd_only
                  | with_reducible apply Node.storeMd_only | with_reducible apply Node.arriveMd_only | with_reducible apply Node.forVintner_only
                  | intro _)

theorem execMdErrorReceived_only {pt : Part} (hp : pt.off [.book, .host, .regs] = true) (t : Telegram) (s : State) (s' : State)
    (ht : execMdErrorReceived t s = .next s') :
    s.node.Same pt s'.node := by
  have h0 := Node.Same.refl pt s.node
  unfold execMdErrorReceived at ht
  refine State.upd_only ?_ ht
  repeat' (first | with_reducible assumption | exact Part.off_sub hp rfl | with_reducible apply Node.raise_only
                  | with_reducible apply Node.setSesState_only | with_reducible apply Node.arriveMd_only | intro _)

theorem Node.request_only {pt : Part} {n0 : Node} (hp : pt.off [.runs, .book, .cellar, .ina, .sessions, .presses, .host, .out, .regs, .ram] = true)
    (n : Node) (k : Nat) (t : Telegram) (h0 : n0.Same pt n) :
    n0.Same pt (Node.request n k t) := by
  unfold Node.request
  repeat' (first | with_reducible assumption | exact Part.off_sub hp rfl | with_reducible apply Node.count_only
                  | with_reducible apply Node.setSes_only | with_reducible apply Node.raise_only | with_reducible apply Node.setSesState_only
                  | with_reducible apply Node.sendMd_only | with_reducible apply Node.storeMd_only | intro _ | split | dsimp -proj only)

theorem execReplierTimeout_only {pt : Part} (hp : pt.off [.book, .host, .regs] = true) (session : Fin 256) (s : State) (s' : State)
    (ht : execReplierTimeout session s = .next s') :
    s.node.Same pt s'.node := by
  have h0 := Node.Same.refl pt s.node
  unfold execReplierTimeout at ht
  refine State.upd_only ?_ ht
  repeat' (first | with_reducible assumption | exact Part.off_sub hp rfl | with_reducible apply Node.when_only
                  | with_reducible apply Node.sesTimedOut_only | intro _ | split)

theorem execMdConfirmReceived_only {pt : Part} (hp : pt.off [.book, .host, .regs] = true) (t : Telegram) (s : State) (s' : State)
    (ht : execMdConfirmReceived t s = .next s') :
    s.node.Same pt s'.node := by
  have h0 := Node.Same.refl pt s.node
  unfold execMdConfirmReceived at ht
  refine State.upd_only ?_ ht
  repeat' (first | with_reducible assumption | exact Part.off_sub hp rfl | with_reducible apply Node.raise_only
                  | with_reducible apply Node.setSesState_only | with_reducible apply Node.arriveMd_only | intro _)

theorem Node.setAsk_only {pt : Part} {n0 : Node} (hp : pt.off [.vnt] = true) (n : Node) (a : OdAsk) (h0 : n0.Same pt n) :
    n0.Same pt (Node.setAsk n a) := by
  unfold Node.setAsk
  repeat' (first | with_reducible assumption | exact Part.off_sub hp rfl | with_reducible apply Node.when_only | intro _ | split
                  | dsimp -proj only | with_reducible apply with_vnt_only)

theorem Node.tagSent_only {pt : Part} {n0 : Node} (hp : pt.off [.sessions, .vnt] = true) (n : Node) (p : Path) (h0 : n0.Same pt n) :
    n0.Same pt (Node.tagSent n p) := by
  unfold Node.tagSent
  repeat' (first | with_reducible assumption | exact Part.off_sub hp rfl | with_reducible apply Node.when_only
                  | with_reducible apply Node.setSession_only | intro _)

theorem Node.setT15Box_only {pt : Part} {n0 : Node} (hp : pt.off [.vnt] = true) (n : Node) (p : Nat) (b : T15Box) (h0 : n0.Same pt n) :
    n0.Same pt (Node.setT15Box n p b) := by
  unfold Node.setT15Box
  repeat' (first | with_reducible assumption | exact Part.off_sub hp rfl | intro _ | split | dsimp -proj only
                  | with_reducible apply with_vnt_only)

theorem Node.trdpReply_only {pt : Part} {n0 : Node}
    (hp : pt.off [.runs, .book, .cellar, .ina, .sessions, .presses, .host, .out, .regs, .ram] = true) (n : Node) (src : Ip) (bytes : List Byte)
    (h0 : n0.Same pt n) :
    n0.Same pt (Node.trdpReply n src bytes) := by
  unfold Node.trdpReply
  repeat' (first | with_reducible assumption | exact Part.off_sub hp rfl | with_reducible apply Node.dsPut_only
                  | with_reducible apply Node.replierSend_only | intro _ | split)

theorem Node.sendReply_only {pt : Part} {n0 : Node}
    (hp : pt.off [.runs, .book, .cellar, .ina, .sessions, .presses, .host, .vnt, .out, .regs, .ram] = true) (n : Node) (a : OdAsk) (h : OdHeader)
    (data : List Byte) (h0 : n0.Same pt n) :
    n0.Same pt (Node.sendReply n a h data) := by
  unfold Node.sendReply
  repeat' (first | with_reducible assumption | exact Part.off_sub hp rfl | with_reducible apply Node.when_only
                  | with_reducible apply Node.emit_only | with_reducible apply Node.tagSent_only | with_reducible apply Node.setT15Box_only
                  | with_reducible apply Node.trdpReply_only | intro _ | split)

theorem Node.answerPath_only {pt : Part} {n0 : Node}
    (hp : pt.off [.runs, .book, .cellar, .ina, .sessions, .presses, .host, .vnt, .out, .regs, .ram] = true) (n : Node) (p : Path)
    (abort arg total : Nat) (more : Bool) (data : List Byte) (h0 : n0.Same pt n) :
    n0.Same pt (Node.answerPath n p abort arg total more data) := by
  unfold Node.answerPath
  repeat' (first | with_reducible assumption | exact Part.off_sub hp rfl | with_reducible apply Node.sendReply_only)

theorem Node.odEnd_only {pt : Part} {n0 : Node}
    (hp : pt.off [.runs, .book, .cellar, .ina, .sessions, .presses, .host, .vnt, .out, .regs, .ram] = true) (n : Node) (p : Path) (irq : Bool)
    (abort arg : Nat) (more : Bool) (h0 : n0.Same pt n) :
    n0.Same pt (Node.odEnd n p irq abort arg more) := by
  unfold Node.odEnd
  repeat' (first | with_reducible assumption | exact Part.off_sub hp rfl | with_reducible apply Node.when_only
                  | with_reducible apply Node.wr_only | with_reducible apply Node.wrBit_only | with_reducible apply Node.count_only
                  | with_reducible apply Node.fire_only | with_reducible apply Node.answerPath_only | intro _ | split)

theorem Node.odAbort_only {pt : Part} {n0 : Node}
    (hp : pt.off [.runs, .book, .cellar, .ina, .sessions, .presses, .host, .vnt, .out, .regs, .ram] = true) (n : Node) (p : Path) (irq : Bool)
    (abort : Nat) (h0 : n0.Same pt n) :
    n0.Same pt (Node.odAbort n p irq abort) := by
  unfold Node.odAbort
  repeat' (first | with_reducible assumption | exact Part.off_sub hp rfl | with_reducible apply Node.odEnd_only)

theorem Node.odReply_only {pt : Part} {n0 : Node}
    (hp : pt.off [.runs, .book, .cellar, .ina, .sessions, .presses, .host, .vnt, .out, .regs, .ram] = true) (n : Node) (p : Path) (irq : Bool)
    (data : List Byte) (total : Nat) (more : Bool) (h0 : n0.Same pt n) :
    n0.Same pt (Node.odReply n p irq data total more) := by
  unfold Node.odReply
  repeat' (first | with_reducible assumption | exact Part.off_sub hp rfl | with_reducible apply Node.wr_only
                  | with_reducible apply Node.putBytes_only | with_reducible apply Node.answerPath_only | with_reducible apply Node.odEnd_only
                  | intro _ | split)

theorem Node.odSend_only {pt : Part} {n0 : Node}
    (hp : pt.off [.runs, .book, .cellar, .ina, .sessions, .presses, .host, .vnt, .out, .regs, .ram] = true) (n : Node) (p : Path) (index sub : Nat)
    (irq : Bool) (value : List Byte) (h0 : n0.Same pt n) :
    n0.Same pt (Node.odSend n p index sub irq value) := by
  unfold Node.odSend
  repeat' (first | with_reducible assumption | exact Part.off_sub hp rfl | with_reducible apply Node.putTransfer_only
                  | with_reducible apply Node.freezeReadout_only | with_reducible apply Node.odReply_only | intro _ | split | dsimp -proj only)

theorem Node.odOutcome_only {pt : Part} {n0 : Node}
    (hp : pt.off [.runs, .book, .cellar, .ina, .sessions, .presses, .host, .vnt, .out, .regs, .shadow, .ram] = true) (n : Node) (g code : Nat)
    (h0 : n0.Same pt n) :
    n0.Same pt (Node.odOutcome n g code) := by
  unfold Node.odOutcome
  repeat' (first | with_reducible assumption | exact Part.off_sub hp rfl | with_reducible apply Node.each_only
                  | with_reducible apply Node.putShadows_only | with_reducible apply Node.setAsk_only | with_reducible apply Node.odEnd_only
                  | intro _ | split | dsimp -proj only | with_reducible apply with_vnt_only)

theorem Node.updStep_only {pt : Part} {n0 : Node}
    (hp : pt.off [.runs, .book, .cellar, .ina, .sessions, .presses, .host, .vnt, .out, .regs, .ram] = true) (n : Node) (p : Path) (index : Nat)
    (f : Node → Node) (h0 : n0.Same pt n) (h1 : ∀ (x0 : Node), n0.Same pt x0 → n0.Same pt (f x0)) :
    n0.Same pt (Node.updStep n p index f) := by
  unfold Node.updStep
  repeat' (first | with_reducible assumption | exact Part.off_sub hp rfl | with_reducible apply h1
                  | with_reducible apply Node.when_only | with_reducible apply Node.setAsk_only | with_reducible apply Node.odEnd_only | intro _
                  | split | dsimp -proj only)

theorem execUpdOpen_only {pt : Part} (hp : pt.off [.runs, .book, .cellar, .ina, .sessions, .presses, .host, .vnt, .vault, .out, .regs, .ram] = true)
    (path : Path) (key : Half) (slotB : Bool) (s : State) (s' : State) (ht : execUpdOpen path key slotB s = .next s') :
    s.node.Same pt s'.node := by
  have h0 := Node.Same.refl pt s.node
  unfold execUpdOpen at ht
  refine State.upd_only ?_ ht
  repeat' (first | with_reducible assumption | exact Part.off_sub hp rfl | with_reducible apply Node.when_only
                  | with_reducible apply Node.updOpen_only | with_reducible apply Node.updStep_only | intro _)

theorem execUpdChunk_only {pt : Part} (hp : pt.off [.runs, .book, .cellar, .ina, .sessions, .presses, .host, .vnt, .out, .regs, .ram] = true)
    (path : Path) (ofs : Nat) (bytes : List Byte) (s : State) (s' : State) (ht : execUpdChunk path ofs bytes s = .next s') :
    s.node.Same pt s'.node := by
  have h0 := Node.Same.refl pt s.node
  unfold execUpdChunk at ht
  refine State.upd_only ?_ ht
  repeat' (first | with_reducible assumption | exact Part.off_sub hp rfl | with_reducible apply Node.updWrite_only
                  | with_reducible apply Node.chunkGo_only | with_reducible apply Node.updStep_only | intro _ | split)

theorem execUpdFinish_only {pt : Part}
    (hp : pt.off [.runs, .book, .cellar, .ina, .sessions, .presses, .host, .vnt, .vault, .out, .regs, .ram] = true) (path : Path) (key : Half)
    (_slotB : Bool) (s : State) (s' : State) (ht : execUpdFinish path key _slotB s = .next s') :
    s.node.Same pt s'.node := by
  have h0 := Node.Same.refl pt s.node
  unfold execUpdFinish at ht
  refine State.upd_only ?_ ht
  repeat' (first | with_reducible assumption | exact Part.off_sub hp rfl | with_reducible apply Node.when_only
                  | with_reducible apply Node.updFinish_only | with_reducible apply Node.updStep_only | intro _)

theorem execUpdAbort_only {pt : Part}
    (hp : pt.off [.runs, .book, .cellar, .ina, .sessions, .presses, .host, .vnt, .vault, .out, .regs, .ram] = true) (path : Path) (key : Half)
    (_slotB : Bool) (s : State) (s' : State) (ht : execUpdAbort path key _slotB s = .next s') :
    s.node.Same pt s'.node := by
  have h0 := Node.Same.refl pt s.node
  unfold execUpdAbort at ht
  refine State.upd_only ?_ ht
  repeat' (first | with_reducible assumption | exact Part.off_sub hp rfl | with_reducible apply Node.when_only
                  | with_reducible apply Node.updAbort_only | with_reducible apply Node.updStep_only | intro _)

theorem execOwnerChangeRecord_only {pt : Part}
    (hp : pt.off [.runs, .book, .cellar, .ina, .sessions, .presses, .host, .vnt, .vault, .out, .regs, .ram] = true) (path : Path)
    (signer slot : Fin 4) (key : Option (BitVec 256)) (counter : Nat) (edOk mldsaOk : Bool) (s : State) (s' : State)
    (ht : execOwnerChangeRecord path signer slot key counter edOk mldsaOk s = .next s') :
    s.node.Same pt s'.node := by
  have h0 := Node.Same.refl pt s.node
  unfold execOwnerChangeRecord at ht
  refine State.upd_only ?_ ht
  repeat' (first | with_reducible assumption | exact Part.off_sub hp rfl | with_reducible apply Node.when_only
                  | with_reducible apply Node.ownerChange_only | with_reducible apply Node.setAsk_only | with_reducible apply Node.odEnd_only
                  | intro _ | split | dsimp -proj only)

theorem execRoleKeyWrite_only {pt : Part}
    (hp : pt.off [.runs, .book, .cellar, .ina, .sessions, .presses, .host, .vnt, .vault, .out, .regs, .ram] = true) (path : Path) (role : Fin 4)
    (keyValue : BitVec 256) (s : State) (s' : State) (ht : execRoleKeyWrite path role keyValue s = .next s') :
    s.node.Same pt s'.node := by
  have h0 := Node.Same.refl pt s.node
  unfold execRoleKeyWrite at ht
  refine State.upd_only ?_ ht
  repeat' (first | with_reducible assumption | exact Part.off_sub hp rfl | with_reducible apply Node.when_only
                  | with_reducible apply Node.setRoleKey_only | with_reducible apply Node.setAsk_only | with_reducible apply Node.odEnd_only
                  | intro _ | split | dsimp -proj only)

theorem execAttestNonceWrite_only {pt : Part}
    (hp : pt.off [.runs, .book, .cellar, .ina, .sessions, .presses, .host, .vnt, .vault, .out, .regs, .ram] = true) (path : Path)
    (nonce : BitVec 256) (s : State) (s' : State) (ht : execAttestNonceWrite path nonce s = .next s') :
    s.node.Same pt s'.node := by
  have h0 := Node.Same.refl pt s.node
  unfold execAttestNonceWrite at ht
  refine State.upd_only ?_ ht
  repeat' (first | with_reducible assumption | exact Part.off_sub hp rfl | with_reducible apply Node.when_only
                  | with_reducible apply Node.startQuote_only | with_reducible apply Node.setAsk_only | with_reducible apply Node.odEnd_only
                  | intro _ | split | dsimp -proj only)

theorem execAttestQuoteRead_only {pt : Part} (hp : pt.off [.runs, .book, .cellar, .ina, .sessions, .presses, .host, .vnt, .out, .regs, .ram] = true)
    (path : Path) (s : State) (s' : State) (ht : execAttestQuoteRead path s = .next s') :
    s.node.Same pt s'.node := by
  have h0 := Node.Same.refl pt s.node
  unfold execAttestQuoteRead at ht
  refine State.upd_only ?_ ht
  repeat' (first | with_reducible assumption | exact Part.off_sub hp rfl | with_reducible apply Node.when_only
                  | with_reducible apply Node.setAsk_only | with_reducible apply Node.odEnd_only | with_reducible apply Node.odSend_only | intro _
                  | split | dsimp -proj only)

theorem Node.setCanState_only {pt : Part} {n0 : Node} (hp : pt.off [.regs] = true) (n : Node) (c v : Nat) (h0 : n0.Same pt n) :
    n0.Same pt (Node.setCanState n c v) := by
  unfold Node.setCanState
  repeat' (first | with_reducible assumption | exact Part.off_sub hp rfl | with_reducible apply Node.wr_only)

theorem Node.startRecovery_only {pt : Part} {n0 : Node} (hp : pt.off [.regs] = true) (n : Node) (c : Nat) (h0 : n0.Same pt n) :
    n0.Same pt (Node.startRecovery n c) := by
  unfold Node.startRecovery
  repeat' (first | with_reducible assumption | exact Part.off_sub hp rfl | with_reducible apply Node.wr_only
                  | with_reducible apply Node.setCanState_only)

theorem Node.seeRecovery_only {pt : Part} {n0 : Node} (hp : pt.off [.regs] = true) (n : Node) (c count : Nat) (h0 : n0.Same pt n) :
    n0.Same pt (Node.seeRecovery n c count) := by
  unfold Node.seeRecovery
  repeat' (first | with_reducible assumption | exact Part.off_sub hp rfl | with_reducible apply Node.when_only
                  | with_reducible apply Node.wr_only | with_reducible apply Node.count_only | intro _)

theorem Node.refAgain_only {pt : Part} {n0 : Node} (hp : pt.off [.cans] = true) (n : Node) (c : Nat) (h0 : n0.Same pt n) :
    n0.Same pt (Node.refAgain n c) := by
  unfold Node.refAgain
  repeat' (first | with_reducible assumption | exact Part.off_sub hp rfl | with_reducible apply Node.setCan_only)

theorem Node.confine_only {pt : Part} {n0 : Node} (hp : pt.off [.book, .cans, .host, .regs] = true) (n : Node) (c : Nat) (h0 : n0.Same pt n) :
    n0.Same pt (Node.confine n c) := by
  unfold Node.confine
  repeat' (first | with_reducible assumption | exact Part.off_sub hp rfl | with_reducible apply Node.when_only
                  | with_reducible apply Node.count_only | with_reducible apply Node.setCan_only | with_reducible apply Node.raise_only
                  | with_reducible apply Node.setCanState_only | with_reducible apply Node.startRecovery_only
                  | with_reducible apply Node.refAgain_only | intro _ | split | dsimp -proj only)

theorem Node.setErrors_only {pt : Part} {n0 : Node} (hp : pt.off [.book, .cans, .host, .regs] = true) (n : Node) (c tec rec_ : Nat)
    (h0 : n0.Same pt n) :
    n0.Same pt (Node.setErrors n c tec rec_) := by
  unfold Node.setErrors
  repeat' (first | with_reducible assumption | exact Part.off_sub hp rfl | with_reducible apply Node.when_only
                  | with_reducible apply Node.wr_only | with_reducible apply Node.confine_only | intro _)

theorem Node.canStop_only {pt : Part} {n0 : Node} (hp : pt.off [.cans, .regs] = true) (n : Node) (c p : Nat) (h0 : n0.Same pt n) :
    n0.Same pt (Node.canStop n c p) := by
  unfold Node.canStop
  repeat' (first | with_reducible assumption | exact Part.off_sub hp rfl | with_reducible apply Node.countBy_only
                  | with_reducible apply Node.setCan_only | with_reducible apply Node.setCanState_only)

theorem Node.canAuto_only {pt : Part} {n0 : Node} (hp : pt.off [.regs] = true) (n : Node) (c : Nat) (h0 : n0.Same pt n) :
    n0.Same pt (Node.canAuto n c) := by
  unfold Node.canAuto
  repeat' (first | with_reducible assumption | exact Part.off_sub hp rfl | with_reducible apply Node.when_only
                  | with_reducible apply Node.startRecovery_only | intro _)

theorem Node.canStart_only {pt : Part} {n0 : Node} (hp : pt.off [.regs] = true) (n : Node) (c : Nat) (h0 : n0.Same pt n) :
    n0.Same pt (Node.canStart n c) := by
  unfold Node.canStart
  repeat' (first | with_reducible assumption | exact Part.off_sub hp rfl | with_reducible apply Node.setCanState_only
                  | with_reducible apply Node.canAuto_only)

theorem Node.showDirections_only {pt : Part} {n0 : Node} (hp : pt.off [.regs] = true) (n : Node) (c : Nat) (h0 : n0.Same pt n) :
    n0.Same pt (Node.showDirections n c) := by
  unfold Node.showDirections
  repeat' (first | with_reducible assumption | exact Part.off_sub hp rfl | with_reducible apply Node.each_only
                  | with_reducible apply Node.wr_only | intro _)

theorem Node.showAllDirections_only {pt : Part} {n0 : Node} (hp : pt.off [.regs] = true) (n : Node) (h0 : n0.Same pt n) :
    n0.Same pt (Node.showAllDirections n) := by
  unfold Node.showAllDirections
  repeat' (first | with_reducible assumption | exact Part.off_sub hp rfl | with_reducible apply Node.each_only
                  | with_reducible apply Node.showDirections_only | intro _)

theorem Node.canApplied_only {pt : Part} {n0 : Node} (hp : pt.off [.regs] = true) (n before : Node) (c : Nat) (h0 : n0.Same pt n)
    (_h1 : n0.Same pt before) :
    n0.Same pt (Node.canApplied n before c) := by
  unfold Node.canApplied
  repeat' (first | with_reducible assumption | exact Part.off_sub hp rfl | with_reducible apply Node.when_only
                  | with_reducible apply Node.setCanState_only | with_reducible apply Node.canAuto_only
                  | with_reducible apply Node.showDirections_only | intro _)

theorem execCanTxPush_only {pt : Part} (hp : pt.off [.cans, .out, .regs] = true) (c : Fin 8) (tag : Half) (frame : CanFrame) (s : State)
    (s' : State) (ht : execCanTxPush c tag frame s = .next s') :
    s.node.Same pt s'.node := by
  have h0 := Node.Same.refl pt s.node
  unfold execCanTxPush at ht
  refine State.upd_only ?_ ht
  repeat' (first | with_reducible assumption | exact Part.off_sub hp rfl | with_reducible apply Node.when_only
                  | with_reducible apply Node.count_only | with_reducible apply Node.setCan_only | with_reducible apply Node.emit_only | intro _
                  | split)

theorem execCanTxCancel_only {pt : Part} (hp : pt.off [.cans, .out, .regs] = true) (c : Fin 8) (tag : Half) (begun : Bool) (s : State) (s' : State)
    (ht : execCanTxCancel c tag begun s = .next s') :
    s.node.Same pt s'.node := by
  have h0 := Node.Same.refl pt s.node
  unfold execCanTxCancel at ht
  refine State.upd_only ?_ ht
  repeat' (first | with_reducible assumption | exact Part.off_sub hp rfl | with_reducible apply Node.when_only
                  | with_reducible apply Node.count_only | with_reducible apply Node.setCan_only | with_reducible apply Node.emit_only | intro _
                  | split)

theorem Node.capture_only {pt : Part} {n0 : Node} (hp : pt.off [.regs] = true) (n : Node) (c stamp : Nat) (h0 : n0.Same pt n) :
    n0.Same pt (Node.capture n c stamp) := by
  unfold Node.capture
  repeat' (first | with_reducible assumption | exact Part.off_sub hp rfl | with_reducible apply Node.incr_only
                  | with_reducible apply Node.putWord64_only)

theorem Node.tdcError_only {pt : Part} {n0 : Node} (hp : pt.off [.book, .cans, .host, .fresh, .regs] = true) (n : Node) (c : Nat)
    (h0 : n0.Same pt n) :
    n0.Same pt (Node.tdcError n c) := by
  unfold Node.tdcError
  repeat' (first | with_reducible assumption | exact Part.off_sub hp rfl | with_reducible apply Node.wr_only
                  | with_reducible apply Node.count_only | with_reducible apply Node.setCan_only | with_reducible apply Node.took_only
                  | with_reducible apply Node.setErrors_only)

theorem execCanTxDone_only {pt : Part} (hp : pt.off [.book, .cans, .host, .out, .fresh, .regs] = true) (c : Fin 8) (ref : Bool)
    (sofAgo loopMtq : Nat) (s : State) (s' : State) (ht : execCanTxDone c ref sofAgo loopMtq s = .next s') :
    s.node.Same pt s'.node := by
  have h0 := Node.Same.refl pt s.node
  unfold execCanTxDone at ht
  refine State.upd_only ?_ ht
  repeat' (first | with_reducible assumption | exact Part.off_sub hp rfl | with_reducible apply Node.when_only
                  | with_reducible apply Node.count_only | with_reducible apply Node.setCan_only | with_reducible apply Node.emit_only
                  | with_reducible apply Node.setErrors_only | with_reducible apply Node.capture_only | with_reducible apply Node.tdcError_only
                  | intro _ | split | dsimp -proj only)

theorem execCanArbLost_only {pt : Part} (hp : pt.off [.cans, .regs] = true) (c : Fin 8) (ref toRef : Bool) (s : State) (s' : State)
    (ht : execCanArbLost c ref toRef s = .next s') :
    s.node.Same pt s'.node := by
  have h0 := Node.Same.refl pt s.node
  unfold execCanArbLost at ht
  refine State.upd_only ?_ ht
  repeat' (first | with_reducible assumption | exact Part.off_sub hp rfl | with_reducible apply Node.when_only
                  | with_reducible apply Node.count_only | with_reducible apply Node.setCan_only | intro _ | split)

theorem execCanFrameReceived_only {pt : Part} (hp : pt.off [.runs, .book, .cans, .host, .fresh, .regs] = true) (c : Fin 8) (frame : CanFrame)
    (sofAgo : Nat) (s : State) (s' : State) (ht : execCanFrameReceived c frame sofAgo s = .next s') :
    s.node.Same pt s'.node := by
  have h0 := Node.Same.refl pt s.node
  unfold execCanFrameReceived at ht
  refine State.upd_only ?_ ht
  repeat' (first | with_reducible assumption | exact Part.off_sub hp rfl | with_reducible apply Node.when_only
                  | with_reducible apply Node.wr_only | with_reducible apply Node.count_only | with_reducible apply Node.setCan_only
                  | with_reducible apply Node.took_only | with_reducible apply Node.raiseFirst_only | with_reducible apply Node.endRun_only
                  | with_reducible apply Node.setCanState_only | with_reducible apply Node.setErrors_only | with_reducible apply Node.capture_only
                  | intro _ | split | dsimp -proj only)

theorem Node.attemptError_only {pt : Part} {n0 : Node} (hp : pt.off [.book, .cans, .host, .regs] = true) (n : Node) (c : Nat) (collides : Bool)
    (h0 : n0.Same pt n) :
    n0.Same pt (Node.attemptError n c collides) := by
  unfold Node.attemptError
  repeat' (first | with_reducible assumption | exact Part.off_sub hp rfl | with_reducible apply Node.when_only
                  | with_reducible apply Node.putWord_only | with_reducible apply Node.wrBit_only | with_reducible apply Node.count_only
                  | with_reducible apply Node.setCan_only | with_reducible apply Node.raise_only | intro _ | split)

theorem Node.restrictedWait_only {pt : Part} {n0 : Node} (hp : pt.off [.regs] = true) (n : Node) (c : Nat) (h0 : n0.Same pt n) :
    n0.Same pt (Node.restrictedWait n c) := by
  unfold Node.restrictedWait
  repeat' (first | with_reducible assumption | exact Part.off_sub hp rfl | with_reducible apply Node.when_only
                  | with_reducible apply Node.setCanState_only | intro _)

theorem execCanErrorDetected_only {pt : Part} (hp : pt.off [.book, .cans, .host, .regs] = true) (c : Fin 8) (kind : CanError)
    (transmitting inData ref : Bool) (dTec dRec : Nat) (s : State) (s' : State)
    (ht : execCanErrorDetected c kind transmitting inData ref dTec dRec s = .next s') :
    s.node.Same pt s'.node := by
  have h0 := Node.Same.refl pt s.node
  unfold execCanErrorDetected at ht
  refine State.upd_only ?_ ht
  repeat' (first | with_reducible assumption | exact Part.off_sub hp rfl | with_reducible apply Node.when_only
                  | with_reducible apply Node.wr_only | with_reducible apply Node.count_only | with_reducible apply Node.refAgain_only
                  | with_reducible apply Node.setErrors_only | with_reducible apply Node.attemptError_only
                  | with_reducible apply Node.restrictedWait_only | intro _)

theorem execCanRecoveryDone_only {pt : Part} (hp : pt.off [.book, .cans, .host, .regs] = true) (c : Fin 8) (s : State) (s' : State)
    (ht : execCanRecoveryDone c s = .next s') :
    s.node.Same pt s'.node := by
  have h0 := Node.Same.refl pt s.node
  unfold execCanRecoveryDone at ht
  refine State.upd_only ?_ ht
  repeat' (first | with_reducible assumption | exact Part.off_sub hp rfl | with_reducible apply Node.when_only
                  | with_reducible apply Node.wr_only | with_reducible apply Node.setCan_only | with_reducible apply Node.raise_only
                  | with_reducible apply Node.setCanState_only | intro _)

theorem Node.canRecover_only {pt : Part} {n0 : Node} (hp : pt.off [.book, .host, .regs] = true) (n : Node) (c : Nat) (h0 : n0.Same pt n) :
    n0.Same pt (Node.canRecover n c) := by
  unfold Node.canRecover
  repeat' (first | with_reducible assumption | exact Part.off_sub hp rfl | with_reducible apply Node.raise_only
                  | with_reducible apply Node.startRecovery_only | intro _ | split)

theorem execCanCmdRecover_only {pt : Part} (hp : pt.off [.book, .blend, .host, .regs] = true) (by_ : Option Initiator) (key : Half) (c : Fin 8)
    (s : State) (s' : State) (ht : execCanCmdRecover by_ key c s = .next s') :
    s.node.Same pt s'.node := by
  have h0 := Node.Same.refl pt s.node
  unfold execCanCmdRecover at ht
  refine State.upd_only ?_ ht
  repeat' (first | with_reducible assumption | exact Part.off_sub hp rfl | with_reducible apply Node.when_only
                  | with_reducible apply Node.access_only | with_reducible apply Node.canRecover_only | intro _ | split)

theorem execCanCmdClearIdc_only {pt : Part} (hp : pt.off [.blend, .host, .regs] = true) (by_ : Initiator) (key : Half) (c : Fin 8) (s : State)
    (s' : State) (ht : execCanCmdClearIdc by_ key c s = .next s') :
    s.node.Same pt s'.node := by
  have h0 := Node.Same.refl pt s.node
  unfold execCanCmdClearIdc at ht
  refine State.upd_only ?_ ht
  repeat' (first | with_reducible assumption | exact Part.off_sub hp rfl | with_reducible apply Node.when_only
                  | with_reducible apply Node.wrBit_only | with_reducible apply Node.access_only | intro _)

theorem execCanIntegrated_only {pt : Part} (hp : pt.off [.regs] = true) (c : Fin 8) (s : State) (s' : State) (ht : execCanIntegrated c s = .next
    s') :
    s.node.Same pt s'.node := by
  have h0 := Node.Same.refl pt s.node
  unfold execCanIntegrated at ht
  refine State.upd_only ?_ ht
  repeat' (first | with_reducible assumption | exact Part.off_sub hp rfl | with_reducible apply Node.when_only
                  | with_reducible apply Node.setCanState_only | intro _)

theorem Node.mbStore_only {pt : Part} {n0 : Node} (hp : pt.off [.regs] = true) (n : Node) (c b : Nat) (toBus : Bool) (words : List (Nat × Word))
    (h0 : n0.Same pt n) :
    n0.Same pt (Node.mbStore n c b toBus words) := by
  unfold Node.mbStore
  repeat' (first | with_reducible assumption | exact Part.off_sub hp rfl | with_reducible apply Node.putWords_only
                  | with_reducible apply Node.wrBit_only | with_reducible apply Node.count_only | with_reducible apply Node.incr_only | intro _
                  | split | dsimp -proj only)

theorem Node.mbAck_only {pt : Part} {n0 : Node} (hp : pt.off [.regs] = true) (n : Node) (c b : Nat) (upd : Nat) (h0 : n0.Same pt n) :
    n0.Same pt (Node.mbAck n c b upd) := by
  unfold Node.mbAck
  repeat' (first | with_reducible assumption | exact Part.off_sub hp rfl | with_reducible apply Node.when_only
                  | with_reducible apply Node.wrBit_only | intro _)

theorem execMbUpdate_only {pt : Part} (hp : pt.off [.host, .regs] = true) (c : Fin 8) (b : Fin 64) (byHost : Bool) (frame : CanFrame)
    (stamp : DWord) (s : State) (s' : State) (ht : execMbUpdate c b byHost frame stamp s = .next s') :
    s.node.Same pt s'.node := by
  have h0 := Node.Same.refl pt s.node
  unfold execMbUpdate at ht
  refine State.upd_only ?_ ht
  repeat' (first | with_reducible assumption | exact Part.off_sub hp rfl | with_reducible apply Node.when_only
                  | with_reducible apply Node.cross_only | with_reducible apply Node.mbStore_only | intro _)

theorem execMbAckUpd_only {pt : Part} (hp : pt.off [.host, .regs] = true) (c : Fin 8) (b : Fin 64) (upd : Half) (byReader : Bool) (s : State)
    (s' : State) (ht : execMbAckUpd c b upd byReader s = .next s') :
    s.node.Same pt s'.node := by
  have h0 := Node.Same.refl pt s.node
  unfold execMbAckUpd at ht
  refine State.upd_only ?_ ht
  repeat' (first | with_reducible assumption | exact Part.off_sub hp rfl | with_reducible apply Node.when_only
                  | with_reducible apply Node.count_only | with_reducible apply Node.cross_only | with_reducible apply Node.mbAck_only | intro _
                  | split)

theorem Node.setHeader_only {pt : Part} {n0 : Node} (hp : pt.off [.ram] = true) (n : Node) (p k : Nat) (v : Word) (h0 : n0.Same pt n) :
    n0.Same pt (Node.setHeader n p k v) := by
  unfold Node.setHeader
  repeat' (first | with_reducible assumption | exact Part.off_sub hp rfl | with_reducible apply Node.putRamWord_only)

theorem Node.setImgBit_only {pt : Part} {n0 : Node} (hp : pt.off [.ram] = true) (n : Node) (p b : Nat) (v : Bool) (h0 : n0.Same pt n) :
    n0.Same pt (Node.setImgBit n p b v) := by
  unfold Node.setImgBit
  repeat' (first | with_reducible assumption | exact Part.off_sub hp rfl | with_reducible apply Node.setHeader_only)

theorem Node.outExchange_only {pt : Part} {n0 : Node} (hp : pt.off [.ram] = true) (n : Node) (p : Nat) (h0 : n0.Same pt n) :
    n0.Same pt (Node.outExchange n p) := by
  unfold Node.outExchange
  repeat' (first | with_reducible assumption | exact Part.off_sub hp rfl | with_reducible apply Node.setImgBit_only)

theorem Node.setPressState_only {pt : Part} {n0 : Node} (hp : pt.off [.regs, .ram] = true) (n : Node) (p v : Nat) (h0 : n0.Same pt n) :
    n0.Same pt (Node.setPressState n p v) := by
  unfold Node.setPressState
  repeat' (first | with_reducible assumption | exact Part.off_sub hp rfl | with_reducible apply Node.wr_only
                  | with_reducible apply Node.wrBit_only | with_reducible apply Node.setImgBit_only)

theorem Node.endCycle_only {pt : Part} {n0 : Node} (hp : pt.off [.book, .trellis, .presses, .host, .regs] = true) (n : Node) (p lateNs : Nat)
    (h0 : n0.Same pt n) :
    n0.Same pt (Node.endCycle n p lateNs) := by
  unfold Node.endCycle
  repeat' (first | with_reducible assumption | exact Part.off_sub hp rfl | with_reducible apply Node.setPress_only
                  | with_reducible apply Node.actionDone_only | intro _ | split)

theorem Node.drivePin_only {pt : Part} {n0 : Node} (hp : pt.off [.pins, .cans, .lineUnits, .out] = true) (n : Node) (p : Nat) (d : FieldDrive)
    (h0 : n0.Same pt n) :
    n0.Same pt (Node.drivePin n p d) := by
  unfold Node.drivePin
  repeat' (first | with_reducible assumption | exact Part.off_sub hp rfl | with_reducible apply Node.when_only
                  | with_reducible apply Node.setLineUnit_only | with_reducible apply Node.setCan_only | with_reducible apply Node.emit_only
                  | intro _ | split | dsimp -proj only | with_reducible apply with_pins_only)

theorem Node.lineSilent_only {pt : Part} {n0 : Node} (hp : pt.off [.lineUnits] = true) (n : Node) (u : Nat) (h0 : n0.Same pt n) :
    n0.Same pt (Node.lineSilent n u) := by
  unfold Node.lineSilent
  repeat' (first | with_reducible assumption | exact Part.off_sub hp rfl | with_reducible apply Node.setLineUnit_only)

theorem Node.stopPress_only {pt : Part} {n0 : Node} (hp : pt.off [.faults, .book, .trellis, .presses, .cans, .lineUnits, .host, .regs, .ram] = true)
    (n : Node) (p cause lateNs : Nat) (h0 : n0.Same pt n) :
    n0.Same pt (Node.stopPress n p cause lateNs) := by
  unfold Node.stopPress
  repeat' (first | with_reducible assumption | exact Part.off_sub hp rfl | with_reducible apply Node.each_only
                  | with_reducible apply Node.wr_only | with_reducible apply Node.clearBytes_only | with_reducible apply Node.setPress_only
                  | with_reducible apply Node.dropFault_only | with_reducible apply Node.raise_only | with_reducible apply Node.canStop_only
                  | with_reducible apply Node.setPressState_only | with_reducible apply Node.endCycle_only
                  | with_reducible apply Node.lineSilent_only | intro _)

theorem Node.loadPress_only {pt : Part} {n0 : Node} (hp : pt.off [.presses, .regs, .ram] = true) (n : Node) (p : Nat) (counts : Bool)
    (h0 : n0.Same pt n) :
    n0.Same pt (Node.loadPress n p counts) := by
  unfold Node.loadPress
  repeat' (first | with_reducible assumption | exact Part.off_sub hp rfl | with_reducible apply Node.clearBytes_only
                  | with_reducible apply Node.setPress_only | with_reducible apply Node.extendMeas_only
                  | with_reducible apply Node.setPressState_only | intro _ | split)

theorem Node.loadWaiting_only {pt : Part} {n0 : Node} (hp : pt.off [.presses, .regs, .ram] = true) (n : Node) (h0 : n0.Same pt n) :
    n0.Same pt (Node.loadWaiting n) := by
  unfold Node.loadWaiting
  repeat' (first | with_reducible assumption | exact Part.off_sub hp rfl | with_reducible apply Node.when_only
                  | with_reducible apply Node.each_only | with_reducible apply Node.loadPress_only | intro _)

theorem Node.followStop_only {pt : Part} {n0 : Node} (hp : pt.off [.faults, .presses, .regs, .ram] = true) (n : Node) (p : Nat) (f : StopFollow)
    (h0 : n0.Same pt n) :
    n0.Same pt (Node.followStop n p f) := by
  unfold Node.followStop
  repeat' (first | with_reducible assumption | exact Part.off_sub hp rfl | with_reducible apply Node.wrBit_only
                  | with_reducible apply Node.setPress_only | with_reducible apply Node.dropFault_only
                  | with_reducible apply Node.setPressState_only | with_reducible apply Node.loadPress_only | intro _ | split)

theorem Node.requestStop_only {pt : Part} {n0 : Node}
    (hp : pt.off [.faults, .book, .trellis, .presses, .cans, .lineUnits, .host, .regs, .ram] = true) (n : Node) (p cause : Nat) (f : StopFollow)
    (h0 : n0.Same pt n) :
    n0.Same pt (Node.requestStop n p cause f) := by
  unfold Node.requestStop
  repeat' (first | with_reducible assumption | exact Part.off_sub hp rfl | with_reducible apply Node.when_only
                  | with_reducible apply Node.setPress_only | with_reducible apply Node.stopPress_only | with_reducible apply Node.followStop_only
                  | intro _ | split | dsimp -proj only)

theorem Node.pressCommand_only {pt : Part} {n0 : Node}
    (hp : pt.off [.faults, .book, .trellis, .presses, .cans, .lineUnits, .host, .regs, .ram] = true) (n : Node) (p op : Nat) (h0 : n0.Same pt n) :
    n0.Same pt (Node.pressCommand n p op) := by
  unfold Node.pressCommand
  repeat' (first | with_reducible assumption | exact Part.off_sub hp rfl | with_reducible apply Node.raise_only
                  | with_reducible apply Node.loadWaiting_only | with_reducible apply Node.requestStop_only | intro _ | split | dsimp -proj only)

theorem Node.stopWaiting_only {pt : Part} {n0 : Node}
    (hp : pt.off [.faults, .book, .trellis, .presses, .cans, .lineUnits, .host, .regs, .ram] = true) (n : Node) (p : Nat) (h0 : n0.Same pt n) :
    n0.Same pt (Node.stopWaiting n p) := by
  unfold Node.stopWaiting
  repeat' (first | with_reducible assumption | exact Part.off_sub hp rfl | with_reducible apply Node.stopPress_only
                  | with_reducible apply Node.followStop_only | intro _ | split)

theorem Node.pressCmd_only {pt : Part} {n0 : Node}
    (hp : pt.off [.faults, .book, .trellis, .presses, .cans, .lineUnits, .blend, .host, .regs, .ram] = true) (n : Node) (by_ : Initiator)
    (key : Half) (p op : Nat) (h0 : n0.Same pt n) :
    n0.Same pt (Node.pressCmd n by_ key p op) := by
  unfold Node.pressCmd
  repeat' (first | with_reducible assumption | exact Part.off_sub hp rfl | with_reducible apply Node.when_only
                  | with_reducible apply Node.access_only | with_reducible apply Node.pressCommand_only | intro _)

theorem execPressCmdStop_only {pt : Part} (hp : pt.off [.faults, .book, .trellis, .presses, .cans, .lineUnits, .blend, .host, .regs, .ram] = true)
    (by_ : Initiator) (key : Half) (press : Fin 16) (s : State) (s' : State) (ht : execPressCmdStop by_ key press s = .next s') :
    s.node.Same pt s'.node := by
  have h0 := Node.Same.refl pt s.node
  unfold execPressCmdStop at ht
  refine State.upd_only ?_ ht
  repeat' (first | with_reducible assumption | exact Part.off_sub hp rfl | with_reducible apply Node.pressCmd_only)

theorem execPressCmdTest_only {pt : Part} (hp : pt.off [.faults, .book, .trellis, .presses, .cans, .lineUnits, .blend, .host, .regs, .ram] = true)
    (by_ : Initiator) (key : Half) (press : Fin 16) (s : State) (s' : State) (ht : execPressCmdTest by_ key press s = .next s') :
    s.node.Same pt s'.node := by
  have h0 := Node.Same.refl pt s.node
  unfold execPressCmdTest at ht
  refine State.upd_only ?_ ht
  repeat' (first | with_reducible assumption | exact Part.off_sub hp rfl | with_reducible apply Node.pressCmd_only)

theorem execPressCmdReload_only {pt : Part} (hp : pt.off [.faults, .book, .trellis, .presses, .cans, .lineUnits, .blend, .host, .regs, .ram] = true)
    (by_ : Initiator) (key : Half) (press : Fin 16) (s : State) (s' : State) (ht : execPressCmdReload by_ key press s = .next s') :
    s.node.Same pt s'.node := by
  have h0 := Node.Same.refl pt s.node
  unfold execPressCmdReload at ht
  refine State.upd_only ?_ ht
  repeat' (first | with_reducible assumption | exact Part.off_sub hp rfl | with_reducible apply Node.pressCmd_only)

theorem execPressStopEffect_only {pt : Part} (hp : pt.off [.faults, .book, .trellis, .presses, .cans, .lineUnits, .host, .regs, .ram] = true)
    (press : Fin 16) (s : State) (s' : State) (ht : execPressStopEffect press s = .next s') :
    s.node.Same pt s'.node := by
  have h0 := Node.Same.refl pt s.node
  unfold execPressStopEffect at ht
  refine State.upd_only ?_ ht
  repeat' (first | with_reducible assumption | exact Part.off_sub hp rfl | with_reducible apply Node.stopWaiting_only)

theorem Node.startImage_only {pt : Part} {n0 : Node} (hp : pt.off [.book, .presses, .lineUnits, .host, .regs, .ram] = true) (n : Node) (p : Nat)
    (h0 : n0.Same pt n) :
    n0.Same pt (Node.startImage n p) := by
  unfold Node.startImage
  repeat' (first | with_reducible assumption | exact Part.off_sub hp rfl | with_reducible apply Node.when_only
                  | with_reducible apply Node.each_only | with_reducible apply Node.putWord_only | with_reducible apply Node.count_only
                  | with_reducible apply Node.setPress_only | with_reducible apply Node.setLineUnit_only | with_reducible apply Node.raise_only
                  | with_reducible apply Node.canStart_only | with_reducible apply Node.setHeader_only
                  | with_reducible apply Node.setPressState_only | intro _)

theorem Node.pressFails_only {pt : Part} {n0 : Node} (hp : pt.off [.regs, .ram] = true) (n : Node) (p cause : Nat) (h0 : n0.Same pt n) :
    n0.Same pt (Node.pressFails n p cause) := by
  unfold Node.pressFails
  repeat' (first | with_reducible assumption | exact Part.off_sub hp rfl | with_reducible apply Node.wr_only
                  | with_reducible apply Node.count_only | with_reducible apply Node.setPressState_only)

theorem Node.selfTestFails_only {pt : Part} {n0 : Node} (hp : pt.off [.book, .host, .regs, .ram] = true) (n : Node) (p : Nat) (result : List Nat)
    (h0 : n0.Same pt n) :
    n0.Same pt (Node.selfTestFails n p result) := by
  unfold Node.selfTestFails
  repeat' (first | with_reducible assumption | exact Part.off_sub hp rfl | with_reducible apply Node.raise_only
                  | with_reducible apply Node.pressFails_only)

theorem Node.verifyFails_only {pt : Part} {n0 : Node} (hp : pt.off [.book, .host, .regs, .ram] = true) (n : Node) (p : Nat) (h0 : n0.Same pt n) :
    n0.Same pt (Node.verifyFails n p) := by
  unfold Node.verifyFails
  repeat' (first | with_reducible assumption | exact Part.off_sub hp rfl | with_reducible apply Node.raise_only
                  | with_reducible apply Node.pressFails_only)

theorem Node.waitedRequest_only {pt : Part} {n0 : Node}
    (hp : pt.off [.faults, .book, .trellis, .presses, .cans, .lineUnits, .host, .regs, .ram] = true) (n : Node) (p : Nat) (r : Option
    (Nat × StopFollow)) (h0 : n0.Same pt n) :
    n0.Same pt (Node.waitedRequest n p r) := by
  unfold Node.waitedRequest
  repeat' (first | with_reducible assumption | exact Part.off_sub hp rfl | with_reducible apply Node.requestStop_only
                  | with_reducible apply Node.pressCommand_only | intro _ | split)

theorem Node.autoReload_only {pt : Part} {n0 : Node} (hp : pt.off [.presses, .regs, .ram] = true) (n : Node) (p : Nat) (h0 : n0.Same pt n) :
    n0.Same pt (Node.autoReload n p) := by
  unfold Node.autoReload
  repeat' (first | with_reducible assumption | exact Part.off_sub hp rfl | with_reducible apply Node.setPress_only
                  | with_reducible apply Node.loadPress_only)

theorem Node.pressFault_only {pt : Part} {n0 : Node}
    (hp : pt.off [.faults, .book, .trellis, .presses, .cans, .lineUnits, .host, .regs, .ram] = true) (n : Node) (p cause lateNs : Nat)
    (h0 : n0.Same pt n) :
    n0.Same pt (Node.pressFault n p cause lateNs) := by
  unfold Node.pressFault
  repeat' (first | with_reducible assumption | exact Part.off_sub hp rfl | with_reducible apply Node.when_only
                  | with_reducible apply Node.count_only | with_reducible apply Node.addFault_only | with_reducible apply Node.raise_only
                  | with_reducible apply Node.setPressState_only | with_reducible apply Node.stopPress_only
                  | with_reducible apply Node.waitedRequest_only | with_reducible apply Node.autoReload_only | intro _ | split | dsimp -proj only)

theorem execPressSramTestDone_only {pt : Part} (hp : pt.off [.book, .host, .regs, .ram] = true) (press : Fin 16) (ok : Bool) (result : Half)
    (s : State) (s' : State) (ht : execPressSramTestDone press ok result s = .next s') :
    s.node.Same pt s'.node := by
  have h0 := Node.Same.refl pt s.node
  unfold execPressSramTestDone at ht
  refine State.upd_only ?_ ht
  repeat' (first | with_reducible assumption | exact Part.off_sub hp rfl | with_reducible apply Node.when_only
                  | with_reducible apply Node.selfTestFails_only | intro _)

theorem execPressSelfTestDone_only {pt : Part} (hp : pt.off [.faults, .book, .presses, .host, .regs, .ram] = true) (press : Fin 16) (ok : Bool)
    (result : Half) (s : State) (s' : State) (ht : execPressSelfTestDone press ok result s = .next s') :
    s.node.Same pt s'.node := by
  have h0 := Node.Same.refl pt s.node
  unfold execPressSelfTestDone at ht
  refine State.upd_only ?_ ht
  repeat' (first | with_reducible assumption | exact Part.off_sub hp rfl | with_reducible apply Node.when_only
                  | with_reducible apply Node.raise_only | with_reducible apply Node.followStop_only
                  | with_reducible apply Node.selfTestFails_only | intro _ | split)

theorem execPressVerifyDone_only {pt : Part} (hp : pt.off [.book, .presses, .lineUnits, .host, .regs, .ram] = true) (press : Fin 16) (ok : Bool)
    (s : State) (s' : State) (ht : execPressVerifyDone press ok s = .next s') :
    s.node.Same pt s'.node := by
  have h0 := Node.Same.refl pt s.node
  unfold execPressVerifyDone at ht
  refine State.upd_only ?_ ht
  repeat' (first | with_reducible assumption | exact Part.off_sub hp rfl | with_reducible apply Node.when_only
                  | with_reducible apply Node.loadWaiting_only | with_reducible apply Node.startImage_only
                  | with_reducible apply Node.verifyFails_only | intro _ | split)

theorem Node.pressesApplied_only {pt : Part} {n0 : Node}
    (hp : pt.off [.pins, .faults, .book, .trellis, .cellar, .ports, .presses, .cans, .lineUnits, .host, .regs, .ram] = true) (n before : Node)
    (h0 : n0.Same pt n) (_h1 : n0.Same pt before) :
    n0.Same pt (Node.pressesApplied n before) := by
  unfold Node.pressesApplied
  repeat' (first | with_reducible assumption | exact Part.off_sub hp rfl | with_reducible apply Node.each_only
                  | with_reducible apply Node.flushPort_only | with_reducible apply Node.canStop_only | with_reducible apply Node.lineSilent_only
                  | with_reducible apply Node.loadWaiting_only | with_reducible apply Node.requestStop_only | with_reducible apply foldl_only
                  | with_reducible apply foldlPair_only | intro _ | split | dsimp -proj only | with_reducible apply with_pins_only)

theorem Node.sendReferences_only {pt : Part} {n0 : Node} (hp : pt.off [.book, .cans, .host, .regs] = true) (n : Node) (p : Nat) (begun : List
    (Fin 8)) (h0 : n0.Same pt n) :
    n0.Same pt (Node.sendReferences n p begun) := by
  unfold Node.sendReferences
  repeat' (first | with_reducible assumption | exact Part.off_sub hp rfl | with_reducible apply Node.when_only
                  | with_reducible apply Node.each_only | with_reducible apply Node.count_only | with_reducible apply Node.setCan_only
                  | with_reducible apply Node.raise_only | intro _)

theorem execPressStart_only {pt : Part} (hp : pt.off [.pins, .runs, .book, .trellis, .presses, .cans, .lineUnits, .host, .out, .regs, .ram] = true)
    (entry : Nat) (refBegun : List (Fin 8)) (drives : List FieldDrive) (s : State) (s' : State)
    (ht : execPressStart entry refBegun drives s = .next s') :
    s.node.Same pt s'.node := by
  have h0 := Node.Same.refl pt s.node
  unfold execPressStart at ht
  refine State.upd_only ?_ ht
  repeat' (first | with_reducible assumption | exact Part.off_sub hp rfl | with_reducible apply Node.each_only
                  | with_reducible apply Node.count_only | with_reducible apply Node.setPress_only | with_reducible apply Node.raiseFirst_only
                  | with_reducible apply Node.endRun_only | with_reducible apply Node.startAction_only | with_reducible apply Node.occupy_only
                  | with_reducible apply Node.setImgBit_only | with_reducible apply Node.drivePin_only
                  | with_reducible apply Node.sendReferences_only | intro _ | split | dsimp -proj only)

theorem execPressInputExchange_only {pt : Part} (hp : pt.off [.faults, .book, .trellis, .presses, .cans, .lineUnits, .host, .regs, .ram] = true)
    (press : Fin 16) (bytes : List Byte) (lineOk : Bool) (diag : List (Fin 59 × Word)) (lateNs : Nat) (s : State) (s' : State)
    (ht : execPressInputExchange press bytes lineOk diag lateNs s = .next s') :
    s.node.Same pt s'.node := by
  have h0 := Node.Same.refl pt s.node
  unfold execPressInputExchange at ht
  refine State.upd_only ?_ ht
  repeat' (first | with_reducible assumption | exact Part.off_sub hp rfl | with_reducible apply Node.when_only
                  | with_reducible apply Node.each_only | with_reducible apply Node.putBytes_only | with_reducible apply Node.setPress_only
                  | with_reducible apply Node.setLineUnit_only | with_reducible apply Node.setCan_only | with_reducible apply Node.setHeader_only
                  | with_reducible apply Node.setImgBit_only | with_reducible apply Node.endCycle_only
                  | with_reducible apply Node.stopWaiting_only | intro _)

theorem execLineStatusChange_only {pt : Part} (hp : pt.off [.book, .host, .regs, .ram] = true) (press : Fin 16) (status : Word) (s : State)
    (s' : State) (ht : execLineStatusChange press status s = .next s') :
    s.node.Same pt s'.node := by
  have h0 := Node.Same.refl pt s.node
  unfold execLineStatusChange at ht
  refine State.upd_only ?_ ht
  repeat' (first | with_reducible assumption | exact Part.off_sub hp rfl | with_reducible apply Node.when_only
                  | with_reducible apply Node.raise_only | with_reducible apply Node.setHeader_only | intro _)

theorem execLineUnitCapture_only {pt : Part} (hp : pt.off [.pins, .cans, .lineUnits, .out] = true) (unit : Fin 32) (data : List Bool)
    (drives : List FieldDrive) (s : State) (s' : State) (ht : execLineUnitCapture unit data drives s = .next s') :
    s.node.Same pt s'.node := by
  have h0 := Node.Same.refl pt s.node
  unfold execLineUnitCapture at ht
  refine State.upd_only ?_ ht
  repeat' (first | with_reducible assumption | exact Part.off_sub hp rfl | with_reducible apply Node.when_only
                  | with_reducible apply Node.each_only | with_reducible apply Node.setLineUnit_only | with_reducible apply Node.drivePin_only
                  | intro _)

theorem execPpFrameArrival_only {pt : Part} (hp : pt.off [.runs, .book, .presses, .host, .out, .regs] = true) (frame : Frame) (stamp : DWord)
    (s : State) (s' : State) (ht : execPpFrameArrival frame stamp s = .next s') :
    s.node.Same pt s'.node := by
  have h0 := Node.Same.refl pt s.node
  unfold execPpFrameArrival at ht
  refine State.upd_only ?_ ht
  repeat' (first | with_reducible assumption | exact Part.off_sub hp rfl | with_reducible apply Node.when_only
                  | with_reducible apply Node.each_only | with_reducible apply Node.count_only | with_reducible apply Node.sendToPress_only
                  | intro _ | split)

theorem execDedicatedTxHandover_only {pt : Part} (hp : pt.off [.book, .host, .out, .regs] = true) (press : Fin 16) (frame : Frame) (s : State)
    (s' : State) (ht : execDedicatedTxHandover press frame s = .next s') :
    s.node.Same pt s'.node := by
  have h0 := Node.Same.refl pt s.node
  unfold execDedicatedTxHandover at ht
  refine State.upd_only ?_ ht
  repeat' (first | with_reducible assumption | exact Part.off_sub hp rfl | with_reducible apply Node.when_only
                  | with_reducible apply Node.countBy_only | with_reducible apply Node.count_only | with_reducible apply Node.emit_only
                  | with_reducible apply Node.raise_only | intro _ | split)

theorem Node.fieldParts_only {pt : Part} {n0 : Node} (hp : pt.off [.out, .regs] = true) (n : Node) (p : Nat) (parts : List (Nat × Nat))
    (write : Bool) (far : FarReply) (h0 : n0.Same pt n) :
    n0.Same pt (Node.fieldParts n p parts write far) := by
  unfold Node.fieldParts
  repeat' (first | with_reducible assumption | exact Part.off_sub hp rfl | with_reducible apply Node.each_only
                  | with_reducible apply Node.count_only | with_reducible apply Node.emit_only | intro _ | split)

theorem execFieldWindowRequest_only {pt : Part} (hp : pt.off [.host, .out, .regs] = true) (press : Fin 16) (write : Bool) (ofs len : Nat)
    (reply : FarReply) (s : State) (s' : State) (ht : execFieldWindowRequest press write ofs len reply s = .next s') :
    s.node.Same pt s'.node := by
  have h0 := Node.Same.refl pt s.node
  unfold execFieldWindowRequest at ht
  refine State.upd_only ?_ ht
  repeat' (first | with_reducible assumption | exact Part.off_sub hp rfl | with_reducible apply Node.when_only
                  | with_reducible apply Node.cross_only | with_reducible apply Node.fieldParts_only | intro _)

theorem Node.putSignal_only {pt : Part} {n0 : Node} (hp : pt.off [.regs] = true) (n : Node) (sig : Nat) (v : DWord) (h0 : n0.Same pt n) :
    n0.Same pt (Node.putSignal n sig v) := by
  unfold Node.putSignal
  repeat' (first | with_reducible assumption | exact Part.off_sub hp rfl | with_reducible apply Node.putWord64_only)

theorem Node.setQual_only {pt : Part} {n0 : Node} (hp : pt.off [.regs] = true) (n : Node) (sig q : Nat) (h0 : n0.Same pt n) :
    n0.Same pt (Node.setQual n sig q) := by
  unfold Node.setQual
  repeat' (first | with_reducible assumption | exact Part.off_sub hp rfl | with_reducible apply Node.wr_only)

theorem Node.stampGood_only {pt : Part} {n0 : Node} (hp : pt.off [.regs] = true) (n : Node) (sig : Nat) (h0 : n0.Same pt n) :
    n0.Same pt (Node.stampGood n sig) := by
  unfold Node.stampGood
  repeat' (first | with_reducible assumption | exact Part.off_sub hp rfl | with_reducible apply Node.wr_only
                  | with_reducible apply Node.setQual_only)

theorem Node.initSignal_only {pt : Part} {n0 : Node} (hp : pt.off [.regs] = true) (n : Node) (sig : Nat) (h0 : n0.Same pt n) :
    n0.Same pt (Node.initSignal n sig) := by
  unfold Node.initSignal
  repeat' (first | with_reducible assumption | exact Part.off_sub hp rfl | with_reducible apply Node.wr_only
                  | with_reducible apply Node.wrBit_only | with_reducible apply Node.putSignal_only | with_reducible apply Node.setQual_only)

theorem Node.initSignals_only {pt : Part} {n0 : Node} (hp : pt.off [.runs, .blend, .regs] = true) (n : Node) (h0 : n0.Same pt n) :
    n0.Same pt (Node.initSignals n) := by
  unfold Node.initSignals
  repeat' (first | with_reducible assumption | exact Part.off_sub hp rfl | with_reducible apply Node.each_only
                  | with_reducible apply Node.resetWords_only | with_reducible apply Node.wrBit_only | with_reducible apply Node.putSignal_only
                  | intro _ | split | dsimp -proj only | with_reducible apply with_runs_only | with_reducible apply with_blend_only)

theorem Node.blendApplied_only {pt : Part} {n0 : Node} (hp : pt.off [.runs, .blend, .regs] = true) (n before : Node) (h0 : n0.Same pt n)
    (_h1 : n0.Same pt before) :
    n0.Same pt (Node.blendApplied n before) := by
  unfold Node.blendApplied
  repeat' (first | with_reducible assumption | exact Part.off_sub hp rfl | with_reducible apply Node.when_only
                  | with_reducible apply Node.each_only | with_reducible apply Node.wrBit_only | with_reducible apply Node.initSignal_only
                  | intro _ | split | dsimp -proj only | with_reducible apply with_runs_only | with_reducible apply with_blend_only
                  | with_reducible apply with_runs_blend_only)

theorem Node.saturated_only {pt : Part} {n0 : Node} (hp : pt.off [.runs, .book, .host, .regs] = true) (n : Node) (e : Nat) (sat : Bool)
    (h0 : n0.Same pt n) :
    n0.Same pt (Node.saturated n e sat) := by
  unfold Node.saturated
  repeat' (first | with_reducible assumption | exact Part.off_sub hp rfl | with_reducible apply Node.when_only
                  | with_reducible apply Node.count_only | with_reducible apply Node.raiseFirst_only | intro _)

theorem Node.noValue_only {pt : Part} {n0 : Node} (hp : pt.off [.runs, .book, .host, .regs] = true) (n : Node) (e : Nat) (h0 : n0.Same pt n) :
    n0.Same pt (Node.noValue n e) := by
  unfold Node.noValue
  repeat' (first | with_reducible assumption | exact Part.off_sub hp rfl | with_reducible apply Node.count_only
                  | with_reducible apply Node.raiseFirst_only)

theorem Node.consume_only {pt : Part} {n0 : Node} (hp : pt.off [.regs, .ram] = true) (n : Node) (key upd : Nat) (h0 : n0.Same pt n) :
    n0.Same pt (Node.consume n key upd) := by
  unfold Node.consume
  repeat' (first | with_reducible assumption | exact Part.off_sub hp rfl | with_reducible apply Node.wrBit_only
                  | with_reducible apply Node.mbAck_only | with_reducible apply Node.setImgBit_only | intro _ | split)

theorem Node.writeHost_only {pt : Part} {n0 : Node} (hp : pt.off [.runs, .book, .blend, .host, .out, .regs] = true) (n : Node) (h : Nat)
    (data : List Byte) (h0 : n0.Same pt n) :
    n0.Same pt (Node.writeHost n h data) := by
  unfold Node.writeHost
  repeat' (first | with_reducible assumption | exact Part.off_sub hp rfl | with_reducible apply Node.when_only
                  | with_reducible apply Node.count_only | with_reducible apply Node.emit_only | with_reducible apply Node.raiseFirst_only
                  | with_reducible apply Node.endRun_only | intro _ | split | dsimp -proj only | with_reducible apply with_blend_only)

theorem Node.putCommand_only {pt : Part} {n0 : Node} (hp : pt.off [.outs, .regs] = true) (n : Node) (c : Nat) (v : Word) (h0 : n0.Same pt n) :
    n0.Same pt (Node.putCommand n c v) := by
  unfold Node.putCommand
  repeat' (first | with_reducible assumption | exact Part.off_sub hp rfl | with_reducible apply Node.putWord_only | intro _
                  | split | dsimp -proj only | with_reducible apply with_outs_only)

theorem Node.writeContainer_only {pt : Part} {n0 : Node} (hp : pt.off [.runs, .book, .flows, .blend, .host, .outs, .out, .regs, .ram] = true)
    (n : Node) (key : Nat) (data : List Byte) (touched : List Nat) (h0 : n0.Same pt n) :
    n0.Same pt (Node.writeContainer n key data touched) := by
  unfold Node.writeContainer
  repeat' (first | with_reducible assumption | exact Part.off_sub hp rfl | with_reducible apply Node.each_only
                  | with_reducible apply Node.putBytes_only | with_reducible apply Node.xabort_only | with_reducible apply Node.exchange_only
                  | with_reducible apply Node.mbStore_only | with_reducible apply Node.outExchange_only | with_reducible apply Node.writeHost_only
                  | with_reducible apply Node.putCommand_only | intro _ | split)

theorem Node.takeValue_only {pt : Part} {n0 : Node} (hp : pt.off [.runs, .book, .host, .regs] = true) (n : Node) (e sig : Nat) (r : Nat × Bool)
    (h0 : n0.Same pt n) :
    n0.Same pt (Node.takeValue n e sig r) := by
  unfold Node.takeValue
  repeat' (first | with_reducible assumption | exact Part.off_sub hp rfl | with_reducible apply Node.wrBit_only
                  | with_reducible apply Node.putSignal_only | with_reducible apply Node.saturated_only)

theorem Node.gradeBad_only {pt : Part} {n0 : Node} (hp : pt.off [.runs, .book, .host, .regs] = true) (n : Node) (e q : Nat) (h0 : n0.Same pt n) :
    n0.Same pt (Node.gradeBad n e q) := by
  unfold Node.gradeBad
  repeat' (first | with_reducible assumption | exact Part.off_sub hp rfl | with_reducible apply Node.when_only
                  | with_reducible apply Node.setQual_only | with_reducible apply Node.noValue_only | with_reducible apply Node.takeValue_only
                  | intro _ | split | dsimp -proj only)

theorem Node.gradeGood_only {pt : Part} {n0 : Node} (hp : pt.off [.runs, .book, .blend, .host, .regs] = true) (n : Node) (e marker : Nat)
    (data : List Byte) (h0 : n0.Same pt n) :
    n0.Same pt (Node.gradeGood n e marker data) := by
  unfold Node.gradeGood
  repeat' (first | with_reducible assumption | exact Part.off_sub hp rfl | with_reducible apply Node.when_only
                  | with_reducible apply Node.count_only | with_reducible apply Node.raise_only | with_reducible apply Node.setQual_only
                  | with_reducible apply Node.stampGood_only | with_reducible apply Node.noValue_only | with_reducible apply Node.takeValue_only
                  | intro _ | split | dsimp -proj only | with_reducible apply with_blend_only)

theorem Node.moveOut_only {pt : Part} {n0 : Node} (hp : pt.off [.runs, .book, .host, .pair, .regs] = true) (n : Node) (e : Nat) (data : List Byte)
    (h0 : n0.Same pt n) :
    n0.Same pt (Node.moveOut n e data).1 := by
  unfold Node.moveOut
  repeat' (first | with_reducible assumption | exact Part.off_sub hp rfl | with_reducible apply Node.when_only
                  | with_reducible apply Node.saturated_only | with_reducible apply Node.noValue_only | intro _ | split | dsimp -proj only
                  | with_reducible apply with_pair_only)

theorem Node.jobSource_only {pt : Part} {n0 : Node} (hp : pt.off [.runs, .book, .blend, .host, .regs] = true) (n : Node) (job key : Nat)
    (ents inconsistent : List Nat) (hostReads : List HostRead) (good : List (Nat × Nat)) (h0 : n0.Same pt n) :
    n0.Same pt (Node.jobSource n job key ents inconsistent hostReads good).1 := by
  unfold Node.jobSource
  repeat' (first | with_reducible assumption | exact Part.off_sub hp rfl | with_reducible apply Node.when_only
                  | with_reducible apply Node.each_only | with_reducible apply Node.count_only | with_reducible apply Node.raise_only
                  | with_reducible apply Node.raiseFirst_only | with_reducible apply Node.endRun_only | with_reducible apply Node.xabort_only
                  | with_reducible apply Node.gradeBad_only | with_reducible apply Node.gradeGood_only | intro _ | split)

theorem Node.jobTarget_only {pt : Part} {n0 : Node} (hp : pt.off [.runs, .book, .host, .pair, .regs] = true) (n : Node) (key : Nat)
    (ents : List Nat) (h0 : n0.Same pt n) :
    n0.Same pt (Node.jobTarget n key ents).1 := by
  unfold Node.jobTarget
  repeat' (first | with_reducible assumption | exact Part.off_sub hp rfl | with_reducible apply Node.moveOut_only
                  | with_reducible apply foldl_only | with_reducible apply foldlPair_only | intro _)

theorem Node.runJob_only {pt : Part} {n0 : Node} (hp : pt.off [.runs, .book, .flows, .blend, .host, .outs, .pair, .out, .regs, .ram] = true)
    (n : Node) (j : Nat) (inconsistent : List Nat) (hostReads : List HostRead) (h0 : n0.Same pt n) :
    n0.Same pt (Node.runJob n j inconsistent hostReads) := by
  unfold Node.runJob
  repeat' (first | with_reducible assumption | exact Part.off_sub hp rfl | with_reducible apply Node.when_only
                  | with_reducible apply Node.each_only | with_reducible apply Node.consume_only | with_reducible apply Node.writeContainer_only
                  | with_reducible apply Node.jobSource_only | with_reducible apply Node.jobTarget_only | with_reducible apply foldl_only
                  | with_reducible apply foldlPair_only | intro _)

theorem execBlendJob_only {pt : Part} (hp : pt.off [.runs, .book, .trellis, .flows, .blend, .host, .outs, .pair, .out, .regs, .ram] = true)
    (entry : Nat) (inconsistent : List Nat) (hostReads : List HostRead) (s : State) (s' : State)
    (ht : execBlendJob entry inconsistent hostReads s = .next s') :
    s.node.Same pt s'.node := by
  have h0 := Node.Same.refl pt s.node
  unfold execBlendJob at ht
  refine State.upd_only ?_ ht
  repeat' (first | with_reducible assumption | exact Part.off_sub hp rfl | with_reducible apply Node.when_only
                  | with_reducible apply Node.startAction_only | with_reducible apply Node.occupy_only | with_reducible apply Node.runJob_only
                  | intro _)

theorem Node.hostSignal_only {pt : Part} {n0 : Node} (hp : pt.off [.book, .host, .regs] = true) (n : Node) (sig : Nat) (lo hi : Word)
    (h0 : n0.Same pt n) :
    n0.Same pt (Node.hostSignal n sig lo hi) := by
  unfold Node.hostSignal
  repeat' (first | with_reducible assumption | exact Part.off_sub hp rfl | with_reducible apply Node.wrBit_only
                  | with_reducible apply Node.count_only | with_reducible apply Node.raise_only | with_reducible apply Node.putSignal_only
                  | with_reducible apply Node.stampGood_only | intro _ | split)

theorem Node.signalHigh_only {pt : Part} {n0 : Node} (hp : pt.off [.book, .blend, .host, .regs] = true) (n : Node) (by_ : Initiator) (sig : Nat)
    (v : Word) (h0 : n0.Same pt n) :
    n0.Same pt (Node.signalHigh n by_ sig v) := by
  unfold Node.signalHigh
  repeat' (first | with_reducible assumption | exact Part.off_sub hp rfl | with_reducible apply Node.count_only
                  | with_reducible apply Node.setHeld_only | with_reducible apply Node.dropHeld_only | with_reducible apply Node.hostSignal_only
                  | intro _ | split)

theorem Node.blendFinding_only {pt : Part} {n0 : Node} (hp : pt.off [.book, .blend, .host, .regs] = true) (n : Node) (f : BlendStore × ScrubFinding)
    (h0 : n0.Same pt n) :
    n0.Same pt (Node.blendFinding n f) := by
  unfold Node.blendFinding
  repeat' (first | with_reducible assumption | exact Part.off_sub hp rfl | with_reducible apply Node.when_only
                  | with_reducible apply Node.count_only | with_reducible apply Node.raise_only | with_reducible apply Node.putSignal_only
                  | with_reducible apply Node.setQual_only | intro _ | split | dsimp -proj only | with_reducible apply with_blend_only)

theorem execBlendScrubPass_only {pt : Part} (hp : pt.off [.book, .blend, .host, .regs] = true) (findings : List (BlendStore × ScrubFinding))
    (s : State) (s' : State) (ht : execBlendScrubPass findings s = .next s') :
    s.node.Same pt s'.node := by
  have h0 := Node.Same.refl pt s.node
  unfold execBlendScrubPass at ht
  refine State.upd_only ?_ ht
  repeat' (first | with_reducible assumption | exact Part.off_sub hp rfl | with_reducible apply Node.when_only
                  | with_reducible apply Node.each_only | with_reducible apply Node.blendFinding_only | intro _)

theorem execBlendBankCopyDone_only {pt : Part} (hp : pt.off [.regs] = true) (s : State) (s' : State) (ht : execBlendBankCopyDone s = .next s') :
    s.node.Same pt s'.node := by
  have h0 := Node.Same.refl pt s.node
  unfold execBlendBankCopyDone at ht
  refine State.upd_only ?_ ht
  repeat' (first | with_reducible assumption | exact Part.off_sub hp rfl | with_reducible apply Node.wrBit_only)

theorem Node.hostCommand_only {pt : Part} {n0 : Node} (hp : pt.off [.runs, .book, .host, .outs, .regs] = true) (n : Node) (c : Nat) (v : Word)
    (h0 : n0.Same pt n) :
    n0.Same pt (Node.hostCommand n c v) := by
  unfold Node.hostCommand
  repeat' (first | with_reducible assumption | exact Part.off_sub hp rfl | with_reducible apply Node.count_only
                  | with_reducible apply Node.raiseFirst_only | with_reducible apply Node.endRun_only | with_reducible apply Node.putCommand_only
                  | intro _ | split)

theorem Node.takeBank_only {pt : Part} {n0 : Node} (hp : pt.off [.cellar, .shadow, .force] = true) (n : Node) (bank : SMap Word) (h0 : n0.Same
    pt n) :
    n0.Same pt (Node.takeBank n bank) := by
  unfold Node.takeBank
  repeat' (first | with_reducible assumption | exact Part.off_sub hp rfl | with_reducible apply Node.putShadows_only
                  | with_reducible apply Node.putForces_only | intro _ | split | dsimp -proj only | with_reducible apply with_cellar_only)

theorem Node.takeSchedule_only {pt : Part} {n0 : Node} (hp : pt.off [.trellis, .regs, .shadow, .force] = true) (n : Node) (recomputed : Bool)
    (words : List (Nat × Word)) (h0 : n0.Same pt n) :
    n0.Same pt (Node.takeSchedule n recomputed words) := by
  unfold Node.takeSchedule
  repeat' (first | with_reducible assumption | exact Part.off_sub hp rfl | with_reducible apply Node.putForces_only
                  | with_reducible apply Node.endHolds_only | with_reducible apply Node.scheduleApplied_only | intro _ | split)

theorem Node.topoGroup_only {pt : Part} {n0 : Node} (hp : pt.off [.book, .trellis, .host, .regs, .shadow] = true) (n : Node) (g : Nat)
    (dirty : Bool) (h0 : n0.Same pt n) :
    n0.Same pt (Node.topoGroup n g dirty) := by
  unfold Node.topoGroup
  repeat' (first | with_reducible assumption | exact Part.off_sub hp rfl | with_reducible apply Node.when_only
                  | with_reducible apply Node.raise_only | with_reducible apply Node.reloadGroup_only | with_reducible apply Node.setCode_only
                  | with_reducible apply Node.bumpSeq_only | intro _ | split)

theorem Node.takeTopology_only {pt : Part} {n0 : Node} (hp : pt.off [.runs, .book, .ina, .flows, .blend, .host, .regs] = true) (n : Node)
    (c : TopoCommit) (h0 : n0.Same pt n) :
    n0.Same pt (Node.takeTopology n c) := by
  unfold Node.takeTopology
  repeat' (first | with_reducible assumption | exact Part.off_sub hp rfl | with_reducible apply Node.putWord_only
                  | with_reducible apply Node.wr_only | with_reducible apply Node.wrBit_only | with_reducible apply Node.incr_only
                  | with_reducible apply Node.writeDirectory_only | with_reducible apply Node.reactivate_only | intro _ | split | dsimp -proj only
                  | with_reducible apply with_runs_only | with_reducible apply with_ina_only | with_reducible apply with_blend_only
                  | with_reducible apply with_runs_ina_blend_only)

theorem Node.applyTopology_only {pt : Part} {n0 : Node}
    (hp : pt.off [.runs, .book, .trellis, .cellar, .ina, .flows, .blend, .host, .regs, .shadow, .force] = true) (n : Node) (c : TopoCommit)
    (h0 : n0.Same pt n) :
    n0.Same pt (Node.applyTopology n c) := by
  unfold Node.applyTopology
  repeat' (first | with_reducible assumption | exact Part.off_sub hp rfl | with_reducible apply Node.each_only
                  | with_reducible apply Node.putForces_only | with_reducible apply Node.count_only | with_reducible apply Node.fire_only
                  | with_reducible apply Node.raise_only | with_reducible apply Node.takeBank_only | with_reducible apply Node.takeSchedule_only
                  | with_reducible apply Node.topoGroup_only | with_reducible apply Node.takeTopology_only | intro _)

theorem Node.commitTopology_only {pt : Part} {n0 : Node}
    (hp : pt.off [.faults, .runs, .book, .trellis, .cellar, .ina, .flows, .blend, .host, .regs, .shadow, .force] = true) (n : Node) (c : TopoCommit)
    (h0 : n0.Same pt n) :
    n0.Same pt (Node.commitTopology n c) := by
  unfold Node.commitTopology
  repeat' (first | with_reducible assumption | exact Part.off_sub hp rfl | with_reducible apply Node.dropFault_only
                  | with_reducible apply Node.inaState_only | with_reducible apply Node.endSpec_only
                  | with_reducible apply Node.applyTopology_only | intro _ | split | dsimp -proj only | with_reducible apply with_cellar_only
                  | with_reducible apply with_ina_only | with_reducible apply with_cellar_ina_only)

theorem execTopologyCommit_only {pt : Part}
    (hp : pt.off [.faults, .runs, .book, .trellis, .cellar, .ina, .flows, .blend, .host, .regs, .shadow, .force] = true) (s : State) (s' : State)
    (ht : execTopologyCommit s = .next s') :
    s.node.Same pt s'.node := by
  have h0 := Node.Same.refl pt s.node
  unfold execTopologyCommit at ht
  refine State.upd_only ?_ ht
  repeat' (first | with_reducible assumption | exact Part.off_sub hp rfl | with_reducible apply Node.when_only
                  | with_reducible apply Node.settle_only | with_reducible apply Node.tableChange_only
                  | with_reducible apply Node.commitTopology_only | intro _ | split)

theorem Node.renumber_only {pt : Part} {n0 : Node}
    (hp : pt.off [.runs, .book, .trellis, .cellar, .ina, .flows, .blend, .host, .regs, .shadow, .force] = true) (n : Node) (h0 : n0.Same pt n) :
    n0.Same pt (Node.renumber n) := by
  unfold Node.renumber
  repeat' (first | with_reducible assumption | exact Part.off_sub hp rfl | with_reducible apply Node.refineSpec_only
                  | with_reducible apply Node.applyTopology_only | intro _ | split | dsimp -proj only | with_reducible apply with_ina_only)

theorem Node.adoptDirectory_only {pt : Part} {n0 : Node} (hp : pt.off [.ina] = true) (n : Node) (h0 : n0.Same pt n) :
    n0.Same pt (Node.adoptDirectory n) := by
  unfold Node.adoptDirectory
  repeat' (first | with_reducible assumption | exact Part.off_sub hp rfl | with_reducible apply Node.when_only | intro _ | split
                  | dsimp -proj only | with_reducible apply with_ina_only)

theorem Node.opApplied_only {pt : Part} {n0 : Node} (hp : pt.off [.flows, .regs] = true) (n before : Node) (h0 : n0.Same pt n)
    (_h1 : n0.Same pt before) :
    n0.Same pt (Node.opApplied n before) := by
  unfold Node.opApplied
  repeat' (first | with_reducible assumption | exact Part.off_sub hp rfl | with_reducible apply Node.each_only
                  | with_reducible apply Node.putWord_only | with_reducible apply Node.wr_only | with_reducible apply Node.setFlow_only | intro _)

theorem Node.ratesApplied_only {pt : Part} {n0 : Node} (hp : pt.off [.book] = true) (n before : Node) (h0 : n0.Same pt n) (_h1 : n0.Same pt
    before) :
    n0.Same pt (Node.ratesApplied n before) := by
  unfold Node.ratesApplied
  repeat' (first | with_reducible assumption | exact Part.off_sub hp rfl | intro _ | split | dsimp -proj only
                  | with_reducible apply with_book_only)

theorem Node.groupApplied_only {pt : Part} {n0 : Node}
    (hp : pt.off [.pins, .faults, .runs, .book, .trellis, .cellar, .ports, .ina, .flows, .presses, .cans, .lineUnits, .blend, .time, .host,
        .outs, .out, .fresh, .regs, .shadow, .force, .ram] = true) (n before : Node) (g : Nat) (h0 : n0.Same pt n) (h1 : n0.Same pt before) :
    n0.Same pt (Node.groupApplied n before g) := by
  unfold Node.groupApplied
  repeat' (first | with_reducible assumption | exact Part.off_sub hp rfl | with_reducible apply Node.when_only
                  | with_reducible apply Node.outputsApplied_only | with_reducible apply Node.loadStatic_only
                  | with_reducible apply Node.scheduleApplied_only | with_reducible apply Node.portsApplied_only
                  | with_reducible apply Node.timeApplied_only | with_reducible apply Node.reactivate_only
                  | with_reducible apply Node.canApplied_only | with_reducible apply Node.pressesApplied_only
                  | with_reducible apply Node.blendApplied_only | with_reducible apply Node.renumber_only
                  | with_reducible apply Node.opApplied_only | with_reducible apply Node.ratesApplied_only | intro _ | split)

theorem Node.takeGroups_only {pt : Part} {n0 : Node}
    (hp : pt.off [.pins, .commits, .faults, .runs, .book, .trellis, .cellar, .ports, .ina, .flows, .sessions, .presses, .cans, .lineUnits,
        .blend, .time, .host, .outs, .vnt, .out, .fresh, .regs, .shadow, .force, .ram] = true) (n : Node) (gs : List Nat) (h0 : n0.Same pt n) :
    n0.Same pt (Node.takeGroups n gs) := by
  unfold Node.takeGroups
  repeat' (first | with_reducible assumption | exact Part.off_sub hp rfl | with_reducible apply Node.each_only
                  | with_reducible apply Node.setPhase_only | with_reducible apply Node.applyGroup_only
                  | with_reducible apply Node.groupTaken_only | with_reducible apply Node.odOutcome_only
                  | with_reducible apply Node.groupApplied_only | intro _)

theorem Node.takeOne_only {pt : Part} {n0 : Node}
    (hp : pt.off [.pins, .commits, .faults, .runs, .book, .trellis, .cellar, .ports, .ina, .flows, .sessions, .presses, .cans, .lineUnits,
        .blend, .time, .host, .outs, .vnt, .out, .fresh, .regs, .shadow, .force, .ram] = true) (n : Node) (g : Nat) (h0 : n0.Same pt n) :
    n0.Same pt (Node.takeOne n g) := by
  unfold Node.takeOne
  repeat' (first | with_reducible assumption | exact Part.off_sub hp rfl | with_reducible apply Node.fire_only
                  | with_reducible apply Node.takeGroups_only)

theorem Node.turnAway_only {pt : Part} {n0 : Node} (hp : pt.off [.book, .host, .regs] = true) (n : Node) (g code : Nat) (h0 : n0.Same pt n) :
    n0.Same pt (Node.turnAway n g code) := by
  unfold Node.turnAway
  repeat' (first | with_reducible assumption | exact Part.off_sub hp rfl | with_reducible apply Node.setCode_only
                  | with_reducible apply Node.setInfo_only | with_reducible apply Node.refused_only)

theorem Node.refuseCommit_only {pt : Part} {n0 : Node}
    (hp : pt.off [.commits, .runs, .book, .cellar, .ina, .sessions, .presses, .host, .vnt, .out, .regs, .shadow, .ram] = true) (n : Node)
    (g code : Nat) (info : Word) (h0 : n0.Same pt n) :
    n0.Same pt (Node.refuseCommit n g code info) := by
  unfold Node.refuseCommit
  repeat' (first | with_reducible assumption | exact Part.off_sub hp rfl | with_reducible apply Node.setInfo_only
                  | with_reducible apply Node.refuseGroup_only | with_reducible apply Node.odOutcome_only)

theorem Node.groupGo_only {pt : Part} {n0 : Node} (hp : pt.off [.commits, .book, .host, .regs] = true) (n : Node) (g : Nat) (h0 : n0.Same pt n) :
    n0.Same pt (Node.groupGo n g) := by
  unfold Node.groupGo
  repeat' (first | with_reducible assumption | exact Part.off_sub hp rfl | with_reducible apply Node.when_only
                  | with_reducible apply Node.setPhase_only | with_reducible apply Node.turnAway_only | intro _ | split)

theorem execCommitGo_only {pt : Part} (hp : pt.off [.commits, .book, .blend, .host, .regs] = true) (by_ : Initiator) (group : Nat) (s : State)
    (s' : State) (ht : execCommitGo by_ group s = .next s') :
    s.node.Same pt s'.node := by
  have h0 := Node.Same.refl pt s.node
  unfold execCommitGo at ht
  refine State.upd_only ?_ ht
  repeat' (first | with_reducible assumption | exact Part.off_sub hp rfl | with_reducible apply Node.access_only
                  | with_reducible apply Node.groupGo_only | intro _)

theorem Node.sendSet_only {pt : Part} {n0 : Node} (hp : pt.off [.pair, .out] = true) (n : Node) (gs : List Nat) (h0 : n0.Same pt n) :
    n0.Same pt (Node.sendSet n gs) := by
  unfold Node.sendSet
  repeat' (first | with_reducible assumption | exact Part.off_sub hp rfl | with_reducible apply Node.when_only
                  | with_reducible apply Node.emit_only | intro _ | split | dsimp -proj only | with_reducible apply with_pair_only)

theorem Node.appliedAlone_only {pt : Part} {n0 : Node} (hp : pt.off [.pair, .regs] = true) (n : Node) (gs : List Nat) (h0 : n0.Same pt n) :
    n0.Same pt (Node.appliedAlone n gs) := by
  unfold Node.appliedAlone
  repeat' (first | with_reducible assumption | exact Part.off_sub hp rfl | with_reducible apply Node.when_only
                  | with_reducible apply Node.wrBit_only | intro _ | split | dsimp -proj only | with_reducible apply with_pair_only)

theorem execCommitValidated_only {pt : Part}
    (hp : pt.off [.commits, .runs, .book, .cellar, .ina, .sessions, .presses, .host, .pair, .vnt, .out, .regs, .shadow, .ram] = true)
    (group leadNs : Nat) (s : State) (s' : State) (ht : execCommitValidated group leadNs s = .next s') :
    s.node.Same pt s'.node := by
  have h0 := Node.Same.refl pt s.node
  unfold execCommitValidated at ht
  refine State.upd_only ?_ ht
  repeat' (first | with_reducible assumption | exact Part.off_sub hp rfl | with_reducible apply Node.when_only
                  | with_reducible apply Node.setPhase_only | with_reducible apply Node.refuseCommit_only | with_reducible apply Node.sendSet_only
                  | intro _ | split)

theorem execIdleCommitTakeEffect_only {pt : Part}
    (hp : pt.off [.pins, .commits, .faults, .runs, .book, .trellis, .cellar, .ports, .ina, .flows, .sessions, .presses, .cans, .lineUnits,
        .blend, .time, .host, .outs, .vnt, .out, .fresh, .regs, .shadow, .force, .ram] = true) (group : Nat) (s : State) (s' : State) (ht :
        execIdleCommitTakeEffect group s = .next s') :
    s.node.Same pt s'.node := by
  have h0 := Node.Same.refl pt s.node
  unfold execIdleCommitTakeEffect at ht
  refine State.upd_only ?_ ht
  repeat' (first | with_reducible assumption | exact Part.off_sub hp rfl | with_reducible apply Node.when_only
                  | with_reducible apply Node.takeOne_only | intro _)

theorem execIdleCommitTimeout_only {pt : Part}
    (hp : pt.off [.commits, .runs, .book, .cellar, .ina, .sessions, .presses, .host, .vnt, .out, .regs, .shadow, .ram] = true) (group : Nat)
    (s : State) (s' : State) (ht : execIdleCommitTimeout group s = .next s') :
    s.node.Same pt s'.node := by
  have h0 := Node.Same.refl pt s.node
  unfold execIdleCommitTimeout at ht
  refine State.upd_only ?_ ht
  repeat' (first | with_reducible assumption | exact Part.off_sub hp rfl | with_reducible apply Node.when_only
                  | with_reducible apply Node.refuseCommit_only | intro _)

theorem Node.mcResult_only {pt : Part} {n0 : Node} (hp : pt.off [.regs] = true) (n : Node) (code : Nat) (info : Word) (h0 : n0.Same pt n) :
    n0.Same pt (Node.mcResult n code info) := by
  unfold Node.mcResult
  repeat' (first | with_reducible assumption | exact Part.off_sub hp rfl | with_reducible apply Node.putWord_only
                  | with_reducible apply Node.wr_only)

theorem Node.mcRefused_only {pt : Part} {n0 : Node} (hp : pt.off [.book, .host, .regs] = true) (n : Node) (g code : Nat) (info : Word)
    (h0 : n0.Same pt n) :
    n0.Same pt (Node.mcRefused n g code info) := by
  unfold Node.mcRefused
  repeat' (first | with_reducible assumption | exact Part.off_sub hp rfl | with_reducible apply Node.refused_only
                  | with_reducible apply Node.mcResult_only)

theorem Node.mcGo_only {pt : Part} {n0 : Node} (hp : pt.off [.mc, .book, .host, .pair, .out, .regs] = true) (n : Node) (leadNs : Nat)
    (h0 : n0.Same pt n) :
    n0.Same pt (Node.mcGo n leadNs) := by
  unfold Node.mcGo
  repeat' (first | with_reducible assumption | exact Part.off_sub hp rfl | with_reducible apply Node.sendSet_only
                  | with_reducible apply Node.mcResult_only | with_reducible apply Node.mcRefused_only | intro _ | split | dsimp -proj only
                  | with_reducible apply with_mc_only)

theorem execMcCommitGo_only {pt : Part} (hp : pt.off [.mc, .book, .blend, .host, .pair, .out, .regs] = true) (by_ : Initiator) (leadNs : Nat)
    (s : State) (s' : State) (ht : execMcCommitGo by_ leadNs s = .next s') :
    s.node.Same pt s'.node := by
  have h0 := Node.Same.refl pt s.node
  unfold execMcCommitGo at ht
  refine State.upd_only ?_ ht
  repeat' (first | with_reducible assumption | exact Part.off_sub hp rfl | with_reducible apply Node.access_only
                  | with_reducible apply Node.mcGo_only | intro _)

theorem Node.mcEnd_only {pt : Part} {n0 : Node} (hp : pt.off [.mc, .book, .host, .regs] = true) (n : Node) (code : Nat) (h0 : n0.Same pt n) :
    n0.Same pt (Node.mcEnd n code) := by
  unfold Node.mcEnd
  repeat' (first | with_reducible assumption | exact Part.off_sub hp rfl | with_reducible apply Node.mcResult_only
                  | with_reducible apply Node.mcRefused_only | intro _ | split | dsimp -proj only | with_reducible apply with_mc_only)

theorem Node.mcAbort_only {pt : Part} {n0 : Node} (hp : pt.off [.mc, .book, .trellis, .host, .regs, .shadow] = true) (n : Node) (h0 : n0.Same pt
    n) :
    n0.Same pt (Node.mcAbort n) := by
  unfold Node.mcAbort
  repeat' (first | with_reducible assumption | exact Part.off_sub hp rfl | with_reducible apply Node.each_only
                  | with_reducible apply Node.reloadGroup_only | with_reducible apply Node.mcEnd_only | intro _)

theorem execMcCommitAbort_only {pt : Part} (hp : pt.off [.mc, .book, .trellis, .host, .regs, .shadow] = true) (s : State) (s' : State)
    (ht : execMcCommitAbort s = .next s') :
    s.node.Same pt s'.node := by
  have h0 := Node.Same.refl pt s.node
  unfold execMcCommitAbort at ht
  refine State.upd_only ?_ ht
  repeat' (first | with_reducible assumption | exact Part.off_sub hp rfl | with_reducible apply Node.when_only
                  | with_reducible apply Node.cross_only | with_reducible apply Node.mcAbort_only | intro _)

theorem execMcCommitTimeout_only {pt : Part} (hp : pt.off [.mc, .book, .host, .regs] = true) (s : State) (s' : State)
    (ht : execMcCommitTimeout s = .next s') :
    s.node.Same pt s'.node := by
  have h0 := Node.Same.refl pt s.node
  unfold execMcCommitTimeout at ht
  refine State.upd_only ?_ ht
  repeat' (first | with_reducible assumption | exact Part.off_sub hp rfl | with_reducible apply Node.when_only
                  | with_reducible apply Node.mcEnd_only | intro _)

theorem Node.groupAbort_only {pt : Part} {n0 : Node}
    (hp : pt.off [.commits, .mc, .runs, .book, .trellis, .cellar, .ina, .sessions, .presses, .host, .vnt, .out, .regs, .shadow, .ram] = true)
    (n : Node) (g : Nat) (h0 : n0.Same pt n) :
    n0.Same pt (Node.groupAbort n g) := by
  unfold Node.groupAbort
  repeat' (first | with_reducible assumption | exact Part.off_sub hp rfl | with_reducible apply Node.when_only
                  | with_reducible apply Node.setPhase_only | with_reducible apply Node.reloadGroup_only | with_reducible apply Node.setCode_only
                  | with_reducible apply Node.setInfo_only | with_reducible apply Node.refused_only | with_reducible apply Node.odOutcome_only
                  | with_reducible apply Node.mcEnd_only | intro _)

theorem execCommitAbort_only {pt : Part}
    (hp : pt.off [.commits, .mc, .runs, .book, .trellis, .cellar, .ina, .sessions, .presses, .host, .vnt, .out, .regs, .shadow, .ram] = true)
    (group : Nat) (s : State) (s' : State) (ht : execCommitAbort group s = .next s') :
    s.node.Same pt s'.node := by
  have h0 := Node.Same.refl pt s.node
  unfold execCommitAbort at ht
  refine State.upd_only ?_ ht
  repeat' (first | with_reducible assumption | exact Part.off_sub hp rfl | with_reducible apply Node.when_only
                  | with_reducible apply Node.xabort_only | with_reducible apply Node.groupAbort_only | intro _ | split)

theorem Node.mcStart_only {pt : Part} {n0 : Node}
    (hp : pt.off [.pins, .commits, .mc, .faults, .runs, .book, .trellis, .cellar, .ports, .ina, .flows, .sessions, .presses, .cans, .lineUnits,
        .blend, .time, .host, .outs, .pair, .vnt, .out, .fresh, .regs, .shadow, .force, .ram] = true) (n : Node) (h0 : n0.Same pt n) :
    n0.Same pt (Node.mcStart n) := by
  unfold Node.mcStart
  repeat' (first | with_reducible assumption | exact Part.off_sub hp rfl | with_reducible apply Node.when_only
                  | with_reducible apply Node.setPhase_only | with_reducible apply Node.fire_only | with_reducible apply Node.takeGroups_only
                  | with_reducible apply Node.appliedAlone_only | with_reducible apply Node.mcResult_only | intro _ | split | dsimp -proj only
                  | with_reducible apply with_mc_only)

theorem Node.commitsStart_only {pt : Part} {n0 : Node}
    (hp : pt.off [.pins, .commits, .mc, .faults, .runs, .book, .trellis, .cellar, .ports, .ina, .flows, .sessions, .presses, .cans, .lineUnits,
        .blend, .time, .host, .outs, .pair, .vnt, .out, .fresh, .regs, .shadow, .force, .ram] = true) (n : Node) (h0 : n0.Same pt n) :
    n0.Same pt (Node.commitsStart n) := by
  unfold Node.commitsStart
  repeat' (first | with_reducible assumption | exact Part.off_sub hp rfl | with_reducible apply Node.each_only
                  | with_reducible apply Node.setPhase_only | with_reducible apply Node.takeOne_only | with_reducible apply Node.appliedAlone_only
                  | with_reducible apply Node.mcStart_only | intro _ | split | dsimp -proj only | with_reducible apply with_commits_only)

theorem Node.wheelStart_only {pt : Part} {n0 : Node}
    (hp : pt.off [.pins, .commits, .faults, .runs, .book, .trellis, .cellar, .ports, .ina, .flows, .sessions, .presses, .cans, .lineUnits,
        .blend, .time, .host, .outs, .pair, .vnt, .out, .fresh, .regs, .shadow, .force, .ram] = true) (n : Node) (h0 : n0.Same pt n) :
    n0.Same pt (Node.wheelStart n) := by
  unfold Node.wheelStart
  repeat' (first | with_reducible assumption | exact Part.off_sub hp rfl | with_reducible apply Node.when_only
                  | with_reducible apply Node.takeOne_only | with_reducible apply Node.appliedAlone_only | intro _ | split)

theorem Node.refuseAll_only {pt : Part} {n0 : Node}
    (hp : pt.off [.commits, .mc, .runs, .book, .cellar, .ina, .sessions, .presses, .host, .vnt, .out, .regs, .shadow, .ram] = true) (n : Node)
    (code : Nat) (h0 : n0.Same pt n) :
    n0.Same pt (Node.refuseAll n code) := by
  unfold Node.refuseAll
  repeat' (first | with_reducible assumption | exact Part.off_sub hp rfl | with_reducible apply Node.when_only
                  | with_reducible apply Node.each_only | with_reducible apply Node.refuseCommit_only | with_reducible apply Node.mcEnd_only
                  | intro _)

theorem Node.rackCell_only {pt : Part} {n0 : Node} (hp : pt.off [.pair, .regs, .shadow, .force] = true) (n : Node) (c : Nat × Word)
    (h0 : n0.Same pt n) :
    n0.Same pt (Node.rackCell n c) := by
  unfold Node.rackCell
  repeat' (first | with_reducible assumption | exact Part.off_sub hp rfl | with_reducible apply Node.putWord_only
                  | with_reducible apply Node.putShadow_only | with_reducible apply Node.putForce_only | with_reducible apply Node.wr_only
                  | intro _ | split | dsimp -proj only | with_reducible apply with_pair_only)

theorem Node.copyRacked_only {pt : Part} {n0 : Node} (hp : pt.off [.flows, .regs, .ram] = true) (n : Node) (h0 : n0.Same pt n) :
    n0.Same pt (Node.copyRacked n) := by
  unfold Node.copyRacked
  repeat' (first | with_reducible assumption | exact Part.off_sub hp rfl | with_reducible apply Node.each_only
                  | with_reducible apply Node.putWords_only | with_reducible apply Node.resetWords_only | with_reducible apply Node.keepBytes_only
                  | with_reducible apply Node.putRamWord_only | with_reducible apply Node.setFlow_only | intro _)

theorem Node.sendDelta_only {pt : Part} {n0 : Node} (hp : pt.off [.pair, .out] = true) (n : Node) (idx : Nat) (h0 : n0.Same pt n) :
    n0.Same pt (Node.sendDelta n idx) := by
  unfold Node.sendDelta
  repeat' (first | with_reducible assumption | exact Part.off_sub hp rfl | with_reducible apply Node.emit_only | intro _ | split
                  | dsimp -proj only | with_reducible apply with_pair_only)

theorem Node.sendBulk_only {pt : Part} {n0 : Node} (hp : pt.off [.pair, .out] = true) (n : Node) (h0 : n0.Same pt n) :
    n0.Same pt (Node.sendBulk n) := by
  unfold Node.sendBulk
  repeat' (first | with_reducible assumption | exact Part.off_sub hp rfl | with_reducible apply Node.emit_only | intro _ | split
                  | dsimp -proj only | with_reducible apply with_pair_only)

theorem Node.sendAgain_only {pt : Part} {n0 : Node} (hp : pt.off [.out] = true) (n : Node) (h0 : n0.Same pt n) :
    n0.Same pt (Node.sendAgain n) := by
  unfold Node.sendAgain
  repeat' (first | with_reducible assumption | exact Part.off_sub hp rfl | with_reducible apply Node.emit_only | intro _ | split)

theorem Node.reseed_only {pt : Part} {n0 : Node} (hp : pt.off [.book, .flows, .host, .pair, .regs, .ram] = true) (n : Node) (h0 : n0.Same pt n) :
    n0.Same pt (Node.reseed n) := by
  unfold Node.reseed
  repeat' (first | with_reducible assumption | exact Part.off_sub hp rfl | with_reducible apply Node.count_only
                  | with_reducible apply Node.raise_only | with_reducible apply Node.copyRacked_only | intro _ | split | dsimp -proj only
                  | with_reducible apply with_pair_only)

theorem Node.startBulk_only {pt : Part} {n0 : Node} (hp : pt.off [.pair, .out] = true) (n : Node) (h0 : n0.Same pt n) :
    n0.Same pt (Node.startBulk n) := by
  unfold Node.startBulk
  repeat' (first | with_reducible assumption | exact Part.off_sub hp rfl | with_reducible apply Node.emit_only | intro _ | split
                  | dsimp -proj only | with_reducible apply with_pair_only)

theorem Node.sayState_only {pt : Part} {n0 : Node} (hp : pt.off [.out] = true) (n : Node) (h0 : n0.Same pt n) :
    n0.Same pt (Node.sayState n) := by
  unfold Node.sayState
  repeat' (first | with_reducible assumption | exact Part.off_sub hp rfl | with_reducible apply Node.when_only
                  | with_reducible apply Node.emit_only | intro _)

theorem Node.setHold_only {pt : Part} {n0 : Node} (hp : pt.off [.pins, .regs] = true) (n : Node) (on : Bool) (h0 : n0.Same pt n) :
    n0.Same pt (Node.setHold n on) := by
  unfold Node.setHold
  repeat' (first | with_reducible assumption | exact Part.off_sub hp rfl | with_reducible apply Node.wrBit_only | intro _ | split
                  | dsimp -proj only | with_reducible apply with_pins_only)

theorem Node.setRole_only {pt : Part} {n0 : Node} (hp : pt.off [.out, .regs] = true) (n : Node) (st : Nat) (h0 : n0.Same pt n) :
    n0.Same pt (Node.setRole n st) := by
  unfold Node.setRole
  repeat' (first | with_reducible assumption | exact Part.off_sub hp rfl | with_reducible apply Node.wr_only
                  | with_reducible apply Node.sayState_only)

theorem Node.silence_only {pt : Part} {n0 : Node} (hp : pt.off [.cellar, .host] = true) (n : Node) (h0 : n0.Same pt n) :
    n0.Same pt (Node.silence n) := by
  unfold Node.silence
  repeat' (first | with_reducible assumption | exact Part.off_sub hp rfl | with_reducible apply Node.when_only
                  | with_reducible apply Node.each_only | with_reducible apply Node.released_only | with_reducible apply Node.dropCopies_only
                  | with_reducible apply Node.setSending_only | intro _ | split)

theorem Node.becomeStandby_only {pt : Part} {n0 : Node} (hp : pt.off [.pins, .cellar, .ina, .host, .pair, .out, .regs] = true) (n : Node)
    (h0 : n0.Same pt n) :
    n0.Same pt (Node.becomeStandby n) := by
  unfold Node.becomeStandby
  repeat' (first | with_reducible assumption | exact Part.off_sub hp rfl | with_reducible apply Node.wr_only
                  | with_reducible apply Node.wrBit_only | with_reducible apply Node.setSpec_only | with_reducible apply Node.loseTopology_only
                  | with_reducible apply Node.startBulk_only | with_reducible apply Node.setHold_only | with_reducible apply Node.setRole_only
                  | with_reducible apply Node.silence_only | intro _ | split | dsimp -proj only | with_reducible apply with_cellar_only
                  | with_reducible apply with_ina_only | with_reducible apply with_pair_only | with_reducible apply with_cellar_ina_only)

theorem Node.becomeActive_only {pt : Part} {n0 : Node}
    (hp : pt.off [.pins, .book, .trellis, .cellar, .ina, .host, .outs, .pair, .out, .regs, .shadow] = true) (n : Node) (cause kind : Nat)
    (h0 : n0.Same pt n) :
    n0.Same pt (Node.becomeActive n cause kind) := by
  unfold Node.becomeActive
  repeat' (first | with_reducible assumption | exact Part.off_sub hp rfl | with_reducible apply Node.when_only
                  | with_reducible apply Node.emit_only | with_reducible apply Node.raise_only | with_reducible apply Node.setSpec_only
                  | with_reducible apply Node.turnOns_only | with_reducible apply Node.startInaug_only
                  | with_reducible apply Node.adoptDirectory_only | with_reducible apply Node.setHold_only
                  | with_reducible apply Node.setRole_only | intro _ | split | dsimp -proj only | with_reducible apply with_pair_only)

theorem Node.startCold_only {pt : Part} {n0 : Node} (hp : pt.off [.runs, .flows, .sessions, .blend, .outs, .regs, .ram] = true) (n : Node)
    (h0 : n0.Same pt n) :
    n0.Same pt (Node.startCold n) := by
  unfold Node.startCold
  repeat' (first | with_reducible assumption | exact Part.off_sub hp rfl | with_reducible apply Node.resetWords_only
                  | with_reducible apply Node.keepBytes_only | with_reducible apply Node.clearStaging_only
                  | with_reducible apply Node.initSignals_only | intro _ | split | dsimp -proj only | with_reducible apply with_flows_only
                  | with_reducible apply with_sessions_only | with_reducible apply with_blend_only
                  | with_reducible apply with_flows_sessions_blend_only)

theorem Node.chooseState_only {pt : Part} {n0 : Node} (hp : pt.off [.runs, .book, .flows, .sessions, .blend, .host, .outs, .regs, .ram] = true)
    (n : Node) (kind : Nat) (h0 : n0.Same pt n) :
    n0.Same pt (Node.chooseState n kind) := by
  unfold Node.chooseState
  repeat' (first | with_reducible assumption | exact Part.off_sub hp rfl | with_reducible apply Node.when_only
                  | with_reducible apply Node.reactivate_only | with_reducible apply Node.showAllDirections_only
                  | with_reducible apply Node.copyRacked_only | with_reducible apply Node.startCold_only | intro _ | split | dsimp -proj only
                  | with_reducible apply with_outs_only)

theorem Node.resumeFlows_only {pt : Part} {n0 : Node} (hp : pt.off [.flows, .regs] = true) (n : Node) (h0 : n0.Same pt n) :
    n0.Same pt (Node.resumeFlows n) := by
  unfold Node.resumeFlows
  repeat' (first | with_reducible assumption | exact Part.off_sub hp rfl | with_reducible apply Node.when_only
                  | with_reducible apply Node.each_only | with_reducible apply Node.wr_only | with_reducible apply Node.setFlow_only | intro _)

theorem Node.resumeDomains_only {pt : Part} {n0 : Node} (hp : pt.off [.regs] = true) (n : Node) (h0 : n0.Same pt n) :
    n0.Same pt (Node.resumeDomains n) := by
  unfold Node.resumeDomains
  repeat' (first | with_reducible assumption | exact Part.off_sub hp rfl | with_reducible apply Node.when_only
                  | with_reducible apply Node.each_only | with_reducible apply Node.putWords_only | with_reducible apply Node.wr_only | intro _)

theorem Node.announce_only {pt : Part} {n0 : Node} (hp : pt.off [.out] = true) (n : Node) (h0 : n0.Same pt n) :
    n0.Same pt (Node.announce n) := by
  unfold Node.announce
  repeat' (first | with_reducible assumption | exact Part.off_sub hp rfl | with_reducible apply Node.each_only
                  | with_reducible apply Node.emit_only | intro _)

theorem Node.takeOver_only {pt : Part} {n0 : Node}
    (hp : pt.off [.pins, .runs, .book, .trellis, .cellar, .ina, .flows, .sessions, .blend, .host, .outs, .pair, .out, .regs, .shadow, .ram] = true)
    (n : Node) (cause kind : Nat) (h0 : n0.Same pt n) :
    n0.Same pt (Node.takeOver n cause kind) := by
  unfold Node.takeOver
  repeat' (first | with_reducible assumption | exact Part.off_sub hp rfl | with_reducible apply Node.becomeActive_only
                  | with_reducible apply Node.chooseState_only | with_reducible apply Node.resumeFlows_only
                  | with_reducible apply Node.resumeDomains_only | with_reducible apply Node.announce_only)

theorem execTakeover_only {pt : Part}
    (hp : pt.off [.pins, .runs, .book, .trellis, .cellar, .ina, .flows, .sessions, .blend, .host, .outs, .pair, .out, .regs, .shadow, .ram] = true)
    (s : State) (s' : State) (ht : execTakeover s = .next s') :
    s.node.Same pt s'.node := by
  have h0 := Node.Same.refl pt s.node
  unfold execTakeover at ht
  refine State.upd_only ?_ ht
  repeat' (first | with_reducible assumption | exact Part.off_sub hp rfl | with_reducible apply Node.when_only
                  | with_reducible apply Node.count_only | with_reducible apply Node.takeOver_only | intro _)

theorem Node.stepDown_only {pt : Part} {n0 : Node} (hp : pt.off [.pins, .cellar, .ina, .host, .pair, .out, .regs] = true) (n : Node)
    (h0 : n0.Same pt n) :
    n0.Same pt (Node.stepDown n) := by
  unfold Node.stepDown
  repeat' (first | with_reducible assumption | exact Part.off_sub hp rfl | with_reducible apply Node.becomeStandby_only | intro _
                  | split | dsimp -proj only | with_reducible apply with_pair_only)

theorem Node.resign_only {pt : Part} {n0 : Node} (hp : pt.off [.pins, .book, .cellar, .ina, .host, .pair, .out, .regs] = true) (n : Node)
    (cause : Nat) (h0 : n0.Same pt n) :
    n0.Same pt (Node.resign n cause) := by
  unfold Node.resign
  repeat' (first | with_reducible assumption | exact Part.off_sub hp rfl | with_reducible apply Node.when_only
                  | with_reducible apply Node.count_only | with_reducible apply Node.emit_only | with_reducible apply Node.raise_only
                  | with_reducible apply Node.stepDown_only | intro _)

theorem execResignationReceived_only {pt : Part} (hp : pt.off [.pair] = true) (s : State) (s' : State) (ht : execResignationReceived s = .next s') :
    s.node.Same pt s'.node := by
  have h0 := Node.Same.refl pt s.node
  unfold execResignationReceived at ht
  refine State.upd_only ?_ ht
  repeat' (first | with_reducible assumption | exact Part.off_sub hp rfl | with_reducible apply Node.when_only | intro _ | split
                  | dsimp -proj only | with_reducible apply with_pair_only)

theorem Node.startRole_only {pt : Part} {n0 : Node} (hp : pt.off [.pins, .cellar, .ina, .host, .pair, .out, .regs] = true) (n : Node)
    (h0 : n0.Same pt n) :
    n0.Same pt (Node.startRole n) := by
  unfold Node.startRole
  repeat' (first | with_reducible assumption | exact Part.off_sub hp rfl | with_reducible apply Node.setRole_only
                  | with_reducible apply Node.becomeStandby_only | intro _ | split)

theorem Node.meetStarting_only {pt : Part} {n0 : Node} (hp : pt.off [.pins, .cellar, .ina, .host, .pair, .out, .regs] = true) (n : Node)
    (h0 : n0.Same pt n) :
    n0.Same pt (Node.meetStarting n) := by
  unfold Node.meetStarting
  repeat' (first | with_reducible assumption | exact Part.off_sub hp rfl | with_reducible apply Node.when_only
                  | with_reducible apply Node.setRole_only | with_reducible apply Node.becomeStandby_only | intro _ | split)

theorem Node.compareKeys_only {pt : Part} {n0 : Node} (hp : pt.off [.pair] = true) (n : Node) (h0 : n0.Same pt n) :
    n0.Same pt (Node.compareKeys n) := by
  unfold Node.compareKeys
  repeat' (first | with_reducible assumption | exact Part.off_sub hp rfl | with_reducible apply Node.when_only | intro _ | split
                  | dsimp -proj only | with_reducible apply with_pair_only)

theorem Node.foundSame_only {pt : Part} {n0 : Node} (hp : pt.off [.book, .host, .pair, .out, .regs] = true) (n : Node) (h0 : n0.Same pt n) :
    n0.Same pt (Node.foundSame n) := by
  unfold Node.foundSame
  repeat' (first | with_reducible assumption | exact Part.off_sub hp rfl | with_reducible apply Node.when_only
                  | with_reducible apply Node.emit_only | with_reducible apply Node.raise_only | with_reducible apply Node.compareKeys_only
                  | intro _ | split | dsimp -proj only | with_reducible apply with_pair_only)

theorem Node.yields_only {pt : Part} {n0 : Node} (hp : pt.off [.pins, .cellar, .ina, .host, .pair, .out, .regs] = true) (n : Node)
    (h0 : n0.Same pt n) :
    n0.Same pt (Node.yields n) := by
  unfold Node.yields
  repeat' (first | with_reducible assumption | exact Part.off_sub hp rfl | with_reducible apply Node.when_only
                  | with_reducible apply Node.becomeStandby_only)

theorem execClaimTimeout_only {pt : Part} (hp : pt.off [.out, .regs] = true) (s : State) (s' : State) (ht : execClaimTimeout s = .next s') :
    s.node.Same pt s'.node := by
  have h0 := Node.Same.refl pt s.node
  unfold execClaimTimeout at ht
  refine State.upd_only ?_ ht
  repeat' (first | with_reducible assumption | exact Part.off_sub hp rfl | with_reducible apply Node.when_only
                  | with_reducible apply Node.setRole_only | intro _)

theorem execClaimRetryDelay_only {pt : Part} (hp : pt.off [.pair] = true) (s : State) (s' : State) (ht : execClaimRetryDelay s = .next s') :
    s.node.Same pt s'.node := by
  have h0 := Node.Same.refl pt s.node
  unfold execClaimRetryDelay at ht
  refine State.upd_only ?_ ht
  repeat' (first | with_reducible assumption | exact Part.off_sub hp rfl | with_reducible apply Node.when_only | intro _ | split
                  | dsimp -proj only | with_reducible apply with_pair_only)

theorem execClaimWatchEnd_only {pt : Part} (hp : pt.off [.pins, .book, .cellar, .ina, .host, .pair, .out, .regs] = true)
    (partnerHoldSeen sameUnit : Bool) (s : State) (s' : State) (ht : execClaimWatchEnd partnerHoldSeen sameUnit s = .next s') :
    s.node.Same pt s'.node := by
  have h0 := Node.Same.refl pt s.node
  unfold execClaimWatchEnd at ht
  refine State.upd_only ?_ ht
  repeat' (first | with_reducible assumption | exact Part.off_sub hp rfl | with_reducible apply Node.when_only
                  | with_reducible apply Node.count_only | with_reducible apply Node.raise_only | with_reducible apply Node.setHold_only
                  | with_reducible apply Node.becomeStandby_only | with_reducible apply Node.foundSame_only | intro _ | split | dsimp -proj only
                  | with_reducible apply with_pair_only)

theorem Node.secondActive_only {pt : Part} {n0 : Node} (hp : pt.off [.pins, .book, .cellar, .ina, .host, .pair, .out, .regs] = true) (n : Node)
    (h0 : n0.Same pt n) :
    n0.Same pt (Node.secondActive n) := by
  unfold Node.secondActive
  repeat' (first | with_reducible assumption | exact Part.off_sub hp rfl | with_reducible apply Node.when_only
                  | with_reducible apply Node.resign_only | intro _)

theorem execCorkRenewalTx_only {pt : Part} (hp : pt.off [.pins, .book, .cellar, .ina, .host, .pair, .out, .regs] = true) (s : State) (s' : State)
    (ht : execCorkRenewalTx s = .next s') :
    s.node.Same pt s'.node := by
  have h0 := Node.Same.refl pt s.node
  unfold execCorkRenewalTx at ht
  refine State.upd_only ?_ ht
  repeat' (first | with_reducible assumption | exact Part.off_sub hp rfl | with_reducible apply Node.when_only
                  | with_reducible apply Node.emit_only | with_reducible apply Node.setHold_only | with_reducible apply Node.secondActive_only
                  | intro _)

theorem execRenewalReceived_only {pt : Part} (hp : pt.off [.pins, .cellar, .ina, .host, .pair, .out, .regs] = true) (s : State) (s' : State)
    (ht : execRenewalReceived s = .next s') :
    s.node.Same pt s'.node := by
  have h0 := Node.Same.refl pt s.node
  unfold execRenewalReceived at ht
  refine State.upd_only ?_ ht
  repeat' (first | with_reducible assumption | exact Part.off_sub hp rfl | with_reducible apply Node.when_only
                  | with_reducible apply Node.yields_only | intro _ | split | dsimp -proj only | with_reducible apply with_pair_only)

theorem execHoldOutRelease_only {pt : Part} (hp : pt.off [.pins, .regs] = true) (s : State) (s' : State) (ht : execHoldOutRelease s = .next s') :
    s.node.Same pt s'.node := by
  have h0 := Node.Same.refl pt s.node
  unfold execHoldOutRelease at ht
  refine State.upd_only ?_ ht
  repeat' (first | with_reducible assumption | exact Part.off_sub hp rfl | with_reducible apply Node.when_only
                  | with_reducible apply Node.setHold_only | intro _)

theorem execLeaseExpiry_only {pt : Part} (hp : pt.off [.book, .host, .pair, .regs] = true) (s : State) (s' : State)
    (ht : execLeaseExpiry s = .next s') :
    s.node.Same pt s'.node := by
  have h0 := Node.Same.refl pt s.node
  unfold execLeaseExpiry at ht
  refine State.upd_only ?_ ht
  repeat' (first | with_reducible assumption | exact Part.off_sub hp rfl | with_reducible apply Node.when_only
                  | with_reducible apply Node.wrBit_only | with_reducible apply Node.raise_only | intro _ | split | dsimp -proj only
                  | with_reducible apply with_pair_only)

theorem execHoldInChange_only {pt : Part} (hp : pt.off [.pins, .runs, .book, .cellar, .ina, .host, .pair, .out, .regs] = true) (lineB low : Bool)
    (s : State) (s' : State) (ht : execHoldInChange lineB low s = .next s') :
    s.node.Same pt s'.node := by
  have h0 := Node.Same.refl pt s.node
  unfold execHoldInChange at ht
  refine State.upd_only ?_ ht
  repeat' (first | with_reducible assumption | exact Part.off_sub hp rfl | with_reducible apply Node.when_only
                  | with_reducible apply Node.wrBit_only | with_reducible apply Node.endRun_only | with_reducible apply Node.yields_only
                  | with_reducible apply Node.secondActive_only | intro _)

theorem execHoldDisagree_only {pt : Part} (hp : pt.off [.runs, .book, .host, .regs] = true) (s : State) (s' : State)
    (ht : execHoldDisagree s = .next s') :
    s.node.Same pt s'.node := by
  have h0 := Node.Same.refl pt s.node
  unfold execHoldDisagree at ht
  refine State.upd_only ?_ ht
  repeat' (first | with_reducible assumption | exact Part.off_sub hp rfl | with_reducible apply Node.when_only
                  | with_reducible apply Node.count_only | with_reducible apply Node.raiseFirst_only | intro _)

theorem execBreakInstant_only {pt : Part} (hp : pt.off [.book, .host, .outs, .pair, .regs] = true) (energies : List (Fin 24 × Nat)) (s : State)
    (s' : State) (ht : execBreakInstant energies s = .next s') :
    s.node.Same pt s'.node := by
  have h0 := Node.Same.refl pt s.node
  unfold execBreakInstant at ht
  refine State.upd_only ?_ ht
  repeat' (first | with_reducible assumption | exact Part.off_sub hp rfl | with_reducible apply Node.when_only
                  | with_reducible apply Node.channelsOff_only | with_reducible apply Node.turnedOff_only | intro _ | split | dsimp -proj only
                  | with_reducible apply with_pair_only)

theorem execRackLinkDown_only {pt : Part} (hp : pt.off [.book, .host, .pair, .regs] = true) (s : State) (s' : State)
    (ht : execRackLinkDown s = .next s') :
    s.node.Same pt s'.node := by
  have h0 := Node.Same.refl pt s.node
  unfold execRackLinkDown at ht
  refine State.upd_only ?_ ht
  repeat' (first | with_reducible assumption | exact Part.off_sub hp rfl | with_reducible apply Node.when_only
                  | with_reducible apply Node.wrBit_only | with_reducible apply Node.count_only | with_reducible apply Node.raise_only | intro _
                  | split | dsimp -proj only | with_reducible apply with_pair_only)

theorem Node.checkCompat_only {pt : Part} {n0 : Node} (hp : pt.off [.book, .host, .regs] = true) (n : Node) (h0 : n0.Same pt n) :
    n0.Same pt (Node.checkCompat n) := by
  unfold Node.checkCompat
  repeat' (first | with_reducible assumption | exact Part.off_sub hp rfl | with_reducible apply Node.wrBit_only
                  | with_reducible apply Node.raise_only | intro _ | split)

theorem execRackLinkUp_only {pt : Part} (hp : pt.off [.book, .host, .vnt, .out, .regs] = true) (partnerCompat : Word) (s : State) (s' : State)
    (ht : execRackLinkUp partnerCompat s = .next s') :
    s.node.Same pt s'.node := by
  have h0 := Node.Same.refl pt s.node
  unfold execRackLinkUp at ht
  refine State.upd_only ?_ ht
  repeat' (first | with_reducible assumption | exact Part.off_sub hp rfl | with_reducible apply Node.when_only
                  | with_reducible apply Node.each_only | with_reducible apply Node.wrBit_only | with_reducible apply Node.raise_only
                  | with_reducible apply Node.tellPartner_only | with_reducible apply Node.sayState_only
                  | with_reducible apply Node.checkCompat_only | intro _ | split | dsimp -proj only | with_reducible apply with_vnt_only)

theorem Node.takeSet_only {pt : Part} {n0 : Node} (hp : pt.off [.commits, .mc, .out, .shadow] = true) (n : Node) (set : List Nat) (skip : Nat)
    (cells : List (Nat × Word)) (h0 : n0.Same pt n) :
    n0.Same pt (Node.takeSet n set skip cells) := by
  unfold Node.takeSet
  repeat' (first | with_reducible assumption | exact Part.off_sub hp rfl | with_reducible apply Node.when_only
                  | with_reducible apply Node.each_only | with_reducible apply Node.putShadows_only | with_reducible apply Node.setPhase_only
                  | with_reducible apply Node.emit_only | intro _ | split | dsimp -proj only | with_reducible apply with_mc_only)

theorem execRackFrameReceived_only {pt : Part} (hp : pt.off [.commits, .mc, .pair, .out, .regs, .shadow] = true) (seq : Nat) (last crcOk : Bool)
    (cells : List (Nat × Word)) (set : Option (List Nat × Nat)) (s : State) (s' : State)
    (ht : execRackFrameReceived seq last crcOk cells set s = .next s') :
    s.node.Same pt s'.node := by
  have h0 := Node.Same.refl pt s.node
  unfold execRackFrameReceived at ht
  refine State.upd_only ?_ ht
  repeat' (first | with_reducible assumption | exact Part.off_sub hp rfl | with_reducible apply Node.when_only
                  | with_reducible apply Node.count_only | with_reducible apply Node.emit_only | with_reducible apply Node.takeSet_only | intro _
                  | split | dsimp -proj only | with_reducible apply with_pair_only)

theorem execDeltaApplied_only {pt : Part} (hp : pt.off [.book, .flows, .host, .pair, .regs, .shadow, .force] = true) (s : State) (s' : State)
    (ht : execDeltaApplied s = .next s') :
    s.node.Same pt s'.node := by
  have h0 := Node.Same.refl pt s.node
  unfold execDeltaApplied at ht
  refine State.upd_only ?_ ht
  repeat' (first | with_reducible assumption | exact Part.off_sub hp rfl | with_reducible apply Node.when_only
                  | with_reducible apply Node.each_only | with_reducible apply Node.reactivate_only | with_reducible apply Node.rackCell_only
                  | intro _ | split | dsimp -proj only | with_reducible apply with_pair_only)

theorem Node.takeBulk_only {pt : Part} {n0 : Node} (hp : pt.off [.book, .flows, .host, .pair, .regs, .shadow, .force] = true) (n : Node)
    (cells : List (Nat × Word)) (h0 : n0.Same pt n) :
    n0.Same pt (Node.takeBulk n cells) := by
  unfold Node.takeBulk
  repeat' (first | with_reducible assumption | exact Part.off_sub hp rfl | with_reducible apply Node.each_only
                  | with_reducible apply Node.reactivate_only | with_reducible apply Node.rackCell_only | intro _ | split | dsimp -proj only
                  | with_reducible apply with_pair_only)

theorem execBulkRackingDone_only {pt : Part} (hp : pt.off [.book, .flows, .host, .pair, .vnt, .regs, .shadow, .force, .ram] = true) (unit0Mac : Mac)
    (cells : List (Nat × Word)) (s : State) (s' : State) (ht : execBulkRackingDone unit0Mac cells s = .next s') :
    s.node.Same pt s'.node := by
  have h0 := Node.Same.refl pt s.node
  unfold execBulkRackingDone at ht
  refine State.upd_only ?_ ht
  repeat' (first | with_reducible assumption | exact Part.off_sub hp rfl | with_reducible apply Node.when_only
                  | with_reducible apply Node.wrBit_only | with_reducible apply Node.raise_only | with_reducible apply Node.reseed_only
                  | with_reducible apply Node.takeBulk_only | intro _ | split | dsimp -proj only | with_reducible apply with_vnt_only)

theorem Node.controlWord_only {pt : Part} {n0 : Node}
    (hp : pt.off [.pins, .book, .trellis, .cellar, .ports, .ina, .host, .pair, .out, .regs, .shadow] = true) (n : Node) (w : RackControl)
    (h0 : n0.Same pt n) :
    n0.Same pt (Node.controlWord n w) := by
  unfold Node.controlWord
  repeat' (first | with_reducible assumption | exact Part.off_sub hp rfl | with_reducible apply Node.when_only
                  | with_reducible apply Node.wr_only | with_reducible apply Node.reportUp_only | with_reducible apply Node.reportDown_only
                  | with_reducible apply Node.sendBulk_only | with_reducible apply Node.sendAgain_only
                  | with_reducible apply Node.meetStarting_only | with_reducible apply Node.compareKeys_only
                  | with_reducible apply Node.foundSame_only | intro _ | split | dsimp -proj only | with_reducible apply with_pair_only)

theorem execDigestCompare_only {pt : Part} (hp : pt.off [.runs, .book, .host, .pair, .regs] = true) (cycle : BitVec 13) (partner : DWord)
    (s : State) (s' : State) (ht : execDigestCompare cycle partner s = .next s') :
    s.node.Same pt s'.node := by
  have h0 := Node.Same.refl pt s.node
  unfold execDigestCompare at ht
  refine State.upd_only ?_ ht
  repeat' (first | with_reducible assumption | exact Part.off_sub hp rfl | with_reducible apply Node.when_only
                  | with_reducible apply Node.wr_only | with_reducible apply Node.wrBit_only | with_reducible apply Node.count_only
                  | with_reducible apply Node.putWord64_only | with_reducible apply Node.raiseFirst_only | with_reducible apply Node.endRun_only
                  | intro _ | split | dsimp -proj only | with_reducible apply with_pair_only)

theorem Node.redCommand_only {pt : Part} {n0 : Node} (hp : pt.off [.pins, .book, .cellar, .ina, .host, .pair, .out, .regs] = true) (n : Node)
    (op : Nat) (h0 : n0.Same pt n) :
    n0.Same pt (Node.redCommand n op) := by
  unfold Node.redCommand
  repeat' (first | with_reducible assumption | exact Part.off_sub hp rfl | with_reducible apply Node.when_only
                  | with_reducible apply Node.startBulk_only | with_reducible apply Node.resign_only | intro _ | split | dsimp -proj only
                  | with_reducible apply with_pair_only)

theorem Node.redCmd_only {pt : Part} {n0 : Node} (hp : pt.off [.pins, .book, .cellar, .ina, .blend, .host, .pair, .out, .regs] = true) (n : Node)
    (by_ : Initiator) (key : Half) (op : Nat) (h0 : n0.Same pt n) :
    n0.Same pt (Node.redCmd n by_ key op) := by
  unfold Node.redCmd
  repeat' (first | with_reducible assumption | exact Part.off_sub hp rfl | with_reducible apply Node.when_only
                  | with_reducible apply Node.access_only | with_reducible apply Node.redCommand_only | intro _)

theorem execRedCmdResign_only {pt : Part} (hp : pt.off [.pins, .book, .cellar, .ina, .blend, .host, .pair, .out, .regs] = true) (by_ : Initiator)
    (key : Half) (s : State) (s' : State) (ht : execRedCmdResign by_ key s = .next s') :
    s.node.Same pt s'.node := by
  have h0 := Node.Same.refl pt s.node
  unfold execRedCmdResign at ht
  refine State.upd_only ?_ ht
  repeat' (first | with_reducible assumption | exact Part.off_sub hp rfl | with_reducible apply Node.redCmd_only)

theorem execRedCmdSwap_only {pt : Part} (hp : pt.off [.pins, .book, .cellar, .ina, .blend, .host, .pair, .out, .regs] = true) (by_ : Initiator)
    (key : Half) (s : State) (s' : State) (ht : execRedCmdSwap by_ key s = .next s') :
    s.node.Same pt s'.node := by
  have h0 := Node.Same.refl pt s.node
  unfold execRedCmdSwap at ht
  refine State.upd_only ?_ ht
  repeat' (first | with_reducible assumption | exact Part.off_sub hp rfl | with_reducible apply Node.redCmd_only)

theorem execRedCmdBulkRacking_only {pt : Part} (hp : pt.off [.pins, .book, .cellar, .ina, .blend, .host, .pair, .out, .regs] = true)
    (by_ : Initiator) (key : Half) (s : State) (s' : State) (ht : execRedCmdBulkRacking by_ key s = .next s') :
    s.node.Same pt s'.node := by
  have h0 := Node.Same.refl pt s.node
  unfold execRedCmdBulkRacking at ht
  refine State.upd_only ?_ ht
  repeat' (first | with_reducible assumption | exact Part.off_sub hp rfl | with_reducible apply Node.redCmd_only)

theorem execSwapIntervalExpiry_only {pt : Part} (hp : pt.off [.pair] = true) (s : State) (s' : State) (ht : execSwapIntervalExpiry s = .next s') :
    s.node.Same pt s'.node := by
  have h0 := Node.Same.refl pt s.node
  unfold execSwapIntervalExpiry at ht
  refine State.upd_only ?_ ht
  repeat' (first | with_reducible assumption | exact Part.off_sub hp rfl | with_reducible apply Node.when_only | intro _ | split
                  | dsimp -proj only | with_reducible apply with_pair_only)

theorem Node.proposeSwap_only {pt : Part} {n0 : Node} (hp : pt.off [.book, .host, .pair, .out, .regs] = true) (n : Node) (h0 : n0.Same pt n) :
    n0.Same pt (Node.proposeSwap n) := by
  unfold Node.proposeSwap
  repeat' (first | with_reducible assumption | exact Part.off_sub hp rfl | with_reducible apply Node.when_only
                  | with_reducible apply Node.count_only | with_reducible apply Node.emit_only | with_reducible apply Node.raise_only | intro _
                  | split | dsimp -proj only | with_reducible apply with_pair_only)

theorem Node.swapNow_only {pt : Part} {n0 : Node}
    (hp : pt.off [.pins, .runs, .book, .trellis, .cellar, .ina, .flows, .sessions, .blend, .host, .outs, .pair, .out, .regs, .shadow, .ram] = true)
    (n : Node) (h0 : n0.Same pt n) :
    n0.Same pt (Node.swapNow n) := by
  unfold Node.swapNow
  repeat' (first | with_reducible assumption | exact Part.off_sub hp rfl | with_reducible apply Node.count_only
                  | with_reducible apply Node.raise_only | with_reducible apply Node.takeOver_only | with_reducible apply Node.stepDown_only
                  | intro _ | split | dsimp -proj only)

theorem Node.sayBusy_only {pt : Part} {n0 : Node} (hp : pt.off [.out] = true) (n : Node) (h0 : n0.Same pt n) :
    n0.Same pt (Node.sayBusy n) := by
  unfold Node.sayBusy
  repeat' (first | with_reducible assumption | exact Part.off_sub hp rfl | with_reducible apply Node.when_only
                  | with_reducible apply Node.emit_only | intro _)

theorem Node.closeDigest_only {pt : Part} {n0 : Node} (hp : pt.off [.pair, .out] = true) (n : Node) (idx : Nat) (h0 : n0.Same pt n) :
    n0.Same pt (Node.closeDigest n idx) := by
  unfold Node.closeDigest
  repeat' (first | with_reducible assumption | exact Part.off_sub hp rfl | with_reducible apply Node.when_only
                  | with_reducible apply Node.emit_only | intro _ | split | dsimp -proj only | with_reducible apply with_pair_only)

theorem Node.checkDelta_only {pt : Part} {n0 : Node} (hp : pt.off [.book, .host, .pair, .out, .regs] = true) (n : Node) (h0 : n0.Same pt n) :
    n0.Same pt (Node.checkDelta n) := by
  unfold Node.checkDelta
  repeat' (first | with_reducible assumption | exact Part.off_sub hp rfl | with_reducible apply Node.when_only
                  | with_reducible apply Node.wrBit_only | with_reducible apply Node.count_only | with_reducible apply Node.raise_only
                  | with_reducible apply Node.startBulk_only | intro _ | split | dsimp -proj only | with_reducible apply with_pair_only)

theorem Node.rackingPoint_only {pt : Part} {n0 : Node} (hp : pt.off [.book, .flows, .host, .pair, .out, .regs, .ram] = true) (n : Node) (idx : Nat)
    (h0 : n0.Same pt n) :
    n0.Same pt (Node.rackingPoint n idx) := by
  unfold Node.rackingPoint
  repeat' (first | with_reducible assumption | exact Part.off_sub hp rfl | with_reducible apply Node.when_only
                  | with_reducible apply Node.sendDelta_only | with_reducible apply Node.reseed_only | with_reducible apply Node.proposeSwap_only
                  | with_reducible apply Node.closeDigest_only | with_reducible apply Node.checkDelta_only | intro _ | split)

theorem Node.swapStart_only {pt : Part} {n0 : Node}
    (hp : pt.off [.pins, .runs, .book, .trellis, .cellar, .ina, .flows, .sessions, .blend, .host, .outs, .pair, .out, .regs, .shadow, .ram] = true)
    (n : Node) (h0 : n0.Same pt n) :
    n0.Same pt (Node.swapStart n) := by
  unfold Node.swapStart
  repeat' (first | with_reducible assumption | exact Part.off_sub hp rfl | with_reducible apply Node.swapNow_only | intro _
                  | split | dsimp -proj only | with_reducible apply with_pair_only)

theorem Node.claimStart_only {pt : Part} {n0 : Node}
    (hp : pt.off [.pins, .book, .trellis, .cellar, .ina, .host, .outs, .pair, .out, .regs, .shadow] = true) (n : Node) (h0 : n0.Same pt n) :
    n0.Same pt (Node.claimStart n) := by
  unfold Node.claimStart
  repeat' (first | with_reducible assumption | exact Part.off_sub hp rfl | with_reducible apply Node.when_only
                  | with_reducible apply Node.setHold_only | with_reducible apply Node.becomeActive_only | with_reducible apply Node.yields_only
                  | with_reducible apply Node.secondActive_only | intro _ | split | dsimp -proj only | with_reducible apply with_pair_only)

theorem Node.pairStart_only {pt : Part} {n0 : Node}
    (hp : pt.off [.pins, .runs, .book, .trellis, .cellar, .ina, .flows, .sessions, .blend, .host, .outs, .pair, .out, .regs, .shadow, .ram] = true)
    (n : Node) (idx : Nat) (h0 : n0.Same pt n) :
    n0.Same pt (Node.pairStart n idx) := by
  unfold Node.pairStart
  repeat' (first | with_reducible assumption | exact Part.off_sub hp rfl | with_reducible apply Node.sayState_only
                  | with_reducible apply Node.sayBusy_only | with_reducible apply Node.rackingPoint_only
                  | with_reducible apply Node.swapStart_only | with_reducible apply Node.claimStart_only)

theorem Node.newCycle_only {pt : Part} {n0 : Node} (hp : pt.off [.regs] = true) (n : Node) (idx : Nat) (h0 : n0.Same pt n) :
    n0.Same pt (Node.newCycle n idx) := by
  unfold Node.newCycle
  repeat' (first | with_reducible assumption | exact Part.off_sub hp rfl | with_reducible apply Node.when_only
                  | with_reducible apply Node.wr_only | with_reducible apply Node.incr_only | intro _)

theorem Node.holdEntries_only {pt : Part} {n0 : Node} (hp : pt.off [.trellis, .regs] = true) (n : Node) (h0 : n0.Same pt n) :
    n0.Same pt (Node.holdEntries n) := by
  unfold Node.holdEntries
  repeat' (first | with_reducible assumption | exact Part.off_sub hp rfl | with_reducible apply Node.wrBit_only | intro _ | split
                  | dsimp -proj only | with_reducible apply with_trellis_only)

theorem Node.restoreEntries_only {pt : Part} {n0 : Node} (hp : pt.off [.trellis, .regs] = true) (n : Node) (h0 : n0.Same pt n) :
    n0.Same pt (Node.restoreEntries n) := by
  unfold Node.restoreEntries
  repeat' (first | with_reducible assumption | exact Part.off_sub hp rfl | with_reducible apply Node.when_only
                  | with_reducible apply Node.holdEntries_only | intro _ | split | dsimp -proj only | with_reducible apply with_trellis_only)

theorem Node.topologyStart_only {pt : Part} {n0 : Node} (hp : pt.off [.cellar, .ina] = true) (n : Node) (waits : Bool) (h0 : n0.Same pt n) :
    n0.Same pt (Node.topologyStart n waits) := by
  unfold Node.topologyStart
  repeat' (first | with_reducible assumption | exact Part.off_sub hp rfl | intro _ | split | dsimp -proj only
                  | with_reducible apply with_cellar_only | with_reducible apply with_ina_only)

theorem Node.graceStart_only {pt : Part} {n0 : Node} (hp : pt.off [.cellar, .regs] = true) (n : Node) (h0 : n0.Same pt n) :
    n0.Same pt (Node.graceStart n) := by
  unfold Node.graceStart
  repeat' (first | with_reducible assumption | exact Part.off_sub hp rfl | with_reducible apply Node.wr_only | intro _ | split
                  | dsimp -proj only | with_reducible apply with_cellar_only)

theorem Node.rebase_only {pt : Part} {n0 : Node} (hp : pt.off [.cellar] = true) (n : Node) (ns : Nat) (h0 : n0.Same pt n) :
    n0.Same pt (Node.rebase n ns) := by
  unfold Node.rebase
  repeat' (first | with_reducible assumption | exact Part.off_sub hp rfl | intro _ | split | dsimp -proj only
                  | with_reducible apply with_cellar_only)

theorem Node.cycleStart_only {pt : Part} {n0 : Node}
    (hp : pt.off [.pins, .commits, .mc, .faults, .runs, .book, .trellis, .cellar, .ports, .ina, .flows, .sessions, .presses, .cans, .lineUnits,
        .blend, .time, .host, .outs, .pair, .vnt, .out, .fresh, .regs, .shadow, .force, .ram] = true) (n : Node) (idx : Nat) (h0 : n0.Same pt n) :
    n0.Same pt (Node.cycleStart n idx) := by
  unfold Node.cycleStart
  repeat' (first | with_reducible assumption | exact Part.off_sub hp rfl | with_reducible apply Node.wr_only
                  | with_reducible apply Node.commitsStart_only | with_reducible apply Node.newCycle_only
                  | with_reducible apply Node.restoreEntries_only | with_reducible apply Node.topologyStart_only | intro _ | split
                  | dsimp -proj only)

theorem Node.stopTrellis_only {pt : Part} {n0 : Node} (hp : pt.off [.trellis, .regs] = true) (n : Node) (h0 : n0.Same pt n) :
    n0.Same pt (Node.stopTrellis n) := by
  unfold Node.stopTrellis
  repeat' (first | with_reducible assumption | exact Part.off_sub hp rfl | with_reducible apply Node.wrBit_only | intro _ | split
                  | dsimp -proj only | with_reducible apply with_trellis_only)

theorem Node.backToRun_only {pt : Part} {n0 : Node} (hp : pt.off [.power, .supply, .regs] = true) (n : Node) (h0 : n0.Same pt n) :
    n0.Same pt (Node.backToRun n) := by
  unfold Node.backToRun
  repeat' (first | with_reducible assumption | exact Part.off_sub hp rfl | with_reducible apply Node.wr_only | intro _ | split
                  | dsimp -proj only | with_reducible apply with_power_only | with_reducible apply with_supply_only
                  | with_reducible apply with_power_supply_only)

theorem Node.resumeRun_only {pt : Part} {n0 : Node}
    (hp : pt.off [.power, .supply, .pins, .commits, .mc, .faults, .runs, .book, .trellis, .cellar, .ports, .ina, .flows, .sessions, .presses,
        .cans, .lineUnits, .blend, .time, .host, .outs, .pair, .vnt, .out, .fresh, .regs, .shadow, .force, .ram] = true) (n : Node) (h0 : n0.Same pt
        n) :
    n0.Same pt (Node.resumeRun n) := by
  unfold Node.resumeRun
  repeat' (first | with_reducible assumption | exact Part.off_sub hp rfl | with_reducible apply Node.when_only
                  | with_reducible apply Node.wrBit_only | with_reducible apply Node.updateBypass_only | with_reducible apply Node.cycleStart_only
                  | with_reducible apply Node.backToRun_only | intro _)

theorem Node.beginGap_only {pt : Part} {n0 : Node} (hp : pt.off [.trellis, .regs] = true) (n : Node) (idx : Nat) (h0 : n0.Same pt n) :
    n0.Same pt (Node.beginGap n idx) := by
  unfold Node.beginGap
  repeat' (first | with_reducible assumption | exact Part.off_sub hp rfl | with_reducible apply Node.wr_only | intro _ | split
                  | dsimp -proj only | with_reducible apply with_trellis_only)

theorem Node.seeBuses_only {pt : Part} {n0 : Node} (hp : pt.off [.trellis, .regs] = true) (n : Node) (bus : BusView) (h0 : n0.Same pt n) :
    n0.Same pt (Node.seeBuses n bus) := by
  unfold Node.seeBuses
  repeat' (first | with_reducible assumption | exact Part.off_sub hp rfl | with_reducible apply Node.each_only
                  | with_reducible apply Node.seeRecovery_only | intro _ | split | dsimp -proj only | with_reducible apply with_trellis_only)

theorem execBaseCycleStart_only {pt : Part}
    (hp : pt.off [.power, .supply, .pins, .commits, .mc, .faults, .runs, .book, .trellis, .cellar, .ports, .ina, .flows, .sessions, .presses,
        .cans, .lineUnits, .blend, .time, .host, .outs, .pair, .vnt, .out, .fresh, .regs, .shadow, .force, .ram] = true) (bus : BusView) (s : State)
        (s' : State) (ht : execBaseCycleStart bus s = .next s') :
    s.node.Same pt s'.node := by
  have h0 := Node.Same.refl pt s.node
  unfold execBaseCycleStart at ht
  refine State.upd_only ?_ ht
  repeat' (first | with_reducible assumption | exact Part.off_sub hp rfl | with_reducible apply Node.when_only
                  | with_reducible apply Node.pairStart_only | with_reducible apply Node.graceStart_only | with_reducible apply Node.rebase_only
                  | with_reducible apply Node.cycleStart_only | with_reducible apply Node.backToRun_only
                  | with_reducible apply Node.resumeRun_only | with_reducible apply Node.beginGap_only | with_reducible apply Node.seeBuses_only
                  | intro _ | split | dsimp -proj only)

theorem execTrellisSlewEnd_only {pt : Part} (hp : pt.off [.regs] = true) (s : State) (s' : State) (ht : execTrellisSlewEnd s = .next s') :
    s.node.Same pt s'.node := by
  have h0 := Node.Same.refl pt s.node
  unfold execTrellisSlewEnd at ht
  refine State.upd_only ?_ ht
  repeat' (first | with_reducible assumption | exact Part.off_sub hp rfl | with_reducible apply Node.when_only
                  | with_reducible apply Node.wr_only | intro _)

theorem execRephaseGapEnd_only {pt : Part}
    (hp : pt.off [.power, .supply, .pins, .commits, .mc, .faults, .runs, .book, .trellis, .cellar, .ports, .ina, .flows, .sessions, .presses,
        .cans, .lineUnits, .blend, .time, .host, .outs, .pair, .vnt, .out, .fresh, .regs, .shadow, .force, .ram] = true) (startNs gapNs : Nat) (bus
        : BusView) (s : State) (s' : State) (ht : execRephaseGapEnd startNs gapNs bus s = .next s') :
    s.node.Same pt s'.node := by
  have h0 := Node.Same.refl pt s.node
  unfold execRephaseGapEnd at ht
  refine State.upd_only ?_ ht
  repeat' (first | with_reducible assumption | exact Part.off_sub hp rfl | with_reducible apply Node.when_only
                  | with_reducible apply Node.wr_only | with_reducible apply Node.count_only | with_reducible apply Node.raise_only
                  | with_reducible apply Node.rebase_only | with_reducible apply Node.cycleStart_only | with_reducible apply Node.backToRun_only
                  | with_reducible apply Node.seeBuses_only | intro _ | split | dsimp -proj only | with_reducible apply with_trellis_only)

theorem execGridOriginStart_only {pt : Part}
    (hp : pt.off [.power, .supply, .pins, .commits, .mc, .faults, .runs, .book, .trellis, .cellar, .ports, .ina, .flows, .sessions, .presses,
        .cans, .lineUnits, .blend, .time, .host, .outs, .pair, .vnt, .out, .fresh, .regs, .shadow, .force, .ram] = true) (startNs waitNs : Nat) (bus
        : BusView) (s : State) (s' : State) (ht : execGridOriginStart startNs waitNs bus s = .next s') :
    s.node.Same pt s'.node := by
  have h0 := Node.Same.refl pt s.node
  unfold execGridOriginStart at ht
  refine State.upd_only ?_ ht
  repeat' (first | with_reducible assumption | exact Part.off_sub hp rfl | with_reducible apply Node.when_only
                  | with_reducible apply Node.raise_only | with_reducible apply Node.newCycle_only | with_reducible apply Node.rebase_only
                  | with_reducible apply Node.cycleStart_only | with_reducible apply Node.backToRun_only | with_reducible apply Node.seeBuses_only
                  | intro _ | split | dsimp -proj only | with_reducible apply with_trellis_only)

theorem execScheduleBankCopyDone_only {pt : Part} (hp : pt.off [.regs] = true) (s : State) (s' : State) (ht : execScheduleBankCopyDone s = .next
    s') :
    s.node.Same pt s'.node := by
  have h0 := Node.Same.refl pt s.node
  unfold execScheduleBankCopyDone at ht
  refine State.upd_only ?_ ht
  repeat' (first | with_reducible assumption | exact Part.off_sub hp rfl | with_reducible apply Node.wrBit_only)

theorem Node.scheduleFinding_only {pt : Part} {n0 : Node} (hp : pt.off [.book, .trellis, .host, .regs] = true) (n : Node) (f : ScrubFinding)
    (h0 : n0.Same pt n) :
    n0.Same pt (Node.scheduleFinding n f) := by
  unfold Node.scheduleFinding
  repeat' (first | with_reducible assumption | exact Part.off_sub hp rfl | with_reducible apply Node.when_only
                  | with_reducible apply Node.count_only | with_reducible apply Node.raise_only | with_reducible apply Node.holdEntries_only
                  | intro _ | split | dsimp -proj only | with_reducible apply with_trellis_only)

theorem execScheduleScrubPass_only {pt : Part} (hp : pt.off [.book, .trellis, .host, .regs] = true) (findings : List ScrubFinding) (s : State)
    (s' : State) (ht : execScheduleScrubPass findings s = .next s') :
    s.node.Same pt s'.node := by
  have h0 := Node.Same.refl pt s.node
  unfold execScheduleScrubPass at ht
  refine State.upd_only ?_ ht
  repeat' (first | with_reducible assumption | exact Part.off_sub hp rfl | with_reducible apply Node.when_only
                  | with_reducible apply Node.each_only | with_reducible apply Node.scheduleFinding_only | intro _)

theorem execActionComplete_only {pt : Part} (hp : pt.off [.book, .trellis, .host, .regs] = true) (entry lateNs : Nat) (s : State) (s' : State)
    (ht : execActionComplete entry lateNs s = .next s') :
    s.node.Same pt s'.node := by
  have h0 := Node.Same.refl pt s.node
  unfold execActionComplete at ht
  refine State.upd_only ?_ ht
  repeat' (first | with_reducible assumption | exact Part.off_sub hp rfl | with_reducible apply Node.actionDone_only)

theorem execOutUpdate_only {pt : Part} (hp : pt.off [.book, .host, .outs, .pair, .regs] = true) (entry : Nat) (samples : List
    (Fin 24 × ChannelSample)) (vloadA vloadB : Half) (s : State) (s' : State) (ht : execOutUpdate entry samples vloadA vloadB s = .next s') :
    s.node.Same pt s'.node := by
  have h0 := Node.Same.refl pt s.node
  unfold execOutUpdate at ht
  refine State.upd_only ?_ ht
  repeat' (first | with_reducible assumption | exact Part.off_sub hp rfl | with_reducible apply Node.when_only
                  | with_reducible apply Node.xabort_only | with_reducible apply Node.outUpdate_only | intro _ | split | dsimp -proj only
                  | with_reducible apply with_pair_only)

theorem execHostIrq_only {pt : Part} (hp : pt.off [.host, .regs] = true) (entry : Nat) (s : State) (s' : State)
    (ht : execHostIrq entry s = .next s') :
    s.node.Same pt s'.node := by
  have h0 := Node.Same.refl pt s.node
  unfold execHostIrq at ht
  refine State.upd_only ?_ ht
  repeat' (first | with_reducible assumption | exact Part.off_sub hp rfl | with_reducible apply Node.when_only
                  | with_reducible apply Node.wr_only | with_reducible apply Node.fire_only | intro _ | split | dsimp -proj only
                  | with_reducible apply with_host_only)

theorem Node.testResult_only {pt : Part} {n0 : Node} (hp : pt.off [.book, .host, .regs] = true) (n : Node) (id outcome detail : Nat)
    (h0 : n0.Same pt n) :
    n0.Same pt (Node.testResult n id outcome detail) := by
  unfold Node.testResult
  repeat' (first | with_reducible assumption | exact Part.off_sub hp rfl | with_reducible apply Node.when_only
                  | with_reducible apply Node.putWord_only | with_reducible apply Node.count_only | with_reducible apply Node.raise_only
                  | intro _)

theorem Node.finishTest_only {pt : Part} {n0 : Node} (hp : pt.off [.book, .host, .outs, .regs] = true) (n : Node) (id : Nat) (measured : List Nat)
    (h0 : n0.Same pt n) :
    n0.Same pt (Node.finishTest n id measured) := by
  unfold Node.finishTest
  repeat' (first | with_reducible assumption | exact Part.off_sub hp rfl | with_reducible apply Node.addEnergy_only
                  | with_reducible apply Node.testResult_only | intro _ | split)

theorem execTestSlot_only {pt : Part} (hp : pt.off [.book, .trellis, .host, .outs, .regs] = true) (entry : Nat) (measured : List Nat)
    (finished : Bool) (s : State) (s' : State) (ht : execTestSlot entry measured finished s = .next s') :
    s.node.Same pt s'.node := by
  have h0 := Node.Same.refl pt s.node
  unfold execTestSlot at ht
  refine State.upd_only ?_ ht
  repeat' (first | with_reducible assumption | exact Part.off_sub hp rfl | with_reducible apply Node.when_only
                  | with_reducible apply Node.testResult_only | with_reducible apply Node.finishTest_only | intro _ | split | dsimp -proj only
                  | with_reducible apply with_trellis_only)

theorem execTestSuspended_only {pt : Part} (hp : pt.off [.book, .host, .regs] = true) (id : Byte) (s : State) (s' : State)
    (ht : execTestSuspended id s = .next s') :
    s.node.Same pt s'.node := by
  have h0 := Node.Same.refl pt s.node
  unfold execTestSuspended at ht
  refine State.upd_only ?_ ht
  repeat' (first | with_reducible assumption | exact Part.off_sub hp rfl | with_reducible apply Node.when_only
                  | with_reducible apply Node.testResult_only | intro _)

theorem Node.unitCfg_only {pt : Part} {n0 : Node} (hp : pt.off [.regs] = true) (n : Node) (h0 : n0.Same pt n) :
    n0.Same pt (Node.unitCfg n) := by
  unfold Node.unitCfg
  repeat' (first | with_reducible assumption | exact Part.off_sub hp rfl | with_reducible apply Node.wrBit_only)

theorem Node.cold_only {pt : Part} {n0 : Node}
    (hp : pt.off [.power, .supply, .pins, .commits, .mc, .faults, .runs, .hiLatch, .winLatch, .timeLatch, .book, .trellis, .cellar, .ports,
        .ina, .flows, .sessions, .mdStarted, .presses, .images, .cans, .lineUnits, .blend, .time, .host, .outs, .pair, .vnt, .vault, .maint, .regs,
        .shadow, .force, .ram] = true) (n : Node) (h : n0.Same pt n) : n0.Same pt n.cold := by
  unfold Node.cold
  refine Node.unitCfg_only (Part.off_sub hp rfl) _ (Node.putWord_only (Part.off_sub hp rfl) _ _ _
    (Node.setIslands_only (Part.off_sub hp rfl) _ _ (Node.setStore_only (Part.off_sub hp rfl) _ _ ?_)))
  cases pt <;> first | exact absurd hp (by decide) | exact h

theorem Node.releaseIslands_only {pt : Part} {n0 : Node} (hp : pt.off [.trellis, .regs] = true) (n : Node) (h0 : n0.Same pt n) :
    n0.Same pt (Node.releaseIslands n) := by
  unfold Node.releaseIslands
  repeat' (first | with_reducible assumption | exact Part.off_sub hp rfl | with_reducible apply Node.setIslands_only)

theorem Node.releaseBridge_only {pt : Part} {n0 : Node} (hp : pt.off [.trellis, .host, .regs] = true) (n : Node) (h0 : n0.Same pt n) :
    n0.Same pt (Node.releaseBridge n) := by
  unfold Node.releaseBridge
  repeat' (first | with_reducible assumption | exact Part.off_sub hp rfl | with_reducible apply Node.wrBit_only
                  | with_reducible apply Node.setIslands_only | intro _ | split | dsimp -proj only | with_reducible apply with_host_only)

theorem Node.warmWords_only {pt : Part} {n0 : Node} (hp : pt.off [.regs] = true) (old n : Node) (_h0 : n0.Same pt old) (h1 : n0.Same pt n) :
    n0.Same pt (Node.warmWords old n) := by
  unfold Node.warmWords
  repeat' (first | with_reducible assumption | exact Part.off_sub hp rfl | with_reducible apply Node.each_only
                  | with_reducible apply Node.putWord_only | with_reducible apply Node.wr_only | with_reducible apply Node.wrBit_only
                  | with_reducible apply Node.unitCfg_only | intro _)

theorem Node.lostBoxes_only {pt : Part} {n0 : Node} (hp : pt.off [.regs] = true) (old n : Node) (_h0 : n0.Same pt old) (h1 : n0.Same pt n) :
    n0.Same pt (Node.lostBoxes old n) := by
  unfold Node.lostBoxes
  repeat' (first | with_reducible assumption | exact Part.off_sub hp rfl | with_reducible apply Node.when_only
                  | with_reducible apply Node.each_only | with_reducible apply Node.wrBit_only | intro _)

theorem Node.restartWarm_only {pt : Part} {n0 : Node}
    (hp : pt.off [.power, .supply, .pins, .commits, .mc, .faults, .runs, .hiLatch, .winLatch, .timeLatch, .book, .trellis, .cellar, .ports,
        .ina, .flows, .sessions, .mdStarted, .presses, .images, .cans, .lineUnits, .blend, .time, .host, .outs, .pair, .vnt, .vault, .maint, .regs,
        .shadow, .force, .ram] = true) (n : Node) (cause : Nat) (h : n0.Same pt n) :
    n0.Same pt (n.restartWarm cause) := by
  unfold Node.restartWarm
  repeat' (first | with_reducible assumption | exact Part.off_sub hp rfl | with_reducible apply Node.updateBypass_only
                  | with_reducible apply Node.startMeasures_only | with_reducible apply Node.wrBit_only | with_reducible apply Node.wr_only
                  | with_reducible apply Node.startDomain_only | with_reducible apply Node.lostBoxes_only
                  | with_reducible apply Node.setIslands_only | with_reducible apply Node.warmWords_only
                  | with_reducible apply Node.standPhase_only | with_reducible apply Node.setStore_only | intro _ | dsimp -proj only)
  all_goals (cases pt <;> first | exact absurd hp (by decide) | exact h)

theorem Node.restartDropsUpdate_only {pt : Part} {n0 : Node} (hp : pt.off [.book, .host, .regs] = true) (old n : Node) (_h0 : n0.Same pt old)
    (h1 : n0.Same pt n) :
    n0.Same pt (Node.restartDropsUpdate old n) := by
  unfold Node.restartDropsUpdate
  repeat' (first | with_reducible assumption | exact Part.off_sub hp rfl | with_reducible apply Node.count_only
                  | with_reducible apply Node.raise_only | with_reducible apply Node.setSlot_only | intro _ | split)

theorem Node.failTrial_only {pt : Part} {n0 : Node} (hp : pt.off [.book, .host, .vault, .regs] = true) (n : Node) (cause : Nat) (h0 : n0.Same pt
    n) :
    n0.Same pt (Node.failTrial n cause) := by
  unfold Node.failTrial
  repeat' (first | with_reducible assumption | exact Part.off_sub hp rfl | with_reducible apply Node.wr_only
                  | with_reducible apply Node.count_only | with_reducible apply Node.raise_only | with_reducible apply Node.setSlot_only | intro _
                  | split | dsimp -proj only | with_reducible apply with_vault_only)

theorem Node.flushReady_only {pt : Part} {n0 : Node} (hp : pt.off [.book, .host, .regs] = true) (n : Node) (h0 : n0.Same pt n) :
    n0.Same pt (Node.flushReady n) := by
  unfold Node.flushReady
  repeat' (first | with_reducible assumption | exact Part.off_sub hp rfl | with_reducible apply Node.when_only
                  | with_reducible apply Node.flushBook_only)

theorem Node.warmReset_only {pt : Part} {n0 : Node}
    (hp : pt.off [.power, .supply, .pins, .commits, .mc, .faults, .runs, .hiLatch, .winLatch, .timeLatch, .book, .trellis, .cellar, .ports,
        .ina, .flows, .sessions, .mdStarted, .presses, .images, .cans, .lineUnits, .blend, .time, .host, .outs, .pair, .vnt, .vault, .maint, .out,
        .regs, .shadow, .force, .ram] = true) (n : Node) (cause : Nat) (h0 : n0.Same pt n) :
    n0.Same pt (Node.warmReset n cause) := by
  unfold Node.warmReset
  repeat' (first | with_reducible assumption | exact Part.off_sub hp rfl | with_reducible apply Node.when_only
                  | with_reducible apply Node.resign_only | with_reducible apply Node.restartWarm_only
                  | with_reducible apply Node.restartDropsUpdate_only | with_reducible apply Node.failTrial_only
                  | with_reducible apply Node.flushReady_only | intro _)

theorem Node.fallBack_only {pt : Part} {n0 : Node}
    (hp : pt.off [.power, .supply, .pins, .commits, .mc, .faults, .runs, .hiLatch, .winLatch, .timeLatch, .book, .trellis, .cellar, .ports,
        .ina, .flows, .sessions, .mdStarted, .presses, .images, .cans, .lineUnits, .blend, .time, .host, .outs, .pair, .vnt, .vault, .maint, .out,
        .regs, .shadow, .force, .ram] = true) (n : Node) (cause : Nat) (h0 : n0.Same pt n) :
    n0.Same pt (Node.fallBack n cause) := by
  unfold Node.fallBack
  repeat' (first | with_reducible assumption | exact Part.off_sub hp rfl | with_reducible apply Node.when_only
                  | with_reducible apply Node.resign_only | with_reducible apply Node.restartWarm_only
                  | with_reducible apply Node.restartDropsUpdate_only | with_reducible apply Node.failTrial_only
                  | with_reducible apply Node.flushReady_only | intro _ | split | dsimp -proj only | with_reducible apply with_supply_only)

theorem execRstCmdWarm_only {pt : Part}
    (hp : pt.off [.power, .supply, .pins, .commits, .mc, .faults, .runs, .hiLatch, .winLatch, .timeLatch, .book, .trellis, .cellar, .ports,
        .ina, .flows, .sessions, .mdStarted, .presses, .images, .cans, .lineUnits, .blend, .time, .host, .outs, .pair, .vnt, .vault, .maint, .out,
        .regs, .shadow, .force, .ram] = true) (by_ : Initiator) (key : Half) (s : State) (s' : State) (ht : execRstCmdWarm by_ key s = .next s') :
    s.node.Same pt s'.node := by
  have h0 := Node.Same.refl pt s.node
  unfold execRstCmdWarm at ht
  refine State.upd_only ?_ ht
  repeat' (first | with_reducible assumption | exact Part.off_sub hp rfl | with_reducible apply Node.when_only
                  | with_reducible apply Node.access_only | with_reducible apply Node.warmReset_only | intro _)

theorem execVintnerWatchdogExpiry_only {pt : Part}
    (hp : pt.off [.power, .supply, .pins, .commits, .mc, .faults, .runs, .hiLatch, .winLatch, .timeLatch, .book, .trellis, .cellar, .ports,
        .ina, .flows, .sessions, .mdStarted, .presses, .images, .cans, .lineUnits, .blend, .time, .host, .outs, .pair, .vnt, .vault, .maint, .out,
        .regs, .shadow, .force, .ram] = true) (s : State) (s' : State) (ht : execVintnerWatchdogExpiry s = .next s') :
    s.node.Same pt s'.node := by
  have h0 := Node.Same.refl pt s.node
  unfold execVintnerWatchdogExpiry at ht
  refine State.upd_only ?_ ht
  repeat' (first | with_reducible assumption | exact Part.off_sub hp rfl | with_reducible apply Node.warmReset_only)

theorem execLockstepMismatch_only {pt : Part}
    (hp : pt.off [.power, .supply, .pins, .commits, .mc, .faults, .runs, .hiLatch, .winLatch, .timeLatch, .book, .trellis, .cellar, .ports,
        .ina, .flows, .sessions, .mdStarted, .presses, .images, .cans, .lineUnits, .blend, .time, .host, .outs, .pair, .vnt, .vault, .maint, .out,
        .regs, .shadow, .force, .ram] = true) (s : State) (s' : State) (ht : execLockstepMismatch s = .next s') :
    s.node.Same pt s'.node := by
  have h0 := Node.Same.refl pt s.node
  unfold execLockstepMismatch at ht
  refine State.upd_only ?_ ht
  repeat' (first | with_reducible assumption | exact Part.off_sub hp rfl | with_reducible apply Node.warmReset_only)

theorem execVintnerSramError_only {pt : Part} (hp : pt.off [.supply, .regs] = true) (correctable : Bool) (s : State) (s' : State)
    (ht : execVintnerSramError correctable s = .next s') :
    s.node.Same pt s'.node := by
  have h0 := Node.Same.refl pt s.node
  unfold execVintnerSramError at ht
  refine State.upd_only ?_ ht
  repeat' (first | with_reducible assumption | exact Part.off_sub hp rfl | with_reducible apply Node.when_only
                  | with_reducible apply Node.count_only | intro _ | split | dsimp -proj only | with_reducible apply with_supply_only)

theorem Node.beginLoad_only {pt : Part} {n0 : Node} (hp : pt.off [.supply, .regs, .shadow] = true) (n : Node) (slot : Nat) (h0 : n0.Same pt n) :
    n0.Same pt (Node.beginLoad n slot) := by
  unfold Node.beginLoad
  repeat' (first | with_reducible assumption | exact Part.off_sub hp rfl | with_reducible apply Node.clearShadows_only
                  | with_reducible apply Node.wr_only | with_reducible apply Node.setSpec_only | intro _ | split | dsimp -proj only
                  | with_reducible apply with_supply_only)

theorem Node.firstLoad_only {pt : Part} {n0 : Node} (hp : pt.off [.supply, .trellis, .regs, .shadow] = true) (n : Node) (h0 : n0.Same pt n) :
    n0.Same pt (Node.firstLoad n) := by
  unfold Node.firstLoad
  repeat' (first | with_reducible assumption | exact Part.off_sub hp rfl | with_reducible apply Node.releaseIslands_only
                  | with_reducible apply Node.beginLoad_only)

theorem Node.dropLoad_only {pt : Part} {n0 : Node} (hp : pt.off [.supply, .cellar, .ports, .host, .regs, .shadow] = true) (n : Node)
    (h0 : n0.Same pt n) :
    n0.Same pt (Node.dropLoad n) := by
  unfold Node.dropLoad
  repeat' (first | with_reducible assumption | exact Part.off_sub hp rfl | with_reducible apply Node.each_only
                  | with_reducible apply Node.reloadShadows_only | with_reducible apply Node.setSpec_only | with_reducible apply Node.phyLost_only
                  | intro _ | split | dsimp -proj only | with_reducible apply with_supply_only)

theorem Node.countStart_only {pt : Part} {n0 : Node} (hp : pt.off [.book, .host, .regs] = true) (n : Node) (r : StartRecord) (h0 : n0.Same pt n) :
    n0.Same pt (Node.countStart n r) := by
  unfold Node.countStart
  repeat' (first | with_reducible assumption | exact Part.off_sub hp rfl | with_reducible apply Node.count_only
                  | with_reducible apply Node.raise_only | intro _ | split)

theorem Node.countStarts_only {pt : Part} {n0 : Node} (hp : pt.off [.supply, .book, .host, .regs] = true) (n : Node) (h0 : n0.Same pt n) :
    n0.Same pt (Node.countStarts n) := by
  unfold Node.countStarts
  repeat' (first | with_reducible assumption | exact Part.off_sub hp rfl | with_reducible apply Node.each_only
                  | with_reducible apply Node.countStart_only | intro _ | split | dsimp -proj only | with_reducible apply with_supply_only)

theorem Node.enterRecovery_only {pt : Part} {n0 : Node} (hp : pt.off [.supply, .faults, .book, .cellar, .ports, .host, .outs, .fresh, .regs] = true)
    (n : Node) (h0 : n0.Same pt n) :
    n0.Same pt (Node.enterRecovery n) := by
  unfold Node.enterRecovery
  repeat' (first | with_reducible assumption | exact Part.off_sub hp rfl | with_reducible apply Node.wr_only
                  | with_reducible apply Node.addFault_only | with_reducible apply Node.raise_only | with_reducible apply Node.channelsCut_only
                  | with_reducible apply Node.updateBypass_only | with_reducible apply Node.countStarts_only | intro _ | split | dsimp -proj only
                  | with_reducible apply with_supply_only)

theorem Node.loadFails_only {pt : Part} {n0 : Node}
    (hp : pt.off [.power, .supply, .pins, .commits, .mc, .faults, .runs, .hiLatch, .winLatch, .timeLatch, .book, .trellis, .cellar, .ports,
        .ina, .flows, .sessions, .mdStarted, .presses, .images, .cans, .lineUnits, .blend, .time, .host, .outs, .pair, .vnt, .vault, .maint, .out,
        .fresh, .regs, .shadow, .force, .ram] = true) (n : Node) (reason : Nat) (h0 : n0.Same pt n) :
    n0.Same pt (Node.loadFails n reason) := by
  unfold Node.loadFails
  repeat' (first | with_reducible assumption | exact Part.off_sub hp rfl | with_reducible apply Node.wrBit_only
                  | with_reducible apply Node.count_only | with_reducible apply Node.raise_only | with_reducible apply Node.setSlot_only
                  | with_reducible apply Node.lastErr_only | with_reducible apply Node.slotRefused_only | with_reducible apply Node.fallBack_only
                  | with_reducible apply Node.beginLoad_only | with_reducible apply Node.dropLoad_only
                  | with_reducible apply Node.enterRecovery_only | intro _ | split | dsimp -proj only | with_reducible apply with_supply_only)

theorem Node.takeStore_only {pt : Part} {n0 : Node} (hp : pt.off [.faults, .book, .host, .vnt, .regs] = true) (n : Node) (aOk bOk : Bool)
    (h0 : n0.Same pt n) :
    n0.Same pt (Node.takeStore n aOk bOk) := by
  unfold Node.takeStore
  repeat' (first | with_reducible assumption | exact Part.off_sub hp rfl | with_reducible apply Node.addFault_only
                  | with_reducible apply Node.raise_only | with_reducible apply Node.unitCfg_only | intro _ | split | dsimp -proj only
                  | with_reducible apply with_vnt_only)

theorem Node.releaseFabric_only {pt : Part} {n0 : Node} (hp : pt.off [.trellis, .regs] = true) (n : Node) (h0 : n0.Same pt n) :
    n0.Same pt (Node.releaseFabric n) := by
  unfold Node.releaseFabric
  repeat' (first | with_reducible assumption | exact Part.off_sub hp rfl | with_reducible apply Node.setIslands_only)

theorem Node.startFirmware_only {pt : Part} {n0 : Node} (hp : pt.off [.supply, .faults, .book, .trellis, .host, .pair, .vnt, .vault, .regs] = true)
    (n : Node) (copy svn : Nat) (digest : BitVec 256) (aOk bOk : Bool) (h0 : n0.Same pt n) :
    n0.Same pt (Node.startFirmware n copy svn digest aOk bOk) := by
  unfold Node.startFirmware
  repeat' (first | with_reducible assumption | exact Part.off_sub hp rfl | with_reducible apply Node.when_only
                  | with_reducible apply Node.wr_only | with_reducible apply Node.extendMeas_only | with_reducible apply Node.takeStore_only
                  | with_reducible apply Node.releaseFabric_only | intro _ | split | dsimp -proj only | with_reducible apply with_supply_only
                  | with_reducible apply with_pair_only | with_reducible apply with_vnt_only | with_reducible apply with_vault_only
                  | with_reducible apply with_supply_vnt_vault_only)

theorem execFirmwareVerified_only {pt : Part} (hp : pt.off [.supply, .faults, .book, .trellis, .host, .pair, .vnt, .vault, .regs, .shadow] = true)
    (copy : Fin 2) (edOk mldsaOk : Bool) (svn : Word) (digest : BitVec 256) (storeAOk storeBOk : Bool) (s : State) (s' : State)
    (ht : execFirmwareVerified copy edOk mldsaOk svn digest storeAOk storeBOk s = .next s') :
    s.node.Same pt s'.node := by
  have h0 := Node.Same.refl pt s.node
  unfold execFirmwareVerified at ht
  refine State.upd_only ?_ ht
  repeat' (first | with_reducible assumption | exact Part.off_sub hp rfl | with_reducible apply Node.when_only
                  | with_reducible apply Node.wr_only | with_reducible apply Node.firstLoad_only | with_reducible apply Node.startFirmware_only
                  | intro _ | split | dsimp -proj only | with_reducible apply with_supply_only)

theorem execMemoryTestDone_only {pt : Part} (hp : pt.off [.supply, .faults, .book, .trellis, .host, .maint, .regs, .shadow] = true) (failed : List
    (Fin 16 × Nat)) (s : State) (s' : State) (ht : execMemoryTestDone failed s = .next s') :
    s.node.Same pt s'.node := by
  have h0 := Node.Same.refl pt s.node
  unfold execMemoryTestDone at ht
  refine State.upd_only ?_ ht
  repeat' (first | with_reducible assumption | exact Part.off_sub hp rfl | with_reducible apply Node.when_only
                  | with_reducible apply Node.each_only | with_reducible apply Node.addFault_only | with_reducible apply Node.raise_only
                  | with_reducible apply Node.firstLoad_only | intro _ | split | dsimp -proj only | with_reducible apply with_maint_only)

theorem Node.takeSection_only {pt : Part} {n0 : Node} (hp : pt.off [.supply, .regs, .shadow] = true) (n : Node) (sec : VintageSection)
    (h0 : n0.Same pt n) :
    n0.Same pt (Node.takeSection n sec) := by
  unfold Node.takeSection
  repeat' (first | with_reducible assumption | exact Part.off_sub hp rfl | with_reducible apply Node.putShadows_only
                  | with_reducible apply Node.setSpec_only | intro _ | split | dsimp -proj only | with_reducible apply with_supply_only)

theorem execVintageSectionArrived_only {pt : Part}
    (hp : pt.off [.power, .supply, .pins, .commits, .mc, .faults, .runs, .hiLatch, .winLatch, .timeLatch, .book, .trellis, .cellar, .ports,
        .ina, .flows, .sessions, .mdStarted, .presses, .images, .cans, .lineUnits, .blend, .time, .host, .outs, .pair, .vnt, .vault, .maint, .out,
        .fresh, .regs, .shadow, .force, .ram] = true) (sec : VintageSection) (digestOk : Bool) (s : State) (s' : State) (ht :
        execVintageSectionArrived sec digestOk s = .next s') :
    s.node.Same pt s'.node := by
  have h0 := Node.Same.refl pt s.node
  unfold execVintageSectionArrived at ht
  refine State.upd_only ?_ ht
  repeat' (first | with_reducible assumption | exact Part.off_sub hp rfl | with_reducible apply Node.when_only
                  | with_reducible apply Node.loadFails_only | with_reducible apply Node.takeSection_only | intro _ | split)

theorem execVintageSignaturesDone_only {pt : Part}
    (hp : pt.off [.power, .supply, .pins, .commits, .mc, .faults, .runs, .hiLatch, .winLatch, .timeLatch, .book, .trellis, .cellar, .ports,
        .ina, .flows, .sessions, .mdStarted, .presses, .images, .cans, .lineUnits, .blend, .time, .host, .outs, .pair, .vnt, .vault, .maint, .out,
        .fresh, .regs, .shadow, .force, .ram] = true) (why : Option VintageFault) (header : VintageHeader) (s : State) (s' : State) (ht :
        execVintageSignaturesDone why header s = .next s') :
    s.node.Same pt s'.node := by
  have h0 := Node.Same.refl pt s.node
  unfold execVintageSignaturesDone at ht
  refine State.upd_only ?_ ht
  repeat' (first | with_reducible assumption | exact Part.off_sub hp rfl | with_reducible apply Node.when_only
                  | with_reducible apply Node.extendMeas_only | with_reducible apply Node.setSlotHeader_only
                  | with_reducible apply Node.loadFails_only | intro _ | split | dsimp -proj only | with_reducible apply with_supply_only)

theorem Node.loadSection_only {pt : Part} {n0 : Node} (hp : pt.off [.ina, .images, .blend, .vnt, .regs] = true) (n : Node) (sec : VintageSection)
    (h0 : n0.Same pt n) :
    n0.Same pt (Node.loadSection n sec) := by
  unfold Node.loadSection
  repeat' (first | with_reducible assumption | exact Part.off_sub hp rfl | with_reducible apply Node.each_only
                  | with_reducible apply Node.loadWord_only | intro _ | split | dsimp -proj only | with_reducible apply with_ina_only
                  | with_reducible apply with_images_only | with_reducible apply with_blend_only | with_reducible apply with_vnt_only)

theorem Node.startTopology_only {pt : Part} {n0 : Node} (hp : pt.off [.ina, .regs, .shadow, .force] = true) (n : Node) (h0 : n0.Same pt n) :
    n0.Same pt (Node.startTopology n) := by
  unfold Node.startTopology
  repeat' (first | with_reducible assumption | exact Part.off_sub hp rfl | with_reducible apply Node.putShadows_only
                  | with_reducible apply Node.putForces_only | with_reducible apply Node.resetConfig_only | with_reducible apply Node.wr_only
                  | with_reducible apply Node.wrBit_only | with_reducible apply Node.writeDirectory_only | intro _ | split | dsimp -proj only
                  | with_reducible apply with_ina_only)

theorem Node.reachSlot_only {pt : Part} {n0 : Node} (hp : pt.off [.vnt, .vault, .regs] = true) (n : Node) (h0 : n0.Same pt n) :
    n0.Same pt (Node.reachSlot n) := by
  unfold Node.reachSlot
  repeat' (first | with_reducible assumption | exact Part.off_sub hp rfl | with_reducible apply Node.wr_only
                  | with_reducible apply Node.setSlot_only | intro _ | split | dsimp -proj only | with_reducible apply with_vnt_only
                  | with_reducible apply with_vault_only)

theorem Node.applyLoad_only {pt : Part} {n0 : Node} (hp : pt.off [.supply, .trellis, .ina, .images, .blend, .vnt, .regs, .force] = true) (n : Node)
    (h0 : n0.Same pt n) :
    n0.Same pt (Node.applyLoad n) := by
  unfold Node.applyLoad
  repeat' (first | with_reducible assumption | exact Part.off_sub hp rfl | with_reducible apply Node.each_only
                  | with_reducible apply Node.forceShadows_only | with_reducible apply Node.copying_only
                  | with_reducible apply Node.groupTaken_only | with_reducible apply Node.loadSection_only | intro _ | split | dsimp -proj only
                  | with_reducible apply with_supply_only)

theorem Node.startBlocks_only {pt : Part} {n0 : Node}
    (hp : pt.off [.pins, .runs, .book, .trellis, .cellar, .ports, .ina, .flows, .presses, .blend, .time, .host, .out, .regs, .shadow, .force,
        .ram] = true) (n : Node) (h0 : n0.Same pt n) :
    n0.Same pt (Node.startBlocks n) := by
  unfold Node.startBlocks
  repeat' (first | with_reducible assumption | exact Part.off_sub hp rfl | with_reducible apply Node.loadStatic_only
                  | with_reducible apply Node.followModes_only | with_reducible apply Node.chooseSource_only
                  | with_reducible apply Node.startDomain_only | with_reducible apply Node.clockApplied_only
                  | with_reducible apply Node.reactivate_only | with_reducible apply Node.showAllDirections_only
                  | with_reducible apply Node.loadWaiting_only | with_reducible apply Node.initSignals_only
                  | with_reducible apply Node.startTopology_only)

theorem Node.startTrellis_only {pt : Part} {n0 : Node} (hp : pt.off [.book, .host, .regs] = true) (n : Node) (h0 : n0.Same pt n) :
    n0.Same pt (Node.startTrellis n) := by
  unfold Node.startTrellis
  repeat' (first | with_reducible assumption | exact Part.off_sub hp rfl | with_reducible apply Node.when_only
                  | with_reducible apply Node.wr_only | with_reducible apply Node.wrBit_only | with_reducible apply Node.raise_only
                  | with_reducible apply Node.newCycle_only | intro _)

theorem Node.commitVintage_only {pt : Part} {n0 : Node}
    (hp : pt.off [.supply, .pins, .runs, .book, .trellis, .cellar, .ports, .ina, .flows, .presses, .images, .blend, .time, .host, .outs, .pair,
        .vnt, .vault, .out, .fresh, .regs, .shadow, .force, .ram] = true) (n : Node) (h0 : n0.Same pt n) :
    n0.Same pt (Node.commitVintage n) := by
  unfold Node.commitVintage
  repeat' (first | with_reducible assumption | exact Part.off_sub hp rfl | with_reducible apply Node.when_only
                  | with_reducible apply Node.each_only | with_reducible apply Node.wr_only | with_reducible apply Node.wrBit_only
                  | with_reducible apply Node.raise_only | with_reducible apply Node.setSpec_only | with_reducible apply Node.outputsApplied_only
                  | with_reducible apply Node.startInaug_only | with_reducible apply Node.phyLost_only
                  | with_reducible apply Node.updateBypass_only | with_reducible apply Node.startRole_only
                  | with_reducible apply Node.checkCompat_only | with_reducible apply Node.reachSlot_only
                  | with_reducible apply Node.applyLoad_only | with_reducible apply Node.startBlocks_only
                  | with_reducible apply Node.startTrellis_only | intro _ | split | dsimp -proj only | with_reducible apply with_supply_only
                  | with_reducible apply with_pins_only)

theorem execStartUpCommit_only {pt : Part}
    (hp : pt.off [.supply, .pins, .runs, .book, .trellis, .cellar, .ports, .ina, .flows, .presses, .images, .blend, .time, .host, .outs, .pair,
        .vnt, .vault, .out, .fresh, .regs, .shadow, .force, .ram] = true) (s : State) (s' : State) (ht : execStartUpCommit s = .next s') :
    s.node.Same pt s'.node := by
  have h0 := Node.Same.refl pt s.node
  unfold execStartUpCommit at ht
  refine State.upd_only ?_ ht
  repeat' (first | with_reducible assumption | exact Part.off_sub hp rfl | with_reducible apply Node.when_only
                  | with_reducible apply Node.commitVintage_only)

theorem execWarmResetCommit_only {pt : Part}
    (hp : pt.off [.supply, .pins, .runs, .book, .trellis, .cellar, .ports, .ina, .flows, .presses, .images, .blend, .time, .host, .outs, .pair,
        .vnt, .vault, .out, .fresh, .regs, .shadow, .force, .ram] = true) (s : State) (s' : State) (ht : execWarmResetCommit s = .next s') :
    s.node.Same pt s'.node := by
  have h0 := Node.Same.refl pt s.node
  unfold execWarmResetCommit at ht
  refine State.upd_only ?_ ht
  repeat' (first | with_reducible assumption | exact Part.off_sub hp rfl | with_reducible apply Node.when_only
                  | with_reducible apply Node.countStarts_only | with_reducible apply Node.commitVintage_only | intro _ | split | dsimp -proj only
                  | with_reducible apply with_supply_only)

theorem execWakeRunStart_only {pt : Part}
    (hp : pt.off [.supply, .pins, .runs, .book, .trellis, .cellar, .ports, .ina, .flows, .presses, .images, .blend, .time, .host, .outs, .pair,
        .vnt, .vault, .out, .fresh, .regs, .shadow, .force, .ram] = true) (s : State) (s' : State) (ht : execWakeRunStart s = .next s') :
    s.node.Same pt s'.node := by
  have h0 := Node.Same.refl pt s.node
  unfold execWakeRunStart at ht
  refine State.upd_only ?_ ht
  repeat' (first | with_reducible assumption | exact Part.off_sub hp rfl | with_reducible apply Node.when_only
                  | with_reducible apply Node.countStarts_only | with_reducible apply Node.commitVintage_only | intro _ | split | dsimp -proj only
                  | with_reducible apply with_supply_only)

theorem Node.beginShutdown_only {pt : Part} {n0 : Node}
    (hp : pt.off [.power, .supply, .pins, .book, .trellis, .cellar, .ports, .ina, .host, .outs, .pair, .vault, .out, .fresh, .regs] = true)
    (n : Node) (cause : ShutdownCause) (h0 : n0.Same pt n) :
    n0.Same pt (Node.beginShutdown n cause) := by
  unfold Node.beginShutdown
  repeat' (first | with_reducible assumption | exact Part.off_sub hp rfl | with_reducible apply Node.when_only
                  | with_reducible apply Node.wr_only | with_reducible apply Node.count_only | with_reducible apply Node.raise_only
                  | with_reducible apply Node.dropSession_only | with_reducible apply Node.channelsCut_only
                  | with_reducible apply Node.updateBypass_only | with_reducible apply Node.resign_only
                  | with_reducible apply Node.stopTrellis_only | with_reducible apply Node.flushReady_only
                  | with_reducible apply Node.countStarts_only | intro _ | split | dsimp -proj only | with_reducible apply with_power_only
                  | with_reducible apply with_supply_only | with_reducible apply with_pins_only | with_reducible apply with_power_supply_only)

theorem Node.freeHeat_only {pt : Part} {n0 : Node} (hp : pt.off [.supply] = true) (n : Node) (h0 : n0.Same pt n) :
    n0.Same pt (Node.freeHeat n) := by
  unfold Node.freeHeat
  repeat' (first | with_reducible assumption | exact Part.off_sub hp rfl | intro _ | split | dsimp -proj only
                  | with_reducible apply with_supply_only)

theorem execShutdownPowerDown_only {pt : Part}
    (hp : pt.off [.power, .supply, .pins, .commits, .mc, .faults, .runs, .hiLatch, .winLatch, .timeLatch, .book, .trellis, .cellar, .ports,
        .ina, .flows, .sessions, .mdStarted, .presses, .images, .cans, .lineUnits, .blend, .time, .host, .outs, .pair, .vnt, .vault, .maint, .regs,
        .shadow, .force, .ram] = true) (s : State) (s' : State) (ht : execShutdownPowerDown s = .next s') :
    s.node.Same pt s'.node := by
  have h0 := Node.Same.refl pt s.node
  unfold execShutdownPowerDown at ht
  refine State.upd_only ?_ ht
  repeat' (first | with_reducible assumption | exact Part.off_sub hp rfl | with_reducible apply Node.when_only
                  | with_reducible apply Node.cold_only)

theorem Node.seeBatt_only {pt : Part} {n0 : Node} (hp : pt.off [.regs] = true) (n : Node) (mv : Half) (h0 : n0.Same pt n) :
    n0.Same pt (Node.seeBatt n mv) := by
  unfold Node.seeBatt
  repeat' (first | with_reducible assumption | exact Part.off_sub hp rfl | with_reducible apply Node.when_only
                  | with_reducible apply Node.wr_only | intro _)

theorem Node.seeHoldup_only {pt : Part} {n0 : Node} (hp : pt.off [.regs] = true) (n : Node) (mv : Half) (h0 : n0.Same pt n) :
    n0.Same pt (Node.seeHoldup n mv) := by
  unfold Node.seeHoldup
  repeat' (first | with_reducible assumption | exact Part.off_sub hp rfl | with_reducible apply Node.when_only
                  | with_reducible apply Node.wr_only | intro _)

theorem Node.seeBase_only {pt : Part} {n0 : Node} (hp : pt.off [.regs] = true) (n : Node) (t : Half) (h0 : n0.Same pt n) :
    n0.Same pt (Node.seeBase n t) := by
  unfold Node.seeBase
  repeat' (first | with_reducible assumption | exact Part.off_sub hp rfl | with_reducible apply Node.wr_only)

theorem execVbattOvervoltage_only {pt : Part}
    (hp : pt.off [.power, .supply, .pins, .book, .trellis, .cellar, .ports, .ina, .host, .outs, .pair, .vault, .out, .fresh, .regs] = true)
    (mv : Half) (s : State) (s' : State) (ht : execVbattOvervoltage mv s = .next s') :
    s.node.Same pt s'.node := by
  have h0 := Node.Same.refl pt s.node
  unfold execVbattOvervoltage at ht
  refine State.upd_only ?_ ht
  repeat' (first | with_reducible assumption | exact Part.off_sub hp rfl | with_reducible apply Node.beginShutdown_only
                  | with_reducible apply Node.seeBatt_only)

theorem execOvervoltageTimeout_only {pt : Part}
    (hp : pt.off [.power, .supply, .pins, .book, .trellis, .cellar, .ports, .ina, .host, .outs, .pair, .vault, .out, .fresh, .regs] = true)
    (mv : Half) (s : State) (s' : State) (ht : execOvervoltageTimeout mv s = .next s') :
    s.node.Same pt s'.node := by
  have h0 := Node.Same.refl pt s.node
  unfold execOvervoltageTimeout at ht
  refine State.upd_only ?_ ht
  repeat' (first | with_reducible assumption | exact Part.off_sub hp rfl | with_reducible apply Node.beginShutdown_only
                  | with_reducible apply Node.seeBatt_only)

theorem Node.holdupCheck_only {pt : Part} {n0 : Node} (hp : pt.off [.book, .host, .regs] = true) (n : Node) (h0 : n0.Same pt n) :
    n0.Same pt (Node.holdupCheck n) := by
  unfold Node.holdupCheck
  repeat' (first | with_reducible assumption | exact Part.off_sub hp rfl | with_reducible apply Node.when_only
                  | with_reducible apply Node.count_only | with_reducible apply Node.raise_only | intro _)

theorem execDipStart_only {pt : Part} (hp : pt.off [.supply, .book, .host, .regs] = true) (mv : Half) (s : State) (s' : State)
    (ht : execDipStart mv s = .next s') :
    s.node.Same pt s'.node := by
  have h0 := Node.Same.refl pt s.node
  unfold execDipStart at ht
  refine State.upd_only ?_ ht
  repeat' (first | with_reducible assumption | exact Part.off_sub hp rfl | with_reducible apply Node.when_only
                  | with_reducible apply Node.raise_only | with_reducible apply Node.seeBatt_only | with_reducible apply Node.holdupCheck_only
                  | intro _ | split | dsimp -proj only | with_reducible apply with_supply_only)

theorem Node.endDip_only {pt : Part} {n0 : Node} (hp : pt.off [.supply] = true) (n : Node) (h0 : n0.Same pt n) :
    n0.Same pt (Node.endDip n) := by
  unfold Node.endDip
  repeat' (first | with_reducible assumption | exact Part.off_sub hp rfl | intro _ | split | dsimp -proj only
                  | with_reducible apply with_supply_only)

theorem execDipEnd_only {pt : Part} (hp : pt.off [.supply, .book, .host, .regs] = true) (ms lowestMv : Nat) (mv : Half) (s : State) (s' : State)
    (ht : execDipEnd ms lowestMv mv s = .next s') :
    s.node.Same pt s'.node := by
  have h0 := Node.Same.refl pt s.node
  unfold execDipEnd at ht
  refine State.upd_only ?_ ht
  repeat' (first | with_reducible assumption | exact Part.off_sub hp rfl | with_reducible apply Node.when_only
                  | with_reducible apply Node.count_only | with_reducible apply Node.raise_only | with_reducible apply Node.seeBatt_only
                  | with_reducible apply Node.endDip_only | intro _)

theorem execDipTimeout_only {pt : Part}
    (hp : pt.off [.power, .supply, .pins, .book, .trellis, .cellar, .ports, .ina, .host, .outs, .pair, .vault, .out, .fresh, .regs] = true)
    (s : State) (s' : State) (ht : execDipTimeout s = .next s') :
    s.node.Same pt s'.node := by
  have h0 := Node.Same.refl pt s.node
  unfold execDipTimeout at ht
  refine State.upd_only ?_ ht
  repeat' (first | with_reducible assumption | exact Part.off_sub hp rfl | with_reducible apply Node.when_only
                  | with_reducible apply Node.beginShutdown_only | with_reducible apply Node.endDip_only | intro _)

theorem Node.interrupted_only {pt : Part} {n0 : Node} (hp : pt.off [.supply] = true) (n : Node) (b : Bool) (h0 : n0.Same pt n) :
    n0.Same pt (Node.interrupted n b) := by
  unfold Node.interrupted
  repeat' (first | with_reducible assumption | exact Part.off_sub hp rfl | intro _ | split | dsimp -proj only
                  | with_reducible apply with_supply_only)

theorem execInterruptionStart_only {pt : Part} (hp : pt.off [.supply, .book, .host, .regs] = true) (mv : Half) (s : State) (s' : State)
    (ht : execInterruptionStart mv s = .next s') :
    s.node.Same pt s'.node := by
  have h0 := Node.Same.refl pt s.node
  unfold execInterruptionStart at ht
  refine State.upd_only ?_ ht
  repeat' (first | with_reducible assumption | exact Part.off_sub hp rfl | with_reducible apply Node.when_only
                  | with_reducible apply Node.freeHeat_only | with_reducible apply Node.seeBatt_only | with_reducible apply Node.holdupCheck_only
                  | with_reducible apply Node.interrupted_only | intro _)

theorem execInterruptionRiddenThrough_only {pt : Part} (hp : pt.off [.supply, .book, .host, .regs] = true) (mv : Half) (s : State) (s' : State)
    (ht : execInterruptionRiddenThrough mv s = .next s') :
    s.node.Same pt s'.node := by
  have h0 := Node.Same.refl pt s.node
  unfold execInterruptionRiddenThrough at ht
  refine State.upd_only ?_ ht
  repeat' (first | with_reducible assumption | exact Part.off_sub hp rfl | with_reducible apply Node.when_only
                  | with_reducible apply Node.count_only | with_reducible apply Node.raise_only | with_reducible apply Node.seeBatt_only
                  | with_reducible apply Node.interrupted_only | intro _)

theorem execInterruptionWindowExpiry_only {pt : Part}
    (hp : pt.off [.power, .supply, .pins, .book, .trellis, .cellar, .ports, .ina, .host, .outs, .pair, .vault, .out, .fresh, .regs] = true)
    (s : State) (s' : State) (ht : execInterruptionWindowExpiry s = .next s') :
    s.node.Same pt s'.node := by
  have h0 := Node.Same.refl pt s.node
  unfold execInterruptionWindowExpiry at ht
  refine State.upd_only ?_ ht
  repeat' (first | with_reducible assumption | exact Part.off_sub hp rfl | with_reducible apply Node.when_only
                  | with_reducible apply Node.beginShutdown_only | with_reducible apply Node.interrupted_only | intro _)

theorem execHoldupReady_only {pt : Part} (hp : pt.off [.regs] = true) (mv : Half) (s : State) (s' : State) (ht : execHoldupReady mv s = .next s') :
    s.node.Same pt s'.node := by
  have h0 := Node.Same.refl pt s.node
  unfold execHoldupReady at ht
  refine State.upd_only ?_ ht
  repeat' (first | with_reducible assumption | exact Part.off_sub hp rfl | with_reducible apply Node.when_only
                  | with_reducible apply Node.wrBit_only | with_reducible apply Node.seeHoldup_only | intro _)

theorem execHoldupNotReady_only {pt : Part} (hp : pt.off [.regs] = true) (mv : Half) (s : State) (s' : State)
    (ht : execHoldupNotReady mv s = .next s') :
    s.node.Same pt s'.node := by
  have h0 := Node.Same.refl pt s.node
  unfold execHoldupNotReady at ht
  refine State.upd_only ?_ ht
  repeat' (first | with_reducible assumption | exact Part.off_sub hp rfl | with_reducible apply Node.when_only
                  | with_reducible apply Node.wrBit_only | with_reducible apply Node.seeHoldup_only | intro _)

theorem execHoldupReserve_only {pt : Part}
    (hp : pt.off [.power, .supply, .pins, .book, .trellis, .cellar, .ports, .ina, .host, .outs, .pair, .vault, .out, .fresh, .regs] = true)
    (mv : Half) (s : State) (s' : State) (ht : execHoldupReserve mv s = .next s') :
    s.node.Same pt s'.node := by
  have h0 := Node.Same.refl pt s.node
  unfold execHoldupReserve at ht
  refine State.upd_only ?_ ht
  repeat' (first | with_reducible assumption | exact Part.off_sub hp rfl | with_reducible apply Node.when_only
                  | with_reducible apply Node.beginShutdown_only | with_reducible apply Node.seeHoldup_only | intro _)

theorem Node.checkHeat_only {pt : Part} {n0 : Node}
    (hp : pt.off [.power, .supply, .pins, .book, .trellis, .cellar, .ports, .ina, .host, .outs, .pair, .vault, .out, .fresh, .regs] = true)
    (n : Node) (h0 : n0.Same pt n) :
    n0.Same pt (Node.checkHeat n) := by
  unfold Node.checkHeat
  repeat' (first | with_reducible assumption | exact Part.off_sub hp rfl | with_reducible apply Node.when_only
                  | with_reducible apply Node.raise_only | with_reducible apply Node.beginShutdown_only | intro _)

theorem execBaseplate88c_only {pt : Part}
    (hp : pt.off [.power, .supply, .pins, .book, .trellis, .cellar, .ports, .ina, .host, .outs, .pair, .vault, .out, .fresh, .regs] = true)
    (t : Half) (s : State) (s' : State) (ht : execBaseplate88c t s = .next s') :
    s.node.Same pt s'.node := by
  have h0 := Node.Same.refl pt s.node
  unfold execBaseplate88c at ht
  refine State.upd_only ?_ ht
  repeat' (first | with_reducible assumption | exact Part.off_sub hp rfl | with_reducible apply Node.when_only
                  | with_reducible apply Node.raise_only | with_reducible apply Node.seeBase_only | with_reducible apply Node.checkHeat_only
                  | intro _)

theorem execBaseplate95c_only {pt : Part}
    (hp : pt.off [.power, .supply, .pins, .book, .trellis, .cellar, .ports, .ina, .host, .outs, .pair, .vault, .out, .fresh, .regs] = true)
    (t : Half) (s : State) (s' : State) (ht : execBaseplate95c t s = .next s') :
    s.node.Same pt s'.node := by
  have h0 := Node.Same.refl pt s.node
  unfold execBaseplate95c at ht
  refine State.upd_only ?_ ht
  repeat' (first | with_reducible assumption | exact Part.off_sub hp rfl | with_reducible apply Node.when_only
                  | with_reducible apply Node.beginShutdown_only | with_reducible apply Node.seeBase_only
                  | with_reducible apply Node.checkHeat_only | intro _)

theorem Node.seeDie_only {pt : Part} {n0 : Node} (hp : pt.off [.faults, .regs] = true) (n : Node) (sensor : Fin 8) (t : Half) (h0 : n0.Same pt n) :
    n0.Same pt (Node.seeDie n sensor t) := by
  unfold Node.seeDie
  repeat' (first | with_reducible assumption | exact Part.off_sub hp rfl | with_reducible apply Node.when_only
                  | with_reducible apply Node.wr_only | with_reducible apply Node.dropFault_only | intro _)

theorem execDieTempHigh_only {pt : Part} (hp : pt.off [.faults, .book, .host, .regs] = true) (sensor : Fin 8) (t : Half) (from115 : Bool)
    (s : State) (s' : State) (ht : execDieTempHigh sensor t from115 s = .next s') :
    s.node.Same pt s'.node := by
  have h0 := Node.Same.refl pt s.node
  unfold execDieTempHigh at ht
  refine State.upd_only ?_ ht
  repeat' (first | with_reducible assumption | exact Part.off_sub hp rfl | with_reducible apply Node.when_only
                  | with_reducible apply Node.addFault_only | with_reducible apply Node.raise_only | with_reducible apply Node.seeDie_only
                  | intro _)

theorem execDieTempNormal_only {pt : Part} (hp : pt.off [.faults, .regs] = true) (sensor : Fin 8) (t : Half) (s : State) (s' : State)
    (ht : execDieTempNormal sensor t s = .next s') :
    s.node.Same pt s'.node := by
  have h0 := Node.Same.refl pt s.node
  unfold execDieTempNormal at ht
  refine State.upd_only ?_ ht
  repeat' (first | with_reducible assumption | exact Part.off_sub hp rfl | with_reducible apply Node.when_only
                  | with_reducible apply Node.wr_only | with_reducible apply Node.dropFault_only | intro _)

theorem execRailExcursion_only {pt : Part} (hp : pt.off [.faults, .book, .host, .regs] = true) (rail : Fin 12) (mv : Half) (high : Bool) (s : State)
    (s' : State) (ht : execRailExcursion rail mv high s = .next s') :
    s.node.Same pt s'.node := by
  have h0 := Node.Same.refl pt s.node
  unfold execRailExcursion at ht
  refine State.upd_only ?_ ht
  repeat' (first | with_reducible assumption | exact Part.off_sub hp rfl | with_reducible apply Node.when_only
                  | with_reducible apply Node.wr_only | with_reducible apply Node.wrBit_only | with_reducible apply Node.count_only
                  | with_reducible apply Node.addFault_only | with_reducible apply Node.raise_only | intro _)

theorem execRailRecovered_only {pt : Part} (hp : pt.off [.faults, .regs] = true) (rail : Fin 12) (mv : Half) (s : State) (s' : State)
    (ht : execRailRecovered rail mv s = .next s') :
    s.node.Same pt s'.node := by
  have h0 := Node.Same.refl pt s.node
  unfold execRailRecovered at ht
  refine State.upd_only ?_ ht
  repeat' (first | with_reducible assumption | exact Part.off_sub hp rfl | with_reducible apply Node.when_only
                  | with_reducible apply Node.wr_only | with_reducible apply Node.wrBit_only | with_reducible apply Node.dropFault_only | intro _)

theorem Node.trialLost_only {pt : Part} {n0 : Node} (hp : pt.off [.book, .host, .vault, .regs] = true) (n : Node) (h0 : n0.Same pt n) :
    n0.Same pt (Node.trialLost n) := by
  unfold Node.trialLost
  repeat' (first | with_reducible assumption | exact Part.off_sub hp rfl | with_reducible apply Node.wr_only
                  | with_reducible apply Node.count_only | with_reducible apply Node.raise_only | with_reducible apply Node.setSlot_only | intro _
                  | split | dsimp -proj only | with_reducible apply with_vault_only)

theorem Node.startIslands_only {pt : Part} {n0 : Node}
    (hp : pt.off [.power, .supply, .pins, .commits, .mc, .faults, .runs, .hiLatch, .winLatch, .timeLatch, .book, .trellis, .cellar, .ports,
        .ina, .flows, .sessions, .mdStarted, .presses, .images, .cans, .lineUnits, .blend, .time, .host, .outs, .pair, .vnt, .vault, .maint, .regs,
        .shadow, .force, .ram] = true) (n : Node) (pcie : Bool) (h0 : n0.Same pt n) :
    n0.Same pt (Node.startIslands n pcie) := by
  unfold Node.startIslands
  repeat' (first | with_reducible assumption | exact Part.off_sub hp rfl | with_reducible apply Node.setIslands_only
                  | with_reducible apply Node.startMeasures_only | with_reducible apply Node.updateBypass_only
                  | with_reducible apply Node.timeRestart_only | with_reducible apply Node.cold_only | intro _ | split | dsimp -proj only
                  | with_reducible apply with_power_only | with_reducible apply with_supply_only | with_reducible apply with_power_supply_only)

theorem execPowerGood_only {pt : Part}
    (hp : pt.off [.power, .supply, .pins, .commits, .mc, .faults, .runs, .hiLatch, .winLatch, .timeLatch, .book, .trellis, .cellar, .ports,
        .ina, .flows, .sessions, .mdStarted, .presses, .images, .cans, .lineUnits, .blend, .time, .host, .outs, .pair, .vnt, .vault, .maint, .out,
        .fresh, .regs, .shadow, .force, .ram] = true) (hostSelHigh : Bool) (baseplate : Half) (s : State) (s' : State) (ht : execPowerGood
        hostSelHigh baseplate s = .next s') :
    s.node.Same pt s'.node := by
  have h0 := Node.Same.refl pt s.node
  unfold execPowerGood at ht
  refine State.upd_only ?_ ht
  repeat' (first | with_reducible assumption | exact Part.off_sub hp rfl | with_reducible apply Node.when_only
                  | with_reducible apply Node.raise_only | with_reducible apply Node.seeBase_only | with_reducible apply Node.checkHeat_only
                  | with_reducible apply Node.trialLost_only | with_reducible apply Node.startIslands_only | intro _)

theorem execHostBridgeRelease_only {pt : Part} (hp : pt.off [.trellis, .host, .regs] = true) (s : State) (s' : State)
    (ht : execHostBridgeRelease s = .next s') :
    s.node.Same pt s'.node := by
  have h0 := Node.Same.refl pt s.node
  unfold execHostBridgeRelease at ht
  refine State.upd_only ?_ ht
  repeat' (first | with_reducible assumption | exact Part.off_sub hp rfl | with_reducible apply Node.when_only
                  | with_reducible apply Node.wr_only | with_reducible apply Node.releaseBridge_only | intro _)

theorem Node.writeCopy_only {pt : Part} {n0 : Node} (hp : pt.off [.book, .host, .vnt, .regs] = true) (n : Node) (toA ok : Bool) (p : Persist)
    (h0 : n0.Same pt n) :
    n0.Same pt (Node.writeCopy n toA ok p) := by
  unfold Node.writeCopy
  repeat' (first | with_reducible assumption | exact Part.off_sub hp rfl | with_reducible apply Node.when_only
                  | with_reducible apply Node.raise_only | intro _ | split | dsimp -proj only | with_reducible apply with_vnt_only)

theorem Node.storeKept_only {pt : Part} {n0 : Node}
    (hp : pt.off [.runs, .book, .cellar, .ina, .sessions, .presses, .host, .vnt, .out, .regs, .ram] = true) (n : Node) (p : Persist)
    (h0 : n0.Same pt n) :
    n0.Same pt (Node.storeKept n p) := by
  unfold Node.storeKept
  repeat' (first | with_reducible assumption | exact Part.off_sub hp rfl | with_reducible apply Node.each_only
                  | with_reducible apply Node.wrBit_only | with_reducible apply Node.setAsk_only | with_reducible apply Node.odEnd_only | intro _
                  | split | dsimp -proj only | with_reducible apply with_vnt_only)

theorem Node.storeLost_only {pt : Part} {n0 : Node}
    (hp : pt.off [.runs, .book, .cellar, .ina, .sessions, .presses, .host, .vnt, .out, .regs, .ram] = true) (n : Node) (h0 : n0.Same pt n) :
    n0.Same pt (Node.storeLost n) := by
  unfold Node.storeLost
  repeat' (first | with_reducible assumption | exact Part.off_sub hp rfl | with_reducible apply Node.each_only
                  | with_reducible apply Node.setAsk_only | with_reducible apply Node.odEnd_only | intro _ | split | dsimp -proj only
                  | with_reducible apply with_vnt_only)

theorem execPersistentStoreWrite_only {pt : Part}
    (hp : pt.off [.runs, .book, .cellar, .ina, .sessions, .presses, .host, .vnt, .out, .regs, .ram] = true) (copyAOk copyBOk : Bool) (s : State)
    (s' : State) (ht : execPersistentStoreWrite copyAOk copyBOk s = .next s') :
    s.node.Same pt s'.node := by
  have h0 := Node.Same.refl pt s.node
  unfold execPersistentStoreWrite at ht
  refine State.upd_only ?_ ht
  repeat' (first | with_reducible assumption | exact Part.off_sub hp rfl | with_reducible apply Node.when_only
                  | with_reducible apply Node.writeCopy_only | with_reducible apply Node.storeKept_only | with_reducible apply Node.storeLost_only
                  | intro _ | split | dsimp -proj only)

theorem Node.dormAccept_only {pt : Part} {n0 : Node} (hp : pt.off [.power, .supply, .regs] = true) (n : Node) (h0 : n0.Same pt n) :
    n0.Same pt (Node.dormAccept n) := by
  unfold Node.dormAccept
  repeat' (first | with_reducible assumption | exact Part.off_sub hp rfl | with_reducible apply Node.wr_only | intro _ | split
                  | dsimp -proj only | with_reducible apply with_power_only | with_reducible apply with_supply_only
                  | with_reducible apply with_power_supply_only)

theorem Node.dormRequest_only {pt : Part} {n0 : Node} (hp : pt.off [.power, .supply, .book, .host, .out, .regs] = true) (n : Node)
    (h0 : n0.Same pt n) :
    n0.Same pt (Node.dormRequest n) := by
  unfold Node.dormRequest
  repeat' (first | with_reducible assumption | exact Part.off_sub hp rfl | with_reducible apply Node.when_only
                  | with_reducible apply Node.wr_only | with_reducible apply Node.count_only | with_reducible apply Node.emit_only
                  | with_reducible apply Node.raise_only | with_reducible apply Node.dormAccept_only | intro _ | split)

theorem execDormCtrlEnter_only {pt : Part} (hp : pt.off [.power, .supply, .book, .host, .out, .regs] = true) (s : State) (s' : State)
    (ht : execDormCtrlEnter s = .next s') :
    s.node.Same pt s'.node := by
  have h0 := Node.Same.refl pt s.node
  unfold execDormCtrlEnter at ht
  refine State.upd_only ?_ ht
  repeat' (first | with_reducible assumption | exact Part.off_sub hp rfl | with_reducible apply Node.when_only
                  | with_reducible apply Node.dormRequest_only)

theorem Node.dormGo_only {pt : Part} {n0 : Node} (hp : pt.off [.supply] = true) (n : Node) (k : Nat) (h0 : n0.Same pt n) :
    n0.Same pt (Node.dormGo n k) := by
  unfold Node.dormGo
  repeat' (first | with_reducible assumption | exact Part.off_sub hp rfl | intro _ | split | dsimp -proj only
                  | with_reducible apply with_supply_only)

theorem execDormancyEntryStart_only {pt : Part} (hp : pt.off [.supply, .book, .trellis, .host, .outs, .fresh, .regs] = true) (s : State)
    (s' : State) (ht : execDormancyEntryStart s = .next s') :
    s.node.Same pt s'.node := by
  have h0 := Node.Same.refl pt s.node
  unfold execDormancyEntryStart at ht
  refine State.upd_only ?_ ht
  repeat' (first | with_reducible assumption | exact Part.off_sub hp rfl | with_reducible apply Node.when_only
                  | with_reducible apply Node.channelsCut_only | with_reducible apply Node.stopTrellis_only
                  | with_reducible apply Node.dormGo_only | intro _)

theorem execDormancyRecordFlush_only {pt : Part} (hp : pt.off [.supply, .book, .host, .vault, .regs] = true) (s : State) (s' : State)
    (ht : execDormancyRecordFlush s = .next s') :
    s.node.Same pt s'.node := by
  have h0 := Node.Same.refl pt s.node
  unfold execDormancyRecordFlush at ht
  refine State.upd_only ?_ ht
  repeat' (first | with_reducible assumption | exact Part.off_sub hp rfl | with_reducible apply Node.when_only
                  | with_reducible apply Node.raise_only | with_reducible apply Node.dropSession_only | with_reducible apply Node.flushReady_only
                  | with_reducible apply Node.dormGo_only | intro _)

theorem execDormancyBypassRelease_only {pt : Part} (hp : pt.off [.supply, .book, .cellar, .ports, .host, .regs] = true) (s : State) (s' : State)
    (ht : execDormancyBypassRelease s = .next s') :
    s.node.Same pt s'.node := by
  have h0 := Node.Same.refl pt s.node
  unfold execDormancyBypassRelease at ht
  refine State.upd_only ?_ ht
  repeat' (first | with_reducible assumption | exact Part.off_sub hp rfl | with_reducible apply Node.when_only
                  | with_reducible apply Node.updateBypass_only | with_reducible apply Node.dormGo_only | intro _)

theorem execDormancyPointOfNoReturn_only {pt : Part} (hp : pt.off [.supply, .pins, .regs] = true) (s : State) (s' : State)
    (ht : execDormancyPointOfNoReturn s = .next s') :
    s.node.Same pt s'.node := by
  have h0 := Node.Same.refl pt s.node
  unfold execDormancyPointOfNoReturn at ht
  refine State.upd_only ?_ ht
  repeat' (first | with_reducible assumption | exact Part.off_sub hp rfl | with_reducible apply Node.when_only
                  | with_reducible apply Node.setHold_only | with_reducible apply Node.dormGo_only | intro _ | split | dsimp -proj only
                  | with_reducible apply with_supply_only)

theorem Node.startWake_only {pt : Part} {n0 : Node}
    (hp : pt.off [.power, .supply, .pins, .commits, .mc, .faults, .runs, .hiLatch, .winLatch, .timeLatch, .book, .trellis, .cellar, .ports,
        .ina, .flows, .sessions, .mdStarted, .presses, .images, .cans, .lineUnits, .blend, .time, .host, .outs, .pair, .vnt, .vault, .maint, .regs,
        .shadow, .force, .ram] = true) (n : Node) (source : Nat) (h0 : n0.Same pt n) :
    n0.Same pt (Node.startWake n source) := by
  unfold Node.startWake
  repeat' (first | with_reducible assumption | exact Part.off_sub hp rfl | with_reducible apply Node.each_only
                  | with_reducible apply Node.putWord_only | with_reducible apply Node.wr_only | with_reducible apply Node.wrBit_only
                  | with_reducible apply Node.startIslands_only | intro _ | split | dsimp -proj only | with_reducible apply with_supply_only
                  | with_reducible apply with_faults_only | with_reducible apply with_supply_faults_only)

theorem Node.abortEntry_only {pt : Part} {n0 : Node} (hp : pt.off [.supply, .book, .host, .regs] = true) (n : Node) (h0 : n0.Same pt n) :
    n0.Same pt (Node.abortEntry n) := by
  unfold Node.abortEntry
  repeat' (first | with_reducible assumption | exact Part.off_sub hp rfl | with_reducible apply Node.wr_only
                  | with_reducible apply Node.raise_only | intro _ | split | dsimp -proj only | with_reducible apply with_supply_only)

theorem Node.wakeInEntry_only {pt : Part} {n0 : Node} (hp : pt.off [.supply, .book, .host, .out, .regs] = true) (n : Node) (source mv : Nat)
    (h0 : n0.Same pt n) :
    n0.Same pt (Node.wakeInEntry n source mv) := by
  unfold Node.wakeInEntry
  repeat' (first | with_reducible assumption | exact Part.off_sub hp rfl | with_reducible apply Node.when_only
                  | with_reducible apply Node.emit_only | with_reducible apply Node.abortEntry_only | intro _ | split | dsimp -proj only
                  | with_reducible apply with_supply_only)

theorem Node.wakeInDormancy_only {pt : Part} {n0 : Node}
    (hp : pt.off [.power, .supply, .pins, .commits, .mc, .faults, .runs, .hiLatch, .winLatch, .timeLatch, .book, .trellis, .cellar, .ports,
        .ina, .flows, .sessions, .mdStarted, .presses, .images, .cans, .lineUnits, .blend, .time, .host, .outs, .pair, .vnt, .vault, .maint, .regs,
        .shadow, .force, .ram] = true) (n : Node) (source mv : Nat) (h0 : n0.Same pt n) :
    n0.Same pt (Node.wakeInDormancy n source mv) := by
  unfold Node.wakeInDormancy
  repeat' (first | with_reducible assumption | exact Part.off_sub hp rfl | with_reducible apply Node.when_only
                  | with_reducible apply Node.startWake_only | intro _ | split | dsimp -proj only | with_reducible apply with_supply_only)

theorem execWakeInAssert_only {pt : Part}
    (hp : pt.off [.power, .supply, .pins, .commits, .mc, .faults, .runs, .hiLatch, .winLatch, .timeLatch, .book, .trellis, .cellar, .ports,
        .ina, .flows, .sessions, .mdStarted, .presses, .images, .cans, .lineUnits, .blend, .time, .host, .outs, .pair, .vnt, .vault, .maint, .out,
        .regs, .shadow, .force, .ram] = true) (vbattMv : Nat) (s : State) (s' : State) (ht : execWakeInAssert vbattMv s = .next s') :
    s.node.Same pt s'.node := by
  have h0 := Node.Same.refl pt s.node
  unfold execWakeInAssert at ht
  refine State.upd_only ?_ ht
  repeat' (first | with_reducible assumption | exact Part.off_sub hp rfl | with_reducible apply Node.when_only
                  | with_reducible apply Node.freeHeat_only | with_reducible apply Node.wakeInEntry_only
                  | with_reducible apply Node.wakeInDormancy_only | intro _ | split)

theorem execWakePatternMatch_only {pt : Part}
    (hp : pt.off [.power, .supply, .pins, .commits, .mc, .faults, .runs, .hiLatch, .winLatch, .timeLatch, .book, .trellis, .cellar, .ports,
        .ina, .flows, .sessions, .mdStarted, .presses, .images, .cans, .lineUnits, .blend, .time, .host, .outs, .pair, .vnt, .vault, .maint, .out,
        .regs, .shadow, .force, .ram] = true) (port : Fin 4) (samples : List Bool) (vbattMv : Nat) (s : State) (s' : State) (ht :
        execWakePatternMatch port samples vbattMv s = .next s') :
    s.node.Same pt s'.node := by
  have h0 := Node.Same.refl pt s.node
  unfold execWakePatternMatch at ht
  refine State.upd_only ?_ ht
  repeat' (first | with_reducible assumption | exact Part.off_sub hp rfl | with_reducible apply Node.when_only
                  | with_reducible apply Node.wakeInEntry_only | with_reducible apply Node.wakeInDormancy_only | intro _ | split)

theorem Node.wakeNow_only {pt : Part} {n0 : Node}
    (hp : pt.off [.power, .supply, .pins, .commits, .mc, .faults, .runs, .hiLatch, .winLatch, .timeLatch, .book, .trellis, .cellar, .ports,
        .ina, .flows, .sessions, .mdStarted, .presses, .images, .cans, .lineUnits, .blend, .time, .host, .outs, .pair, .vnt, .vault, .maint, .regs,
        .shadow, .force, .ram] = true) (n : Node) (h0 : n0.Same pt n) :
    n0.Same pt (Node.wakeNow n) := by
  unfold Node.wakeNow
  repeat' (first | with_reducible assumption | exact Part.off_sub hp rfl | with_reducible apply Node.when_only
                  | with_reducible apply Node.startWake_only | intro _ | split)

theorem execDormancyReached_only {pt : Part}
    (hp : pt.off [.power, .supply, .pins, .commits, .mc, .faults, .runs, .hiLatch, .winLatch, .timeLatch, .book, .trellis, .cellar, .ports,
        .ina, .flows, .sessions, .mdStarted, .presses, .images, .cans, .lineUnits, .blend, .time, .host, .outs, .pair, .vnt, .vault, .maint, .regs,
        .shadow, .force, .ram] = true) (s : State) (s' : State) (ht : execDormancyReached s = .next s') :
    s.node.Same pt s'.node := by
  have h0 := Node.Same.refl pt s.node
  unfold execDormancyReached at ht
  refine State.upd_only ?_ ht
  repeat' (first | with_reducible assumption | exact Part.off_sub hp rfl | with_reducible apply Node.when_only
                  | with_reducible apply Node.cold_only | with_reducible apply Node.wakeNow_only | intro _ | split | dsimp -proj only
                  | with_reducible apply with_power_only | with_reducible apply with_supply_only | with_reducible apply with_faults_only
                  | with_reducible apply with_power_supply_faults_only)

theorem execWakeSupplyGood_only {pt : Part}
    (hp : pt.off [.power, .supply, .pins, .commits, .mc, .faults, .runs, .hiLatch, .winLatch, .timeLatch, .book, .trellis, .cellar, .ports,
        .ina, .flows, .sessions, .mdStarted, .presses, .images, .cans, .lineUnits, .blend, .time, .host, .outs, .pair, .vnt, .vault, .maint, .regs,
        .shadow, .force, .ram] = true) (s : State) (s' : State) (ht : execWakeSupplyGood s = .next s') :
    s.node.Same pt s'.node := by
  have h0 := Node.Same.refl pt s.node
  unfold execWakeSupplyGood at ht
  refine State.upd_only ?_ ht
  repeat' (first | with_reducible assumption | exact Part.off_sub hp rfl | with_reducible apply Node.when_only
                  | with_reducible apply Node.wakeNow_only | intro _ | split | dsimp -proj only | with_reducible apply with_supply_only)

theorem execDormancyLost_only {pt : Part}
    (hp : pt.off [.power, .supply, .pins, .commits, .mc, .faults, .runs, .hiLatch, .winLatch, .timeLatch, .book, .trellis, .cellar, .ports,
        .ina, .flows, .sessions, .mdStarted, .presses, .images, .cans, .lineUnits, .blend, .time, .host, .outs, .pair, .vnt, .vault, .maint, .regs,
        .shadow, .force, .ram] = true) (s : State) (s' : State) (ht : execDormancyLost s = .next s') :
    s.node.Same pt s'.node := by
  have h0 := Node.Same.refl pt s.node
  unfold execDormancyLost at ht
  refine State.upd_only ?_ ht
  repeat' (first | with_reducible assumption | exact Part.off_sub hp rfl | with_reducible apply Node.when_only
                  | with_reducible apply Node.cold_only)

theorem execRackControlWord_only {pt : Part}
    (hp : pt.off [.power, .supply, .pins, .book, .trellis, .cellar, .ports, .ina, .host, .pair, .out, .regs, .shadow] = true) (word : RackControl)
    (s : State) (s' : State) (ht : execRackControlWord word s = .next s') :
    s.node.Same pt s'.node := by
  have h0 := Node.Same.refl pt s.node
  unfold execRackControlWord at ht
  refine State.upd_only ?_ ht
  repeat' (first | with_reducible assumption | exact Part.off_sub hp rfl | with_reducible apply Node.when_only
                  | with_reducible apply Node.controlWord_only | with_reducible apply Node.dormAccept_only
                  | with_reducible apply Node.abortEntry_only | intro _ | split)

theorem Node.trialFirmware_only {pt : Part} {n0 : Node} (hp : pt.off [.vault, .ram] = true) (n : Node) (k : Nat) (h0 : n0.Same pt n) :
    n0.Same pt (Node.trialFirmware n k) := by
  unfold Node.trialFirmware
  repeat' (first | with_reducible assumption | exact Part.off_sub hp rfl | with_reducible apply Node.when_only
                  | with_reducible apply Node.putBytes_only | intro _ | split | dsimp -proj only | with_reducible apply with_vault_only)

theorem Node.activateSlot_only {pt : Part} {n0 : Node}
    (hp : pt.off [.power, .supply, .pins, .commits, .mc, .faults, .runs, .hiLatch, .winLatch, .timeLatch, .book, .trellis, .cellar, .ports,
        .ina, .flows, .sessions, .mdStarted, .presses, .images, .cans, .lineUnits, .blend, .time, .host, .outs, .pair, .vnt, .vault, .maint, .out,
        .regs, .shadow, .force, .ram] = true) (n : Node) (k : Nat) (h0 : n0.Same pt n) :
    n0.Same pt (Node.activateSlot n k) := by
  unfold Node.activateSlot
  repeat' (first | with_reducible assumption | exact Part.off_sub hp rfl | with_reducible apply Node.when_only
                  | with_reducible apply Node.raise_only | with_reducible apply Node.setSlot_only | with_reducible apply Node.lastErr_only
                  | with_reducible apply Node.warmReset_only | with_reducible apply Node.trialFirmware_only | intro _ | split)

theorem execUpdActivate_only {pt : Part}
    (hp : pt.off [.power, .supply, .pins, .commits, .mc, .faults, .runs, .hiLatch, .winLatch, .timeLatch, .book, .trellis, .cellar, .ports,
        .ina, .flows, .sessions, .mdStarted, .presses, .images, .cans, .lineUnits, .blend, .time, .host, .outs, .pair, .vnt, .vault, .maint, .out,
        .regs, .shadow, .force, .ram] = true) (path : Path) (key : Half) (slotB : Bool) (s : State) (s' : State) (ht : execUpdActivate path key
        slotB s = .next s') :
    s.node.Same pt s'.node := by
  have h0 := Node.Same.refl pt s.node
  unfold execUpdActivate at ht
  refine State.upd_only ?_ ht
  repeat' (first | with_reducible assumption | exact Part.off_sub hp rfl | with_reducible apply Node.when_only
                  | with_reducible apply Node.updStep_only | with_reducible apply Node.activateSlot_only | intro _ | split | dsimp -proj only
                  | (cases pt <;> first | exact absurd hp (by decide) | assumption))

theorem Node.checkOld_only {pt : Part} {n0 : Node} (hp : pt.off [.regs] = true) (n : Node) (k : Nat) (h0 : n0.Same pt n) :
    n0.Same pt (Node.checkOld n k) := by
  unfold Node.checkOld
  repeat' (first | with_reducible assumption | exact Part.off_sub hp rfl | with_reducible apply Node.when_only
                  | with_reducible apply Node.setSlot_only | with_reducible apply Node.lastErr_only | intro _)

theorem Node.confirmTrial_only {pt : Part} {n0 : Node} (hp : pt.off [.book, .host, .vault, .regs] = true) (n : Node) (h0 : n0.Same pt n) :
    n0.Same pt (Node.confirmTrial n) := by
  unfold Node.confirmTrial
  repeat' (first | with_reducible assumption | exact Part.off_sub hp rfl | with_reducible apply Node.when_only
                  | with_reducible apply Node.each_only | with_reducible apply Node.wr_only | with_reducible apply Node.raise_only
                  | with_reducible apply Node.raiseCounter_only | with_reducible apply Node.setSlot_only | with_reducible apply Node.checkOld_only
                  | intro _ | split | dsimp -proj only | with_reducible apply with_vault_only)

theorem execUpdConfirm_only {pt : Part}
    (hp : pt.off [.runs, .book, .cellar, .ina, .sessions, .presses, .host, .vnt, .vault, .out, .regs, .ram] = true) (path : Path) (key : Half)
    (_slotB : Bool) (s : State) (s' : State) (ht : execUpdConfirm path key _slotB s = .next s') :
    s.node.Same pt s'.node := by
  have h0 := Node.Same.refl pt s.node
  unfold execUpdConfirm at ht
  refine State.upd_only ?_ ht
  repeat' (first | with_reducible assumption | exact Part.off_sub hp rfl | with_reducible apply Node.when_only
                  | with_reducible apply Node.updStep_only | with_reducible apply Node.confirmTrial_only | intro _)

theorem execTrialTimerExpiry_only {pt : Part}
    (hp : pt.off [.power, .supply, .pins, .commits, .mc, .faults, .runs, .hiLatch, .winLatch, .timeLatch, .book, .trellis, .cellar, .ports,
        .ina, .flows, .sessions, .mdStarted, .presses, .images, .cans, .lineUnits, .blend, .time, .host, .outs, .pair, .vnt, .vault, .maint, .out,
        .regs, .shadow, .force, .ram] = true) (s : State) (s' : State) (ht : execTrialTimerExpiry s = .next s') :
    s.node.Same pt s'.node := by
  have h0 := Node.Same.refl pt s.node
  unfold execTrialTimerExpiry at ht
  refine State.upd_only ?_ ht
  repeat' (first | with_reducible assumption | exact Part.off_sub hp rfl | with_reducible apply Node.when_only
                  | with_reducible apply Node.fallBack_only | intro _)

theorem Node.trialPress_only {pt : Part} {n0 : Node}
    (hp : pt.off [.power, .supply, .pins, .commits, .mc, .faults, .runs, .hiLatch, .winLatch, .timeLatch, .book, .trellis, .cellar, .ports,
        .ina, .flows, .sessions, .mdStarted, .presses, .images, .cans, .lineUnits, .blend, .time, .host, .outs, .pair, .vnt, .vault, .maint, .out,
        .regs, .shadow, .force, .ram] = true) (n : Node) (p : Nat) (h0 : n0.Same pt n) :
    n0.Same pt (Node.trialPress n p) := by
  unfold Node.trialPress
  repeat' (first | with_reducible assumption | exact Part.off_sub hp rfl | with_reducible apply Node.when_only
                  | with_reducible apply Node.fallBack_only | intro _)

theorem execPressFault_only {pt : Part}
    (hp : pt.off [.power, .supply, .pins, .commits, .mc, .faults, .runs, .hiLatch, .winLatch, .timeLatch, .book, .trellis, .cellar, .ports,
        .ina, .flows, .sessions, .mdStarted, .presses, .images, .cans, .lineUnits, .blend, .time, .host, .outs, .pair, .vnt, .vault, .maint, .out,
        .fresh, .regs, .shadow, .force, .ram] = true) (press : Fin 16) (cause : PressFaultCause) (lateNs : Nat) (s : State) (s' : State) (ht :
        execPressFault press cause lateNs s = .next s') :
    s.node.Same pt s'.node := by
  have h0 := Node.Same.refl pt s.node
  unfold execPressFault at ht
  refine State.upd_only ?_ ht
  repeat' (first | with_reducible assumption | exact Part.off_sub hp rfl | with_reducible apply Node.when_only
                  | with_reducible apply Node.count_only | with_reducible apply Node.took_only | with_reducible apply Node.loadWaiting_only
                  | with_reducible apply Node.selfTestFails_only | with_reducible apply Node.verifyFails_only
                  | with_reducible apply Node.pressFault_only | with_reducible apply Node.trialPress_only | intro _ | split | dsimp -proj only)

theorem execPressCycleWatchdog_only {pt : Part}
    (hp : pt.off [.power, .supply, .pins, .commits, .mc, .faults, .runs, .hiLatch, .winLatch, .timeLatch, .book, .trellis, .cellar, .ports,
        .ina, .flows, .sessions, .mdStarted, .presses, .images, .cans, .lineUnits, .blend, .time, .host, .outs, .pair, .vnt, .vault, .maint, .out,
        .regs, .shadow, .force, .ram] = true) (press : Fin 16) (lateNs : Nat) (s : State) (s' : State) (ht : execPressCycleWatchdog press lateNs s =
        .next s') :
    s.node.Same pt s'.node := by
  have h0 := Node.Same.refl pt s.node
  unfold execPressCycleWatchdog at ht
  refine State.upd_only ?_ ht
  repeat' (first | with_reducible assumption | exact Part.off_sub hp rfl | with_reducible apply Node.when_only
                  | with_reducible apply Node.pressFault_only | with_reducible apply Node.trialPress_only | intro _)

theorem Node.mstopEnter_only {pt : Part} {n0 : Node} (hp : pt.off [.book, .host, .maint, .regs] = true) (n : Node) (h0 : n0.Same pt n) :
    n0.Same pt (Node.mstopEnter n) := by
  unfold Node.mstopEnter
  repeat' (first | with_reducible assumption | exact Part.off_sub hp rfl | with_reducible apply Node.when_only
                  | with_reducible apply Node.wr_only | with_reducible apply Node.raise_only | intro _ | split | dsimp -proj only
                  | with_reducible apply with_maint_only)

theorem execMstopCmdEnter_only {pt : Part} (hp : pt.off [.book, .blend, .host, .maint, .regs] = true) (by_ : Initiator) (key : Half) (s : State)
    (s' : State) (ht : execMstopCmdEnter by_ key s = .next s') :
    s.node.Same pt s'.node := by
  have h0 := Node.Same.refl pt s.node
  unfold execMstopCmdEnter at ht
  refine State.upd_only ?_ ht
  repeat' (first | with_reducible assumption | exact Part.off_sub hp rfl | with_reducible apply Node.when_only
                  | with_reducible apply Node.access_only | with_reducible apply Node.mstopEnter_only | intro _)

theorem Node.stopTopology_only {pt : Part} {n0 : Node} (hp : pt.off [.book, .cellar, .ina, .host, .regs] = true) (n : Node) (h0 : n0.Same pt n) :
    n0.Same pt (Node.stopTopology n) := by
  unfold Node.stopTopology
  repeat' (first | with_reducible assumption | exact Part.off_sub hp rfl | with_reducible apply Node.when_only
                  | with_reducible apply Node.raise_only | with_reducible apply Node.setCode_only | with_reducible apply Node.refused_only
                  | with_reducible apply Node.freeLees_only | with_reducible apply Node.endSpec_only | intro _ | split | dsimp -proj only
                  | with_reducible apply with_ina_only)

theorem execMstopEntry_only {pt : Part}
    (hp : pt.off [.commits, .mc, .faults, .runs, .book, .trellis, .cellar, .ports, .ina, .sessions, .presses, .cans, .lineUnits, .host, .vnt,
        .maint, .out, .regs, .shadow, .ram] = true) (s : State) (s' : State) (ht : execMstopEntry s = .next s') :
    s.node.Same pt s'.node := by
  have h0 := Node.Same.refl pt s.node
  unfold execMstopEntry at ht
  refine State.upd_only ?_ ht
  repeat' (first | with_reducible assumption | exact Part.off_sub hp rfl | with_reducible apply Node.when_only
                  | with_reducible apply Node.each_only | with_reducible apply Node.wr_only | with_reducible apply Node.wrBit_only
                  | with_reducible apply Node.raise_only | with_reducible apply Node.updateBypass_only | with_reducible apply Node.stopPress_only
                  | with_reducible apply Node.refuseAll_only | with_reducible apply Node.stopTrellis_only
                  | with_reducible apply Node.stopTopology_only | intro _ | split | dsimp -proj only | with_reducible apply with_maint_only)

theorem Node.wipe_only {pt : Part} {n0 : Node} (hp : pt.off [.cellar, .presses, .regs, .shadow, .force, .ram] = true) (n : Node) (h0 : n0.Same
    pt n) :
    n0.Same pt (Node.wipe n) := by
  unfold Node.wipe
  repeat' (first | with_reducible assumption | exact Part.off_sub hp rfl | with_reducible apply Node.each_only
                  | with_reducible apply Node.resetWords_only | with_reducible apply Node.resetConfig_only
                  | with_reducible apply Node.keepBytes_only | with_reducible apply Node.setPress_only | intro _ | split | dsimp -proj only
                  | with_reducible apply with_cellar_only)

theorem Node.cellarResult_only {pt : Part} {n0 : Node} (hp : pt.off [.faults, .book, .cellar, .host, .maint, .regs] = true) (n : Node) (ok : Bool)
    (bad : List Nat) (h0 : n0.Same pt n) :
    n0.Same pt (Node.cellarResult n ok bad) := by
  unfold Node.cellarResult
  repeat' (first | with_reducible assumption | exact Part.off_sub hp rfl | with_reducible apply Node.when_only
                  | with_reducible apply Node.wr_only | with_reducible apply Node.addFault_only | with_reducible apply Node.dropFault_only
                  | with_reducible apply Node.raise_only | intro _ | split | dsimp -proj only | with_reducible apply with_cellar_only
                  | with_reducible apply with_maint_only | with_reducible apply with_cellar_maint_only)

theorem execMstopMemtestDone_only {pt : Part} (hp : pt.off [.faults, .book, .cellar, .presses, .host, .maint, .regs, .shadow, .force, .ram] = true)
    (failed : List (Fin 16 × Nat)) (badCasks : List Nat) (s : State) (s' : State) (ht : execMstopMemtestDone failed badCasks s = .next s') :
    s.node.Same pt s'.node := by
  have h0 := Node.Same.refl pt s.node
  unfold execMstopMemtestDone at ht
  refine State.upd_only ?_ ht
  repeat' (first | with_reducible assumption | exact Part.off_sub hp rfl | with_reducible apply Node.when_only
                  | with_reducible apply Node.each_only | with_reducible apply Node.wr_only | with_reducible apply Node.raise_only
                  | with_reducible apply Node.wipe_only | with_reducible apply Node.cellarResult_only | with_reducible apply foldl_only
                  | with_reducible apply foldlPair_only | intro _)

theorem Node.mstopExit_only {pt : Part} {n0 : Node}
    (hp : pt.off [.power, .supply, .pins, .commits, .mc, .faults, .runs, .hiLatch, .winLatch, .timeLatch, .book, .trellis, .cellar, .ports,
        .ina, .flows, .sessions, .mdStarted, .presses, .images, .cans, .lineUnits, .blend, .time, .host, .outs, .pair, .vnt, .vault, .maint, .out,
        .regs, .shadow, .force, .ram] = true) (n : Node) (h0 : n0.Same pt n) :
    n0.Same pt (Node.mstopExit n) := by
  unfold Node.mstopExit
  repeat' (first | with_reducible assumption | exact Part.off_sub hp rfl | with_reducible apply Node.when_only
                  | with_reducible apply Node.warmReset_only | intro _)

theorem execMstopCmdExit_only {pt : Part}
    (hp : pt.off [.power, .supply, .pins, .commits, .mc, .faults, .runs, .hiLatch, .winLatch, .timeLatch, .book, .trellis, .cellar, .ports,
        .ina, .flows, .sessions, .mdStarted, .presses, .images, .cans, .lineUnits, .blend, .time, .host, .outs, .pair, .vnt, .vault, .maint, .out,
        .regs, .shadow, .force, .ram] = true) (by_ : Initiator) (key : Half) (s : State) (s' : State) (ht : execMstopCmdExit by_ key s = .next s') :
    s.node.Same pt s'.node := by
  have h0 := Node.Same.refl pt s.node
  unfold execMstopCmdExit at ht
  refine State.upd_only ?_ ht
  repeat' (first | with_reducible assumption | exact Part.off_sub hp rfl | with_reducible apply Node.when_only
                  | with_reducible apply Node.access_only | with_reducible apply Node.mstopExit_only | intro _)

theorem Node.loopGo_only {pt : Part} {n0 : Node} (hp : pt.off [.book, .trellis, .cellar, .ports, .ina, .host, .out, .regs, .shadow] = true)
    (n : Node) (p : Nat) (v : Word) (h0 : n0.Same pt n) :
    n0.Same pt (Node.loopGo n p v) := by
  unfold Node.loopGo
  repeat' (first | with_reducible assumption | exact Part.off_sub hp rfl | with_reducible apply Node.when_only
                  | with_reducible apply Node.putWord_only | with_reducible apply Node.setPort_only | with_reducible apply Node.emit_only
                  | with_reducible apply Node.raise_only | with_reducible apply Node.linkGone_only | intro _ | split)

theorem Node.loopEnd_only {pt : Part} {n0 : Node} (hp : pt.off [.book, .trellis, .cellar, .ports, .ina, .host, .out, .regs, .shadow] = true)
    (n : Node) (p ok bad : Nat) (aborted : Bool) (h0 : n0.Same pt n) :
    n0.Same pt (Node.loopEnd n p ok bad aborted) := by
  unfold Node.loopEnd
  repeat' (first | with_reducible assumption | exact Part.off_sub hp rfl | with_reducible apply Node.when_only
                  | with_reducible apply Node.wr_only | with_reducible apply Node.wrBit_only | with_reducible apply Node.setPort_only
                  | with_reducible apply Node.raise_only | with_reducible apply Node.followMode_only | intro _)

theorem Node.loopStop_only {pt : Part} {n0 : Node}
    (hp : pt.off [.book, .trellis, .cellar, .ports, .ina, .host, .out, .fresh, .regs, .shadow] = true) (n : Node) (p : Nat) (h0 : n0.Same pt n) :
    n0.Same pt (Node.loopStop n p) := by
  unfold Node.loopStop
  repeat' (first | with_reducible assumption | exact Part.off_sub hp rfl | with_reducible apply Node.when_only
                  | with_reducible apply Node.took_only | with_reducible apply Node.loopEnd_only | intro _)

theorem execLoopCmdGo_only {pt : Part} (hp : pt.off [.book, .trellis, .cellar, .ports, .ina, .blend, .host, .out, .regs, .shadow] = true)
    (by_ : Initiator) (port : Fin 16) (v : Word) (s : State) (s' : State) (ht : execLoopCmdGo by_ port v s = .next s') :
    s.node.Same pt s'.node := by
  have h0 := Node.Same.refl pt s.node
  unfold execLoopCmdGo at ht
  refine State.upd_only ?_ ht
  repeat' (first | with_reducible assumption | exact Part.off_sub hp rfl | with_reducible apply Node.access_only
                  | with_reducible apply Node.loopGo_only | intro _)

theorem execLoopCmdStop_only {pt : Part} (hp : pt.off [.book, .trellis, .cellar, .ports, .ina, .blend, .host, .out, .fresh, .regs, .shadow] = true)
    (by_ : Initiator) (port : Fin 16) (s : State) (s' : State) (ht : execLoopCmdStop by_ port s = .next s') :
    s.node.Same pt s'.node := by
  have h0 := Node.Same.refl pt s.node
  unfold execLoopCmdStop at ht
  refine State.upd_only ?_ ht
  repeat' (first | with_reducible assumption | exact Part.off_sub hp rfl | with_reducible apply Node.access_only
                  | with_reducible apply Node.loopStop_only | intro _)

theorem execLoopbackDone_only {pt : Part} (hp : pt.off [.book, .trellis, .cellar, .ports, .ina, .host, .out, .regs, .shadow] = true) (port : Fin 16)
    (ok bad : Nat) (s : State) (s' : State) (ht : execLoopbackDone port ok bad s = .next s') :
    s.node.Same pt s'.node := by
  have h0 := Node.Same.refl pt s.node
  unfold execLoopbackDone at ht
  refine State.upd_only ?_ ht
  repeat' (first | with_reducible assumption | exact Part.off_sub hp rfl | with_reducible apply Node.when_only
                  | with_reducible apply Node.loopEnd_only | intro _)

theorem execTapInstruction_only {pt : Part} (hp : pt.off [.book, .host, .maint, .out, .regs] = true) (code : TapCode) (s : State) (s' : State)
    (ht : execTapInstruction code s = .next s') :
    s.node.Same pt s'.node := by
  have h0 := Node.Same.refl pt s.node
  unfold execTapInstruction at ht
  refine State.upd_only ?_ ht
  repeat' (first | with_reducible assumption | exact Part.off_sub hp rfl | with_reducible apply Node.when_only
                  | with_reducible apply Node.emit_only | with_reducible apply Node.raise_only | intro _ | split | dsimp -proj only
                  | with_reducible apply with_maint_only)

theorem Node.setLatch_only {pt : Part} {n0 : Node} (hp : pt.off [.winLatch] = true) (n : Node) (by_ : Initiator) (window : Nat)
    (l : Option WindowLatch) (h0 : n0.Same pt n) :
    n0.Same pt (Node.setLatch n by_ window l) := by
  unfold Node.setLatch
  repeat' (first | with_reducible assumption | exact Part.off_sub hp rfl | intro _ | split | dsimp -proj only
                  | with_reducible apply with_winLatch_only)

theorem Node.endLatch_only {pt : Part} {n0 : Node} (hp : pt.off [.winLatch] = true) (n : Node) (by_ : Initiator) (a : Nat) (h0 : n0.Same pt n) :
    n0.Same pt (Node.endLatch n by_ a) := by
  unfold Node.endLatch
  repeat' (first | with_reducible assumption | exact Part.off_sub hp rfl | with_reducible apply Node.when_only
                  | with_reducible apply Node.setLatch_only | intro _ | split)

theorem Node.readWindow_only {pt : Part} {n0 : Node} (hp : pt.off [.winLatch] = true) (n : Node) (by_ : Initiator) (a window e w : Nat)
    (h0 : n0.Same pt n) :
    n0.Same pt (Node.readWindow n by_ a window e w).1 := by
  unfold Node.readWindow
  repeat' (first | with_reducible assumption | exact Part.off_sub hp rfl | with_reducible apply Node.setLatch_only | intro _
                  | split)

theorem Node.latchHigh_only {pt : Part} {n0 : Node} (hp : pt.off [.hiLatch] = true) (n : Node) (by_ : Initiator) (v : Word) (h0 : n0.Same pt n) :
    n0.Same pt (Node.latchHigh n by_ v) := by
  unfold Node.latchHigh
  repeat' (first | with_reducible assumption | exact Part.off_sub hp rfl | intro _ | split | dsimp -proj only
                  | with_reducible apply with_hiLatch_only)

theorem Node.readView_only {pt : Part} {n0 : Node} (hp : pt.off [.hiLatch, .timeLatch] = true) (n : Node) (by_ : Initiator) (a v o : Nat)
    (h0 : n0.Same pt n) :
    n0.Same pt (Node.readView n by_ a v o).1 := by
  unfold Node.readView
  repeat' (first | with_reducible assumption | exact Part.off_sub hp rfl | with_reducible apply Node.latchHigh_only | intro _
                  | split | dsimp -proj only | with_reducible apply with_timeLatch_only)

theorem Node.tookIfFree_only {pt : Part} {n0 : Node} (hp : pt.off [.fresh] = true) (n : Node) (a : Nat) (h0 : n0.Same pt n) :
    n0.Same pt (Node.tookIfFree n a) := by
  unfold Node.tookIfFree
  repeat' (first | with_reducible assumption | exact Part.off_sub hp rfl | with_reducible apply Node.when_only
                  | with_reducible apply Node.took_only)

theorem Node.readReg_only {pt : Part} {n0 : Node} (hp : pt.off [.pins, .runs, .hiLatch, .host, .out, .regs] = true) (n : Node) (by_ : Initiator)
    (a : Nat) (p : Place) (sameClock : Bool) (h0 : n0.Same pt n) :
    n0.Same pt (Node.readReg n by_ a p sameClock).1 := by
  unfold Node.readReg
  repeat' (first | with_reducible assumption | exact Part.off_sub hp rfl | with_reducible apply Node.putWord_only
                  | with_reducible apply Node.eqPop_only | with_reducible apply Node.latchHigh_only | intro _ | split | dsimp -proj only)

theorem Node.readWord_only {pt : Part} {n0 : Node} (hp : pt.off [.pins, .runs, .hiLatch, .winLatch, .timeLatch, .host, .out, .fresh, .regs] = true)
    (n : Node) (by_ : Initiator) (a : Nat) (sameClock : Bool) (h0 : n0.Same pt n) :
    n0.Same pt (Node.readWord n by_ a sameClock).1 := by
  unfold Node.readWord
  repeat' (first | with_reducible assumption | exact Part.off_sub hp rfl | with_reducible apply Node.readWindow_only
                  | with_reducible apply Node.readView_only | with_reducible apply Node.tookIfFree_only | with_reducible apply Node.readReg_only
                  | intro _ | split)

theorem Node.fetch_only {pt : Part} {n0 : Node} (hp : pt.off [.pins, .runs, .hiLatch, .winLatch, .timeLatch, .host, .out, .fresh, .regs] = true)
    (n : Node) (by_ : Initiator) (a : Nat) (sameClock : Bool) (h0 : n0.Same pt n) :
    n0.Same pt (Node.fetch n by_ a sameClock).1 := by
  unfold Node.fetch
  repeat' (first | with_reducible assumption | exact Part.off_sub hp rfl | with_reducible apply Node.xabort_only
                  | with_reducible apply Node.readWord_only | intro _ | split)

theorem Node.readReply_only {pt : Part} {n0 : Node} (hp : pt.off [.pins, .runs, .hiLatch, .winLatch, .timeLatch, .host, .out, .fresh, .regs] = true)
    (n : Node) (by_ : Initiator) (a : Nat) (sameClock : Bool) (h0 : n0.Same pt n) :
    n0.Same pt (Node.readReply n by_ a sameClock) := by
  unfold Node.readReply
  repeat' (first | with_reducible assumption | exact Part.off_sub hp rfl | with_reducible apply Node.emit_only
                  | with_reducible apply Node.fetch_only | intro _ | split)

theorem execRcCounterRead_only {pt : Part} (hp : pt.off [.pins, .runs, .hiLatch, .winLatch, .timeLatch, .host, .out, .fresh, .regs] = true)
    (by_ : Initiator) (addr : Nat) (sameClock : Bool) (s : State) (s' : State) (ht : execRcCounterRead by_ addr sameClock s = .next s') :
    s.node.Same pt s'.node := by
  have h0 := Node.Same.refl pt s.node
  unfold execRcCounterRead at ht
  refine State.upd_only ?_ ht
  repeat' (first | with_reducible assumption | exact Part.off_sub hp rfl | with_reducible apply Node.readReply_only)

theorem execLowWordRead_only {pt : Part} (hp : pt.off [.pins, .runs, .hiLatch, .winLatch, .timeLatch, .host, .out, .fresh, .regs] = true)
    (by_ : Initiator) (addr : Nat) (s : State) (s' : State) (ht : execLowWordRead by_ addr s = .next s') :
    s.node.Same pt s'.node := by
  have h0 := Node.Same.refl pt s.node
  unfold execLowWordRead at ht
  refine State.upd_only ?_ ht
  repeat' (first | with_reducible assumption | exact Part.off_sub hp rfl | with_reducible apply Node.readReply_only)

theorem execTableWord0Read_only {pt : Part} (hp : pt.off [.pins, .runs, .hiLatch, .winLatch, .timeLatch, .host, .out, .fresh, .regs] = true)
    (by_ : Initiator) (addr : Nat) (s : State) (s' : State) (ht : execTableWord0Read by_ addr s = .next s') :
    s.node.Same pt s'.node := by
  have h0 := Node.Same.refl pt s.node
  unfold execTableWord0Read at ht
  refine State.upd_only ?_ ht
  repeat' (first | with_reducible assumption | exact Part.off_sub hp rfl | with_reducible apply Node.readReply_only)

theorem execTimeLoRead_only {pt : Part} (hp : pt.off [.pins, .runs, .hiLatch, .winLatch, .timeLatch, .host, .out, .fresh, .regs] = true)
    (by_ : Initiator) (view : Fin 3) (s : State) (s' : State) (ht : execTimeLoRead by_ view s = .next s') :
    s.node.Same pt s'.node := by
  have h0 := Node.Same.refl pt s.node
  unfold execTimeLoRead at ht
  refine State.upd_only ?_ ht
  repeat' (first | with_reducible assumption | exact Part.off_sub hp rfl | with_reducible apply Node.readReply_only)

theorem execEqPop0Read_only {pt : Part} (hp : pt.off [.pins, .runs, .hiLatch, .winLatch, .timeLatch, .host, .out, .fresh, .regs] = true)
    (by_ : Initiator) (s : State) (s' : State) (ht : execEqPop0Read by_ s = .next s') :
    s.node.Same pt s'.node := by
  have h0 := Node.Same.refl pt s.node
  unfold execEqPop0Read at ht
  refine State.upd_only ?_ ht
  repeat' (first | with_reducible assumption | exact Part.off_sub hp rfl | with_reducible apply Node.readReply_only)

theorem Node.mendShadow_only {pt : Part} {n0 : Node} (hp : pt.off [.trellis] = true) (n : Node) (a : Nat) (h0 : n0.Same pt n) :
    n0.Same pt (Node.mendShadow n a) := by
  unfold Node.mendShadow
  repeat' (first | with_reducible assumption | exact Part.off_sub hp rfl | intro _ | split | dsimp -proj only
                  | with_reducible apply with_trellis_only)

theorem Node.storeReg_only {pt : Part} {n0 : Node} (hp : pt.off [.trellis, .regs, .shadow] = true) (n : Node) (a : Nat) (v : Word)
    (h0 : n0.Same pt n) :
    n0.Same pt (Node.storeReg n a v) := by
  unfold Node.storeReg
  repeat' (first | with_reducible assumption | exact Part.off_sub hp rfl | with_reducible apply Node.when_only
                  | with_reducible apply Node.putWord_only | with_reducible apply Node.putShadow_only | with_reducible apply Node.count_only
                  | with_reducible apply Node.mendShadow_only | intro _ | split)

theorem Node.storeImmediate_only {pt : Part} {n0 : Node} (hp : pt.off [.book, .trellis, .cellar, .ports, .host, .vnt, .regs, .shadow] = true)
    (n : Node) (a : Nat) (v : Word) (h0 : n0.Same pt n) :
    n0.Same pt (Node.storeImmediate n a v) := by
  unfold Node.storeImmediate
  repeat' (first | with_reducible assumption | exact Part.off_sub hp rfl | with_reducible apply Node.updateBypass_only
                  | with_reducible apply Node.storeReg_only | intro _ | split | dsimp -proj only | with_reducible apply with_vnt_only)

theorem Node.commitWrite_only {pt : Part} {n0 : Node}
    (hp : pt.off [.commits, .mc, .runs, .book, .trellis, .cellar, .ina, .sessions, .presses, .host, .vnt, .out, .regs, .shadow, .ram] = true)
    (n : Node) (g : Nat) (v : Word) (h0 : n0.Same pt n) :
    n0.Same pt (Node.commitWrite n g v) := by
  unfold Node.commitWrite
  repeat' (first | with_reducible assumption | exact Part.off_sub hp rfl | with_reducible apply Node.when_only
                  | with_reducible apply Node.groupGo_only | with_reducible apply Node.groupAbort_only | intro _ | split)

theorem Node.mcWrite_only {pt : Part} {n0 : Node} (hp : pt.off [.mc, .book, .trellis, .host, .pair, .out, .regs, .shadow] = true) (n : Node)
    (v : Word) (h0 : n0.Same pt n) :
    n0.Same pt (Node.mcWrite n v) := by
  unfold Node.mcWrite
  repeat' (first | with_reducible assumption | exact Part.off_sub hp rfl | with_reducible apply Node.when_only
                  | with_reducible apply Node.mcGo_only | with_reducible apply Node.mcAbort_only | intro _ | split)

theorem Node.updOperate_only {pt : Part} {n0 : Node}
    (hp : pt.off [.power, .supply, .pins, .commits, .mc, .faults, .runs, .hiLatch, .winLatch, .timeLatch, .book, .trellis, .cellar, .ports,
        .ina, .flows, .sessions, .mdStarted, .presses, .images, .cans, .lineUnits, .blend, .time, .host, .outs, .pair, .vnt, .vault, .maint, .out,
        .regs, .shadow, .force, .ram] = true) (n : Node) (p : Path) (op slot : Nat) (h0 : n0.Same pt n) :
    n0.Same pt (Node.updOperate n p op slot) := by
  unfold Node.updOperate
  repeat' (first | with_reducible assumption | exact Part.off_sub hp rfl | with_reducible apply Node.updOpen_only
                  | with_reducible apply Node.updFinish_only | with_reducible apply Node.updAbort_only
                  | with_reducible apply Node.activateSlot_only | with_reducible apply Node.confirmTrial_only | intro _ | split)

theorem Node.outOperate_only {pt : Part} {n0 : Node} (hp : pt.off [.book, .host, .outs, .regs] = true) (n : Node) (c op : Nat) (h0 : n0.Same pt n) :
    n0.Same pt (Node.outOperate n c op) := by
  unfold Node.outOperate
  repeat' (first | with_reducible assumption | exact Part.off_sub hp rfl | with_reducible apply Node.when_only
                  | with_reducible apply Node.clearLock_only | intro _)

theorem Node.canOperate_only {pt : Part} {n0 : Node} (hp : pt.off [.book, .host, .regs] = true) (n : Node) (c op : Nat) (h0 : n0.Same pt n) :
    n0.Same pt (Node.canOperate n c op) := by
  unfold Node.canOperate
  repeat' (first | with_reducible assumption | exact Part.off_sub hp rfl | with_reducible apply Node.wrBit_only
                  | with_reducible apply Node.canRecover_only | intro _ | split)

theorem Node.commandLow_only {pt : Part} {n0 : Node}
    (hp : pt.off [.power, .supply, .pins, .commits, .mc, .faults, .runs, .hiLatch, .winLatch, .timeLatch, .book, .trellis, .cellar, .ports,
        .ina, .flows, .sessions, .mdStarted, .presses, .images, .cans, .lineUnits, .blend, .time, .host, .outs, .pair, .vnt, .vault, .maint, .out,
        .fresh, .regs, .shadow, .force, .ram] = true) (n : Node) (a : Nat) (v : Word) (h0 : n0.Same pt n) :
    n0.Same pt (Node.commandLow n a v) := by
  unfold Node.commandLow
  repeat' (first | with_reducible assumption | exact Part.off_sub hp rfl | with_reducible apply Node.when_only
                  | with_reducible apply Node.wakeEmit_only | with_reducible apply Node.snapGo_only | with_reducible apply Node.msgPull_only
                  | with_reducible apply Node.msgGo_only | with_reducible apply Node.pressCommand_only | with_reducible apply Node.mstopEnter_only
                  | with_reducible apply Node.mstopExit_only | with_reducible apply Node.loopGo_only | with_reducible apply Node.loopStop_only
                  | with_reducible apply Node.mcWrite_only | with_reducible apply Node.canOperate_only | intro _ | split)

theorem Node.commandHigh_only {pt : Part} {n0 : Node}
    (hp : pt.off [.power, .supply, .pins, .commits, .mc, .faults, .runs, .hiLatch, .winLatch, .timeLatch, .book, .trellis, .cellar, .ports,
        .ina, .flows, .sessions, .mdStarted, .presses, .images, .cans, .lineUnits, .blend, .time, .host, .outs, .pair, .vnt, .vault, .maint, .out,
        .regs, .shadow, .force, .ram] = true) (n : Node) (a : Nat) (v : Word) (h0 : n0.Same pt n) :
    n0.Same pt (Node.commandHigh n a v) := by
  unfold Node.commandHigh
  repeat' (first | with_reducible assumption | exact Part.off_sub hp rfl | with_reducible apply Node.when_only
                  | with_reducible apply Node.cbkCommand_only | with_reducible apply Node.chunkGo_only | with_reducible apply Node.hbrReset_only
                  | with_reducible apply Node.redCommand_only | with_reducible apply Node.warmReset_only
                  | with_reducible apply Node.dormRequest_only | with_reducible apply Node.storeReg_only
                  | with_reducible apply Node.updOperate_only | with_reducible apply Node.outOperate_only | intro _ | split)

theorem Node.guardDrop_only {pt : Part} {n0 : Node} (hp : pt.off [.regs] = true) (n : Node) (h0 : n0.Same pt n) :
    n0.Same pt (Node.guardDrop n) := by
  unfold Node.guardDrop
  repeat' (first | with_reducible assumption | exact Part.off_sub hp rfl | with_reducible apply Node.count_only)

theorem Node.ringWrite_only {pt : Part} {n0 : Node} (hp : pt.off [.runs, .book, .trellis, .cellar, .host, .regs, .shadow] = true) (n : Node)
    (k o a : Nat) (v : Word) (h0 : n0.Same pt n) :
    n0.Same pt (Node.ringWrite n k o a v) := by
  unfold Node.ringWrite
  repeat' (first | with_reducible assumption | exact Part.off_sub hp rfl | with_reducible apply Node.wr_only
                  | with_reducible apply Node.count_only | with_reducible apply Node.raise_only | with_reducible apply Node.ringTail_only
                  | with_reducible apply Node.ringCfg_only | with_reducible apply Node.storeReg_only | with_reducible apply Node.guardDrop_only
                  | intro _ | split | dsimp -proj only)

theorem Node.eqRegWrite_only {pt : Part} {n0 : Node} (hp : pt.off [.pins, .runs, .trellis, .host, .out, .regs, .shadow] = true) (n : Node) (a : Nat)
    (v : Word) (h0 : n0.Same pt n) :
    n0.Same pt (Node.eqRegWrite n a v) := by
  unfold Node.eqRegWrite
  repeat' (first | with_reducible assumption | exact Part.off_sub hp rfl | with_reducible apply Node.wr_only
                  | with_reducible apply Node.eqSpace_only | with_reducible apply Node.storeReg_only | with_reducible apply Node.guardDrop_only
                  | intro _ | split | dsimp -proj only | with_reducible apply with_host_only)

theorem Node.bufferBytes_only {pt : Part} {n0 : Node} (hp : pt.off [.regs] = true) (n : Node) (may : Bool) (a : Nat) (bytes : List Byte)
    (h0 : n0.Same pt n) :
    n0.Same pt (Node.bufferBytes n may a bytes) := by
  unfold Node.bufferBytes
  repeat' (first | with_reducible assumption | exact Part.off_sub hp rfl | with_reducible apply Node.when_only
                  | with_reducible apply Node.each_only | with_reducible apply Node.count_only | with_reducible apply Node.mbStore_only
                  | with_reducible apply Node.mbAck_only | intro _ | split | dsimp -proj only)

theorem Node.imageWrite_only {pt : Part} {n0 : Node} (hp : pt.off [.regs, .ram] = true) (n : Node) (a : Nat) (v : Word) (h0 : n0.Same pt n) :
    n0.Same pt (Node.imageWrite n a v) := by
  unfold Node.imageWrite
  repeat' (first | with_reducible assumption | exact Part.off_sub hp rfl | with_reducible apply Node.when_only
                  | with_reducible apply Node.count_only | with_reducible apply Node.putRamWord_only | with_reducible apply Node.outExchange_only
                  | intro _ | split | dsimp -proj only)

theorem Node.writeReg_only {pt : Part} {n0 : Node}
    (hp : pt.off [.power, .supply, .pins, .commits, .mc, .faults, .runs, .hiLatch, .winLatch, .timeLatch, .book, .trellis, .cellar, .ports,
        .ina, .flows, .sessions, .mdStarted, .presses, .images, .cans, .lineUnits, .blend, .time, .host, .outs, .pair, .vnt, .vault, .maint, .out,
        .fresh, .regs, .shadow, .force, .ram] = true) (n : Node) (by_ : Initiator) (a : Nat) (v : Word) (h0 : n0.Same pt n) :
    n0.Same pt (Node.writeReg n by_ a v) := by
  unfold Node.writeReg
  repeat' (first | with_reducible assumption | exact Part.off_sub hp rfl | with_reducible apply Node.setHeld_only
                  | with_reducible apply Node.signalHigh_only | with_reducible apply Node.hostCommand_only
                  | with_reducible apply Node.storeImmediate_only | with_reducible apply Node.commitWrite_only
                  | with_reducible apply Node.commandLow_only | with_reducible apply Node.commandHigh_only
                  | with_reducible apply Node.ringWrite_only | with_reducible apply Node.eqRegWrite_only
                  | with_reducible apply Node.bufferBytes_only | intro _ | split)

theorem Node.writeWord_only {pt : Part} {n0 : Node}
    (hp : pt.off [.power, .supply, .pins, .commits, .mc, .faults, .runs, .hiLatch, .winLatch, .timeLatch, .book, .trellis, .cellar, .ports,
        .ina, .flows, .sessions, .mdStarted, .presses, .images, .cans, .lineUnits, .blend, .time, .host, .outs, .pair, .vnt, .vault, .maint, .out,
        .fresh, .regs, .shadow, .force, .ram] = true) (n : Node) (by_ : Initiator) (a : Nat) (v : Word) (h0 : n0.Same pt n) :
    n0.Same pt (Node.writeWord n by_ a v) := by
  unfold Node.writeWord
  repeat' (first | with_reducible assumption | exact Part.off_sub hp rfl | with_reducible apply Node.putRamWord_only
                  | with_reducible apply Node.endLatch_only | with_reducible apply Node.imageWrite_only | with_reducible apply Node.writeReg_only
                  | intro _ | split | dsimp -proj only)

theorem Node.assign_only {pt : Part} {n0 : Node}
    (hp : pt.off [.power, .supply, .pins, .commits, .mc, .faults, .runs, .hiLatch, .winLatch, .timeLatch, .book, .trellis, .cellar, .ports,
        .ina, .flows, .sessions, .mdStarted, .presses, .images, .cans, .lineUnits, .blend, .time, .host, .outs, .pair, .vnt, .vault, .maint, .out,
        .fresh, .regs, .shadow, .force, .ram] = true) (n : Node) (by_ : Initiator) (a : Nat) (v : Word) (h0 : n0.Same pt n) :
    n0.Same pt (Node.assign n by_ a v).1 := by
  unfold Node.assign
  repeat' (first | with_reducible assumption | exact Part.off_sub hp rfl | with_reducible apply Node.when_only
                  | with_reducible apply Node.xabort_only | with_reducible apply Node.dropHeld_only | with_reducible apply Node.writeWord_only
                  | intro _ | split)

theorem Node.assignAt_only {pt : Part} {n0 : Node}
    (hp : pt.off [.power, .supply, .pins, .commits, .mc, .faults, .runs, .hiLatch, .winLatch, .timeLatch, .book, .trellis, .cellar, .ports,
        .ina, .flows, .sessions, .mdStarted, .presses, .images, .cans, .lineUnits, .blend, .time, .host, .outs, .pair, .vnt, .vault, .maint, .out,
        .fresh, .regs, .shadow, .force, .ram] = true) (n : Node) (by_ : Initiator) (a : Nat) (v : Word) (h0 : n0.Same pt n) :
    n0.Same pt (Node.assignAt n by_ a v) := by
  unfold Node.assignAt
  repeat' (first | with_reducible assumption | exact Part.off_sub hp rfl | with_reducible apply Node.assign_only | intro _
                  | split)

theorem execSignalLowWordWrite_only {pt : Part}
    (hp : pt.off [.power, .supply, .pins, .commits, .mc, .faults, .runs, .hiLatch, .winLatch, .timeLatch, .book, .trellis, .cellar, .ports,
        .ina, .flows, .sessions, .mdStarted, .presses, .images, .cans, .lineUnits, .blend, .time, .host, .outs, .pair, .vnt, .vault, .maint, .out,
        .fresh, .regs, .shadow, .force, .ram] = true) (by_ : Initiator) (signal : Fin 262144) (v : Word) (s : State) (s' : State) (ht :
        execSignalLowWordWrite by_ signal v s = .next s') :
    s.node.Same pt s'.node := by
  have h0 := Node.Same.refl pt s.node
  unfold execSignalLowWordWrite at ht
  refine State.upd_only ?_ ht
  repeat' (first | with_reducible assumption | exact Part.off_sub hp rfl | with_reducible apply Node.assignAt_only)

theorem execSignalHighWordWrite_only {pt : Part}
    (hp : pt.off [.power, .supply, .pins, .commits, .mc, .faults, .runs, .hiLatch, .winLatch, .timeLatch, .book, .trellis, .cellar, .ports,
        .ina, .flows, .sessions, .mdStarted, .presses, .images, .cans, .lineUnits, .blend, .time, .host, .outs, .pair, .vnt, .vault, .maint, .out,
        .fresh, .regs, .shadow, .force, .ram] = true) (by_ : Initiator) (signal : Fin 262144) (v : Word) (s : State) (s' : State) (ht :
        execSignalHighWordWrite by_ signal v s = .next s') :
    s.node.Same pt s'.node := by
  have h0 := Node.Same.refl pt s.node
  unfold execSignalHighWordWrite at ht
  refine State.upd_only ?_ ht
  repeat' (first | with_reducible assumption | exact Part.off_sub hp rfl | with_reducible apply Node.assignAt_only)

theorem execCommandWordWrite_only {pt : Part}
    (hp : pt.off [.power, .supply, .pins, .commits, .mc, .faults, .runs, .hiLatch, .winLatch, .timeLatch, .book, .trellis, .cellar, .ports,
        .ina, .flows, .sessions, .mdStarted, .presses, .images, .cans, .lineUnits, .blend, .time, .host, .outs, .pair, .vnt, .vault, .maint, .out,
        .fresh, .regs, .shadow, .force, .ram] = true) (by_ : Initiator) (ch : Fin 24) (v : Word) (s : State) (s' : State) (ht : execCommandWordWrite
        by_ ch v s = .next s') :
    s.node.Same pt s'.node := by
  have h0 := Node.Same.refl pt s.node
  unfold execCommandWordWrite at ht
  refine State.upd_only ?_ ht
  repeat' (first | with_reducible assumption | exact Part.off_sub hp rfl | with_reducible apply Node.assignAt_only)

theorem execOutXchg_only {pt : Part}
    (hp : pt.off [.power, .supply, .pins, .commits, .mc, .faults, .runs, .hiLatch, .winLatch, .timeLatch, .book, .trellis, .cellar, .ports,
        .ina, .flows, .sessions, .mdStarted, .presses, .images, .cans, .lineUnits, .blend, .time, .host, .outs, .pair, .vnt, .vault, .maint, .out,
        .fresh, .regs, .shadow, .force, .ram] = true) (by_ : Initiator) (press : Fin 16) (s : State) (s' : State) (ht : execOutXchg by_ press s =
        .next s') :
    s.node.Same pt s'.node := by
  have h0 := Node.Same.refl pt s.node
  unfold execOutXchg at ht
  refine State.upd_only ?_ ht
  repeat' (first | with_reducible assumption | exact Part.off_sub hp rfl | with_reducible apply Node.assignAt_only)

theorem Node.narrow_only {pt : Part} {n0 : Node} (hp : pt.off [.book, .blend, .host, .regs] = true) (n : Node) (by_ : Initiator) (addr : Nat)
    (h0 : n0.Same pt n) :
    n0.Same pt (Node.narrow n by_ addr).1 := by
  unfold Node.narrow
  repeat' (first | with_reducible assumption | exact Part.off_sub hp rfl | with_reducible apply Node.count_only
                  | with_reducible apply Node.raise_only | with_reducible apply Node.xabort_only | with_reducible apply Node.dropHeld_only
                  | intro _ | split | dsimp -proj only)

theorem execPartialWrite_only {pt : Part} (hp : pt.off [.book, .blend, .host, .regs] = true) (by_ : Initiator) (addr _size : Nat) (_v : Half)
    (s : State) (s' : State) (ht : execPartialWrite by_ addr _size _v s = .next s') :
    s.node.Same pt s'.node := by
  have h0 := Node.Same.refl pt s.node
  unfold execPartialWrite at ht
  refine State.upd_only ?_ ht
  repeat' (first | with_reducible assumption | exact Part.off_sub hp rfl | with_reducible apply Node.narrow_only | intro _
                  | split)

theorem Node.odBusy_only {pt : Part} {n0 : Node}
    (hp : pt.off [.runs, .book, .cellar, .ina, .sessions, .presses, .host, .vnt, .out, .regs, .ram] = true) (n : Node) (p : Path) (irq : Bool)
    (h0 : n0.Same pt n) :
    n0.Same pt (Node.odBusy n p irq) := by
  unfold Node.odBusy
  repeat' (first | with_reducible assumption | exact Part.off_sub hp rfl | with_reducible apply Node.count_only
                  | with_reducible apply Node.odAbort_only)

theorem Node.goBox_only {pt : Part} {n0 : Node} (hp : pt.off [.regs] = true) (n : Node) (m : Nat) (f : Node → Node) (h0 : n0.Same pt n) (h1 : ∀
    (x0 : Node), n0.Same pt x0 → n0.Same pt (f x0)) :
    n0.Same pt (Node.goBox n m f) := by
  unfold Node.goBox
  repeat' (first | with_reducible assumption | exact Part.off_sub hp rfl | with_reducible apply h1
                  | with_reducible apply Node.when_only | with_reducible apply Node.wrBit_only | intro _)

theorem Node.serveAt_only {pt : Part} {n0 : Node}
    (hp : pt.off [.runs, .book, .cellar, .ina, .sessions, .presses, .host, .vnt, .out, .regs, .ram] = true) (n : Node) (a : OdAsk) (irq full : Bool)
    (f : Node → Node) (h0 : n0.Same pt n) (h1 : ∀ (x0 : Node), n0.Same pt x0 → n0.Same pt (f x0)) :
    n0.Same pt (Node.serveAt n a irq full f) := by
  unfold Node.serveAt
  repeat' (first | with_reducible assumption | exact Part.off_sub hp rfl | with_reducible apply h1
                  | with_reducible apply Node.when_only | with_reducible apply Node.setAsk_only | with_reducible apply Node.odBusy_only
                  | with_reducible apply Node.goBox_only | intro _ | split | dsimp -proj only)

theorem Node.atBox_only {pt : Part} {n0 : Node} (hp : pt.off [.blend, .host, .regs] = true) (n : Node) (by_ : Initiator) (m : Nat) (f : Node → Node)
    (h0 : n0.Same pt n) (h1 : ∀ (x0 : Node), n0.Same pt x0 → n0.Same pt (f x0)) :
    n0.Same pt (Node.atBox n by_ m f) := by
  unfold Node.atBox
  repeat' (first | with_reducible assumption | exact Part.off_sub hp rfl | with_reducible apply h1
                  | with_reducible apply Node.xabort_only | with_reducible apply Node.dropHeld_only | intro _ | split | dsimp -proj only)

theorem Node.fromPress_only {pt : Part} {n0 : Node} (hp : pt.off [.host, .regs] = true) (n : Node) (f : Node → Node) (h0 : n0.Same pt n) (h1 : ∀
    (x0 : Node), n0.Same pt x0 → n0.Same pt (f x0)) :
    n0.Same pt (Node.fromPress n f) := by
  unfold Node.fromPress
  repeat' (first | with_reducible assumption | exact Part.off_sub hp rfl | with_reducible apply h1
                  | with_reducible apply Node.xabort_only | intro _ | split)

theorem Node.takeSdoRequest_only {pt : Part} {n0 : Node} (hp : pt.off [.cans] = true) (n : Node) (p : Nat) (h0 : n0.Same pt n) :
    n0.Same pt (Node.takeSdoRequest n p) := by
  unfold Node.takeSdoRequest
  repeat' (first | with_reducible assumption | exact Part.off_sub hp rfl | with_reducible apply Node.each_only
                  | with_reducible apply Node.setCan_only | intro _)

theorem Node.onPath_only {pt : Part} {n0 : Node} (hp : pt.off [.cans, .blend, .host, .regs] = true) (n : Node) (p : Path) (index : Nat)
    (f : Node → Node) (h0 : n0.Same pt n) (h1 : ∀ (x0 : Node), n0.Same pt x0 → n0.Same pt (f x0)) :
    n0.Same pt (Node.onPath n p index f) := by
  unfold Node.onPath
  repeat' (first | with_reducible assumption | exact Part.off_sub hp rfl | with_reducible apply h1
                  | with_reducible apply Node.when_only | with_reducible apply Node.atBox_only | with_reducible apply Node.fromPress_only
                  | with_reducible apply Node.takeSdoRequest_only | intro _ | split)

theorem Node.fillBox_only {pt : Part} {n0 : Node} (hp : pt.off [.regs, .ram] = true) (n : Node) (p : Path) (seg : List Byte) (h0 : n0.Same pt n) :
    n0.Same pt (Node.fillBox n p seg) := by
  unfold Node.fillBox
  repeat' (first | with_reducible assumption | exact Part.off_sub hp rfl | with_reducible apply Node.wr_only
                  | with_reducible apply Node.putBytes_only | intro _ | split)

theorem Node.fillTotal_only {pt : Part} {n0 : Node} (hp : pt.off [.regs] = true) (n : Node) (p : Path) (total : Nat) (h0 : n0.Same pt n) :
    n0.Same pt (Node.fillTotal n p total) := by
  unfold Node.fillTotal
  repeat' (first | with_reducible assumption | exact Part.off_sub hp rfl | with_reducible apply Node.wr_only | intro _ | split)

theorem Node.lapse_only {pt : Part} {n0 : Node} (hp : pt.off [.book, .sessions, .host, .vnt, .vault, .regs] = true) (n : Node) (p : Path)
    (h0 : n0.Same pt n) :
    n0.Same pt (Node.lapse n p) := by
  unfold Node.lapse
  repeat' (first | with_reducible assumption | exact Part.off_sub hp rfl | with_reducible apply Node.when_only
                  | with_reducible apply Node.publicSession_only | with_reducible apply Node.dropSession_only)

theorem Node.giveChallenge_only {pt : Part} {n0 : Node}
    (hp : pt.off [.runs, .book, .cellar, .ina, .sessions, .presses, .host, .vnt, .out, .fresh, .regs, .ram] = true) (n : Node) (p : Path)
    (irq : Bool) (h0 : n0.Same pt n) :
    n0.Same pt (Node.giveChallenge n p irq) := by
  unfold Node.giveChallenge
  repeat' (first | with_reducible assumption | exact Part.off_sub hp rfl | with_reducible apply Node.took_only
                  | with_reducible apply Node.setSession_only | with_reducible apply Node.odReply_only)

theorem Node.askRole_only {pt : Part} {n0 : Node} (hp : pt.off [.book, .sessions, .host, .vnt, .vault, .regs] = true) (n : Node) (p : Path)
    (role : Nat) (h0 : n0.Same pt n) :
    n0.Same pt (Node.askRole n p role) := by
  unfold Node.askRole
  repeat' (first | with_reducible assumption | exact Part.off_sub hp rfl | with_reducible apply Node.setSession_only
                  | with_reducible apply Node.lapse_only | intro _ | split)

theorem Node.authFailed_only {pt : Part} {n0 : Node} (hp : pt.off [.book, .host, .vnt, .regs] = true) (n : Node) (p : Path) (h0 : n0.Same pt n) :
    n0.Same pt (Node.authFailed n p) := by
  unfold Node.authFailed
  repeat' (first | with_reducible assumption | exact Part.off_sub hp rfl | with_reducible apply Node.when_only
                  | with_reducible apply Node.count_only | with_reducible apply Node.raise_only | intro _ | split | dsimp -proj only
                  | with_reducible apply with_vnt_only)

theorem Node.roleRaised_only {pt : Part} {n0 : Node} (hp : pt.off [.book, .sessions, .host, .vnt, .regs] = true) (n : Node) (p : Path)
    (key : BitVec 256) (h0 : n0.Same pt n) :
    n0.Same pt (Node.roleRaised n p key) := by
  unfold Node.roleRaised
  repeat' (first | with_reducible assumption | exact Part.off_sub hp rfl | with_reducible apply Node.raise_only
                  | with_reducible apply Node.setSession_only)

theorem Node.authRespond_only {pt : Part} {n0 : Node}
    (hp : pt.off [.runs, .book, .cellar, .ina, .sessions, .presses, .host, .vnt, .out, .regs, .ram] = true) (n : Node) (p : Path) (irq : Bool)
    (response : List Byte) (h0 : n0.Same pt n) :
    n0.Same pt (Node.authRespond n p irq response) := by
  unfold Node.authRespond
  repeat' (first | with_reducible assumption | exact Part.off_sub hp rfl | with_reducible apply Node.odEnd_only
                  | with_reducible apply Node.odAbort_only | with_reducible apply Node.authFailed_only | with_reducible apply Node.roleRaised_only
                  | intro _ | split)

theorem Node.sendEntry_only {pt : Part} {n0 : Node}
    (hp : pt.off [.runs, .book, .cellar, .ina, .sessions, .presses, .host, .vnt, .out, .fresh, .regs, .ram] = true) (n : Node) (p : Path)
    (irq : Bool) (index sub : Nat) (e : OdEntry) (h0 : n0.Same pt n) :
    n0.Same pt (Node.sendEntry n p irq index sub e) := by
  unfold Node.sendEntry
  repeat' (first | with_reducible assumption | exact Part.off_sub hp rfl | with_reducible apply Node.when_only
                  | with_reducible apply Node.took_only | with_reducible apply Node.xabort_only | with_reducible apply Node.reportBad_only
                  | with_reducible apply Node.odSend_only | intro _ | split)

theorem Node.readEntry_only {pt : Part} {n0 : Node}
    (hp : pt.off [.runs, .book, .cellar, .ina, .sessions, .presses, .host, .vnt, .out, .fresh, .regs, .ram] = true) (n : Node) (p : Path)
    (irq : Bool) (index sub : Nat) (e : OdEntry) (h0 : n0.Same pt n) :
    n0.Same pt (Node.readEntry n p irq index sub e) := by
  unfold Node.readEntry
  repeat' (first | with_reducible assumption | exact Part.off_sub hp rfl | with_reducible apply Node.odAbort_only
                  | with_reducible apply Node.odReply_only | with_reducible apply Node.odSend_only | with_reducible apply Node.giveChallenge_only
                  | with_reducible apply Node.sendEntry_only | intro _ | split)

theorem Node.odStartRead_only {pt : Part} {n0 : Node}
    (hp : pt.off [.runs, .book, .cellar, .ina, .sessions, .presses, .host, .vnt, .out, .fresh, .regs, .ram] = true) (n : Node) (q : OdAsk)
    (irq full : Bool) (h0 : n0.Same pt n) :
    n0.Same pt (Node.odStartRead n q irq full) := by
  unfold Node.odStartRead
  repeat' (first | with_reducible assumption | exact Part.off_sub hp rfl | with_reducible apply Node.dropTransfer_only
                  | with_reducible apply Node.odAbort_only | with_reducible apply Node.serveAt_only | with_reducible apply Node.readEntry_only
                  | intro _ | split | dsimp -proj only)

theorem Node.odUpdate_only {pt : Part} {n0 : Node}
    (hp : pt.off [.power, .supply, .pins, .commits, .mc, .faults, .runs, .hiLatch, .winLatch, .timeLatch, .book, .trellis, .cellar, .ports,
        .ina, .flows, .sessions, .mdStarted, .presses, .images, .cans, .lineUnits, .blend, .time, .host, .outs, .pair, .vnt, .vault, .maint, .out,
        .regs, .shadow, .force, .ram] = true) (n : Node) (p : Path) (irq : Bool) (op slot : Nat) (h0 : n0.Same pt n) :
    n0.Same pt (Node.odUpdate n p irq op slot) := by
  unfold Node.odUpdate
  repeat' (first | with_reducible assumption | exact Part.off_sub hp rfl | with_reducible apply Node.odEnd_only
                  | with_reducible apply Node.updOperate_only | intro _ | split)

theorem Node.odChunk_only {pt : Part} {n0 : Node}
    (hp : pt.off [.runs, .book, .cellar, .ina, .sessions, .presses, .host, .vnt, .out, .regs, .ram] = true) (n : Node) (p : Path) (irq : Bool)
    (value : List Byte) (h0 : n0.Same pt n) :
    n0.Same pt (Node.odChunk n p irq value) := by
  unfold Node.odChunk
  repeat' (first | with_reducible assumption | exact Part.off_sub hp rfl | with_reducible apply Node.updWrite_only
                  | with_reducible apply Node.odEnd_only)

theorem Node.setUuid_only {pt : Part} {n0 : Node} (hp : pt.off [.vnt] = true) (n : Node) (value : List Byte) (h0 : n0.Same pt n) :
    n0.Same pt (Node.setUuid n value) := by
  unfold Node.setUuid
  repeat' (first | with_reducible assumption | exact Part.off_sub hp rfl | intro _ | split | dsimp -proj only
                  | with_reducible apply with_vnt_only)

theorem Node.askRestore_only {pt : Part} {n0 : Node} (hp : pt.off [.vnt] = true) (n : Node) (p : Path) (irq : Bool) (h0 : n0.Same pt n) :
    n0.Same pt (Node.askRestore n p irq) := by
  unfold Node.askRestore
  repeat' (first | with_reducible assumption | exact Part.off_sub hp rfl | intro _ | split | dsimp -proj only
                  | with_reducible apply with_vnt_only)

theorem Node.setPeer_only {pt : Part} {n0 : Node} (hp : pt.off [.vnt] = true) (n : Node) (k v : Nat) (h0 : n0.Same pt n) :
    n0.Same pt (Node.setPeer n k v) := by
  unfold Node.setPeer
  repeat' (first | with_reducible assumption | exact Part.off_sub hp rfl | intro _ | split | dsimp -proj only
                  | with_reducible apply with_vnt_only)

theorem Node.odActLow_only {pt : Part} {n0 : Node}
    (hp : pt.off [.power, .supply, .pins, .commits, .mc, .faults, .runs, .hiLatch, .winLatch, .timeLatch, .book, .trellis, .cellar, .ports,
        .ina, .flows, .sessions, .mdStarted, .presses, .images, .cans, .lineUnits, .blend, .time, .host, .outs, .pair, .vnt, .vault, .maint, .out,
        .regs, .shadow, .force, .ram] = true) (n : Node) (p : Path) (irq : Bool) (index sub v : Nat) (value : List Byte) (h0 : n0.Same pt n) :
    n0.Same pt (Node.odActLow n p irq index sub v value) := by
  unfold Node.odActLow
  repeat' (first | with_reducible assumption | exact Part.off_sub hp rfl | with_reducible apply Node.when_only
                  | with_reducible apply Node.enter_only | with_reducible apply Node.odEnd_only | with_reducible apply Node.redCommand_only
                  | with_reducible apply Node.dormRequest_only | with_reducible apply Node.mstopEnter_only
                  | with_reducible apply Node.mstopExit_only | with_reducible apply Node.askRole_only | with_reducible apply Node.authRespond_only
                  | with_reducible apply Node.setUuid_only | with_reducible apply Node.askRestore_only | with_reducible apply Node.setPeer_only
                  | intro _ | split | dsimp -proj only | with_reducible apply with_time_only)

theorem Node.odActHigh_only {pt : Part} {n0 : Node}
    (hp : pt.off [.power, .supply, .pins, .commits, .mc, .faults, .runs, .hiLatch, .winLatch, .timeLatch, .book, .trellis, .cellar, .ports,
        .ina, .flows, .sessions, .mdStarted, .presses, .images, .cans, .lineUnits, .blend, .time, .host, .outs, .pair, .vnt, .vault, .maint, .out,
        .regs, .shadow, .force, .ram] = true) (n : Node) (p : Path) (irq : Bool) (index sub v : Nat) (value : List Byte) (h0 : n0.Same pt n) :
    n0.Same pt (Node.odActHigh n p irq index sub v value) := by
  unfold Node.odActHigh
  repeat' (first | with_reducible assumption | exact Part.off_sub hp rfl | with_reducible apply Node.enter_only
                  | with_reducible apply Node.setFreeze_only | with_reducible apply Node.ownerChange_only
                  | with_reducible apply Node.setRoleKey_only | with_reducible apply Node.startQuote_only | with_reducible apply Node.odEnd_only
                  | with_reducible apply Node.odAbort_only | with_reducible apply Node.canRecover_only
                  | with_reducible apply Node.pressCommand_only | with_reducible apply Node.outOperate_only
                  | with_reducible apply Node.odUpdate_only | with_reducible apply Node.odChunk_only | intro _ | split | dsimp -proj only
                  | with_reducible apply with_vault_only)

theorem Node.odAct_only {pt : Part} {n0 : Node}
    (hp : pt.off [.power, .supply, .pins, .commits, .mc, .faults, .runs, .hiLatch, .winLatch, .timeLatch, .book, .trellis, .cellar, .ports,
        .ina, .flows, .sessions, .mdStarted, .presses, .images, .cans, .lineUnits, .blend, .time, .host, .outs, .pair, .vnt, .vault, .maint, .out,
        .regs, .shadow, .force, .ram] = true) (n : Node) (p : Path) (irq : Bool) (index sub : Nat) (value : List Byte) (h0 : n0.Same pt n) :
    n0.Same pt (Node.odAct n p irq index sub value) := by
  unfold Node.odAct
  repeat' (first | with_reducible assumption | exact Part.off_sub hp rfl | with_reducible apply Node.odActLow_only
                  | with_reducible apply Node.odActHigh_only | intro _ | split)

theorem Node.writeShadow_only {pt : Part} {n0 : Node}
    (hp : pt.off [.commits, .runs, .book, .cellar, .ina, .sessions, .presses, .host, .vnt, .out, .regs, .shadow, .ram] = true) (n : Node) (p : Path)
    (irq : Bool) (ws : List (Nat × Word)) (h0 : n0.Same pt n) :
    n0.Same pt (Node.writeShadow n p irq ws) := by
  unfold Node.writeShadow
  repeat' (first | with_reducible assumption | exact Part.off_sub hp rfl | with_reducible apply Node.putShadows_only
                  | with_reducible apply Node.setPhase_only | with_reducible apply Node.odEnd_only | with_reducible apply Node.odAbort_only
                  | with_reducible apply Node.turnAway_only | intro _ | split | dsimp -proj only | with_reducible apply with_vnt_only)

theorem Node.writeSignal_only {pt : Part} {n0 : Node}
    (hp : pt.off [.runs, .book, .cellar, .ina, .sessions, .presses, .host, .vnt, .out, .regs, .ram] = true) (n : Node) (p : Path) (irq : Bool)
    (k : Nat) (v : Nat) (h0 : n0.Same pt n) :
    n0.Same pt (Node.writeSignal n p irq k v) := by
  unfold Node.writeSignal
  repeat' (first | with_reducible assumption | exact Part.off_sub hp rfl | with_reducible apply Node.odEnd_only
                  | with_reducible apply Node.odAbort_only | with_reducible apply Node.hostSignal_only | intro _ | split)

theorem Node.storeEntry_only {pt : Part} {n0 : Node}
    (hp : pt.off [.power, .supply, .pins, .commits, .mc, .faults, .runs, .hiLatch, .winLatch, .timeLatch, .book, .trellis, .cellar, .ports,
        .ina, .flows, .sessions, .mdStarted, .presses, .images, .cans, .lineUnits, .blend, .time, .host, .outs, .pair, .vnt, .vault, .maint, .out,
        .regs, .shadow, .force, .ram] = true) (n : Node) (p : Path) (irq : Bool) (index sub : Nat) (e : OdEntry) (value : List Byte) (h0 : n0.Same
        pt n) :
    n0.Same pt (Node.storeEntry n p irq index sub e value) := by
  unfold Node.storeEntry
  repeat' (first | with_reducible assumption | exact Part.off_sub hp rfl | with_reducible apply Node.xabort_only
                  | with_reducible apply Node.odEnd_only | with_reducible apply Node.storeImmediate_only | with_reducible apply Node.odAct_only
                  | with_reducible apply Node.writeShadow_only | with_reducible apply Node.writeSignal_only | intro _ | split)

theorem Node.applyWrite_only {pt : Part} {n0 : Node}
    (hp : pt.off [.power, .supply, .pins, .commits, .mc, .faults, .runs, .hiLatch, .winLatch, .timeLatch, .book, .trellis, .cellar, .ports,
        .ina, .flows, .sessions, .mdStarted, .presses, .images, .cans, .lineUnits, .blend, .time, .host, .outs, .pair, .vnt, .vault, .maint, .out,
        .regs, .shadow, .force, .ram] = true) (n : Node) (p : Path) (irq : Bool) (index sub : Nat) (value : List Byte) (h0 : n0.Same pt n) :
    n0.Same pt (Node.applyWrite n p irq index sub value) := by
  unfold Node.applyWrite
  repeat' (first | with_reducible assumption | exact Part.off_sub hp rfl | with_reducible apply Node.odAbort_only
                  | with_reducible apply Node.authRespond_only | with_reducible apply Node.storeEntry_only | intro _ | split)

theorem Node.startTransfer_only {pt : Part} {n0 : Node}
    (hp : pt.off [.runs, .book, .cellar, .ina, .sessions, .presses, .host, .vnt, .out, .regs, .ram] = true) (n : Node) (p : Path) (irq : Bool)
    (index sub total : Nat) (seg : List Byte) (h0 : n0.Same pt n) :
    n0.Same pt (Node.startTransfer n p irq index sub total seg) := by
  unfold Node.startTransfer
  repeat' (first | with_reducible assumption | exact Part.off_sub hp rfl | with_reducible apply Node.putTransfer_only
                  | with_reducible apply Node.odEnd_only | with_reducible apply Node.odAbort_only | with_reducible apply Node.authRespond_only
                  | intro _ | split)

theorem Node.odStartWrite_only {pt : Part} {n0 : Node}
    (hp : pt.off [.power, .supply, .pins, .commits, .mc, .faults, .runs, .hiLatch, .winLatch, .timeLatch, .book, .trellis, .cellar, .ports,
        .ina, .flows, .sessions, .mdStarted, .presses, .images, .cans, .lineUnits, .blend, .time, .host, .outs, .pair, .vnt, .vault, .maint, .out,
        .regs, .shadow, .force, .ram] = true) (n : Node) (q : OdAsk) (seg : List Byte) (irq full : Bool) (h0 : n0.Same pt n) :
    n0.Same pt (Node.odStartWrite n q seg irq full) := by
  unfold Node.odStartWrite
  repeat' (first | with_reducible assumption | exact Part.off_sub hp rfl | with_reducible apply Node.dropTransfer_only
                  | with_reducible apply Node.serveAt_only | with_reducible apply Node.applyWrite_only
                  | with_reducible apply Node.startTransfer_only | intro _ | split)

theorem Node.sendMore_only {pt : Part} {n0 : Node}
    (hp : pt.off [.runs, .book, .cellar, .ina, .sessions, .presses, .host, .vnt, .out, .regs, .ram] = true) (n : Node) (t : Transfer) (irq : Bool)
    (h0 : n0.Same pt n) :
    n0.Same pt (Node.sendMore n t irq) := by
  unfold Node.sendMore
  repeat' (first | with_reducible assumption | exact Part.off_sub hp rfl | with_reducible apply Node.dropTransfer_only
                  | with_reducible apply Node.putTransfer_only | with_reducible apply Node.odReply_only | intro _ | split | dsimp -proj only)

theorem Node.takeMore_only {pt : Part} {n0 : Node}
    (hp : pt.off [.power, .supply, .pins, .commits, .mc, .faults, .runs, .hiLatch, .winLatch, .timeLatch, .book, .trellis, .cellar, .ports,
        .ina, .flows, .sessions, .mdStarted, .presses, .images, .cans, .lineUnits, .blend, .time, .host, .outs, .pair, .vnt, .vault, .maint, .out,
        .regs, .shadow, .force, .ram] = true) (n : Node) (t : Transfer) (seg : List Byte) (irq : Bool) (h0 : n0.Same pt n) :
    n0.Same pt (Node.takeMore n t seg irq) := by
  unfold Node.takeMore
  repeat' (first | with_reducible assumption | exact Part.off_sub hp rfl | with_reducible apply Node.dropTransfer_only
                  | with_reducible apply Node.putTransfer_only | with_reducible apply Node.odEnd_only | with_reducible apply Node.odAbort_only
                  | with_reducible apply Node.applyWrite_only | intro _ | split | dsimp -proj only)

theorem Node.odNext_only {pt : Part} {n0 : Node}
    (hp : pt.off [.power, .supply, .pins, .commits, .mc, .faults, .runs, .hiLatch, .winLatch, .timeLatch, .book, .trellis, .cellar, .ports,
        .ina, .flows, .sessions, .mdStarted, .presses, .images, .cans, .lineUnits, .blend, .time, .host, .outs, .pair, .vnt, .vault, .maint, .out,
        .regs, .shadow, .force, .ram] = true) (n : Node) (q : OdAsk) (seg : List Byte) (irq full : Bool) (h0 : n0.Same pt n) :
    n0.Same pt (Node.odNext n q seg irq full) := by
  unfold Node.odNext
  repeat' (first | with_reducible assumption | exact Part.off_sub hp rfl | with_reducible apply Node.dropTransfer_only
                  | with_reducible apply Node.odAbort_only | with_reducible apply Node.serveAt_only | with_reducible apply Node.sendMore_only
                  | with_reducible apply Node.takeMore_only | intro _ | split | dsimp -proj only)

theorem Node.odAbandon_only {pt : Part} {n0 : Node}
    (hp : pt.off [.runs, .book, .cellar, .ina, .sessions, .presses, .host, .vnt, .out, .regs, .ram] = true) (n : Node) (q : OdAsk) (irq full : Bool)
    (h0 : n0.Same pt n) :
    n0.Same pt (Node.odAbandon n q irq full) := by
  unfold Node.odAbandon
  repeat' (first | with_reducible assumption | exact Part.off_sub hp rfl | with_reducible apply Node.dropTransfer_only
                  | with_reducible apply Node.odEnd_only | with_reducible apply Node.serveAt_only | intro _)

theorem Node.odDescribe_only {pt : Part} {n0 : Node}
    (hp : pt.off [.runs, .book, .cellar, .ina, .sessions, .presses, .host, .vnt, .out, .regs, .ram] = true) (n : Node) (q : OdAsk) (irq full : Bool)
    (h0 : n0.Same pt n) :
    n0.Same pt (Node.odDescribe n q irq full) := by
  unfold Node.odDescribe
  repeat' (first | with_reducible assumption | exact Part.off_sub hp rfl | with_reducible apply Node.putWords_only
                  | with_reducible apply Node.odEnd_only | with_reducible apply Node.odAbort_only | with_reducible apply Node.odReply_only
                  | with_reducible apply Node.serveAt_only | intro _ | split)

theorem Node.serve_only {pt : Part} {n0 : Node}
    (hp : pt.off [.power, .supply, .pins, .commits, .mc, .faults, .runs, .hiLatch, .winLatch, .timeLatch, .book, .trellis, .cellar, .ports,
        .ina, .flows, .sessions, .mdStarted, .presses, .images, .cans, .lineUnits, .blend, .time, .host, .outs, .pair, .vnt, .vault, .maint, .out,
        .fresh, .regs, .shadow, .force, .ram] = true) (n : Node) (q : OdAsk) (data : List Byte) (irq full : Bool) (h0 : n0.Same pt n) :
    n0.Same pt (Node.serve n q data irq full) := by
  unfold Node.serve
  repeat' (first | with_reducible assumption | exact Part.off_sub hp rfl | with_reducible apply Node.when_only
                  | with_reducible apply Node.odStartRead_only | with_reducible apply Node.odStartWrite_only
                  | with_reducible apply Node.odNext_only | with_reducible apply Node.odAbandon_only | with_reducible apply Node.odDescribe_only
                  | intro _ | split)

theorem Node.countHeld_only {pt : Part} {n0 : Node} (hp : pt.off [.host, .regs] = true) (n : Node) (k : Nat) (h0 : n0.Same pt n) :
    n0.Same pt (Node.countHeld n k) := by
  unfold Node.countHeld
  repeat' (first | with_reducible assumption | exact Part.off_sub hp rfl | with_reducible apply Node.when_only
                  | with_reducible apply Node.xabort_only | intro _ | split)

theorem Node.readMap_only {pt : Part} {n0 : Node}
    (hp : pt.off [.runs, .book, .cellar, .ina, .sessions, .presses, .host, .vnt, .out, .regs, .ram] = true) (n : Node) (p : Path)
    (start count : Nat) (h0 : n0.Same pt n) :
    n0.Same pt (Node.readMap n p start count) := by
  unfold Node.readMap
  repeat' (first | with_reducible assumption | exact Part.off_sub hp rfl | with_reducible apply Node.each_only
                  | with_reducible apply Node.count_only | with_reducible apply Node.odAbort_only | with_reducible apply Node.odReply_only
                  | with_reducible apply Node.countHeld_only | intro _ | split | dsimp -proj only)

theorem Node.writeMap_only {pt : Part} {n0 : Node}
    (hp : pt.off [.power, .supply, .pins, .commits, .mc, .faults, .runs, .hiLatch, .winLatch, .timeLatch, .book, .trellis, .cellar, .ports,
        .ina, .flows, .sessions, .mdStarted, .presses, .images, .cans, .lineUnits, .blend, .time, .host, .outs, .pair, .vnt, .vault, .maint, .out,
        .regs, .shadow, .force, .ram] = true) (n : Node) (p : Path) (start : Nat) (seg : List Byte) (h0 : n0.Same pt n) :
    n0.Same pt (Node.writeMap n p start seg) := by
  unfold Node.writeMap
  repeat' (first | with_reducible assumption | exact Part.off_sub hp rfl | with_reducible apply Node.odAbort_only
                  | with_reducible apply Node.applyWrite_only | intro _ | split | dsimp -proj only)

theorem Node.writeBox_only {pt : Part} {n0 : Node}
    (hp : pt.off [.power, .supply, .pins, .commits, .mc, .faults, .runs, .hiLatch, .winLatch, .timeLatch, .book, .trellis, .cellar, .ports,
        .ina, .flows, .sessions, .mdStarted, .presses, .images, .cans, .lineUnits, .blend, .time, .host, .outs, .pair, .vnt, .vault, .maint, .out,
        .fresh, .regs, .shadow, .force, .ram] = true) (n : Node) (p : Path) (q start : Nat) (seg : List Byte) (full : Bool) (h0 : n0.Same pt n) :
    n0.Same pt (Node.writeBox n p q start seg full) := by
  unfold Node.writeBox
  repeat' (first | with_reducible assumption | exact Part.off_sub hp rfl | with_reducible apply Node.setT15Box_only
                  | with_reducible apply Node.odEnd_only | with_reducible apply Node.odAbort_only | with_reducible apply Node.odBusy_only
                  | with_reducible apply Node.serve_only | intro _ | split | dsimp -proj only)

theorem Node.readRegs_only {pt : Part} {n0 : Node}
    (hp : pt.off [.runs, .book, .cellar, .ina, .sessions, .presses, .host, .vnt, .out, .regs, .ram] = true) (n : Node) (p : Path)
    (q start count : Nat) (full : Bool) (h0 : n0.Same pt n) :
    n0.Same pt (Node.readRegs n p q start count full) := by
  unfold Node.readRegs
  repeat' (first | with_reducible assumption | exact Part.off_sub hp rfl | with_reducible apply Node.when_only
                  | with_reducible apply Node.count_only | with_reducible apply Node.setAsk_only | with_reducible apply Node.odReply_only
                  | with_reducible apply Node.serveAt_only | with_reducible apply Node.readMap_only | intro _ | split)

theorem Node.writeRegs_only {pt : Part} {n0 : Node}
    (hp : pt.off [.power, .supply, .pins, .commits, .mc, .faults, .runs, .hiLatch, .winLatch, .timeLatch, .book, .trellis, .cellar, .ports,
        .ina, .flows, .sessions, .mdStarted, .presses, .images, .cans, .lineUnits, .blend, .time, .host, .outs, .pair, .vnt, .vault, .maint, .out,
        .fresh, .regs, .shadow, .force, .ram] = true) (n : Node) (p : Path) (q start : Nat) (seg : List Byte) (full : Bool) (h0 : n0.Same pt n) :
    n0.Same pt (Node.writeRegs n p q start seg full) := by
  unfold Node.writeRegs
  repeat' (first | with_reducible assumption | exact Part.off_sub hp rfl | with_reducible apply Node.when_only
                  | with_reducible apply Node.count_only | with_reducible apply Node.setAsk_only | with_reducible apply Node.serveAt_only
                  | with_reducible apply Node.writeMap_only | with_reducible apply Node.writeBox_only | intro _ | split | dsimp -proj only)

theorem execOdRead_only {pt : Part}
    (hp : pt.off [.power, .supply, .pins, .commits, .mc, .faults, .runs, .hiLatch, .winLatch, .timeLatch, .book, .trellis, .cellar, .ports,
        .ina, .flows, .sessions, .mdStarted, .presses, .images, .cans, .lineUnits, .blend, .time, .host, .outs, .pair, .vnt, .vault, .maint, .out,
        .fresh, .regs, .shadow, .force, .ram] = true) (path : Path) (index : Half) (sub : Byte) (irq full : Bool) (regs : Option (Half × Half)) (s :
        State) (s' : State) (ht : execOdRead path index sub irq full regs s = .next s') :
    s.node.Same pt s'.node := by
  have h0 := Node.Same.refl pt s.node
  unfold execOdRead at ht
  refine State.upd_only ?_ ht
  repeat' (first | with_reducible assumption | exact Part.off_sub hp rfl | with_reducible apply Node.onPath_only
                  | with_reducible apply Node.serve_only | with_reducible apply Node.readRegs_only | intro _ | split)

theorem execOdWrite_only {pt : Part}
    (hp : pt.off [.power, .supply, .pins, .commits, .mc, .faults, .runs, .hiLatch, .winLatch, .timeLatch, .book, .trellis, .cellar, .ports,
        .ina, .flows, .sessions, .mdStarted, .presses, .images, .cans, .lineUnits, .blend, .time, .host, .outs, .pair, .vnt, .vault, .maint, .out,
        .fresh, .regs, .shadow, .force, .ram] = true) (path : Path) (index : Half) (sub : Byte) (total : Nat) (seg : List Byte) (irq full : Bool)
        (regs : Option Half) (s : State) (s' : State) (ht : execOdWrite path index sub total seg irq full regs s = .next s') :
    s.node.Same pt s'.node := by
  have h0 := Node.Same.refl pt s.node
  unfold execOdWrite at ht
  refine State.upd_only ?_ ht
  repeat' (first | with_reducible assumption | exact Part.off_sub hp rfl | with_reducible apply Node.onPath_only
                  | with_reducible apply Node.fillBox_only | with_reducible apply Node.fillTotal_only | with_reducible apply Node.serve_only
                  | with_reducible apply Node.writeRegs_only | intro _ | split)

theorem execOdNextSegment_only {pt : Part}
    (hp : pt.off [.power, .supply, .pins, .commits, .mc, .faults, .runs, .hiLatch, .winLatch, .timeLatch, .book, .trellis, .cellar, .ports,
        .ina, .flows, .sessions, .mdStarted, .presses, .images, .cans, .lineUnits, .blend, .time, .host, .outs, .pair, .vnt, .vault, .maint, .out,
        .fresh, .regs, .shadow, .force, .ram] = true) (path : Path) (toggle : Bool) (seg : List Byte) (irq full : Bool) (s : State) (s' : State) (ht
        : execOdNextSegment path toggle seg irq full s = .next s') :
    s.node.Same pt s'.node := by
  have h0 := Node.Same.refl pt s.node
  unfold execOdNextSegment at ht
  refine State.upd_only ?_ ht
  repeat' (first | with_reducible assumption | exact Part.off_sub hp rfl | with_reducible apply Node.when_only
                  | with_reducible apply Node.onPath_only | with_reducible apply Node.fillBox_only | with_reducible apply Node.serve_only
                  | intro _)

theorem execOdAbortTransfer_only {pt : Part}
    (hp : pt.off [.power, .supply, .pins, .commits, .mc, .faults, .runs, .hiLatch, .winLatch, .timeLatch, .book, .trellis, .cellar, .ports,
        .ina, .flows, .sessions, .mdStarted, .presses, .images, .cans, .lineUnits, .blend, .time, .host, .outs, .pair, .vnt, .vault, .maint, .out,
        .fresh, .regs, .shadow, .force, .ram] = true) (path : Path) (s : State) (s' : State) (ht : execOdAbortTransfer path s = .next s') :
    s.node.Same pt s'.node := by
  have h0 := Node.Same.refl pt s.node
  unfold execOdAbortTransfer at ht
  refine State.upd_only ?_ ht
  repeat' (first | with_reducible assumption | exact Part.off_sub hp rfl | with_reducible apply Node.onPath_only
                  | with_reducible apply Node.serve_only | intro _)

theorem execOdDescribe_only {pt : Part}
    (hp : pt.off [.power, .supply, .pins, .commits, .mc, .faults, .runs, .hiLatch, .winLatch, .timeLatch, .book, .trellis, .cellar, .ports,
        .ina, .flows, .sessions, .mdStarted, .presses, .images, .cans, .lineUnits, .blend, .time, .host, .outs, .pair, .vnt, .vault, .maint, .out,
        .fresh, .regs, .shadow, .force, .ram] = true) (path : Path) (index : Half) (sub : Byte) (irq full : Bool) (s : State) (s' : State) (ht :
        execOdDescribe path index sub irq full s = .next s') :
    s.node.Same pt s'.node := by
  have h0 := Node.Same.refl pt s.node
  unfold execOdDescribe at ht
  refine State.upd_only ?_ ht
  repeat' (first | with_reducible assumption | exact Part.off_sub hp rfl | with_reducible apply Node.onPath_only
                  | with_reducible apply Node.serve_only | intro _)

theorem execSegmentTimeout_only {pt : Part} (hp : pt.off [.runs, .book, .cellar, .ina, .sessions, .presses, .host, .vnt, .out, .regs, .ram] = true)
    (path : Path) (s : State) (s' : State) (ht : execSegmentTimeout path s = .next s') :
    s.node.Same pt s'.node := by
  have h0 := Node.Same.refl pt s.node
  unfold execSegmentTimeout at ht
  refine State.upd_only ?_ ht
  repeat' (first | with_reducible assumption | exact Part.off_sub hp rfl | with_reducible apply Node.when_only
                  | with_reducible apply Node.count_only | with_reducible apply Node.raise_only | with_reducible apply Node.dropTransfer_only
                  | with_reducible apply Node.odAbort_only | intro _ | split)

theorem execAuthChallengeRead_only {pt : Part}
    (hp : pt.off [.power, .supply, .pins, .commits, .mc, .faults, .runs, .hiLatch, .winLatch, .timeLatch, .book, .trellis, .cellar, .ports,
        .ina, .flows, .sessions, .mdStarted, .presses, .images, .cans, .lineUnits, .blend, .time, .host, .outs, .pair, .vnt, .vault, .maint, .out,
        .fresh, .regs, .shadow, .force, .ram] = true) (path : Path) (s : State) (s' : State) (ht : execAuthChallengeRead path s = .next s') :
    s.node.Same pt s'.node := by
  have h0 := Node.Same.refl pt s.node
  unfold execAuthChallengeRead at ht
  refine State.upd_only ?_ ht
  repeat' (first | with_reducible assumption | exact Part.off_sub hp rfl | with_reducible apply Node.onPath_only
                  | with_reducible apply Node.serve_only | intro _)

theorem execAuthRoleRequest_only {pt : Part}
    (hp : pt.off [.power, .supply, .pins, .commits, .mc, .faults, .runs, .hiLatch, .winLatch, .timeLatch, .book, .trellis, .cellar, .ports,
        .ina, .flows, .sessions, .mdStarted, .presses, .images, .cans, .lineUnits, .blend, .time, .host, .outs, .pair, .vnt, .vault, .maint, .out,
        .fresh, .regs, .shadow, .force, .ram] = true) (path : Path) (role : Byte) (s : State) (s' : State) (ht : execAuthRoleRequest path role s =
        .next s') :
    s.node.Same pt s'.node := by
  have h0 := Node.Same.refl pt s.node
  unfold execAuthRoleRequest at ht
  refine State.upd_only ?_ ht
  repeat' (first | with_reducible assumption | exact Part.off_sub hp rfl | with_reducible apply Node.onPath_only
                  | with_reducible apply Node.serve_only | intro _)

theorem execAuthResponse_only {pt : Part}
    (hp : pt.off [.power, .supply, .pins, .commits, .mc, .faults, .runs, .hiLatch, .winLatch, .timeLatch, .book, .trellis, .cellar, .ports,
        .ina, .flows, .sessions, .mdStarted, .presses, .images, .cans, .lineUnits, .blend, .time, .host, .outs, .pair, .vnt, .vault, .maint, .out,
        .fresh, .regs, .shadow, .force, .ram] = true) (path : Path) (response : BitVec 256) (s : State) (s' : State) (ht : execAuthResponse path
        response s = .next s') :
    s.node.Same pt s'.node := by
  have h0 := Node.Same.refl pt s.node
  unfold execAuthResponse at ht
  refine State.upd_only ?_ ht
  repeat' (first | with_reducible assumption | exact Part.off_sub hp rfl | with_reducible apply Node.onPath_only
                  | with_reducible apply Node.serve_only | intro _)

theorem execRestoreDefaults_only {pt : Part}
    (hp : pt.off [.power, .supply, .pins, .commits, .mc, .faults, .runs, .hiLatch, .winLatch, .timeLatch, .book, .trellis, .cellar, .ports,
        .ina, .flows, .sessions, .mdStarted, .presses, .images, .cans, .lineUnits, .blend, .time, .host, .outs, .pair, .vnt, .vault, .maint, .out,
        .fresh, .regs, .shadow, .force, .ram] = true) (path : Path) (v : Half) (s : State) (s' : State) (ht : execRestoreDefaults path v s = .next
        s') :
    s.node.Same pt s'.node := by
  have h0 := Node.Same.refl pt s.node
  unfold execRestoreDefaults at ht
  refine State.upd_only ?_ ht
  repeat' (first | with_reducible assumption | exact Part.off_sub hp rfl | with_reducible apply Node.onPath_only
                  | with_reducible apply Node.serve_only | intro _)

theorem execAuthLockExpiry_only {pt : Part} (hp : pt.off [.vnt] = true) (path : Path) (s : State) (s' : State)
    (ht : execAuthLockExpiry path s = .next s') :
    s.node.Same pt s'.node := by
  have h0 := Node.Same.refl pt s.node
  unfold execAuthLockExpiry at ht
  refine State.upd_only ?_ ht
  repeat' (first | with_reducible assumption | exact Part.off_sub hp rfl | intro _ | split | dsimp -proj only
                  | with_reducible apply with_vnt_only)

theorem execSessionIdleLapse_only {pt : Part} (hp : pt.off [.book, .sessions, .host, .vnt, .vault, .regs] = true) (path : Path) (s : State)
    (s' : State) (ht : execSessionIdleLapse path s = .next s') :
    s.node.Same pt s'.node := by
  have h0 := Node.Same.refl pt s.node
  unfold execSessionIdleLapse at ht
  refine State.upd_only ?_ ht
  repeat' (first | with_reducible assumption | exact Part.off_sub hp rfl | with_reducible apply Node.when_only
                  | with_reducible apply Node.lapse_only | intro _)

theorem Node.closePath_only {pt : Part} {n0 : Node} (hp : pt.off [.book, .sessions, .host, .vnt, .vault, .regs] = true) (n : Node) (p : Path)
    (h0 : n0.Same pt n) :
    n0.Same pt (Node.closePath n p) := by
  unfold Node.closePath
  repeat' (first | with_reducible assumption | exact Part.off_sub hp rfl | with_reducible apply Node.endSession_only
                  | with_reducible apply Node.dropWaits_only | with_reducible apply Node.dropTransfer_only | with_reducible apply Node.lapse_only)

theorem execConnectionClosed_only {pt : Part} (hp : pt.off [.book, .sessions, .host, .vnt, .vault, .regs] = true) (path : Path) (s : State)
    (s' : State) (ht : execConnectionClosed path s = .next s') :
    s.node.Same pt s'.node := by
  have h0 := Node.Same.refl pt s.node
  unfold execConnectionClosed at ht
  refine State.upd_only ?_ ht
  repeat' (first | with_reducible assumption | exact Part.off_sub hp rfl | with_reducible apply Node.when_only
                  | with_reducible apply Node.closePath_only | intro _)

theorem execMaintMessage_only {pt : Part}
    (hp : pt.off [.power, .supply, .pins, .commits, .mc, .faults, .runs, .hiLatch, .winLatch, .timeLatch, .book, .trellis, .cellar, .ports,
        .ina, .flows, .sessions, .mdStarted, .presses, .images, .cans, .lineUnits, .blend, .time, .host, .outs, .pair, .vnt, .vault, .maint, .out,
        .fresh, .regs, .shadow, .force, .ram] = true) (conn : Nat) (counter : DWord) (tagOk : Bool) (op : Byte) (toggle : Bool) (index : Half) (sub
        : Byte) (total : Nat) (data : List Byte) (s : State) (s' : State) (ht : execMaintMessage conn counter tagOk op toggle index sub total data s
        = .next s') :
    s.node.Same pt s'.node := by
  have h0 := Node.Same.refl pt s.node
  unfold execMaintMessage at ht
  refine State.upd_only ?_ ht
  repeat' (first | with_reducible assumption | exact Part.off_sub hp rfl | with_reducible apply Node.when_only
                  | with_reducible apply Node.count_only | with_reducible apply Node.raise_only | with_reducible apply Node.setSession_only
                  | with_reducible apply Node.serve_only | with_reducible apply Node.closePath_only | intro _ | split | dsimp -proj only)

theorem Node.trdpServe_only {pt : Part} {n0 : Node}
    (hp : pt.off [.power, .supply, .pins, .commits, .mc, .faults, .runs, .hiLatch, .winLatch, .timeLatch, .book, .trellis, .cellar, .ports,
        .ina, .flows, .sessions, .mdStarted, .presses, .images, .cans, .lineUnits, .blend, .time, .host, .outs, .pair, .vnt, .vault, .maint, .out,
        .fresh, .regs, .shadow, .force, .ram] = true) (n : Node) (t : Telegram) (h0 : n0.Same pt n) :
    n0.Same pt (Node.trdpServe n t) := by
  unfold Node.trdpServe
  repeat' (first | with_reducible assumption | exact Part.off_sub hp rfl | with_reducible apply Node.when_only
                  | with_reducible apply Node.serve_only | intro _)

theorem execMdRequestReceived_only {pt : Part}
    (hp : pt.off [.power, .supply, .pins, .commits, .mc, .faults, .runs, .hiLatch, .winLatch, .timeLatch, .book, .trellis, .cellar, .ports,
        .ina, .flows, .sessions, .mdStarted, .presses, .images, .cans, .lineUnits, .blend, .time, .host, .outs, .pair, .vnt, .vault, .maint, .out,
        .fresh, .regs, .shadow, .force, .ram] = true) (t : Telegram) (s : State) (s' : State) (ht : execMdRequestReceived t s = .next s') :
    s.node.Same pt s'.node := by
  have h0 := Node.Same.refl pt s.node
  unfold execMdRequestReceived at ht
  refine State.upd_only ?_ ht
  repeat' (first | with_reducible assumption | exact Part.off_sub hp rfl | with_reducible apply Node.when_only
                  | with_reducible apply Node.arriveMd_only | with_reducible apply Node.forVintner_only | with_reducible apply Node.request_only
                  | with_reducible apply Node.trdpServe_only | intro _)

theorem Node.mailCommand_only {pt : Part} {n0 : Node}
    (hp : pt.off [.power, .supply, .pins, .commits, .mc, .faults, .runs, .hiLatch, .winLatch, .timeLatch, .book, .trellis, .cellar, .ports,
        .ina, .flows, .sessions, .mdStarted, .presses, .images, .cans, .lineUnits, .blend, .time, .host, .outs, .pair, .vnt, .vault, .maint, .out,
        .fresh, .regs, .shadow, .force, .ram] = true) (n : Node) (m : Nat) (v : Word) (h0 : n0.Same pt n) :
    n0.Same pt (Node.mailCommand n m v) := by
  unfold Node.mailCommand
  repeat' (first | with_reducible assumption | exact Part.off_sub hp rfl | with_reducible apply Node.when_only
                  | with_reducible apply Node.serve_only | intro _)

theorem Node.putWhole_only {pt : Part} {n0 : Node}
    (hp : pt.off [.power, .supply, .pins, .commits, .mc, .faults, .runs, .hiLatch, .winLatch, .timeLatch, .book, .trellis, .cellar, .ports,
        .ina, .flows, .sessions, .mdStarted, .presses, .images, .cans, .lineUnits, .blend, .time, .host, .outs, .pair, .vnt, .vault, .maint, .out,
        .fresh, .regs, .shadow, .force, .ram] = true) (n : Node) (by_ : Initiator) (a : Nat) (v : Word) (h0 : n0.Same pt n) :
    n0.Same pt (Node.putWhole n by_ a v).1 := by
  unfold Node.putWhole
  repeat' (first | with_reducible assumption | exact Part.off_sub hp rfl | with_reducible apply Node.xabort_only
                  | with_reducible apply Node.dropHeld_only | with_reducible apply Node.assign_only | with_reducible apply Node.mailCommand_only
                  | intro _ | split | dsimp -proj only)

theorem Node.putPart_only {pt : Part} {n0 : Node}
    (hp : pt.off [.power, .supply, .pins, .commits, .mc, .faults, .runs, .hiLatch, .winLatch, .timeLatch, .book, .trellis, .cellar, .ports,
        .ina, .flows, .sessions, .mdStarted, .presses, .images, .cans, .lineUnits, .blend, .time, .host, .outs, .pair, .vnt, .vault, .maint, .out,
        .fresh, .regs, .shadow, .force, .ram] = true) (n : Node) (by_ : Initiator) (a k : Nat) (data : List Byte) (h0 : n0.Same pt n) :
    n0.Same pt (Node.putPart n by_ a k data).1 := by
  unfold Node.putPart
  repeat' (first | with_reducible assumption | exact Part.off_sub hp rfl | with_reducible apply Node.assign_only
                  | with_reducible apply Node.narrow_only | with_reducible apply Node.putWhole_only | intro _ | split)

theorem Node.putBlock_only {pt : Part} {n0 : Node}
    (hp : pt.off [.power, .supply, .pins, .commits, .mc, .faults, .runs, .hiLatch, .winLatch, .timeLatch, .book, .trellis, .cellar, .ports,
        .ina, .flows, .sessions, .mdStarted, .presses, .images, .cans, .lineUnits, .blend, .time, .host, .outs, .pair, .vnt, .vault, .maint, .out,
        .fresh, .regs, .shadow, .force, .ram] = true) (n : Node) (by_ : Initiator) (a : Nat) (data : List Byte) (h0 : n0.Same pt n) :
    n0.Same pt (Node.putBlock n by_ a data).1 := by
  unfold Node.putBlock
  repeat' (first | with_reducible assumption | exact Part.off_sub hp rfl | with_reducible apply Node.xabort_only
                  | with_reducible apply Node.dropHeld_only | with_reducible apply Node.bufferBytes_only | with_reducible apply Node.putPart_only
                  | with_reducible apply foldl_only | with_reducible apply foldlPair_only | intro _ | split | dsimp -proj only)

theorem Node.putSpan_only {pt : Part} {n0 : Node}
    (hp : pt.off [.power, .supply, .pins, .commits, .mc, .faults, .runs, .hiLatch, .winLatch, .timeLatch, .book, .trellis, .cellar, .ports,
        .ina, .flows, .sessions, .mdStarted, .presses, .images, .cans, .lineUnits, .blend, .time, .host, .outs, .pair, .vnt, .vault, .maint, .out,
        .fresh, .regs, .shadow, .force, .ram] = true) (n : Node) (by_ : Initiator) (a : Nat) (data : List Byte) (h0 : n0.Same pt n) :
    n0.Same pt (Node.putSpan n by_ a data).1 := by
  unfold Node.putSpan
  repeat' (first | with_reducible assumption | exact Part.off_sub hp rfl | with_reducible apply Node.putBlock_only
                  | with_reducible apply foldl_only | with_reducible apply foldlPair_only | intro _ | split)

theorem Node.getSpan_only {pt : Part} {n0 : Node} (hp : pt.off [.pins, .runs, .hiLatch, .winLatch, .timeLatch, .host, .out, .fresh, .regs] = true)
    (n : Node) (by_ : Initiator) (a len : Nat) (h0 : n0.Same pt n) :
    n0.Same pt (Node.getSpan n by_ a len).1 := by
  unfold Node.getSpan
  repeat' (first | with_reducible assumption | exact Part.off_sub hp rfl | with_reducible apply Node.fetch_only
                  | with_reducible apply foldl_only | with_reducible apply foldlPair_only | intro _ | split)

theorem execRegisterWrite_only {pt : Part}
    (hp : pt.off [.power, .supply, .pins, .commits, .mc, .faults, .runs, .hiLatch, .winLatch, .timeLatch, .book, .trellis, .cellar, .ports,
        .ina, .flows, .sessions, .mdStarted, .presses, .images, .cans, .lineUnits, .blend, .time, .host, .outs, .pair, .vnt, .vault, .maint, .out,
        .fresh, .regs, .shadow, .force, .ram] = true) (by_ : Initiator) (addr : Nat) (v : Word) (s : State) (s' : State) (ht : execRegisterWrite by_
        addr v s = .next s') :
    s.node.Same pt s'.node := by
  have h0 := Node.Same.refl pt s.node
  unfold execRegisterWrite at ht
  refine State.upd_only ?_ ht
  repeat' (first | with_reducible assumption | exact Part.off_sub hp rfl | with_reducible apply Node.putWhole_only | intro _
                  | split)

theorem Node.imageBytes_only {pt : Part} {n0 : Node} (hp : pt.off [.regs, .ram] = true) (n : Node) (a : Nat) (bytes : List Byte) (h0 : n0.Same
    pt n) :
    n0.Same pt (Node.imageBytes n a bytes) := by
  unfold Node.imageBytes
  repeat' (first | with_reducible assumption | exact Part.off_sub hp rfl | with_reducible apply Node.when_only
                  | with_reducible apply Node.each_only | with_reducible apply Node.count_only | with_reducible apply Node.putBytes_only
                  | with_reducible apply Node.outExchange_only | intro _ | split | dsimp -proj only)

theorem Node.boxBytes_only {pt : Part} {n0 : Node}
    (hp : pt.off [.power, .supply, .pins, .commits, .mc, .faults, .runs, .hiLatch, .winLatch, .timeLatch, .book, .trellis, .cellar, .ports,
        .ina, .flows, .sessions, .mdStarted, .presses, .images, .cans, .lineUnits, .blend, .time, .host, .outs, .pair, .vnt, .vault, .maint, .out,
        .fresh, .regs, .shadow, .force, .ram] = true) (n : Node) (a : Nat) (bytes : List Byte) (h0 : n0.Same pt n) :
    n0.Same pt (Node.boxBytes n a bytes) := by
  unfold Node.boxBytes
  repeat' (first | with_reducible assumption | exact Part.off_sub hp rfl | with_reducible apply Node.each_only
                  | with_reducible apply Node.count_only | with_reducible apply Node.putBytes_only | with_reducible apply Node.raise_only
                  | with_reducible apply Node.storeReg_only | with_reducible apply Node.mailCommand_only | intro _ | split)

theorem Node.storeBytes_only {pt : Part} {n0 : Node} (hp : pt.off [.book, .host, .regs] = true) (n : Node) (a : Nat) (bytes : List Byte)
    (h0 : n0.Same pt n) :
    n0.Same pt (Node.storeBytes n a bytes) := by
  unfold Node.storeBytes
  repeat' (first | with_reducible assumption | exact Part.off_sub hp rfl | with_reducible apply Node.each_only
                  | with_reducible apply Node.hostSignal_only | intro _)

theorem Node.stagingBytes_only {pt : Part} {n0 : Node} (hp : pt.off [.runs, .book, .host, .outs, .regs] = true) (n : Node) (owner : FabricOwner)
    (a : Nat) (bytes : List Byte) (h0 : n0.Same pt n) :
    n0.Same pt (Node.stagingBytes n owner a bytes) := by
  unfold Node.stagingBytes
  repeat' (first | with_reducible assumption | exact Part.off_sub hp rfl | with_reducible apply Node.each_only
                  | with_reducible apply Node.putCommand_only | with_reducible apply Node.hostCommand_only | intro _ | split)

theorem Node.engineWrite_only {pt : Part} {n0 : Node}
    (hp : pt.off [.power, .supply, .pins, .commits, .mc, .faults, .runs, .hiLatch, .winLatch, .timeLatch, .book, .trellis, .cellar, .ports,
        .ina, .flows, .sessions, .mdStarted, .presses, .images, .cans, .lineUnits, .blend, .time, .host, .outs, .pair, .vnt, .vault, .maint, .out,
        .fresh, .regs, .shadow, .force, .ram] = true) (n : Node) (owner : FabricOwner) (target : FabricTarget) (ofs : Nat) (bytes : List Byte) (h0 :
        n0.Same pt n) :
    n0.Same pt (Node.engineWrite n owner target ofs bytes) := by
  unfold Node.engineWrite
  repeat' (first | with_reducible assumption | exact Part.off_sub hp rfl | with_reducible apply Node.putBytes_only
                  | with_reducible apply Node.bufferBytes_only | with_reducible apply Node.imageBytes_only
                  | with_reducible apply Node.boxBytes_only | with_reducible apply Node.storeBytes_only
                  | with_reducible apply Node.stagingBytes_only | intro _ | split)

theorem Node.fabricMove_only {pt : Part} {n0 : Node}
    (hp : pt.off [.power, .supply, .pins, .commits, .mc, .faults, .runs, .hiLatch, .winLatch, .timeLatch, .book, .trellis, .cellar, .ports,
        .ina, .flows, .sessions, .mdStarted, .presses, .images, .cans, .lineUnits, .blend, .time, .host, .outs, .pair, .vnt, .vault, .maint, .out,
        .fresh, .regs, .shadow, .force, .ram] = true) (n : Node) (owner : FabricOwner) (target : FabricTarget) (write : Bool) (ofs : Nat) (bytes :
        List Byte) (len : Nat) (h0 : n0.Same pt n) :
    n0.Same pt (Node.fabricMove n owner target write ofs bytes len) := by
  unfold Node.fabricMove
  repeat' (first | with_reducible assumption | exact Part.off_sub hp rfl | with_reducible apply Node.emit_only
                  | with_reducible apply Node.putSpan_only | with_reducible apply Node.getSpan_only | with_reducible apply Node.engineWrite_only
                  | intro _ | split)

theorem Node.fabricFails_only {pt : Part} {n0 : Node} (hp : pt.off [.host, .out, .regs] = true) (n : Node) (owner : FabricOwner)
    (target : FabricTarget) (write : Bool) (ofs len : Nat) (h0 : n0.Same pt n) :
    n0.Same pt (Node.fabricFails n owner target write ofs len) := by
  unfold Node.fabricFails
  repeat' (first | with_reducible assumption | exact Part.off_sub hp rfl | with_reducible apply Node.when_only
                  | with_reducible apply Node.each_only | with_reducible apply Node.emit_only | with_reducible apply Node.xabort_only | intro _)

theorem Node.fabricTurn_only {pt : Part} {n0 : Node} (hp : pt.off [.trellis] = true) (n : Node) (owner : FabricOwner) (h0 : n0.Same pt n) :
    n0.Same pt (Node.fabricTurn n owner) := by
  unfold Node.fabricTurn
  repeat' (first | with_reducible assumption | exact Part.off_sub hp rfl | intro _ | split | dsimp -proj only
                  | with_reducible apply with_trellis_only)

theorem execFabricTransaction_only {pt : Part}
    (hp : pt.off [.power, .supply, .pins, .commits, .mc, .faults, .runs, .hiLatch, .winLatch, .timeLatch, .book, .trellis, .cellar, .ports,
        .ina, .flows, .sessions, .mdStarted, .presses, .images, .cans, .lineUnits, .blend, .time, .host, .outs, .pair, .vnt, .vault, .maint, .out,
        .fresh, .regs, .shadow, .force, .ram] = true) (owner : FabricOwner) (slot : Fin 16) (target : FabricTarget) (write : Bool) (ofs : Nat)
        (bytes : List Byte) (len : Nat) (s : State) (s' : State) (ht : execFabricTransaction owner slot target write ofs bytes len s = .next s') :
    s.node.Same pt s'.node := by
  have h0 := Node.Same.refl pt s.node
  unfold execFabricTransaction at ht
  refine State.upd_only ?_ ht
  repeat' (first | with_reducible assumption | exact Part.off_sub hp rfl | with_reducible apply Node.when_only
                  | with_reducible apply Node.each_only | with_reducible apply Node.emit_only | with_reducible apply Node.fabricMove_only
                  | with_reducible apply Node.fabricFails_only | with_reducible apply Node.fabricTurn_only | intro _ | split | dsimp -proj only)

theorem Node.sendOnVp_only {pt : Part} {n0 : Node} (hp : pt.off [.out] = true) (n : Node) (e : Emission) (h0 : n0.Same pt n) :
    n0.Same pt (Node.sendOnVp n e) := by
  unfold Node.sendOnVp
  repeat' (first | with_reducible assumption | exact Part.off_sub hp rfl | with_reducible apply Node.when_only
                  | with_reducible apply Node.emit_only | intro _)

theorem execRemoteRequest_only {pt : Part}
    (hp : pt.off [.power, .supply, .pins, .commits, .mc, .faults, .runs, .hiLatch, .winLatch, .timeLatch, .book, .trellis, .cellar, .ports,
        .ina, .flows, .sessions, .mdStarted, .presses, .images, .cans, .lineUnits, .blend, .time, .host, .outs, .pair, .vnt, .vault, .maint, .out,
        .fresh, .regs, .shadow, .force, .ram] = true) (src : Ip) (write : Bool) (ofs len : Nat) (data : List Byte) (s : State) (s' : State) (ht :
        execRemoteRequest src write ofs len data s = .next s') :
    s.node.Same pt s'.node := by
  have h0 := Node.Same.refl pt s.node
  unfold execRemoteRequest at ht
  refine State.upd_only ?_ ht
  repeat' (first | with_reducible assumption | exact Part.off_sub hp rfl | with_reducible apply Node.when_only
                  | with_reducible apply Node.count_only | with_reducible apply Node.raise_only | with_reducible apply Node.putSpan_only
                  | with_reducible apply Node.getSpan_only | with_reducible apply Node.sendOnVp_only | intro _ | split)

theorem Node.addLine_only {pt : Part} {n0 : Node} (hp : pt.off [.book, .host, .regs] = true) (n : Node) (l : PrefetchLine) (h0 : n0.Same pt n) :
    n0.Same pt (Node.addLine n l) := by
  unfold Node.addLine
  repeat' (first | with_reducible assumption | exact Part.off_sub hp rfl | with_reducible apply Node.when_only
                  | with_reducible apply Node.dropLines_only | intro _ | split | dsimp -proj only | with_reducible apply with_host_only)

theorem Node.lineRead_only {pt : Part} {n0 : Node} (hp : pt.off [.host] = true) (n : Node) (l : PrefetchLine) (h0 : n0.Same pt n) :
    n0.Same pt (Node.lineRead n l) := by
  unfold Node.lineRead
  repeat' (first | with_reducible assumption | exact Part.off_sub hp rfl | intro _ | split | dsimp -proj only
                  | with_reducible apply with_host_only)

theorem Node.prefetchBar0_only {pt : Part} {n0 : Node}
    (hp : pt.off [.pins, .runs, .hiLatch, .winLatch, .timeLatch, .book, .host, .out, .fresh, .regs] = true) (n : Node) (ofs len : Nat)
    (h0 : n0.Same pt n) :
    n0.Same pt (Node.prefetchBar0 n ofs len) := by
  unfold Node.prefetchBar0
  repeat' (first | with_reducible assumption | exact Part.off_sub hp rfl | with_reducible apply Node.when_only
                  | with_reducible apply Node.count_only | with_reducible apply Node.getSpan_only | with_reducible apply Node.addLine_only
                  | intro _ | split | dsimp -proj only)

theorem Node.prefetchBar2_only {pt : Part} {n0 : Node} (hp : pt.off [.book, .host, .regs] = true) (n : Node) (ofs len : Nat) (extra : List Byte)
    (effect : Bool) (h0 : n0.Same pt n) :
    n0.Same pt (Node.prefetchBar2 n ofs len extra effect) := by
  unfold Node.prefetchBar2
  repeat' (first | with_reducible assumption | exact Part.off_sub hp rfl | with_reducible apply Node.when_only
                  | with_reducible apply Node.addLine_only | intro _)

theorem Node.remoteFailed_only {pt : Part} {n0 : Node} (hp : pt.off [.book, .host, .regs] = true) (n : Node) (ofs : Nat) (h0 : n0.Same pt n) :
    n0.Same pt (Node.remoteFailed n ofs) := by
  unfold Node.remoteFailed
  repeat' (first | with_reducible assumption | exact Part.off_sub hp rfl | with_reducible apply Node.count_only
                  | with_reducible apply Node.raise_only)

theorem Node.toField_only {pt : Part} {n0 : Node} (hp : pt.off [.host, .out, .regs] = true) (n : Node) (ofs len : Nat) (write : Bool)
    (far : FarReply) (h0 : n0.Same pt n) :
    n0.Same pt (Node.toField n ofs len write far) := by
  unfold Node.toField
  repeat' (first | with_reducible assumption | exact Part.off_sub hp rfl | with_reducible apply Node.xabort_only
                  | with_reducible apply Node.fieldParts_only | intro _ | split)

theorem Node.sendRemote_only {pt : Part} {n0 : Node} (hp : pt.off [.runs, .book, .cellar, .ina, .presses, .host, .out, .fresh, .regs] = true)
    (n : Node) (a ofs len : Nat) (write : Bool) (data : List Byte) (h0 : n0.Same pt n) :
    n0.Same pt (Node.sendRemote n a ofs len write data) := by
  unfold Node.sendRemote
  repeat' (first | with_reducible assumption | exact Part.off_sub hp rfl | with_reducible apply Node.when_only
                  | with_reducible apply Node.took_only | with_reducible apply Node.emit_only | with_reducible apply Node.inject_only | intro _)

theorem Node.toRemote_only {pt : Part} {n0 : Node} (hp : pt.off [.runs, .book, .cellar, .ina, .presses, .host, .out, .fresh, .regs] = true)
    (n : Node) (ofs len : Nat) (write : Bool) (data : List Byte) (far : FarReply) (h0 : n0.Same pt n) :
    n0.Same pt (Node.toRemote n ofs len write data far) := by
  unfold Node.toRemote
  repeat' (first | with_reducible assumption | exact Part.off_sub hp rfl | with_reducible apply Node.each_only
                  | with_reducible apply Node.remoteFailed_only | with_reducible apply Node.sendRemote_only | intro _ | split)

theorem Node.toFar_only {pt : Part} {n0 : Node} (hp : pt.off [.runs, .book, .cellar, .ina, .presses, .host, .out, .fresh, .regs] = true) (n : Node)
    (ofs len : Nat) (write : Bool) (data : List Byte) (far : FarReply) (h0 : n0.Same pt n) :
    n0.Same pt (Node.toFar n ofs len write data far) := by
  unfold Node.toFar
  repeat' (first | with_reducible assumption | exact Part.off_sub hp rfl | with_reducible apply Node.toField_only
                  | with_reducible apply Node.toRemote_only | intro _ | split)

theorem Node.bar0Error_only {pt : Part} {n0 : Node} (hp : pt.off [.pins, .runs, .hiLatch, .winLatch, .timeLatch, .host, .out, .fresh, .regs] = true)
    (n : Node) (ofs len done : Nat) (h0 : n0.Same pt n) :
    n0.Same pt (Node.bar0Error n ofs len done).1 := by
  unfold Node.bar0Error
  repeat' (first | with_reducible assumption | exact Part.off_sub hp rfl | with_reducible apply Node.getSpan_only)

theorem Node.hostFetch_only {pt : Part} {n0 : Node}
    (hp : pt.off [.pins, .runs, .hiLatch, .winLatch, .timeLatch, .book, .cellar, .ina, .presses, .host, .out, .fresh, .regs] = true) (n : Node)
    (bar : Bar) (ofs len : Nat) (far : FarReply) (h0 : n0.Same pt n) :
    n0.Same pt (Node.hostFetch n bar ofs len far).1 := by
  unfold Node.hostFetch
  repeat' (first | with_reducible assumption | exact Part.off_sub hp rfl | with_reducible apply Node.getSpan_only
                  | with_reducible apply Node.lineRead_only | with_reducible apply Node.prefetchBar0_only
                  | with_reducible apply Node.prefetchBar2_only | with_reducible apply Node.toFar_only | with_reducible apply Node.bar0Error_only
                  | intro _ | split | dsimp -proj only)

theorem Node.outstanding_only {pt : Part} {n0 : Node} (hp : pt.off [.host] = true) (n : Node) (bar : Bar) (ofs len : Nat) (data : Option
    (List Byte)) (h0 : n0.Same pt n) :
    n0.Same pt (Node.outstanding n bar ofs len data) := by
  unfold Node.outstanding
  repeat' (first | with_reducible assumption | exact Part.off_sub hp rfl | intro _ | split | dsimp -proj only
                  | with_reducible apply with_host_only)

theorem Node.remoteDone_only {pt : Part} {n0 : Node} (hp : pt.off [.host] = true) (n : Node) (bar : Bar) (ofs : Nat) (h0 : n0.Same pt n) :
    n0.Same pt (Node.remoteDone n bar ofs) := by
  unfold Node.remoteDone
  repeat' (first | with_reducible assumption | exact Part.off_sub hp rfl | with_reducible apply Node.when_only | intro _ | split
                  | dsimp -proj only | with_reducible apply with_host_only)

theorem execHostRead_only {pt : Part}
    (hp : pt.off [.pins, .runs, .hiLatch, .winLatch, .timeLatch, .book, .cellar, .ina, .presses, .host, .out, .fresh, .regs] = true) (bar : Bar)
    (ofs len : Nat) (far : FarReply) (s : State) (s' : State) (ht : execHostRead bar ofs len far s = .next s') :
    s.node.Same pt s'.node := by
  have h0 := Node.Same.refl pt s.node
  unfold execHostRead at ht
  refine State.upd_only ?_ ht
  repeat' (first | with_reducible assumption | exact Part.off_sub hp rfl | with_reducible apply Node.when_only
                  | with_reducible apply Node.emit_only | with_reducible apply Node.endRun_only | with_reducible apply Node.hostFetch_only
                  | with_reducible apply Node.outstanding_only | with_reducible apply Node.remoteDone_only | intro _ | split | dsimp -proj only)

theorem execLateRead_only {pt : Part} (hp : pt.off [.runs, .book, .host, .out, .regs] = true) (ofs : Nat) (s : State) (s' : State)
    (ht : execLateRead ofs s = .next s') :
    s.node.Same pt s'.node := by
  have h0 := Node.Same.refl pt s.node
  unfold execLateRead at ht
  refine State.upd_only ?_ ht
  repeat' (first | with_reducible assumption | exact Part.off_sub hp rfl | with_reducible apply Node.when_only
                  | with_reducible apply Node.putWord_only | with_reducible apply Node.count_only | with_reducible apply Node.emit_only
                  | with_reducible apply Node.raiseFirst_only | with_reducible apply Node.remoteFailed_only
                  | with_reducible apply Node.remoteDone_only | intro _ | split | dsimp -proj only | with_reducible apply with_host_only)

theorem Node.bar4Write_only {pt : Part} {n0 : Node} (hp : pt.off [.host, .out] = true) (n : Node) (o : Nat) (data : List Byte) (h0 : n0.Same pt n) :
    n0.Same pt (Node.bar4Write n o data) := by
  unfold Node.bar4Write
  repeat' (first | with_reducible assumption | exact Part.off_sub hp rfl | with_reducible apply Node.when_only
                  | with_reducible apply Node.each_only | with_reducible apply Node.sendPending_only | intro _ | split | dsimp -proj only
                  | with_reducible apply with_host_only)

theorem Node.hostPut_only {pt : Part} {n0 : Node}
    (hp : pt.off [.power, .supply, .pins, .commits, .mc, .faults, .runs, .hiLatch, .winLatch, .timeLatch, .book, .trellis, .cellar, .ports,
        .ina, .flows, .sessions, .mdStarted, .presses, .images, .cans, .lineUnits, .blend, .time, .host, .outs, .pair, .vnt, .vault, .maint, .out,
        .fresh, .regs, .shadow, .force, .ram] = true) (n : Node) (bar : Bar) (ofs : Nat) (data : List Byte) (far : FarReply) (h0 : n0.Same pt n) :
    n0.Same pt (Node.hostPut n bar ofs data far).1 := by
  unfold Node.hostPut
  repeat' (first | with_reducible assumption | exact Part.off_sub hp rfl | with_reducible apply Node.dropHeld_only
                  | with_reducible apply Node.putSpan_only | with_reducible apply Node.toFar_only | with_reducible apply Node.remoteDone_only
                  | with_reducible apply Node.bar4Write_only | intro _ | split)

theorem Node.npFailed_only {pt : Part} {n0 : Node} (hp : pt.off [.book, .host, .regs] = true) (n : Node) (a : Nat) (h0 : n0.Same pt n) :
    n0.Same pt (Node.npFailed n a) := by
  unfold Node.npFailed
  repeat' (first | with_reducible assumption | exact Part.off_sub hp rfl | with_reducible apply Node.putWord_only
                  | with_reducible apply Node.count_only | with_reducible apply Node.raise_only)

theorem Node.hostStore_only {pt : Part} {n0 : Node}
    (hp : pt.off [.power, .supply, .pins, .commits, .mc, .faults, .runs, .hiLatch, .winLatch, .timeLatch, .book, .trellis, .cellar, .ports,
        .ina, .flows, .sessions, .mdStarted, .presses, .images, .cans, .lineUnits, .blend, .time, .host, .outs, .pair, .vnt, .vault, .maint, .out,
        .fresh, .regs, .shadow, .force, .ram] = true) (n : Node) (bar : Bar) (ofs : Nat) (data : List Byte) (far : FarReply) (h0 : n0.Same pt n) :
    n0.Same pt (Node.hostStore n bar ofs data far) := by
  unfold Node.hostStore
  repeat' (first | with_reducible assumption | exact Part.off_sub hp rfl | with_reducible apply Node.when_only
                  | with_reducible apply Node.count_only | with_reducible apply Node.raiseFirst_only | with_reducible apply Node.endRun_only
                  | with_reducible apply Node.dropLines_only | with_reducible apply Node.hostPut_only | with_reducible apply Node.npFailed_only
                  | intro _ | split | dsimp -proj only)

theorem execHostWrite_only {pt : Part}
    (hp : pt.off [.power, .supply, .pins, .commits, .mc, .faults, .runs, .hiLatch, .winLatch, .timeLatch, .book, .trellis, .cellar, .ports,
        .ina, .flows, .sessions, .mdStarted, .presses, .images, .cans, .lineUnits, .blend, .time, .host, .outs, .pair, .vnt, .vault, .maint, .out,
        .fresh, .regs, .shadow, .force, .ram] = true) (bar : Bar) (ofs : Nat) (data : List Byte) (far : FarReply) (s : State) (s' : State) (ht :
        execHostWrite bar ofs data far s = .next s') :
    s.node.Same pt s'.node := by
  have h0 := Node.Same.refl pt s.node
  unfold execHostWrite at ht
  refine State.upd_only ?_ ht
  repeat' (first | with_reducible assumption | exact Part.off_sub hp rfl | with_reducible apply Node.when_only
                  | with_reducible apply Node.hostStore_only | intro _)

theorem Node.qspiAnswer_only {pt : Part} {n0 : Node} (hp : pt.off [.host, .out] = true) (n : Node) (status : Byte) (data : List Byte)
    (h0 : n0.Same pt n) :
    n0.Same pt (Node.qspiAnswer n status data) := by
  unfold Node.qspiAnswer
  repeat' (first | with_reducible assumption | exact Part.off_sub hp rfl | with_reducible apply Node.emit_only | intro _ | split
                  | dsimp -proj only | with_reducible apply with_host_only)

theorem Node.qspiProgress_only {pt : Part} {n0 : Node} (hp : pt.off [.book, .host, .regs] = true) (n : Node) (d : DelayedRead) (far : FarReply)
    (h0 : n0.Same pt n) :
    n0.Same pt (Node.qspiProgress n d far) := by
  unfold Node.qspiProgress
  repeat' (first | with_reducible assumption | exact Part.off_sub hp rfl | with_reducible apply Node.prefetchBar2_only | intro _
                  | split | dsimp -proj only | with_reducible apply with_host_only)

theorem Node.qspiFence_only {pt : Part} {n0 : Node} (hp : pt.off [.book, .host, .out, .regs] = true) (n : Node) (bar : Bar) (ofs : Nat)
    (far : FarReply) (h0 : n0.Same pt n) :
    n0.Same pt (Node.qspiFence n bar ofs far) := by
  unfold Node.qspiFence
  repeat' (first | with_reducible assumption | exact Part.off_sub hp rfl | with_reducible apply Node.npFailed_only
                  | with_reducible apply Node.qspiAnswer_only | intro _ | split | dsimp -proj only | with_reducible apply with_host_only)

theorem execQspiRead_only {pt : Part}
    (hp : pt.off [.pins, .runs, .hiLatch, .winLatch, .timeLatch, .book, .cellar, .ina, .presses, .host, .out, .fresh, .regs] = true)
    (command : Byte) (addr : Word) (cut : Bool) (far : FarReply) (s : State) (s' : State) (ht : execQspiRead command addr cut far s = .next s') :
    s.node.Same pt s'.node := by
  have h0 := Node.Same.refl pt s.node
  unfold execQspiRead at ht
  refine State.upd_only ?_ ht
  repeat' (first | with_reducible assumption | exact Part.off_sub hp rfl | with_reducible apply Node.when_only
                  | with_reducible apply Node.count_only | with_reducible apply Node.hostFetch_only | with_reducible apply Node.outstanding_only
                  | with_reducible apply Node.qspiAnswer_only | with_reducible apply Node.qspiProgress_only
                  | with_reducible apply Node.qspiFence_only | intro _ | split | dsimp -proj only | with_reducible apply with_host_only)

theorem execQspiWrite_only {pt : Part}
    (hp : pt.off [.power, .supply, .pins, .commits, .mc, .faults, .runs, .hiLatch, .winLatch, .timeLatch, .book, .trellis, .cellar, .ports,
        .ina, .flows, .sessions, .mdStarted, .presses, .images, .cans, .lineUnits, .blend, .time, .host, .outs, .pair, .vnt, .vault, .maint, .out,
        .fresh, .regs, .shadow, .force, .ram] = true) (addr : Word) (data : List Byte) (cut room : Bool) (far : FarReply) (s : State) (s' : State)
        (ht : execQspiWrite addr data cut room far s = .next s') :
    s.node.Same pt s'.node := by
  have h0 := Node.Same.refl pt s.node
  unfold execQspiWrite at ht
  refine State.upd_only ?_ ht
  repeat' (first | with_reducible assumption | exact Part.off_sub hp rfl | with_reducible apply Node.when_only
                  | with_reducible apply Node.hostStore_only | with_reducible apply Node.qspiAnswer_only
                  | with_reducible apply Node.qspiFence_only | intro _ | split | dsimp -proj only | with_reducible apply with_host_only)

theorem execQspiDiscardExpiry_only {pt : Part} (hp : pt.off [.book, .host, .regs] = true) (slot : Nat) (s : State) (s' : State)
    (ht : execQspiDiscardExpiry slot s = .next s') :
    s.node.Same pt s'.node := by
  have h0 := Node.Same.refl pt s.node
  unfold execQspiDiscardExpiry at ht
  refine State.upd_only ?_ ht
  repeat' (first | with_reducible assumption | exact Part.off_sub hp rfl | with_reducible apply Node.when_only
                  | with_reducible apply Node.count_only | with_reducible apply Node.raise_only | intro _ | split | dsimp -proj only
                  | with_reducible apply with_host_only)

theorem tick_only {pt : Part} {n0 : Node}
    (hp : pt.off [.pins, .commits, .faults, .runs, .book, .trellis, .cellar, .ports, .ina, .flows, .sessions, .presses, .cans, .lineUnits,
        .blend, .time, .host, .outs, .pair, .vnt, .out, .fresh, .regs, .shadow, .force, .ram] = true) (n : Node) (h0 : n0.Same pt n) :
    n0.Same pt (tick n) := by
  unfold tick
  repeat' (first | with_reducible assumption | exact Part.off_sub hp rfl | with_reducible apply Node.when_only
                  | with_reducible apply Node.wheelStart_only | intro _ | split | dsimp -proj only | with_reducible apply with_time_only)

end Sys2Proof.Machine
end

