-- ==== Sys2Proof/WellFormed.lean ====
section
/-! DEFINITION. Which operands make sense. An operand whose type does not bound it already (a byte offset, an entry number, the
length of a list) is bounded here as the spec bounds it; every other operand is bounded by its type. A command whose operands are
not well formed still has a meaning in the model: bounds are conditions for statements, not for execution. -/

namespace Sys2Proof

/-- A register's byte address: within BAR0 and word aligned (R86, R89). -/
def wfAddr (a : Nat) : Bool := decide (a < 0x4000000) && decide (a % 4 = 0)
/-- A schedule entry number (R112). -/
def wfEntry (e : Nat) : Bool := decide (e < 65536)
/-- A commit group number is eight bits (R94). -/
def wfGroup (g : Nat) : Bool := decide (g < 256)
/-- Size in bytes of a base address region (R86). -/
def Bar.size : Bar → Nat
  | .bar0 => 0x4000000
  | .bar2 => 0x10000000
  | .bar4 => 0x4000
/-- An access lies within its region (R86). -/
def wfAccess (b : Bar) (ofs len : Nat) : Bool := decide (0 < len) && decide (ofs + len ≤ b.size)
/-- The data bytes of a CAN frame are those its DLC and format give (R302). -/
def CanFrame.bytesOf (fdf : Bool) (dlc : Nat) : Nat :=
  if dlc ≤ 8 then dlc
  else if !fdf then 8
  else if dlc = 9 then 12 else if dlc = 10 then 16 else if dlc = 11 then 20 else if dlc = 12 then 24
  else if dlc = 13 then 32 else if dlc = 14 then 48 else 64
def CanFrame.wf (f : CanFrame) : Bool :=
  decide (f.data.length = (if f.rtr && !f.fdf then 0 else CanFrame.bytesOf f.fdf f.dlc.toNat)) &&
  (f.ide || decide (f.id.toNat < 2048)) && (f.fdf || !(f.brs || f.esi))
/-- A frame on the bus: a remote request in FD format does not exist (R302). -/
def CanFrame.onBus (f : CanFrame) : Bool := f.wf && !(f.rtr && f.fdf)
/-- What the buses show, of eight controllers (R321). -/
def BusView.wf (b : BusView) : Bool := decide (b.recessive.length = 8) && b.recessive.all fun k => decide (k ≤ 128)
/-- A telegram's dataset is at most 1,432 bytes for process data, and its data has the stated length when the frame holds it (R240, R251). -/
def Telegram.wf (t : Telegram) : Bool := !t.frameLongEnough || decide (t.data.length = t.dsLen)
/-- A consist list names at most 63 consists (R213). -/
def wfConsists (t : List ConsistInfo) : Bool := decide (t.length ≤ 63)

/-- A frame's stated length covers at least the bytes it holds, and a frame has at most 65,535 (R182). -/
def Frame.wf (f : Frame) : Bool := decide (f.data.length ≤ f.len) && decide (f.len < 65536)
/-- A path's connection numbers: four maintenance connections (R488), 16 Type 15 connections of a Press (R297). -/
def Path.wf : Path → Bool
  | .maint c => decide (c < 4)
  | .type15 _ c => decide (c < 16)
  | _ => true
/-- Registers are named on a Type 15 path only (R487): 1 to 125 of them are read at once, 1 to 123 written (the limits of the protocol). -/
def wfRegs (p : Path) (start : Option Half) : Bool :=
  start.isNone || match p with
    | .type15 _ _ => true
    | _ => false
/-- An object-dictionary access: its path exists for it, and its segment and total fit (R472, R482, R484). -/
def wfSegment (p : Path) (seg : List Byte) : Bool := p.wf && p != .register && decide (seg.length ≤ 4096)
/-- Numbers of the 24,576 Casks (R150). -/
def wfCasks (l : List Nat) : Bool := l.all fun c => decide (c < 24576)
/-- A lead time is at most the longest base cycle, 10 ms and 0.1 % (R105, R107). -/
def wfLead (ns : Nat) : Bool := decide (ns ≤ 10010000)

/-- The sizes that a PCIe function takes, and base addresses that are multiples of the BAR's size (R378). -/
def PcieConfig.wf (c : PcieConfig) : Bool :=
  decide (c.bar0.toNat % 0x4000000 = 0) && decide (c.bar2.toNat % 0x10000000 = 0) && decide (c.bar4.toNat % 0x4000 = 0) &&
    (c.maxPayload == 128 || c.maxPayload == 256) && [128, 256, 512].contains c.maxRead
/-- The operands of a command are within the bounds the spec gives them. -/
def Instr.wf : Instr → Bool
  | .registerWrite _ a _ => wfAddr a
  | .partialWrite _ a sz _ => decide (a < 0x4000000) && (sz == 1 || sz == 2)
  | .rcCounterRead _ a _ => wfAddr a
  | .lowWordRead _ a => wfAddr a
  | .tableWord0Read _ a => wfAddr a
  | .commitGo _ g => wfGroup g
  | .commitValidated g _ => wfGroup g
  | .commitAbort g => wfGroup g
  | .idleCommitTakeEffect g => wfGroup g
  | .idleCommitTimeout g => wfGroup g
  | .baseCycleStart b => b.wf
  | .rephaseGapEnd _ _ b => b.wf
  | .gridOriginStart _ _ b => b.wf
  | .gateWindowOpen e => wfEntry e
  | .gateWindowClose e => wfEntry e
  | .pdTx e => wfEntry e
  | .blendJob e _ _ => wfEntry e
  | .pressStart e _ _ => wfEntry e
  | .outUpdate e _ _ _ => wfEntry e
  | .testSlot e _ _ => wfEntry e
  | .hostIrq e => wfEntry e
  | .actionComplete e _ => wfEntry e
  | .fabricTransaction _ _ _ write _ bytes len => !write || decide (bytes.length = len)
  | .inputSample mv => decide (mv.length = 16)
  | .frameReceived _ f _ _ => f.wf
  | .linkUpReport _ l => wfLead l
  | .linkDownReport _ l => wfLead l
  | .settleMaskEnd _ l => wfLead l
  | .lineTimeout _ l => wfLead l
  | .recomputeValidated l _ => wfLead l
  | .ttdpFrameReceived _ (.topology _ t _ _) l => wfConsists t && wfLead l
  | .pdReceived t => t.wf
  | .pullRequestReceived t => t.wf
  | .mdReplyReceived t => t.wf
  | .mdErrorReceived t => t.wf
  | .mdRequestReceived t => t.wf
  | .mdConfirmReceived t => t.wf
  | .ppFrameArrival f _ => f.wf
  | .dedicatedTxHandover _ f => f.wf
  | .fieldWindowRequest _ _ ofs len _ => decide (0 < len) && decide (ofs + len ≤ 0x800000)
  | .canTxPush _ _ f => f.wf
  | .canFrameReceived _ f _ => f.onBus
  | .mbUpdate _ _ _ f _ => f.onBus
  | .hostRead b ofs len _ => wfAccess b ofs len
  | .hostWrite b ofs d _ => wfAccess b ofs d.length
  | .lateRead ofs => decide (ofs < 0x10000000)
  | .qspiRead c a _ _ => decide (c.toNat / 16 ≠ 2) && decide (a.toNat % 4 = 0)
  | .qspiWrite a d _ _ _ => decide (0 < d.length) && decide (d.length % 4 = 0) && decide (d.length ≤ 64) && decide (a.toNat % 4 = 0)
  | .pcieConfigWrite _ _ c => c.wf
  | .deviceReadTimeout _ (.fetch ds) => decide (ds.length ≤ 16)
  | .qspiDiscardExpiry k => decide (k < 4)
  | .prefetchLineExpiry k => decide (k < 4)
  | .txRingFetch ds f => decide (ds.length ≤ 16) && f.wf
  | .mstopMemtestDone _ bad => wfCasks bad
  | .odRead p _ _ _ _ regs => wfSegment p [] && wfRegs p (regs.map (·.1)) && regs.all fun r => decide (1 ≤ r.2.toNat) && decide (r.2.toNat ≤ 125)
  | .odWrite p _ _ total seg _ _ regs =>
    wfSegment p seg && decide (total ≤ 67108864) && decide (seg.length ≤ total) && wfRegs p regs &&
      (regs.isNone || (decide (seg.length % 2 = 0) && decide (2 ≤ seg.length) && decide (seg.length ≤ 246)))
  | .odNextSegment p _ seg _ _ => wfSegment p seg
  | .odAbortTransfer p => wfSegment p []
  | .odDescribe p _ _ _ _ => wfSegment p []
  | .rackControlWord (.identity k) => decide (k.length = 32)
  | .maintMessage c _ _ _ _ _ _ _ d => decide (c < 4) && decide (d.length ≤ 4096)
  | .remoteRequest _ write ofs len d =>
      decide (0 < len) && decide (len ≤ 256) && decide (ofs + len ≤ 0x4000000) && (!write || decide (d.length = len))
  | .updChunk p ofs bytes => p.wf && decide (bytes.length ≤ 4096) && decide (ofs + bytes.length ≤ 0x4000000)
  | _ => true

end Sys2Proof
end

