-- ==== Sys2Proof/Tests/Slice0.lean ====
section
/-! SUPPORT. The model's own tests: ill-formed commands that the check refuses, worked points of the spec, and for every statement states
and operands that meet its hypotheses. -/

/-- A value in force of a configuration field, for the states of the tests. -/
def Sys2Proof.Machine.Node.setting (n : Sys2Proof.Machine.Node) (f : Sys2Proof.Machine.Field) (v : Nat) : Sys2Proof.Machine.Node :=
  n.putForce f.addr (f.put (n.forceWord f.addr) v)

-- Each evaluation waits for the kernel; elaborated one after another the tests keep to the threads there are.
set_option Elab.async false

namespace Sys2Proof.Tests
open Sys2Proof Sys2Proof.Machine

/-! ### States -/

/-- A single node in Run over PCIe, its islands released and its book recovered. -/
def node : Node :=
  { (((((Node.unpowered.setIslands 0).wr F.PWR_STATUS_START_PHASE 4).wr F.HBR_STATUS_PCIE_SEL 1).wr F.HBR_STATUS_LINK_UP 1).wr
      F.CBK_STATUS_READY 1) with
    power := .run
    supply := { Node.unpowered.supply with firmware := true, pcie := true }
    host := { Node.unpowered.host with inReset := false, bme := true }
    vault := { Node.unpowered.vault with owners := [(0, some 1#256)] } }
/-- That node as a unit of a pair in a role state, its Racking link up and compatible. -/
def pairNode (state : Nat) : Node :=
  { ((node.wr F.RED_STATUS_STATE state).wr F.RED_STATUS_RACK_UP 1).wr F.RED_STATUS_COMPAT 1 with pair := { node.pair with enabled := true } }
/-- That node with schedule entry 0, of an action code and a target, due. -/
def due (action target : Nat) : Node :=
  (((node.wr F.TRL_STATUS_RUNNING 1).setting F.ENTRY_COUNT 1).setting (F.ENT_ACTION.at 0) action).setting (F.ENT_TARGET.at 0) target
/-- An untagged frame of the least length, a queued copy of it, and other operands. -/
def frame : Frame := ⟨0x020000000001#48, 0x020000000002#48, none, 0x88B5#16, 64, .other, []⟩
def copy (port queue : Nat) : Copy := ⟨0, port, queue, 1, true, 0, 0, 0, 18, 0, 1, false, frame, none, 0⟩
def ipHead : Ipv4 := ⟨0x0A000001#32, 0x0A000002#32, 17#8, 64#8, 5#4, true, 0#13, 0#16, 0#16, 0x1234#16⟩
def header : VintageHeader := ⟨1#32, 0, 1#32, 0, 2#256, [], none⟩
def canFrame : CanFrame := ⟨false, false, false, false, false, 1#29, 0#4, []⟩
def telegram : Telegram :=
  ⟨.pd, 1#8, true, true, 0x0A000001#32, 0xEF000001#32, 1000#32, 9#32, 0#32, 0#32, 1, [5#8], 0#32, 0#32, 0#128⟩
/-- The entry or the abort code of an answer of the object dictionary. -/
def answer : Except Nat OdEntry → Option OdEntry × Option Nat
  | .ok e => (some e, none)
  | .error a => (none, some a)
theorem ok_of_answer {x : Except Nat OdEntry} {e : OdEntry} (h : answer x = (some e, none)) : x = .ok e := by
  cases x <;> simp_all [answer]
theorem error_of_answer {x : Except Nat OdEntry} {a : Nat} (h : answer x = (none, some a)) : x = .error a := by
  cases x <;> simp_all [answer]
/-- After the greatest safe sequence counter no telegram of a context is valid (R259). -/
theorem sdt_fails_at_the_last (n : Node) (i : Nat) (data : List Byte) (h : 4294967295 ≤ (n.flow i).safeSeq) : n.sdtFails i data ≠ 0 := by
  intro hz; dsimp only [Node.sdtFails] at hz
  have := (Config.sdtSeqOf (BitVec.ofNat 128 (beNat (data.drop (data.length - 16))))).isLt
  split at hz
  · cases hz
  · split at hz
    · cases hz
    · split at hz
      · cases hz
      · omega
theorem ne_succ (r : BitVec 256) : r ≠ r + 1#256 := by bv_omega

/-! ### Ill-formed commands (WellFormed.lean), one for each check -/

theorem test_wf_address_alignment : (Instr.registerWrite .host 2 0#32).wf = false := by decide
theorem test_wf_address_range : (Instr.lowWordRead .host 0x4000000).wf = false := by decide
theorem test_wf_partial_size : (Instr.partialWrite .host 0 4 0#16).wf = false := by decide
theorem test_wf_partial_range : (Instr.partialWrite .host 0x4000000 1 0#16).wf = false := by decide
theorem test_wf_group : (Instr.commitGo .host 256).wf = false := by decide
theorem test_wf_entry : (Instr.hostIrq 65536).wf = false := by decide
theorem test_wf_input_levels : (Instr.inputSample [24000]).wf = false := by decide
theorem test_wf_fabric_data : (Instr.fabricTransaction .host 0 .signals true 0 [0#8] 2).wf = false := by decide
theorem test_wf_frame_data : (Instr.ppFrameArrival { frame with len := 0, data := [0#8] } 0#64).wf = false := by decide
theorem test_wf_frame_length : (Instr.ppFrameArrival { frame with len := 65536 } 0#64).wf = false := by decide
theorem test_wf_lead : (Instr.recomputeValidated 10010001 []).wf = false := by decide
theorem test_wf_consists :
    (Instr.ttdpFrameReceived 0 (.topology 0#48 (List.replicate 64 ⟨0#48, true, true, true⟩) 0#32 true) 0).wf = false := by decide
theorem test_wf_telegram : (Instr.pdReceived { telegram with dsLen := 2 }).wf = false := by decide
theorem test_wf_window_empty : (Instr.fieldWindowRequest 0 false 0 0 (.error 0 [])).wf = false := by decide
theorem test_wf_window_range : (Instr.fieldWindowRequest 0 false 0x7FFFFF 2 (.error 0 [])).wf = false := by decide
theorem test_wf_can_length : (Instr.canTxPush 0 0#16 { canFrame with dlc := 1#4 }).wf = false := by decide
theorem test_wf_can_id : (Instr.canTxPush 0 0#16 { canFrame with id := 2048#29 }).wf = false := by decide
theorem test_wf_can_remote_fd : (Instr.canFrameReceived 0 { canFrame with rtr := true, fdf := true } 0).wf = false := by decide
theorem test_wf_can_remote_fd_push : (Instr.canTxPush 0 0#16 { canFrame with rtr := true, fdf := true }).wf = true := by decide
theorem test_wf_bus_view : (Instr.baseCycleStart ⟨0#8, [0]⟩).wf = false := by decide
theorem test_wf_recovery_count : (Instr.baseCycleStart ⟨0#8, [0, 0, 0, 0, 0, 0, 0, 129]⟩).wf = false := by decide
theorem test_wf_can_classical_brs : (Instr.canTxPush 0 0#16 { canFrame with brs := true }).wf = false := by decide
theorem test_wf_access_empty : (Instr.hostRead .bar4 0 0 (.error 0 [])).wf = false := by decide
theorem test_wf_access_range : (Instr.hostRead .bar4 0x3FFD 4 (.error 0 [])).wf = false := by decide
theorem test_wf_late_read : (Instr.lateRead 0x10000000).wf = false := by decide
theorem test_wf_qspi_length : (Instr.qspiWrite 0#32 (List.replicate 68 0) false true (.error 0 [])).wf = false := by decide
theorem test_wf_qspi_empty : (Instr.qspiWrite 0#32 [] false true (.error 0 [])).wf = false := by decide
theorem test_wf_qspi_words : (Instr.qspiWrite 0#32 [0#8] false true (.error 0 [])).wf = false := by decide
theorem test_wf_qspi_alignment : (Instr.qspiRead 0x10#8 2#32 false (.error 0 [])).wf = false := by decide
theorem test_wf_qspi_write_op : (Instr.qspiRead 0x20#8 0#32 false (.error 0 [])).wf = false := by decide
theorem test_wf_pcie_sizes : (Instr.pcieConfigWrite true true { maxPayload := 512 }).wf = false := by decide
theorem test_wf_pcie_base : (Instr.pcieConfigWrite true true { bar0 := 0x2000000#32 }).wf = false := by decide
theorem test_wf_device_read : (Instr.deviceReadTimeout 0#64 (.fetch (List.replicate 17 ⟨true, true, true, false, 60, none⟩))).wf = false := by
  decide
theorem test_wf_qspi_slot : (Instr.qspiDiscardExpiry 4).wf = false := by decide
theorem test_wf_prefetch_line : (Instr.prefetchLineExpiry 4).wf = false := by decide
theorem test_wf_descriptors :
    (Instr.txRingFetch (List.replicate 17 ⟨true, true, true, false, 60, none⟩) frame).wf = false := by decide
theorem test_wf_casks : (Instr.mstopMemtestDone [] [24576]).wf = false := by decide
theorem test_wf_maint_path : (Instr.odRead (.maint 4) 0#16 0#8 false false none).wf = false := by decide
theorem test_wf_type15_path : (Instr.odRead (.type15 0 16) 0#16 0#8 false false none).wf = false := by decide
theorem test_wf_register_path : (Instr.odRead .register 0#16 0#8 false false none).wf = false := by decide
theorem test_wf_segment_total : (Instr.odWrite (.maint 0) 0#16 0#8 0 [0#8] false false none).wf = false := by decide
theorem test_wf_registers_read : (Instr.odRead (.type15 0 0) 0#16 0#8 false false (some (0x1000#16, 126#16))).wf = false := by decide
theorem test_wf_registers_path : (Instr.odRead (.maint 0) 0#16 0#8 false false (some (0x1000#16, 1#16))).wf = false := by decide
theorem test_wf_registers_written : (Instr.odWrite (.type15 0 0) 0#16 0#8 1 [0#8] false false (some 0x1000#16)).wf = false := by decide
theorem test_wf_maint_connection : (Instr.maintMessage 4 0#64 true 4#8 false 0#16 0#8 0 []).wf = false := by decide
theorem test_wf_identity : (Instr.rackControlWord (.identity [0#8])).wf = false := by decide
theorem test_wf_remote_length : (Instr.remoteRequest 0#32 false 0 257 []).wf = false := by decide
theorem test_wf_remote_data : (Instr.remoteRequest 0#32 true 0 2 [0#8]).wf = false := by decide
theorem test_wf_chunk_range : (Instr.updChunk .register 0x4000000 [0#8]).wf = false := by decide
theorem test_wf_accepts : (Instr.ppFrameArrival frame 0#64).wf = true ∧ (Instr.canTxPush 0 0#16 canFrame).wf = true := by decide

/-! ### Worked points of the spec -/

/-- The words of the opcode table spell no command. -/
theorem test_decode_no_bits : decodeTableWord 32 0 = none := rfl
/-- File 00, the example of signal 70,000: OD 0x6111.70. -/
theorem test_signal_entry :
    (answer (node.odEntry 0x6111 0x70)).1.map (fun e => e.back.addr) = some (some (0x2000000 + 8 * 70000)) := by decide +kernel
/-- File 05, the example of the slot wheel: SLOT_OWNER0 0x1031_0210 gives slots 0, 3 and 6 to Blend, 1, 4 and 7 to the Press complex. -/
theorem test_slot_owners :
    ((List.range 8).map fun k => (node.putForce 0x100060 0x10310210#32).slotOwner k) = [0, 1, 2, 0, 1, 3, 0, 1] := by decide +kernel
/-- File 06, the example of admission: F is 8,000, and BB2 queue 0 takes three frames of 6 Casks above 980, not a fourth. -/
def fullCellar (q0 rest : Nat) : Node :=
  { node.wr (F.LINK_STATUS_UP.at 2) 1 with
    cellar := { node.cellar with copies :=
      ((List.range 19).map fun p => { copy p 1 with id := p, casks := 16 }) ++
      [{ copy 2 0 with id := 100, casks := q0, guaranteed := false }, { copy 2 5 with id := 101, casks := 1200, guaranteed := false },
        { copy 7 1 with id := 102, casks := rest, guaranteed := false }] } }
theorem test_admission_free : (((fullCellar 980 13332).setting F.ALPHA_CODES 0x66666663)).freeCasks = 8000 := by decide +kernel
theorem test_admission_threshold :
    ([980, 986, 992, 998].map fun q0 => ((fullCellar q0 13332).setting F.ALPHA_CODES 0x66666663).admission 6 2 0 1522) =
      [.taken false, .taken false, .taken false, .refused] := by decide +kernel
/-- File 12, the example of ORDER 1, s = 6 and LEN 4: bits 9 to 6 of the big-endian word. -/
theorem test_field_big_endian : fieldGet [0x02#8, 0x40#8] 6 4 true = 9 := by decide
/-- File 14, the example of ring 1: SIZE 8, HEAD 14; TAIL 16 makes 2 descriptors available, TAIL 20 makes 6; index 14 is slot 6. -/
def ringNode (tail : Nat) : Node :=
  (((node.wr (F.RING_CFG_SIZE.at 1) 8).wr (F.RING_BUF_SIZE.at 1) 512).wr (F.RING_HEAD.at 1) 14).wr (F.RING_TAIL.at 1) tail
theorem test_ring_available :
    (ringNode 16).ringAvail 1 = 2 ∧ (ringNode 20).ringAvail 1 = 6 ∧ (ringNode 20).ringSlot 1 0 = 6 ∧ (ringNode 20).bufSize 1 = 512 := by
  decide +kernel
/-- File 15, the example of lamp CH21: UREF 24.0 V and DIM 204 give 524 at 30.0 V and 819 at 14.0 V. -/
theorem test_lamp_duty : lampDuty 240 30000 204 = 524 ∧ lampDuty 240 14000 204 = 819 := by decide
/-- File 18, the example of code 0x0302 with DEPTH 4: of ten losses four are admitted and six suppressed; after one refill the next is
admitted with SUPPR 6. -/
def losses (k : Nat) : Node := (List.range k).foldl (fun n _ => n.raise 0x0302 [1]) (node.setting (F.RATE_DEPTH.at 0x0302) 4)
theorem test_rate_limit :
    (losses 10).book.queue.length = 4 ∧ (losses 10).suppressed 0x0302 = 6 ∧ (losses 10).word CNT_CBK_SUPPR = 6#32 := by decide +kernel
theorem test_rate_refill :
    (match execTokenRefill 0x0302#16 ⟨losses 10, []⟩ with
      | .next t => (t.node.raise 0x0302 [1]).book.queue.map (·.suppr)
      | _ => []) = [0, 0, 0, 0, 6] := by decide +kernel

/-- File 07, R198 and R200: the code 0b1011_0010 from its first bit, sixteen samples to the interval, is found after quiet samples, with four of the
twelve needed samples of an interval lost; the code from its last bit is not. -/
def intervals (bits : List Bool) : List Bool := bits.flatMap fun b => List.replicate 12 b ++ List.replicate 4 false
theorem test_wake_code :
    wakeDetected 3 (List.replicate 5 false ++ intervals [true, false, true, true, false, false, true, false]) = true ∧
    wakeDetected 3 (intervals [false, true, false, false, true, true, false, true]) = false := by decide +kernel
/-- File 02, R41: both ranges' thresholds, and between them the level as it was. -/
theorem test_input_levels :
    (let d : DigIn := ⟨false, false, 0, 0, false, false, 0, 0, 0⟩
     let up := { d with level := true }
     ([8000, 8001, 14399, 14400].map (d.levelAt false), [8000, 8001].map (up.levelAt false), [65999, 66000].map (d.levelAt true),
       [33000, 33001].map (up.levelAt true))) = ([false, false, false, true], [false, true], [false, true], [false, true]) := by decide

/-! ### Witnesses: states and operands that meet the hypotheses of every clause -/

def dipEndNode2 : Node := { node with supply := { node.supply with dip := true } }
def interruptionStartNode4 : Node := { node with power := .shutdown }
def interruptionRiddenThroughNode5 : Node := { node with supply := { node.supply with interruption := true } }
/-- States and operands meet the hypotheses of every clause of `Obligations.SupplyCommandsComplete`. -/
theorem witness_SupplyCommandsComplete :
  (∃ (s : State), s.node.powered = true ∧ s.node.supply.dip = false) ∧
  (∃ (s : State), s.node.powered = true ∧ s.node.supply.dip = true) ∧
  (∃ (s : State), s.node.powered = true ∧ s.node.supply.interruption = false) ∧
  (∃ (s : State), (s.node.power = Power.off ∨ s.node.power = Power.shutdown)) ∧
  (∃ (s : State), s.node.powered = true ∧ s.node.supply.interruption = true) ∧
  (∃ (s : State), s.node.powered = true) ∧
  (∃ (s : State), s.node.powered = true) ∧
  (∃ (s : State), s.node.powered = true ∧ s.node.supply.hotStop = false) ∧
  (∃ (s : State), s.node.powered = true) ∧
  (∃ (s : State), s.node.powered = true) ∧
  (∃ (s : State), s.node.powered = true) :=
  ⟨
   ⟨⟨node, []⟩, by decide +kernel⟩,
   ⟨⟨dipEndNode2, []⟩, by decide +kernel⟩,
   ⟨⟨node, []⟩, by decide +kernel⟩,
   ⟨⟨interruptionStartNode4, []⟩, by decide +kernel⟩,
   ⟨⟨interruptionRiddenThroughNode5, []⟩, by decide +kernel⟩,
   ⟨⟨node, []⟩, by decide +kernel⟩,
   ⟨⟨node, []⟩, by decide +kernel⟩,
   ⟨⟨node, []⟩, by decide +kernel⟩,
   ⟨⟨node, []⟩, by decide +kernel⟩,
   ⟨⟨node, []⟩, by decide +kernel⟩,
   ⟨⟨node, []⟩, by decide +kernel⟩⟩

/-- States and operands meet the hypotheses of every clause of `Obligations.ShutdownCommandsComplete`. -/
theorem witness_ShutdownCommandsComplete :
  (∃ (s : State) (v : Half) (p : Instr × ShutdownCause), s.node.canRestart = true ∧ p ∈ [(Instr.vbattOvervoltage v, ShutdownCause.overvoltage),
      (Instr.overvoltageTimeout v, ShutdownCause.overvoltage), (Instr.baseplate95c v, ShutdownCause.thermal), (Instr.holdupReserve v,
      ShutdownCause.reserve)]) ∧
  (∃ (s : State), s.node.canRestart = true ∧ s.node.supply.dip = true) ∧
  (∃ (s : State), s.node.canRestart = true ∧ s.node.supply.interruption = true) ∧
  (∃ (s : State) (v : Half) (c : Instr), s.node.power = Power.shutdown ∧ c ∈ [Instr.vbattOvervoltage v, Instr.overvoltageTimeout v,
      Instr.baseplate95c v, Instr.holdupReserve v]) ∧
  (∃ (s : State), s.node.power = Power.shutdown) :=
  ⟨
   ⟨⟨node, []⟩, 760#16, (.vbattOvervoltage 760#16, .overvoltage), by decide +kernel⟩,
   ⟨⟨dipEndNode2, []⟩, by decide +kernel⟩,
   ⟨⟨interruptionRiddenThroughNode5, []⟩, by decide +kernel⟩,
   ⟨⟨interruptionStartNode4, []⟩, 760#16, .vbattOvervoltage 760#16, by decide +kernel⟩,
   ⟨⟨interruptionStartNode4, []⟩, by decide +kernel⟩⟩

def powerGoodNode1 : Node := { Node.unpowered with supply := { Node.unpowered.supply with hotStop := true } }
def powerGoodNode3 : Node := { Node.unpowered with supply := { Node.unpowered.supply with hotStop := true, heatLock := true } }
def hostBridgeReleaseNode4 : Node := { node with host := { node.host with inReset := true } }
def firmwareVerifiedNode5 : Node := { node with supply := { node.supply with firmware := false, fwTried := 1 } }
def memoryTestDoneNode6 : Node := node.wr F.PWR_STATUS_START_PHASE 2
def vintageSectionArrivedNode7 : Node := { node with supply := { node.supply with loading := true } }
def startUpCommaNode10 : Node := { node.setSlot 0 3 with supply := { node.supply with loading := true } }
/-- States and operands meet the hypotheses of every clause of `Obligations.StartUpCommandsComplete`. -/
theorem witness_StartUpCommandsComplete :
  (∃ (s : State) (t : BitVec 16), s.node.power = Power.off ∧ s.node.supply.heatLock = false ∧ (s.node.supply.hotStop = false ∨ (640#16).slt t =
      false)) ∧
  (∃ (s : State) (t : BitVec 16), s.node.power = Power.off ∧ s.node.supply.heatLock = false ∧ s.node.supply.hotStop = true ∧ (640#16).slt t =
      true) ∧
  (∃ (s : State), s.node.power = Power.off ∧ s.node.supply.heatLock = true) ∧
  (∃ (s : State), s.node.power = Power.run ∧ s.node.host.inReset = true) ∧
  (∃ (s : State) (copy : Fin 2), s.node.power = Power.run ∧ s.node.supply.firmware = false ∧ s.node.supply.fwTried ≠ 2 ∧ copy.val =
      s.node.bootCopy) ∧
  (∃ (s : State), s.node.power = Power.run ∧ s.node.rd F.PWR_STATUS_START_PHASE = 2) ∧
  (∃ (s : State), s.node.streaming = true) ∧
  (∃ (s : State) (h : VintageHeader), s.node.streaming = true ∧ (s.node.owner h.keySlot.val).isSome = true ∧ s.node.svnsOk h = true) ∧
  (∃ (s : State) (sec : VintageSection) (h : VintageHeader) (w : VintageFault) (c : Instr), s.node.streaming = true ∧ c ∈
      [Instr.vintageSectionArrived sec false, Instr.vintageSignaturesDone (some w) h] ∧ s.node.slotState s.node.supply.slot ≠ 3) ∧
  (∃ (s : State) (sec : VintageSection) (h : VintageHeader) (w : VintageFault) (c : Instr), s.node.streaming = true ∧ c ∈
      [Instr.vintageSectionArrived sec false, Instr.vintageSignaturesDone (some w) h] ∧ s.node.slotIn 3 = some s.node.supply.slot ∧ (∀ (u :
      UpdSession), s.node.vault.session = some u → u.slot ≠ s.node.supply.slot)) :=
  ⟨
   ⟨⟨powerGoodNode1, []⟩, 640#16, by decide +kernel⟩,
   ⟨⟨powerGoodNode1, []⟩, 641#16, by decide +kernel⟩,
   ⟨⟨powerGoodNode3, []⟩, by decide +kernel⟩,
   ⟨⟨hostBridgeReleaseNode4, []⟩, by decide +kernel⟩,
   ⟨⟨firmwareVerifiedNode5, []⟩, 1, by decide +kernel⟩,
   ⟨⟨memoryTestDoneNode6, []⟩, by decide +kernel⟩,
   ⟨⟨vintageSectionArrivedNode7, []⟩, by decide +kernel⟩,
   ⟨⟨vintageSectionArrivedNode7, []⟩, header, by decide +kernel⟩,
   ⟨⟨vintageSectionArrivedNode7, []⟩, .signals [], header, .digest, .vintageSectionArrived (.signals []) false, by decide +kernel⟩,
   ⟨⟨startUpCommaNode10, []⟩, .signals [], header, .digest, .vintageSectionArrived (.signals []) false, by decide +kernel⟩⟩

def efstNode1 : Node := { node with supply := { node.supply with verified := true } }
/-- States and operands meet the hypotheses of every clause of `Obligations.VintageCommitsComplete`. -/
theorem witness_VintageCommitsComplete :
  (∃ (s : State) (e : Instr × Bool), s.node.power = Power.run ∧ s.node.supply.verified = true ∧ e ∈ [(Instr.startUpCommit, !s.node.supply.warm
      && !s.node.supply.waking), (Instr.warmResetCommit, s.node.supply.warm), (Instr.wakeRunStart, s.node.supply.waking)] ∧ e.snd = true) :=
   ⟨⟨efstNode1, []⟩, (.startUpCommit, true), by decide +kernel⟩

def hbrCmdResetNode7 : Node := node.wr F.HBR_STATUS_PCIE_SEL 0
/-- States and operands meet the hypotheses of every clause of `Obligations.ResetCommandsComplete`. -/
theorem witness_ResetCommandsComplete :
  (∃ (s : State) (by_ : Initiator), s.node.canRestart = true ∧ s.node.Reaches by_ 13) ∧
  (∃ (s : State) (e : Instr × Nat), s.node.canRestart = true ∧ e ∈ [(Instr.vintnerWatchdogExpiry, 2), (Instr.lockstepMismatch, 3)]) ∧
  (∃ (s : State), s.node.powered = true ∧ s.node.supply.firmware = true) ∧
  (∃ (s : State), s.node.powered = true ∧ s.node.supply.firmware = true) ∧
  (∃ (s : State) (c : Instr), s.node.powered = true ∧ s.node.host.inReset = false ∧ s.node.bit F.HBR_STATUS_PCIE_SEL = true ∧ c ∈
      [Instr.pciePerst, Instr.pcieHotReset, Instr.functionLevelReset]) ∧
  (∃ (s : State), s.node.powered = true ∧ s.node.host.inReset = false ∧ s.node.bit F.HBR_STATUS_PCIE_SEL = true ∧ s.node.bit
      F.HBR_STATUS_LINK_UP = true) ∧
  (∃ (s : State) (by_ : Initiator), s.node.Reaches by_ 10 ∧ s.node.host.inReset = false ∧ s.node.bit F.HBR_STATUS_PCIE_SEL = false) :=
  ⟨
   ⟨⟨node, []⟩, .maint, by unfold Node.Reaches; decide +kernel⟩,
   ⟨⟨node, []⟩, (.lockstepMismatch, 3), by decide +kernel⟩,
   ⟨⟨node, []⟩, by decide +kernel⟩,
   ⟨⟨node, []⟩, by decide +kernel⟩,
   ⟨⟨node, []⟩, .functionLevelReset, by decide +kernel⟩,
   ⟨⟨node, []⟩, by decide +kernel⟩,
   ⟨⟨hbrCmdResetNode7, []⟩, .maint, by unfold Node.Reaches; decide +kernel⟩⟩

def dormancyEntryStartNode2 : Node := { node with power := .dormEntry, supply := { node.supply with dormStep := 1 } }
def dormancyRecordFlushNode3 : Node := { node with power := .dormEntry, supply := { node.supply with dormStep := 2 } }
def dormancyBypassReleaseNode4 : Node := { node with power := .dormEntry, supply := { node.supply with dormStep := 3 } }
def dormancyPointOfNoReturnNode5 : Node := { node with power := .dormEntry, supply := { node.supply with dormStep := 4 } }
def dormancyReachedNode6 : Node := { node with power := .dormEntry, supply := { node.supply with dormStep := 5 } }
def dormancyReachedNode7 : Node := { node with power := .dormEntry, supply := { node.supply with dormStep := 5, latchedWake := some 16 } }
def dormancyLostNode8 : Node := { node with power := .dormancy, supply := { node.supply with armed := 24 } }
def efstNode10 : Node := { node with power := .dormEntry, supply := { node.supply with dormStep := 5, armed := 24 } }
def wakeInAssertNode11 : Node := Node.unpowered
def wakeInAssertNode12 : Node := { node.wr F.WAKE_CFG_IN_EN 1 with power := .dormEntry, supply := { node.supply with dormStep := 4 } }
def wakeSupplyGoodNode13 : Node :=
  { node with power := .dormancy, supply := { node.supply with armed := 24, wakeWaitsSupply := true, latchedWake := some 8 } }
def wakeSupplyGoodNode14 : Node :=
  { node with power := .dormEntry, supply := { node.supply with dormStep := 5, wakeWaitsSupply := true, latchedWake := some 8 } }
/-- States and operands meet the hypotheses of every clause of `Obligations.DormancyCommandsComplete`. -/
theorem witness_DormancyCommandsComplete :
  (∃ (s : State), s.node.power = Power.run ∧ s.node.islandDown 8 = false ∧ s.node.powered = true) ∧
  (∃ (s : State), s.node.dormAt 1 = true) ∧
  (∃ (s : State), s.node.dormAt 2 = true) ∧
  (∃ (s : State), s.node.dormAt 3 = true) ∧
  (∃ (s : State), s.node.dormAt 4 = true) ∧
  (∃ (s : State), s.node.dormAt 5 = true ∧ (s.node.supply.latchedWake = none ∨ s.node.supply.wakeWaitsSupply = true)) ∧
  (∃ (s : State) (w : Nat), s.node.dormAt 5 = true ∧ s.node.supply.latchedWake = some w ∧ s.node.supply.wakeWaitsSupply = false) ∧
  (∃ (s : State), s.node.power = Power.dormancy) ∧
  (∃ (s : State) (mv : Nat) (p : Fin 4) (samples : List Bool) (e : Instr × Nat), wakeDetected samples.length samples = true ∧ e ∈
      [(Instr.wakeInAssert mv, 4), (Instr.wakePatternMatch p samples mv, p.val)] ∧ s.node.power = Power.dormancy ∧ s.node.supply.latchedWake = none
      ∧ s.node.supply.armed / 2 ^ e.snd % 2 = 1) ∧
  (∃ (s : State) (mv : Nat) (p : Fin 4) (samples : List Bool) (e : Instr × Nat), wakeDetected samples.length samples = true ∧ e ∈
      [(Instr.wakeInAssert mv, 4), (Instr.wakePatternMatch p samples mv, p.val)] ∧ s.node.power = Power.dormEntry ∧ 5 ≤ s.node.supply.dormStep ∧
      s.node.supply.latchedWake = none ∧ s.node.supply.armed / 2 ^ e.snd % 2 = 1) ∧
  (∃ (s : State), s.node.power = Power.off) ∧
  (∃ (s : State), s.node.power = Power.dormEntry ∧ s.node.supply.dormStep < 5 ∧ s.node.supply.dormAbort = false ∧ s.node.bit F.WAKE_CFG_IN_EN =
      true) ∧
  (∃ (s : State) (w : Nat), s.node.power = Power.dormancy ∧ s.node.supply.wakeWaitsSupply = true ∧ s.node.supply.latchedWake = some w) ∧
  (∃ (s : State), s.node.power = Power.dormEntry ∧ s.node.supply.wakeWaitsSupply = true) :=
  ⟨
   ⟨⟨node, []⟩, by decide +kernel⟩,
   ⟨⟨dormancyEntryStartNode2, []⟩, by decide +kernel⟩,
   ⟨⟨dormancyRecordFlushNode3, []⟩, by decide +kernel⟩,
   ⟨⟨dormancyBypassReleaseNode4, []⟩, by decide +kernel⟩,
   ⟨⟨dormancyPointOfNoReturnNode5, []⟩, by decide +kernel⟩,
   ⟨⟨dormancyReachedNode6, []⟩, by decide +kernel⟩,
   ⟨⟨dormancyReachedNode7, []⟩, 16, by decide +kernel⟩,
   ⟨⟨dormancyLostNode8, []⟩, by decide +kernel⟩,
   ⟨⟨dormancyLostNode8, []⟩, 17999, 3, ((List.range 8).flatMap fun i => List.replicate 16 (wakeCode.getLsbD (7 - i))), (.wakeInAssert 17999, 4),
       by decide +kernel⟩,
   ⟨⟨efstNode10, []⟩, 17999, 3, ((List.range 8).flatMap fun i => List.replicate 16 (wakeCode.getLsbD (7 - i))), (.wakeInAssert 17999, 4), by
       decide +kernel⟩,
   ⟨⟨wakeInAssertNode11, []⟩, by decide +kernel⟩,
   ⟨⟨wakeInAssertNode12, []⟩, by decide +kernel⟩,
   ⟨⟨wakeSupplyGoodNode13, []⟩, 8, by decide +kernel⟩,
   ⟨⟨wakeSupplyGoodNode14, []⟩, by decide +kernel⟩⟩

def commitGoNode2 : Node := node.setPhase 0x77 .validating
def commitValidatedNode4 : Node := node.setPhase 0x30 .validating
def commitValidatedNode5 : Node := (node.putShadow 0x300104 0#32).setPhase 0x30 .validating
def commitValidatedNode6 : Node := { node.setPhase 0x30 .validating with supply := { node.supply with recovery := true } }
def commitValidatedNode7 : Node := (node.wr F.PWR_STATUS_START_PHASE 3).setPhase 0x30 .validating
def idleCommitTakeEffectNode9 : Node := node.setPhase 0xA0 (.pending 0)
/-- States and operands meet the hypotheses of every clause of `Obligations.GroupCommitCommandsComplete`. -/
theorem witness_GroupCommitCommandsComplete :
  (∃ (s : State) (g : Nat) (by_ : Initiator), groupExists g = true ∧ s.node.Reaches by_ (groupBlock g) ∧ s.node.blockDown (groupBlock g) = false
      ∧ s.node.rd F.PWR_STATUS_START_PHASE = 4 ∧ s.node.standby = false ∧ s.node.groupLocked g = false ∧ s.node.topoLocked g = false) ∧
  (∃ (s : State) (g : Nat) (by_ : Initiator) (c : Nat), groupExists g = true ∧ s.node.Reaches by_ (groupBlock g) ∧ s.node.goRefusal g = some c) ∧
  (∃ (s : State) (g : Nat) (by_ : Initiator), groupExists g = true ∧ s.node.Reaches by_ (groupBlock g) ∧ s.node.blockDown (groupBlock g) = false
      ∧ s.node.rd F.PWR_STATUS_START_PHASE = 4 ∧ s.node.standby = false ∧ s.node.groupLocked g = true) ∧
  (∃ (s : State) (g : Nat), groupExists g = true ∧ s.node.phase g = CommitPhase.validating ∧ s.node.blockDown (groupBlock g) = false ∧ s.node.rd
      F.PWR_STATUS_START_PHASE = 4 ∧ s.node.validate [g] g = none) ∧
  (∃ (s : State) (g : Nat) (code : Nat) (info : Word), groupExists g = true ∧ s.node.phase g = CommitPhase.validating ∧ s.node.blockDown
      (groupBlock g) = false ∧ s.node.rd F.PWR_STATUS_START_PHASE = 4 ∧ s.node.validate [g] g = some (code, info)) ∧
  (∃ (s : State) (g : Nat), groupExists g = true ∧ s.node.phase g = CommitPhase.validating ∧ s.node.blockDown (groupBlock g) = true) ∧
  (∃ (s : State) (g : Nat), groupExists g = true ∧ s.node.phase g = CommitPhase.validating ∧ s.node.blockDown (groupBlock g) = false ∧ s.node.rd
      F.PWR_STATUS_START_PHASE ≠ 4) ∧
  (∃ (s : State) (g : Nat), groupExists g = true ∧ s.node.powered = true ∧ s.node.blockHeld (groupBlock g) = false) ∧
  (∃ (s : State) (g : Nat), groupExists g = true ∧ s.node.idleWaits g = true ∧ s.node.blockIdle g = true ∧ s.node.pairActive = false ∧
      s.node.standby = false) ∧
  (∃ (s : State) (g : Nat), groupExists g = true ∧ s.node.idleWaits g = true) :=
  ⟨
   ⟨⟨node, []⟩, 0x30, .odServer, by unfold Node.Reaches; decide +kernel⟩,
   ⟨⟨commitGoNode2, []⟩, 0x77, .host, 4, by unfold Node.Reaches; decide +kernel⟩,
   ⟨⟨commitGoNode2, []⟩, 0x77, .host, by unfold Node.Reaches; decide +kernel⟩,
   ⟨⟨commitValidatedNode4, []⟩, 0x30, by decide +kernel⟩,
   ⟨⟨commitValidatedNode5, []⟩, 0x30, 1, 0x0FF00104#32, by decide +kernel⟩,
   ⟨⟨commitValidatedNode6, []⟩, 0x30, by decide +kernel⟩,
   ⟨⟨commitValidatedNode7, []⟩, 0x30, by decide +kernel⟩,
   ⟨⟨node, []⟩, 0x30, by decide +kernel⟩,
   ⟨⟨idleCommitTakeEffectNode9, []⟩, 0xA0, by decide +kernel⟩,
   ⟨⟨idleCommitTakeEffectNode9, []⟩, 0xA0, by decide +kernel⟩⟩

def mcCommitGoNode1 : Node := node.putWord 0x100 0xFFFFFF30#32
def mcCommitGoNode2 : Node := node.putWord 0x100 0xFFFFFF31#32
def mcCommitGoNode3 : Node := (node.putWord 0x100 0xFFFFFF30#32).wr F.PWR_STATUS_START_PHASE 3
def mcCommitTimeoutNode5 : Node := { node with mc := some ⟨[0x30], 0⟩ }
/-- States and operands meet the hypotheses of every clause of `Obligations.SetCommitCommandsComplete`. -/
theorem witness_SetCommitCommandsComplete :
  (∃ (s : State) (by_ : Initiator) (gs : List Nat), s.node.Reaches by_ 0 ∧ (List.filter (fun x => x != 255) s.node.mcNumbers).eraseDups = gs ∧
      s.node.rd F.PWR_STATUS_START_PHASE = 4 ∧ s.node.mc = none ∧ gs ≠ [] ∧ (∀ (g : Nat), g ∈ s.node.mcNumbers → g = 255 ∨ groupExists g = true) ∧
      (∀ (g : Nat), g ∈ gs → s.node.goRefusal g = none) ∧ (∀ (g : Nat), g ∈ gs → s.node.validate gs g = none)) ∧
  (∃ (s : State) (by_ : Initiator) (gs : List Nat), s.node.Reaches by_ 0 ∧ (List.filter (fun x => x != 255) s.node.mcNumbers).eraseDups = gs ∧
      s.node.rd F.PWR_STATUS_START_PHASE = 4 ∧ s.node.mc = none ∧ (∃ g, g ∈ s.node.mcNumbers ∧ g ≠ 255 ∧ groupExists g = false)) ∧
  (∃ (s : State) (by_ : Initiator) (gs : List Nat), s.node.Reaches by_ 0 ∧ (List.filter (fun x => x != 255) s.node.mcNumbers).eraseDups = gs ∧
      s.node.rd F.PWR_STATUS_START_PHASE ≠ 4 ∧ s.node.supply.recovery = false) ∧
  (∃ (s : State), s.node.powered = true ∧ s.node.islandDown 5 = false) ∧
  (∃ (s : State) (x : McSet), s.node.mc = some x) ∧
  (∃ (s : State), s.node.powered = true) :=
  ⟨
   ⟨⟨mcCommitGoNode1, []⟩, .host, [0x30], by unfold Node.Reaches; decide +kernel⟩,
   ⟨⟨mcCommitGoNode2, []⟩, .host, [0x31], by unfold Node.Reaches; decide +kernel⟩,
   ⟨⟨mcCommitGoNode3, []⟩, .host, [0x30], by unfold Node.Reaches; decide +kernel⟩,
   ⟨⟨node, []⟩, by decide +kernel⟩,
   ⟨⟨mcCommitTimeoutNode5, []⟩, ⟨[0x30], 0⟩, by decide +kernel⟩,
   ⟨⟨node, []⟩, by decide +kernel⟩⟩

def baseCycleStartNode1 : Node := (node.wr F.TRL_STATUS_RUNNING 1)
def baseCycleStartNode2 : Node := ((node.wr F.TRL_STATUS_RUNNING 1).setPhase 0x30 (.pending 0))
def baseCycleStartNode3 : Node := { node.wr F.TRL_STATUS_RUNNING 1 with trellis := { node.trellis with rephaseDue := true } }
def baseCycleStartNode4 : Node := { node with power := .dormEntry, supply := { node.supply with dormAbort := true, dormStep := 1 } }
def trellisSlewEndNode5 : Node := node.wr F.TRL_STATUS_PHASE_STATE 2
def rephaseGapEndNode6 : Node := { node with trellis := { node.trellis with gap := true } }
def gridOriginStartNode7 : Node := { node with trellis := { node.trellis with waitOrigin := true } }
/-- States and operands meet the hypotheses of every clause of `Obligations.BaseCyclesComplete`. -/
theorem witness_BaseCyclesComplete :
  (∃ (s : State), s.node.powered = true ∧ s.node.issuing = true ∧ s.node.supply.dormAbort = false ∧ s.node.pair.swapIn = none ∧
      s.node.pair.becomes = none ∧ s.node.rd F.RED_STATUS_STATE ≠ 2 ∧ s.node.pair.reseedDue = false ∧ s.node.trellis.rephaseDue = false ∧
      s.node.commits = [] ∧ s.node.mc = none ∧ s.node.trellis.skipped = [] ∧ s.node.ina.spec = none ∧ s.node.ina.decided = none) ∧
  (∃ (s : State) (g : Nat), s.node.powered = true ∧ s.node.issuing = true ∧ s.node.supply.dormAbort = false ∧ s.node.pair.swapIn = none ∧
      s.node.pair.becomes = none ∧ s.node.rd F.RED_STATUS_STATE ≠ 2 ∧ s.node.pair.reseedDue = false ∧ groupExists g = true ∧ idleBound g = false ∧ g
      ≠ 17 ∧ s.node.rd F.RED_STATUS_STATE = 0 ∧ s.node.trellis.rephaseDue = false ∧ s.node.commits = [(g, CommitPhase.pending 0)] ∧ s.node.mc = none
      ∧ s.node.trellis.skipped = [] ∧ s.node.ina.spec = none ∧ s.node.ina.decided = none) ∧
  (∃ (s : State), s.node.powered = true ∧ s.node.issuing = true ∧ s.node.supply.dormAbort = false ∧ s.node.pair.swapIn = none ∧
      s.node.pair.becomes = none ∧ s.node.rd F.RED_STATUS_STATE ≠ 2 ∧ s.node.pair.reseedDue = false ∧ s.node.trellis.rephaseDue = true) ∧
  (∃ (s : State), s.node.power = Power.dormEntry ∧ s.node.supply.dormAbort = true) ∧
  (∃ (s : State), s.node.rd F.TRL_STATUS_PHASE_STATE = 2) ∧
  (∃ (s : State), s.node.trellis.gap = true ∧ s.node.trellis.waitOrigin = false ∧ s.node.commits = [] ∧ s.node.mc = none ∧
      s.node.trellis.skipped = [] ∧ s.node.ina.spec = none ∧ s.node.ina.decided = none) ∧
  (∃ (s : State), s.node.trellis.waitOrigin = true) ∧
  (∃ (s : State) (waitNs : Nat), s.node.trellis.waitOrigin = true ∧ waitNs ≠ 0 ∧ s.node.commits = [] ∧ s.node.mc = none ∧ s.node.trellis.skipped
      = [] ∧ s.node.ina.spec = none ∧ s.node.ina.decided = none) :=
  ⟨
   ⟨⟨baseCycleStartNode1, []⟩, by decide +kernel⟩,
   ⟨⟨baseCycleStartNode2, []⟩, 0x30, by decide +kernel⟩,
   ⟨⟨baseCycleStartNode3, []⟩, by decide +kernel⟩,
   ⟨⟨baseCycleStartNode4, []⟩, by decide +kernel⟩,
   ⟨⟨trellisSlewEndNode5, []⟩, by decide +kernel⟩,
   ⟨⟨rephaseGapEndNode6, []⟩, by decide +kernel⟩,
   ⟨⟨gridOriginStartNode7, []⟩, by decide +kernel⟩,
   ⟨⟨gridOriginStartNode7, []⟩, 1, by decide +kernel⟩⟩

def gateWindowOpenNode1 : Node := due 1 0
def hostIrqNode3 : Node := due 7 0
def actionCompleteNode5 : Node := { node with trellis := { node.trellis with running := [⟨65535, 2, 0⟩] } }
def testSlotNode6 : Node := due 6 0x60
def testSlotNode7 : Node := (due 6 0x40).setting (F.ENT_WINDOW.at 0) 37500
def testSlotNode8 : Node := (due 6 0x80).setting (F.ENT_WINDOW.at 0) 250
def testSuspendedNode9 : Node := { node with trellis := { node.trellis with suspended := [0x40] } }
/-- States and operands meet the hypotheses of every clause of `Obligations.ScheduleActionsComplete`. -/
theorem witness_ScheduleActionsComplete :
  (∃ (s : State) (entry : Nat), s.node.due entry 1 = true ∧ s.node.trellis.openGates.contains entry = false) ∧
  (∃ (s : State) (entry : Nat), s.node.due entry 7 = true) ∧
  (∃ (s : State) (entry : Nat), s.node.due entry 7 = true ∧ s.node.host.inReset = false ∧ s.node.host.msixPending.getLsbD 4 = false ∧
      s.node.irqQueued = false) ∧
  (∃ (s : State) (entry : Nat), (s.node.trellis.running.any fun x => x.entry == entry) = true) ∧
  (∃ (s : State) (entry : Nat) (id : Nat), s.node.due entry 6 = true ∧ s.node.targetOf entry = id ∧ (s.node.cf (F.ENT_WINDOW.at entry) <
      leastWindow id ∨ id < 64 ∧ s.node.pulseAllowed entry (id - 32) = false)) ∧
  (∃ (s : State) (entry : Nat) (id : Nat), s.node.due entry 6 = true ∧ s.node.targetOf entry = id ∧ leastWindow id ≤ s.node.cf (F.ENT_WINDOW.at
      entry) ∧ (id < 64 → s.node.pulseAllowed entry (id - 32) = true)) ∧
  (∃ (s : State) (entry : Nat) (id : Nat), s.node.due entry 6 = true ∧ s.node.targetOf entry = id ∧ leastWindow id ≤ s.node.cf (F.ENT_WINDOW.at
      entry) ∧ (id < 64 → s.node.pulseAllowed entry (id - 32) = true)) ∧
  (∃ (s : State) (id : Byte), s.node.trellis.suspended.contains (BitVec.toNat id) = true) ∧
  (∃ (s : State), s.node.powered = true ∧ s.node.islandDown 5 = false) ∧
  (∃ (s : State) (entry : Nat), s.node.powered = true ∧ s.node.islandDown 5 = false ∧ s.node.trellis.skipped.contains entry = false) ∧
  (∃ (s : State), s.node.powered = true ∧ s.node.islandDown 5 = false) ∧
  (∃ (s : State) (fs : List ScrubFinding), s.node.powered = true ∧ s.node.islandDown 5 = false ∧ (∀ (f : ScrubFinding), f ∈ fs → f.result =
      EccResult.clean)) :=
  ⟨
   ⟨⟨gateWindowOpenNode1, []⟩, 0, by decide +kernel⟩,
   ⟨⟨hostIrqNode3, []⟩, 0, by decide +kernel⟩,
   ⟨⟨hostIrqNode3, []⟩, 0, by decide +kernel⟩,
   ⟨⟨actionCompleteNode5, []⟩, 65535, by decide +kernel⟩,
   ⟨⟨testSlotNode6, []⟩, 0, 0x60, by decide +kernel⟩,
   ⟨⟨testSlotNode7, []⟩, 0, 0x40, by decide +kernel⟩,
   ⟨⟨testSlotNode8, []⟩, 0, 0x80, by decide +kernel⟩,
   ⟨⟨testSuspendedNode9, []⟩, 0x40#8, by decide +kernel⟩,
   ⟨⟨node, []⟩, by decide +kernel⟩,
   ⟨⟨node, []⟩, 65535, by decide +kernel⟩,
   ⟨⟨node, []⟩, by decide +kernel⟩,
   ⟨⟨node, []⟩, [⟨true, 0, 0, .clean⟩], by decide +kernel⟩⟩

def fabricTransactionNode1 : Node := ((node.putForce 0x100060 0x76543210#32).putForce 0x100064 0x76543210#32)
def fabricTransactionNode6 : Node := ((node.putForce 0x100060 0x76543210#32).putForce 0x100064 0x76543210#32).setIslands 1
def fabricTransactionNode7 : Node := node.putForce 0x100060 0x00000001#32
/-- States and operands meet the hypotheses of every clause of `Obligations.FabricTransactionsComplete`. -/
theorem witness_FabricTransactionsComplete :
  (∃ (s : State) (owner : FabricOwner) (slot : Fin 16) (target : FabricTarget) (ofs : Nat) (bytes : List Byte), s.node.powered = true ∧
      s.node.islandDown 5 = false ∧ s.node.fabricAllowed owner target = true ∧ s.node.slotOwner slot.val = fabricCode owner ∧ s.node.islandDown
      (fabricHome target).snd.snd = false ∧ 0 < bytes.length ∧ ofs + bytes.length ≤ (fabricHome target).snd.fst ∧ ofs % 256 + bytes.length ≤ 256 ∧
      fabricInitiator owner target = none) ∧
  (∃ (s : State) (owner : FabricOwner) (slot : Fin 16) (target : FabricTarget) (ofs : Nat) (bytes : List Byte) (by_ : Initiator), s.node.powered
      = true ∧ s.node.islandDown 5 = false ∧ s.node.fabricAllowed owner target = true ∧ s.node.slotOwner slot.val = fabricCode owner ∧
      s.node.islandDown (fabricHome target).snd.snd = false ∧ 0 < bytes.length ∧ ofs + bytes.length ≤ (fabricHome target).snd.fst ∧ ofs % 256 +
      bytes.length ≤ 256 ∧ fabricInitiator owner target = some by_ ∧ s.node.cutOff by_ = false) ∧
  (∃ (s : State) (owner : FabricOwner) (slot : Fin 16) (target : FabricTarget) (ofs : Nat) (bytes : List Byte), s.node.powered = true ∧
      s.node.islandDown 5 = false ∧ s.node.fabricAllowed owner target = true ∧ s.node.slotOwner slot.val = fabricCode owner ∧ s.node.islandDown
      (fabricHome target).snd.snd = false ∧ 0 < bytes.length ∧ ofs + bytes.length ≤ (fabricHome target).snd.fst ∧ target = FabricTarget.datasets) ∧
  (∃ (s : State) (owner : FabricOwner) (slot : Fin 16) (target : FabricTarget) (ofs : Nat) (len : Nat), s.node.powered = true ∧
      s.node.islandDown 5 = false ∧ s.node.fabricAllowed owner target = true ∧ s.node.slotOwner slot.val = fabricCode owner ∧ s.node.islandDown
      (fabricHome target).snd.snd = false ∧ 0 < len ∧ ofs % 256 + len ≤ 256 ∧ ofs + len ≤ (fabricHome target).snd.fst ∧ fabricInitiator owner target
      = none) ∧
  (∃ (s : State) (owner : FabricOwner) (slot : Fin 16) (target : FabricTarget) (ofs : Nat) (len : Nat) (by_ : Initiator), s.node.powered = true
      ∧ s.node.islandDown 5 = false ∧ s.node.fabricAllowed owner target = true ∧ s.node.slotOwner slot.val = fabricCode owner ∧ s.node.islandDown
      (fabricHome target).snd.snd = false ∧ 0 < len ∧ ofs % 256 + len ≤ 256 ∧ ofs + len ≤ (fabricHome target).snd.fst ∧ fabricInitiator owner target
      = some by_ ∧ s.node.cutOff by_ = false) ∧
  (∃ (s : State) (owner : FabricOwner) (slot : Fin 16) (target : FabricTarget) (ofs : Nat) (bytes : List Byte), s.node.powered = true ∧
      s.node.islandDown 5 = false ∧ s.node.fabricAllowed owner target = true ∧ ((∀ (k : Nat), k < 16 → s.node.slotOwner k ≠ fabricCode owner) ∨
      s.node.slotOwner slot.val = fabricCode owner ∧ s.node.islandDown (fabricHome target).snd.snd = true) ∧ 0 < bytes.length ∧ ofs % 256 +
      bytes.length ≤ 256 ∧ ofs + bytes.length ≤ (fabricHome target).snd.fst) ∧
  (∃ (s : State) (owner : FabricOwner) (slot : Fin 16) (target : FabricTarget) (ofs : Nat) (len : Nat), s.node.powered = true ∧
      s.node.islandDown 5 = false ∧ s.node.fabricAllowed owner target = true ∧ ((∀ (k : Nat), k < 16 → s.node.slotOwner k ≠ fabricCode owner) ∨
      s.node.slotOwner slot.val = fabricCode owner ∧ s.node.islandDown (fabricHome target).snd.snd = true) ∧ 0 < len ∧ ofs % 256 + len ≤ 256 ∧ ofs +
      len ≤ (fabricHome target).snd.fst) :=
  ⟨
   ⟨⟨fabricTransactionNode1, []⟩, .press 1 0#16, 1, .odEngine, 0x1000, [7#8], by decide +kernel⟩,
   ⟨⟨fabricTransactionNode1, []⟩, .host, 3, .outputs, 0x2FF, [7#8], .host, by decide +kernel⟩,
   ⟨⟨fabricTransactionNode1, []⟩, .pdf, 2, .datasets, 0xFF, List.replicate 700 7#8, by decide +kernel⟩,
   ⟨⟨fabricTransactionNode1, []⟩, .blend, 0, .outputs, 0x2F0, 16, by decide +kernel⟩,
   ⟨⟨fabricTransactionNode1, []⟩, .host, 3, .outputs, 0x2F0, 16, .host, by decide +kernel⟩,
   ⟨⟨fabricTransactionNode6, []⟩, .pdf, 2, .datasets, 0, [7#8], by decide +kernel⟩,
   ⟨⟨fabricTransactionNode7, []⟩, .red, 0, .pressImages, 0, 1, by decide +kernel⟩⟩

def registerWriteNode4 : Node := node.setPhase 0x30 (.pending 1)
def partialWriteNode7 : Node := node.setIslands 0x7FF
/-- States and operands meet the hypotheses of every clause of `Obligations.RegisterWritesComplete`. -/
theorem witness_RegisterWritesComplete :
  (∃ (s : State) (by_ : Initiator) (a : Nat) (r : RegRow), s.node.cutOff by_ = false ∧ s.node.held by_ = none ∧ a % 4 = 0 ∧ s.node.reaches by_ a
      = true ∧ s.node.place a = Place.word a ∧ isPlainReg a = true ∧ rowOf a = some r) ∧
  (∃ (s : State) (by_ : Initiator), s.node.cutOff by_ = false ∧ s.node.held by_ = none ∧ s.node.blockHeld 13 = false) ∧
  (∃ (s : State) (by_ : Initiator) (p : Nat), s.node.cutOff by_ = false ∧ s.node.held by_ = none ∧ p < 19 ∧ s.node.blockHeld 3 = false ∧
      s.node.groupLocked 48 = false) ∧
  (∃ (s : State) (by_ : Initiator) (p : Nat), s.node.cutOff by_ = false ∧ s.node.held by_ = none ∧ p < 19 ∧ s.node.blockHeld 3 = false ∧
      s.node.groupLocked 48 = true) ∧
  (∃ (s : State) (by_ : Initiator), s.node.cutOff by_ = false ∧ s.node.held by_ = none ∧ s.node.blockHeld 0 = false) ∧
  (∃ (s : State) (by_ : Initiator) (addr : Nat), s.node.cutOff by_ = false ∧ s.node.held by_ = none ∧ s.node.reaches by_ addr = true) ∧
  (∃ (s : State) (by_ : Initiator) (addr : Nat), s.node.cutOff by_ = false ∧ s.node.held by_ = none ∧ s.node.reaches by_ addr = false) :=
  ⟨
   ⟨⟨node, []⟩, .maint, 0xD00010, ⟨0xD00010, 4, 1, 0, 0xFFFFFF, 0, 0, false, false, 0⟩, by decide +kernel⟩,
   ⟨⟨node, []⟩, .host, by decide +kernel⟩,
   ⟨⟨node, []⟩, .host, 18, by decide +kernel⟩,
   ⟨⟨registerWriteNode4, []⟩, .host, 0, by decide +kernel⟩,
   ⟨⟨node, []⟩, .host, by decide +kernel⟩,
   ⟨⟨node, []⟩, .host, 2, by decide +kernel⟩,
   ⟨⟨partialWriteNode7, []⟩, .host, 0x100001, by decide +kernel⟩⟩

def eqPop0ReadNode6 : Node := { node with host := { node.host with eqFifo := [⟨1#32, 2#32, 3#64⟩] } }
/-- States and operands meet the hypotheses of every clause of `Obligations.LatchingReadsComplete`. -/
theorem witness_LatchingReadsComplete :
  (∃ (s : State) (by_ : Initiator) (a : Nat), s.node.cutOff by_ = false ∧ a % 4 = 0 ∧ s.node.reaches by_ a = true ∧ s.node.place a = Place.word
      a ∧ windowOf a = none ∧ timeView a = none ∧ (rowHas a fun x => x.rc) = true) ∧
  (∃ (s : State) (by_ : Initiator) (a : Nat), s.node.cutOff by_ = false ∧ a % 4 = 0 ∧ s.node.reaches by_ a = true ∧ windowOf a = none ∧ timeView
      a = none ∧ isLowWord (s.node.place a).home = true ∧ isHighWord (s.node.place a).home = false ∧ (s.node.place a).shows = true ∧ (rowHas
      (s.node.place a).home fun x => x.rc) = false ∧ (a < 10486304 ∨ 10486316 < a)) ∧
  (∃ (s : State) (by_ : Initiator), s.node.cutOff by_ = false ∧ s.node.blockHeld 9 = false ∧ s.node.wiped = false) ∧
  (∃ (s : State) (by_ : Initiator) (a : Nat) (window : Nat) (e : Nat), s.node.cutOff by_ = false ∧ a % 4 = 0 ∧ s.node.reaches by_ a = true ∧
      windowOf a = some (window, e, 0)) ∧
  (∃ (s : State) (by_ : Initiator), s.node.cutOff by_ = false ∧ s.node.blockHeld 9 = false) ∧
  (∃ (s : State) (by_ : Initiator) (e : EqEntry) (rest : List EqEntry), s.node.cutOff by_ = false ∧ s.node.blockHeld 10 = false ∧
      s.node.host.eqFifo = e :: rest ∧ s.node.host.eqLost = 0) :=
  ⟨
   ⟨⟨node, []⟩, .host, CNT_XABORT, by decide +kernel⟩,
   ⟨⟨node, []⟩, .host, 0x20, by decide +kernel⟩,
   ⟨⟨node, []⟩, .host, by decide +kernel⟩,
   ⟨⟨node, []⟩, .host, 0x240000, 0x240000, 0, by decide +kernel⟩,
   ⟨⟨node, []⟩, .host, by decide +kernel⟩,
   ⟨⟨eqPop0ReadNode6, []⟩, .host, ⟨1#32, 2#32, 3#64⟩, [], by decide +kernel⟩⟩

def signalHighWordWriteNode2 : Node := node.setHeld .host (some (262143, 5#32))
def signalHighWordWriteNode3 : Node :=
  ((((node.setHeld .host (some (262143, 5#32))).setting (F.JOB_FIRST.at 0) 0).setting (F.JOB.at 0) 1).setting (F.BE_LEN.at 0) 32).setting
    (F.BE_SIGNAL.at 0) 262143
def commandWordWriteNode6 : Node :=
  (((node.setting (F.JOB_FIRST.at 0) 0).setting (F.JOB.at 0) 1).setting (F.BE_LEN.at 0) 32).setting (F.BE_KIND.at 0) 1 |>.setting (F.BE_CTYPE.at
    0) 5
def outXchgNode7 : Node := node.setting (F.PRESS_CFG_WIN_LEN.at 15) 1
/-- States and operands meet the hypotheses of every clause of `Obligations.DataWritesComplete`. -/
theorem witness_DataWritesComplete :
  (∃ (s : State) (by_ : Initiator) (sig : Fin 262144), s.node.cutOff by_ = false ∧ s.node.reaches by_ (33554432 + 8 * sig.val) = true ∧
      s.node.held by_ = none) ∧
  (∃ (s : State) (by_ : Initiator) (sig : Fin 262144) (lo : Word) (v : BitVec 32) (hi : BitVec 32), s.node.cutOff by_ = false ∧ s.node.reaches
      by_ (33554432 + 8 * sig.val + 4) = true ∧ s.node.held by_ = some (sig.val, lo) ∧ s.node.blendOwned sig.val = false ∧ (hi = if s.node.bit
      (F.QA_SFMT.at sig.val) = true then 0#32 else v)) ∧
  (∃ (s : State) (by_ : Initiator) (sig : Fin 262144) (lo : Word), s.node.cutOff by_ = false ∧ s.node.reaches by_ (33554432 + 8 * sig.val + 4) =
      true ∧ s.node.held by_ = some (sig.val, lo) ∧ s.node.blendOwned sig.val = true) ∧
  (∃ (s : State) (by_ : Initiator) (sig : Fin 262144), s.node.cutOff by_ = false ∧ s.node.reaches by_ (33554432 + 8 * sig.val + 4) = true ∧
      s.node.held by_ = none) ∧
  (∃ (s : State) (by_ : Initiator) (ch : Fin 24), s.node.cutOff by_ = false ∧ s.node.reaches by_ (11599872 + 4 * ch.val) = true ∧ s.node.held
      by_ = none ∧ s.node.commandOwned ch.val = false) ∧
  (∃ (s : State) (by_ : Initiator) (ch : Fin 24), s.node.cutOff by_ = false ∧ s.node.reaches by_ (11599872 + 4 * ch.val) = true ∧ s.node.held
      by_ = none ∧ s.node.commandOwned ch.val = true) ∧
  (∃ (s : State) (by_ : Initiator) (p : Fin 16), s.node.cutOff by_ = false ∧ s.node.reaches by_ (imageBase p.val + 16) = true ∧ 16 <
      s.node.winLen p.val) :=
  ⟨
   ⟨⟨node, []⟩, .host, 262143, by decide +kernel⟩,
   ⟨⟨signalHighWordWriteNode2, []⟩, .host, 262143, 5#32, 9#32, 9#32, by decide +kernel⟩,
   ⟨⟨signalHighWordWriteNode3, []⟩, .host, 262143, 5#32, by decide +kernel⟩,
   ⟨⟨node, []⟩, .host, 0, by decide +kernel⟩,
   ⟨⟨node, []⟩, .host, 23, by decide +kernel⟩,
   ⟨⟨commandWordWriteNode6, []⟩, .host, 0, by decide +kernel⟩,
   ⟨⟨outXchgNode7, []⟩, .host, 15, by decide +kernel⟩⟩

def frameReceivedNode3 : Node := node.wr F.PWR_STATUS_START_PHASE 3
def frameReceivedNode4 : Node :=
  (node.setting (F.PRESS_CFG_ENABLE.at 1) 1).setting (F.PRESS_CFG_DED_PORT.at 1) 5 |>.wr (F.LINK_STATUS_UP.at 5) 1 |>.wr (F.PRESS_STATE_STATE.at
    1) 2
def frameReceivedNode5 : Node := (node.setting (F.PRESS_CFG_ENABLE.at 1) 1).setting (F.PRESS_CFG_DED_PORT.at 1) 5 |>.wr (F.LINK_STATUS_UP.at 5) 1
def frameReceivedNode6 : Node := node.setting (F.VLAN_MEMBER.at 1) 0x10000
def frameReceivedNode7 : Node := (node.setting (F.VLAN_MEMBER.at 1) 0x40000).setting (F.PORT_CFG_LEARN.at 18) 1
def frameReceivedBase : Node :=
  ((node.setting (F.PORT_CFG_LEARN.at 18) 0).setting (F.PORT_CFG_FLOOD_UC.at 16) 1).setting (F.PORT_CFG_FLOOD_UC.at 18) 1
def frameReceivedNode8 : Node :=
  ((frameReceivedBase.setting (F.VLAN_MEMBER.at 1) 0x50000).setting (F.VLAN_ROUTE.at 1) 1).setting F.ROUTER_MAC_MAC 0x00000001 |>.setting
    (F.ROUTER_MAC_MAC.at 1) 0x0200
def frameReceivedNode11 : Node := frameReceivedBase.setting (F.VLAN_MEMBER.at 1) 0x40000
def frameReceivedNode12 : Node := frameReceivedBase.setting (F.VLAN_MEMBER.at 1) 0x50000
def frameReceivedNode13 : Node :=
  { frameReceivedBase.setting (F.VLAN_MEMBER.at 1) 0x50000 with cellar :=
    { node.cellar with copies := [{ copy 16 0 with casks := 16 }, { copy 0 0 with casks := 24576, guaranteed := false }] } }
/-- States and operands meet the hypotheses of every clause of `Obligations.FrameReceptionCompletes`. -/
theorem witness_FrameReceptionCompletes :
  (∃ (s : State) (port : Fin 19) (f₀ : Frame) (press : Option (Fin 16)), s.node.powered = true ∧ s.node.islandDown 0 = false ∧ (s.node.port
      port.val).loopback = false ∧ s.node.physical port.val = true ∧ s.node.linkUp port.val = true ∧ port.val = 17 ∧ s.node.fromPp f₀ press = none)
      ∧
  (∃ (s : State) (port : Fin 19) (f₀ : Frame) (f : Frame) (rx : RxFlags) (press : Option (Fin 16)) (c : Nat), s.node.powered = true ∧
      s.node.islandDown 0 = false ∧ (s.node.port port.val).loopback = false ∧ s.node.physical port.val = true ∧ s.node.linkUp port.val = true ∧ ((if
      port.val = 17 then s.node.fromPp f₀ press else some f₀) = some f) ∧ s.node.checkFails (port.val) f rx = some c) ∧
  (∃ (s : State) (port : Fin 19) (f₀ : Frame) (f : Frame) (rx : RxFlags) (press : Option (Fin 16)), s.node.powered = true ∧ s.node.islandDown 0
      = false ∧ (s.node.port port.val).loopback = false ∧ s.node.physical port.val = true ∧ s.node.linkUp port.val = true ∧ ((if port.val = 17 then
      s.node.fromPp f₀ press else some f₀) = some f) ∧ s.node.checkFails (port.val) f rx = none ∧ s.node.forwarding = false) ∧
  (∃ (s : State) (port : Fin 19) (f₀ : Frame) (f : Frame) (rx : RxFlags) (press : Option (Fin 16)) (k : Fin 16), s.node.powered = true ∧
      s.node.islandDown 0 = false ∧ (s.node.port port.val).loopback = false ∧ s.node.physical port.val = true ∧ s.node.linkUp port.val = true ∧ ((if
      port.val = 17 then s.node.fromPp f₀ press else some f₀) = some f) ∧ s.node.checkFails (port.val) f rx = none ∧ s.node.forwarding = true ∧
      s.node.dedicated port.val = some k.val ∧ s.node.pressTakes (k.val) f = true) ∧
  (∃ (s : State) (port : Fin 19) (f₀ : Frame) (f : Frame) (rx : RxFlags) (press : Option (Fin 16)) (k : Fin 16), s.node.powered = true ∧
      s.node.islandDown 0 = false ∧ (s.node.port port.val).loopback = false ∧ s.node.physical port.val = true ∧ s.node.linkUp port.val = true ∧ ((if
      port.val = 17 then s.node.fromPp f₀ press else some f₀) = some f) ∧ s.node.checkFails (port.val) f rx = none ∧ s.node.forwarding = true ∧
      s.node.dedicated port.val = some k.val ∧ s.node.pressTakes (k.val) f = false) ∧
  (∃ (s : State) (port : Fin 19) (f₀ : Frame) (f : Frame) (rx : RxFlags) (press : Option (Fin 16)), s.node.powered = true ∧ s.node.islandDown 0
      = false ∧ (s.node.port port.val).loopback = false ∧ s.node.physical port.val = true ∧ s.node.linkUp port.val = true ∧ ((if port.val = 17 then
      s.node.fromPp f₀ press else some f₀) = some f) ∧ s.node.checkFails (port.val) f rx = none ∧ s.node.forwarding = true ∧ s.node.dedicated
      port.val = none ∧ s.node.pair.enabled = false ∧ s.node.standby = false ∧ (port.val < 4 → Config.isTtdp f.dst f.etype = false) ∧ s.node.member
      (s.node.vidOf (port.val) f) port.val = false) ∧
  (∃ (s : State) (port : Fin 19) (f₀ : Frame) (f : Frame) (rx : RxFlags) (press : Option (Fin 16)), s.node.powered = true ∧ s.node.islandDown 0
      = false ∧ (s.node.port port.val).loopback = false ∧ s.node.physical port.val = true ∧ s.node.linkUp port.val = true ∧ ((if port.val = 17 then
      s.node.fromPp f₀ press else some f₀) = some f) ∧ s.node.checkFails (port.val) f rx = none ∧ s.node.forwarding = true ∧ s.node.dedicated
      port.val = none ∧ s.node.pair.enabled = false ∧ s.node.standby = false ∧ (port.val < 4 → Config.isTtdp f.dst f.etype = false) ∧ s.node.member
      (s.node.vidOf (port.val) f) port.val = true ∧ s.node.cfBit (F.PORT_CFG_LEARN.at port.val) = true ∧ isGroup f.src = false ∧ s.node.findWay
      f.src (s.node.cf (F.VLAN_FID.at (s.node.vidOf (port.val) f))) = none ∧ (∃ k, k ∈ bucketKeys (macBucket f.src (s.node.cf (F.VLAN_FID.at
      (s.node.vidOf (port.val) f)))) ∧ s.node.way k = none)) ∧
  (∃ (s : State) (port : Fin 19) (f₀ : Frame) (f : Frame) (rx : RxFlags) (press : Option (Fin 16)) (ip : Ipv4), s.node.powered = true ∧
      s.node.islandDown 0 = false ∧ (s.node.port port.val).loopback = false ∧ s.node.physical port.val = true ∧ s.node.linkUp port.val = true ∧ ((if
      port.val = 17 then s.node.fromPp f₀ press else some f₀) = some f) ∧ s.node.checkFails (port.val) f rx = none ∧ s.node.forwarding = true ∧
      s.node.dedicated port.val = none ∧ s.node.pair.enabled = false ∧ s.node.standby = false ∧ (port.val < 4 → Config.isTtdp f.dst f.etype = false)
      ∧ s.node.member (s.node.vidOf (port.val) f) port.val = true ∧ s.node.cfBit (F.PORT_CFG_LEARN.at port.val) = false ∧ s.node.ptpPath (port.val)
      f = PtpPath.bridge ∧ f.ip = some ip ∧ f.etype = 2048#16 ∧ f.dst = s.node.routerMac ∧ s.node.routerMac ≠ 0#48 ∧ (s.node.cf (F.VLAN_ROUTE.at
      (s.node.vidOf (port.val) f)) = 1 ∨ s.node.cf (F.VLAN_ROUTE.at (s.node.vidOf (port.val) f)) = 2) ∧ ip.checksumOk = false) ∧
  (∃ (s : State) (port : Fin 19) (f₀ : Frame) (f : Frame) (rx : RxFlags) (press : Option (Fin 16)) (ip : Ipv4), s.node.powered = true ∧
      s.node.islandDown 0 = false ∧ (s.node.port port.val).loopback = false ∧ s.node.physical port.val = true ∧ s.node.linkUp port.val = true ∧ ((if
      port.val = 17 then s.node.fromPp f₀ press else some f₀) = some f) ∧ s.node.checkFails (port.val) f rx = none ∧ s.node.forwarding = true ∧
      s.node.dedicated port.val = none ∧ s.node.pair.enabled = false ∧ s.node.standby = false ∧ (port.val < 4 → Config.isTtdp f.dst f.etype = false)
      ∧ s.node.member (s.node.vidOf (port.val) f) port.val = true ∧ s.node.cfBit (F.PORT_CFG_LEARN.at port.val) = false ∧ s.node.ptpPath (port.val)
      f = PtpPath.bridge ∧ f.ip = some ip ∧ f.etype = 2048#16 ∧ f.dst = s.node.routerMac ∧ s.node.routerMac ≠ 0#48 ∧ (s.node.cf (F.VLAN_ROUTE.at
      (s.node.vidOf (port.val) f)) = 1 ∨ s.node.cf (F.VLAN_ROUTE.at (s.node.vidOf (port.val) f)) = 2) ∧ ip.checksumOk = true ∧ ip.ihl ≠ 5#4) ∧
  (∃ (s : State) (port : Fin 19) (f₀ : Frame) (f : Frame) (rx : RxFlags) (press : Option (Fin 16)) (ip : Ipv4), s.node.powered = true ∧
      s.node.islandDown 0 = false ∧ (s.node.port port.val).loopback = false ∧ s.node.physical port.val = true ∧ s.node.linkUp port.val = true ∧ ((if
      port.val = 17 then s.node.fromPp f₀ press else some f₀) = some f) ∧ s.node.checkFails (port.val) f rx = none ∧ s.node.forwarding = true ∧
      s.node.dedicated port.val = none ∧ s.node.pair.enabled = false ∧ s.node.standby = false ∧ (port.val < 4 → Config.isTtdp f.dst f.etype = false)
      ∧ s.node.member (s.node.vidOf (port.val) f) port.val = true ∧ s.node.cfBit (F.PORT_CFG_LEARN.at port.val) = false ∧ s.node.ptpPath (port.val)
      f = PtpPath.bridge ∧ f.ip = some ip ∧ f.etype = 2048#16 ∧ f.dst = s.node.routerMac ∧ s.node.routerMac ≠ 0#48 ∧ (s.node.cf (F.VLAN_ROUTE.at
      (s.node.vidOf (port.val) f)) = 1 ∨ s.node.cf (F.VLAN_ROUTE.at (s.node.vidOf (port.val) f)) = 2) ∧ ip.checksumOk = true ∧ ip.ihl = 5#4 ∧
      BitVec.toNat ip.ttl ≤ 1) ∧
  (∃ (s : State) (port : Fin 19) (f₀ : Frame) (f : Frame) (rx : RxFlags) (press : Option (Fin 16)), s.node.powered = true ∧ s.node.islandDown 0
      = false ∧ (s.node.port port.val).loopback = false ∧ s.node.physical port.val = true ∧ s.node.linkUp port.val = true ∧ ((if port.val = 17 then
      s.node.fromPp f₀ press else some f₀) = some f) ∧ s.node.checkFails (port.val) f rx = none ∧ s.node.forwarding = true ∧ s.node.dedicated
      port.val = none ∧ s.node.pair.enabled = false ∧ s.node.standby = false ∧ (port.val < 4 → Config.isTtdp f.dst f.etype = false) ∧ s.node.member
      (s.node.vidOf (port.val) f) port.val = true ∧ s.node.cfBit (F.PORT_CFG_LEARN.at port.val) = false ∧ s.node.ptpPath (port.val) f =
      PtpPath.bridge ∧ f.dst ≠ s.node.routerMac ∧ List.filter (fun x => x != port.val) (s.node.bridgePorts f.dst (s.node.vidOf (port.val) f)) = [])
      ∧
  (∃ (s : State) (port : Fin 19) (f₀ : Frame) (f : Frame) (rx : RxFlags) (press : Option (Fin 16)) (q : Nat) (form : Frame) (g : Bool),
      s.node.powered = true ∧ s.node.islandDown 0 = false ∧ (s.node.port port.val).loopback = false ∧ s.node.physical port.val = true ∧
      s.node.linkUp port.val = true ∧ ((if port.val = 17 then s.node.fromPp f₀ press else some f₀) = some f) ∧ s.node.checkFails (port.val) f rx =
      none ∧ s.node.forwarding = true ∧ s.node.dedicated port.val = none ∧ s.node.pair.enabled = false ∧ s.node.standby = false ∧ (port.val < 4 →
      Config.isTtdp f.dst f.etype = false) ∧ s.node.member (s.node.vidOf (port.val) f) port.val = true ∧ s.node.cfBit (F.PORT_CFG_LEARN.at port.val)
      = false ∧ s.node.ptpPath (port.val) f = PtpPath.bridge ∧ f.dst ≠ s.node.routerMac ∧ List.filter (fun x => x != port.val) (s.node.bridgePorts
      f.dst (s.node.vidOf (port.val) f)) = [q] ∧ s.node.mayReach q = true ∧ form = s.node.egressForm f (s.node.vidOf (port.val) f) (s.node.pcpOf
      (port.val) f) q ∧ s.node.admission (casksOf f.len) q (s.node.queueOf q (s.node.pcpOf (port.val) f)) form.len = Admission.taken g) ∧
  (∃ (s : State) (port : Fin 19) (f₀ : Frame) (f : Frame) (rx : RxFlags) (press : Option (Fin 16)) (q : Nat) (form : Frame), s.node.powered =
      true ∧ s.node.islandDown 0 = false ∧ (s.node.port port.val).loopback = false ∧ s.node.physical port.val = true ∧ s.node.linkUp port.val = true
      ∧ ((if port.val = 17 then s.node.fromPp f₀ press else some f₀) = some f) ∧ s.node.checkFails (port.val) f rx = none ∧ s.node.forwarding = true
      ∧ s.node.dedicated port.val = none ∧ s.node.pair.enabled = false ∧ s.node.standby = false ∧ (port.val < 4 → Config.isTtdp f.dst f.etype =
      false) ∧ s.node.member (s.node.vidOf (port.val) f) port.val = true ∧ s.node.cfBit (F.PORT_CFG_LEARN.at port.val) = false ∧ s.node.ptpPath
      (port.val) f = PtpPath.bridge ∧ f.dst ≠ s.node.routerMac ∧ List.filter (fun x => x != port.val) (s.node.bridgePorts f.dst (s.node.vidOf
      (port.val) f)) = [q] ∧ s.node.mayReach q = true ∧ form = s.node.egressForm f (s.node.vidOf (port.val) f) (s.node.pcpOf (port.val) f) q ∧
      s.node.admission (casksOf f.len) q (s.node.queueOf q (s.node.pcpOf (port.val) f)) form.len = Admission.refused) :=
  ⟨
   ⟨⟨node, []⟩, 17, frame, some 0, by decide +kernel⟩,
   ⟨⟨node, []⟩, 18, { frame with len := 63 }, { frame with len := 63 }, ⟨false, false, false⟩, none, CNT_RUNT 18, by decide +kernel⟩,
   ⟨⟨frameReceivedNode3, []⟩, 18, frame, frame, ⟨false, false, false⟩, none, by decide +kernel⟩,
   ⟨⟨frameReceivedNode4, []⟩, 5, frame, frame, ⟨false, false, false⟩, none, 1, by decide +kernel⟩,
   ⟨⟨frameReceivedNode5, []⟩, 5, frame, frame, ⟨false, false, false⟩, none, 1, by decide +kernel⟩,
   ⟨⟨frameReceivedNode6, []⟩, 18, frame, frame, ⟨false, false, false⟩, none, by decide +kernel⟩,
   ⟨⟨frameReceivedNode7, []⟩, 18, frame, frame, ⟨false, false, false⟩, none, by decide +kernel⟩,
   ⟨⟨frameReceivedNode8, []⟩, 18, { frame with etype := 0x0800#16, body := .ipv4 ({ ipHead with checksumOk := false }) },
       { frame with etype := 0x0800#16, body := .ipv4 ({ ipHead with checksumOk := false }) }, ⟨false, false, false⟩, none,
       { ipHead with checksumOk := false }, by decide +kernel⟩,
   ⟨⟨frameReceivedNode8, []⟩, 18, { frame with etype := 0x0800#16, body := .ipv4 ({ ipHead with ihl := 6#4 }) },
       { frame with etype := 0x0800#16, body := .ipv4 ({ ipHead with ihl := 6#4 }) }, ⟨false, false, false⟩, none, { ipHead with ihl := 6#4 }, by
       decide +kernel⟩,
   ⟨⟨frameReceivedNode8, []⟩, 18, { frame with etype := 0x0800#16, body := .ipv4 ({ ipHead with ttl := 1#8 }) },
       { frame with etype := 0x0800#16, body := .ipv4 ({ ipHead with ttl := 1#8 }) }, ⟨false, false, false⟩, none, { ipHead with ttl := 1#8 }, by
       decide +kernel⟩,
   ⟨⟨frameReceivedNode11, []⟩, 18, frame, frame, ⟨false, false, false⟩, none, by decide +kernel⟩,
   ⟨⟨frameReceivedNode12, []⟩, 18, frame, frame, ⟨false, false, false⟩, none, 16, frameReceivedNode12.egressForm frame 1 0 16, true, by
       decide +kernel⟩,
   ⟨⟨frameReceivedNode13, []⟩, 18, frame, frame, ⟨false, false, false⟩, none, 16, frameReceivedNode13.egressForm frame 1 0 16, by decide +kernel⟩⟩

def copySelectedNode1 : Node := { node with cellar := { node.cellar with copies := [copy 18 7] } }
def copySentNode2 : Node := { node with cellar := { node.cellar with sending := [(18, some (copy 18 0))] } }
def copySentNode3 : Node := { node.wr F.SWC_STATUS_RETIRED 63 with cellar := { node.cellar with sending := [(18, some (copy 18 0))] } }
def learnedEntryAgedNode5 : Node := { node with cellar := { node.cellar with table := [(16383, some ⟨1#48, 0, 1#19, false, 0⟩)] } }
def mdCollisionNode9 : Node := { node with cellar := { node.cellar with sending := [(15, some { copy 15 0 with tries := 14 })] } }
def mdCollisionNode10 : Node := { node with cellar := { node.cellar with sending := [(15, some { copy 15 0 with tries := 15 })] } }
def lateCollisionNode11 : Node := { node with cellar := { node.cellar with sending := [(14, some (copy 14 0))] } }
def leesReleaseFrameNode13 : Node := { node with cellar := { node.cellar with releasing := 1, lees := [⟨0, frame, 18, 1, 0, 1, 0, 0, none⟩] } }
/-- States and operands meet the hypotheses of every clause of `Obligations.EgressCommandsComplete`. -/
theorem witness_EgressCommandsComplete :
  (∃ (s : State) (port : Fin 19) (q : Fin 8) (ns : Nat) (c : Copy), s.node.forwarding = true ∧ s.node.portIdle port.val = true ∧ port.val ≠ 16 ∧
      (∀ (k : Nat), q.val < k → k < 8 → s.node.headCopy (port.val) k = (s.node, none)) ∧ s.node.headCopy port.val q.val = (s.node, some c) ∧
      s.node.gateFits (port.val) (q.val) ns c.out.len (s.node.mbps port.val) = true) ∧
  (∃ (s : State) (port : Fin 19) (c : Copy), s.node.sendingOn port.val = some c ∧ c.out.ptpEvent = none ∧ c.port = port.val) ∧
  (∃ (s : State) (port : Fin 19) (c : Copy), s.node.sendingOn port.val = some c ∧ c.out.ptpEvent = none ∧ c.port = port.val) ∧
  (∃ (s : State), s.node.forwarding = true) ∧
  (∃ (s : State) (bucket : Fin 2048) (way : Fin 8) (w : Way), s.node.way (8 * bucket.val + way.val) = some w ∧ w.isStatic = false ∧ s.node.cf
      F.ADDR_CFG_AGE_SEL ≠ 7) ∧
  (∃ (s : State), s.node.forwarding = true) ∧
  (∃ (s : State), s.node.forwarding = true) ∧
  (∃ (s : State) (h : Nat), s.node.forwarding = true ∧ (s.node.heldFrames.any fun e => e.fst == h) = true) ∧
  (∃ (s : State) (md : Fin 2) (c : Copy), s.node.sendingOn (14 + md.val) = some c ∧ c.tries < 15) ∧
  (∃ (s : State) (md : Fin 2) (c : Copy), s.node.sendingOn (14 + md.val) = some c ∧ 15 ≤ c.tries) ∧
  (∃ (s : State) (md : Fin 2) (c : Copy), s.node.sendingOn (14 + md.val) = some c) ∧
  (∃ (s : State) (h : HeldFrame) (rest : List HeldFrame), s.node.forwarding = true ∧ s.node.cellar.releasing ≠ 0 ∧ s.node.cellar.lees = h ::
      rest) :=
  ⟨
   ⟨⟨copySelectedNode1, []⟩, 18, 7, 0, copy 18 7,
    by refine ⟨?_, ?_, ?_, fun k _ _ => by omega, ?_⟩ <;> decide +kernel⟩,
   ⟨⟨copySentNode2, []⟩, 18, copy 18 0, by decide +kernel⟩,
   ⟨⟨copySentNode3, []⟩, 18, copy 18 0, by decide +kernel⟩,
   ⟨⟨copySelectedNode1, []⟩, by decide +kernel⟩,
   ⟨⟨learnedEntryAgedNode5, []⟩, 2047, 7, ⟨1#48, 0, 1#19, false, 0⟩, by decide +kernel⟩,
   ⟨⟨node, []⟩, by decide +kernel⟩,
   ⟨⟨node, []⟩, by decide +kernel⟩,
   ⟨⟨copySelectedNode1, []⟩, 0, by decide +kernel⟩,
   ⟨⟨mdCollisionNode9, []⟩, 1, { copy 15 0 with tries := 14 }, by decide +kernel⟩,
   ⟨⟨mdCollisionNode10, []⟩, 1, { copy 15 0 with tries := 15 }, by decide +kernel⟩,
   ⟨⟨lateCollisionNode11, []⟩, 0, copy 14 0, by decide +kernel⟩,
   ⟨⟨leesReleaseFrameNode13, []⟩, ⟨0, frame, 18, 1, 0, 1, 0, 0, none⟩, [], by decide +kernel⟩⟩

def phyLinkOkNode1 : Node := node.setting (F.PORT_MODE_MODE.at 13) 5
def phyLinkOkNode2 : Node := (node.setting (F.PORT_MODE_MODE.at 13) 5).setPort 13 fun p => { p with usable := true }
def phyLinkOkNode3 : Node := node.setting (F.PORT_MODE_MODE.at 13) 4
def linkUpReportNode4 : Node := (node.setting (F.PORT_MODE_MODE.at 4) 5).setPort 4 fun p => { p with usable := true }
def phyLinkLossNode5 : Node := node.setPort 13 fun p => { p with usable := true }
def linkDownReportNode6 : Node := node.wr (F.LINK_STATUS_UP.at 4) 1
def linkAttemptFailedNode7 : Node := node.setting (F.PORT_MODE_MODE.at 4) 4
def linkAttemptFailedNode8 : Node := node.setting (F.PORT_MODE_MODE.at 4) 9
def linkAttemptFailedNode9 : Node := (node.setting (F.PORT_MODE_MODE.at 3) 2).wr ⟨0x300008, 0, 2, 4⟩ 3
def settleMaskEndNode11 : Node := node.wr ⟨0x300008, 3, 1, 4⟩ 1
def wakeEmitNode12 : Node := node.wr (F.LINK_STATUS_UP.at 3) 1
def wakeEmitNode13 : Node := node.setting (F.PORT_MODE_MODE.at 0) 0
def wakeEmitNode14 : Node := node.setting (F.PORT_MODE_MODE.at 0) 1
/-- States and operands meet the hypotheses of every clause of `Obligations.PortCommandsComplete`. -/
theorem witness_PortCommandsComplete :
  (∃ (s : State) (port : Fin 16) (info : PhyInfo), port.val < 14 ∧ s.node.portTrains port.val = true ∧ s.node.phyRefused (port.val) info = none
      ∧ (s.node.port port.val).usable = false) ∧
  (∃ (s : State) (port : Fin 16) (info : PhyInfo), port.val < 14 ∧ s.node.portTrains port.val = true ∧ s.node.phyRefused (port.val) info = none
      ∧ (s.node.port port.val).usable = true) ∧
  (∃ (s : State) (port : Fin 16) (info : PhyInfo) (why : LinkFailure), port.val < 14 ∧ s.node.portTrains port.val = true ∧ s.node.phyRefused
      (port.val) info = some why) ∧
  (∃ (s : State) (port : Fin 16), s.node.portTrains port.val = true ∧ s.node.portUsable port.val = true ∧ s.node.linkUp port.val = false ∧
      s.node.settling port.val = false) ∧
  (∃ (s : State) (port : Fin 16), s.node.powered = true ∧ (s.node.port port.val).usable = true ∧ port.val < 14) ∧
  (∃ (s : State) (port : Fin 16), s.node.powered = true ∧ s.node.physical port.val = true ∧ s.node.linkUp port.val = true ∧ s.node.portUsable
      port.val = false ∧ s.node.settling port.val = false) ∧
  (∃ (s : State) (port : Fin 16), s.node.portTrains port.val = true ∧ (s.node.port port.val).usable = false ∧ modeHears (s.node.portMode
      F.PORT_MODE_MODE port.val) = true) ∧
  (∃ (s : State) (port : Fin 16), s.node.portTrains port.val = true ∧ (s.node.port port.val).usable = false ∧ modeHears (s.node.portMode
      F.PORT_MODE_MODE port.val) = true) ∧
  (∃ (s : State) (port : Fin 16), s.node.portTrains port.val = true ∧ (s.node.port port.val).usable = false ∧ isT1 (s.node.portMode
      F.PORT_MODE_MODE port.val) = true) ∧
  (∃ (s : State) (port : Fin 16), s.node.portTrains port.val = true ∧ (s.node.port port.val).usable = false ∧ isT1 (s.node.portMode
      F.PORT_MODE_MODE port.val) = true) ∧
  (∃ (s : State) (lineB : Bool), s.node.powered = true ∧ s.node.bit { addr := 3145736, lsb := 2 + lineB.toNat, width := 1 } = true) ∧
  (∃ (s : State) (by_ : Initiator) (p : Fin 4), s.node.Reaches by_ 3 ∧ s.node.emitting p.val = false ∧ s.node.linkUp p.val = true) ∧
  (∃ (s : State) (by_ : Initiator) (p : Fin 4), s.node.Reaches by_ 3 ∧ s.node.emitting p.val = false ∧ s.node.linkUp p.val = false ∧
      s.node.portMode F.PORT_MODE_MODE p.val = 0) ∧
  (∃ (s : State) (by_ : Initiator) (p : Fin 4), s.node.Reaches by_ 3 ∧ s.node.emitting p.val = false ∧ s.node.linkUp p.val = false ∧
      s.node.portMode F.PORT_MODE_MODE p.val ≠ 0) :=
  ⟨
   ⟨⟨phyLinkOkNode1, []⟩, 13, ⟨3#3, true, true, false, true, 5#3, true, true⟩, by decide +kernel⟩,
   ⟨⟨phyLinkOkNode2, []⟩, 13, ⟨3#3, true, true, false, true, 5#3, true, true⟩, by decide +kernel⟩,
   ⟨⟨phyLinkOkNode3, []⟩, 13, ⟨3#3, true, true, false, true, 5#3, true, true⟩, .speed, by decide +kernel⟩,
   ⟨⟨linkUpReportNode4, []⟩, 4, by decide +kernel⟩,
   ⟨⟨phyLinkLossNode5, []⟩, 13, by decide +kernel⟩,
   ⟨⟨linkDownReportNode6, []⟩, 4, by decide +kernel⟩,
   ⟨⟨linkAttemptFailedNode7, []⟩, 4, by decide +kernel⟩,
   ⟨⟨linkAttemptFailedNode8, []⟩, 4, by decide +kernel⟩,
   ⟨⟨linkAttemptFailedNode9, []⟩, 3, by decide +kernel⟩,
   ⟨⟨linkAttemptFailedNode9, []⟩, 3, by decide +kernel⟩,
   ⟨⟨settleMaskEndNode11, []⟩, true, by decide +kernel⟩,
   ⟨⟨wakeEmitNode12, []⟩, .host, 3, by unfold Node.Reaches; decide +kernel⟩,
   ⟨⟨wakeEmitNode13, []⟩, .host, 0, by unfold Node.Reaches; decide +kernel⟩,
   ⟨⟨wakeEmitNode14, []⟩, .host, 0, by unfold Node.Reaches; decide +kernel⟩⟩

def snapCmdGoNode2 : Node := node.wr F.SNAP_STATUS_BUSY 1
/-- States and operands meet the hypotheses of every clause of `Obligations.SnapshotCommandsComplete`. -/
theorem witness_SnapshotCommandsComplete :
  (∃ (s : State) (by_ : Initiator) (v : Word) (p : Nat), s.node.Reaches by_ 3 ∧ s.node.bit F.SNAP_STATUS_BUSY = false ∧ F.SNAP_CMD_GO.get v = 1
      ∧ (if F.SNAP_CMD_ALL.get v = 1 then p ≤ 18 else F.SNAP_CMD_PORT.get v = p ∧ p ≤ 18)) ∧
  (∃ (s : State) (by_ : Initiator), s.node.Reaches by_ 3 ∧ s.node.bit F.SNAP_STATUS_BUSY = true ∧ s.node.held by_ = none) ∧
  (∃ (s : State), s.node.bit F.SNAP_STATUS_BUSY = true) :=
  ⟨
   ⟨⟨node, []⟩, .host, F.SNAP_CMD_GO.put (F.SNAP_CMD_PORT.put 0#32 18) 1, 18, by unfold Node.Reaches; decide +kernel⟩,
   ⟨⟨snapCmdGoNode2, []⟩, .host, by unfold Node.Reaches; decide +kernel⟩,
   ⟨⟨snapCmdGoNode2, []⟩, by decide +kernel⟩⟩

def speculationTimeoutNode9 : Node :=
  { { node with ina := { node.ina with spec := some ⟨⟨1, true, false, 2⟩, [], none, false, 0⟩ } } with cellar :=
    { node.cellar with lees := [⟨0, frame, 18, 1, 0, 1, 0, 0, none⟩] } }
/-- States and operands meet the hypotheses of every clause of `Obligations.InaugurationCommandsComplete`. -/
theorem witness_InaugurationCommandsComplete :
  (∃ (s : State) (line : Fin 4), s.node.forwarding = true ∧ s.node.linkUp line.val = true) ∧
  (∃ (s : State) (line : Fin 4), s.node.forwarding = true ∧ s.node.linkUp line.val = true) ∧
  (∃ (s : State) (line : Fin 4) (t : List ConsistInfo), s.node.forwarding = true ∧ s.node.linkUp line.val = true ∧ s.node.inaLive = true ∧ 63 <
      t.length) ∧
  (∃ (s : State) (line : Fin 4) (t : List ConsistInfo), s.node.forwarding = true ∧ s.node.linkUp line.val = true ∧ s.node.inaLive = true ∧
      t.length ≤ 63) ∧
  (∃ (s : State) (line : Fin 4), s.node.forwarding = true ∧ s.node.linkUp line.val = true) ∧
  (∃ (s : State) (line : Fin 4) (f : Frame), s.node.inaLive = true ∧ s.node.linkUp line.val = true ∧ f = Config.ttdpFrame true (portMac
      line.val) (BitVec.ofNat 4 (s.node.rd { addr := 4194304, lsb := 4, width := 4 })) s.node.ina.table (topoCount s.node.ina.table)) ∧
  (∃ (s : State) (line : Fin 4) (f : Frame), s.node.inaLive = true ∧ s.node.linkUp line.val = true ∧ f = Config.ttdpFrame false s.node.nodeMac
      (BitVec.ofNat 4 (s.node.rd { addr := 4194304, lsb := 4, width := 4 })) s.node.ina.table (topoCount s.node.ina.table)) ∧
  (∃ (s : State), s.node.inaLive = true ∧ s.node.ina.decided = none ∧ s.node.ina.spec.isSome = true) :=
  ⟨
   ⟨⟨wakeEmitNode12, []⟩, 3, by decide +kernel⟩,
   ⟨⟨wakeEmitNode12, []⟩, 3, by decide +kernel⟩,
   ⟨⟨wakeEmitNode12, []⟩, 3, List.replicate 64 ⟨1#48, true, true, true⟩, by decide +kernel⟩,
   ⟨⟨wakeEmitNode12, []⟩, 3, List.replicate 63 ⟨1#48, true, true, true⟩, by decide +kernel⟩,
   ⟨⟨wakeEmitNode12, []⟩, 3, by decide +kernel⟩,
   ⟨⟨wakeEmitNode12, []⟩, 3, Config.ttdpFrame true (portMac 3) (BitVec.ofNat 4 (wakeEmitNode12.rd ⟨0x400000, 4, 4, 4⟩)) wakeEmitNode12.ina.table
       (topoCount wakeEmitNode12.ina.table),
    by refine ⟨?_, ?_, rfl⟩ <;> decide +kernel⟩,
   ⟨⟨wakeEmitNode12, []⟩, 3, Config.ttdpFrame false (wakeEmitNode12.nodeMac) (BitVec.ofNat 4 (wakeEmitNode12.rd ⟨0x400000, 4, 4, 4⟩))
       wakeEmitNode12.ina.table (topoCount wakeEmitNode12.ina.table),
    by refine ⟨?_, ?_, rfl⟩ <;> decide +kernel⟩,
   ⟨⟨speculationTimeoutNode9, []⟩, by decide +kernel⟩⟩

def topologyCommitNode1 : Node :=
  { node with ina :=
    { node.ina with table := [⟨1#48, true, true, true⟩], decided := some ⟨0, [⟨1#48, true, true, true⟩], 5#32, [], false, 0, 0, []⟩ } }
def recomputeValidatedNode2 : Node :=
  { node with ina := { node.ina with recomputing := some ⟨0, [⟨1#48, true, true, true⟩], 5#32, [], false, 0, 0, []⟩ } }
/-- States and operands meet the hypotheses of every clause of `Obligations.TopologyCommitsComplete`. -/
theorem witness_TopologyCommitsComplete :
  (∃ (s : State) (c : TopoCommit), s.node.ina.decided = some c ∧ s.node.inaLive = true ∧ c.skip = 0 ∧ sameTable s.node.ina.table c.table = true
      ∧ (∀ (e : Nat × Word), e ∈ c.bank → groupOf e.fst = 33) ∧ (∀ (e : Nat × Word), e ∈ c.schedule → groupOf e.fst = 16)) ∧
  (∃ (s : State) (c : TopoCommit), s.node.ina.recomputing = some c ∧ s.node.inaLive = true ∧ (c.tag ≠ 0 ∨ s.node.directoryFits c.table = true)) ∧
  (∃ (s : State), s.node.ina.recomputing.isSome = true) :=
  ⟨
   ⟨⟨topologyCommitNode1, []⟩, ⟨0, [⟨1#48, true, true, true⟩], 5#32, [], false, 0, 0, []⟩, by decide +kernel⟩,
   ⟨⟨recomputeValidatedNode2, []⟩, ⟨0, [⟨1#48, true, true, true⟩], 5#32, [], false, 0, 0, []⟩, by decide +kernel⟩,
   ⟨⟨recomputeValidatedNode2, []⟩, by decide +kernel⟩⟩

def pdTxNode1 : Node := due 2 1023
def pdTxNode2 : Node := (((due 2 0).wr (F.CST_ACTIVE.at 0) 1).wr (F.CST_NEVER.at 0) 1).setting (F.CTX_DS_LEN.at 0) 1
def pdTxBase : Node :=
  (((due 2 1023).setting (F.CTX_PEER_IP.at 1023) 0xEF000001 |>.wr (F.CST_ACTIVE.at 1023) 1 |>.wr (F.CST_NEVER.at 1023) 0).putForce 0x100060
    0x22222222#32 |>.putForce 0x100064 0x22222222#32)
def pdTxNode3 : Node := { (pdTxBase.wr F.RED_STATUS_STATE 4) with pair := { node.pair with enabled := true } }
def pdTxNode4 : Node :=
  (((pdTxBase.setting (F.PORT_CFG_LEARN.at 17) 0).setting (F.PORT_CFG_FLOOD_MC.at 16) 1).setting (F.VLAN_MEMBER.at 1) 0x30000).setting
    (F.CTX_VID.at 1023) 1 |>.setting (F.MAX_FRAME.at 17) 1522
def pdTxNode5 : Node :=
  ((((due 2 1023).setting (F.CTX_PEER_IP.at 1023) 0xEF000001 |>.wr (F.CST_ACTIVE.at 1023) 1 |>.setting (F.CTX_ROLE.at 1023) 2)).putForce 0x100060
    0x22222222#32 |>.putForce 0x100064 0x22222222#32)
def msgCmdPullNode6 : Node := (node.setting (F.CTX_PEER_IP.at 1023) 0xEF000001 |>.wr (F.CST_ACTIVE.at 1023) 1 |>.setting (F.CTX_ROLE.at 1023) 2)
def subscriberTimeoutBase : Node :=
  (node.putForce (F.CTX_COM_ID.at 1023).addr 1000#32).putForce 0x517FE0 0x80000000#32 |>.setting (F.CTX_ROLE.at 1023) 1 |>.setting
    (F.CTX_CNT_MODE.at 1023) 2 |>.wr (F.CST_ACTIVE.at 1023) 1 |>.setting (F.CTX_DS_LEN.at 1023) 1
def pdReceivedBase : Node := (subscriberTimeoutBase).putForce 0x100060 0x22222222#32 |>.putForce 0x100064 0x22222222#32
def pdReceivedNode9 : Node := pdReceivedBase
def pdReceivedNode10 : Node := pdReceivedBase.setting (F.CTX_CNT_MODE.at 1023) 0
def pdReceivedNode11 : Node := pdReceivedBase.putWord (F.CST_SEQ.at 1023).addr 9#32 |>.putWord (F.CST_SRC_IP.at 1023).addr 0x0A000001#32
def pdReceivedNode12 : Node :=
  ((pdReceivedBase.setting (F.CTX_SDT_EN.at 1023) 1 |>.setting (F.CTX_DS_LEN.at 1023) 20)).setFlow 1023 fun f => { f with safeSeq := 4294967295 }
def pullRequestReceivedNode15 : Node := pdReceivedBase.setting (F.CTX_ROLE.at 1023) 3 |>.setting (F.CTX_CNT_MODE.at 1023) 0
def pullRequestReceivedNode16 : Node := pdReceivedBase.setting (F.CTX_ROLE.at 1023) 3
def subscriberTimeoutNode17 : Node := subscriberTimeoutBase.setting (F.CTX_TIMEOUT.at 1023) 1
/-- States and operands meet the hypotheses of every clause of `Obligations.FlowCommandsComplete`. -/
theorem witness_FlowCommandsComplete :
  (∃ (s : State) (entry : Nat) (i : Nat), s.node.due entry 2 = true ∧ s.node.blockHeld 5 = false ∧ s.node.targetOf entry = i ∧ i < 1024 ∧
      (s.node.trellis.running.any fun r => r.action == 2 && r.target == i) = false ∧ s.node.flowActive i = false) ∧
  (∃ (s : State) (entry : Nat) (i : Nat), s.node.due entry 2 = true ∧ s.node.blockHeld 5 = false ∧ s.node.targetOf entry = i ∧ i < 1024 ∧
      (s.node.trellis.running.any fun r => r.action == 2 && r.target == i) = false ∧ s.node.flowActive i = true ∧ s.node.cf (F.CTX_ROLE.at i) = 0 ∧
      s.node.bit (F.CST_NEVER.at i) = true ∧ s.node.cf (F.CTX_DS_LEN.at i) ≠ 0) ∧
  (∃ (s : State) (entry : Nat) (i : Nat) (dst : Ip) (mac : Mac), s.node.due entry 2 = true ∧ s.node.blockHeld 5 = false ∧ s.node.targetOf entry
      = i ∧ i < 1024 ∧ (s.node.trellis.running.any fun r => r.action == 2 && r.target == i) = false ∧ s.node.flowActive i = true ∧ s.node.flowPeer i
      = some dst ∧ s.node.macFor dst = some mac ∧ s.node.ownsSlot 2 = true ∧ s.node.cf (F.CTX_ROLE.at i) = 0 ∧ s.node.bit (F.CST_NEVER.at i) = false
      ∧ s.node.activeUnit = false) ∧
  (∃ (s : State) (entry : Nat) (i : Nat) (dst : Ip) (mac : Mac) (n : Node) (f : Frame), s.node.due entry 2 = true ∧ s.node.blockHeld 5 = false ∧
      s.node.targetOf entry = i ∧ i < 1024 ∧ (s.node.trellis.running.any fun r => r.action == 2 && r.target == i) = false ∧ s.node.flowActive i =
      true ∧ s.node.flowPeer i = some dst ∧ s.node.macFor dst = some mac ∧ s.node.ownsSlot 2 = true ∧ s.node.cf (F.CTX_ROLE.at i) = 0 ∧ s.node.bit
      (F.CST_NEVER.at i) = false ∧ s.node.activeUnit = true ∧ s.node.cfBit (F.CTX_SDT_EN.at i) = false ∧ n = s.node.incr (F.CST_SEQ.at i) ∧ f =
      n.telegramFrame (n.flowTelegram i TrdpType.pd dst (n.forceWord (F.CTX_COM_ID.at i).addr) (s.node.sentData i)) mac (n.cf (F.CTX_VID.at i))
      (n.cf (F.CTX_PCP.at i)) false ∧ s.node.checkFails 17 f { truncated := false, symbolErr := false, fcsErr := false } = none) ∧
  (∃ (s : State) (entry : Nat) (i : Nat) (dst : Ip) (mac : Mac), s.node.due entry 2 = true ∧ s.node.blockHeld 5 = false ∧ s.node.targetOf entry
      = i ∧ i < 1024 ∧ (s.node.trellis.running.any fun r => r.action == 2 && r.target == i) = false ∧ s.node.flowActive i = true ∧ s.node.flowPeer i
      = some dst ∧ s.node.macFor dst = some mac ∧ s.node.ownsSlot 2 = true ∧ s.node.cf (F.CTX_ROLE.at i) = 2) ∧
  (∃ (s : State) (by_ : Initiator) (i : Fin 1024) (dst : Ip) (mac : Mac), s.node.Reaches by_ 5 ∧ s.node.pdfLive = true ∧ s.node.flowActive i.val
      = true ∧ s.node.cf (F.CTX_ROLE.at i.val) = 2 ∧ s.node.flowPeer i.val = some dst ∧ s.node.macFor dst = some mac) ∧
  (∃ (s : State) (t : Telegram), s.node.takes t = true ∧ t.msgType ∈ [TrdpType.pd, TrdpType.pp, TrdpType.pe, TrdpType.unknown] ∧ badHeader t =
      true) ∧
  (∃ (s : State) (t : Telegram), s.node.takes t = true ∧ t.msgType ∈ [TrdpType.pd, TrdpType.pp, TrdpType.pe, TrdpType.unknown] ∧ badHeader t =
      false ∧ s.node.subscriberOf t = none) ∧
  (∃ (s : State) (t : Telegram) (i : Nat), s.node.takes t = true ∧ t.msgType ∈ [TrdpType.pd, TrdpType.pp, TrdpType.pe, TrdpType.unknown] ∧
      badHeader t = false ∧ s.node.subscriberOf t = some i ∧ i < 1024 ∧ (t.dsLen ≠ s.node.cf (F.CTX_DS_LEN.at i) ∨ t.frameLongEnough = false ∨
      t.data.length ≠ t.dsLen)) ∧
  (∃ (s : State) (t : Telegram) (i : Nat), s.node.takes t = true ∧ t.msgType ∈ [TrdpType.pd, TrdpType.pp, TrdpType.pe, TrdpType.unknown] ∧
      badHeader t = false ∧ s.node.subscriberOf t = some i ∧ i < 1024 ∧ t.dsLen = s.node.cf (F.CTX_DS_LEN.at i) ∧ t.frameLongEnough = true ∧
      t.data.length = t.dsLen ∧ s.node.countersOk (s.node.cf (F.CTX_CNT_MODE.at i)) (s.node.cfBit (F.CTX_STRICT.at i)) t.etbTopo t.opTopo = false) ∧
  (∃ (s : State) (t : Telegram) (i : Nat), s.node.takes t = true ∧ t.msgType ∈ [TrdpType.pd, TrdpType.pp, TrdpType.pe, TrdpType.unknown] ∧
      badHeader t = false ∧ s.node.subscriberOf t = some i ∧ i < 1024 ∧ t.dsLen = s.node.cf (F.CTX_DS_LEN.at i) ∧ t.frameLongEnough = true ∧
      t.data.length = t.dsLen ∧ s.node.countersOk (s.node.cf (F.CTX_CNT_MODE.at i)) (s.node.cfBit (F.CTX_STRICT.at i)) t.etbTopo t.opTopo = true ∧
      (t.seq = s.node.word (F.CST_SEQ.at i).addr ∧ t.src = s.node.word (F.CST_SRC_IP.at i).addr)) ∧
  (∃ (s : State) (t : Telegram) (i : Nat), s.node.takes t = true ∧ t.msgType ∈ [TrdpType.pd, TrdpType.pp, TrdpType.pe, TrdpType.unknown] ∧
      badHeader t = false ∧ s.node.subscriberOf t = some i ∧ i < 1024 ∧ t.dsLen = s.node.cf (F.CTX_DS_LEN.at i) ∧ t.frameLongEnough = true ∧
      t.data.length = t.dsLen ∧ s.node.countersOk (s.node.cf (F.CTX_CNT_MODE.at i)) (s.node.cfBit (F.CTX_STRICT.at i)) t.etbTopo t.opTopo = true ∧
      (¬(t.seq = s.node.word (F.CST_SEQ.at i).addr ∧ t.src = s.node.word (F.CST_SRC_IP.at i).addr)) ∧ s.node.cfBit (F.CTX_SDT_EN.at i) = true ∧
      s.node.sdtFails i t.data ≠ 0) ∧
  (∃ (s : State) (t : Telegram) (i : Nat), s.node.takes t = true ∧ t.msgType ∈ [TrdpType.pd, TrdpType.pp, TrdpType.pe, TrdpType.unknown] ∧
      badHeader t = false ∧ s.node.subscriberOf t = some i ∧ i < 1024 ∧ t.dsLen = s.node.cf (F.CTX_DS_LEN.at i) ∧ t.frameLongEnough = true ∧
      t.data.length = t.dsLen ∧ s.node.countersOk (s.node.cf (F.CTX_CNT_MODE.at i)) (s.node.cfBit (F.CTX_STRICT.at i)) t.etbTopo t.opTopo = true ∧
      (¬(t.seq = s.node.word (F.CST_SEQ.at i).addr ∧ t.src = s.node.word (F.CST_SRC_IP.at i).addr)) ∧ (s.node.cfBit (F.CTX_SDT_EN.at i) = true →
      s.node.sdtFails i t.data = 0) ∧ s.node.ownsSlot 2 = true) ∧
  (∃ (s : State) (t : Telegram), s.node.takes t = true ∧ t.msgType = TrdpType.pr ∧ badHeader t = false ∧ List.filter (fun j => s.node.flowActive
      j && s.node.forceWord (F.CTX_COM_ID.at j).addr == t.comId && (s.node.cf (F.CTX_ROLE.at j) == 3 || s.node.cf (F.CTX_ROLE.at j) == 0 &&
      s.node.cfBit (F.CTX_PULL_EN.at j))) s.node.flowsInUse = []) ∧
  (∃ (s : State) (t : Telegram) (i : Nat), s.node.takes t = true ∧ t.msgType = TrdpType.pr ∧ badHeader t = false ∧ i < 1024 ∧ List.filter (fun j
      => s.node.flowActive j && s.node.forceWord (F.CTX_COM_ID.at j).addr == t.comId && (s.node.cf (F.CTX_ROLE.at j) == 3 || s.node.cf
      (F.CTX_ROLE.at j) == 0 && s.node.cfBit (F.CTX_PULL_EN.at j))) s.node.flowsInUse = [i] ∧ s.node.countersOk (s.node.cf (F.CTX_CNT_MODE.at i))
      (s.node.cfBit (F.CTX_STRICT.at i)) t.etbTopo t.opTopo = false) ∧
  (∃ (s : State) (t : Telegram) (i : Nat), s.node.takes t = true ∧ t.msgType = TrdpType.pr ∧ badHeader t = false ∧ i < 1024 ∧ List.filter (fun j
      => s.node.flowActive j && s.node.forceWord (F.CTX_COM_ID.at j).addr == t.comId && (s.node.cf (F.CTX_ROLE.at j) == 3 || s.node.cf
      (F.CTX_ROLE.at j) == 0 && s.node.cfBit (F.CTX_PULL_EN.at j))) s.node.flowsInUse = [i] ∧ s.node.countersOk (s.node.cf (F.CTX_CNT_MODE.at i))
      (s.node.cfBit (F.CTX_STRICT.at i)) t.etbTopo t.opTopo = true ∧ ((s.node.macFor (if t.replyIp = 0#32 then t.src else t.replyIp)).isSome =
      true)) ∧
  (∃ (s : State) (i : Fin 1024), s.node.pdfLive = true ∧ s.node.flowActive i.val = true ∧ s.node.cf (F.CTX_ROLE.at i.val) = 1 ∧ s.node.cf
      (F.CTX_TIMEOUT.at i.val) ≠ 0 ∧ s.node.bit (F.CST_TIMED_OUT.at i.val) = false) :=
  ⟨
   ⟨⟨pdTxNode1, []⟩, 0, 1023, by decide +kernel⟩,
   ⟨⟨pdTxNode2, []⟩, 0, 0, by decide +kernel⟩,
   ⟨⟨pdTxNode3, []⟩, 0, 1023, 0xEF000001#32, ipGroupMac 0xEF000001#32, by decide +kernel⟩,
   ⟨⟨pdTxNode4, []⟩, 0, 1023, 0xEF000001#32, ipGroupMac 0xEF000001#32, (pdTxNode4.incr (F.CST_SEQ.at 1023)), ((pdTxNode4.incr (F.CST_SEQ.at
       1023)).telegramFrame ((pdTxNode4.incr (F.CST_SEQ.at 1023)).flowTelegram 1023 .pd 0xEF000001#32 ((pdTxNode4.incr (F.CST_SEQ.at
       1023)).forceWord (F.CTX_COM_ID.at 1023).addr) (pdTxNode4.sentData 1023)) (ipGroupMac 0xEF000001#32) ((pdTxNode4.incr (F.CST_SEQ.at 1023)).cf
       (F.CTX_VID.at 1023)) ((pdTxNode4.incr (F.CST_SEQ.at 1023)).cf (F.CTX_PCP.at 1023)) false),
    by refine ⟨?_, ?_, ?_, ?_, ?_, ?_, ?_, ?_, ?_, ?_, ?_, ?_, ?_, rfl, rfl, ?_⟩ <;> decide +kernel⟩,
   ⟨⟨pdTxNode5, []⟩, 0, 1023, 0xEF000001#32, ipGroupMac 0xEF000001#32, by decide +kernel⟩,
   ⟨⟨msgCmdPullNode6, []⟩, .host, 1023, 0xEF000001#32, ipGroupMac 0xEF000001#32, by unfold Node.Reaches; decide +kernel⟩,
   ⟨⟨node, []⟩, { telegram with version := 2#8 }, by decide +kernel⟩,
   ⟨⟨node, []⟩, telegram, by decide +kernel⟩,
   ⟨⟨pdReceivedNode9, []⟩, { telegram with data := [] }, 1023, by decide +kernel⟩,
   ⟨⟨pdReceivedNode10, []⟩, { telegram with etbTopo := 77#32 }, 1023, by decide +kernel⟩,
   ⟨⟨pdReceivedNode11, []⟩, telegram, 1023, by decide +kernel⟩,
   ⟨⟨pdReceivedNode12, []⟩, { telegram with dsLen := 20, data := List.replicate 20 0 }, 1023,
    by refine ⟨?_, ?_, ?_, ?_, ?_, ?_, ?_, ?_, ?_, ?_, ?_, sdt_fails_at_the_last _ _ _ ?_⟩ <;> decide +kernel⟩,
   ⟨⟨pdReceivedNode9, []⟩, telegram, 1023, by decide +kernel⟩,
   ⟨⟨node, []⟩, { telegram with msgType := .pr }, by decide +kernel⟩,
   ⟨⟨pullRequestReceivedNode15, []⟩, { telegram with msgType := .pr, etbTopo := 77#32 }, 1023, by decide +kernel⟩,
   ⟨⟨pullRequestReceivedNode16, []⟩, { telegram with msgType := .pr, replyIp := 0xEF000001#32 }, 1023, by decide +kernel⟩,
   ⟨⟨subscriberTimeoutNode17, []⟩, 1023, by decide +kernel⟩⟩

def msgCmdGoBase2 : Node :=
  ((node.setting (F.SES_VALID.at 255) 1 |>.setting (F.SES_KIND.at 255) 1 |>.setting (F.SES_CNT_MODE.at 255) 2)).putForce 0x100060 0x22222222#32
    |>.putForce 0x100064 0x22222222#32
def msgCmdGoNode1 : Node := msgCmdGoBase2.wr (F.SST_STATE.at 255) 3 |>.setting (F.SES_PEER_IP.at 255) 0xEF000001
def msgCmdGoBase : Node :=
  ((node.setting (F.SES_VALID.at 255) 1 |>.setting (F.SES_KIND.at 255) 1 |>.setting (F.SES_CNT_MODE.at 255) 2)).putForce 0x100060 0x22222222#32
    |>.putForce 0x100064 0x22222222#32 |>.setting (F.SES_ROLE.at 255) 1
def msgCmdGoNode2 : Node := (msgCmdGoBase.wr (F.SST_STATE.at 255) 6).setSes 255 fun x => { x with request := some telegram }
def msgCmdGoNode3 : Node := (msgCmdGoBase2.wr (F.SST_STATE.at 255) 0).putBytes (node.outBuffer 255) [0xFF#8, 0xFF#8, 0, 0]
def msgCmdGoNode4 : Node := msgCmdGoBase2.wr (F.SST_STATE.at 255) 1
def mdReplyTimeoutNode6 : Node := (msgCmdGoBase2.wr (F.SST_STATE.at 255) 1).setSes 255 fun x => { x with triesLeft := 1 }
def mdReplyReceivedNode7 : Node := msgCmdGoBase2
def mdReplyReceivedNode8 : Node := (msgCmdGoBase2.wr (F.SST_STATE.at 255) 1).setSes 255 fun x => { x with id := 7#128 }
def mdReplyReceivedNode11 : Node :=
  (msgCmdGoBase2.wr (F.SST_STATE.at 255) 1 |>.setting (F.SES_CNT_MODE.at 255) 0).setSes 255 fun x => { x with id := 7#128 }
def mdRequestReceivedNode12 : Node := msgCmdGoBase.putForce (F.SES_COM_ID.at 255).addr 1000#32
def mdRequestReceivedNode13 : Node := msgCmdGoBase.putForce (F.SES_COM_ID.at 255).addr 1000#32 |>.setting (F.SES_KIND.at 255) 0
def mdRequestReceivedNode14 : Node :=
  ((msgCmdGoBase.putForce (F.SES_COM_ID.at 255).addr 1000#32).wr (F.SST_STATE.at 255) 6).setSes 255
    fun x => { x with request := some ({ telegram with msgType := .mr, sessionId := 7#128 }) }
def mdConfirmReceivedNode15 : Node := (msgCmdGoBase.wr (F.SST_STATE.at 255) 2).setSes 255 fun x => { x with id := 7#128 }
def replierTimeoutNode16 : Node := msgCmdGoBase.wr (F.SST_STATE.at 255) 6
def replierTimeoutNode17 : Node := msgCmdGoBase.wr (F.SST_STATE.at 255) 2
/-- States and operands meet the hypotheses of every clause of `Obligations.MessageCommandsComplete`. -/
theorem witness_MessageCommandsComplete :
  (∃ (s : State) (k : Fin 256) (by_ : Initiator), s.node.Reaches by_ 5 ∧ s.node.pdfLive = true ∧ s.node.cfBit (F.SES_VALID.at k.val) = true ∧
      s.node.cfBit (F.SES_ROLE.at k.val) = false ∧ (s.node.sesState k.val = 0 ∨ s.node.sesState k.val = 3) ∧ s.node.outLength k.val ≤ mdMax) ∧
  (∃ (s : State) (k : Fin 256) (by_ : Initiator) (r : Telegram), s.node.Reaches by_ 5 ∧ s.node.pdfLive = true ∧ s.node.cfBit (F.SES_VALID.at
      k.val) = true ∧ s.node.cfBit (F.SES_ROLE.at k.val) = true ∧ s.node.sesState k.val = 6 ∧ s.node.outLength k.val ≤ mdMax ∧ (s.node.ses
      k.val).request = some r) ∧
  (∃ (s : State) (k : Fin 256) (by_ : Initiator), s.node.Reaches by_ 5 ∧ s.node.pdfLive = true ∧ s.node.cfBit (F.SES_VALID.at k.val) = true ∧
      mdMax < s.node.outLength k.val ∧ (s.node.sesState k.val = 0 ∨ s.node.sesState k.val = 3 ∨ s.node.cfBit (F.SES_ROLE.at k.val) = true ∧
      s.node.sesState k.val = 6)) ∧
  (∃ (s : State) (k : Fin 256) (by_ : Initiator), s.node.Reaches by_ 5 ∧ s.node.pdfLive = true ∧ s.node.cfBit (F.SES_VALID.at k.val) = true ∧
      (if s.node.cfBit (F.SES_ROLE.at k.val) = true then ¬s.node.sesState k.val ∈ [0, 3, 6] else ¬s.node.sesState k.val ∈ [0, 3])) ∧
  (∃ (s : State) (k : Fin 256), s.node.pdfLive = true ∧ s.node.sesState k.val = 1 ∧ (s.node.ses k.val).triesLeft = 0) ∧
  (∃ (s : State) (k : Fin 256), s.node.pdfLive = true ∧ s.node.sesState k.val = 1 ∧ (s.node.ses k.val).triesLeft ≠ 0) ∧
  (∃ (s : State) (t : Telegram), s.node.takes t = true ∧ mdFails t = none ∧ (t.msgType = TrdpType.mp ∨ t.msgType = TrdpType.mq) ∧
      s.node.callerOf t = none) ∧
  (∃ (s : State) (k : Fin 256) (t : Telegram), s.node.takes t = true ∧ mdFails t = none ∧ (t.msgType = TrdpType.mp ∨ t.msgType = TrdpType.mq) ∧
      s.node.callerOf t = some k.val ∧ mdShort t = true) ∧
  (∃ (s : State) (k : Fin 256) (t : Telegram), s.node.takes t = true ∧ mdFails t = none ∧ mdShort t = false ∧ s.node.callerOf t = some k.val ∧
      s.node.sesCountersOk (k.val) t = true ∧ (t.msgType = TrdpType.mp ∨ t.msgType = TrdpType.mq) ∧ s.node.ownsSlot 2 = true) ∧
  (∃ (s : State) (k : Fin 256) (t : Telegram), s.node.takes t = true ∧ mdFails t = none ∧ mdShort t = false ∧ s.node.callerOf t = some k.val ∧
      s.node.sesCountersOk (k.val) t = true ∧ t.msgType = TrdpType.me) ∧
  (∃ (s : State) (k : Fin 256) (t : Telegram), s.node.takes t = true ∧ mdFails t = none ∧ mdShort t = false ∧ s.node.callerOf t = some k.val ∧
      s.node.sesCountersOk (k.val) t = false ∧ (t.msgType = TrdpType.mp ∨ t.msgType = TrdpType.mq)) ∧
  (∃ (s : State) (k : Fin 256) (t : Telegram), s.node.takes t = true ∧ mdFails t = none ∧ mdShort t = false ∧ s.node.replierOf t = some k.val ∧
      s.node.sesCountersOk (k.val) t = true ∧ t.msgType = TrdpType.mr ∧ s.node.cf (F.SES_KIND.at k.val) ≠ 0 ∧ s.node.ownsSlot 2 = true ∧
      (¬(s.node.sesState k.val = 6 ∧ repeats t (s.node.ses k.val).request = true)) ∧ repeats t (s.node.ses k.val).answered = false) ∧
  (∃ (s : State) (k : Fin 256) (t : Telegram), s.node.takes t = true ∧ mdFails t = none ∧ mdShort t = false ∧ s.node.replierOf t = some k.val ∧
      s.node.sesCountersOk (k.val) t = true ∧ t.msgType = TrdpType.mn ∧ s.node.cf (F.SES_KIND.at k.val) = 0 ∧ s.node.ownsSlot 2 = true ∧
      (¬(s.node.sesState k.val = 6 ∧ repeats t (s.node.ses k.val).request = true)) ∧ repeats t (s.node.ses k.val).answered = false) ∧
  (∃ (s : State) (k : Fin 256) (t : Telegram), s.node.takes t = true ∧ mdFails t = none ∧ mdShort t = false ∧ s.node.replierOf t = some k.val ∧
      s.node.sesCountersOk (k.val) t = true ∧ t.msgType = TrdpType.mr ∧ s.node.cf (F.SES_KIND.at k.val) ≠ 0 ∧ (s.node.sesState k.val = 6 ∧ repeats t
      (s.node.ses k.val).request = true ∨ repeats t (s.node.ses k.val).answered = true)) ∧
  (∃ (s : State) (k : Fin 256) (t : Telegram), s.node.takes t = true ∧ mdFails t = none ∧ mdShort t = false ∧ List.find? (fun j => s.node.cfBit
      (F.SES_ROLE.at j) && s.node.sesState j == 2 && (s.node.ses j).id == t.sessionId) s.node.sessionsInUse = some k.val ∧ s.node.sesCountersOk
      (k.val) t = true ∧ t.msgType = TrdpType.mc) ∧
  (∃ (s : State) (k : Fin 256), s.node.pdfLive = true ∧ s.node.cfBit (F.SES_ROLE.at k.val) = true ∧ s.node.sesState k.val = 6) ∧
  (∃ (s : State) (k : Fin 256), s.node.pdfLive = true ∧ s.node.cfBit (F.SES_ROLE.at k.val) = true ∧ s.node.sesState k.val = 2) :=
  ⟨
   ⟨⟨msgCmdGoNode1, []⟩, 255, .host, by unfold Node.Reaches; decide +kernel⟩,
   ⟨⟨msgCmdGoNode2, []⟩, 255, .host, telegram, by unfold Node.Reaches; decide +kernel⟩,
   ⟨⟨msgCmdGoNode3, []⟩, 255, .host, by unfold Node.Reaches; decide +kernel⟩,
   ⟨⟨msgCmdGoNode4, []⟩, 255, .host, by unfold Node.Reaches; decide +kernel⟩,
   ⟨⟨msgCmdGoNode4, []⟩, 255, by decide +kernel⟩,
   ⟨⟨mdReplyTimeoutNode6, []⟩, 255, by decide +kernel⟩,
   ⟨⟨mdReplyReceivedNode7, []⟩, { telegram with msgType := .mp, sessionId := 7#128 }, by decide +kernel⟩,
   ⟨⟨mdReplyReceivedNode8, []⟩, 255, { telegram with msgType := .mq, sessionId := 7#128, dsLen := 2 }, by decide +kernel⟩,
   ⟨⟨mdReplyReceivedNode8, []⟩, 255, { telegram with msgType := .mp, sessionId := 7#128 }, by decide +kernel⟩,
   ⟨⟨mdReplyReceivedNode8, []⟩, 255, { telegram with msgType := .me, sessionId := 7#128 }, by decide +kernel⟩,
   ⟨⟨mdReplyReceivedNode11, []⟩, 255, { telegram with msgType := .mp, sessionId := 7#128, etbTopo := 77#32 }, by decide +kernel⟩,
   ⟨⟨mdRequestReceivedNode12, []⟩, 255, { telegram with msgType := .mr, sessionId := 7#128 }, by decide +kernel⟩,
   ⟨⟨mdRequestReceivedNode13, []⟩, 255, { telegram with msgType := .mn, sessionId := 7#128 }, by decide +kernel⟩,
   ⟨⟨mdRequestReceivedNode14, []⟩, 255, { telegram with msgType := .mr, sessionId := 7#128 }, by decide +kernel⟩,
   ⟨⟨mdConfirmReceivedNode15, []⟩, 255, { telegram with msgType := .mc, sessionId := 7#128 }, by decide +kernel⟩,
   ⟨⟨replierTimeoutNode16, []⟩, 255, by decide +kernel⟩,
   ⟨⟨replierTimeoutNode17, []⟩, 255, by decide +kernel⟩⟩

def pressCmdStopNode1 : Node := node.wr (F.PRESS_STATE_STATE.at 15) 2 |>.setPress 15 fun x => { x with cycle := some 0 }
def pressCmdStopNode4 : Node := node.wr (F.PRESS_STATE_STATE.at 15) 2
def pressCmdTestNode5 : Node := node.wr (F.PRESS_STATE_STATE.at 15) 3
def pressCmdTestNode8 : Node := node.wr (F.PRESS_STATE_STATE.at 15) 1
def pressStopEffectNode16 : Node := node.setPress 15 fun x => { x with cycle := some 0, stopWaits := some (1, .stay) }
def pressSramTestDoneNode17 : Node := node.wr (F.PRESS_STATE_STATE.at 15) 4
def pressVerifyDoneNode21 : Node :=
  ((node.wr (F.PRESS_STATE_STATE.at 15) 1).setting (F.LU_CFG_RATE.at 31) 9600 |>.setting (F.LU_CFG_OWNER.at 31) 15)
def pressFaultNode23 : Node := node.wr (F.PRESS_STATE_STATE.at 15) 5
def pressFaultNode26 : Node := node.wr (F.PRESS_STATE_STATE.at 15) 2 |>.setting (F.PRESS_CFG_AUTO_RELOAD.at 15) 0
def pressFaultNode29 : Node :=
  node.wr (F.PRESS_STATE_STATE.at 15) 2 |>.setting (F.PRESS_CFG_AUTO_RELOAD.at 15) 1 |>.setPress 15 fun x => { x with reloads := [0, 0] }
/-- States and operands meet the hypotheses of every clause of `Obligations.PressStateCommandsComplete`. -/
theorem witness_PressStateCommandsComplete :
  (∃ (s : State) (p : Fin 16) (by_ : Initiator), s.node.Reaches by_ 6 ∧ s.node.pressState p.val = 2 ∧ (s.node.press p.val).cycle.isSome = true) ∧
  (∃ (s : State) (p : Fin 16) (by_ : Initiator), s.node.Reaches by_ 6 ∧ s.node.pressState p.val = 2 ∧ (s.node.press p.val).cycle.isSome = true) ∧
  (∃ (s : State) (p : Fin 16) (by_ : Initiator), s.node.Reaches by_ 6 ∧ s.node.pressState p.val = 2 ∧ (s.node.press p.val).cycle.isSome = true) ∧
  (∃ (s : State) (p : Fin 16) (by_ : Initiator), s.node.Reaches by_ 6 ∧ (s.node.pressState p.val = 1 ∨ s.node.pressState p.val = 4 ∨
      s.node.pressState p.val = 2 ∧ (s.node.press p.val).cycle = none)) ∧
  (∃ (s : State) (p : Fin 16) (by_ : Initiator), s.node.Reaches by_ 6 ∧ (s.node.pressState p.val = 3 ∨ s.node.pressState p.val = 5 ∨
      s.node.pressState p.val = 2 ∧ (s.node.press p.val).cycle = none)) ∧
  (∃ (s : State) (p : Fin 16) (by_ : Initiator), s.node.Reaches by_ 6 ∧ (s.node.pressState p.val = 3 ∨ s.node.pressState p.val = 5 ∨
      s.node.pressState p.val = 2 ∧ (s.node.press p.val).cycle = none)) ∧
  (∃ (s : State) (p : Fin 16) (by_ : Initiator), s.node.Reaches by_ 6 ∧ s.node.pressState p.val ∈ [3, 5]) ∧
  (∃ (s : State) (p : Fin 16) (by_ : Initiator), s.node.Reaches by_ 6 ∧ s.node.pressState p.val ∈ [1, 4]) ∧
  (∃ (s : State) (p : Fin 16) (by_ : Initiator), s.node.Reaches by_ 6 ∧ s.node.pressState p.val ∈ [1, 4]) ∧
  (∃ (s : State) (p : Fin 16) (by_ : Initiator), s.node.Reaches by_ 6 ∧ s.node.pressState p.val = 0 ∧ (s.node.cfBit (F.PRESS_CFG_ENABLE.at
      p.val) = false ∨ s.node.running = false)) ∧
  (∃ (s : State) (p : Fin 16) (by_ : Initiator), s.node.Reaches by_ 6 ∧ s.node.pressState p.val = 0 ∧ (s.node.cfBit (F.PRESS_CFG_ENABLE.at
      p.val) = false ∨ s.node.running = false)) ∧
  (∃ (s : State) (p : Fin 16) (by_ : Initiator), s.node.Reaches by_ 6 ∧ s.node.pressState p.val = 0 ∧ (s.node.cfBit (F.PRESS_CFG_ENABLE.at
      p.val) = false ∨ s.node.running = false)) ∧
  (∃ (s : State) (by_ : Initiator) (key : BitVec 16), s.node.Reaches by_ 6 ∧ key ≠ 32281#16 ∧ s.node.held by_ = none) ∧
  (∃ (s : State) (by_ : Initiator) (key : BitVec 16), s.node.Reaches by_ 6 ∧ key ≠ 32281#16 ∧ s.node.held by_ = none) ∧
  (∃ (s : State) (by_ : Initiator) (key : BitVec 16), s.node.Reaches by_ 6 ∧ key ≠ 32281#16 ∧ s.node.held by_ = none) ∧
  (∃ (s : State) (p : Fin 16) (cause : Nat) (f : StopFollow), (s.node.press p.val).stopWaits = some (cause, f)) ∧
  (∃ (s : State) (p : Fin 16), s.node.pressState p.val = 4) ∧
  (∃ (s : State) (p : Fin 16), s.node.pressState p.val = 4) ∧
  (∃ (s : State) (p : Fin 16), s.node.pressState p.val = 4) ∧
  (∃ (s : State) (p : Fin 16), s.node.pressState p.val = 4) ∧
  (∃ (s : State) (p : Fin 16), s.node.pressState p.val = 1) ∧
  (∃ (s : State) (p : Fin 16), s.node.pressState p.val = 1) ∧
  (∃ (s : State), s.node.powered = true ∧ s.node.islandDown 3 = false) ∧
  (∃ (s : State) (p : Fin 16), s.node.powered = true ∧ s.node.islandDown 3 = false ∧ s.node.pressState p.val = 1) ∧
  (∃ (s : State) (p : Fin 16), s.node.powered = true ∧ s.node.islandDown 3 = false ∧ s.node.pressState p.val = 4) ∧
  (∃ (s : State) (p : Fin 16), s.node.powered = true ∧ s.node.islandDown 3 = false ∧ s.node.pressState p.val = 2 ∧ (s.node.press
      p.val).stopWaits = none ∧ s.node.slotIn 3 = none ∧ (s.node.cfBit (F.PRESS_CFG_AUTO_RELOAD.at p.val) = false ∨ 3 ≤ s.node.autoUsed p.val)) ∧
  (∃ (s : State) (p : Fin 16), s.node.powered = true ∧ s.node.islandDown 3 = false ∧ s.node.pressState p.val = 2 ∧ (s.node.press
      p.val).stopWaits = none ∧ s.node.slotIn 3 = none ∧ (s.node.cfBit (F.PRESS_CFG_AUTO_RELOAD.at p.val) = false ∨ 3 ≤ s.node.autoUsed p.val)) ∧
  (∃ (s : State) (p : Fin 16), s.node.powered = true ∧ s.node.islandDown 3 = false ∧ s.node.pressState p.val = 2 ∧ (s.node.press
      p.val).stopWaits = none ∧ s.node.slotIn 3 = none ∧ (s.node.cfBit (F.PRESS_CFG_AUTO_RELOAD.at p.val) = false ∨ 3 ≤ s.node.autoUsed p.val)) ∧
  (∃ (s : State) (p : Fin 16), s.node.powered = true ∧ s.node.islandDown 3 = false ∧ s.node.pressState p.val = 2 ∧ (s.node.press
      p.val).stopWaits = none ∧ s.node.slotIn 3 = none ∧ s.node.cfBit (F.PRESS_CFG_AUTO_RELOAD.at p.val) = true ∧ s.node.autoUsed p.val < 3) ∧
  (∃ (s : State) (p : Fin 16), s.node.powered = true ∧ s.node.islandDown 3 = false ∧ s.node.pressState p.val = 2 ∧ (s.node.press
      p.val).stopWaits = none ∧ s.node.slotIn 3 = none ∧ s.node.cfBit (F.PRESS_CFG_AUTO_RELOAD.at p.val) = true ∧ s.node.autoUsed p.val < 3) :=
  ⟨
   ⟨⟨pressCmdStopNode1, []⟩, 15, .host, by unfold Node.Reaches; decide +kernel⟩,
   ⟨⟨pressCmdStopNode1, []⟩, 15, .host, by unfold Node.Reaches; decide +kernel⟩,
   ⟨⟨pressCmdStopNode1, []⟩, 15, .host, by unfold Node.Reaches; decide +kernel⟩,
   ⟨⟨pressCmdStopNode4, []⟩, 15, .host, by unfold Node.Reaches; decide +kernel⟩,
   ⟨⟨pressCmdTestNode5, []⟩, 15, .host, by unfold Node.Reaches; decide +kernel⟩,
   ⟨⟨pressCmdTestNode5, []⟩, 15, .host, by unfold Node.Reaches; decide +kernel⟩,
   ⟨⟨pressCmdTestNode5, []⟩, 15, .host, by unfold Node.Reaches; decide +kernel⟩,
   ⟨⟨pressCmdTestNode8, []⟩, 15, .host, by unfold Node.Reaches; decide +kernel⟩,
   ⟨⟨pressCmdTestNode8, []⟩, 15, .host, by unfold Node.Reaches; decide +kernel⟩,
   ⟨⟨node, []⟩, 15, .host, by unfold Node.Reaches; decide +kernel⟩,
   ⟨⟨node, []⟩, 15, .host, by unfold Node.Reaches; decide +kernel⟩,
   ⟨⟨node, []⟩, 15, .host, by unfold Node.Reaches; decide +kernel⟩,
   ⟨⟨pressCmdStopNode4, []⟩, .host, 0x7E18#16, by unfold Node.Reaches; decide +kernel⟩,
   ⟨⟨pressCmdStopNode4, []⟩, .host, 0x7E18#16, by unfold Node.Reaches; decide +kernel⟩,
   ⟨⟨pressCmdStopNode4, []⟩, .host, 0x7E18#16, by unfold Node.Reaches; decide +kernel⟩,
   ⟨⟨pressStopEffectNode16, []⟩, 15, 1, .stay, by decide +kernel⟩,
   ⟨⟨pressSramTestDoneNode17, []⟩, 15, by decide +kernel⟩,
   ⟨⟨pressSramTestDoneNode17, []⟩, 15, by decide +kernel⟩,
   ⟨⟨pressSramTestDoneNode17, []⟩, 15, by decide +kernel⟩,
   ⟨⟨pressSramTestDoneNode17, []⟩, 15, by decide +kernel⟩,
   ⟨⟨pressVerifyDoneNode21, []⟩, 15, by decide +kernel⟩,
   ⟨⟨pressVerifyDoneNode21, []⟩, 15, by decide +kernel⟩,
   ⟨⟨pressFaultNode23, []⟩, by decide +kernel⟩,
   ⟨⟨pressCmdTestNode8, []⟩, 15, by decide +kernel⟩,
   ⟨⟨pressSramTestDoneNode17, []⟩, 15, by decide +kernel⟩,
   ⟨⟨pressFaultNode26, []⟩, 15, by decide +kernel⟩,
   ⟨⟨pressFaultNode26, []⟩, 15, by decide +kernel⟩,
   ⟨⟨pressFaultNode26, []⟩, 15, by decide +kernel⟩,
   ⟨⟨pressFaultNode29, []⟩, 15, by decide +kernel⟩,
   ⟨⟨pressFaultNode29, []⟩, 15, by decide +kernel⟩⟩

def pressStartNode1 : Node := (due 4 15).wr (F.PRESS_STATE_STATE.at 15) 2
def pressStartNode2 : Node :=
  (((due 4 15).wr (F.PRESS_STATE_STATE.at 15) 2).setting (F.LU_CFG_RATE.at 31) 9600 |>.setting (F.LU_CFG_OWNER.at 31) 15)
def pressStartNode3 : Node := due 4 15
def pressInputExchangeNode4 : Node :=
  ((node.wr (F.PRESS_STATE_STATE.at 15) 2 |>.setPress 15 fun x => { x with cycle := some 0 }).setting (F.PRESS_CFG_WIN_LEN.at 15) 16 |>.setting
    (F.PRESS_CFG_OUT_OFS.at 15) 8)
def ppFrameArrivalNode5 : Node := node.wr (F.PRESS_STATE_STATE.at 15) 2 |>.setting (F.PRESS_CFG_IMAGE.at 15) 9
def ppFrameArrivalNode7 : Node :=
  (node.setting (F.DISP_VALID.at 63) 1 |>.setting (F.DISP_VALUE.at 63) 0x88B5 |>.setting (F.DISP_PRESS.at 63) 15).wr (F.PRESS_STATE_STATE.at 15) 2
def dedicatedTxHandoverNode9 : Node :=
  node.wr (F.PRESS_STATE_STATE.at 15) 2 |>.setting (F.PRESS_CFG_DED_PORT.at 15) 13 |>.wr (F.LINK_STATUS_UP.at 13) 1 |>.setPort 13
    fun x => { x with usable := true }
def dedicatedTxHandoverNode10 : Node :=
  (node.wr (F.PRESS_STATE_STATE.at 15) 2 |>.setting (F.PRESS_CFG_DED_PORT.at 15) 13 |>.wr (F.LINK_STATUS_UP.at 13) 1 |>.setPort 13
    fun x => { x with usable := true }).setting (F.PRESS_CFG_IMAGE.at 15) 0xA
def dedicatedTxHandoverNode11 : Node := node.wr (F.PRESS_STATE_STATE.at 15) 2 |>.setting (F.PRESS_CFG_DED_PORT.at 15) 4
def fieldWindowRequestNode12 : Node := node.wr (F.PRESS_STATE_STATE.at 15) 2 |>.setting (F.PRESS_CFG_IMAGE.at 15) 0xA
def fieldWindowRequestNode13 : Node := node.wr (F.PRESS_STATE_STATE.at 15) 2 |>.setting (F.PRESS_CFG_IMAGE.at 15) 8
def fieldWindowRequestNode16 : Node := node.setIslands 8
def lineUnitCaptureNode18 : Node :=
  ((node.wr (F.PRESS_STATE_STATE.at 15) 2).setting (F.LU_CFG_RATE.at 31) 9600 |>.setting (F.LU_CFG_OWNER.at 31) 15)
/-- States and operands meet the hypotheses of every clause of `Obligations.PressDataCommandsComplete`. -/
theorem witness_PressDataCommandsComplete :
  (∃ (s : State) (entry : Nat) (p : Nat), s.node.due entry 4 = true ∧ s.node.blockHeld 6 = false ∧ s.node.targetOf entry = p ∧
      (s.node.trellis.running.any fun r => r.action == 4 && r.target == p) = false ∧ s.node.pressRuns p = true) ∧
  (∃ (s : State) (entry : Nat) (p : Nat) (u : Fin 32) (levels : List Bool), s.node.due entry 4 = true ∧ s.node.blockHeld 6 = false ∧
      s.node.targetOf entry = p ∧ (s.node.trellis.running.any fun r => r.action == 4 && r.target == p) = false ∧ s.node.pressRuns p = true ∧
      s.node.lineOwner u.val = p ∧ s.node.lineLive u.val = true ∧ s.node.burstFits (u.val) levels = true ∧ (s.node.lineUnit u.val).held = none) ∧
  (∃ (s : State) (entry : Nat) (p : Nat), s.node.due entry 4 = true ∧ s.node.blockHeld 6 = false ∧ s.node.targetOf entry = p ∧
      (s.node.trellis.running.any fun r => r.action == 4 && r.target == p) = false ∧ s.node.pressRuns p = false) ∧
  (∃ (s : State) (p : Fin 16), s.node.pressRuns p.val = true ∧ (s.node.press p.val).cycle.isSome = true ∧ (s.node.press p.val).stopWaits = none) ∧
  (∃ (s : State) (f : Frame), s.node.running = true ∧ s.node.islandDown 3 = false ∧ s.node.pdfTakes f = false ∧ f.etype = 2054#16) ∧
  (∃ (s : State) (f : Frame), s.node.running = true ∧ s.node.islandDown 3 = false ∧ s.node.pdfTakes f = false ∧ f.etype ≠ 2054#16 ∧ List.find?
      (s.node.dispatches f) (List.range 64) = none) ∧
  (∃ (s : State) (f : Frame) (d : Nat), s.node.running = true ∧ s.node.islandDown 3 = false ∧ s.node.pdfTakes f = false ∧ f.etype ≠ 2054#16 ∧
      List.find? (s.node.dispatches f) (List.range 64) = some d ∧ s.node.pressTakes (s.node.cf (F.DISP_PRESS.at d)) f = true) ∧
  (∃ (s : State) (f : Frame) (d : Nat), s.node.running = true ∧ s.node.islandDown 3 = false ∧ s.node.pdfTakes f = false ∧ f.etype ≠ 2054#16 ∧
      List.find? (s.node.dispatches f) (List.range 64) = some d ∧ s.node.pressTakes (s.node.cf (F.DISP_PRESS.at d)) f = false) ∧
  (∃ (s : State) (p : Fin 16) (f : Frame) (q : Nat), s.node.running = true ∧ s.node.pressRuns p.val = true ∧ s.node.cf (F.PRESS_CFG_DED_PORT.at
      p.val) = q ∧ q ≠ 31 ∧ s.node.activeUnit = true ∧ f.len ≤ s.node.cf (F.MAX_FRAME.at q) ∧ s.node.linkUp q = true ∧ s.node.portUsable q = true ∧
      dedSpeedOk (s.node.cf (F.PRESS_CFG_IMAGE.at p.val)) (s.node.mbps q) = true) ∧
  (∃ (s : State) (p : Fin 16) (f : Frame) (q : Nat), s.node.running = true ∧ s.node.pressRuns p.val = true ∧ s.node.cf (F.PRESS_CFG_DED_PORT.at
      p.val) = q ∧ q ≠ 31 ∧ s.node.activeUnit = true ∧ f.len ≤ s.node.cf (F.MAX_FRAME.at q) ∧ s.node.linkUp q = true ∧ s.node.portUsable q = true ∧
      dedSpeedOk (s.node.cf (F.PRESS_CFG_IMAGE.at p.val)) (s.node.mbps q) = false) ∧
  (∃ (s : State) (p : Fin 16) (f : Frame) (q : Nat), s.node.running = true ∧ s.node.pressRuns p.val = true ∧ s.node.cf (F.PRESS_CFG_DED_PORT.at
      p.val) = q ∧ q ≠ 31 ∧ s.node.activeUnit = true ∧ (s.node.cf (F.MAX_FRAME.at q) < f.len ∨ s.node.linkUp q = false ∨ s.node.portUsable q =
      false)) ∧
  (∃ (s : State) (p : Fin 16) (ofs : Nat) (len : Nat), s.node.powered = true ∧ s.node.islandDown 3 = false ∧ s.node.fieldServes (p.val) ofs len
      = true ∧ s.node.fieldClient p.val = false) ∧
  (∃ (s : State) (p : Fin 16) (ofs : Nat), s.node.powered = true ∧ s.node.islandDown 3 = false ∧ s.node.fieldServes (p.val) ofs 4 = true ∧
      s.node.fieldClient p.val = true) ∧
  (∃ (s : State) (p : Fin 16) (ofs : Nat) (len : Nat) (k : Nat) (bs : List Byte) (r : FarReply), s.node.powered = true ∧ s.node.islandDown 3 =
      false ∧ r ∈ [FarReply.error k bs, FarReply.timeout] ∧ s.node.fieldServes (p.val) ofs len = true) ∧
  (∃ (s : State) (p : Fin 16) (ofs : Nat) (len : Nat), s.node.powered = true ∧ s.node.islandDown 3 = false ∧ s.node.fieldServes (p.val) ofs len
      = false) ∧
  (∃ (s : State), s.node.powered = true ∧ s.node.islandDown 3 = true) ∧
  (∃ (s : State) (p : Fin 16) (w : Word), s.node.pressRuns p.val = true ∧ s.node.header (p.val) 3 ≠ w) ∧
  (∃ (s : State) (u : Fin 32), s.node.lineOn u.val = true ∧ s.node.pressRuns (s.node.lineOwner u.val) = true) :=
  ⟨
   ⟨⟨pressStartNode1, []⟩, 0, 15, by decide +kernel⟩,
   ⟨⟨pressStartNode2, []⟩, 0, 15, 31, [true, false], by decide +kernel⟩,
   ⟨⟨pressStartNode3, []⟩, 0, 15, by decide +kernel⟩,
   ⟨⟨pressInputExchangeNode4, []⟩, 15, by decide +kernel⟩,
   ⟨⟨ppFrameArrivalNode5, []⟩, { frame with etype := 0x0806#16 }, by decide +kernel⟩,
   ⟨⟨node, []⟩, frame, by decide +kernel⟩,
   ⟨⟨ppFrameArrivalNode7, []⟩, { frame with len := 1522 }, 63, by decide +kernel⟩,
   ⟨⟨ppFrameArrivalNode7, []⟩, { frame with len := 1523 }, 63, by decide +kernel⟩,
   ⟨⟨dedicatedTxHandoverNode9, []⟩, 15, frame, 13, by decide +kernel⟩,
   ⟨⟨dedicatedTxHandoverNode10, []⟩, 15, frame, 13, by decide +kernel⟩,
   ⟨⟨dedicatedTxHandoverNode11, []⟩, 15, frame, 4, by decide +kernel⟩,
   ⟨⟨fieldWindowRequestNode12, []⟩, 15, 0, 0, by decide +kernel⟩,
   ⟨⟨fieldWindowRequestNode13, []⟩, 15, 0x8000, by decide +kernel⟩,
   ⟨⟨fieldWindowRequestNode12, []⟩, 15, 0, 0, 0, [], .error 0 [], by decide +kernel⟩,
   ⟨⟨fieldWindowRequestNode13, []⟩, 15, 0x7FFE, 2, by decide +kernel⟩,
   ⟨⟨fieldWindowRequestNode16, []⟩, by decide +kernel⟩,
   ⟨⟨pressCmdStopNode4, []⟩, 15, 1#32, by decide +kernel⟩,
   ⟨⟨lineUnitCaptureNode18, []⟩, 31, by decide +kernel⟩⟩

def canTxPushNode1 : Node :=
  (node.setting ⟨0x600284, 24, 5, 4⟩ 15 |>.wr (F.PRESS_STATE_STATE.at 15) 2 |>.wr (F.CAN_STATUS_STATE.at 7) 2 |>.setCan 7
    fun x => { x with tx := List.replicate 31 ⟨1#16, canFrame⟩ })
def canTxPushNode2 : Node :=
  (node.setting ⟨0x600284, 24, 5, 4⟩ 15 |>.wr (F.PRESS_STATE_STATE.at 15) 2 |>.wr (F.CAN_STATUS_STATE.at 7) 2 |>.setCan 7
    fun x => { x with tx := List.replicate 32 ⟨1#16, canFrame⟩ })
def canTxCancelNode3 : Node :=
  (node.setting ⟨0x600284, 24, 5, 4⟩ 15 |>.wr (F.PRESS_STATE_STATE.at 15) 2 |>.wr (F.CAN_STATUS_STATE.at 7) 2 |>.setCan 7
    fun x => { x with tx := [⟨1#16, canFrame⟩] })
def canTxDoneNode6 : Node :=
  (node.setting ⟨0x600284, 24, 5, 4⟩ 15 |>.wr (F.PRESS_STATE_STATE.at 15) 2 |>.wr (F.CAN_STATUS_STATE.at 7) 2 |>.setting (F.CAN_CFG_FD_EN.at 7) 1
    |>.setting (F.CAN_CFG_TDC_EN.at 7) 1 |>.setCan 7 fun x => { x with tx := [⟨1#16, { canFrame with fdf := true, brs := true }⟩] })
def canTxDoneNode7 : Node :=
  (node.setting ⟨0x600284, 24, 5, 4⟩ 15 |>.wr (F.PRESS_STATE_STATE.at 15) 2 |>.wr (F.CAN_STATUS_STATE.at 7) 2 |>.setCan 7
    fun x => { x with refWaits := true })
def canArbLostNode10 : Node := (node.setting ⟨0x600284, 24, 5, 4⟩ 15 |>.wr (F.PRESS_STATE_STATE.at 15) 2 |>.wr (F.CAN_STATUS_STATE.at 7) 2)
def canErrorDetectedNode12 : Node :=
  (node.setting ⟨0x600284, 24, 5, 4⟩ 15 |>.wr (F.PRESS_STATE_STATE.at 15) 2 |>.wr (F.CAN_STATUS_STATE.at 7) 2 |>.setting (F.CAN_CFG_MODE.at 7) 2)
def canErrorDetectedNode13 : Node :=
  (node.setting ⟨0x600284, 24, 5, 4⟩ 15 |>.wr (F.PRESS_STATE_STATE.at 15) 2 |>.wr (F.CAN_STATUS_STATE.at 7) 2 |>.setCan 7
    fun x => { x with tx := [⟨1#16, canFrame⟩], idRun := 3 })
/-- States and operands meet the hypotheses of every clause of `Obligations.CanTransmitCommandsComplete`. -/
theorem witness_CanTransmitCommandsComplete :
  (∃ (s : State) (c : Fin 8) (f : CanFrame), s.node.canLive c.val = true ∧ s.node.imageSends (c.val) f = true ∧ (s.node.can c.val).tx.length < 32) ∧
  (∃ (s : State) (c : Fin 8) (f : CanFrame), s.node.canLive c.val = true ∧ s.node.imageSends (c.val) f = true ∧ 32 ≤ (s.node.can c.val).tx.length) ∧
  (∃ (s : State) (c : Fin 8) (tag : Half) (i : Nat), s.node.canLive c.val = true ∧ List.findIdx? (fun x => x.tag == tag) (s.node.can c.val).tx =
      some i) ∧
  (∃ (s : State) (c : Fin 8) (tag : Half) (i : Nat), s.node.canLive c.val = true ∧ List.findIdx? (fun x => x.tag == tag) (s.node.can c.val).tx =
      some i ∧ i = 0 ∧ s.node.canSends c.val = true) ∧
  (∃ (s : State) (c : Fin 8) (e : CanTx) (rest : List CanTx) (loop : Nat) (f : CanFrame), s.node.canSends c.val = true ∧ (s.node.can c.val).tx =
      e :: rest ∧ f = sentFrame e.frame (s.node.cfBit (F.CAN_CFG_FD_EN.at c.val)) (s.node.canState c.val == 3) ∧ s.node.tdcFails (c.val) loop f =
      false) ∧
  (∃ (s : State) (c : Fin 8) (e : CanTx) (rest : List CanTx) (loop : Nat) (f : CanFrame), s.node.canSends c.val = true ∧ (s.node.can c.val).tx =
      e :: rest ∧ f = sentFrame e.frame (s.node.cfBit (F.CAN_CFG_FD_EN.at c.val)) (s.node.canState c.val == 3) ∧ s.node.tdcFails (c.val) loop f =
      true) ∧
  (∃ (s : State) (c : Fin 8), s.node.canSends c.val = true ∧ (s.node.can c.val).refWaits = true ∧ (s.node.can c.val).refBegun = false) ∧
  (∃ (s : State) (c : Fin 8), s.node.canSends c.val = true ∧ (s.node.can c.val).tx ≠ []) ∧
  (∃ (s : State) (c : Fin 8), s.node.canSends c.val = true ∧ (s.node.can c.val).refBegun = false) ∧
  (∃ (s : State) (c : Fin 8), s.node.canSends c.val = true ∧ (s.node.can c.val).refBegun = false) ∧
  (∃ (s : State) (c : Fin 8) (kind : CanError) (transmitting : Bool) (inData : Bool) (dTec : Nat) (step : Nat), s.node.canOnBus c.val = true ∧
      s.node.canMode c.val = 0 ∧ (step = if transmitting = true ∧ inData = true ∧ (kind = CanError.bit1 ∨ kind = CanError.bit0) then 8 else dTec)) ∧
  (∃ (s : State) (c : Fin 8), s.node.canOnBus c.val = true ∧ s.node.canMode c.val ≠ 0) ∧
  (∃ (s : State) (c : Fin 8) (e : CanTx) (rest : List CanTx) (kind : CanError), s.node.canSends c.val = true ∧ (s.node.can c.val).tx = e :: rest
      ∧ (kind = CanError.bit0 ∨ kind = CanError.bit1) ∧ (s.node.can c.val).idRun = 3 ∧ (s.node.can c.val).idSeen = false) :=
  ⟨
   ⟨⟨canTxPushNode1, []⟩, 7, canFrame, by decide +kernel⟩,
   ⟨⟨canTxPushNode2, []⟩, 7, canFrame, by decide +kernel⟩,
   ⟨⟨canTxCancelNode3, []⟩, 7, 1#16, 0, by decide +kernel⟩,
   ⟨⟨canTxCancelNode3, []⟩, 7, 1#16, 0, by decide +kernel⟩,
   ⟨⟨canTxCancelNode3, []⟩, 7, ⟨1#16, canFrame⟩, [], 127, canFrame, by decide +kernel⟩,
   ⟨⟨canTxDoneNode6, []⟩, 7, ⟨1#16, { canFrame with fdf := true, brs := true }⟩, [], 128, { canFrame with fdf := true, brs := true }, by
       decide +kernel⟩,
   ⟨⟨canTxDoneNode7, []⟩, 7, by decide +kernel⟩,
   ⟨⟨canTxCancelNode3, []⟩, 7, by decide +kernel⟩,
   ⟨⟨canTxDoneNode7, []⟩, 7, by decide +kernel⟩,
   ⟨⟨canArbLostNode10, []⟩, 7, by decide +kernel⟩,
   ⟨⟨canArbLostNode10, []⟩, 7, .bit0, true, true, 8, 8, by decide +kernel⟩,
   ⟨⟨canErrorDetectedNode12, []⟩, 7, by decide +kernel⟩,
   ⟨⟨canErrorDetectedNode13, []⟩, 7, ⟨1#16, canFrame⟩, [], .bit0, by decide +kernel⟩⟩

def canFrameReceivedNode1 : Node :=
  (node.setting ⟨0x600284, 24, 5, 4⟩ 15 |>.wr (F.PRESS_STATE_STATE.at 15) 2 |>.wr (F.CAN_STATUS_STATE.at 7) 2 |>.setCan 7
    fun x => { x with rx := List.replicate 127 ⟨canFrame, 0⟩ })
def canFrameReceivedNode2 : Node :=
  (node.setting ⟨0x600284, 24, 5, 4⟩ 15 |>.wr (F.PRESS_STATE_STATE.at 15) 2 |>.wr (F.CAN_STATUS_STATE.at 7) 2 |>.setCan 7
    fun x => { x with rx := List.replicate 128 ⟨canFrame, 0⟩ })
def canFrameReceivedNode3 : Node :=
  (node.setting ⟨0x600284, 24, 5, 4⟩ 15 |>.wr (F.PRESS_STATE_STATE.at 15) 2 |>.wr (F.CAN_STATUS_STATE.at 7) 2 |>.setting (F.CAN_CFG_FD_EN.at 7) 0
    |>.setting (F.CAN_CFG_PEX.at 7) 1)
def canFrameReceivedNode4 : Node :=
  (node.setting ⟨0x600284, 24, 5, 4⟩ 15 |>.wr (F.PRESS_STATE_STATE.at 15) 2 |>.wr (F.CAN_STATUS_STATE.at 7) 2 |>.setting (F.CAN_CFG_FD_EN.at 7) 0)
def canRecoveryDoneNode5 : Node := (node.setting ⟨0x600284, 24, 5, 4⟩ 15 |>.wr (F.PRESS_STATE_STATE.at 15) 2 |>.wr (F.CAN_STATUS_STATE.at 7) 5)
def canIntegratedNode6 : Node := (node.setting ⟨0x600284, 24, 5, 4⟩ 15 |>.wr (F.PRESS_STATE_STATE.at 15) 2 |>.wr (F.CAN_STATUS_STATE.at 7) 1)
def canCmdRecoverNode7 : Node :=
  (node.setting ⟨0x600284, 24, 5, 4⟩ 15 |>.wr (F.PRESS_STATE_STATE.at 15) 2 |>.wr (F.CAN_STATUS_STATE.at 7) 4 |>.setting (F.CAN_CFG_AUTO_RECOV.at
    7) 0)
def canCmdRecoverNode10 : Node := (node.setting ⟨0x600284, 24, 5, 4⟩ 15 |>.wr (F.PRESS_STATE_STATE.at 15) 2 |>.wr (F.CAN_STATUS_STATE.at 7) 4)
def mbAckUpdNode15 : Node :=
  (node.setting ⟨0x600284, 24, 5, 4⟩ 15 |>.wr (F.PRESS_STATE_STATE.at 15) 2 |>.wr (F.CAN_STATUS_STATE.at 7) 2 |>.wr (F.MB_UPD.at 511) 65535)
/-- States and operands meet the hypotheses of every clause of `Obligations.CanReceiveCommandsComplete`. -/
theorem witness_CanReceiveCommandsComplete :
  (∃ (s : State) (c : Fin 8) (f : CanFrame), s.node.canOnBus c.val = true ∧ (f.fdf = false ∨ s.node.cfBit (F.CAN_CFG_FD_EN.at c.val) = true) ∧
      (s.node.can c.val).rx.length < 128) ∧
  (∃ (s : State) (c : Fin 8) (f : CanFrame), s.node.canOnBus c.val = true ∧ (f.fdf = false ∨ s.node.cfBit (F.CAN_CFG_FD_EN.at c.val) = true) ∧
      128 ≤ (s.node.can c.val).rx.length) ∧
  (∃ (s : State) (c : Fin 8) (f : CanFrame), s.node.canOnBus c.val = true ∧ f.fdf = true ∧ s.node.cfBit (F.CAN_CFG_FD_EN.at c.val) = false ∧
      s.node.cfBit (F.CAN_CFG_PEX.at c.val) = true) ∧
  (∃ (s : State) (c : Fin 8) (f : CanFrame), s.node.canOnBus c.val = true ∧ f.fdf = true ∧ s.node.cfBit (F.CAN_CFG_FD_EN.at c.val) = false ∧
      s.node.cfBit (F.CAN_CFG_PEX.at c.val) = false) ∧
  (∃ (s : State) (c : Fin 8), s.node.canLive c.val = true ∧ s.node.canState c.val = 5) ∧
  (∃ (s : State) (c : Fin 8), s.node.canLive c.val = true ∧ s.node.canState c.val = 1) ∧
  (∃ (s : State) (c : Fin 8) (by_ : Initiator), s.node.Reaches by_ 7 ∧ s.node.canState c.val = 4 ∧ s.node.cfBit (F.CAN_CFG_AUTO_RECOV.at c.val)
      = false) ∧
  (∃ (s : State) (c : Fin 8) (by_ : Initiator), s.node.Reaches by_ 7 ∧ s.node.canState c.val ≠ 4) ∧
  (∃ (s : State) (by_ : Initiator), s.node.Reaches by_ 7) ∧
  (∃ (s : State) (by_ : Initiator) (key : BitVec 16), s.node.Reaches by_ 7 ∧ key ≠ 18967#16 ∧ s.node.held by_ = none) ∧
  (∃ (s : State) (by_ : Initiator) (key : BitVec 16), s.node.Reaches by_ 7 ∧ key ≠ 18967#16 ∧ s.node.held by_ = none) ∧
  (∃ (s : State) (c : Fin 8), s.node.canLive c.val = true ∧ s.node.canState c.val = 4 ∧ s.node.cfBit (F.CAN_CFG_AUTO_RECOV.at c.val) = false) ∧
  (∃ (s : State) (c : Fin 8) (b : Fin 64) (byHost : Bool), s.node.powered = true ∧ s.node.islandDown 3 = false ∧ (byHost = true ∨ s.node.canLive
      c.val = true) ∧ s.node.bit (F.MB_DIR.at (64 * c.val + b.val)) = byHost) ∧
  (∃ (s : State) (c : Fin 8) (b : Fin 64) (byHost : Bool), s.node.powered = true ∧ s.node.islandDown 3 = false ∧ (byHost = true ∨ s.node.canLive
      c.val = true) ∧ s.node.bit (F.MB_DIR.at (64 * c.val + b.val)) ≠ byHost) ∧
  (∃ (s : State) (c : Fin 8) (b : Fin 64) (upd : Half), s.node.powered = true ∧ s.node.islandDown 3 = false ∧ s.node.rd (F.MB_UPD.at (64 * c.val
      + b.val)) = BitVec.toNat upd) ∧
  (∃ (s : State) (c : Fin 8) (b : Fin 64) (upd : Half), s.node.powered = true ∧ s.node.islandDown 3 = false ∧ s.node.rd (F.MB_UPD.at (64 * c.val
      + b.val)) ≠ BitVec.toNat upd) ∧
  (∃ (s : State), s.node.powered = true ∧ s.node.islandDown 3 = false) ∧
  (∃ (s : State), s.node.powered = true ∧ s.node.islandDown 3 = true) ∧
  (∃ (s : State), s.node.powered = true ∧ s.node.islandDown 3 = true) :=
  ⟨
   ⟨⟨canFrameReceivedNode1, []⟩, 7, canFrame, by decide +kernel⟩,
   ⟨⟨canFrameReceivedNode2, []⟩, 7, canFrame, by decide +kernel⟩,
   ⟨⟨canFrameReceivedNode3, []⟩, 7, { canFrame with fdf := true }, by decide +kernel⟩,
   ⟨⟨canFrameReceivedNode4, []⟩, 7, { canFrame with fdf := true }, by decide +kernel⟩,
   ⟨⟨canRecoveryDoneNode5, []⟩, 7, by decide +kernel⟩,
   ⟨⟨canIntegratedNode6, []⟩, 7, by decide +kernel⟩,
   ⟨⟨canCmdRecoverNode7, []⟩, 7, .host, by unfold Node.Reaches; decide +kernel⟩,
   ⟨⟨canArbLostNode10, []⟩, 7, .host, by unfold Node.Reaches; decide +kernel⟩,
   ⟨⟨canArbLostNode10, []⟩, .host, by unfold Node.Reaches; decide +kernel⟩,
   ⟨⟨canCmdRecoverNode10, []⟩, .host, 0x4A16#16, by unfold Node.Reaches; decide +kernel⟩,
   ⟨⟨canCmdRecoverNode10, []⟩, .host, 0x4A16#16, by unfold Node.Reaches; decide +kernel⟩,
   ⟨⟨canCmdRecoverNode7, []⟩, 7, by decide +kernel⟩,
   ⟨⟨canArbLostNode10, []⟩, 7, 63, false, by decide +kernel⟩,
   ⟨⟨canArbLostNode10, []⟩, 7, 63, true, by decide +kernel⟩,
   ⟨⟨mbAckUpdNode15, []⟩, 7, 63, 65535#16, by decide +kernel⟩,
   ⟨⟨node, []⟩, 7, 63, 65535#16, by decide +kernel⟩,
   ⟨⟨node, []⟩, by decide +kernel⟩,
   ⟨⟨fieldWindowRequestNode16, []⟩, by decide +kernel⟩,
   ⟨⟨fieldWindowRequestNode16, []⟩, by decide +kernel⟩⟩

def blendJobNode1 : Node := due 3 4095
def blendJobBase2 : Node := (due 3 0).putForce 0x100060 0x00000000#32 |>.putForce 0x100064 0x00000000#32
def blendJobNode2 : Node :=
  (blendJobBase2.setting (F.JOB_FIRST.at 0) 7 |>.setting (F.JOB.at 0) 1 |>.setting (F.BE_KIND.at 7) 0 |>.setting (F.BE_CTYPE.at 7) 0 |>.setting
    (F.BE_CIDX.at 7) 3 |>.setting (F.BE_LEN.at 7) 8 |>.setting (F.BE_BIT_OFS.at 7) 8 |>.setting (F.BE_SIGNAL.at 7) 99 |>.putForce (F.BE_M.at 7).addr
    2#32)
def blendJobBase : Node :=
  blendJobBase2.setting (F.JOB_FIRST.at 0) 7 |>.setting (F.JOB.at 0) 1 |>.setting (F.BE_KIND.at 7) 0 |>.setting (F.BE_CTYPE.at 7) 6 |>.setting
    (F.BE_CIDX.at 7) 0 |>.setting (F.BE_LEN.at 7) 8 |>.setting (F.BE_BIT_OFS.at 7) 8 |>.setting (F.BE_SIGNAL.at 7) 99 |>.putForce (F.BE_M.at 7).addr
    2#32
def blendJobNode3 : Node := blendJobBase
def blendJobNode4 : Node := (blendJobBase.putWord 0xB10100 0x1234#32)
def blendJobNode5 : Node := { blendJobBase with blend := { node.blend with markers := [(7, some (node.rd F.LATCH_SEQ))] } }
def blendJobNode6 : Node :=
  (((blendJobBase2.setting (F.JOB_FIRST.at 0) 7 |>.setting (F.JOB.at 0) 1 |>.setting (F.BE_KIND.at 7) 1 |>.setting (F.BE_CTYPE.at 7) 5 |>.setting
    (F.BE_CIDX.at 7) 0 |>.setting (F.BE_LEN.at 7) 8 |>.setting (F.BE_BIT_OFS.at 7) 8 |>.setting (F.BE_SIGNAL.at 7) 99 |>.putForce (F.BE_M.at 7).addr
    2#32).putSignal 99 21#64).setQual 99 1)
def blendJobNode7 : Node := (due 3 0).setting (F.JOB_TOPO.at 0) 15
/-- States and operands meet the hypotheses of every clause of `Obligations.BlendCommandsComplete`. -/
theorem witness_BlendCommandsComplete :
  (∃ (s : State) (entry : Nat) (j : Nat), s.node.due entry 3 = true ∧ s.node.blockHeld 8 = false ∧ s.node.targetOf entry = j ∧
      (s.node.trellis.running.any fun r => r.action == 3 && r.target == j) = false ∧ (s.node.cf (F.JOB_TOPO.at j) = 0 ∨ s.node.cf (F.JOB_TOPO.at j)
      = s.node.topoTag)) ∧
  (∃ (s : State) (entry : Nat) (j : Nat) (reads : List HostRead) (e : Nat) (sig : Nat) (key : Nat), s.node.due entry 3 = true ∧ s.node.blockHeld
      8 = false ∧ s.node.targetOf entry = j ∧ (s.node.trellis.running.any fun r => r.action == 3 && r.target == j) = false ∧ (s.node.cf
      (F.JOB_TOPO.at j) = 0 ∨ s.node.cf (F.JOB_TOPO.at j) = s.node.topoTag) ∧ s.node.jobEntries j = [e] ∧ s.node.cf (F.BE_SIGNAL.at e) = sig ∧
      s.node.containerOf e = key ∧ s.node.cf (F.BE_KIND.at e) = 0 ∧ s.node.readContainer (key / 1024) (key % 1024) reads = none) ∧
  (∃ (s : State) (entry : Nat) (j : Nat) (inc : List Nat) (reads : List HostRead) (e : Nat) (sig : Nat) (key : Nat) (marker : Nat) (data : List
      Byte), s.node.due entry 3 = true ∧ s.node.blockHeld 8 = false ∧ s.node.targetOf entry = j ∧ (s.node.trellis.running.any fun r => r.action == 3
      && r.target == j) = false ∧ (s.node.cf (F.JOB_TOPO.at j) = 0 ∨ s.node.cf (F.JOB_TOPO.at j) = s.node.topoTag) ∧ s.node.jobEntries j = [e] ∧
      s.node.cf (F.BE_SIGNAL.at e) = sig ∧ s.node.containerOf e = key ∧ s.node.cf (F.BE_KIND.at e) = 0 ∧ s.node.readContainer (key / 1024) (key %
      1024) reads = some (marker, data) ∧ key ∈ inc) ∧
  (∃ (s : State) (entry : Nat) (j : Nat) (inc : List Nat) (reads : List HostRead) (e : Nat) (sig : Nat) (key : Nat) (marker : Nat) (data : List
      Byte) (r : Nat × Bool), s.node.due entry 3 = true ∧ s.node.blockHeld 8 = false ∧ s.node.targetOf entry = j ∧ (s.node.trellis.running.any fun r
      => r.action == 3 && r.target == j) = false ∧ (s.node.cf (F.JOB_TOPO.at j) = 0 ∨ s.node.cf (F.JOB_TOPO.at j) = s.node.topoTag) ∧
      s.node.jobEntries j = [e] ∧ s.node.cf (F.BE_SIGNAL.at e) = sig ∧ s.node.containerOf e = key ∧ s.node.cf (F.BE_KIND.at e) = 0 ∧
      s.node.readContainer (key / 1024) (key % 1024) reads = some (marker, data) ∧ ¬key ∈ inc ∧ s.node.marker e ≠ some marker ∧ s.node.rescale e
      ((s.node.fieldFormat e).read (fieldGet data (s.node.cf (F.BE_BIT_OFS.at e)) (s.node.cf (F.BE_LEN.at e)) (s.node.cfBit (F.BE_ORDER.at e))))
      (s.node.signalFormat e) = some r) ∧
  (∃ (s : State) (entry : Nat) (j : Nat) (inc : List Nat) (reads : List HostRead) (e : Nat) (sig : Nat) (key : Nat) (marker : Nat) (data : List
      Byte), s.node.due entry 3 = true ∧ s.node.blockHeld 8 = false ∧ s.node.targetOf entry = j ∧ (s.node.trellis.running.any fun r => r.action == 3
      && r.target == j) = false ∧ (s.node.cf (F.JOB_TOPO.at j) = 0 ∨ s.node.cf (F.JOB_TOPO.at j) = s.node.topoTag) ∧ s.node.jobEntries j = [e] ∧
      s.node.cf (F.BE_SIGNAL.at e) = sig ∧ s.node.containerOf e = key ∧ s.node.cf (F.BE_KIND.at e) = 0 ∧ s.node.readContainer (key / 1024) (key %
      1024) reads = some (marker, data) ∧ ¬key ∈ inc ∧ s.node.marker e = some marker ∧ s.node.cf (F.BE_MAXAGE.at e) ≠ 65535 ∧ (s.node.cf
      (F.BE_MAXAGE.at e) = 0 ∨ s.node.cf (F.BE_MAXAGE.at e) < s.node.sigAge sig) ∧ s.node.qual sig ≠ 2) ∧
  (∃ (s : State) (entry : Nat) (j : Nat) (e : Nat) (sig : Nat) (key : Nat) (r : Nat × Bool) (k : Nat), s.node.due entry 3 = true ∧
      s.node.blockHeld 8 = false ∧ s.node.targetOf entry = j ∧ (s.node.trellis.running.any fun r => r.action == 3 && r.target == j) = false ∧
      (s.node.cf (F.JOB_TOPO.at j) = 0 ∨ s.node.cf (F.JOB_TOPO.at j) = s.node.topoTag) ∧ s.node.jobEntries j = [e] ∧ s.node.cf (F.BE_SIGNAL.at e) =
      sig ∧ s.node.containerOf e = key ∧ s.node.cf (F.BE_KIND.at e) = 1 ∧ key = containerKey 5 0 ∧ s.node.fabricError 5 = false ∧ s.node.qual sig =
      1 ∧ s.node.rescale e ((s.node.signalFormat e).read (s.node.signalBits sig)) (s.node.fieldFormat e) = some r ∧ k ∈ fieldWords (s.node.cf
      (F.BE_BIT_OFS.at e)) (s.node.cf (F.BE_LEN.at e))) ∧
  (∃ (s : State) (entry : Nat) (j : Nat), s.node.due entry 3 = true ∧ s.node.blockHeld 8 = false ∧ s.node.targetOf entry = j ∧
      (s.node.trellis.running.any fun r => r.action == 3 && r.target == j) = false ∧ s.node.cf (F.JOB_TOPO.at j) ≠ 0 ∧ s.node.cf (F.JOB_TOPO.at j) ≠
      s.node.topoTag) ∧
  (∃ (s : State) (f : ScrubFinding), s.node.powered = true ∧ s.node.islandDown 4 = false ∧ f.result = EccResult.corrected) ∧
  (∃ (s : State) (st : BlendStore) (f : ScrubFinding), s.node.powered = true ∧ s.node.islandDown 4 = false ∧ f.result = EccResult.uncorrectable
      ∧ f.entry < 262144 ∧ st = BlendStore.signal) ∧
  (∃ (s : State) (st : BlendStore) (f : ScrubFinding), s.node.powered = true ∧ s.node.islandDown 4 = false ∧ f.result = EccResult.uncorrectable
      ∧ f.inForce = true ∧ st = BlendStore.entry ∧ s.node.blend.skipped.contains f.entry = false) :=
  ⟨
   ⟨⟨blendJobNode1, []⟩, 0, 4095, by decide +kernel⟩,
   ⟨⟨blendJobNode2, []⟩, 0, 0, [], 7, 99, 3, by decide +kernel⟩,
   ⟨⟨blendJobNode3, []⟩, 0, 0, [6144], [], 7, 99, 6144, blendJobNode3.rd F.LATCH_SEQ, blendJobNode3.wordBytes 0xB10100 204, by decide +kernel⟩,
   ⟨⟨blendJobNode4, []⟩, 0, 0, [], [], 7, 99, 6144, blendJobNode4.rd F.LATCH_SEQ, blendJobNode4.wordBytes 0xB10100 204, (blendJobNode4.rescale 7
       ((blendJobNode4.fieldFormat 7).read (fieldGet (blendJobNode4.wordBytes 0xB10100 204) (blendJobNode4.cf (F.BE_BIT_OFS.at 7)) (blendJobNode4.cf
       (F.BE_LEN.at 7)) (blendJobNode4.cfBit (F.BE_ORDER.at 7)))) (blendJobNode4.signalFormat 7)).getD (0,false), by decide +kernel⟩,
   ⟨⟨blendJobNode5, []⟩, 0, 0, [], [], 7, 99, 6144, blendJobNode5.rd F.LATCH_SEQ, blendJobNode5.wordBytes 0xB10100 204, by decide +kernel⟩,
   ⟨⟨blendJobNode6, []⟩, 0, 0, 7, 99, containerKey 5 0, (blendJobNode6.rescale 7 ((blendJobNode6.signalFormat 7).read (blendJobNode6.signalBits
       99)) (blendJobNode6.fieldFormat 7)).getD (0,false), 0, by decide +kernel⟩,
   ⟨⟨blendJobNode7, []⟩, 0, 0, by decide +kernel⟩,
   ⟨⟨node, []⟩, ⟨true, 0, 0, .corrected⟩, by decide +kernel⟩,
   ⟨⟨node, []⟩, .signal, ⟨true, 262143, 0, .uncorrectable⟩, by decide +kernel⟩,
   ⟨⟨node, []⟩, .entry, ⟨true, 262143, 0, .uncorrectable⟩, by decide +kernel⟩⟩

def ptpSyncReceivedNode1 : Node :=
  { (node.setting (F.DOM_CFG_ENABLE.at 1) 1).setting (F.DOM_CFG_PORTS.at 1) 0x8000 |>.wr (F.DOM_STATUS_STATE.at 1) 1 |>.wr F.TIME_STATUS_SOURCE 0
    with time := { node.time with goodRun := [(1, 6)] } }
def ptpSyncReceivedNode2 : Node :=
  { (node.setting (F.DOM_CFG_ENABLE.at 1) 1).setting (F.DOM_CFG_PORTS.at 1) 0x8000 |>.wr (F.DOM_STATUS_STATE.at 1) 1 |>.wr F.TIME_STATUS_SOURCE 0
    with time := { node.time with goodRun := [(1, 7)] } }
def ptpSyncReceivedNode4 : Node :=
  { (node.setting (F.DOM_CFG_ENABLE.at 1) 1).setting (F.DOM_CFG_PORTS.at 1) 0x8000 |>.wr (F.DOM_STATUS_STATE.at 1) 2 |>.wr F.TIME_STATUS_SOURCE 0
    with time := { node.time with goodRun := [] } }
def revertTimerExpiryNode6 : Node :=
  (node.setting F.TIME_CFG_REVERT 1).setting F.TIME_CFG_PRIMARY 1 |>.wr (F.DOM_STATUS_STATE.at 1) 2 |>.wr F.TIME_STATUS_SOURCE 1
def activeTimeSlewEndNode7 : Node := (node.wr F.TIME_STATUS_SLEWING 1).wr F.TIME_STATUS_SOURCE 2
def ptpMessageIntervalNode8 : Node :=
  (node.setting (F.DOM_CFG_ENABLE.at 1) 1).setting (F.DOM_CFG_PORTS.at 1) 0x8000 |>.wr (F.LINK_STATUS_UP.at 15) 1 |>.setting (F.DOM_CFG_PROFILE.at
    1) 1
def ptpMessageIntervalNode10 : Node :=
  (node.setting (F.DOM_CFG_ENABLE.at 1) 1).setting (F.DOM_CFG_PORTS.at 1) 0x8000 |>.wr (F.LINK_STATUS_UP.at 15) 1
def ptpMessageIntervalNode11 : Node :=
  (node.setting (F.DOM_CFG_ENABLE.at 1) 1).setting (F.DOM_CFG_PORTS.at 1) 0x8000 |>.wr (F.LINK_STATUS_UP.at 15) 1 |>.wr (F.DOM_STATUS_RX_PORT.at
    1) 15
def ptpMessageIntervalNode12 : Node :=
  ((node.setting (F.DOM_CFG_ENABLE.at 1) 1).setting (F.DOM_CFG_ROLE.at 1) 1 |>.wr (F.DOM_STATUS_RX_PORT.at 1) 255).setting (F.DOM_CFG_PORTS.at 1)
    0x8000 |>.wr (F.LINK_STATUS_UP.at 15) 1
def ptpMessageIntervalNode13 : Node :=
  (node.setting (F.DOM_CFG_ENABLE.at 1) 1).setting (F.DOM_CFG_PORTS.at 1) 0x8000 |>.wr (F.LINK_STATUS_UP.at 15) 1 |>.setting (F.DOM_CFG_PROFILE.at
    1) 2 |>.wr (F.DOM_STATUS_STATE.at 1) 2 |>.putWord (txPortsHome 1) 0x8000#32
/-- States and operands meet the hypotheses of every clause of `Obligations.NetworkTimeCommandsComplete`. -/
theorem witness_NetworkTimeCommandsComplete :
  (∃ (s : State) (d : Fin 2) (ofs : Int) (port : Fin 16), s.node.powered = true ∧ s.node.islandDown 6 = false ∧ s.node.cfBit
      (F.DOM_CFG_ENABLE.at d.val) = true ∧ s.node.rd (F.DOM_STATUS_STATE.at d.val) ≠ 0 ∧ s.node.cf (F.DOM_CFG_PORTS.at d.val) / 2 ^ port.val % 2 = 1
      ∧ s.node.domLocked d.val = false ∧ s.node.goodSyncs d.val < 7 ∧ ofs.natAbs ≤ 100) ∧
  (∃ (s : State) (d : Fin 2) (ofs : Int) (port : Fin 16), s.node.powered = true ∧ s.node.islandDown 6 = false ∧ s.node.cfBit
      (F.DOM_CFG_ENABLE.at d.val) = true ∧ s.node.rd (F.DOM_STATUS_STATE.at d.val) ≠ 0 ∧ s.node.cf (F.DOM_CFG_PORTS.at d.val) / 2 ^ port.val % 2 = 1
      ∧ 100 < ofs.natAbs ∧ ofs.natAbs ≤ 1000) ∧
  (∃ (s : State) (d : Fin 2) (ofs : Int) (port : Fin 16), s.node.powered = true ∧ s.node.islandDown 6 = false ∧ s.node.cfBit
      (F.DOM_CFG_ENABLE.at d.val) = true ∧ s.node.rd (F.DOM_STATUS_STATE.at d.val) ≠ 0 ∧ s.node.cf (F.DOM_CFG_PORTS.at d.val) / 2 ^ port.val % 2 = 1
      ∧ s.node.domLocked d.val = false ∧ s.node.goodSyncs d.val = 7 ∧ ofs.natAbs ≤ 100) ∧
  (∃ (s : State) (d : Fin 2) (ofs : Int) (port : Fin 16), s.node.powered = true ∧ s.node.islandDown 6 = false ∧ s.node.cfBit
      (F.DOM_CFG_ENABLE.at d.val) = true ∧ s.node.rd (F.DOM_STATUS_STATE.at d.val) ≠ 0 ∧ s.node.cf (F.DOM_CFG_PORTS.at d.val) / 2 ^ port.val % 2 = 1
      ∧ s.node.domLocked d.val = true ∧ 1000 < ofs.natAbs) ∧
  (∃ (s : State) (d : Fin 2), s.node.powered = true ∧ s.node.domLocked d.val = true) ∧
  (∃ (s : State) (d : Fin 2), s.node.powered = true ∧ s.node.cfBit F.TIME_CFG_REVERT = true ∧ s.node.cf F.TIME_CFG_PRIMARY = d.val ∧
      s.node.domLocked d.val = true ∧ s.node.rd F.TIME_STATUS_SOURCE = 2 - d.val) ∧
  (∃ (s : State) (d : Fin 2), s.node.bit F.TIME_STATUS_SLEWING = true ∧ s.node.rd F.TIME_STATUS_SOURCE = d.val + 1 ∧ s.node.viewNs 2 =
      s.node.viewNs d.val) ∧
  (∃ (s : State) (d : Fin 2) (up : List Nat), s.node.running = true ∧ s.node.activeUnit = true ∧ s.node.cfBit (F.DOM_CFG_ENABLE.at d.val) = true
      ∧ up = List.filter s.node.linkUp (portsOf (s.node.cf (F.DOM_CFG_PORTS.at d.val))) ∧ s.node.cf (F.DOM_CFG_PROFILE.at d.val) ≠ 0) ∧
  (∃ (s : State) (d : Fin 2) (up : List Nat) (l : LinkDelay), s.node.running = true ∧ s.node.activeUnit = true ∧ s.node.cfBit
      (F.DOM_CFG_ENABLE.at d.val) = true ∧ up = List.filter s.node.linkUp (portsOf (s.node.cf (F.DOM_CFG_PORTS.at d.val))) ∧ s.node.cf
      (F.DOM_CFG_PROFILE.at d.val) ≠ 0 ∧ l.port.val ∈ up) ∧
  (∃ (s : State) (d : Fin 2) (up : List Nat), s.node.running = true ∧ s.node.activeUnit = true ∧ s.node.cfBit (F.DOM_CFG_ENABLE.at d.val) = true
      ∧ up = List.filter s.node.linkUp (portsOf (s.node.cf (F.DOM_CFG_PORTS.at d.val))) ∧ s.node.cf (F.DOM_CFG_PROFILE.at d.val) = 0) ∧
  (∃ (s : State) (d : Fin 2) (up : List Nat), s.node.running = true ∧ s.node.activeUnit = true ∧ s.node.cfBit (F.DOM_CFG_ENABLE.at d.val) = true
      ∧ up = List.filter s.node.linkUp (portsOf (s.node.cf (F.DOM_CFG_PORTS.at d.val))) ∧ s.node.cf (F.DOM_CFG_PROFILE.at d.val) = 0 ∧ s.node.rd
      (F.DOM_STATUS_RX_PORT.at d.val) ∈ up) ∧
  (∃ (s : State) (d : Fin 2) (up : List Nat) (k : BitVec 4), s.node.running = true ∧ s.node.activeUnit = true ∧ s.node.cfBit
      (F.DOM_CFG_ENABLE.at d.val) = true ∧ up = List.filter s.node.linkUp (portsOf (s.node.cf (F.DOM_CFG_PORTS.at d.val))) ∧ (k = 0#4 ∨ k = 11#4) ∧
      s.node.grandmaster d.val = true) ∧
  (∃ (s : State) (d : Fin 2) (up : List Nat) (k : BitVec 4), s.node.running = true ∧ s.node.activeUnit = true ∧ s.node.cfBit
      (F.DOM_CFG_ENABLE.at d.val) = true ∧ up = List.filter s.node.linkUp (portsOf (s.node.cf (F.DOM_CFG_PORTS.at d.val))) ∧ (k = 0#4 ∨ k = 11#4) ∧
      s.node.grandmaster d.val = false ∧ s.node.cf (F.DOM_CFG_PROFILE.at d.val) = 2 ∧ s.node.domLocked d.val = true) ∧
  (∃ (s : State) (d : Fin 2) (up : List Nat) (k : BitVec 4), s.node.running = true ∧ s.node.activeUnit = true ∧ s.node.cfBit
      (F.DOM_CFG_ENABLE.at d.val) = true ∧ up = List.filter s.node.linkUp (portsOf (s.node.cf (F.DOM_CFG_PORTS.at d.val))) ∧ (k = 0#4 ∨ k = 11#4) ∧
      s.node.grandmaster d.val = false ∧ (s.node.cf (F.DOM_CFG_PROFILE.at d.val) ≠ 2 ∨ s.node.domLocked d.val = false)) :=
  ⟨
   ⟨⟨ptpSyncReceivedNode1, []⟩, 1, -100, 15, by decide +kernel⟩,
   ⟨⟨ptpSyncReceivedNode2, []⟩, 1, -1000, 15, by decide +kernel⟩,
   ⟨⟨ptpSyncReceivedNode2, []⟩, 1, 100, 15, by decide +kernel⟩,
   ⟨⟨ptpSyncReceivedNode4, []⟩, 1, -1001, 15, by decide +kernel⟩,
   ⟨⟨ptpSyncReceivedNode4, []⟩, 1, by decide +kernel⟩,
   ⟨⟨revertTimerExpiryNode6, []⟩, 1, by decide +kernel⟩,
   ⟨⟨activeTimeSlewEndNode7, []⟩, 1, by decide +kernel⟩,
   ⟨⟨ptpMessageIntervalNode8, []⟩, 1, [15], by decide +kernel⟩,
   ⟨⟨ptpMessageIntervalNode8, []⟩, 1, [15], ⟨15, 5#64, 6#32⟩, by decide +kernel⟩,
   ⟨⟨ptpMessageIntervalNode10, []⟩, 1, [15], by decide +kernel⟩,
   ⟨⟨ptpMessageIntervalNode11, []⟩, 1, [15], by decide +kernel⟩,
   ⟨⟨ptpMessageIntervalNode12, []⟩, 1, [15], 0#4, by decide +kernel⟩,
   ⟨⟨ptpMessageIntervalNode13, []⟩, 1, [15], 0#4, by decide +kernel⟩,
   ⟨⟨ptpMessageIntervalNode10, []⟩, 1, [15], 0#4, by decide +kernel⟩⟩

def clk10LossNode1 : Node := (node.setting F.TIME_CFG_CLK_SRC 1).wr F.TIME_STATUS_CLK10_OK 1
def clk10ReturnNode2 : Node := (node.setting F.TIME_CFG_CLK_SRC 1)
def ppsInMissingNode4 : Node := node.wr F.TIME_STATUS_PPS_IN_OK 1
def ppsOutPulseNode5 : Node :=
  { (node.setting F.TIME_CFG_PPS_OUT_EN 1).wr F.TIME_STATUS_RUNNING 1 with time := { node.time with raw := 500000000#64 } }
/-- States and operands meet the hypotheses of every clause of `Obligations.ClockCommandsComplete`. -/
theorem witness_ClockCommandsComplete :
  (∃ (s : State), s.node.powered = true ∧ s.node.cfBit F.TIME_CFG_CLK_SRC = true ∧ s.node.bit F.TIME_STATUS_CLK10_OK = true) ∧
  (∃ (s : State), s.node.powered = true ∧ s.node.islandDown 6 = false ∧ s.node.cfBit F.TIME_CFG_CLK_SRC = true) ∧
  (∃ (s : State), s.node.powered = true ∧ s.node.islandDown 6 = false) ∧
  (∃ (s : State), s.node.powered = true ∧ s.node.bit F.TIME_STATUS_PPS_IN_OK = true) ∧
  (∃ (s : State) (second : Nat), s.node.powered = true ∧ s.node.bit F.TIME_STATUS_RUNNING = true ∧ s.node.cfBit F.TIME_CFG_PPS_OUT_EN = true ∧
      second * 1000000000 ≤ BitVec.toNat s.node.activeNs + 4 ∧ BitVec.toNat s.node.activeNs ≤ second * 1000000000 + 4 ∧ s.node.time.ppsSecond <
      second) :=
  ⟨
   ⟨⟨clk10LossNode1, []⟩, by decide +kernel⟩,
   ⟨⟨clk10ReturnNode2, []⟩, by decide +kernel⟩,
   ⟨⟨node, []⟩, by decide +kernel⟩,
   ⟨⟨ppsInMissingNode4, []⟩, by decide +kernel⟩,
   ⟨⟨ppsOutPulseNode5, []⟩, 1, by decide +kernel⟩⟩

def hostReadNode4 : Node := node.setting (F.RMT_IP_ADDR.at 1) 5
def lateReadNode8 : Node := { node with host := { node.host with delayed := [⟨.bar2, 0x8000000, 4, none⟩] } }
def hostReadNode9 : Node := { node with host := { node.host with prefetch := [⟨.bar0, 0, [1, 2, 3, 4], 0, false⟩] } }
def hostWriteNode11 : Node := { node.setting (F.RMT_IP_ADDR.at 1) 5 with host := { node.host with yielded := true } }
def hostWriteNode12 : Node := ((node.wr (F.PRESS_STATE_STATE.at 0) 2).setting (F.PRESS_CFG_IMAGE.at 0) 8)
def hostWriteNode14 : Node := (node.setting (F.RANGE_SIZE.at 15) 1).setting (F.RANGE_BAR.at 15) 1 |>.setting (F.RANGE_NP.at 15) 1
def prefetchLineExpiryNode16 : Node := { node with host := { node.host with prefetch := [⟨.bar0, 0, [0], 0, false⟩] } }
def deviceReadTimeoutNode17 : Node := (node.wr (F.RING_CFG_SIZE.at 7) 4 |>.wr (F.RING_TAIL.at 7) 4)
/-- States and operands meet the hypotheses of every clause of `Obligations.PcieAccessesComplete`. -/
theorem witness_PcieAccessesComplete :
  (∃ (s : State) (ofs : Nat) (b : List Byte) (effect : Bool) (far : FarReply), s.node.overPcie = true ∧ s.node.host.delayed.length < 4 ∧ (far =
      FarReply.timeout ∨ far = FarReply.data b effect) ∧ ofs % 4 = 0 ∧ s.node.lineFor Bar.bar0 ofs 4 = none ∧ s.node.reaches Initiator.host ofs =
      true ∧ s.node.place ofs = Place.word ofs ∧ ofs + 4 ≤ 67108864 ∧ windowOf ofs = none ∧ timeView ofs = none ∧ (rowHas ofs fun x => x.rc) = false
      ∧ isHighWord ofs = false ∧ (ofs < 10486304 ∨ 10486316 < ofs)) ∧
  (∃ (s : State) (ofs : Nat) (len : Nat), s.node.overPcie = true ∧ s.node.host.delayed.length < 4 ∧ s.node.lineFor Bar.bar0 ofs len = none ∧ ofs
      + len ≤ 67108864) ∧
  (∃ (s : State) (ofs : Nat) (len : Nat), s.node.overPcie = true ∧ s.node.host.delayed.length < 4 ∧ s.node.lineFor Bar.bar4 ofs len = none ∧ ofs
      + len ≤ 16384) ∧
  (∃ (s : State) (ofs : Nat) (len : Nat), s.node.overPcie = true ∧ s.node.host.delayed.length < 4 ∧ s.node.lineFor Bar.bar2 ofs len = none ∧ ofs
      + len ≤ 268435456 ∧ s.node.farReached ofs len = true) ∧
  (∃ (s : State) (ofs : Nat) (len : Nat), s.node.overPcie = true ∧ s.node.host.delayed.length < 4 ∧ s.node.lineFor Bar.bar2 ofs len = none ∧ ofs
      + len ≤ 268435456 ∧ s.node.farReached ofs len = true) ∧
  (∃ (s : State) (ofs : Nat) (len : Nat), s.node.overPcie = true ∧ s.node.host.delayed.length < 4 ∧ s.node.lineFor Bar.bar2 ofs len = none ∧ ofs
      + len ≤ 268435456 ∧ s.node.farReached ofs len = true) ∧
  (∃ (s : State) (ofs : Nat) (len : Nat), s.node.overPcie = true ∧ s.node.host.delayed.length < 4 ∧ s.node.lineFor Bar.bar2 ofs len = none ∧ ofs
      + len ≤ 268435456 ∧ s.node.farReached ofs len = false) ∧
  (∃ (s : State) (ofs : Nat) (len : Nat), s.node.overPcie = true ∧ s.node.host.delayed =
      [{ region := Bar.bar2, ofs := ofs, len := len, data := none }]) ∧
  (∃ (s : State) (bar : Bar) (ofs : Nat) (len : Nat) (l : PrefetchLine), s.node.overPcie = true ∧ s.node.host.delayed.length < 4 ∧ ofs + len ≤
      barSize bar ∧ s.node.lineFor bar ofs len = some l) ∧
  (∃ (s : State) (ofs : Nat) (data : List Byte) (r : RegRow), s.node.overPcie = true ∧ ofs % 4 = 0 ∧ data.length = 4 ∧ ofs + 4 ≤ 67108864 ∧
      s.node.reaches Initiator.host ofs = true ∧ s.node.place ofs = Place.word ofs ∧ isPlainReg ofs = true ∧ rowOf ofs = some r ∧ r.rw ≠ 0 ∧ r.w1c =
      0 ∧ s.node.held Initiator.host = none ∧ s.node.host.prefetch = []) ∧
  (∃ (s : State) (ofs : Nat) (data : List Byte), s.node.overPcie = true ∧ s.node.farReached ofs data.length = true ∧ data ≠ [] ∧ ofs +
      data.length ≤ 268435456 ∧ s.node.host.prefetch = [] ∧ s.node.held Initiator.host = none ∧ isRemote ofs = true ∧ ofs / 256 = (ofs + data.length
      - 1) / 256) ∧
  (∃ (s : State) (ofs : Nat) (data : List Byte), s.node.overPcie = true ∧ s.node.farReached ofs data.length = true ∧ data ≠ [] ∧ ofs +
      data.length ≤ 268435456 ∧ s.node.host.prefetch = [] ∧ s.node.held Initiator.host = none ∧ isRemote ofs = false ∧ s.node.fieldClient (ofs /
      8388608) = true ∧ data.length = 2 ∧ s.node.farWidth ofs = 4) ∧
  (∃ (s : State) (ofs : Nat) (data : List Byte), s.node.overPcie = true ∧ ofs % 4 = 0 ∧ ofs < 1024 ∧ data.length = 4 ∧ s.node.host.prefetch = []) ∧
  (∃ (s : State) (ofs : Nat) (data : List Byte), s.node.overPcie = true ∧ s.node.farReached ofs data.length = false ∧ ofs + data.length ≤
      268435456 ∧ s.node.nonPosted Bar.bar2 ofs = true) ∧
  (∃ (s : State) (ofs : Nat) (data : List Byte), s.node.overPcie = true ∧ s.node.farReached ofs data.length = false ∧ ofs + data.length ≤
      268435456 ∧ s.node.nonPosted Bar.bar2 ofs = false) ∧
  (∃ (s : State) (line : Nat) (l : PrefetchLine), s.node.overPcie = true ∧ s.node.host.prefetch[line]? = some l) ∧
  (∃ (s : State) (read : DeviceRead) (descs : List TxDesc) (t : Nat), s.node.overPcie = true ∧ s.node.dmaOk = true ∧ read = DeviceRead.fetch
      descs ∧ s.node.host.txWork = none ∧ s.node.host.yielded = false ∧ s.node.txServed = some t) ∧
  (∃ (s : State) (read : DeviceRead) (c : Fin 64), s.node.overPcie = true ∧ s.node.dmaOk = true ∧ read = DeviceRead.container c) ∧
  (∃ (s : State), s.node.overPcie = true ∧ s.node.dmaOk = true ∧ s.node.host.txWork = none ∧ s.node.txServed.isSome = true ∧ s.node.host.yielded
      = false) :=
  ⟨
   ⟨⟨node, []⟩, 0, [], true, .timeout, by decide +kernel⟩,
   ⟨⟨node, []⟩, 0x3FFFFFC, 4, by decide +kernel⟩,
   ⟨⟨node, []⟩, 0x3FFF, 1, by decide +kernel⟩,
   ⟨⟨hostReadNode4, []⟩, 0xFFFFFFF, 1, by decide +kernel⟩,
   ⟨⟨hostReadNode4, []⟩, 0xFFFFFFF, 1, by decide +kernel⟩,
   ⟨⟨hostReadNode4, []⟩, 0xFFFFFFF, 1, by decide +kernel⟩,
   ⟨⟨node, []⟩, 0x7FFFFFF, 1, by decide +kernel⟩,
   ⟨⟨lateReadNode8, []⟩, 0x8000000, 4, by decide +kernel⟩,
   ⟨⟨hostReadNode9, []⟩, .bar0, 0, 2, ⟨.bar0, 0, [1, 2, 3, 4], 0, false⟩, by decide +kernel⟩,
   ⟨⟨node, []⟩, 0xD00010, [1, 2, 3, 4], ⟨0xD00010, 4, 1, 0, 0xFFFFFF, 0, 0, false, false, 0⟩, by decide +kernel⟩,
   ⟨⟨hostWriteNode11, []⟩, 0xFFFFFFF, [0], by decide +kernel⟩,
   ⟨⟨hostWriteNode12, []⟩, 0x8000, [1, 2], by decide +kernel⟩,
   ⟨⟨node, []⟩, 0x3FC, [1, 0, 255, 0], by decide +kernel⟩,
   ⟨⟨hostWriteNode14, []⟩, 0xFFF, [0], by decide +kernel⟩,
   ⟨⟨node, []⟩, 0xFFFFFFF, [0], by decide +kernel⟩,
   ⟨⟨prefetchLineExpiryNode16, []⟩, 0, ⟨.bar0, 0, [0], 0, false⟩, by decide +kernel⟩,
   ⟨⟨deviceReadTimeoutNode17, []⟩, .fetch [], [], 3, by decide +kernel⟩,
   ⟨⟨node, []⟩, .container 63, 63, by decide +kernel⟩,
   ⟨⟨deviceReadTimeoutNode17, []⟩, by decide +kernel⟩⟩

def qspiReadNode1 : Node := (node.wr F.HBR_STATUS_PCIE_SEL 0)
def qspiReadNode2 : Node := { (node.wr F.HBR_STATUS_PCIE_SEL 0) with host := { node.host with delayed := [⟨.bar4, 0x3FFC, 4, some [1]⟩] } }
def qspiReadNode4 : Node :=
  { (node.wr F.HBR_STATUS_PCIE_SEL 0) with host := { node.host with delayed := List.replicate 4 ⟨.bar4, 0, 4, some [1]⟩ } }
def qspiReadNode5 : Node := { (node.wr F.HBR_STATUS_PCIE_SEL 0) with host := { node.host with delayed := [⟨.bar2, 0x100, 8, none⟩] } }
def qspiReadNode12 : Node := { (node.wr F.HBR_STATUS_PCIE_SEL 0) with host := { node.host with fence := some (.bar2, 0x100) } }
/-- States and operands meet the hypotheses of every clause of `Obligations.QspiAccessesComplete`. -/
theorem witness_QspiAccessesComplete :
  (∃ (s : State) (region : Bar) (ofs : Nat) (len : Nat) (k : Fin 16) (addr : Word), s.node.overQspi = true ∧ s.node.host.fence = none ∧ ofs < 2
      ^ 30 ∧ len = 4 * (k.val + 1) ∧ addr = BitVec.ofNat 32 (barCode region * 2 ^ 30 + ofs) ∧ barSize region < ofs + len) ∧
  (∃ (s : State) (region : Bar) (ofs : Nat) (len : Nat) (k : Fin 16) (addr : Word) (b : List Byte), s.node.overQspi = true ∧ s.node.host.fence =
      none ∧ ofs < 2 ^ 30 ∧ len = 4 * (k.val + 1) ∧ addr = BitVec.ofNat 32 (barCode region * 2 ^ 30 + ofs) ∧ ofs + len ≤ barSize region ∧
      s.node.host.delayed = [{ region := region, ofs := ofs, len := len, data := some b }]) ∧
  (∃ (s : State) (region : Bar) (ofs : Nat) (len : Nat) (k : Fin 16) (addr : Word), s.node.overQspi = true ∧ s.node.host.fence = none ∧ ofs < 2
      ^ 30 ∧ len = 4 * (k.val + 1) ∧ addr = BitVec.ofNat 32 (barCode region * 2 ^ 30 + ofs) ∧ ofs + len ≤ 16384 ∧ region = Bar.bar4 ∧
      s.node.host.delayed = [] ∧ s.node.lineFor Bar.bar4 ofs len = none) ∧
  (∃ (s : State) (region : Bar) (ofs : Nat) (len : Nat) (k : Fin 16) (addr : Word), s.node.overQspi = true ∧ s.node.host.fence = none ∧ ofs < 2
      ^ 30 ∧ len = 4 * (k.val + 1) ∧ addr = BitVec.ofNat 32 (barCode region * 2 ^ 30 + ofs) ∧ ofs + len ≤ barSize region ∧ 4 ≤
      s.node.host.delayed.length ∧ (∀ (d : DelayedRead), d ∈ s.node.host.delayed → d.region ≠ region ∨ d.ofs ≠ ofs ∨ d.len ≠ len)) ∧
  (∃ (s : State) (region : Bar) (ofs : Nat) (len : Nat) (k : Fin 16) (addr : Word), s.node.overQspi = true ∧ s.node.host.fence = none ∧ ofs < 2
      ^ 30 ∧ len = 4 * (k.val + 1) ∧ addr = BitVec.ofNat 32 (barCode region * 2 ^ 30 + ofs) ∧ s.node.host.delayed =
      [{ region := Bar.bar2, ofs := ofs, len := len, data := none }] ∧ region = Bar.bar2 ∧ ofs + len ≤ 268435456) ∧
  (∃ (s : State) (region : Bar) (ofs : Nat) (len : Nat) (k : Fin 16) (addr : Word) (data : List Byte), s.node.overQspi = true ∧
      s.node.host.fence = none ∧ ofs < 2 ^ 30 ∧ len = 4 * (k.val + 1) ∧ addr = BitVec.ofNat 32 (barCode region * 2 ^ 30 + ofs) ∧ data.length = len ∧
      ofs + len ≤ barSize region) ∧
  (∃ (s : State) (region : Bar) (ofs : Nat) (len : Nat) (k : Fin 16) (addr : Word) (data : List Byte), s.node.overQspi = true ∧
      s.node.host.fence = none ∧ ofs < 2 ^ 30 ∧ len = 4 * (k.val + 1) ∧ addr = BitVec.ofNat 32 (barCode region * 2 ^ 30 + ofs) ∧ data.length = len ∧
      ofs + len ≤ barSize region) ∧
  (∃ (s : State) (region : Bar) (ofs : Nat) (len : Nat) (k : Fin 16) (addr : Word) (data : List Byte), s.node.overQspi = true ∧
      s.node.host.fence = none ∧ ofs < 2 ^ 30 ∧ len = 4 * (k.val + 1) ∧ addr = BitVec.ofNat 32 (barCode region * 2 ^ 30 + ofs) ∧ data.length = len ∧
      barSize region < ofs + len) ∧
  (∃ (s : State) (command : Byte) (addr : Word), s.node.overQspi = true ∧ s.node.host.fence = none ∧ (BitVec.toNat command / 16 ≠ 1 ∨
      BitVec.toNat addr / 2 ^ 30 = 3)) ∧
  (∃ (s : State), s.node.overQspi = true) ∧
  (∃ (s : State), s.node.overQspi = true) ∧
  (∃ (s : State) (f : Bar × Nat), s.node.overQspi = true ∧ s.node.host.fence = some f) ∧
  (∃ (s : State) (f : Bar × Nat), s.node.overQspi = true ∧ s.node.host.fence = some f) ∧
  (∃ (s : State) (f : Bar × Nat), s.node.overQspi = true ∧ s.node.host.fence = some f) ∧
  (∃ (s : State) (slot : Nat) (d : DelayedRead), s.node.overQspi = true ∧ s.node.host.delayed[slot]? = some d ∧ d.data.isSome = true) :=
  ⟨
   ⟨⟨qspiReadNode1, []⟩, .bar4, 16384, 4, 0, 0x80004000#32, by decide +kernel⟩,
   ⟨⟨qspiReadNode2, []⟩, .bar4, 16380, 4, 0, 0x80003FFC#32, [1], by decide +kernel⟩,
   ⟨⟨qspiReadNode1, []⟩, .bar4, 16380, 4, 0, 0x80003FFC#32, by decide +kernel⟩,
   ⟨⟨qspiReadNode4, []⟩, .bar4, 4, 4, 0, 0x80000004#32, by decide +kernel⟩,
   ⟨⟨qspiReadNode5, []⟩, .bar2, 256, 8, 1, 0x40000100#32, by decide +kernel⟩,
   ⟨⟨qspiReadNode1, []⟩, .bar4, 1020, 4, 0, 0x800003FC#32, [1, 0, 0, 0], by decide +kernel⟩,
   ⟨⟨qspiReadNode1, []⟩, .bar4, 1020, 4, 0, 0x800003FC#32, [1, 0, 0, 0], by decide +kernel⟩,
   ⟨⟨qspiReadNode1, []⟩, .bar4, 16380, 8, 1, 0x80003FFC#32, List.replicate 8 0, by decide +kernel⟩,
   ⟨⟨qspiReadNode1, []⟩, 0x10#8, 0xC0000000#32, by decide +kernel⟩,
   ⟨⟨qspiReadNode1, []⟩, by decide +kernel⟩,
   ⟨⟨qspiReadNode1, []⟩, by decide +kernel⟩,
   ⟨⟨qspiReadNode12, []⟩, (.bar2, 0x100), by decide +kernel⟩,
   ⟨⟨qspiReadNode12, []⟩, (.bar2, 0x100), by decide +kernel⟩,
   ⟨⟨qspiReadNode12, []⟩, (.bar2, 0x100), by decide +kernel⟩,
   ⟨⟨qspiReadNode4, []⟩, 3, ⟨.bar4, 0, 4, some [1]⟩, by decide +kernel⟩⟩

def interruptFireNode1 : Node :=
  { (node.wr F.HBR_STATUS_PCIE_SEL 0) with host :=
    { node.host with fires := [⟨63, 0x0F0B, 0, 0, 0⟩], eqFifo := List.replicate 255 ⟨0#32, 0#32, 0#64⟩ } }
def interruptFireNode2 : Node :=
  { (node.wr F.HBR_STATUS_PCIE_SEL 0) with host :=
    { node.host with fires := [⟨63, 0x0F0B, 0, 0, 0⟩], eqFifo := List.replicate 256 ⟨0#32, 0#32, 0#64⟩ } }
def interruptFireNode3 : Node := { ((node.wr F.EQ_CFG_EN 1).wr F.EQ_CFG_SIZE_CODE 2) with host := { node.host with fires := [⟨63, 0, 7, 1, 0⟩] } }
def interruptFireNode4 : Node := { node with host := { node.host with fires := [⟨63, 0, 7, 1, 0⟩] } }
def interruptFireNode5 : Node := { node with host := { node.host with fires := [⟨63, 0x0F0B, 0, 0, 0⟩], bme := false } }
def interruptFireNode6 : Node :=
  { node with host := { node.host with fires := [⟨63, 0x0F0B, 0, 0, 0⟩], msixTable := [(1020, 0#32)], config := { msixEnable := true } } }
def interruptFireNode7 : Node :=
  { node with host := { node.host with fires := [⟨63, 0x0F0B, 0, 0, 0⟩], msixTable := [(1020, 1#32)], config := { msixEnable := true } } }
/-- States and operands meet the hypotheses of every clause of `Obligations.InterruptCommandsComplete`. -/
theorem witness_InterruptCommandsComplete :
  (∃ (s : State) (f : Fire) (rest : List Fire), s.node.host.inReset = false ∧ s.node.host.fires = f :: rest ∧ s.node.bit F.HBR_STATUS_PCIE_SEL =
      false ∧ s.node.host.eqLost = 0 ∧ s.node.host.eqFifo.length < 256) ∧
  (∃ (s : State) (f : Fire) (rest : List Fire), s.node.host.inReset = false ∧ s.node.host.fires = f :: rest ∧ s.node.bit F.HBR_STATUS_PCIE_SEL =
      false ∧ 256 ≤ s.node.host.eqFifo.length) ∧
  (∃ (s : State) (f : Fire) (rest : List Fire), s.node.host.inReset = false ∧ s.node.host.fires = f :: rest ∧ s.node.bit F.HBR_STATUS_PCIE_SEL =
      true ∧ (f.kind ≠ 0 ∨ s.node.routed f.vector = true) ∧ s.node.dmaOk = true ∧ s.node.bit F.EQ_CFG_EN = true ∧ s.node.host.eqLost = 0 ∧
      s.node.host.eqFull = false) ∧
  (∃ (s : State) (f : Fire) (rest : List Fire), s.node.host.inReset = false ∧ s.node.host.fires = f :: rest ∧ s.node.bit F.HBR_STATUS_PCIE_SEL =
      true ∧ (f.kind ≠ 0 ∨ s.node.routed f.vector = true) ∧ s.node.dmaOk = true ∧ s.node.bit F.EQ_CFG_EN = false) ∧
  (∃ (s : State) (f : Fire) (rest : List Fire), s.node.host.inReset = false ∧ s.node.host.fires = f :: rest ∧ s.node.bit F.HBR_STATUS_PCIE_SEL =
      true ∧ f.kind = 0 ∧ f.vector < 64 ∧ s.node.routed f.vector = false ∧ s.node.dmaOk = false) ∧
  (∃ (s : State) (f : Fire) (rest : List Fire), s.node.host.inReset = false ∧ s.node.host.fires = f :: rest ∧ s.node.bit F.HBR_STATUS_PCIE_SEL =
      true ∧ f.kind = 0 ∧ f.vector < 64 ∧ s.node.routed f.vector = false ∧ s.node.dmaOk = true ∧ s.node.host.msixPending = 0#64 ∧ s.node.msixMasked
      f.vector = false ∧ s.node.host.config.msixEnable = true ∧ s.node.host.config.functionMask = false) ∧
  (∃ (s : State) (f : Fire) (rest : List Fire), s.node.host.inReset = false ∧ s.node.host.fires = f :: rest ∧ s.node.bit F.HBR_STATUS_PCIE_SEL =
      true ∧ f.kind = 0 ∧ f.vector < 64 ∧ s.node.routed f.vector = false ∧ s.node.dmaOk = true ∧ s.node.host.msixPending = 0#64 ∧ (s.node.msixMasked
      f.vector = true ∨ s.node.host.config.msixEnable = false ∨ s.node.host.config.functionMask = true)) ∧
  (∃ (s : State), s.node.powered = true ∧ s.node.host.inReset = false ∧ s.node.bit F.HBR_STATUS_PCIE_SEL = true) ∧
  (∃ (s : State), s.node.host.inReset = false ∧ s.node.bit F.HBR_STATUS_LINK_UP = true) :=
  ⟨
   ⟨⟨interruptFireNode1, []⟩, ⟨63, 0x0F0B, 0, 0, 0⟩, [], by decide +kernel⟩,
   ⟨⟨interruptFireNode2, []⟩, ⟨63, 0x0F0B, 0, 0, 0⟩, [], by decide +kernel⟩,
   ⟨⟨interruptFireNode3, []⟩, ⟨63, 0, 7, 1, 0⟩, [], by decide +kernel⟩,
   ⟨⟨interruptFireNode4, []⟩, ⟨63, 0, 7, 1, 0⟩, [], by decide +kernel⟩,
   ⟨⟨interruptFireNode5, []⟩, ⟨63, 0x0F0B, 0, 0, 0⟩, [], by decide +kernel⟩,
   ⟨⟨interruptFireNode6, []⟩, ⟨63, 0x0F0B, 0, 0, 0⟩, [], by decide +kernel⟩,
   ⟨⟨interruptFireNode7, []⟩, ⟨63, 0x0F0B, 0, 0, 0⟩, [], by decide +kernel⟩,
   ⟨⟨node, []⟩, by decide +kernel⟩,
   ⟨⟨node, []⟩, by decide +kernel⟩⟩

def rxCopyAtHeadNode1 : Node := { node with cellar := { node.cellar with copies := [copy 16 7] } }
def rxCopyAtHeadNode2 : Node :=
  { ((node.wr (F.RING_CFG_SIZE.at 0) 4 |>.wr (F.RING_TAIL.at 0) 4).wr (F.RING_BUF_SIZE.at 0) 64) with cellar :=
    { node.cellar with copies := [{ copy 16 7 with casks := 12, out := { frame with len := 1518 } }] } }
def rxCopyAtHeadNode3 : Node :=
  { ((node.wr (F.RING_CFG_SIZE.at 0) 4 |>.wr (F.RING_TAIL.at 0) 0) |>.wr (F.RING_RX_WAIT.at 0) 100) with cellar :=
    { node.cellar with copies := [copy 16 7] } }
def rxCopyAtHeadNode4 : Node :=
  { ((node.wr (F.RING_CFG_SIZE.at 0) 4 |>.wr (F.RING_TAIL.at 0) 0) |>.wr (F.RING_RX_WAIT.at 0) 0) with cellar :=
    { node.cellar with copies := [copy 16 7] } }
def rxCopyAtHeadNode5 : Node :=
  { (node.wr (F.RING_CFG_SIZE.at 0) 4 |>.wr (F.RING_TAIL.at 0) 1) with cellar := { node.cellar with copies := [copy 16 7] } }
def rxWaitExpiryNode6 : Node :=
  { node with cellar := { node.cellar with copies := [copy 16 7] }, host := { node.host with rxWaits := [(7, some (copy 16 7))] } }
def rxFrameWrittenNode7 : Node :=
  { node.wr (F.RING_CFG_SIZE.at 3) 1 with host := { node.host with rxWork := [⟨3, [0], 65536, false, 7, copy 16 7⟩] } }
def ringIrqDelayExpiryNode9 : Node := node.setRing 7 fun x => { x with unreported := true }
def txWritebackNode13 : Node :=
  { node.wr (F.RING_CFG_SIZE.at 7) 1 with host :=
    { node.host with txWork := some ⟨3, [0], 65536, false, [⟨true, true, true, false, 60, none⟩], 0⟩ } }
def tailWriteNode14 : Node := node.wr (F.RING_CFG_SIZE.at 7) 4096
def tailWriteNode15 : Node := node.wr (F.RING_CFG_SIZE.at 0) 3
/-- States and operands meet the hypotheses of every clause of `Obligations.RingCommandsComplete`. -/
theorem witness_RingCommandsComplete :
  (∃ (s : State) (q : Fin 8) (c : Copy), s.node.hpUp = true ∧ s.node.headCopy 16 q.val = (s.node, some c) ∧ List.filter (fun x => x == c)
      s.node.cellar.copies = [c] ∧ s.node.rd (F.RING_CFG_SIZE.at (s.node.rxRing q.val)) = 0) ∧
  (∃ (s : State) (q : Fin 8) (c : Copy), s.node.hpUp = true ∧ s.node.headCopy 16 q.val = (s.node, some c) ∧ List.filter (fun x => x == c)
      s.node.cellar.copies = [c] ∧ s.node.rd (F.RING_CFG_SIZE.at (s.node.rxRing q.val)) ≠ 0 ∧ s.node.rd (F.RING_CFG_SIZE.at (s.node.rxRing q.val)) <
      (c.out.len - 4 + s.node.bufSize (s.node.rxRing q.val) - 1) / s.node.bufSize (s.node.rxRing q.val)) ∧
  (∃ (s : State) (q : Fin 8) (c : Copy), s.node.hpUp = true ∧ s.node.headCopy 16 q.val = (s.node, some c) ∧ List.filter (fun x => x == c)
      s.node.cellar.copies = [c] ∧ s.node.ringAvail (s.node.rxRing q.val) - (s.node.ring (s.node.rxRing q.val)).reserved < (c.out.len - 4 +
      s.node.bufSize (s.node.rxRing q.val) - 1) / s.node.bufSize (s.node.rxRing q.val) ∧ (c.out.len - 4 + s.node.bufSize (s.node.rxRing q.val) - 1)
      / s.node.bufSize (s.node.rxRing q.val) ≤ s.node.rd (F.RING_CFG_SIZE.at (s.node.rxRing q.val)) ∧ s.node.rd (F.RING_CFG_SIZE.at (s.node.rxRing
      q.val)) ≠ 0 ∧ c.queue = q.val ∧ s.node.rd (F.RING_RX_WAIT.at (s.node.rxRing q.val)) ≠ 0) ∧
  (∃ (s : State) (q : Fin 8) (c : Copy), s.node.hpUp = true ∧ s.node.headCopy 16 q.val = (s.node, some c) ∧ List.filter (fun x => x == c)
      s.node.cellar.copies = [c] ∧ s.node.ringAvail (s.node.rxRing q.val) - (s.node.ring (s.node.rxRing q.val)).reserved < (c.out.len - 4 +
      s.node.bufSize (s.node.rxRing q.val) - 1) / s.node.bufSize (s.node.rxRing q.val) ∧ (c.out.len - 4 + s.node.bufSize (s.node.rxRing q.val) - 1)
      / s.node.bufSize (s.node.rxRing q.val) ≤ s.node.rd (F.RING_CFG_SIZE.at (s.node.rxRing q.val)) ∧ s.node.rd (F.RING_CFG_SIZE.at (s.node.rxRing
      q.val)) ≠ 0 ∧ c.queue = q.val ∧ s.node.rd (F.RING_RX_WAIT.at (s.node.rxRing q.val)) = 0) ∧
  (∃ (s : State) (q : Fin 8) (c : Copy) (need : Nat), s.node.hpUp = true ∧ s.node.headCopy 16 q.val = (s.node, some c) ∧ List.filter (fun x => x
      == c) s.node.cellar.copies = [c] ∧ need = (c.out.len - 4 + s.node.bufSize (s.node.rxRing q.val) - 1) / s.node.bufSize (s.node.rxRing q.val) ∧
      s.node.rd (F.RING_CFG_SIZE.at (s.node.rxRing q.val)) ≠ 0 ∧ need ≤ s.node.rd (F.RING_CFG_SIZE.at (s.node.rxRing q.val)) ∧ need ≤
      s.node.ringAvail (s.node.rxRing q.val) - (s.node.ring (s.node.rxRing q.val)).reserved) ∧
  (∃ (s : State) (q : Fin 8) (c : Copy), s.node.rxWaiting q.val = some c ∧ c.queue = q.val ∧ List.filter (fun x => x == c) s.node.cellar.copies
      = [c]) ∧
  (∃ (s : State) (r : Fin 4) (w : RxWork) (wrap : Nat), List.find? (fun w => w.ring == r.val) s.node.host.rxWork = some w ∧ w.copy.tsReq = none
      ∧ w.detached = false ∧ (wrap = if s.node.ringWrap r.val = 0 then w.wrap else s.node.ringWrap r.val) ∧ wrap ≠ 0) ∧
  (∃ (s : State) (r : Fin 4) (w : RxWork) (wrap : Nat), List.find? (fun w => w.ring == r.val) s.node.host.rxWork = some w ∧ w.copy.tsReq = none
      ∧ w.detached = false ∧ (wrap = if s.node.ringWrap r.val = 0 then w.wrap else s.node.ringWrap r.val) ∧ wrap ≠ 0) ∧
  (∃ (s : State) (tx : Bool) (r : Fin 4), (s.node.ring (ringIx tx r.val)).unreported = true) ∧
  (∃ (s : State) (t : Nat) (descs : List TxDesc), s.node.dmaOk = true ∧ s.node.host.txWork = none ∧ s.node.host.yielded = false ∧
      s.node.txServed = some t ∧ txUnfinished (s.node.ringAvail (4 + t)) descs = true) ∧
  (∃ (s : State) (t : Nat) (descs : List TxDesc) (l : List TxDesc) (i : Nat), s.node.dmaOk = true ∧ s.node.host.txWork = none ∧
      s.node.host.yielded = false ∧ s.node.txServed = some t ∧ txUnfinished (s.node.ringAvail (4 + t)) descs = false ∧ txSpan (s.node.ringAvail (4 +
      t)) descs = (some l, i)) ∧
  (∃ (s : State) (t : Nat) (descs : List TxDesc) (i : Nat), s.node.dmaOk = true ∧ s.node.host.txWork = none ∧ s.node.host.yielded = false ∧
      s.node.txServed = some t ∧ txUnfinished (s.node.ringAvail (4 + t)) descs = false ∧ txSpan (s.node.ringAvail (4 + t)) descs = (none, i)) ∧
  (∃ (s : State) (w : TxWork), s.node.dmaOk = true ∧ s.node.host.txWork = some w ∧ w.detached = false ∧ s.node.ringWrap (4 + w.ring) ≠ 0) ∧
  (∃ (s : State) (by_ : Initiator) (tx : Bool) (r : Fin 4) (v : Half) (k : Nat), s.node.Reaches by_ 10 ∧ k = ringIx tx r.val ∧ (tx = false →
      s.node.host.rxWaits = []) ∧ BitVec.toNat v < s.node.ringWrap k ∧ (BitVec.toNat v + s.node.ringWrap k - s.node.rd (F.RING_HEAD.at k)) %
      s.node.ringWrap k ≤ s.node.rd (F.RING_CFG_SIZE.at k) ∧ (s.node.ring k).reserved ≤ (BitVec.toNat v + s.node.ringWrap k - s.node.rd
      (F.RING_HEAD.at k)) % s.node.ringWrap k) ∧
  (∃ (s : State) (by_ : Initiator) (tx : Bool) (r : Fin 4) (v : Half) (k : Nat), s.node.Reaches by_ 10 ∧ k = ringIx tx r.val ∧ (tx = false →
      s.node.host.rxWaits = []) ∧ s.node.ringWrap k ≤ BitVec.toNat v) ∧
  (∃ (s : State) (by_ : Initiator) (tx : Bool) (r : Fin 4) (v : Half) (k : Nat), s.node.Reaches by_ 10 ∧ k = ringIx tx r.val ∧ (tx = false →
      s.node.host.rxWaits = []) ∧ BitVec.toNat v ≤ 4096 ∧ s.node.rd (F.RING_CFG_SIZE.at k) = 0 ∧ v ≠ 0#16) ∧
  (∃ (s : State) (by_ : Initiator) (tx : Bool) (r : Fin 4) (v : Half) (k : Nat), s.node.Reaches by_ 10 ∧ k = ringIx tx r.val ∧ (tx = false →
      s.node.host.rxWaits = []) ∧ 4096 < BitVec.toNat v) :=
  ⟨
   ⟨⟨rxCopyAtHeadNode1, []⟩, 7, copy 16 7, by decide +kernel⟩,
   ⟨⟨rxCopyAtHeadNode2, []⟩, 7, { copy 16 7 with casks := 12, out := { frame with len := 1518 } }, by decide +kernel⟩,
   ⟨⟨rxCopyAtHeadNode3, []⟩, 7, copy 16 7, by decide +kernel⟩,
   ⟨⟨rxCopyAtHeadNode4, []⟩, 7, copy 16 7, by decide +kernel⟩,
   ⟨⟨rxCopyAtHeadNode5, []⟩, 7, copy 16 7, 1, by decide +kernel⟩,
   ⟨⟨rxWaitExpiryNode6, []⟩, 7, copy 16 7, by decide +kernel⟩,
   ⟨⟨rxFrameWrittenNode7, []⟩, 3, ⟨3, [0], 65536, false, 7, copy 16 7⟩, 65536, by decide +kernel⟩,
   ⟨⟨rxFrameWrittenNode7, []⟩, 3, ⟨3, [0], 65536, false, 7, copy 16 7⟩, 65536, by decide +kernel⟩,
   ⟨⟨ringIrqDelayExpiryNode9, []⟩, true, 3, by decide +kernel⟩,
   ⟨⟨deviceReadTimeoutNode17, []⟩, 3, [⟨true, true, false, false, 60, none⟩], by decide +kernel⟩,
   ⟨⟨deviceReadTimeoutNode17, []⟩, 3, [⟨true, true, true, false, 60, none⟩], [⟨true, true, true, false, 60, none⟩], 0, by decide +kernel⟩,
   ⟨⟨deviceReadTimeoutNode17, []⟩, 3, [⟨false, true, true, false, 60, none⟩], 0, by decide +kernel⟩,
   ⟨⟨txWritebackNode13, []⟩, ⟨3, [0], 65536, false, [⟨true, true, true, false, 60, none⟩], 0⟩, by decide +kernel⟩,
   ⟨⟨tailWriteNode14, []⟩, .host, true, 3, 4096#16, 7, by unfold Node.Reaches; decide +kernel⟩,
   ⟨⟨tailWriteNode15, []⟩, .host, false, 0, 65535#16, 0, by unfold Node.Reaches; decide +kernel⟩,
   ⟨⟨node, []⟩, .host, true, 0, 4096#16, 4, by unfold Node.Reaches; decide +kernel⟩,
   ⟨⟨node, []⟩, .host, false, 3, 4097#16, 3, by unfold Node.Reaches; decide +kernel⟩⟩

def outUpdateNode1 : Node := due 5 0
def outHoldExpiryNode2 : Node := { node with outs := { node.outs with holdRuns := true, row1 := false } }
/-- States and operands meet the hypotheses of every clause of `Obligations.OutputUpdatesComplete`. -/
theorem witness_OutputUpdatesComplete :
  (∃ (s : State) (entry : Nat), s.node.due entry 5 = true ∧ s.node.pair.breakHold = false) ∧
  (∃ (s : State), s.node.outs.holdRuns = true ∧ s.node.outs.row1 = false ∧ s.node.pair.breakHold = false) :=
  ⟨
   ⟨⟨outUpdateNode1, []⟩, 0, by decide +kernel⟩,
   ⟨⟨outHoldExpiryNode2, []⟩, by decide +kernel⟩⟩

def inrushWindowCloseNode1 : Node :=
  { node with outs := { node.outs with row1 := false, channels := [(23, { channelDefault 0 with on := true, seq := .inrush })] } }
def retryAttemptFailNode3 : Node :=
  { node with outs :=
    { node.outs with row1 := false, channels := [(23, { channelDefault 0 with on := true, legacy := true, seq := .retry false, retryLeft := 1 })] } }
def retryAttemptFailNode4 : Node :=
  { node with outs :=
    { node.outs with row1 := false, channels := [(23, { channelDefault 0 with on := true, legacy := true, seq := .retry false })] } }
def retryStartNode5 : Node :=
  { node with outs := { node.outs with row1 := false, channels := [(23, { channelDefault 0 with seq := .retry true, retryLeft := 1 })] } }
def retryWindowCloseNode6 : Node :=
  { node with outs := { node.outs with row1 := false, channels := [(23, { channelDefault 0 with seq := .retry false })] } }
def retryWindowCloseNode7 : Node :=
  { node with outs := { node.outs with row1 := false, channels := [(23, { channelDefault 0 with seq := .retry true })] } }
def thermalLatchSetNode8 : Node := { node with outs := { node.outs with row1 := false, channels := [(0, { channelDefault 0 with on := true })] } }
def thermalLatchReleaseNode9 : Node :=
  { node with outs := { node.outs with row1 := false, channels := [(0, { channelDefault 0 with therm := true })] } }
def outCmdClearClampNode10 : Node :=
  { node with outs := { node.outs with row1 := false, channels := [(23, { channelDefault 0 with clampLock := true })] } }
def outCmdClearClampNode11 : Node :=
  { node with outs :=
    { node.outs with row1 := false, channels := [(0, { channelDefault 0 with clampLock := true, bucket := bucketCapacity 0 / 4 })] } }
def outCmdClearInrushNode12 : Node :=
  { node with outs := { node.outs with row1 := false, channels := [(23, { channelDefault 0 with inrushFail := true })] } }
def outCmdClearShedNode13 : Node :=
  { node with outs := { node.outs with row1 := false, channels := [(23, { channelDefault 0 with shed := true })] } }
def outCmdClearShedNode14 : Node :=
  { { node with outs := { node.outs with row1 := false, channels := [(23, { channelDefault 0 with shed := true })] } } with outs :=
    { ({ node with outs := { node.outs with row1 := false, channels := [(23, { channelDefault 0 with shed := true })] } }).outs with shedConds := 1 } }
def openLoadDetectNode15 : Node :=
  { node.setting (F.CH_CFG_OL_TH.at 23) 1 with outs :=
    { node.outs with row1 := false, channels := [(23, { channelDefault 0 with on := true })] } }
def openLoadClearNode16 : Node := { node with outs := { node.outs with row1 := false, channels := [(23, { channelDefault 0 with on := true })] } }
def loadShedNode19 : Node :=
  { node.setting (F.CH_CFG_SHED_PRIO.at 12) 7 with outs :=
    { node.outs with row1 := false, channels := [(12, { channelDefault 0 with on := true })] } }
def loadShedNode21 : Node := { node with outs := { node.outs with shedConds := 15 } }
/-- States and operands meet the hypotheses of every clause of `Obligations.ChannelProtectionCompletes`. -/
theorem witness_ChannelProtectionCompletes :
  (∃ (s : State) (c : Fin 24), (s.node.chan c.val).seq = ChanSeq.inrush ∧ (s.node.chan c.val).therm = false) ∧
  (∃ (s : State) (c : Fin 24), (s.node.chan c.val).seq = ChanSeq.inrush ∧ s.node.conducts c.val = true ∧ s.node.noSupply c.val = false) ∧
  (∃ (s : State) (c : Fin 24) (e : Nat), (s.node.chan c.val).legacy = true ∧ s.node.conducts c.val = true ∧ (s.node.chan c.val).seq =
      ChanSeq.retry false ∧ (s.node.chan c.val).settled = false ∧ ((s.node.addEnergy (c.val) e).chan c.val).clampLock = false ∧ (s.node.chan
      c.val).retryLeft ≠ 0) ∧
  (∃ (s : State) (c : Fin 24) (e : Nat), (s.node.chan c.val).legacy = true ∧ s.node.conducts c.val = true ∧ (s.node.chan c.val).seq =
      ChanSeq.retry false ∧ (s.node.chan c.val).settled = false ∧ ((s.node.addEnergy (c.val) e).chan c.val).clampLock = false ∧ (s.node.chan
      c.val).retryLeft = 0) ∧
  (∃ (s : State) (c : Fin 24), (s.node.chan c.val).seq = ChanSeq.retry true ∧ (s.node.chan c.val).therm = false ∧ (s.node.chan c.val).retryLeft
      ≠ 0) ∧
  (∃ (s : State) (c : Fin 24), (s.node.chan c.val).seq = ChanSeq.retry false ∧ (s.node.chan c.val).therm = false) ∧
  (∃ (s : State) (c : Fin 24), (s.node.chan c.val).seq = ChanSeq.retry true) ∧
  (∃ (s : State) (c : Fin 24) (dt : Int) (tj : Int), s.node.conducts c.val = true ∧ (s.node.chan c.val).therm = false ∧ (↑(s.node.cf
      F.OUT_CFG_TH_DIFF) ≤ dt ∨ 175 ≤ tj)) ∧
  (∃ (s : State) (c : Fin 24) (dt : Int) (tj : Int), (s.node.chan c.val).therm = true ∧ dt ≤ ↑(s.node.cf F.OUT_CFG_TH_DIFF) - 15 ∧ tj ≤ 160) ∧
  (∃ (s : State) (c : Fin 24) (by_ : Initiator), s.node.Reaches by_ 11 ∧ (s.node.chan c.val).clampLock = true ∧ s.node.bucketNow c.val * 4 <
      bucketCapacity c.val) ∧
  (∃ (s : State) (c : Fin 24) (by_ : Initiator), s.node.Reaches by_ 11 ∧ (s.node.chan c.val).clampLock = true ∧ bucketCapacity c.val ≤
      s.node.bucketNow c.val * 4) ∧
  (∃ (s : State) (c : Fin 24) (by_ : Initiator), s.node.Reaches by_ 11 ∧ (s.node.chan c.val).inrushFail = true) ∧
  (∃ (s : State) (c : Fin 24) (by_ : Initiator), s.node.Reaches by_ 11 ∧ (s.node.chan c.val).shed = true ∧ s.node.outs.shedConds.getLsbD
      (s.node.chan c.val).shedBy = false) ∧
  (∃ (s : State) (c : Fin 24) (by_ : Initiator), s.node.Reaches by_ 11 ∧ (s.node.chan c.val).shed = true ∧ s.node.outs.shedConds.getLsbD
      (s.node.chan c.val).shedBy = true) ∧
  (∃ (s : State) (c : Fin 24), s.node.conducts c.val = true ∧ (s.node.chan c.val).openLoad = false ∧ (s.node.chan c.val).seq ≠ ChanSeq.inrush ∧
      s.node.lowSupply c.val = false ∧ s.node.cf (F.CH_CFG_OL_TH.at c.val) ≠ 0) ∧
  (∃ (s : State) (c : Fin 24), s.node.conducts c.val = true) ∧
  (∃ (s : State) (c : Fin 24), s.node.powered = true ∧ s.node.conducts c.val = false ∧ (s.node.chan c.val).stb = false ∧ s.node.cfBit
      (F.CH_CFG_PAIRED.at c.val) = false) ∧
  (∃ (s : State) (c : Fin 24) (cond : Fin 4) (interval : List LoadSample) (p : Nat), s.node.overLimit (cond.val) interval = true ∧
      s.node.shedPriority cond.val = some p ∧ shedConcerns cond.val c.val = true ∧ s.node.conducts c.val = true ∧ s.node.cf (F.CH_CFG_SHED_PRIO.at
      c.val) = p) ∧
  (∃ (s : State) (cond : Fin 4) (interval : List LoadSample), s.node.overLimit (cond.val) interval = true ∧ s.node.shedPriority cond.val = none) ∧
  (∃ (s : State) (cond : Fin 4) (interval : List LoadSample), s.node.overLimit (cond.val) interval = false) :=
  ⟨
   ⟨⟨inrushWindowCloseNode1, []⟩, 23, by decide +kernel⟩,
   ⟨⟨inrushWindowCloseNode1, []⟩, 23, by decide +kernel⟩,
   ⟨⟨retryAttemptFailNode3, []⟩, 23, 0, by decide +kernel⟩,
   ⟨⟨retryAttemptFailNode4, []⟩, 23, 0, by decide +kernel⟩,
   ⟨⟨retryStartNode5, []⟩, 23, by decide +kernel⟩,
   ⟨⟨retryWindowCloseNode6, []⟩, 23, by decide +kernel⟩,
   ⟨⟨retryWindowCloseNode7, []⟩, 23, by decide +kernel⟩,
   ⟨⟨thermalLatchSetNode8, []⟩, 0, 0, 175, by decide +kernel⟩,
   ⟨⟨thermalLatchReleaseNode9, []⟩, 0, 0, 160, by decide +kernel⟩,
   ⟨⟨outCmdClearClampNode10, []⟩, 23, .host, by unfold Node.Reaches; decide +kernel⟩,
   ⟨⟨outCmdClearClampNode11, []⟩, 0, .host, by unfold Node.Reaches; decide +kernel⟩,
   ⟨⟨outCmdClearInrushNode12, []⟩, 23, .host, by unfold Node.Reaches; decide +kernel⟩,
   ⟨⟨outCmdClearShedNode13, []⟩, 23, .host, by unfold Node.Reaches; decide +kernel⟩,
   ⟨⟨outCmdClearShedNode14, []⟩, 23, .host, by unfold Node.Reaches; decide +kernel⟩,
   ⟨⟨openLoadDetectNode15, []⟩, 23, by decide +kernel⟩,
   ⟨⟨openLoadClearNode16, []⟩, 23, by decide +kernel⟩,
   ⟨⟨node, []⟩, 23, by decide +kernel⟩,
   ⟨⟨loadShedNode19, []⟩, 12, 1, [⟨[(12, ⟨false, 40000001, 0, 0, 0⟩)], 24000, 24000⟩], 7, by decide +kernel⟩,
   ⟨⟨node, []⟩, 1, [⟨[(12, ⟨false, 40000001, 0, 0, 0⟩)], 24000, 24000⟩], by decide +kernel⟩,
   ⟨⟨loadShedNode21, []⟩, 2, [⟨[(12, ⟨false, 40000001, 0, 0, 0⟩)], 24000, 24000⟩], by decide +kernel⟩⟩

def lampPwmPeriodNode5 : Node := node.setting (F.CH_CFG_LAMP.at 23) 1
def inputSampleNode6 : Node := ((node.setting (F.DI_CFG_WET_EN.at 0) 1).setting (F.DI_CFG_FILT.at 0) 1).setting (F.DI_CFG_RANGE110.at 0) 1
/-- States and operands meet the hypotheses of every clause of `Obligations.SupplyAndInputCommandsComplete`. -/
theorem witness_SupplyAndInputCommandsComplete :
  (∃ (s : State) (a : Bool), s.node.powered = true ∧ (s.node.bit (if a = true then F.OUT_STATUS_LOW_A else F.OUT_STATUS_LOW_B) = false)) ∧
  (∃ (s : State), s.node.powered = true) ∧
  (∃ (s : State) (l : Fin 4), s.node.powered = true ∧ s.node.cfBit (F.CH_CFG_LAMP.at (20 + l.val)) = true) ∧
  (∃ (s : State), s.node.powered = true) :=
  ⟨
   ⟨⟨node, []⟩, true, by decide +kernel⟩,
   ⟨⟨node, []⟩, by decide +kernel⟩,
   ⟨⟨lampPwmPeriodNode5, []⟩, 3, by decide +kernel⟩,
   ⟨⟨inputSampleNode6, []⟩, by decide +kernel⟩⟩

def claimTimeoutNode1 : Node := pairNode 1
def claimRetryDelayNode2 : Node := pairNode 2
def claimWatchEndNode3 : Node := { pairNode 2 with pair := { node.pair with enabled := true, claimWatch := true } }
def claimWatchEndNode4 : Node := { pairNode 2 with pair := { node.pair with enabled := true, claimWatch := true, actsAs := 1 } }
def claimWatchEndNode6 : Node :=
  ({ pairNode 2 with pair := { node.pair with enabled := true, claimWatch := true, sameUnit := true } }).wr F.RED_STATUS_RACK_UP 0
def corkRenewalTxNode7 : Node := (pairNode 3).wr F.TRL_STATUS_RUNNING 1
def corkRenewalTxNode8 : Node :=
  ((pairNode 3).wr F.RED_STATUS_HOLD_IN_B 1).wr F.TRL_STATUS_RUNNING 1 |> fun n => { n with pair := { n.pair with actsAs := 1 } }
def renewalReceivedNode9 : Node := pairNode 4
def holdOutReleaseNode11 : Node := pairNode 3
def holdInChangeNode15 : Node := ({ pairNode 3 with pair := { node.pair with enabled := true, actsAs := 1 } }).wr F.RED_STATUS_HOLD_OUT 1
def holdDisagreeNode16 : Node := (pairNode 3).wr F.RED_STATUS_HOLD_IN_B 1
def takeoverNode17 : Node := { pairNode 4 with pair := { node.pair with enabled := true, resigned := true } }
def breakInstantNode19 : Node := { pairNode 4 with pair := { node.pair with enabled := true, breakHold := true } }
def swapIntervalExpiryNode23 : Node := (pairNode 3).setting F.PAIR_CFG_SWAP_H 1
/-- States and operands meet the hypotheses of every clause of `Obligations.RoleCommandsComplete`. -/
theorem witness_RoleCommandsComplete :
  (∃ (s : State), s.node.running = true ∧ s.node.rd F.RED_STATUS_STATE = 1) ∧
  (∃ (s : State), s.node.rd F.RED_STATUS_STATE = 2) ∧
  (∃ (s : State), s.node.rd F.RED_STATUS_STATE = 2 ∧ s.node.pair.claimWatch = true) ∧
  (∃ (s : State) (same : Bool), s.node.rd F.RED_STATUS_STATE = 2 ∧ s.node.pair.claimWatch = true ∧ (same = false ∨ s.node.pair.sameUnit = true)
      ∧ (s.node.bit F.RED_STATUS_RACK_UP = true ∨ s.node.pair.sameUnit = false) ∧ s.node.unit = 1) ∧
  (∃ (s : State) (same : Bool), s.node.rd F.RED_STATUS_STATE = 2 ∧ s.node.pair.claimWatch = true ∧ (same = false ∨ s.node.pair.sameUnit = true)
      ∧ (s.node.bit F.RED_STATUS_RACK_UP = true ∨ s.node.pair.sameUnit = false) ∧ s.node.unit ≠ 1) ∧
  (∃ (s : State) (same : Bool), s.node.rd F.RED_STATUS_STATE = 2 ∧ s.node.pair.claimWatch = true ∧ (same = true ∨ s.node.pair.sameUnit = true) ∧
      s.node.bit F.RED_STATUS_RACK_UP = false) ∧
  (∃ (s : State), s.node.pairActive = true ∧ (s.node.bit F.TRL_STATUS_RUNNING = true ∨ s.node.power = Power.dormEntry) ∧ s.node.supply.firmware
      = true ∧ s.node.supply.halted = false ∧ (s.node.holdSeen = false ∨ s.node.unit ≠ 1)) ∧
  (∃ (s : State), s.node.pairActive = true ∧ (s.node.bit F.TRL_STATUS_RUNNING = true ∨ s.node.power = Power.dormEntry) ∧ s.node.supply.firmware
      = true ∧ s.node.supply.halted = false ∧ s.node.holdSeen = true ∧ s.node.unit = 1) ∧
  (∃ (s : State), s.node.running = true ∧ s.node.bit F.RED_STATUS_RACK_UP = true ∧ s.node.standby = true) ∧
  (∃ (s : State), s.node.running = true ∧ s.node.bit F.RED_STATUS_RACK_UP = true ∧ s.node.rd F.RED_STATUS_STATE = 1) ∧
  (∃ (s : State), s.node.pairActive = true) ∧
  (∃ (s : State), s.node.standby = true) ∧
  (∃ (s : State) (low : Bool), s.node.powered = true ∧ s.node.islandDown 5 = false ∧ (low = false ∨ s.node.running = false)) ∧
  (∃ (s : State) (low : Bool), s.node.powered = true ∧ s.node.islandDown 5 = false ∧ low = true ∧ s.node.running = true ∧ s.node.rd
      F.RED_STATUS_STATE = 1) ∧
  (∃ (s : State) (low : Bool), s.node.powered = true ∧ s.node.islandDown 5 = false ∧ low = true ∧ s.node.running = true ∧ s.node.pairActive =
      true ∧ s.node.bit F.RED_STATUS_HOLD_OUT = true ∧ s.node.unit = 1) ∧
  (∃ (s : State), s.node.pair.enabled = true ∧ s.node.bit F.RED_STATUS_HOLD_IN_A ≠ s.node.bit F.RED_STATUS_HOLD_IN_B ∧ ¬(3077, 0) ∈ s.node.runs) ∧
  (∃ (s : State), s.node.standby = true ∧ s.node.running = true ∧ (s.node.pair.resigned = true ∨ s.node.pair.leaseExpired = true ∧
      s.node.holdSeen = false)) ∧
  (∃ (s : State), s.node.standby = true ∧ s.node.bit F.RED_STATUS_RACK_UP = true) ∧
  (∃ (s : State), s.node.pair.breakHold = true) ∧
  (∃ (s : State) (by_ : Initiator), s.node.Reaches by_ 12 ∧ s.node.running = true ∧ s.node.pairActive = true) ∧
  (∃ (s : State) (by_ : Initiator), s.node.Reaches by_ 12 ∧ s.node.running = true ∧ s.node.pairActive = true) ∧
  (∃ (s : State) (by_ : Initiator), s.node.Reaches by_ 12 ∧ s.node.running = true ∧ s.node.standby = true) ∧
  (∃ (s : State), s.node.running = true ∧ s.node.pairActive = true ∧ s.node.cf F.PAIR_CFG_SWAP_H ≠ 0) :=
  ⟨
   ⟨⟨claimTimeoutNode1, []⟩, by decide +kernel⟩,
   ⟨⟨claimRetryDelayNode2, []⟩, by decide +kernel⟩,
   ⟨⟨claimWatchEndNode3, []⟩, by decide +kernel⟩,
   ⟨⟨claimWatchEndNode4, []⟩, false, by decide +kernel⟩,
   ⟨⟨claimWatchEndNode3, []⟩, false, by decide +kernel⟩,
   ⟨⟨claimWatchEndNode6, []⟩, true, by decide +kernel⟩,
   ⟨⟨corkRenewalTxNode7, []⟩, by decide +kernel⟩,
   ⟨⟨corkRenewalTxNode8, []⟩, by decide +kernel⟩,
   ⟨⟨renewalReceivedNode9, []⟩, by decide +kernel⟩,
   ⟨⟨claimTimeoutNode1, []⟩, by decide +kernel⟩,
   ⟨⟨holdOutReleaseNode11, []⟩, by decide +kernel⟩,
   ⟨⟨renewalReceivedNode9, []⟩, by decide +kernel⟩,
   ⟨⟨claimTimeoutNode1, []⟩, false, by decide +kernel⟩,
   ⟨⟨claimTimeoutNode1, []⟩, true, by decide +kernel⟩,
   ⟨⟨holdInChangeNode15, []⟩, true, by decide +kernel⟩,
   ⟨⟨holdDisagreeNode16, []⟩, by decide +kernel⟩,
   ⟨⟨takeoverNode17, []⟩, by decide +kernel⟩,
   ⟨⟨renewalReceivedNode9, []⟩, by decide +kernel⟩,
   ⟨⟨breakInstantNode19, []⟩, by decide +kernel⟩,
   ⟨⟨holdOutReleaseNode11, []⟩, .host, by unfold Node.Reaches; decide +kernel⟩,
   ⟨⟨holdOutReleaseNode11, []⟩, .host, by unfold Node.Reaches; decide +kernel⟩,
   ⟨⟨renewalReceivedNode9, []⟩, .host, by unfold Node.Reaches; decide +kernel⟩,
   ⟨⟨swapIntervalExpiryNode23, []⟩, by decide +kernel⟩⟩

def rackLinkUpNode2 : Node := (pairNode 4).wr F.RED_STATUS_RACK_UP 0
def rackFrameReceivedNode4 : Node := { pairNode 4 with pair := { node.pair with enabled := true, frames := [(0, [])] } }
def deltaAppliedNode6 : Node :=
  { pairNode 4 with pair := { node.pair with enabled := true, frames := [(0, [(0x2000000, 5#32)])], lastSeen := some 0 } }
def bulkRackingDoneNode7 : Node := { pairNode 4 with pair := { node.pair with enabled := true, bulk := true } }
def rackControlWordNode13 : Node := { pairNode 3 with pair := { node.pair with enabled := true, lastDelta := some (7, [(0x2000000, 5#32)]) } }
def rackControlWordNode16 : Node := { pairNode 4 with power := .dormEntry, supply := { node.supply with dormStep := 4 } }
def digestCompareNode17 : Node := { pairNode 4 with pair := { node.pair with enabled := true, digests := [(8191, 5#64)], skip := 1 } }
def digestCompareNode18 : Node := { pairNode 4 with pair := { node.pair with enabled := true, digests := [(8191, 5#64)] } }
/-- States and operands meet the hypotheses of every clause of `Obligations.RackingCommandsComplete`. -/
theorem witness_RackingCommandsComplete :
  (∃ (s : State), s.node.bit F.RED_STATUS_RACK_UP = true) ∧
  (∃ (s : State), s.node.powered = true ∧ s.node.islandDown 5 = false ∧ s.node.pair.enabled = true ∧ s.node.bit F.RED_STATUS_RACK_UP = false) ∧
  (∃ (s : State), s.node.standby = true ∧ s.node.bit F.RED_STATUS_RACK_UP = true) ∧
  (∃ (s : State) (seq : Nat), s.node.standby = true ∧ s.node.bit F.RED_STATUS_RACK_UP = true ∧ (s.node.pair.frames.any fun f => f.fst == seq) =
      false) ∧
  (∃ (s : State) (g : Nat), s.node.standby = true ∧ s.node.bit F.RED_STATUS_RACK_UP = true ∧ groupExists g = true) ∧
  (∃ (s : State), s.node.standby = true ∧ s.node.deltaComplete = true) ∧
  (∃ (s : State), s.node.standby = true ∧ s.node.pair.bulk = true ∧ s.node.bit F.RED_STATUS_RACK_UP = true ∧ s.node.bit F.RED_STATUS_COMPAT =
      true) ∧
  (∃ (s : State) (p : Fin 4) (up : Bool), s.node.bit F.RED_STATUS_RACK_UP = true ∧ s.node.physical p.val = false ∧ s.node.linkUp p.val ≠ up) ∧
  (∃ (s : State), s.node.bit F.RED_STATUS_RACK_UP = true) ∧
  (∃ (s : State), s.node.bit F.RED_STATUS_RACK_UP = true) ∧
  (∃ (s : State), s.node.bit F.RED_STATUS_RACK_UP = true) ∧
  (∃ (s : State), s.node.bit F.RED_STATUS_RACK_UP = true ∧ s.node.pairActive = true) ∧
  (∃ (s : State) (idx : Nat) (cells : List (Nat × Word)), s.node.bit F.RED_STATUS_RACK_UP = true ∧ s.node.pairActive = true ∧
      s.node.pair.lastDelta = some (idx, cells)) ∧
  (∃ (s : State), s.node.bit F.RED_STATUS_RACK_UP = true ∧ s.node.standby = true) ∧
  (∃ (s : State), s.node.bit F.RED_STATUS_RACK_UP = true ∧ s.node.standby = true ∧ s.node.power = Power.run) ∧
  (∃ (s : State), s.node.bit F.RED_STATUS_RACK_UP = true ∧ s.node.power = Power.dormEntry ∧ s.node.supply.dormStep < 5 ∧ s.node.supply.dormAbort
      = false) ∧
  (∃ (s : State) (cycle : BitVec 13) (own : DWord) (k : Nat), List.find? (fun x => x.fst == cycle.toNat) s.node.pair.digests = some (k, own) ∧
      s.node.bit F.RED_STATUS_RACK_UP = true ∧ (s.node.pairActive = true ∨ s.node.standby = true) ∧ s.node.pair.skip ≠ 0) ∧
  (∃ (s : State) (cycle : BitVec 13) (own : DWord) (partner : DWord) (k : Nat), List.find? (fun x => x.fst == cycle.toNat) s.node.pair.digests =
      some (k, own) ∧ s.node.bit F.RED_STATUS_RACK_UP = true ∧ (s.node.pairActive = true ∨ s.node.standby = true) ∧ s.node.pair.skip = 0 ∧ own =
      partner) ∧
  (∃ (s : State) (cycle : BitVec 13) (own : DWord) (partner : DWord) (k : Nat), List.find? (fun x => x.fst == cycle.toNat) s.node.pair.digests =
      some (k, own) ∧ s.node.bit F.RED_STATUS_RACK_UP = true ∧ (s.node.pairActive = true ∨ s.node.standby = true) ∧ s.node.pair.skip = 0 ∧ own ≠
      partner) :=
  ⟨
   ⟨⟨renewalReceivedNode9, []⟩, by decide +kernel⟩,
   ⟨⟨rackLinkUpNode2, []⟩, by decide +kernel⟩,
   ⟨⟨renewalReceivedNode9, []⟩, by decide +kernel⟩,
   ⟨⟨rackFrameReceivedNode4, []⟩, 1, by decide +kernel⟩,
   ⟨⟨renewalReceivedNode9, []⟩, 0x30, by decide +kernel⟩,
   ⟨⟨deltaAppliedNode6, []⟩, by decide +kernel⟩,
   ⟨⟨bulkRackingDoneNode7, []⟩, by decide +kernel⟩,
   ⟨⟨renewalReceivedNode9, []⟩, 1, true, by decide +kernel⟩,
   ⟨⟨renewalReceivedNode9, []⟩, by decide +kernel⟩,
   ⟨⟨renewalReceivedNode9, []⟩, by decide +kernel⟩,
   ⟨⟨claimTimeoutNode1, []⟩, by decide +kernel⟩,
   ⟨⟨holdOutReleaseNode11, []⟩, by decide +kernel⟩,
   ⟨⟨rackControlWordNode13, []⟩, 7, [(0x2000000, 5#32)], by decide +kernel⟩,
   ⟨⟨renewalReceivedNode9, []⟩, by decide +kernel⟩,
   ⟨⟨renewalReceivedNode9, []⟩, by decide +kernel⟩,
   ⟨⟨rackControlWordNode16, []⟩, by decide +kernel⟩,
   ⟨⟨digestCompareNode17, []⟩, 8191#13, 5#64, 8191, by decide +kernel⟩,
   ⟨⟨digestCompareNode18, []⟩, 8191#13, 5#64, 5#64, 8191, by decide +kernel⟩,
   ⟨⟨digestCompareNode18, []⟩, 8191#13, 5#64, 6#64, 8191, by decide +kernel⟩⟩

def odReadNode1 : Node := { node.setting F.OD_COMID 1 with vnt := { node.vnt with sessions := [{ newSession (.trdp 1#32) with role := 0 }] } }
def odReadNode2 : Node := { node.setting F.OD_COMID 1 with vnt := { node.vnt with sessions := [{ newSession (.trdp 1#32) with role := 2 }] } }
def odNextSegmentNode16 : Node :=
  { node.setting F.OD_COMID 1 with vnt :=
    { node.vnt with sessions := [{ newSession (.trdp 1#32) with role := 2 }], transfers := [⟨.trdp 1#32, 0x2000, 1, false, 2, [1], true, false⟩] } }
def odNextSegmentNode17 : Node :=
  { node.setting F.OD_COMID 1 with vnt :=
    { node.vnt with sessions := [{ newSession (.trdp 1#32) with role := 2 }], transfers := [⟨.trdp 1#32, 0x2000, 1, true, 2, [1], true, false⟩] } }
def odReadNode20 : Node :=
  { ((((node.wr (F.PRESS_STATE_STATE.at 5) 2).setting (F.PRESS_CFG_IMAGE.at 5) 8).setting (F.PRESS_CFG_ROLE.at 5) 3).putForce 0x100060
    0x11111111#32) with vnt := { node.vnt with t15Map := [(7, some (0x1018, 1))] } }
/-- States and operands meet the hypotheses of every clause of `Obligations.ObjectAccessesComplete`. -/
theorem witness_ObjectAccessesComplete :
  (∃ (s : State) (p : Path) (index : Half) (sub : Byte) (regs : Option (Half × Half)) (wreg : Option Half) (e : OdEntry), pathBox p = none ∧
      s.node.Serves p (BitVec.toNat index) ∧ (regs = none ∨ pathKind p ≠ 4) ∧ (wreg = none ∨ pathKind p ≠ 4) ∧ s.node.odEntry (BitVec.toNat index)
      (BitVec.toNat sub) = Except.ok e ∧ s.node.readAbort p e = none ∧ s.node.entryHeld e = false ∧ index ≠ 7936 ∧ index ≠ 12080) ∧
  (∃ (s : State) (p : Path) (index : Half) (sub : Byte) (regs : Option (Half × Half)) (wreg : Option Half) (e : OdEntry) (a : Nat), pathBox p =
      none ∧ s.node.Serves p (BitVec.toNat index) ∧ (regs = none ∨ pathKind p ≠ 4) ∧ (wreg = none ∨ pathKind p ≠ 4) ∧ s.node.odEntry (BitVec.toNat
      index) (BitVec.toNat sub) = Except.ok e ∧ a ≠ 0 ∧ s.node.readAbort p e = some a) ∧
  (∃ (s : State) (p : Path) (index : Half) (sub : Byte) (regs : Option (Half × Half)) (wreg : Option Half) (e : OdEntry), pathBox p = none ∧
      s.node.Serves p (BitVec.toNat index) ∧ (regs = none ∨ pathKind p ≠ 4) ∧ (wreg = none ∨ pathKind p ≠ 4) ∧ s.node.odEntry (BitVec.toNat index)
      (BitVec.toNat sub) = Except.ok e) ∧
  (∃ (s : State) (p : Path) (index : Half) (sub : Byte) (regs : Option (Half × Half)) (wreg : Option Half) (e : OdEntry) (seg : List Byte) (a :
      Nat), pathBox p = none ∧ s.node.Serves p (BitVec.toNat index) ∧ (regs = none ∨ pathKind p ≠ 4) ∧ (wreg = none ∨ pathKind p ≠ 4) ∧
      s.node.odEntry (BitVec.toNat index) (BitVec.toNat sub) = Except.ok e ∧ isResponse (BitVec.toNat index) (BitVec.toNat sub) = false ∧ a ≠ 0 ∧
      s.node.writeAbort p (BitVec.toNat index) (BitVec.toNat sub) e seg.length = some a) ∧
  (∃ (s : State) (p : Path) (index : Half) (sub : Byte) (regs : Option (Half × Half)) (wreg : Option Half) (e : OdEntry) (seg : List Byte) (f :
      Field), pathBox p = none ∧ s.node.Serves p (BitVec.toNat index) ∧ (regs = none ∨ pathKind p ≠ 4) ∧ (wreg = none ∨ pathKind p ≠ 4) ∧
      s.node.odEntry (BitVec.toNat index) (BitVec.toNat sub) = Except.ok e ∧ isResponse (BitVec.toNat index) (BitVec.toNat sub) = false ∧ e.back =
      OdBack.shadow f ∧ s.node.writeAbort p (BitVec.toNat index) (BitVec.toNat sub) e seg.length = none ∧ inRange (BitVec.toNat index) (BitVec.toNat
      sub) e seg = true ∧ s.node.transferElsewhere p (BitVec.toNat index) (BitVec.toNat sub) = false ∧ s.node.dirty (groupOf f.addr) = false ∧
      s.node.goRefusal (groupOf f.addr) = none) ∧
  (∃ (s : State) (p : Path) (index : Half) (sub : Byte) (regs : Option (Half × Half)) (wreg : Option Half) (e : OdEntry) (seg : List Byte)
      (total : Nat), pathBox p = none ∧ s.node.Serves p (BitVec.toNat index) ∧ (regs = none ∨ pathKind p ≠ 4) ∧ (wreg = none ∨ pathKind p ≠ 4) ∧
      s.node.odEntry (BitVec.toNat index) (BitVec.toNat sub) = Except.ok e ∧ isResponse (BitVec.toNat index) (BitVec.toNat sub) = false ∧
      s.node.writeAbort p (BitVec.toNat index) (BitVec.toNat sub) e total = none ∧ s.node.transferElsewhere p (BitVec.toNat index) (BitVec.toNat
      sub) = false ∧ seg.length < total) ∧
  (∃ (s : State) (p : Path) (index : Half) (sub : Byte) (regs : Option (Half × Half)) (wreg : Option Half) (a : Nat), pathBox p = none ∧
      s.node.Serves p (BitVec.toNat index) ∧ (regs = none ∨ pathKind p ≠ 4) ∧ (wreg = none ∨ pathKind p ≠ 4) ∧ a ≠ 0 ∧ s.node.odEntry (BitVec.toNat
      index) (BitVec.toNat sub) = Except.error a) ∧
  (∃ (s : State) (p : Path) (index : Half) (sub : Byte) (regs : Option (Half × Half)) (wreg : Option Half) (a : Nat), pathBox p = none ∧
      s.node.Serves p (BitVec.toNat index) ∧ (regs = none ∨ pathKind p ≠ 4) ∧ (wreg = none ∨ pathKind p ≠ 4) ∧ a ≠ 0 ∧ s.node.odEntry (BitVec.toNat
      index) (BitVec.toNat sub) = Except.error a) ∧
  (∃ (s : State) (p : Path) (index : Half) (regs : Option (Half × Half)) (wreg : Option Half), pathBox p = none ∧ s.node.Serves p (BitVec.toNat
      index) ∧ (regs = none ∨ pathKind p ≠ 4) ∧ (wreg = none ∨ pathKind p ≠ 4)) ∧
  (∃ (s : State) (p : Path) (index : Half) (regs : Option (Half × Half)) (wreg : Option Half), pathBox p = none ∧ s.node.Serves p (BitVec.toNat
      index) ∧ (regs = none ∨ pathKind p ≠ 4) ∧ (wreg = none ∨ pathKind p ≠ 4)) ∧
  (∃ (s : State) (p : Path) (index : Half) (regs : Option (Half × Half)) (wreg : Option Half), pathBox p = none ∧ s.node.Serves p (BitVec.toNat
      index) ∧ (regs = none ∨ pathKind p ≠ 4) ∧ (wreg = none ∨ pathKind p ≠ 4)) ∧
  (∃ (s : State) (p : Path) (index : Half) (regs : Option (Half × Half)) (wreg : Option Half), pathBox p = none ∧ s.node.Serves p (BitVec.toNat
      index) ∧ (regs = none ∨ pathKind p ≠ 4) ∧ (wreg = none ∨ pathKind p ≠ 4)) ∧
  (∃ (s : State) (p : Path) (seg : List Byte) (wreg : Option Half), pathBox p = none ∧ s.node.Serves p 4128 ∧ (wreg = none ∨ pathKind p ≠ 4) ∧ 2
      ≤ s.node.roleOf p ∧ seg.length ≤ 16 ∧ s.node.transferElsewhere p 4128 1 = false) ∧
  (∃ (s : State) (p : Path), pathBox p = none ∧ s.node.Serves p 8192) ∧
  (∃ (s : State) (p : Path), pathBox p = none ∧ s.node.Serves p 8192 ∧ s.node.transferOf p = none) ∧
  (∃ (s : State) (p : Path) (t : Transfer), pathBox p = none ∧ s.node.Serves p 8192 ∧ s.node.transferOf p = some t) ∧
  (∃ (s : State) (p : Path) (t : Transfer) (seg : List Byte), pathBox p = none ∧ s.node.Serves p 8192 ∧ s.node.transferOf p = some t ∧ t.write =
      true ∧ t.bytes.length + seg.length < t.total) ∧
  (∃ (s : State) (p : Path) (t : Transfer), pathBox p = none ∧ s.node.Serves p 8192 ∧ s.node.transferOf p = some t ∧ t.write = false) ∧
  (∃ (s : State) (p : Path) (t : Transfer), pathBox p = none ∧ s.node.transferOf p = some t ∧ s.node.serverUp = true ∧ (s.node.askOf p).boxed =
      false ∧ (s.node.standby = true → pathKind p = 3 ∨ pathKind p = 4) ∧ p ≠ Path.register) ∧
  (∃ (s : State) (p : Path) (q : Fin 16) (modbus : Nat) (k : Fin 1024) (i : Nat) (j : Nat) (e : OdEntry), pathBox p = none ∧ p = Path.type15 q
      modbus ∧ s.node.Serves p 8192 ∧ (s.node.mapEntry k.val).toOption = some (i, j, e) ∧ s.node.readAbort p e = none ∧ s.node.entryHeld e = false ∧
      i ≠ 7936) :=
  ⟨
   ⟨⟨odReadNode1, []⟩, .trdp 1#32, 0x1018#16, 1#8, none, none, ⟨7, 3, 0, 2, 3, 4, .bytes [0x9C, 0x1F, 0, 0]⟩,
    by refine ⟨?_, ?_, ?_, ?_, ok_of_answer ?_, ?_⟩ <;> (first | decide +kernel | (unfold Node.Serves; decide +kernel))⟩,
   ⟨⟨odReadNode2, []⟩, .trdp 1#32, 0x2000#16, 1#8, none, none, ⟨7, 2, 1, 2, 0, 4, .act []⟩, 3,
    by refine ⟨?_, ?_, ?_, ?_, ok_of_answer ?_, ?_⟩ <;> (first | decide +kernel | (unfold Node.Serves; decide +kernel))⟩,
   ⟨⟨odReadNode2, []⟩, .trdp 1#32, 0x2310#16, 2#8, none, none, ⟨7, 1, 1, 2, 1, 4, .shadow ⟨0x300104, 0, 32, 4⟩⟩,
    by refine ⟨?_, ?_, ?_, ?_, ok_of_answer ?_⟩ <;> (first | decide +kernel | (unfold Node.Serves; decide +kernel))⟩,
   ⟨⟨odReadNode2, []⟩, .trdp 1#32, 0x1018#16, 1#8, none, none, ⟨7, 3, 0, 2, 3, 4, .bytes [0x9C, 0x1F, 0, 0]⟩, [], 4,
    by refine ⟨?_, ?_, ?_, ?_, ok_of_answer ?_, ?_⟩ <;> (first | decide +kernel | (unfold Node.Serves; decide +kernel))⟩,
   ⟨⟨odReadNode2, []⟩, .trdp 1#32, 0x2310#16, 2#8, none, none, ⟨7, 1, 1, 2, 1, 4, .shadow ⟨0x300104, 0, 32, 4⟩⟩, [255, 255, 255, 255],
       ⟨0x300104, 0, 32, 4⟩,
    by refine ⟨?_, ?_, ?_, ?_, ok_of_answer ?_, ?_⟩ <;> (first | decide +kernel | (unfold Node.Serves; decide +kernel))⟩,
   ⟨⟨odReadNode2, []⟩, .trdp 1#32, 0x2310#16, 2#8, none, none, ⟨7, 1, 1, 2, 1, 4, .shadow ⟨0x300104, 0, 32, 4⟩⟩, [0, 0, 0], 4,
    by refine ⟨?_, ?_, ?_, ?_, ok_of_answer ?_, ?_⟩ <;> (first | decide +kernel | (unfold Node.Serves; decide +kernel))⟩,
   ⟨⟨odReadNode2, []⟩, .trdp 1#32, 0x0FFF#16, 0#8, none, none, 1,
    by refine ⟨?_, ?_, ?_, ?_, ?_, error_of_answer ?_⟩ <;> (first | decide +kernel | (unfold Node.Serves; decide +kernel))⟩,
   ⟨⟨odReadNode2, []⟩, .trdp 1#32, 0x0FFF#16, 0#8, none, none, 1,
    by refine ⟨?_, ?_, ?_, ?_, ?_, error_of_answer ?_⟩ <;> (first | decide +kernel | (unfold Node.Serves; decide +kernel))⟩,
   ⟨⟨odReadNode2, []⟩, .trdp 1#32, 0#16, none, none, by unfold Node.Serves; decide +kernel⟩,
   ⟨⟨odReadNode2, []⟩, .trdp 1#32, 0#16, none, none, by unfold Node.Serves; decide +kernel⟩,
   ⟨⟨odReadNode2, []⟩, .trdp 1#32, 0#16, none, none, by unfold Node.Serves; decide +kernel⟩,
   ⟨⟨odReadNode2, []⟩, .trdp 1#32, 0#16, none, none, by unfold Node.Serves; decide +kernel⟩,
   ⟨⟨odReadNode2, []⟩, .trdp 1#32, List.replicate 16 7, none, by unfold Node.Serves; decide +kernel⟩,
   ⟨⟨odReadNode2, []⟩, .trdp 1#32, by unfold Node.Serves; decide +kernel⟩,
   ⟨⟨odReadNode2, []⟩, .trdp 1#32, by unfold Node.Serves; decide +kernel⟩,
   ⟨⟨odNextSegmentNode16, []⟩, .trdp 1#32, ⟨.trdp 1#32, 0x2000, 1, false, 2, [1], true, false⟩, by unfold Node.Serves; decide +kernel⟩,
   ⟨⟨odNextSegmentNode17, []⟩, .trdp 1#32, ⟨.trdp 1#32, 0x2000, 1, true, 2, [1], true, false⟩, [], by unfold Node.Serves; decide +kernel⟩,
   ⟨⟨odNextSegmentNode16, []⟩, .trdp 1#32, ⟨.trdp 1#32, 0x2000, 1, false, 2, [1], true, false⟩, by unfold Node.Serves; decide +kernel⟩,
   ⟨⟨odNextSegmentNode17, []⟩, .trdp 1#32, ⟨.trdp 1#32, 0x2000, 1, true, 2, [1], true, false⟩, by decide +kernel⟩,
   ⟨⟨odReadNode20, []⟩, .type15 5 0, 5, 0, 7, 0x1018, 1, ⟨7, 3, 0, 2, 3, 4, .bytes [0x9C, 0x1F, 0, 0]⟩, by unfold Node.Serves; decide +kernel⟩⟩

def maintMessageNode1 : Node := { node.setting F.VNT_IP 1 with vnt := { node.vnt with sessions := [{ newSession (.maint 3) with role := 0 }] } }
def execNode4 : Node :=
  { node.setting F.VNT_IP 1 with vnt :=
    { node.vnt with transfers := [⟨.maint 3, 0x1018, 1, false, 200, [1], true, false⟩], sessions := [{ newSession (.maint 3) with role := 0 }] } }
def maintMessageNode6 : Node :=
  { node.setting F.VNT_IP 1 with vnt := { node.vnt with sessions := [{ newSession (.maint 3) with tagged := some 1#256, lastCounter := 8 }] } }
def remoteRequestNode8 : Node := { (node.setting F.VNT_IP 1).setting F.OD_CFG_REMOTE_EN 1 with vnt := { node.vnt with peers := [(16, 5#32)] } }
def odReadBase : Node := (node.setting F.VNT_IP 1).setting F.OD_CFG_REMOTE_EN 1 |>.putForce 0x100060 0x00004003#32
def odReadNode11 : Node := { odReadBase with vnt := { node.vnt with sessions := [{ newSession (.hostMailbox 3) with role := 0 }] } }
def odReadNode12 : Node := { odReadBase with vnt := { node.vnt with sessions := [{ newSession (.hostMailbox 3) with role := 2 }] } }
def odNextSegmentNode19 : Node :=
  { odReadBase with vnt :=
    { node.vnt with sessions := [{ newSession (.hostMailbox 3) with role := 2 }], transfers := [⟨.hostMailbox 3, 0x2000, 1, true, 4, [1], true, false⟩] } }
/-- States and operands meet the hypotheses of every clause of `Obligations.MaintenancePathCommandsComplete`. -/
theorem witness_MaintenancePathCommandsComplete :
  (∃ (s : State) (conn : Nat) (op : BitVec 8) (index : Half), s.node.serverUp = true ∧ s.node.pathOpen (Path.maint conn) (BitVec.toNat index) =
      true ∧ (s.node.sessionOf (Path.maint conn)).tagged = none ∧ s.node.serverFull = false ∧ s.node.standby = false ∧ op = 4#8) ∧
  (∃ (s : State) (conn : Nat) (op : BitVec 8) (toggle : Bool) (index : Half) (total : Nat), s.node.serverUp = true ∧ s.node.pathOpen (Path.maint
      conn) (BitVec.toNat index) = true ∧ (s.node.sessionOf (Path.maint conn)).tagged = none ∧ op = 1#8 ∧ toggle = false ∧ total = 0) ∧
  (∃ (s : State) (conn : Nat) (op : BitVec 8) (toggle : Bool) (index : Half), s.node.serverUp = true ∧ s.node.pathOpen (Path.maint conn)
      (BitVec.toNat index) = true ∧ (s.node.sessionOf (Path.maint conn)).tagged = none ∧ op = 2#8 ∧ toggle = false) ∧
  (∃ (s : State) (conn : Nat) (op : BitVec 8) (index : Half) (sub : Byte) (total : Nat) (t : Transfer), s.node.serverUp = true ∧ s.node.pathOpen
      (Path.maint conn) (BitVec.toNat index) = true ∧ (s.node.sessionOf (Path.maint conn)).tagged = none ∧ op = 3#8 ∧ s.node.transferOf (Path.maint
      conn) = some t ∧ t.index = BitVec.toNat index ∧ t.sub = BitVec.toNat sub ∧ t.total = total) ∧
  (∃ (s : State) (conn : Nat) (op : BitVec 8) (toggle : Bool) (index : Half) (total : Nat), s.node.serverUp = true ∧ s.node.pathOpen (Path.maint
      conn) (BitVec.toNat index) = true ∧ (s.node.sessionOf (Path.maint conn)).tagged = none ∧ op = 5#8 ∧ toggle = false ∧ total = 0) ∧
  (∃ (s : State) (conn : Nat) (counter : DWord) (tagOk : Bool) (op : BitVec 8) (index : Half), s.node.serverUp = true ∧ s.node.pathOpen
      (Path.maint conn) (BitVec.toNat index) = true ∧ (s.node.sessionOf (Path.maint conn)).tagged ≠ none ∧ tagOk = true ∧ BitVec.toNat counter =
      (s.node.sessionOf (Path.maint conn)).lastCounter + 1 ∧ s.node.serverFull = false ∧ s.node.standby = false ∧ op = 4#8) ∧
  (∃ (s : State) (conn : Nat) (counter : DWord) (tagOk : Bool) (index : Half), s.node.serverUp = true ∧ s.node.pathOpen (Path.maint conn)
      (BitVec.toNat index) = true ∧ (s.node.sessionOf (Path.maint conn)).tagged ≠ none ∧ (tagOk = false ∨ BitVec.toNat counter ≠ (s.node.sessionOf
      (Path.maint conn)).lastCounter + 1)) ∧
  (∃ (s : State) (src : Ip) (write : Bool) (ofs : Nat) (len : Nat), s.node.serverUp = true ∧ s.node.cf F.VNT_IP ≠ 0 ∧ s.node.cfBit
      F.OD_CFG_REMOTE_EN = true ∧ s.node.standby = false ∧ (s.node.isPeer src = false ∨ remoteServed write ofs = false ∨ remoteServed write (ofs +
      len - 1) = false)) ∧
  (∃ (s : State) (src : Ip) (ofs : Nat) (len : Nat), s.node.serverUp = true ∧ s.node.cf F.VNT_IP ≠ 0 ∧ s.node.cfBit F.OD_CFG_REMOTE_EN = true ∧
      s.node.standby = false ∧ s.node.isPeer src = true ∧ remoteServed false ofs = true ∧ remoteServed false (ofs + len - 1) = true) ∧
  (∃ (s : State) (src : Ip) (ofs : Nat) (len : Nat), s.node.serverUp = true ∧ s.node.cf F.VNT_IP ≠ 0 ∧ s.node.cfBit F.OD_CFG_REMOTE_EN = true ∧
      s.node.standby = false ∧ s.node.isPeer src = true ∧ remoteServed true ofs = true ∧ remoteServed true (ofs + len - 1) = true) ∧
  (∃ (s : State) (p : Path) (b : Nat) (index : Half) (sub : Byte) (e : OdEntry), s.node.serverUp = true ∧ pathBox p = some b ∧ s.node.serverFull
      = false ∧ s.node.bit (F.MBOX_BUSY.at b) = false ∧ (s.node.cutOff (if b < 4 then Initiator.host else Initiator.maint) = false) ∧
      (s.node.reaches (if b < 4 then Initiator.host else Initiator.maint) (boxBase b) = true) ∧ s.node.pathOpen p 0 = true ∧ s.node.odEntry
      (BitVec.toNat index) (BitVec.toNat sub) = Except.ok e ∧ s.node.readAbort p e = none ∧ s.node.entryHeld e = false ∧ index ≠ 7936 ∧ index ≠
      12080) ∧
  (∃ (s : State) (p : Path) (b : Nat) (index : Half) (sub : Byte) (e : OdEntry) (a : Nat), s.node.serverUp = true ∧ pathBox p = some b ∧
      s.node.serverFull = false ∧ s.node.bit (F.MBOX_BUSY.at b) = false ∧ (s.node.cutOff (if b < 4 then Initiator.host else Initiator.maint) =
      false) ∧ (s.node.reaches (if b < 4 then Initiator.host else Initiator.maint) (boxBase b) = true) ∧ s.node.pathOpen p 0 = true ∧ s.node.odEntry
      (BitVec.toNat index) (BitVec.toNat sub) = Except.ok e ∧ a ≠ 0 ∧ s.node.readAbort p e = some a) ∧
  (∃ (s : State) (p : Path) (b : Nat) (index : Half) (sub : Byte) (e : OdEntry), s.node.serverUp = true ∧ pathBox p = some b ∧ s.node.serverFull
      = false ∧ s.node.bit (F.MBOX_BUSY.at b) = false ∧ (s.node.cutOff (if b < 4 then Initiator.host else Initiator.maint) = false) ∧
      (s.node.reaches (if b < 4 then Initiator.host else Initiator.maint) (boxBase b) = true) ∧ s.node.pathOpen p 0 = true ∧ s.node.odEntry
      (BitVec.toNat index) (BitVec.toNat sub) = Except.ok e) ∧
  (∃ (s : State) (p : Path) (b : Nat) (index : Half) (sub : Byte) (e : OdEntry) (seg : List Byte) (a : Nat), s.node.serverUp = true ∧ pathBox p
      = some b ∧ s.node.serverFull = false ∧ s.node.bit (F.MBOX_BUSY.at b) = false ∧ (s.node.cutOff (if b < 4 then Initiator.host else
      Initiator.maint) = false) ∧ (s.node.reaches (if b < 4 then Initiator.host else Initiator.maint) (boxBase b) = true) ∧ s.node.pathOpen p 0 =
      true ∧ s.node.odEntry (BitVec.toNat index) (BitVec.toNat sub) = Except.ok e ∧ isResponse (BitVec.toNat index) (BitVec.toNat sub) = false ∧ a ≠
      0 ∧ s.node.writeAbort p (BitVec.toNat index) (BitVec.toNat sub) e seg.length = some a) ∧
  (∃ (s : State) (p : Path) (b : Nat) (index : Half) (sub : Byte) (e : OdEntry) (seg : List Byte) (f : Field), s.node.serverUp = true ∧ pathBox
      p = some b ∧ s.node.serverFull = false ∧ s.node.bit (F.MBOX_BUSY.at b) = false ∧ (s.node.cutOff (if b < 4 then Initiator.host else
      Initiator.maint) = false) ∧ (s.node.reaches (if b < 4 then Initiator.host else Initiator.maint) (boxBase b) = true) ∧ s.node.pathOpen p 0 =
      true ∧ s.node.odEntry (BitVec.toNat index) (BitVec.toNat sub) = Except.ok e ∧ isResponse (BitVec.toNat index) (BitVec.toNat sub) = false ∧
      e.back = OdBack.shadow f ∧ s.node.writeAbort p (BitVec.toNat index) (BitVec.toNat sub) e seg.length = none ∧ inRange (BitVec.toNat index)
      (BitVec.toNat sub) e seg = true ∧ s.node.transferElsewhere p (BitVec.toNat index) (BitVec.toNat sub) = false ∧ s.node.dirty (groupOf f.addr) =
      false ∧ s.node.goRefusal (groupOf f.addr) = none) ∧
  (∃ (s : State) (p : Path) (b : Nat) (index : Half) (sub : Byte) (irq : Bool) (a : Nat) (c : Instr), s.node.serverUp = true ∧ pathBox p = some
      b ∧ s.node.serverFull = false ∧ s.node.bit (F.MBOX_BUSY.at b) = false ∧ (s.node.cutOff (if b < 4 then Initiator.host else Initiator.maint) =
      false) ∧ (s.node.reaches (if b < 4 then Initiator.host else Initiator.maint) (boxBase b) = true) ∧ s.node.pathOpen p 0 = true ∧ a ≠ 0 ∧
      s.node.odEntry (BitVec.toNat index) (BitVec.toNat sub) = Except.error a ∧ c ∈ [Instr.odRead p index sub irq false none, Instr.odDescribe p
      index sub irq false]) ∧
  (∃ (s : State) (p : Path) (b : Nat), s.node.serverUp = true ∧ pathBox p = some b ∧ s.node.serverFull = false ∧ s.node.bit (F.MBOX_BUSY.at b) =
      false ∧ (s.node.cutOff (if b < 4 then Initiator.host else Initiator.maint) = false) ∧ (s.node.reaches (if b < 4 then Initiator.host else
      Initiator.maint) (boxBase b) = true) ∧ s.node.pathOpen p 0 = true) ∧
  (∃ (s : State) (p : Path) (b : Nat), s.node.serverUp = true ∧ pathBox p = some b ∧ s.node.serverFull = false ∧ s.node.bit (F.MBOX_BUSY.at b) =
      false ∧ (s.node.cutOff (if b < 4 then Initiator.host else Initiator.maint) = false) ∧ (s.node.reaches (if b < 4 then Initiator.host else
      Initiator.maint) (boxBase b) = true) ∧ s.node.pathOpen p 0 = true ∧ s.node.transferOf p = none) ∧
  (∃ (s : State) (p : Path) (b : Nat) (t : Transfer) (seg : List Byte), s.node.serverUp = true ∧ pathBox p = some b ∧ s.node.serverFull = false
      ∧ s.node.bit (F.MBOX_BUSY.at b) = false ∧ (s.node.cutOff (if b < 4 then Initiator.host else Initiator.maint) = false) ∧ (s.node.reaches (if b
      < 4 then Initiator.host else Initiator.maint) (boxBase b) = true) ∧ s.node.pathOpen p 0 = true ∧ s.node.transferOf p = some t ∧ t.write = true
      ∧ t.bytes.length + seg.length < t.total) :=
  ⟨
   ⟨⟨maintMessageNode1, []⟩, 3, 4#8, 0x1018#16, by decide +kernel⟩,
   ⟨⟨maintMessageNode1, []⟩, 3, 1#8, false, 0x1018#16, 0, by decide +kernel⟩,
   ⟨⟨maintMessageNode1, []⟩, 3, 2#8, false, 0x1018#16, by decide +kernel⟩,
   ⟨⟨execNode4, []⟩, 3, 3#8, 0x1018#16, 1#8, 200, ⟨.maint 3, 0x1018, 1, false, 200, [1], true, false⟩, by decide +kernel⟩,
   ⟨⟨maintMessageNode1, []⟩, 3, 5#8, false, 0x1018#16, 0, by decide +kernel⟩,
   ⟨⟨maintMessageNode6, []⟩, 3, 9#64, true, 4#8, 0#16, by decide +kernel⟩,
   ⟨⟨maintMessageNode6, []⟩, 3, 8#64, true, 0#16, by decide +kernel⟩,
   ⟨⟨remoteRequestNode8, []⟩, 4#32, true, 0, 4, by decide +kernel⟩,
   ⟨⟨remoteRequestNode8, []⟩, 5#32, 0xFFFFFF, 1, by decide +kernel⟩,
   ⟨⟨remoteRequestNode8, []⟩, 5#32, 0x30FFFFF, 1, by decide +kernel⟩,
   ⟨⟨odReadNode11, []⟩, .hostMailbox 3, 3, 0x1018#16, 1#8, ⟨7, 3, 0, 2, 3, 4, .bytes [0x9C, 0x1F, 0, 0]⟩,
    by refine ⟨?_, ?_, ?_, ?_, ?_, ?_, ?_, ok_of_answer ?_, ?_⟩ <;> decide +kernel⟩,
   ⟨⟨odReadNode12, []⟩, .hostMailbox 3, 3, 0x2000#16, 1#8, ⟨7, 2, 1, 2, 0, 4, .act []⟩, 3,
    by refine ⟨?_, ?_, ?_, ?_, ?_, ?_, ?_, ok_of_answer ?_, ?_⟩ <;> decide +kernel⟩,
   ⟨⟨odReadNode12, []⟩, .hostMailbox 3, 3, 0x2310#16, 2#8, ⟨7, 1, 1, 2, 1, 4, .shadow ⟨0x300104, 0, 32, 4⟩⟩,
    by refine ⟨?_, ?_, ?_, ?_, ?_, ?_, ?_, ok_of_answer ?_⟩ <;> decide +kernel⟩,
   ⟨⟨odReadNode12, []⟩, .hostMailbox 3, 3, 0x1018#16, 1#8, ⟨7, 3, 0, 2, 3, 4, .bytes [0x9C, 0x1F, 0, 0]⟩, [], 4,
    by refine ⟨?_, ?_, ?_, ?_, ?_, ?_, ?_, ok_of_answer ?_, ?_⟩ <;> decide +kernel⟩,
   ⟨⟨odReadNode12, []⟩, .hostMailbox 3, 3, 0x2310#16, 2#8, ⟨7, 1, 1, 2, 1, 4, .shadow ⟨0x300104, 0, 32, 4⟩⟩, [255, 255, 255, 255], ⟨0x300104, 0,
       32, 4⟩,
    by refine ⟨?_, ?_, ?_, ?_, ?_, ?_, ?_, ok_of_answer ?_, ?_⟩ <;> decide +kernel⟩,
   ⟨⟨odReadNode12, []⟩, .hostMailbox 3, 3, 0x0FFF#16, 0#8, false, 1, .odDescribe (.hostMailbox 3) 0x0FFF#16 0#8 false false,
    by refine ⟨?_, ?_, ?_, ?_, ?_, ?_, ?_, ?_, error_of_answer ?_, ?_⟩ <;> decide +kernel⟩,
   ⟨⟨odReadNode12, []⟩, .hostMailbox 3, 3, by decide +kernel⟩,
   ⟨⟨odReadNode12, []⟩, .hostMailbox 3, 3, by decide +kernel⟩,
   ⟨⟨odNextSegmentNode19, []⟩, .hostMailbox 3, 3, ⟨.hostMailbox 3, 0x2000, 1, true, 4, [1], true, false⟩, [7], by decide +kernel⟩⟩

def authResponseNode5 : Node :=
  { node.setting F.OD_COMID 1 with vnt := { node.vnt with sessions := [{ newSession (.trdp 1#32) with role := 0 }], authLocked := [2] } }
def authResponseNode6 : Node :=
  { node.setting F.OD_COMID 1 with vnt := { node.vnt with sessions := [⟨.trdp 1#32, 0, 3, some 1#128, [1#256, 2#256, 3#256], none, 0, 0⟩] } }
def persistentStoreWriteNode13 : Node := { node with vnt := { node.vnt with storeDue := true } }
/-- States and operands meet the hypotheses of every clause of `Obligations.SessionCommandsComplete`. -/
theorem witness_SessionCommandsComplete :
  (∃ (s : State) (p : Path), pathBox p = none ∧ s.node.Serves p 7936) ∧
  (∃ (s : State) (p : Path) (role : Byte), pathBox p = none ∧ s.node.Serves p 7936 ∧ s.node.transferElsewhere p 7936 2 = false ∧ 1 ≤
      BitVec.toNat role ∧ BitVec.toNat role ≤ 3) ∧
  (∃ (s : State) (p : Path) (role : Byte), pathBox p = none ∧ s.node.Serves p 7936 ∧ s.node.transferElsewhere p 7936 2 = false ∧ BitVec.toNat
      role = 0) ∧
  (∃ (s : State) (p : Path) (role : Byte), pathBox p = none ∧ s.node.Serves p 7936 ∧ s.node.transferElsewhere p 7936 2 = false ∧ 3 <
      BitVec.toNat role) ∧
  (∃ (s : State) (p : Path), pathBox p = none ∧ s.node.Serves p 7936 ∧ pathKind p ∈ s.node.vnt.authLocked) ∧
  (∃ (s : State) (p : Path) (response : BitVec 256) (r : BitVec 256) (key : BitVec 256), pathBox p = none ∧ s.node.Serves p 7936 ∧ ¬pathKind p ∈
      s.node.vnt.authLocked ∧ (s.node.sessionOf p).expects = some (r, key) ∧ r = response) ∧
  (∃ (s : State) (p : Path) (response : BitVec 256) (r : BitVec 256) (key : BitVec 256), pathBox p = none ∧ s.node.Serves p 7936 ∧ ¬pathKind p ∈
      s.node.vnt.authLocked ∧ (s.node.sessionOf p).expects = some (r, key) ∧ r ≠ response) ∧
  (∃ (s : State) (p : Path) (v : Half), pathBox p = none ∧ s.node.Serves p 11568 ∧ 2 ≤ s.node.roleOf p ∧ s.node.standby = false ∧
      s.node.transferElsewhere p 11568 1 = false ∧ v = 24189#16) ∧
  (∃ (s : State) (p : Path) (v : Half), pathBox p = none ∧ s.node.Serves p 11568 ∧ 2 ≤ s.node.roleOf p ∧ s.node.standby = false ∧
      s.node.transferElsewhere p 11568 1 = false ∧ v ≠ 24189#16) ∧
  (∃ (s : State), s.node.serverUp = true) ∧
  (∃ (p : Path), (pathKind p = 4 ∨ pathKind p = 5)) ∧
  (∃ (s : State) (a : Bool) (b : Bool), s.node.powered = true ∧ s.node.supply.firmware = true ∧ s.node.supply.halted = false ∧
      s.node.vnt.storeDue = true ∧ (a || b) = true) ∧
  (∃ (s : State) (a : Bool) (b : Bool), s.node.powered = true ∧ s.node.supply.firmware = true ∧ s.node.supply.halted = false ∧
      s.node.vnt.storeDue = true ∧ a = false ∧ b = false) :=
  ⟨
   ⟨⟨odReadNode1, []⟩, .trdp 1#32, by unfold Node.Serves; decide +kernel⟩,
   ⟨⟨odReadNode1, []⟩, .trdp 1#32, 3#8, by unfold Node.Serves; decide +kernel⟩,
   ⟨⟨odReadNode1, []⟩, .trdp 1#32, 0#8, by unfold Node.Serves; decide +kernel⟩,
   ⟨⟨odReadNode1, []⟩, .trdp 1#32, 4#8, by unfold Node.Serves; decide +kernel⟩,
   ⟨⟨authResponseNode5, []⟩, .trdp 1#32, by unfold Node.Serves; decide +kernel⟩,
   ⟨⟨authResponseNode6, []⟩, .trdp 1#32, _, _, _, by refine ⟨?_, ?_, ?_, rfl, rfl⟩ <;> first | decide +kernel |
       (unfold Node.Serves; decide +kernel)⟩,
   ⟨⟨authResponseNode6, []⟩, .trdp 1#32, _ + 1#256, _, _, by refine ⟨?_, ?_, ?_, rfl, ne_succ _⟩ <;> first | decide +kernel |
       (unfold Node.Serves; decide +kernel)⟩,
   ⟨⟨odReadNode2, []⟩, .trdp 1#32, 0x5E7D#16, by unfold Node.Serves; decide +kernel⟩,
   ⟨⟨odReadNode2, []⟩, .trdp 1#32, 0x5E7E#16, by unfold Node.Serves; decide +kernel⟩,
   ⟨⟨node, []⟩, by decide +kernel⟩,
   ⟨.maint 3, by decide +kernel⟩,
   ⟨⟨persistentStoreWriteNode13, []⟩, true, true, by decide +kernel⟩,
   ⟨⟨persistentStoreWriteNode13, []⟩, false, false, by decide +kernel⟩⟩

def bookRecoveryNode1 : Node := node.wr F.CBK_STATUS_READY 0
def recordWriteNode2 : Node :=
  { node with book :=
    { node.book with queue := [⟨1, 0, false, false, false, 0, 0, 0, 0, 0, [], false, 0⟩], ptrA := ⟨0#32, 16382, 0, 0, 0, 0, 0⟩ } }
def recordWriteNode3 : Node :=
  { node with book :=
    { node.book with queue := [⟨1, 0, false, false, false, 0, 0, 0, 0, 0, [], false, 0⟩], ptrA := ⟨0#32, 16383, 0, 0, 0, 0, 0⟩ } }
def recordWriteNode4 : Node :=
  { node with book :=
    { node.book with queue := [⟨1, 0, false, false, false, 0, 0, 0, 0, 0, [], false, 0⟩], ptrA := ⟨0#32, 16384, 98303, 0, 0, 0, 0⟩ } }
def recordWriteNode5 : Node := { node with book := { node.book with lostReset := 3 } }
def recordWriteNode6 : Node := { node with book := { node.book with lostFull := 3 } }
def bookCommandsNode8 : Node := { node with book := { node.book with frozenCmd := true } }
def cbkCmdReadNode14 : Node :=
  { (node.wr F.READ_COUNT 2) with book := { node.book with first := [⟨1, 0, false, false, false, 0, 0, 0, 0, 0, [], false, 0⟩] } }
def readoutCompleteNode15 : Node := node.wr F.CBK_STATUS_RD_BUSY 1
/-- States and operands meet the hypotheses of every clause of `Obligations.BookCommandsComplete`. -/
theorem witness_BookCommandsComplete :
  (∃ (s : State), s.node.powered = true ∧ s.node.bit F.CBK_STATUS_READY = false ∧ s.node.supply.firmware = true ∧ s.node.power ≠ Power.shutdown) ∧
  (∃ (s : State) (r : Record) (rest : List Record), s.node.powered = true ∧ s.node.bit F.CBK_STATUS_READY = true ∧ s.node.book.frozen = false ∧
      s.node.book.queue = r :: rest ∧ s.node.book.lostReset = 0 ∧ s.node.book.lostFull = 0 ∧ s.node.book.ptrA.fpCount < 16383) ∧
  (∃ (s : State) (r : Record) (rest : List Record), s.node.powered = true ∧ s.node.bit F.CBK_STATUS_READY = true ∧ s.node.book.frozen = false ∧
      s.node.book.queue = r :: rest ∧ s.node.book.lostReset = 0 ∧ s.node.book.lostFull = 0 ∧ s.node.book.ptrA.fpCount = 16383) ∧
  (∃ (s : State) (r : Record) (rest : List Record), s.node.powered = true ∧ s.node.bit F.CBK_STATUS_READY = true ∧ s.node.book.frozen = false ∧
      s.node.book.queue = r :: rest ∧ s.node.book.lostReset = 0 ∧ s.node.book.lostFull = 0 ∧ 16384 ≤ s.node.book.ptrA.fpCount) ∧
  (∃ (s : State), s.node.powered = true ∧ s.node.bit F.CBK_STATUS_READY = true ∧ s.node.book.frozen = false ∧ s.node.book.lostReset ≠ 0 ∧
      s.node.book.ptrA.fpCount < 16383) ∧
  (∃ (s : State), s.node.powered = true ∧ s.node.bit F.CBK_STATUS_READY = true ∧ s.node.book.frozen = false ∧ s.node.book.lostReset = 0 ∧
      s.node.book.lostFull ≠ 0 ∧ s.node.book.queue.length < 256 ∧ s.node.book.ptrA.fpCount < 16383) ∧
  (∃ (s : State), s.node.powered = true ∧ s.node.bit F.CBK_STATUS_READY = true ∧ s.node.book.frozen = false) ∧
  (∃ (s : State) (c : Instr), s.node.book.frozen = true ∧ c ∈ [Instr.recordWrite, Instr.pointerBlockTick]) ∧
  (∃ (s : State), s.node.powered = true) ∧
  (∃ (s : State) (by_ : Initiator), s.node.Reaches by_ 14) ∧
  (∃ (s : State) (by_ : Initiator), s.node.Reaches by_ 14) ∧
  (∃ (s : State) (by_ : Initiator), s.node.Reaches by_ 14) ∧
  (∃ (s : State) (by_ : Initiator) (key : BitVec 16), s.node.Reaches by_ 14 ∧ key ≠ 7755#16) ∧
  (∃ (s : State) (by_ : Initiator), s.node.Reaches by_ 14 ∧ s.node.bit F.CBK_STATUS_RD_BUSY = false ∧ s.node.rd F.READ_COUNT ≠ 0) ∧
  (∃ (s : State), s.node.bit F.CBK_STATUS_RD_BUSY = true) ∧
  (∃ (s : State), s.node.book.frozenCmd = true ∧ s.node.Admits 3587) :=
  ⟨
   ⟨⟨bookRecoveryNode1, []⟩, by decide +kernel⟩,
   ⟨⟨recordWriteNode2, []⟩, ⟨1, 0, false, false, false, 0, 0, 0, 0, 0, [], false, 0⟩, [], by decide +kernel⟩,
   ⟨⟨recordWriteNode3, []⟩, ⟨1, 0, false, false, false, 0, 0, 0, 0, 0, [], false, 0⟩, [], by decide +kernel⟩,
   ⟨⟨recordWriteNode4, []⟩, ⟨1, 0, false, false, false, 0, 0, 0, 0, 0, [], false, 0⟩, [], by decide +kernel⟩,
   ⟨⟨recordWriteNode5, []⟩, by decide +kernel⟩,
   ⟨⟨recordWriteNode6, []⟩, by decide +kernel⟩,
   ⟨⟨node, []⟩, by decide +kernel⟩,
   ⟨⟨bookCommandsNode8, []⟩, .recordWrite, by decide +kernel⟩,
   ⟨⟨node, []⟩, by decide +kernel⟩,
   ⟨⟨node, []⟩, .host, by unfold Node.Reaches; decide +kernel⟩,
   ⟨⟨node, []⟩, .host, by unfold Node.Reaches; decide +kernel⟩,
   ⟨⟨node, []⟩, .host, by unfold Node.Reaches; decide +kernel⟩,
   ⟨⟨node, []⟩, .host, 0x1E4A#16, by unfold Node.Reaches; decide +kernel⟩,
   ⟨⟨cbkCmdReadNode14, []⟩, .host, by unfold Node.Reaches; decide +kernel⟩,
   ⟨⟨readoutCompleteNode15, []⟩, by decide +kernel⟩,
   ⟨⟨bookCommandsNode8, []⟩, by unfold Node.Admits; decide +kernel⟩⟩

def updOpenNode1 : Node := node.setSlot 0 4
def updOpenNode2 : Node := { node with vault := { node.vault with session := some ⟨.register, 1⟩ } }
def updChunkNode4 : Node := { node.wr F.UPD_NEXT 0x3FFF000 with vault := { node.vault with session := some ⟨.register, 1⟩ } }
def updActivateNode7 : Node := node.setSlot 1 2
def updConfirmNode8 : Node := { (node.setSlot 1 3) with vault := { node.vault with trialSince := some 0 } }
def slotVerifyDoneNode9 : Node :=
  { (node.putBytes (slotBase 1)
    [0x56, 0x4E, 0x54, 0x47, 1, 0, 1, 0, 0x70, 0, 0, 0, 0, 0, 0, 0, 0, 0, 0, 0, 0, 0, 0, 0, 0x40, 0x96, 0x58, 0x4B, 0xB1]) with vault :=
    { node.vault with verifying := some 1 } }
def slotVerifyDoneNode10 : Node := { node with vault := { node.vault with verifying := some 1 } }
/-- States and operands meet the hypotheses of every clause of `Obligations.UpdateCommandsComplete`. -/
theorem witness_UpdateCommandsComplete :
  (∃ (s : State) (path : Path) (slotB : Bool), s.node.powered = true ∧ s.node.islandDown 8 = false ∧ s.node.updDenied path = none ∧
      s.node.vault.session = none ∧ (s.node.slotInForce ≠ some (if slotB = true then 1 else 0))) ∧
  (∃ (s : State) (path : Path), s.node.powered = true ∧ s.node.islandDown 8 = false ∧ s.node.updDenied path = none ∧ s.node.vault.session ≠ none) ∧
  (∃ (s : State) (path : Path), s.node.powered = true ∧ s.node.islandDown 8 = false ∧ s.node.updDenied path = none ∧ s.node.vault.session ≠ none) ∧
  (∃ (s : State) (path : Path) (u : UpdSession) (ofs : Nat) (bytes : List Byte), s.node.powered = true ∧ s.node.islandDown 8 = false ∧
      s.node.updDenied path = none ∧ s.node.ownsSession path = true ∧ s.node.vault.session = some u ∧ bytes.length ≤ 4096 ∧ ofs + bytes.length ≤
      slotSize ∧ ofs = s.node.rd F.UPD_NEXT) ∧
  (∃ (s : State) (path : Path), s.node.powered = true ∧ s.node.islandDown 8 = false ∧ s.node.updDenied path = none ∧ s.node.ownsSession path =
      true) ∧
  (∃ (s : State) (path : Path), s.node.powered = true ∧ s.node.islandDown 8 = false ∧ s.node.updDenied path = none ∧ s.node.ownsSession path =
      true) ∧
  (∃ (s : State) (path : Path) (slotB : Bool) (k : Nat), s.node.powered = true ∧ s.node.islandDown 8 = false ∧ s.node.updDenied path = none ∧ (k
      = if slotB = true then 1 else 0) ∧ s.node.vault.session = none ∧ s.node.slotState k = 2 ∧ s.node.slotIn 3 = none ∧ s.node.canRestart = true) ∧
  (∃ (s : State) (path : Path) (k : Nat), s.node.powered = true ∧ s.node.islandDown 8 = false ∧ s.node.updDenied path = none ∧ s.node.slotIn 3 =
      some k ∧ s.node.vault.trialSince ≠ none) ∧
  (∃ (s : State) (k : Nat) (why : Option VintageFault), s.node.powered = true ∧ s.node.islandDown 8 = false ∧ s.node.vault.verifying = some k ∧
      s.node.slotRefusal k why = none) ∧
  (∃ (s : State) (k : Nat) (why : Option VintageFault) (r : Nat), s.node.powered = true ∧ s.node.islandDown 8 = false ∧ s.node.vault.verifying =
      some k ∧ s.node.slotRefusal k why = some r) ∧
  (∃ (s : State) (u : UpdSession), s.node.powered = true ∧ s.node.islandDown 8 = false ∧ s.node.vault.session = some u ∧ s.node.vault.verifying
      = none) ∧
  (∃ (s : State), s.node.powered = true ∧ s.node.islandDown 8 = false ∧ s.node.vault.trialSince ≠ none ∧ s.node.slotIn 3 ≠ none ∧
      s.node.canRestart = true) :=
  ⟨
   ⟨⟨updOpenNode1, []⟩, .register, true, by decide +kernel⟩,
   ⟨⟨updOpenNode2, []⟩, .register, by decide +kernel⟩,
   ⟨⟨updOpenNode2, []⟩, .register, by decide +kernel⟩,
   ⟨⟨updChunkNode4, []⟩, .register, ⟨.register, 1⟩, 0x3FFF000, [0], by decide +kernel⟩,
   ⟨⟨updOpenNode2, []⟩, .register, by decide +kernel⟩,
   ⟨⟨updOpenNode2, []⟩, .register, by decide +kernel⟩,
   ⟨⟨updActivateNode7, []⟩, .register, true, 1, by decide +kernel⟩,
   ⟨⟨updConfirmNode8, []⟩, .register, 1, by decide +kernel⟩,
   ⟨⟨slotVerifyDoneNode9, []⟩, 1, none, by decide +kernel⟩,
   ⟨⟨slotVerifyDoneNode10, []⟩, 1, some .layout, 1, by decide +kernel⟩,
   ⟨⟨updOpenNode2, []⟩, ⟨.register, 1⟩, by decide +kernel⟩,
   ⟨⟨updConfirmNode8, []⟩, by decide +kernel⟩⟩

def ownerChangeRecordNode1 : Node := { node with vnt := { node.vnt with sessions := [{ newSession (.maint 0) with role := 2 }] } }
def attestQuoteReadyNode7 : Node := { node with vault := { node.vault with quote := some ⟨1#256, false, []⟩ } }
def attestQuoteReadNode9 : Node := { node with vault := { node.vault with quote := some ⟨1#256, true, [1]⟩ } }
/-- States and operands meet the hypotheses of every clause of `Obligations.KeyCommandsComplete`. -/
theorem witness_KeyCommandsComplete :
  (∃ (s : State) (path : Path) (signer : Fin 4) (slot : Fin 4) (key : Option (BitVec 256)) (counter : Nat) (edOk : Bool) (mlOk : Bool),
      s.node.powered = true ∧ s.node.islandDown 8 = false ∧ 2 ≤ s.node.roleOf path ∧ s.node.standby = false ∧ s.node.owner signer.val ≠ none ∧ edOk
      = true ∧ mlOk = true ∧ counter = s.node.rollback 16 + 1 ∧ (key ≠ none ∨ ∃ k, k ≠ slot ∧ s.node.owner k.val ≠ none)) ∧
  (∃ (s : State) (path : Path) (signer : Fin 4) (edOk : Bool) (mlOk : Bool), s.node.powered = true ∧ s.node.islandDown 8 = false ∧ 2 ≤
      s.node.roleOf path ∧ s.node.standby = false ∧ (s.node.owner signer.val = none ∨ edOk = false ∨ mlOk = false)) ∧
  (∃ (s : State) (path : Path) (signer : Fin 4) (counter : Nat) (edOk : Bool) (mlOk : Bool), s.node.powered = true ∧ s.node.islandDown 8 = false
      ∧ 2 ≤ s.node.roleOf path ∧ s.node.standby = false ∧ s.node.owner signer.val ≠ none ∧ edOk = true ∧ mlOk = true ∧ counter ≠ s.node.rollback 16
      + 1) ∧
  (∃ (s : State) (path : Path) (signer : Fin 4) (slot : Fin 4) (key : Option (BitVec 256)) (counter : Nat) (edOk : Bool) (mlOk : Bool),
      s.node.powered = true ∧ s.node.islandDown 8 = false ∧ 2 ≤ s.node.roleOf path ∧ s.node.standby = false ∧ s.node.owner signer.val ≠ none ∧ edOk
      = true ∧ mlOk = true ∧ counter = s.node.rollback 16 + 1 ∧ key = none ∧ (∀ (k : Nat), k < 4 → k ≠ slot.val → s.node.owner k = none)) ∧
  (∃ (s : State) (path : Path) (role : Fin 4), s.node.powered = true ∧ s.node.islandDown 8 = false ∧ 1 ≤ role.val ∧ role.val ≤ 2 ∧ role.val ≤
      s.node.roleOf path ∧ s.node.standby = false) ∧
  (∃ (s : State), s.node.powered = true ∧ s.node.islandDown 8 = false ∧ s.node.standby = false) ∧
  (∃ (s : State) (q : Machine.Quote), s.node.powered = true ∧ s.node.islandDown 8 = false ∧ s.node.vault.quote = some q ∧ q.ready = false) ∧
  (∃ (s : State) (path : Path), s.node.powered = true ∧ s.node.islandDown 8 = false ∧ pathBox path = none ∧ path ≠ Path.register ∧
      (s.node.standby = true → pathKind path = 3 ∨ pathKind path = 4) ∧ s.node.quoteReady = none) ∧
  (∃ (s : State) (path : Path) (b : List Byte), s.node.powered = true ∧ s.node.islandDown 8 = false ∧ pathBox path = none ∧ path ≠ Path.register
      ∧ (s.node.standby = true → pathKind path = 3 ∨ pathKind path = 4) ∧ s.node.quoteReady = some b) :=
  ⟨
   ⟨⟨ownerChangeRecordNode1, []⟩, .maint 0, 0, 3, some 5#256, 1, true, true, by decide +kernel⟩,
   ⟨⟨ownerChangeRecordNode1, []⟩, .maint 0, 1, true, true, by decide +kernel⟩,
   ⟨⟨ownerChangeRecordNode1, []⟩, .maint 0, 0, 0, true, true, by decide +kernel⟩,
   ⟨⟨ownerChangeRecordNode1, []⟩, .maint 0, 0, 0, none, 1, true, true, by decide +kernel⟩,
   ⟨⟨ownerChangeRecordNode1, []⟩, .maint 0, 2, by decide +kernel⟩,
   ⟨⟨node, []⟩, by decide +kernel⟩,
   ⟨⟨attestQuoteReadyNode7, []⟩, ⟨1#256, false, []⟩, by decide +kernel⟩,
   ⟨⟨node, []⟩, .maint 0, by decide +kernel⟩,
   ⟨⟨attestQuoteReadNode9, []⟩, .maint 0, [1], by decide +kernel⟩⟩

def mstopCmdExitNode3 : Node := { node with maint := { node.maint with stopped := true } }
def loopCmdGoNode4 : Node := node.setting (F.PORT_MODE_MODE.at 15) 1
def loopCmdGoNode5 : Node := node.setting (F.PORT_MODE_MODE.at 15) 0
def loopCmdStopNode6 : Node := (node.wr (F.LOOP_RESULT_BUSY.at 15) 1).setPort 15 fun p => { p with loopback := true, loopCount := 1000 }
def mstopEntryNode7 : Node := { node with maint := { node.maint with requested := true } }
def mstopMemtestDoneNode8 : Node := { (node.wr F.MSTOP_STATUS_PHASE 2) with maint := { node.maint with stopped := true } }
/-- States and operands meet the hypotheses of every clause of `Obligations.MaintenanceCommandsComplete`. -/
theorem witness_MaintenanceCommandsComplete :
  (∃ (s : State) (by_ : Initiator), s.node.Reaches by_ 0 ∧ s.node.maint.stopped = false ∧ s.node.maint.requested = false ∧ s.node.mstopRefusal =
      none) ∧
  (∃ (s : State) (by_ : Initiator) (c : Nat), s.node.Reaches by_ 0 ∧ s.node.maint.stopped = false ∧ s.node.maint.requested = false ∧
      s.node.mstopRefusal = some c) ∧
  (∃ (s : State) (by_ : Initiator), s.node.Reaches by_ 0 ∧ s.node.maint.stopped = true ∧ s.node.canRestart = true) ∧
  (∃ (s : State) (by_ : Initiator) (port : Fin 16) (v : Word), s.node.Reaches by_ 0 ∧ F.LOOP_CMD_MODE.get v = 1 ∧ s.node.bit
      (F.LOOP_RESULT_BUSY.at port.val) = false ∧ s.node.loopRefused port.val = false) ∧
  (∃ (s : State) (by_ : Initiator) (port : Fin 16) (v : Word), s.node.Reaches by_ 0 ∧ F.LOOP_CMD_MODE.get v = 1 ∧ s.node.bit
      (F.LOOP_RESULT_BUSY.at port.val) = false ∧ s.node.loopRefused port.val = true) ∧
  (∃ (s : State) (by_ : Initiator) (port : Fin 16), s.node.Reaches by_ 0 ∧ s.node.bit (F.LOOP_RESULT_BUSY.at port.val) = true) ∧
  (∃ (s : State), s.node.maint.requested = true ∧ s.node.power = Power.run) ∧
  (∃ (s : State), s.node.maint.stopped = true ∧ s.node.rd F.MSTOP_STATUS_PHASE = 2) ∧
  (∃ (s : State) (port : Fin 16), s.node.bit (F.LOOP_RESULT_BUSY.at port.val) = true ∧ (s.node.port port.val).loopCount < 2 ^ 20) ∧
  (∃ (s : State), s.node.powered = true ∧ (s.node.supply.recovery = true ∨ s.node.maint.stopped = true)) ∧
  (∃ (s : State), s.node.powered = true ∧ s.node.supply.recovery = false ∧ s.node.maint.stopped = false) :=
  ⟨
   ⟨⟨node, []⟩, .host, by unfold Node.Reaches; decide +kernel⟩,
   ⟨⟨holdOutReleaseNode11, []⟩, .host, 1, by unfold Node.Reaches; decide +kernel⟩,
   ⟨⟨mstopCmdExitNode3, []⟩, .host, by unfold Node.Reaches; decide +kernel⟩,
   ⟨⟨loopCmdGoNode4, []⟩, .host, 15, F.LOOP_CMD_MODE.put 0#32 1, by unfold Node.Reaches; decide +kernel⟩,
   ⟨⟨loopCmdGoNode5, []⟩, .host, 15, F.LOOP_CMD_MODE.put 0#32 1, by unfold Node.Reaches; decide +kernel⟩,
   ⟨⟨loopCmdStopNode6, []⟩, .host, 15, by unfold Node.Reaches; decide +kernel⟩,
   ⟨⟨mstopEntryNode7, []⟩, by decide +kernel⟩,
   ⟨⟨mstopMemtestDoneNode8, []⟩, by decide +kernel⟩,
   ⟨⟨loopCmdStopNode6, []⟩, 15, by decide +kernel⟩,
   ⟨⟨mstopCmdExitNode3, []⟩, by decide +kernel⟩,
   ⟨⟨node, []⟩, by decide +kernel⟩⟩

/-- States and operands meet the hypotheses of every clause of `Obligations.PressSramErrors`. -/
theorem witness_PressSramErrors :
  (∃ (s : State), s.node.powered = true ∧ s.node.islandDown 3 = false) ∧
  (∃ (s : State) (p : Fin 16), s.node.powered = true ∧ s.node.islandDown 3 = false ∧ s.node.pressState p.val = 2 ∧ (s.node.press
      p.val).stopWaits = none ∧ s.node.slotIn 3 = none) :=
  ⟨
   ⟨⟨pressFaultNode23, []⟩, by decide +kernel⟩,
   ⟨⟨pressCmdStopNode4, []⟩, 15, by decide +kernel⟩⟩
/-! ### Witnesses of the general statements -/

/-- The node with one waiting command. -/
def waiting : State := ⟨node, [.holdupReady 33000#16]⟩
theorem witness_StepRunsTheFrontCommand : ∃ (c : Instr) (rest : List Instr) (s : State), s.pending = c :: rest :=
  ⟨.holdupReady 33000#16, [], waiting, rfl⟩
/-- The node at a raw counter, group 0x11 waiting for fabric slot 0. -/
def slotWaits (raw : Nat) : Node := { node.setPhase 0x11 (.slotZero true) with time := { node.time with raw := BitVec.ofNat 64 raw } }
theorem witness_EmptyQueuePassesOneClock :
    (∃ s : State, s.pending = [] ∧ s.node.powered = true ∧ s.node.phase 0x11 = .idle) ∧
    (∃ s : State, s.pending = [] ∧ s.node.powered = true ∧ s.node.phase 0x11 = .slotZero true ∧
      Node.slotZero { s.node with time := { s.node.time with raw := s.node.time.raw + 1#64 } } = false) ∧
    (∃ s : State, s.pending = [] ∧ s.node.powered = true ∧ s.node.phase 0x11 = .slotZero true ∧
      Node.slotZero { s.node with time := { s.node.time with raw := s.node.time.raw + 1#64 } } = true) ∧
    ∃ s : State, s.pending = [] ∧ s.node.powered = false :=
  ⟨⟨⟨node, []⟩, by decide +kernel⟩, ⟨⟨slotWaits 510, []⟩, by decide +kernel⟩, ⟨⟨slotWaits 511, []⟩, by decide +kernel⟩, State.reset,
   by decide +kernel⟩
theorem witness_StepsKeepTheStoreCanonical : ∃ s t : State, s.node.store.wf = true ∧ step s = .next t :=
  ⟨waiting, _, by decide +kernel, rfl⟩
theorem witness_FirstPressingIsNeverRewritten : ∃ s t : State, s.node.store.wf = true ∧ step s = .next t :=
  witness_StepsKeepTheStoreCanonical
theorem witness_VendorKeyNeverChanges : ∃ s t : State, s.node.store.wf = true ∧ step s = .next t :=
  witness_StepsKeepTheStoreCanonical
theorem witness_CommandsChangeOnlyTheirParts :
    ∃ (c : Instr) (s t : State) (p : Part), exec c s = .next t ∧ p ∉ touches c :=
  ⟨.holdupReady 33000#16, waiting, _, .cellar, rfl, by decide +kernel⟩

/-- The node with one token left of event 0x0013, with none, and with a full queue. -/
def lastToken (missing : Nat) : Node :=
  { node.setting (F.RATE_DEPTH.at 0x0013) 4 with book := { node.book with missing := [(0x0013, missing)] } }
def fullQueue : Node :=
  { node with book := { node.book with queue := List.replicate 256 ⟨1, 0, false, false, false, 0, 0, 0, 0, 0, [], false, 0⟩ } }
theorem witness_EventsAreAdmittedByTokens :
    (∃ n : Node, n.Admits 0x0013 ∧ n.cf (F.RATE_DEPTH.at 0x0013) ≠ 0 ∧ n.cf (F.RATE_DEPTH.at 0x0013) = n.missing 0x0013 + 1) ∧
    (∃ n : Node, n.cf (F.RATE_DEPTH.at 0x0013) ≠ 0 ∧ n.cf (F.RATE_DEPTH.at 0x0013) ≤ n.missing 0x0013) ∧
    (∃ n : Node, (n.cf (F.RATE_DEPTH.at 0x0013) = 0 ∨ n.missing 0x0013 < n.cf (F.RATE_DEPTH.at 0x0013)) ∧ 256 ≤ n.book.queue.length) ∧
    ∃ (n : Node) (v : Nat), vectorOf 0x0013 = some v ∧ n.host.inReset = false :=
  ⟨⟨lastToken 3, by unfold Node.Admits; decide +kernel⟩,
   ⟨lastToken 4, by decide +kernel⟩, ⟨fullQueue, by decide +kernel⟩, node, 2, by decide +kernel⟩
/-- Where a completion statement says what is recorded if the event is admitted, the running node admits it. -/
theorem witness_Admits :
    ∀ code ∈ [0x0011, 0x0013, 0x0103, 0x0109, 0x0303, 0x0407, 0x0603, 0x060A, 0x060B, 0x0709, 0x0D20, 0x0D21, 0x0D22, 0x0D25, 0x0D30, 0x0D31,
      0x0D32, 0x0E03, 0x0E04], node.Admits code := by
  unfold Node.Admits; decide +kernel
theorem witness_BlendFieldsReadBack :
    ∃ (data : List Byte) (ofs len k : Nat), ofs / 8 + fieldBytes ofs len ≤ data.length ∧ (k < ofs / 8 ∨ ofs / 8 + fieldBytes ofs len ≤ k) :=
  ⟨[1, 2, 3, 4], 23, 9, 0, by decide +kernel⟩
theorem witness_HighWordsComeFromTheReadersLatch :
    (∃ (n : Node) (a : Nat), n.place a = .word a ∧ windowOf a = none ∧ timeView a = none ∧ rowHas a (·.rc) = false ∧
      (a < 0xA00220 ∨ 0xA0022C < a) ∧ isHighWord a = true) ∧
    (∃ (n : Node) (a : Nat), n.place a = .word a ∧ windowOf a = none ∧ timeView a = none ∧ rowHas a (·.rc) = false ∧
      (a < 0xA00220 ∨ 0xA0022C < a) ∧ isHighWord a = false ∧ isLowWord a = true) ∧
    (∃ (n : Node) (b x : Nat), n.place b = .mirror x ∧ windowOf b = none ∧ timeView b = none ∧ (x < 0xA00220 ∨ 0xA0022C < x) ∧
      rowHas x (·.sh != 0) = true ∧ isHighWord x = true) ∧
    (∃ (n : Node) (b x : Nat), n.place b = .mirror x ∧ windowOf b = none ∧ timeView b = none ∧ (x < 0xA00220 ∨ 0xA0022C < x) ∧
      rowHas x (·.sh != 0) = true ∧ isHighWord x = false ∧ isLowWord x = true) ∧
    (∃ (n : Node) (b x : Nat), n.place b = .mirror x ∧ windowOf b = none ∧ timeView b = none ∧ (x < 0xA00220 ∨ 0xA0022C < x) ∧
      rowHas x (·.sh != 0) = false ∧ isHighWord x = true) ∧
    ∃ by_ other : Initiator, initiatorIx other ≠ initiatorIx by_ :=
  ⟨⟨node, F.RAW_LO.addr + 4, by decide +kernel⟩, ⟨node, F.RAW_LO.addr, by decide +kernel⟩,
   ⟨node, 0x280018, 0x200018, by decide +kernel⟩, ⟨node, 0x280018 - 4, 0x200018 - 4, by decide +kernel⟩,
   ⟨node, 0x980000 + (F.RAW_LO.addr + 4 - 0x900000), F.RAW_LO.addr + 4, by decide +kernel⟩, .host, .maint, by decide⟩
/-- The node with an update session of slot 1 over a path. -/
def updating (path : Path) : Node := { node with vault := { node.vault with session := some ⟨path, 1⟩ } }
/-- The commands of the frame statements answer next states. -/
theorem witness_SupplyOutputAndLinkFrames :
    ∀ c ∈ [Instr.dipStart 13999#16, .dipEnd 9 13000 16000#16, .interruptionStart 4000#16, .interruptionRiddenThrough 9000#16,
      .holdupReady 33000#16, .holdupNotReady 29000#16, .baseplate88c 880#16, .dieTempHigh 7 1150#16 true, .railExcursion 11 0#16 true,
      .railRecovered 11 1000#16, .vintnerSramError true, .retryStart 23, .inrushWindowClose 23 true 5,
      .retryWindowClose 23, .thermalLatchRelease 23 0 0, .retryAttemptFail 23 0, .thermalLatchSet 23 0 0 0, .openLoadDetect 23, .stbDetect 23,
      .outHoldExpiry [(3, 7)], .vloadLow true 0, .vloadRecover true, .vloadNoSupply true true, .phyLinkOk 15 (portDefault 0).info,
      .linkAttemptFailed 15 .halfDuplex, .wakeEmissionEnd 3, .lateCollision 1], ∃ s t : State, exec c s = .next t := by
  repeat' first | exact List.forall_mem_nil _ | refine List.forall_mem_cons.2 ⟨⟨waiting, _, rfl⟩, ?_⟩
theorem witness_TimeCanAndBookFrames :
    ∀ c ∈ [Instr.clk10Loss, .clk10Return, .ppsInMissing, .activeTimeSlewEnd, .trellisSlewEnd, .scheduleBankCopyDone, .blendBankCopyDone,
      .hostIrq 0, .actionComplete 0 0, .testSuspended 0#8, .canTxPush 7 0#16 canFrame, .canTxCancel 7 0#16 true, .canArbLost 7 true true,
      .canErrorDetected 7 .bit1 true true true 8 1, .canRecoveryDone 7, .canIntegrated 7, .canCmdClearIdc .host 0#16 7,
      .canCmdRecover (some .host) 0#16 7, .recordWrite, .pointerBlockTick, .readoutComplete, .freezeLimitExpiry, .attestQuoteReady,
      .updSessionTimeout, .slotVerifyDone none], ∃ s t : State, exec c s = .next t := by
  repeat' first | exact List.forall_mem_nil _ | refine List.forall_mem_cons.2 ⟨⟨waiting, _, rfl⟩, ?_⟩
theorem witness_PairHostAndMaintenanceFrames :
    ∀ c ∈ [Instr.rackLinkDown, .leaseExpiry, .holdDisagree, .holdOutRelease, .corkRenewalTx, .claimTimeout, .digestCompare 0#13 0#64,
      .replierTimeout 255, .commitGo .host 0x30, .mcCommitGo .host 0, .deviceReadTimeout 0#64 (.container 0), .qspiDiscardExpiry 3, .lateRead 0,
      .pcieLinkUp 3 3, .mstopCmdEnter .host 0#16, .tapInstruction .bypass, .loopbackDone 15 0 0], ∃ s t : State, exec c s = .next t := by
  repeat' first | exact List.forall_mem_nil _ | refine List.forall_mem_cons.2 ⟨⟨waiting, _, rfl⟩, ?_⟩
theorem witness_BufferMemoryFrames :
    (∃ (s t : State) (owner : FabricOwner) (slot : Fin 16) (a : Nat), fabricInitiator owner .outputs = none ∧
      exec (.fabricTransaction owner slot .outputs true 0 [1] 0) s = .next t ∧ (fabricHome .outputs).1 + 0 + 1 ≤ a) ∧
    (∃ (s t : State) (owner : FabricOwner) (a : Nat), fabricInitiator owner .pressImages = none ∧
      exec (.fabricTransaction owner 0 .pressImages true 0x10 [1] 0) s = .next t ∧ 4 ≤ a % 0x10000 ∧ (fabricHome .pressImages).1 + 0x11 ≤ a) ∧
    (∃ (s t : State) (owner : FabricOwner), fabricInitiator owner .outputs = none ∧
      exec (.fabricTransaction owner 0 .outputs false 0 [] 4) s = .next t) ∧
    (∃ (s t : State) (u : UpdSession) (a o : Nat), s.node.vault.session = some u ∧ o = s.node.rd F.UPD_NEXT ∧
      exec (.updChunk .register 4 [1]) s = .next t ∧ slotBase u.slot + o + 1 ≤ a) ∧
    ∃ (s t : State) (path : Path) (u : UpdSession) (a : Nat), path ≠ .register ∧ s.node.vault.session = some u ∧
      exec (.updChunk path 4 [1]) s = .next t ∧ a < slotBase u.slot + 4 :=
  ⟨⟨waiting, _, .blend, 0, _, rfl, rfl, Nat.le_refl _⟩, ⟨waiting, _, .blend, (fabricHome .pressImages).1 + 0x14, rfl, rfl, by decide, by decide⟩,
   ⟨waiting, _, .blend, rfl, rfl⟩,
   ⟨⟨updating .register, []⟩, _, ⟨.register, 1⟩, _, _, rfl, rfl, rfl, Nat.le_refl _⟩,
   ⟨updating (.maint 0), []⟩, _, .maint 0, ⟨.maint 0, 1⟩, slotBase 1 + 3, by decide, rfl, rfl, Nat.lt_succ_self _⟩

end Sys2Proof.Tests
end

section
/-! The high-word latch of each initiator (R6, R88, R91): what a read of a register or of a mirror does to it. -/

namespace Sys2Proof.Machine

variable (n : Node) (by_ : Initiator) (a : Nat)

/-! ### The latch -/

theorem Node.highLatched_congr {n m : Node} (h : m.hiLatch = n.hiLatch) (by_ : Initiator) : m.highLatched by_ = n.highLatched by_ := by
  simp only [Node.highLatched, h]

@[simp] theorem Node.highLatched_latchHigh_self (v : Word) : (n.latchHigh by_ v).highLatched by_ = v :=
  SMap.get_set_self ..

theorem Node.highLatched_latchHigh_ne {by_ other : Initiator} (h : initiatorIx other ≠ initiatorIx by_) (v : Word) :
    (n.latchHigh other v).highLatched by_ = n.highLatched by_ :=
  SMap.get_set_ne _ _ _ h.symm

/-! Reads that do not touch it: the frame lemmas of `Laws/Only.lean` for the part `hiLatch`. -/

@[simp] theorem Node.tookIfFree_hiLatch : (n.tookIfFree a).hiLatch = n.hiLatch :=
  Node.tookIfFree_only (pt := .hiLatch) rfl n a (.refl _ n)

theorem Node.eqPop_hiLatch : (n.eqPop by_).1.hiLatch = n.hiLatch :=
  Node.eqPop_only (pt := .hiLatch) rfl n by_ (.refl _ n)

theorem Node.readWindow_hiLatch (window e w : Nat) : (n.readWindow by_ a window e w).1.hiLatch = n.hiLatch :=
  Node.readWindow_only (pt := .hiLatch) rfl n by_ a window e w (.refl _ n)

@[simp] theorem Node.highLatched_tookIfFree : (n.tookIfFree a).highLatched by_ = n.highLatched by_ :=
  Node.highLatched_congr (n.tookIfFree_hiLatch a) by_

/-! ### A read by another initiator -/

theorem Node.readView_highLatched_ne {by_ other : Initiator} (h : initiatorIx other ≠ initiatorIx by_) (v o : Nat) :
    (n.readView other a v o).1.highLatched by_ = n.highLatched by_ := by
  unfold Node.readView
  by_cases ho : o = 0x08
  · subst ho; rfl
  · cases n.timeLatched other v with
    | some l => simp only [ho, if_false]
    | none =>
      simp only [ho, if_false]
      split
      · exact n.highLatched_latchHigh_ne h _
      · split
        · exact n.highLatched_latchHigh_ne h _
        · split
          · rfl
          · rfl

theorem Node.readReg_highLatched_ne {by_ other : Initiator} (h : initiatorIx other ≠ initiatorIx by_) (p : Place) (sameClock : Bool) :
    (n.readReg other a p sameClock).1.highLatched by_ = n.highLatched by_ := by
  simp only [Node.readReg]
  split
  case isTrue pop => exact Node.highLatched_congr (n.eqPop_hiLatch other) by_
  case isFalse =>
    split
    case isTrue popWord => rfl
    case isFalse =>
      split
      case isTrue clears => rfl
      case isFalse =>
        split
        case isTrue high => rfl
        case isFalse =>
          split
          case isTrue low => exact n.highLatched_latchHigh_ne h _
          case isFalse => rfl

/-- One initiator's read never disturbs another's latch (R91). -/
theorem Node.readWord_highLatched_ne {by_ other : Initiator} (h : initiatorIx other ≠ initiatorIx by_) (sameClock : Bool) :
    (n.readWord other a sameClock).1.highLatched by_ = n.highLatched by_ := by
  unfold Node.readWord
  split
  · simpa using Node.highLatched_congr (n.readWindow_hiLatch other a _ _ _) by_
  · split
    · exact n.readView_highLatched_ne a h _ _
    · split <;> simp [Node.readReg_highLatched_ne n a h]

/-! ### A read of a plain register -/

/-- A register or a mirror whose read neither pops the event queue (R396) nor clears a counter (R92). -/
inductive Place.Plain : Place → Prop
  | mirror (x : Nat) : Place.Plain (.mirror x)
  | word {x : Nat} (noPop : x < 0xA00220 ∨ 0xA0022C < x) (noClear : rowHas x (·.rc) = false) : Place.Plain (.word x)

theorem Node.readReg_of_plain {p : Place} (hp : p.Plain) (sameClock : Bool) :
    n.readReg by_ a p sameClock =
      if isHighWord p.home && p.shows then (n, n.highLatched by_)
      else if isLowWord p.home && p.shows then (n.latchHigh by_ (n.peek (a + 4)), n.peek a)
      else (n, n.peek a) := by
  cases hp with
  | mirror x => simp [Node.readReg]
  | @word x noPop noClear =>
    have notHead : x ≠ 0xA00220 := by omega
    have notRest : ¬(0xA00224 ≤ x ∧ x ≤ 0xA0022C) := by omega
    simp only [Node.readReg, Place.home, Place.word.injEq, notHead, noClear, if_false, and_true, notRest, and_false, Bool.false_eq_true]

section
variable {n a} (hw : windowOf a = none) (ht : timeView a = none) (hp : (n.place a).Plain) (sameClock : Bool)
include hw ht hp

theorem Node.readWord_of_plain :
    n.readWord by_ a sameClock =
      ((n.readReg by_ a (n.place a) sameClock).1.tookIfFree a, (n.readReg by_ a (n.place a) sameClock).2) := by
  simp only [Node.readWord, hw, ht]
  generalize n.place a = p at hp
  cases hp <;> rfl

theorem Node.readWord_of_high (hh : isHighWord (n.place a).home = true) (hs : (n.place a).shows = true) :
    (n.readWord by_ a sameClock).2 = n.highLatched by_ ∧ (n.readWord by_ a sameClock).1.hiLatch = n.hiLatch := by
  simp [Node.readWord_of_plain by_ hw ht hp, Node.readReg_of_plain n by_ a hp, hh, hs]

theorem Node.readWord_of_low (hh : isHighWord (n.place a).home = false) (hl : isLowWord (n.place a).home = true)
    (hs : (n.place a).shows = true) :
    (n.readWord by_ a sameClock).2 = n.peek a ∧ (n.readWord by_ a sameClock).1.highLatched by_ = n.peek (a + 4) := by
  simp [Node.readWord_of_plain by_ hw ht hp, Node.readReg_of_plain n by_ a hp, hh, hl, hs]

theorem Node.readWord_of_not_shows (hs : (n.place a).shows = false) : (n.readWord by_ a sameClock).2 = n.peek a := by
  simp [Node.readWord_of_plain by_ hw ht hp, Node.readReg_of_plain n by_ a hp, hs]

end

/-- Settles O55. The clauses about one read are the cases of `Node.readReg_of_plain`, at a register and at a mirror; the frame over other
initiators is `Node.readWord_highLatched_ne`. -/
theorem highWordsComeFromTheReadersLatch : Obligations.HighWordsComeFromTheReadersLatch := by
  intro n by_ a hplace hw ht hrc hpop
  have hp : (n.place a).Plain := hplace ▸ .word hpop hrc
  refine ⟨fun hh => ?_, fun hh hl => ?_, fun b x hplace hw ht _ => ?_, fun other x same h => ?_, rfl⟩
  · exact Node.readWord_of_high by_ hw ht hp false (by rwa [hplace]) (by rw [hplace]; rfl)
  · exact Node.readWord_of_low by_ hw ht hp false (by rwa [hplace]) (by rwa [hplace]) (by rw [hplace]; rfl)
  · have hp : (n.place b).Plain := hplace ▸ .mirror x
    refine ⟨fun hs hh => ?_, fun hs hh hl => ?_, fun hs => ?_⟩
    · exact (Node.readWord_of_high by_ hw ht hp false (by rwa [hplace]) (by rwa [hplace])).1
    · exact (Node.readWord_of_low by_ hw ht hp false (by rwa [hplace]) (by rwa [hplace]) (by rwa [hplace])).2
    · exact Node.readWord_of_not_shows by_ hw ht hp false (by rwa [hplace])
  · exact n.readWord_highLatched_ne x h same

end Sys2Proof.Machine
end

section
/-! Press faults (R270, R290, R292): what stopping, failing and reloading a Press do to the register map, and what an SRAM error does. -/

namespace Sys2Proof.Machine

variable (n : Node)

/-! ### Frames of the register map -/

/-- A node whose registers are the same reads the same words. -/
theorem Node.Same.word {n m : Node} (h : n.Same .regs m) (b : Nat) : m.word b = n.word b := by
  rw [Node.word, show m.store.regs = n.store.regs from h]; rfl

theorem Node.word_each {α : Type} (l : List α) (f : α → Node → Node) {b : Nat} (hf : ∀ a ∈ l, ∀ m, (f a m).word b = m.word b) :
    (n.each l f).word b = n.word b :=
  List.foldlRecOn (motive := fun m => m.word b = n.word b) l (fun m a => f a m) rfl fun m hm a ha => (hf a ha m).trans hm

theorem Node.word_setImgBit (p k : Nat) (v : Bool) (b : Nat) : (n.setImgBit p k v).word b = n.word b :=
  (Node.setImgBit_only rfl n p k v (.refl .regs n)).word b

theorem Node.word_setPress (p : Nat) (f : Press → Press) (b : Nat) : (n.setPress p f).word b = n.word b := rfl

theorem Node.word_addFault (c : FaultCause) (b : Nat) : (n.addFault c).word b = n.word b :=
  (Node.addFault_only rfl n c (.refl .regs n)).word b

theorem Node.word_canStop (c p : Nat) {b : Nat} (flush : b ≠ CNT_CAN_FLUSH p) (status : b ≠ (F.CAN_STATUS_STATE.at c).addr) :
    (n.canStop c p).word b = n.word b :=
  (Node.word_wr_ne _ _ _ status).trans (n.word_countBy_ne _ _ flush)

theorem Node.word_actionDone (e lateNs : Nat) {b : Nat} (h : b ∉ [CNT_WINDOW_OVERRUN, F.OVERRUN_LAST_ENTRY.addr] ++ eventWords) :
    (n.actionDone e lateNs).word b = n.word b := by
  simp only [eventWords, List.cons_append, List.nil_append, List.mem_cons, List.not_mem_nil, or_false, not_or] at h
  obtain ⟨overrun, last, suppr, full⟩ := h
  unfold Node.actionDone Node.when
  split
  · split
    · rw [Node.word_raise _ _ _ suppr full, Node.word_wr_ne _ _ _ last, Node.word_count_ne _ _ overrun]; rfl
    · rfl
  · rfl

theorem Node.word_endCycle (p lateNs : Nat) {b : Nat} (h : b ∉ [CNT_WINDOW_OVERRUN, F.OVERRUN_LAST_ENTRY.addr] ++ eventWords) :
    (n.endCycle p lateNs).word b = n.word b := by
  unfold Node.endCycle
  split
  · exact n.word_actionDone _ _ h
  · rfl

theorem Node.word_setPressState (p v : Nat) {b : Nat} (state : b ≠ (F.PRESS_STATE_STATE.at p).addr) (summary : b ≠ (pressFailed p).addr) :
    (n.setPressState p v).word b = n.word b := by
  simp only [Node.setPressState]
  exact (Node.word_setImgBit ..).trans <| (Node.word_wrBit_ne _ _ _ summary).trans <|
    (Node.word_wrBit_ne _ ⟨0x600000, p, 1, 4⟩ _ summary).trans (n.word_wr_ne _ _ state)

/-- A measurement register takes 32 bytes. -/
theorem Node.word_extendMeas (k : Nat) (d : BitVec 256) {b : Nat} (h : b < measAddr k) : (n.extendMeas k d).word b = n.word b := by
  refine SMap.get_setAll_not_mem _ _ _ _ fun hb => ?_
  simp only [List.map_map, List.mem_map, Function.comp_apply] at hb
  obtain ⟨j, -, rfl⟩ := hb
  omega

/-! ### Stopping a Press (R290) -/

/-- The registers that stopping Press `p` may write. -/
def pressStopWords (p : Nat) : List Nat :=
  [CNT_WINDOW_OVERRUN, F.OVERRUN_LAST_ENTRY.addr] ++ eventWords ++
    [CNT_CAN_FLUSH p, (F.PRESS_STATE_STATE.at p).addr, (pressFailed p).addr] ++ (List.range 8).map fun c => (F.CAN_STATUS_STATE.at c).addr

theorem not_mem_pressStopWords_iff {p b : Nat} : b ∉ pressStopWords p ↔
    b ∉ [CNT_WINDOW_OVERRUN, F.OVERRUN_LAST_ENTRY.addr] ++ eventWords ∧ (b ≠ CNT_CBK_SUPPR ∧ b ≠ CNT_CBK_QOVF) ∧ b ≠ CNT_CAN_FLUSH p ∧
      b ≠ (F.PRESS_STATE_STATE.at p).addr ∧ b ≠ (pressFailed p).addr ∧ ∀ c < 8, b ≠ (F.CAN_STATUS_STATE.at c).addr := by
  simp only [pressStopWords, eventWords, List.mem_append, List.mem_cons, List.not_mem_nil, or_false, not_or, List.mem_map, List.mem_range,
    not_exists, not_and, ne_eq, eq_comm (b := b)]
  constructor
  · rintro ⟨⟨overrun, flush, state, summary⟩, status⟩
    exact ⟨overrun, overrun.2, flush, state, summary, status⟩
  · rintro ⟨overrun, -, flush, state, summary, status⟩
    exact ⟨⟨overrun, flush, state, summary⟩, status⟩

/-- What the stop does before it enters the state Stopped and is recorded. -/
def Node.pressSilenced (n : Node) (p lateNs : Nat) : Node :=
  let n := (n.endCycle p lateNs).dropFault (.press p)
  let n := n.clearBytes (imageBase p) 256
  let n := n.each (n.unitsOf p) fun u n => n.lineSilent u
  let n := n.each (n.cansOf p) fun c n => n.canStop c p
  n.setPress p fun s => { s with stopWaits := none, rxQueue := [] }

theorem Node.stopPress_eq (p cause lateNs : Nat) :
    n.stopPress p cause lateNs =
      (((n.pressSilenced p lateNs).setPressState p 3).wr (F.PRESS_STATE_LAST_CAUSE.at p) cause).raise 0x0602 [p, cause] := rfl

theorem Node.word_pressSilenced (p lateNs : Nat) {b : Nat} (h : b ∉ pressStopWords p) : (n.pressSilenced p lateNs).word b = n.word b := by
  obtain ⟨overrun, -, flush, -, -, status⟩ := not_mem_pressStopWords_iff.1 h
  simp only [Node.pressSilenced]
  rw [Node.word_setPress, Node.word_each]
  · refine Eq.trans (Node.Same.word ?_ b) (n.word_endCycle p lateNs overrun)
    exact Node.each_only _ _ _ (Node.clearBytes_only rfl _ _ _ (Node.dropFault_only rfl _ _ (.refl ..))) fun _ _ => Node.lineSilent_only rfl _ _
  · intro c hc m
    exact m.word_canStop c p flush (status c (List.mem_range.1 (List.mem_filter.1 hc).1))

theorem Node.word_stopPress (p cause lateNs : Nat) {b : Nat} (h : b ∉ pressStopWords p) : (n.stopPress p cause lateNs).word b = n.word b := by
  obtain ⟨-, ⟨suppr, full⟩, -, state, summary, -⟩ := not_mem_pressStopWords_iff.1 h
  rw [Node.stopPress_eq, Node.word_raise _ _ _ suppr full, Node.word_wr_ne _ (F.PRESS_STATE_LAST_CAUSE.at p) _ state,
    Node.word_setPressState _ _ _ state summary, n.word_pressSilenced p lateNs h]

/-! ### STATE and LAST_CAUSE of a Press -/

theorem pressState_addr_ne_summary (p : Nat) : (F.PRESS_STATE_STATE.at p).addr ≠ 0x600000 := by simp only [Field.at]; omega

@[simp] theorem Node.pressState_setPressState (p v : Nat) : (n.setPressState p v).pressState p = v % 16 := by
  have summary := pressState_addr_ne_summary p
  simp only [Node.setPressState, Node.pressState]
  rw [Node.rd, Node.word_setImgBit, ← Node.rd, Node.rd_wrBit_ne _ _ _ _ summary, Node.rd_wrBit_ne _ _ _ _ summary]
  exact n.rd_wr _ v (by decide : 0 + 4 ≤ 32)

/-- Entering a state leaves LAST_CAUSE, which stands beside STATE in the same word. -/
@[simp] theorem Node.lastCause_setPressState (p v : Nat) :
    (n.setPressState p v).rd (F.PRESS_STATE_LAST_CAUSE.at p) = n.rd (F.PRESS_STATE_LAST_CAUSE.at p) := by
  have summary := pressState_addr_ne_summary p
  simp only [Node.setPressState]
  rw [Node.rd, Node.word_setImgBit, ← Node.rd, Node.rd_wrBit_ne _ _ _ _ summary, Node.rd_wrBit_ne _ _ _ _ summary]
  exact n.rd_wr_beside _ _ v (by decide : 0 + 4 ≤ 32) rfl (.inr (by decide : 0 + 4 ≤ 24))

@[simp] theorem Node.lastCause_wr_lastCause (p cause : Nat) :
    (n.wr (F.PRESS_STATE_LAST_CAUSE.at p) cause).rd (F.PRESS_STATE_LAST_CAUSE.at p) = cause % 256 :=
  n.rd_wr _ cause (by decide : 24 + 8 ≤ 32)

@[simp] theorem Node.pressState_wr_lastCause (p cause : Nat) :
    (n.wr (F.PRESS_STATE_LAST_CAUSE.at p) cause).pressState p = n.pressState p :=
  n.rd_wr_beside _ _ cause (by decide : 24 + 8 ≤ 32) rfl (.inl (by decide : 0 + 4 ≤ 24))

section
variable {p : Nat} (hp : p < 16)
include hp

/-- An event leaves the state word of a Press. -/
theorem Node.rd_raise_of_pressState {f : Field} (hf : f.addr = 0x600300 + 4 * p) (code : Nat) (payload : List Nat) :
    (n.raise code payload).rd f = n.rd f :=
  n.rd_raise code payload (by simp only [CNT_CBK_SUPPR]; omega) (by simp only [CNT_CBK_QOVF]; omega)

theorem Node.pressState_raise (code : Nat) (payload : List Nat) : (n.raise code payload).pressState p = n.pressState p :=
  n.rd_raise_of_pressState hp rfl code payload

theorem Node.lastCause_raise (code : Nat) (payload : List Nat) :
    (n.raise code payload).rd (F.PRESS_STATE_LAST_CAUSE.at p) = n.rd (F.PRESS_STATE_LAST_CAUSE.at p) :=
  n.rd_raise_of_pressState hp rfl code payload

theorem Node.pressState_stopPress (cause lateNs : Nat) : (n.stopPress p cause lateNs).pressState p = 3 := by
  simp [Node.stopPress_eq, Node.pressState_raise _ hp]

theorem Node.lastCause_stopPress (cause lateNs : Nat) :
    (n.stopPress p cause lateNs).rd (F.PRESS_STATE_LAST_CAUSE.at p) = cause % 256 := by
  simp [Node.stopPress_eq, Node.lastCause_raise _ hp]

/-- A stop writes neither the Press's fault counter nor the word with the states of the slots. -/
theorem not_mem_pressStopWords {b : Nat} (h : b = CNT_PRS_FAULT p ∨ b = F.SEC_STATUS_STATE_A.addr) : b ∉ pressStopWords p := by
  intro hb
  simp only [pressStopWords, eventWords, pressFailed, Field.at, CNT_WINDOW_OVERRUN, CNT_CBK_SUPPR, CNT_CBK_QOVF, CNT_CAN_FLUSH, CNT_PRS_FAULT,
    List.mem_append, List.mem_cons, List.not_mem_nil, or_false, List.mem_map, List.mem_range] at h hb
  rcases hb with hb | ⟨c, hc, rfl⟩ <;> omega

end

/-! ### The automatic reloads of the last 60 minutes (R292) -/

/-- AUTO_USED is a function of the operating time and of the list of reloads. -/
theorem Node.autoUsed_congr {n m : Node} {p : Nat} (base : m.book.baseMs = n.book.baseMs) (time : m.time = n.time)
    (reloads : (m.press p).reloads = (n.press p).reloads) : m.autoUsed p = n.autoUsed p := by
  have millis : m.runMillis = n.runMillis := by simp only [Node.runMillis, Node.now, base, time]
  simp [Node.autoUsed, millis, reloads]

@[simp] theorem Node.setPressState_book (p v : Nat) : (n.setPressState p v).book = n.book :=
  Node.setPressState_only (pt := .book) rfl n p v (.refl ..)

@[simp] theorem Node.setPressState_presses (p v : Nat) : (n.setPressState p v).presses = n.presses :=
  Node.setPressState_only (pt := .presses) rfl n p v (.refl ..)

theorem Node.Same.press {n m : Node} (h : n.Same .presses m) (p : Nat) : m.press p = n.press p := by
  rw [Node.press, show m.presses = n.presses from h]; rfl

@[simp] theorem Node.press_setPress_self (p : Nat) (f : Press → Press) : (n.setPress p f).press p = f (n.press p) := SMap.get_set_self ..

@[simp] theorem Node.enqueue_baseMs (r : Record) : (n.enqueue r).book.baseMs = n.book.baseMs := by
  unfold Node.enqueue; split <;> rfl

@[simp] theorem Node.logEvent_baseMs (code : Nat) (spec : Bool) (payload : List Nat) :
    (n.logEvent code spec payload).book.baseMs = n.book.baseMs := by
  simp only [Node.logEvent]
  split
  · rfl
  · simp

@[simp] theorem Node.raise_baseMs (code : Nat) (payload : List Nat) : (n.raise code payload).book.baseMs = n.book.baseMs := by
  simp only [Node.raise, Node.raiseAs]
  split <;> simp

@[simp] theorem Node.actionDone_baseMs (e lateNs : Nat) : (n.actionDone e lateNs).book.baseMs = n.book.baseMs := by
  unfold Node.actionDone Node.when
  split
  · split
    · simp
    · rfl
  · rfl

@[simp] theorem Node.endCycle_baseMs (p lateNs : Nat) : (n.endCycle p lateNs).book.baseMs = n.book.baseMs := by
  unfold Node.endCycle
  split
  · simp
  · rfl

@[simp] theorem Node.endCycle_reloads (p lateNs : Nat) : ((n.endCycle p lateNs).press p).reloads = (n.press p).reloads := by
  unfold Node.endCycle
  split
  · rw [Node.press_setPress_self, (Node.actionDone_only rfl n _ lateNs (.refl .presses n)).press p]
  · rfl

/-- Beside ending the cycle, silencing a Press changes its own record and the parts that its lines, controllers and window are in. -/
theorem Node.pressSilenced_eq (p lateNs : Nat) : ∃ m : Node,
    (∀ pt : Part, pt.off [.faults, .ram, .lineUnits, .cans, .regs] = true → (n.endCycle p lateNs).Same pt m) ∧
      n.pressSilenced p lateNs = m.setPress p fun s => { s with stopWaits := none, rxQueue := [] } := by
  refine ⟨_, fun pt h => ?_, rfl⟩
  refine Node.each_only _ _ _ (Node.each_only _ _ _ ?_ fun _ _ => Node.lineSilent_only (Part.off_sub h rfl) _ _) fun _ _ =>
    Node.canStop_only (Part.off_sub h rfl) _ _ _
  exact Node.clearBytes_only (Part.off_sub h rfl) _ _ _ (Node.dropFault_only (Part.off_sub h rfl) _ _ (.refl ..))

theorem Node.autoUsed_stopPress (p cause lateNs : Nat) : (n.stopPress p cause lateNs).autoUsed p = n.autoUsed p := by
  obtain ⟨m, same, hm⟩ := n.pressSilenced_eq p lateNs
  have base : m.book = (n.endCycle p lateNs).book := same .book rfl
  have press : m.press p = (n.endCycle p lateNs).press p := (same .presses rfl).press p
  refine Node.autoUsed_congr ?_ (Node.stopPress_only (pt := .time) rfl n p cause lateNs (.refl ..)) ?_
  · simp [Node.stopPress_eq, hm, base]
  · have : (n.stopPress p cause lateNs).press p = (n.pressSilenced p lateNs).press p := by
      simp [Node.stopPress_eq, Node.press]
    simp [this, hm, press]

/-! ### A load begins (R293) -/

/-- A load changes the window, the code measurement, the state and the record of the Press. -/
theorem Node.loadPress_eq (p : Nat) (counts : Bool) : ∃ (m : Node) (f : Press → Press),
    (∀ b < measAddr 3, m.word b = n.word b) ∧ n.loadPress p counts = (m.setPressState p 1).setPress p f := by
  simp only [Node.loadPress]
  refine ⟨_, _, fun b hb => ?_, rfl⟩
  have window := (Node.clearBytes_only rfl n (imageBase p) 256 (.refl .regs n)).word b
  split
  · exact (Node.word_extendMeas _ 3 _ hb).trans window
  · exact window

theorem Node.pressState_loadPress (p : Nat) (counts : Bool) : (n.loadPress p counts).pressState p = 1 := by
  obtain ⟨m, f, -, h⟩ := n.loadPress_eq p counts
  rw [h, Node.pressState, Node.rd, Node.word_setPress]
  exact m.pressState_setPressState p 1

theorem Node.word_loadPress (p : Nat) (counts : Bool) {b : Nat} (state : b ≠ (F.PRESS_STATE_STATE.at p).addr) (summary : b ≠ (pressFailed p).addr)
    (meas : b < measAddr 3) : (n.loadPress p counts).word b = n.word b := by
  obtain ⟨m, f, word, h⟩ := n.loadPress_eq p counts
  rw [h, Node.word_setPress, Node.word_setPressState _ _ _ state summary, word b meas]

theorem Node.lastCause_loadPress {p : Nat} (hp : p < 16) (counts : Bool) :
    (n.loadPress p counts).rd (F.PRESS_STATE_LAST_CAUSE.at p) = n.rd (F.PRESS_STATE_LAST_CAUSE.at p) := by
  obtain ⟨m, f, word, h⟩ := n.loadPress_eq p counts
  have meas : (F.PRESS_STATE_LAST_CAUSE.at p).addr < measAddr 3 := by simp only [Field.at, measAddr]; omega
  rw [h, Node.rd, Node.word_setPress, ← Node.rd, Node.lastCause_setPressState, Node.rd, word _ meas, ← Node.rd]

/-! ### A fault of a running Press (R292) -/

/-- A fault stops the Press, is counted and is recorded. -/
def Node.stoppedByFault (n : Node) (p cause lateNs : Nat) : Node :=
  ((n.stopPress p cause lateNs).count (CNT_PRS_FAULT p)).raise 0x0605 [p, cause]

/-- A fault leaves a Press failed. -/
def Node.leftFailed (n : Node) (p : Nat) : Node := ((n.setPressState p 5).raise 0x0606 [p]).addFault (.press p)

theorem Node.mem_addFault (c : FaultCause) : c ∈ (n.addFault c).faults := by
  unfold Node.addFault
  split
  · assumption
  · exact .head _

theorem Node.word_leftFailed {p b : Nat} (h : b ∉ pressStopWords p) : (n.leftFailed p).word b = n.word b := by
  obtain ⟨-, ⟨suppr, full⟩, -, state, summary, -⟩ := not_mem_pressStopWords_iff.1 h
  rw [Node.leftFailed, Node.word_addFault, Node.word_raise _ _ _ suppr full, Node.word_setPressState _ _ _ state summary]

theorem Node.word_autoReload {p b : Nat} (h : b ∉ pressStopWords p) (meas : b < measAddr 3) : (n.autoReload p).word b = n.word b := by
  obtain ⟨-, -, -, state, summary, -⟩ := not_mem_pressStopWords_iff.1 h
  exact Node.word_loadPress _ _ _ state summary meas

section
variable {p : Nat} (hp : p < 16) (cause lateNs : Nat)

theorem Node.autoUsed_stoppedByFault : (n.stoppedByFault p cause lateNs).autoUsed p = n.autoUsed p :=
  (Node.autoUsed_congr (by simp [Node.stoppedByFault]) (by simp [Node.stoppedByFault])
    (by simp [Node.stoppedByFault, Node.press])).trans (n.autoUsed_stopPress p cause lateNs)

theorem Node.cfBit_stoppedByFault (f : Field) : (n.stoppedByFault p cause lateNs).cfBit f = n.cfBit f := by
  have force : (n.stoppedByFault p cause lateNs).store.force = n.store.force :=
    Node.raise_only (pt := .force) rfl _ _ _ (Node.count_only rfl _ _ (Node.stopPress_only rfl n p cause lateNs (.refl ..)))
  simp [Node.cfBit, Node.cf, Node.forceWord, force]

/-- The fault counter is not the state word. -/
theorem Node.rd_count_prsFault {f : Field} (hf : f.addr = 0x600300 + 4 * p) : (n.count (CNT_PRS_FAULT p)).rd f = n.rd f := by
  rw [Node.rd, Node.word_count_ne _ _ (by simp only [CNT_PRS_FAULT]; omega), ← Node.rd]

include hp

theorem Node.pressState_stoppedByFault : (n.stoppedByFault p cause lateNs).pressState p = 3 := by
  rw [Node.stoppedByFault, Node.pressState_raise _ hp, Node.pressState, Node.rd_count_prsFault _ rfl]
  exact n.pressState_stopPress hp cause lateNs

theorem Node.lastCause_stoppedByFault : (n.stoppedByFault p cause lateNs).rd (F.PRESS_STATE_LAST_CAUSE.at p) = cause % 256 := by
  rw [Node.stoppedByFault, Node.lastCause_raise _ hp, Node.rd_count_prsFault _ rfl, Node.lastCause_stopPress _ hp]

theorem Node.counts_stoppedByFault : n.Counts (n.stoppedByFault p cause lateNs) (CNT_PRS_FAULT p) := by
  rw [Node.Counts, Node.stoppedByFault,
    Node.word_raise _ _ _ (by simp only [CNT_PRS_FAULT, CNT_CBK_SUPPR]; omega) (by simp only [CNT_PRS_FAULT, CNT_CBK_QOVF]; omega),
    Node.word_count, n.word_stopPress p cause lateNs (not_mem_pressStopWords hp (.inl rfl))]

theorem Node.slots_stoppedByFault :
    (n.stoppedByFault p cause lateNs).word F.SEC_STATUS_STATE_A.addr = n.word F.SEC_STATUS_STATE_A.addr := by
  rw [Node.stoppedByFault, Node.word_raise _ _ _ (by decide) (by decide), Node.word_count_ne _ _ (by simp only [CNT_PRS_FAULT]; omega),
    n.word_stopPress p cause lateNs (not_mem_pressStopWords hp (.inr rfl))]

theorem Node.pressState_leftFailed : (n.leftFailed p).pressState p = 5 := by
  rw [Node.leftFailed, Node.pressState, Node.rd, Node.word_addFault, ← Node.rd, ← Node.pressState, Node.pressState_raise _ hp,
    Node.pressState_setPressState]

theorem Node.lastCause_leftFailed : (n.leftFailed p).rd (F.PRESS_STATE_LAST_CAUSE.at p) = n.rd (F.PRESS_STATE_LAST_CAUSE.at p) := by
  rw [Node.leftFailed, Node.rd, Node.word_addFault, ← Node.rd, Node.lastCause_raise _ hp, Node.lastCause_setPressState]

/-- With no stop waiting, a fault leads to the automatic reload or to the failed state (R292). -/
theorem Node.pressFault_of_no_stopWaits (noStop : (n.press p).stopWaits = none) :
    n.pressFault p cause lateNs =
      if n.cfBit (F.PRESS_CFG_AUTO_RELOAD.at p) = true ∧ n.autoUsed p < 3 then (n.stoppedByFault p cause lateNs).autoReload p
      else (n.stoppedByFault p cause lateNs).leftFailed p := by
  have state := n.pressState_stoppedByFault hp cause lateNs
  have auto := n.cfBit_stoppedByFault cause lateNs (p := p) (F.PRESS_CFG_AUTO_RELOAD.at p)
  have used := n.autoUsed_stoppedByFault cause lateNs (p := p)
  simp only [Node.stoppedByFault] at state auto used
  simp [Node.pressFault, Node.stoppedByFault, Node.leftFailed, noStop, Node.waitedRequest, Node.when, state, auto, used]

theorem Node.lastCause_autoReload : (n.autoReload p).rd (F.PRESS_STATE_LAST_CAUSE.at p) = n.rd (F.PRESS_STATE_LAST_CAUSE.at p) :=
  Node.lastCause_loadPress _ hp true

section
variable (noStop : (n.press p).stopWaits = none)
include noStop

theorem Node.word_pressFault {b : Nat} (h : b ∉ pressStopWords p) (meas : b < measAddr 3) :
    (n.pressFault p cause lateNs).word b = (n.stoppedByFault p cause lateNs).word b := by
  rw [n.pressFault_of_no_stopWaits hp cause lateNs noStop]
  split
  · exact Node.word_autoReload _ h meas
  · exact Node.word_leftFailed _ h

theorem Node.lastCause_pressFault : (n.pressFault p cause lateNs).rd (F.PRESS_STATE_LAST_CAUSE.at p) = cause % 256 := by
  refine Eq.trans ?_ (n.lastCause_stoppedByFault hp cause lateNs)
  rw [n.pressFault_of_no_stopWaits hp cause lateNs noStop]
  split
  · exact Node.lastCause_autoReload _ hp
  · exact Node.lastCause_leftFailed _ hp

theorem Node.counts_pressFault : n.Counts (n.pressFault p cause lateNs) (CNT_PRS_FAULT p) :=
  (n.word_pressFault hp cause lateNs noStop (not_mem_pressStopWords hp (.inl rfl))
    (by simp only [CNT_PRS_FAULT, measAddr]; omega)).trans (n.counts_stoppedByFault hp cause lateNs)

theorem Node.slots_pressFault : (n.pressFault p cause lateNs).word F.SEC_STATUS_STATE_A.addr = n.word F.SEC_STATUS_STATE_A.addr :=
  (n.word_pressFault hp cause lateNs noStop (not_mem_pressStopWords hp (.inr rfl)) (by decide)).trans (n.slots_stoppedByFault hp cause lateNs)

theorem Node.pressFault_fails (h : ¬(n.cfBit (F.PRESS_CFG_AUTO_RELOAD.at p) = true ∧ n.autoUsed p < 3)) :
    (n.pressFault p cause lateNs).pressState p = 5 ∧ FaultCause.press p ∈ (n.pressFault p cause lateNs).faults := by
  rw [n.pressFault_of_no_stopWaits hp cause lateNs noStop, if_neg h]
  exact ⟨Node.pressState_leftFailed _ hp, Node.mem_addFault _ _⟩

theorem Node.pressFault_reloads (auto : n.cfBit (F.PRESS_CFG_AUTO_RELOAD.at p) = true) (used : n.autoUsed p < 3) :
    (n.pressFault p cause lateNs).pressState p = 1 := by
  rw [n.pressFault_of_no_stopWaits hp cause lateNs noStop, if_pos ⟨auto, used⟩]
  exact Node.pressState_loadPress _ p true

end

end

/-! ### A fault outside a trial (R524) -/

theorem Node.slotIn_congr {n m : Node} (h : m.word F.SEC_STATUS_STATE_A.addr = n.word F.SEC_STATUS_STATE_A.addr) (v : Nat) :
    m.slotIn v = n.slotIn v := by
  have state : ∀ k, m.slotState k = n.slotState k := fun k => by
    have : (slotField k).addr = F.SEC_STATUS_STATE_A.addr := by unfold slotField; split <;> rfl
    rw [Node.slotState, Node.rd, this, h, ← this]; rfl
  simp only [Node.slotIn, state]

/-- Where no slot is on trial, there is nothing to fall back from. -/
theorem Node.trialPress_of_no_trial (h : n.slotIn 3 = none) (p : Nat) : n.trialPress p = n := by
  simp [Node.trialPress, Node.fallBack, Node.when, h]

/-! ### PRESS_FAULT with an SRAM error (R270) -/

theorem exec_pressFault (p : Fin 16) (cause : PressFaultCause) (lateNs : Nat) (s : State) :
    exec (.pressFault p cause lateNs) s = execPressFault p cause lateNs s := rfl

section
variable (s : State) (p : Fin 16) (lateNs : Nat) (powered : s.node.powered = true) (island : s.node.islandDown 3 = false)
include powered island

theorem exec_pressFault_sramCorrected :
    exec (.pressFault p .sramCorrected lateNs) s = .next { s with node := s.node.count (CNT_SRAM_CORR p) } := by
  rw [exec_pressFault]
  unfold execPressFault State.upd
  simp only [powered, island]
  rfl

theorem exec_pressFault_sram_of_running (running : s.node.pressState p = 2) :
    exec (.pressFault p .sram lateNs) s = .next { s with node := (s.node.pressFault p 3 lateNs).trialPress p } := by
  rw [exec_pressFault]
  unfold execPressFault State.upd
  simp only [powered, island, Node.when, Bool.not_false, Bool.and_self, if_true]
  rw [if_neg nofun, if_pos running]

end

/-- Settles O56. A corrected error is only counted; an uncorrectable one is `Node.pressFault` with cause 3, whose two outcomes are
`Node.pressFault_fails` and `Node.pressFault_reloads`, and without a trial nothing follows it. -/
theorem pressSramErrors : Obligations.PressSramErrors := by
  intro s p powered island
  refine ⟨fun ns => ?_, fun ns running noStop noTrial => ?_⟩
  · exact ⟨_, exec_pressFault_sramCorrected s p ns powered island, rfl, s.node.word_count _⟩
  · have trial : (s.node.pressFault p 3 ns).trialPress p = s.node.pressFault p 3 ns :=
      Node.trialPress_of_no_trial _ ((Node.slotIn_congr (s.node.slots_pressFault p.isLt 3 ns noStop) 3).trans noTrial) p
    refine ⟨_, exec_pressFault_sram_of_running s p ns powered island running, rfl, ?_⟩
    simp only [trial]
    refine ⟨s.node.lastCause_pressFault p.isLt 3 ns noStop, s.node.counts_pressFault p.isLt 3 ns noStop, fun clear => ?_, fun auto used => ?_⟩
    · exact s.node.pressFault_fails p.isLt 3 ns noStop (by simp [clear])
    · exact s.node.pressFault_reloads p.isLt 3 ns noStop auto used

end Sys2Proof.Machine
end
